-- ==== Sys2Proof/Word.lean ====
section
/-! DEFINITION. The plain types every other file uses: bytes, the sparse map that holds anything indexed, stored time. -/

namespace Sys2Proof

/-- A byte of a packet, of a memory or of a received frame (R10). -/
abbrev Byte := BitVec 8

/-- A map from indices to values in one canonical form: indices strictly rising, no entry equal to the value an
unlisted index has. Memories, register files and tables are all held so, which keeps State plain data. -/
abbrev Sparse (α : Type) := List (Nat × α)

/-- The stored time layout of R111: seconds (48 bits), nanoseconds (32 bits), fraction in 2^-16 ns (16 bits). -/
structure StoredTime where
  sec : Nat := 0
  ns : Nat := 0
  frac : Nat := 0
  deriving DecidableEq, Repr

/-- A rate N/D frames per second (R70, R494). -/
structure Rate where
  n : Nat := 0
  d : Nat := 0
  deriving DecidableEq, Repr

/-- A rectangle: crop or destination (R166). -/
structure Rect where
  x : Int := 0
  y : Int := 0
  w : Nat := 1
  h : Nat := 1
  deriving DecidableEq, Repr

/-- M1 or M3 (R163, R500): nine coefficients in row order, three input and three output offsets. -/
structure Matrix1 where
  coef : List Int := [4096, 0, 0, 0, 4096, 0, 0, 0, 4096]
  offIn : List Int := [0, 0, 0]
  offOut : List Int := [0, 0, 0]
  deriving DecidableEq, Repr, Inhabited

/-- The identity M2 of R654: 16,384 on the diagonal. -/
abbrev matrix2Identity : List Int := [16384, 0, 0, 0, 16384, 0, 0, 0, 16384]

end Sys2Proof
end

