-- ==== Sys2Proof/Params.lean ====
section
/-! DEFINITION. The parameter blocks of the commands (R481 to R504) and the operands that the environment supplies to events:
one structure per packet layout, every field a plain number. -/

namespace Sys2Proof

/-- The command header of R481 with its source: 0–3 for CR0–CR3, 4 for the management mailbox. `launch` holds the launch
time of R482 and is meaningful only when `timed` is set. -/
structure Hdr where
  src : Nat := 0
  tag : Nat := 0
  timed : Bool := false
  silent : Bool := false
  fence : Bool := false
  genCheck : Bool := false
  noApplied : Bool := false
  gen : Nat := 0
  launch : StoredTime := {}
  deriving DecidableEq, Repr

/-- DOMAIN_SET (0x0201). -/
structure DomainSetP where
  domain : Nat
  enable : Nat
  domainNumber : Nat
  primary : Nat
  backup : Nat
  unicast : Nat
  gmAddr : Nat
  holdover : Nat
  deriving DecidableEq, Repr

/-- TP_CONFIG (0x0203). -/
structure TpConfigP where
  jump : Nat
  slew : Nat
  acquireAuto : Nat
  autoSelect : Nat
  revert : Nat
  deriving DecidableEq, Repr

/-- EVT_OUT_SET (0x0206); the fields after the pin are the settings of R83. -/
structure EvtOutP where
  pin : Nat := 0
  mode : Nat := 0
  polarity : Nat := 0
  start : StoredTime := {}
  period : StoredTime := {}
  width : Nat := 0
  count : Nat := 0
  rate : Rate := {}
  offset : Int := 0
  head : Nat := 0
  deriving DecidableEq, Repr

/-- PORT_SET (0x0302). -/
structure PortSetP where
  port : Nat
  mac : Nat
  ip4 : Nat
  ip4Len : Nat
  ip6 : List Nat
  untagged : Nat
  vidCount : Nat
  vids : List Nat
  deriving DecidableEq, Repr

/-- The Leg encoding of R494. -/
structure Leg where
  port : Nat := 0
  family : Nat := 4
  dst : Nat := 0
  udp : Nat := 0
  named : Nat := 0
  src : Nat := 0
  vlan : Nat := 0
  dscp : Nat := 0
  ttl : Nat := 0
  pcp : Nat := 0
  deriving DecidableEq, Repr

/-- The format block of R499, all three kinds in one record: video fields, audio fields, ancillary rate. -/
structure Format where
  width : Nat := 0
  height : Nat := 0
  sampling : Nat := 0
  depth : Nat := 0
  scanning : Nat := 0
  colorimetry : Nat := 0
  tcs : Nat := 0
  range : Nat := 0
  packing : Nat := 0
  sender : Nat := 0
  rate : Rate := {}
  channels : Nat := 0
  packetTime : Nat := 0
  ancRate : Nat := 0
  deriving DecidableEq, Repr

/-- FLOW_SET (0x0401). -/
structure FlowSetP where
  kind : Nat
  index : Nat
  enable : Nat
  legA : Leg
  legBPresent : Nat
  legB : Leg
  payloadType : Nat
  ssrcAny : Nat
  ssrc : Nat
  format : Format
  slotCount : Nat
  descriptors : Nat
  bases : List Nat
  ringLength : Nat
  skew : Nat
  bucket : Nat
  activity : Nat
  deriving DecidableEq, Repr

/-- TX_SET (0x0410). -/
structure TxSetP where
  kind : Nat
  index : Nat
  enable : Nat
  legA : Leg
  legBPresent : Nat
  legB : Leg
  extended : Nat
  tro : Nat
  audioSource : Nat
  audioIndex : Nat
  deriving DecidableEq, Repr

/-- The Destination encoding of R494: kind 0 head layer (index 16 × head + layer), kind 1 transmit output. -/
structure Dest where
  kind : Nat := 0
  index : Nat := 0
  deriving DecidableEq, Repr

/-- ROUTE_SET (0x0501). -/
structure RouteSetP where
  dest : Dest
  kind : Nat
  source : Nat
  transition : Nat
  frames : Nat
  switchWait : Nat
  deriving DecidableEq, Repr

/-- OUTPUT_SET (0x0502). -/
structure OutputSetP where
  output : Nat
  width : Nat
  height : Nat
  rate : Rate
  format : Format
  latency : Nat
  slotCount : Nat
  bases : List Nat
  fill : Nat
  blend : Nat
  lossAction : Nat
  hold : Nat
  crop : Rect
  bypass : Nat
  m1Mode : Nat
  m1 : Matrix1
  m2 : List Int
  m3 : Matrix1
  lutBuffer : Nat
  deriving DecidableEq, Repr

/-- LAYER_SET (0x0601). -/
structure LayerSetP where
  head : Nat
  layer : Nat
  enable : Nat
  z : Nat
  crop : Rect
  dest : Rect
  g : Nat
  fill : Nat
  views : Nat
  blend : Nat
  lossAction : Nat
  hold : Nat
  bypass : Nat
  m1Mode : Nat
  m1 : Matrix1
  m2 : List Int
  deriving DecidableEq, Repr

/-- LAYER_PRESENT (0x0603). -/
structure PresentP where
  head : Nat
  layer : Nat
  base : Nat
  pitch : Nat
  width : Nat
  height : Nat
  format : Nat
  ordered : Nat
  deriving DecidableEq, Repr

/-- AUDIO_HEAD (0x0C02). -/
structure AudioHeadP where
  head : Nat
  layer : Nat
  trim : Int
  tdmEnable : Nat
  tdmFormat : Nat
  map : List Nat
  deriving DecidableEq, Repr

/-- HEAD_CONFIG (0x0701). -/
structure HeadConfigP where
  head : Nat
  w : Nat
  h : Nat
  rate : Rate
  epochOffset : Int
  vtotal : Nat
  scanMode : Nat
  transitionCode : Nat
  lead : Nat
  latency : Nat
  low : Nat
  crit : Nat
  linkRate : Nat
  psBase : Nat
  composedBase : Nat
  followed : Nat
  lineF : Nat
  followMin : Rate
  deriving DecidableEq, Repr

/-- HEAD_SR (0x0705). -/
structure HeadSrP where
  head : Nat
  command : Nat
  mode : Nat
  idle : Nat
  period : Nat
  holdLimit : Nat
  deriving DecidableEq, Repr

/-- HEAD_PICTURE (0x0706). -/
structure HeadPictureP where
  head : Nat
  background : Nat
  peak : Nat
  lutBuffer : Nat
  deriving DecidableEq, Repr

/-- HEAD_GATE (0x0707). -/
structure HeadGateP where
  head : Nat
  phases : Nat
  polarity : Nat
  gckDelay : Nat
  gateGuard : Nat
  flush : Nat
  parkHold : Nat
  deriving DecidableEq, Repr

/-- POWER_SEQ_SET (0x0803). -/
structure PowerSeqP where
  head : Nat
  penUsed : Nat
  vcomSettle : Nat
  penDelay : Nat
  pgTimeout : Nat
  trainDelay : Nat
  wdHold : Nat
  penGap : Nat
  deriving DecidableEq, Repr

/-- DRIVER_SET (0x0804). -/
structure DriverSetP where
  driver : Nat
  head : Nat
  first : Nat
  ch : Nat
  lanes : Nat
  rev : Nat
  vendor : List Byte
  deriving DecidableEq, Repr

/-- SETTINGS_LOAD (0x0807): the pipeline settings of R266. -/
structure SettingsP where
  head : Nat
  gammaBypass : Nat
  muraEnable : Nat
  odEnable : Nat
  depth : Nat
  resScale : Nat
  restLevel : Nat
  thermMin : Nat
  thermMax : Nat
  faultBand : Nat
  thresholds : List Int
  settle : List Nat
  deriving DecidableEq, Repr

/-- VCOM_SET (0x0901): the settings of R285. -/
structure VcomP where
  head : Nat
  v0 : Nat
  vmin : Nat
  vmax : Nat
  senseEnable : Nat
  senseTarget : Nat
  senseDelay : Nat
  senseN : Nat
  senseLimit : Nat
  senseScale : Int
  trimGain : Int
  trimStep : Nat
  deriving DecidableEq, Repr

/-- One view of VIEW_SET (R334). -/
structure ViewP where
  kind : Nat := 0
  y0 : Nat := 0
  y1 : Nat := 0
  s : Nat := 0
  x : Nat := 0
  k : Nat := 0
  lh : Nat := 0
  deriving DecidableEq, Repr

/-- VIEW_SET and VIEW_TEST (0x0A01, 0x0A03). -/
structure ViewSetP where
  head : Nat
  views : List ViewP
  deriving DecidableEq, Repr

/-- CHECK_SET (0x0B01). -/
structure CheckSetP where
  head : Nat
  check : Nat
  enable : Nat
  tap : Nat
  x0 : Nat
  y0 : Nat
  cw : Nat
  ch : Nat
  view : Nat
  e : Nat
  mode : Nat
  expect : Nat
  missLimit : Nat
  action : Nat
  deriving DecidableEq, Repr

/-- YOYO_SET (0x0F03). -/
structure YoyoP where
  unit : Nat := 0
  enable : Nat := 0
  period : Nat := 0
  window : Nat := 0
  compare : Nat := 0
  action : Nat := 0
  watch : Nat := 0
  deriving DecidableEq, Repr

/-- The dataset a PTP Announce carries, in the order the default BMCA compares it (R50, R51). -/
structure Announce where
  priority1 : Nat := 255
  clockClass : Nat := 255
  accuracy : Nat := 255
  variance : Nat := 65535
  priority2 : Nat := 255
  identity : Nat := 0
  utcOffset : Int := 0
  deriving DecidableEq, Repr

/-- A PTP message as the hardware hands it to firmware, with its stamps in 2^-16 ns (R51, R55).
`kind`: 0 Announce, 1 Sync (with its origin time t1 and receive stamp t2), 2 Delay_Resp (t3 sent, t4 received),
3 ST 2059-2 metadata TLV, 4 management. -/
structure PtpMsg where
  kind : Nat
  announce : Announce := {}
  source : Nat := 0
  t1 : Nat := 0
  t2 : Nat := 0
  t3 : Nat := 0
  t4 : Nat := 0
  metadata : List Byte := []
  deriving DecidableEq, Repr

/-- One bus matrix transaction (R522): master, control address, and for a write its data and byte enables. -/
structure MatrixP where
  master : Nat
  addr : Nat
  write : Bool
  len : Nat
  data : List Byte
  deriving DecidableEq, Repr

/-- A Skomo image as the flash holds it in one slot, or as it was pushed (R515). -/
abbrev Image := List Byte

/-- A packet on a driver lane as a Rennex driver sees it (R356, R372): the header fields, the body and whether its CRC
was correct and no EBP ended it. -/
structure DlPacket where
  type : Nat
  role : Bool
  gen : Nat
  frame : Nat
  line : Nat
  body : List Byte
  good : Bool
  deriving DecidableEq, Repr

/-- One lane's entry in a REPORT (R381, R382). -/
structure EyeReport where
  eyeH : Nat := 0
  eyeV : Nat := 0
  codeErr : Nat := 0
  deriving DecidableEq, Repr

/-- The payload of a REPORT (R381). -/
structure ReportP where
  sel : Nat := 0
  lockA : Bool := false
  lockB : Bool := false
  configOk : Bool := false
  mismatch : Bool := false
  gen : Nat := 0
  seq : Nat := 0
  crcErr : Nat := 0
  missed : Nat := 0
  lane0A : EyeReport := {}
  lane1A : EyeReport := {}
  lane0B : EyeReport := {}
  lane1B : EyeReport := {}
  deriving DecidableEq, Repr

/-- A HELLO message's payload (R447). -/
structure HelloP where
  uid : Nat
  prefer : Nat
  pairState : Nat
  gen : Nat
  headState : Nat
  port : Nat
  baton : Bool
  deriving DecidableEq, Repr

/-- A ROW_DATA message's payload (R447). -/
structure RowDataP where
  frame : Nat
  row : Nat
  times : List Byte
  flags : List Byte
  panel : List Byte
  crc : Nat
  deriving DecidableEq, Repr

/-- A debounced input (R418, R635, R81). -/
inductive DebInput where
  | pfail
  | pgood (head enable : Nat)
  | evtIn (pin : Nat)
  | vgood
  | batonIn
  deriving DecidableEq, Repr

/-- The name of a work item (R199): a C- or P-item of a head, or a T-item of an output; frame, tile row or 8-line band,
and run. -/
inductive ItemKind where
  | c | p | t
  deriving DecidableEq, Repr

/-- Which work item: its kind, head or output, frame, tile row and run (R189, R199). -/
structure ItemKey where
  kind : ItemKind := .c
  owner : Nat := 0
  frame : Nat := 0
  row : Nat := 0
  run : Nat := 0
  deriving DecidableEq, Repr

end Sys2Proof
end

