-- ==== Sys2Proof/Syntax.lean ====
section
/-! DEFINITION. The commands and events of the device: one constructor per row of the opcode table, in the table's order.
A command of R494 to R505 carries its header; an event carries what the environment supplies to it. -/

namespace Sys2Proof

inductive Instr where
  /-- NOP (R486). Command 0x0100 that does nothing and replies OK. -/
  | nop (h : Hdr)
  /-- GET_INFO (R486). Command 0x0101 that returns SYS_ID, firmware release, unique ID, debug lock and features. -/
  | getInfo (h : Hdr)
  /-- EVENT_CTL (R479). Command 0x0102 that enables an event code, routes it to an MSI-X vector from 4 to 63 and sets its management copy. -/
  | eventCtl (h : Hdr) (code : Nat) (enable : Nat) (vector : Nat) (mgt : Nat)
  /-- FUNC_RESET (R496). Command 0x0103 that starts the reset of one function; the management core executes it and replies when the reset completes. -/
  | funcReset (h : Hdr) (fn : Nat)
  /-- LOG_READ (R628). Command 0x0104 that returns 1 to 14 entries of the fault log. -/
  | logRead (h : Hdr) (first : Nat) (count : Nat)
  /-- DOMAIN_SET (R52). Command 0x0201 that enables or disables a PTP domain and sets its parameters; an enabled domain restarts in LISTENING. -/
  | domainSet (h : Hdr) (p : DomainSetP)
  /-- DOMAIN_STATUS (R50). Command 0x0202 that returns the state, grandmaster, offset, path delay, rate and metadata of a PTP domain. -/
  | domainStatus (h : Hdr) (d : Nat)
  /-- TP_CONFIG (R62). Command 0x0203 that sets the jump limit, slew rate, ACQUIRE_AUTO, AUTO_SELECT and REVERT. -/
  | tpConfig (h : Hdr) (p : TpConfigP)
  /-- TP_SELECT (R65). Command 0x0204 that selects the domain that TP follows; while TRACKING it is refused unless the new domain is LOCKED and within the jump limit. -/
  | tpSelect (h : Hdr) (d : Nat)
  /-- TP_STEP (R68). Command 0x0205 that steps TP to the selected domain or to a given value on the next tick and increments the TP generation. -/
  | tpStep (h : Hdr) (source : Nat) (value : StoredTime)
  /-- EVT_OUT_SET (R83). Command 0x0206 that sets the mode and parameters of an EVT_OUT pin, taking effect after any pulse in progress. -/
  | evtOutSet (h : Hdr) (p : EvtOutP)
  /-- EVT_IN_SET (R80). Command 0x0207 that sets the edges, minimum pulse and report of an EVT_IN input. -/
  | evtInSet (h : Hdr) (pin : Nat) (edges : Nat) (minPulse : Nat) (report : Nat)
  /-- EVT_IN_READ (R82). Command 0x0208 that returns the entries of an EVT_IN capture FIFO and removes them. -/
  | evtInRead (h : Hdr) (pin : Nat)
  /-- LAUNCH_CANCEL (R498). Command 0x0209 that removes every matching entry from a launch queue and posts CMD_DROPPED with cause CANCELLED for each. -/
  | launchCancel (h : Hdr) (queue : Nat) (tag : Nat)
  /-- QUAD_SET (R87). Command 0x0301 that sets the mode and RS-FEC mask of a lane quad, taking every port of the quad down. -/
  | quadSet (h : Hdr) (quad : Nat) (mode : Nat) (fec : Nat)
  /-- PORT_SET (R99). Command 0x0302 that sets the MAC, IPv4 and IPv6 addresses and the VLAN acceptance of a port. -/
  | portSet (h : Hdr) (p : PortSetP)
  /-- PORT_COUNTERS (R127). Command 0x0303 that returns, and optionally clears, the counters of a port. -/
  | portCounters (h : Hdr) (port : Nat) (clear : Nat)
  /-- PORT_STATUS (R91). Command 0x0304 that returns the up, fault and lane lock status of a port. -/
  | portStatus (h : Hdr) (port : Nat)
  /-- FLOW_SET (R102). Command 0x0401 that writes a receive flow-table entry, with its legs, format, buffers and limits. -/
  | flowSet (h : Hdr) (p : FlowSetP)
  /-- FLOW_ENABLE (R105). Command 0x0402 that enables or disables a receive or transmit flow. -/
  | flowEnable (h : Hdr) (kind : Nat) (index : Nat) (enable : Nat)
  /-- FLOW_COUNTERS (R127). Command 0x0403 that returns, and optionally clears, the leg and flow counters of a flow. -/
  | flowCounters (h : Hdr) (kind : Nat) (index : Nat) (clear : Nat)
  /-- FLOW_STATUS (R128). Command 0x0404 that returns the leg states, open frames and newest COMPLETE FRAME_TIME of a receive flow. -/
  | flowStatus (h : Hdr) (kind : Nat) (index : Nat)
  /-- TX_SET (R136). Command 0x0410 that sets a transmit flow, refused when the port admission limit would be exceeded. -/
  | txSet (h : Hdr) (p : TxSetP)
  /-- ROUTE_SET (R150). Command 0x0501 that changes the route of a destination with a transition, at a frame boundary or launch time. -/
  | routeSet (h : Hdr) (p : RouteSetP)
  /-- OUTPUT_SET (R176). Command 0x0502 that sets the raster, rate, format, conversion and slots of a transmit output. -/
  | outputSet (h : Hdr) (p : OutputSetP)
  /-- ROUTE_STATUS (R146). Command 0x0503 that returns the route, transition state, selected FRAME_TIME and counters of a destination. -/
  | routeStatus (h : Hdr) (dest : Dest)
  /-- LAYER_SET (R166). Command 0x0601 that sets the enable, Z, rectangles, alpha, fill, views and conversion of a head layer. -/
  | layerSet (h : Hdr) (p : LayerSetP)
  /-- LAYER_COEF (R162). Command 0x0602 that loads, or sets to AUTO, the scaler coefficient set of one axis of a destination. -/
  | layerCoef (h : Hdr) (dest : Dest) (axis : Nat) (auto : Nat) (buffer : Nat)
  /-- LAYER_PRESENT (R171). Command 0x0603 that presents a graphics buffer to a host graphics layer and takes a lease on its range. -/
  | layerPresent (h : Hdr) (p : PresentP)
  /-- LEASE_POLICY (R174). Command 0x0604 that sets the DROP or LAND lease policy of a head. -/
  | leasePolicy (h : Hdr) (head : Nat) (policy : Nat)
  /-- LEASE_STATUS (R172). Command 0x0605 that returns the leases held, LEASE_DROP and breaches of a head. -/
  | leaseStatus (h : Hdr) (head : Nat)
  /-- AUDIO_ASSOC (R178). Command 0x0C01 that associates a video source with an audio flow and a channel map. -/
  | audioAssoc (h : Hdr) (source : Nat) (flow : Nat) (map : List Nat)
  /-- AUDIO_HEAD (R181). Command 0x0C02 that sets a head's audio layer, lip-sync trim and TDM port, and returns the delay d. -/
  | audioHead (h : Hdr) (p : AudioHeadP)
  /-- AUDIO_TX (R178). Command 0x0C03 that makes a transmit audio flow follow an output or an audio flow. -/
  | audioTx (h : Hdr) (flow : Nat) (follows : Nat) (index : Nat) (map : List Nat)
  /-- AUDIO_STATUS (R180). Command 0x0C04 that returns AUDIO_GAP and the delay of a head or transmit flow. -/
  | audioStatus (h : Hdr) (id : Nat)
  /-- HEAD_CONFIG (R304). Command 0x0701 that configures a head's raster, timing, watermarks and buffers, allotting tiles and a drive ring, or makes a timing change of a scanning head. -/
  | headConfig (h : Hdr) (p : HeadConfigP)
  /-- HEAD_UNCONFIG (R188). Command 0x0702 that unconfigures an OFF or PARKED head and frees its tile range and drive ring. -/
  | headUnconfig (h : Hdr) (head : Nat)
  /-- HEAD_START (R311). Command 0x0703 that starts a PARKED head, preparing the ledger and scanning from the first frame latched at least 100 µs later. -/
  | headStart (h : Hdr) (head : Nat)
  /-- HEAD_STOP (R316). Command 0x0704 that stops a head through its completion frame and a balancing frame, then parks it. -/
  | headStop (h : Hdr) (head : Nat)
  /-- HEAD_SR (R327). Command 0x0705 that sets the self-refresh mode and timers of a head and commands entry or exit. -/
  | headSr (h : Hdr) (p : HeadSrP)
  /-- HEAD_PICTURE (R164). Command 0x0706 that sets a head's background, peak luminance and TLUT and ELUT. -/
  | headPicture (h : Hdr) (p : HeadPictureP)
  /-- HEAD_GATE (R385). Command 0x0707 that stores a head's gate phases, polarity, delays, FLUSH and PARK_HOLD for the next start. -/
  | headGate (h : Hdr) (p : HeadGateP)
  /-- WARMUP_END (R297). Command 0x0708 that ends a warm-up after the next frame with an even count. -/
  | warmupEnd (h : Hdr) (head : Nat)
  /-- HEAD_STATUS (R310). Command 0x0709 that returns a head's state, frame, band and skip and abandonment counts. -/
  | headStatus (h : Hdr) (head : Nat)
  /-- PANEL_WINDUP (R419). Command 0x0801 that starts the wind-up of an OFF head. -/
  | panelWindup (h : Hdr) (head : Nat)
  /-- PANEL_POWERDOWN (R423). Command 0x0802 that powers a head's panel down, stopping it first if it scans. -/
  | panelPowerdown (h : Hdr) (head : Nat)
  /-- POWER_SEQ_SET (R417). Command 0x0803 that stores a head's panel power sequence for the next wind-up or wind-down. -/
  | powerSeqSet (h : Hdr) (p : PowerSeqP)
  /-- DRIVER_SET (R349). Command 0x0804 that stores the head, columns, channels, lanes, reverse and vendor bytes of a Rennex driver. -/
  | driverSet (h : Hdr) (p : DriverSetP)
  /-- DRIVER_RETRAIN (R369). Command 0x0805 that takes a driver to TRAIN at the link rate and completes when it reaches UP. -/
  | driverRetrain (h : Hdr) (driver : Nat)
  /-- TABLE_LOAD (R263). Command 0x0806 that validates a panel table from the central store and copies it into the shadow set. -/
  | tableLoad (h : Hdr) (head : Nat) (table : Nat) (index : Nat) (buffer : Nat)
  /-- SETTINGS_LOAD (R266). Command 0x0807 that writes the pipeline settings into the shadow set. -/
  | settingsLoad (h : Hdr) (p : SettingsP)
  /-- ACTIVATE (R265). Command 0x0808 that makes the shadow panel set active at the next latch point. -/
  | activate (h : Hdr) (head : Nat)
  /-- MURA_SWAP (R236). Command 0x0809 that makes the inactive mura buffer active at a latch point. -/
  | muraSwap (h : Hdr) (head : Nat) (base : Nat)
  /-- PANEL_STATUS (R244). Command 0x080A that returns the panel temperature, band, THERM_INVALID and the link state of each driver. -/
  | panelStatus (h : Hdr) (head : Nat)
  /-- VCOM_SET (R285). Command 0x0901 that sets the VCOM loop settings of a head for the next trim instant. -/
  | vcomSet (h : Hdr) (p : VcomP)
  /-- LEDGER_SET (R280). Command 0x0902 that sets the ALLOWED pattern mask, WARM_TIME and WARM_CODE of a head. -/
  | ledgerSet (h : Hdr) (head : Nat) (allowed : Nat) (warmTime : Nat) (warmCode : Nat)
  /-- LEDGER_STATS (R301). Command 0x0903 that returns per-frame ledger statistics and VCOM state of a head. -/
  | ledgerStats (h : Hdr) (head : Nat)
  /-- LEDGER_SNAPSHOT (R502). Command 0x0904 that copies the panel state as committed in a named frame to a host buffer. -/
  | ledgerSnapshot (h : Hdr) (head : Nat) (frame : Nat) (buffer : Nat) (size : Nat)
  /-- LEDGER_TABLE_READ (R502). Command 0x0905 that copies rows of the row time table or row check table to a buffer. -/
  | ledgerTableRead (h : Hdr) (head : Nat) (table : Nat) (first : Nat) (rows : Nat) (buffer : Nat)
  /-- LEDGER_CLEAR (R302). Command 0x0906 that clears the ledger of a head at each row's next commit. -/
  | ledgerClear (h : Hdr) (head : Nat)
  /-- VIEW_SET (R338). Command 0x0A01 that sets a view set after the feasibility test over every band. -/
  | viewSet (h : Hdr) (p : ViewSetP)
  /-- VIEW_CLEAR (R341). Command 0x0A02 that leaves a view set for another scan mode as a timing change. -/
  | viewClear (h : Hdr) (head : Nat) (mode : Nat)
  /-- VIEW_TEST (R338). Command 0x0A03 that runs the feasibility test on a view set without changing anything. -/
  | viewTest (h : Hdr) (p : ViewSetP)
  /-- CHECK_SET (R342). Command 0x0B01 that sets a CRC check rectangle of a head. -/
  | checkSet (h : Hdr) (p : CheckSetP)
  /-- CHECK_READ (R344). Command 0x0B02 that returns the latest result of a check rectangle. -/
  | checkRead (h : Hdr) (head : Nat) (check : Nat)
  /-- PAIR_SET (R659). Command 0x0D01 that sets ENABLE, PREFER, AUTO_HANDOVER and the own port of the pair logic. -/
  | pairSet (h : Hdr) (enable : Nat) (prefer : Nat) (auto : Nat) (port : Nat)
  /-- PAIR_HANDOVER (R464). Command 0x0D02 that starts a hand-over of the baton to a HOT standby. -/
  | pairHandover (h : Hdr)
  /-- PAIR_REJOIN (R442). Command 0x0D03 that takes an UNSYNCED standby back to JOINING. -/
  | pairRejoin (h : Hdr)
  /-- PAIR_STATUS (R442). Command 0x0D04 that returns the pair state, generation, baton and pair counters. -/
  | pairStatus (h : Hdr)
  /-- NVS_READ (R503). Command 0x0E01 that reads up to 64 bytes of an NVS page, wrapping within the page. -/
  | nvsRead (h : Hdr) (page : Nat) (offset : Nat) (count : Nat)
  /-- NVS_WRITE (R545). Command 0x0E02 that binds, fills and commits the page buffer for a raw page and replies after the commit. -/
  | nvsWrite (h : Hdr) (page : Nat) (offset : Nat) (data : List Byte)
  /-- RECORD_READ (R556). Command 0x0E03 that returns the copy in use of a record, or zeros for an absent record. -/
  | recordRead (h : Hdr) (id : Nat)
  /-- RECORD_WRITE (R557). Command 0x0E04 that writes the copy not in use of a host record, reads it back and makes it the copy in use. -/
  | recordWrite (h : Hdr) (id : Nat) (data : List Byte)
  /-- COUNTER_READ (R562). Command 0x0E05 that returns the value of a wear-spreading counter. -/
  | counterRead (h : Hdr) (c : Nat)
  /-- PD_SET (R567). Command 0x0F01 that requests a power domain state through the sequencer. -/
  | pdSet (h : Hdr) (domain : Nat) (state : Nat)
  /-- OP_SET (R587). Command 0x0F02 that changes the operating point through the sequencer. -/
  | opSet (h : Hdr) (op : Nat)
  /-- YOYO_SET (R580). Command 0x0F03 that sets yo-yo mode of a network port, the string link, a TDM port or the thermal sensors. -/
  | yoyoSet (h : Hdr) (p : YoyoP)
  /-- POWER_STATUS (R566). Command 0x0F04 that returns the domain states, operating point, PD_IGNORED and sensor temperatures. -/
  | powerStatus (h : Hdr)
  /-- TILE_READ (R192). Command 0x1001 that returns current tile records. -/
  | tileRead (h : Hdr) (index : Nat) (count : Nat)
  /-- ENGINE_COUNTERS (R212). Command 0x1002 that returns the steal and failed-claim counters of a cluster. -/
  | engineCounters (h : Hdr) (cluster : Nat)
  /-- MEM_INJECT (R537). Command 0x1003 that marks a store or SRAM word so that its next read reports one or two bit errors. -/
  | memInject (h : Hdr) (memory : Nat) (addr : Nat) (bits : Nat)
  /-- COMMAND_ACCEPT (R475). The device takes the next complete packet from the rings and mailbox in turn, tests it and gives it an acceptance number. -/
  | commandAccept
  /-- REG_WRITE (R507). Management-port operation 0x01 that writes BAR0 registers once all four bytes of each have arrived. -/
  | regWrite (offset : Nat) (data : List Byte)
  /-- REG_READ (R506). Management-port operation 0x02 that reads `count` BAR0 registers from an offset. -/
  | regRead (offset : Nat) (count : Nat)
  /-- MBX_WRITE (R508). Management-port operation 0x10 that writes bytes of the command mailbox. -/
  | mbxWrite (offset : Nat) (data : List Byte)
  /-- MBX_SUBMIT (R508). Management-port operation 0x11 that enters the mailbox packet for acceptance and sets PENDING. -/
  | mbxSubmit
  /-- MBX_READ (R508). Management-port operation 0x12 that reads bytes of the reply buffer. -/
  | mbxRead (offset : Nat) (count : Nat)
  /-- EVT_READ (R510). Management-port operation 0x13 that reads and removes the oldest queued event. -/
  | evtRead
  /-- STATUS (R506). Management-port operation 0x14 that returns the mailbox state, events queued and events lost, clearing the lost count. -/
  | status
  /-- MAILBOX_TIMEOUT (R509). A mailbox command not accepted within 100 ms is answered TIMEOUT by the management core. -/
  | mailboxTimeout
  /-- MGT_ADDRESS_MATCH (R584). A matching management-port address wakes MGT, which acknowledges within the clock stretch. -/
  | mgtAddressMatch (addr : Nat)
  /-- DOORBELL (R472). A write of a command ring's PI makes the packets it covers available to the device. -/
  | doorbell (ring : Nat) (pi : Nat)
  /-- RING_CI_WRITE (R471). Host software writes the CI of a reply ring or the event ring, freeing slots. -/
  | ringCiWrite (ring : Nat) (ci : Nat)
  /-- RING_CFG_WRITE (R607). A write of RING_CFG sets the size and enable of a ring; setting ENABLE zeroes PI and CI. -/
  | ringCfgWrite (ring : Nat) (value : Nat)
  /-- REPLY_WRITE (R474). The device writes a reply into its slots and advances the reply ring's PI. -/
  | replyWrite (ring : Nat)
  /-- EVENT_POST (R474). The device writes an event into the event ring and advances PI, or discards it and counts EV_LOST if the ring is full. -/
  | eventPost
  /-- MSI_X_MESSAGE (R480). The device signals an MSI-X vector after a PI advance, or at the end of its moderation time. -/
  | msiXMessage (vector : Nat)
  /-- STEP_VALUE (R68). TIME_CTL operation that steps TP to the LOAD value on the next tick. -/
  | stepValue (value : Nat)
  /-- STEP_DOMAIN (R68). TIME_CTL operation that steps TP to the selected domain on the next tick. -/
  | stepDomain (value : Nat)
  /-- LOAD_A (R616). TIME_CTL operation that sets TA to the LOAD value on the next tick. -/
  | loadA (value : Nat)
  /-- LOAD_B (R616). TIME_CTL operation that sets TB to the LOAD value on the next tick. -/
  | loadB (value : Nat)
  /-- SELECT (R65). TIME_CTL write that changes SELECT, requesting a domain switch or a selection while FREE. -/
  | select (value : Nat)
  /-- RATE_HI_WRITE (R615). A write of RATE_A_HI or RATE_B_HI applies the 40-bit rate adjustment on the next tick. -/
  | rateHiWrite (domain : Nat) (value : Nat)
  /-- TP_SNAP_SEC_LO_READ (R47). A read of the TP snapshot SEC_LO latches TP, TA and TB together. -/
  | tpSnapSecLoRead (mgt : Bool)
  /-- LANE_SLIP (R407). A write of LANE_SLIP moves the block boundary n bits later and restarts the count in HUNT. -/
  | laneSlip (lane : Nat) (value : Nat)
  /-- BITSLIP_EN (R407). A write of BITSLIP_EN stops or resumes automatic slipping of a lane. -/
  | bitslipEn (lane : Nat) (value : Nat)
  /-- LOOPBACK (R409). A write of LANE_CTL.LOOPBACK connects a loopback path, attaching a driver lane to its group's test receiver. -/
  | loopback (lane : Nat) (value : Nat)
  /-- GEN_EN (R414). A write that sets PRBS GEN_EN makes a lane transmit the pattern in place of coded data. -/
  | genEn (lane : Nat) (value : Nat)
  /-- CNT_CLR (R416). A write of PRBS_CTL.CNT_CLR clears PRBS_ERR, PRBS_BITS and RESYNC. -/
  | cntClr (lane : Nat) (value : Nat)
  /-- PRBS_ERR_READ (R416). A read of PRBS_ERR latches both halves of PRBS_BITS. -/
  | prbsErrRead (lane : Nat)
  /-- RC_READ (R17). A read of an RC field returns its value and clears it when the access completes. -/
  | rcRead (offset : Nat) (complete : Bool)
  /-- CHK_FRAME_READ (R624). A read of CHK_FRAME latches the other three check registers. -/
  | chkFrameRead (head : Nat) (check : Nat)
  /-- SRAM_LO_READ (R619). A read of an SRAM _LO count latches its _HI register. -/
  | sramLoRead (offset : Nat)
  /-- BLOW (R604). A write of SYS_DBG_LOCK with BLOW and CONFIRM 0x9160 blows the debug-lock fuse. -/
  | blow (value : Nat)
  /-- START (R605). A write of SYS_PUSH_CTL.START starts a push of LENGTH bytes. -/
  | start (value : Nat)
  /-- GO (R519). A write of SYS_PUSH_CTL.GO ends the push and checks the image, setting READY or BOOT_FAIL within 100 ms. -/
  | go (value : Nat)
  /-- SYS_PUSH_DATA_WRITE (R519). A write of SYS_PUSH_DATA delivers the next four image bytes. -/
  | sysPushDataWrite (value : Nat)
  /-- REMAP (R518). CC0 sets SYS_CTL.REMAP and jumps to the image entry. -/
  | remap
  /-- CODE (R595). A write of RESET.FUNC_RESET.CODE starts the reset of a function. -/
  | code (value : Nat)
  /-- FUNC_RESET_DONE (R596). A function reset completes within the time of its row. -/
  | funcResetDone (fn : Nat)
  /-- PD_CTL (R567). A write of POWER.PD_CTL requests a domain state through the sequencer. -/
  | pdCtl (value : Nat)
  /-- OP_CTL (R587). A write of POWER.OP_CTL.OP requests an operating point through the sequencer. -/
  | opCtl (value : Nat)
  /-- WAKE_MASK_WRITE (R579). A write of WAKE_MASKd sets the wake sources of a domain and clears STUCK. -/
  | wakeMaskWrite (domain : Nat) (value : Nat)
  /-- FAB_SEL (R590). A write of CLOCK.FAB_SEL changes FABCLK after draining the bus matrix, within 2 µs. -/
  | fabSel (value : Nat)
  /-- SLICE_BYPASS (R524). A write of FAB_TGTn.SLICE_BYPASS bypasses the register slices into a target, ignored above 600 MHz. -/
  | sliceBypass (target : Nat) (value : Nat)
  /-- SRAM_CTL_WRITE (R620). A write of SRAM_CTL sets SCRUB_SHIFT and IDLE_STATE, which applies to free banks within 1 ms. -/
  | sramCtlWrite (value : Nat)
  /-- HEAD_WM (R626). A write of HEAD_WM sets LOW and CRIT at the next line start. -/
  | headWm (head : Nat) (value : Nat)
  /-- HEAD_GATE_POL (R626). A write of HEAD_GATE_POL sets the gate polarities for the head's next start. -/
  | headGatePol (head : Nat) (value : Nat)
  /-- REGISTER_WRITE (R15). A BAR0 write of a register that has no behaviour of its own stores or acts by its access codes. -/
  | registerWrite (offset : Nat) (value : Nat) (enables : Nat)
  /-- BAR2_WRITE (R174). A host write to the central store through BAR2 is checked against leases, the tile-record region and panel state before it lands. -/
  | bar2Write (addr : Nat) (data : List Byte)
  /-- BAR2_READ (R25). A host read of the central store through BAR2, answered all-ones while a stack is not on. -/
  | bar2Read (addr : Nat) (len : Nat)
  /-- BAR4_WRITE (R529). A host write to SRAM through BAR4, discarded outside banks 24 to 31. -/
  | bar4Write (offset : Nat) (data : List Byte)
  /-- BAR4_READ (R529). A host read of SRAM through BAR4, answered all-ones for a bank not on. -/
  | bar4Read (offset : Nat) (len : Nat)
  /-- BIT_SET_ALIAS_WRITE (R532). A write to the bit-set alias sets bits of an SRAM word in one bank cycle. -/
  | bitSetAliasWrite (offset : Nat) (value : Nat) (enables : Nat)
  /-- BIT_CLEAR_ALIAS_WRITE (R532). A write to the bit-clear alias clears bits of an SRAM word in one bank cycle. -/
  | bitClearAliasWrite (offset : Nat) (value : Nat) (enables : Nat)
  /-- NVS_WINDOW_WRITE (R540). A write into the NVS window from a master other than MGT gets an error response and counts NVS_WRITE_DROP. -/
  | nvsWindowWrite (master : Nat) (offset : Nat) (data : List Byte)
  /-- MATRIX_TRANSACTION (R522). A bus matrix target arbitrates and serves one transaction of up to 64 bytes. -/
  | matrixTransaction (p : MatrixP)
  /-- MATRIX_TIMEOUT (R525). A target that has not completed a transaction within 4,096 FABCLK cycles completes it with an error response. -/
  | matrixTimeout (p : MatrixP)
  /-- SCRUB (R535). A bank scrubber or store patrol scrubber reads and corrects the next word. -/
  | scrub (unit : Nat)
  /-- AON_RESET_RELEASE (R592). AON reset is released after VDD_AON has been in range 500 µs, MADDR is sampled and VID is driven to OP2. -/
  | aonResetRelease (maddr : Nat)
  /-- RECORD_SCAN (R558). The management core reads every record copy and counter and fixes the copy in use and the values, within 4 ms. -/
  | recordScan
  /-- PERST_ASSERT (R593). PERST# is asserted, running a wind-down first if any head has an enable asserted, and resets the planes. -/
  | perstAssert
  /-- PERST_RELEASE (R49). PERST# is released, time counters reset, BOOTSEL is sampled and the planes leave reset. -/
  | perstRelease (bootsel : Nat)
  /-- PCIE_HOT_RESET (R592). A PCIe hot reset, link disable or link down resets the endpoint and the command processor and disables every ring. -/
  | pcieHotReset
  /-- ROOT_PLL_LOCK (R32). The root PLL locks to REFCLK and the derived clocks start. -/
  | rootPllLock
  /-- BOOT (R514). The boot ROM on CC0 discovers the flash and reads and checks the slots of the Skomo image. -/
  | boot (sfdp : Bool) (slotA : Image) (slotB : Image)
  /-- READY (R518). Firmware trains and clears the central store, initialises the rings and sets SYS_STATUS.READY. -/
  | ready (trained : Bool)
  /-- REFCLK_LOSS (R35). REFCLK edges stop for 2 µs; the root PLL holds and the wind-down starts. -/
  | refclkLoss
  /-- NREFCLK_LOSS (R591). An NREFCLK stops for 2 µs and the lanes it serves lose lock. -/
  | nrefclkLoss (n : Nat)
  /-- PFAIL_N (R424). PFAIL_N asserted for 1 µs starts the wind-down of every head. -/
  | pfailN
  /-- PFAIL_N_DEASSERT (R431). PFAIL_N deasserted without a break for 10 ms lets ENG0 to ENG7 and network transmission resume. -/
  | pfailNDeassert
  /-- GLITCH (R418). A pulse shorter than the minimum on a debounced input is dropped and counted. -/
  | glitch (input : DebInput)
  /-- WIND_DOWN (R426). The wind-down aborts the line, sends EBP and DISCHARGE and asserts GALLON on every head with an enable. -/
  | windDown
  /-- WD_HOLD_END (R426). WD_HOLD after GALLON ends and the highest enable in use is deasserted. -/
  | wdHoldEnd (head : Nat)
  /-- PEN_GAP_END (R426). PEN_GAP after an enable drop ends and the next enable is deasserted, or at the last drop outputs go high impedance. -/
  | penGapEnd (head : Nat)
  /-- WIND_DOWN_COMMITS (R428). After the last drop of all heads the shutdown record and wind-down counters are committed. -/
  | windDownCommits
  /-- WIND_DOWN_DONE (R428). The wind-down commits end, WIND_DOWN_DONE is posted and the heads are OFF. -/
  | windDownDone
  /-- PGOOD (R420). A PGOOD input of an asserted enable rises during a wind-up. -/
  | pgood (head : Nat) (enable : Nat)
  /-- PANEL_PG_LOST (R422). A PGOOD that had arrived goes low, and that head alone winds down. -/
  | panelPgLost (head : Nat) (enable : Nat)
  /-- WINDUP_FAIL (R421). A PGOOD has not arrived within PG_TIMEOUT, so the enables are dropped and the wind-up fails. -/
  | windupFail (head : Nat)
  /-- CLAIM_TEST (R440). The 20 µs claim test ends and the device drives the shared nets or retries or refuses. -/
  | claimTest (head : Nat) (low : Bool)
  /-- VCOM_SETTLE (R420). VCOM_SETTLE ends and the first enable is asserted. -/
  | vcomSettle (head : Nat)
  /-- PEN_DELAY (R420). PEN_DELAY after a PGOOD ends and the next enable is asserted. -/
  | penDelay (head : Nat)
  /-- TRAIN_DELAY (R420). TRAIN_DELAY after the last PGOOD ends and every driver of the head enters TRAIN. -/
  | trainDelay (head : Nat)
  /-- WINDUP_DONE (R420). Every driver of the head is UP or FAILED, the first thermistor sample is taken and the head enters PARKED. -/
  | windupDone (head : Nat) (therm : Nat)
  /-- PANEL_POWERDOWN_DROP (R423). Enables of a powered-down head drop PEN_GAP apart and the head enters OFF at the last drop. -/
  | panelPowerdownDrop (head : Nat)
  /-- TIME_TICK (R44). On each 800 MHz tick TA, TB and TP add their increments and TP slews toward the selected domain. -/
  | timeTick
  /-- AUTO_SELECT (R67). The selected domain has been out of LOCKED, or the home domain LOCKED, for 1 s and TP switches automatically. -/
  | autoSelect
  /-- PTP_MESSAGE (R51). Firmware parses a stamped PTP message, runs the BMCA and servo and changes the domain state. -/
  | ptpMessage (domain : Nat) (msg : PtpMsg)
  /-- SYNC_LOSS (R52). announceReceiptTimeout or 4 missing Sync intervals in LOCKED take the domain to HOLDOVER. -/
  | syncLoss (domain : Nat)
  /-- HOLDOVER_LIMIT (R53). The holdover limit is reached and the domain returns to LISTENING. -/
  | holdoverLimit (domain : Nat)
  /-- EVT_CAPTURE (R80). An accepted edge on an EVT_IN input captures TP into its FIFO. -/
  | evtCapture (pin : Nat) (rising : Bool) (back : Nat)
  /-- EVT_OUT_PULSE (R83). An EVT_OUT pulse starts or ends at its TP time. -/
  | evtOutPulse (pin : Nat)
  /-- LAUNCH_ENTRY_DUE (R76). A launch-queue entry of immediate effect becomes due and is applied. -/
  | launchEntryDue (queue : Nat)
  /-- FRAME_RECEIVE (R103). A received Ethernet frame is stamped and classified through MAC, IP, control, flow, RTP and policing checks to delivery. -/
  | frameReceive (port : Nat) (bytes : List Byte) (fifoFull : Bool)
  /-- CONTROL_FRAME_HANDLE (R101). Firmware answers ARP, neighbour solicitation, echo and membership queries from the receive queue. -/
  | controlFrameHandle (port : Nat)
  /-- MEMBERSHIP_REPORT (R101). Firmware sends IGMPv3 or MLDv2 reports when a multicast leg is enabled or disabled. -/
  | membershipReport (kind : Nat) (index : Nat) (leg : Nat)
  /-- FRAME_CLOSE (R116). An open video frame closes COMPLETE or PARTIAL when its skew window or period expires. -/
  | frameClose (flow : Nat)
  /-- PORT_UP (R91). A port's PCS has held lock for 10 ms and the port is up. -/
  | portUp (port : Nat)
  /-- PORT_DOWN (R91). A port loses lock and goes down at once. -/
  | portDown (port : Nat)
  /-- LEG_LOST (R128). A leg's activity timeout passes without a packet and it goes INACTIVE. -/
  | legLost (kind : Nat) (index : Nat) (leg : Nat)
  /-- YOYO_WINDOW (R129). A yo-yo unit's sample window opens or closes at the period timer. -/
  | yoyoWindow (unit : Nat) (opens : Bool)
  /-- YOYO_COMPARE (R130). A unit's compare condition holds in its window and its WAKE or EVENT action is taken. -/
  | yoyoCompare (unit : Nat)
  /-- YOYO_MEMBERSHIP_REPORT (R131). In the first window of every 60 s the port sends its stored membership reports. -/
  | yoyoMembershipReport (port : Nat)
  /-- TX_PACKET_LAUNCH (R134). A video transmit packet falls due and leaves on the nearest tick, or is discarded as TX_LATE. -/
  | txPacketLaunch (flow : Nat)
  /-- AUDIO_TX_LAUNCH (R138). An audio transmit packet is launched one packet time after its first sample. -/
  | audioTxLaunch (flow : Nat)
  /-- COMPOSITION_START (R146). At S_k the matrix selects frames for every layer and output and posts the frame's descriptors to every tile. -/
  | compositionStart (dest : Dest)
  /-- LOSS_HOLD_END (R156). The hold time of a FILL loss action ends and the layer shows its fill. -/
  | lossHoldEnd (dest : Dest)
  /-- ITEM_RELEASE (R199). A work item reaches its release time and is fed to its home deque. -/
  | itemRelease (key : ItemKey)
  /-- P_ITEM_LATEST_START (R201). At lat_P a P-item whose C-item is not complete becomes ready or is abandoned. -/
  | pItemLatestStart (key : ItemKey)
  /-- ENGINE_FREE (R208). A free engine takes the first item of its cluster's deque, abandoning items that cannot finish. -/
  | engineFree (cluster : Nat)
  /-- STEAL (R210). An idle cluster with an empty deque probes victims and claims a meetable item, or waits 64 ENGCLK. -/
  | steal (cluster : Nat)
  /-- C_ITEM_COMPLETE (R202). A C-item completes, sets LAST_COMPOSED and removes its tiles' entries. -/
  | cItemComplete (key : ItemKey)
  /-- T_ITEM_COMPLETE (R177). The last T-item of a transmit frame completes and the slot is complete. -/
  | tItemComplete (key : ItemKey)
  /-- P_ITEM_COMPLETE (R215). A P-item completes its drive codes and state area, committing the row when all are done. -/
  | pItemComplete (key : ItemKey)
  /-- ROW_SKIPPED (R217). A tile row not committed at due_P is skipped and its lines marked for skip. -/
  | rowSkipped (head : Nat) (frame : Nat) (row : Nat)
  /-- LATCH_POINT (R224). At a frame's latch point the device fixes tables, settings, band, mura buffer, dither phase, line starts and e. -/
  | latchPoint (head : Nat)
  /-- MURA_RELEASED (R238). The last P-item reading a swapped-out mura buffer finishes and MURA_RELEASED is posted. -/
  | muraReleased (head : Nat)
  /-- ACTIVATE_COPY (R265). After an activation the device copies the new active set into the shadow set within 100 µs. -/
  | activateCopy (head : Nat)
  /-- THERM_SAMPLE (R242). Every 1 ms a wound-up head samples and converts its panel thermistor. -/
  | thermSample (head : Nat) (sample : Nat)
  /-- LINE_START (R314). At each line start scan-out reads the slot and sends a line, skip or blank packet with the gate pulse. -/
  | lineStart (head : Nat)
  /-- TRIM_INSTANT (R288). At the end of the sense window a valid measurement steps the VCOM DAC and sets e. -/
  | trimInstant (head : Nat) (samples : List Nat)
  /-- HEAD_STALL (R319). An active line has gone without a committed write for HOLD_LIMIT and the head is stopped. -/
  | headStall (head : Nat)
  /-- SR_ENTER (R327). A RUNNING head idle for SR_IDLE enters SELF_REFRESH. -/
  | srEnter (head : Nat)
  /-- SR_EXIT (R330). A head leaves SELF_REFRESH on a flow, present, route change or wake. -/
  | srExit (head : Nat)
  /-- FOLLOW_REPEAT (R332). No frame is planned by E_last + T_MAX − Λ and a repeat frame is planned. -/
  | followRepeat (head : Nat)
  /-- WARMUP_DONE (R297). The warm-up's W frames end and the head enters RUNNING. -/
  | warmupDone (head : Nat)
  /-- BALANCING_FRAME (R298). The completion frame ends and the balancing frame is scanned. -/
  | balancingFrame (head : Nat)
  /-- PARK (R318). At tau_dis the head broadcasts DISCHARGE and asserts GALLON for PARK_HOLD. -/
  | park (head : Nat)
  /-- HEAD_PARKED (R318). PARK_HOLD ends, GALLON is released, CLEAN is committed and the head enters PARKED. -/
  | headParked (head : Nat)
  /-- CHECK_RESULT (R346). A check rectangle's result becomes ready and is compared and acted on. -/
  | checkResult (head : Nat) (check : Nat)
  /-- LEASE_RELEASED (R173). The last head frame using a superseded buffer finishes scan-out and the lease ends. -/
  | leaseReleased (lease : Nat)
  /-- TRAIN_TIMEOUT (R369). 5 ms pass in TRAIN or RATE without lock and the driver retries or enters FAILED. -/
  | trainTimeout (driver : Nat)
  /-- CONFIG_PACKET (R368). Every 16 µs in CONFIG the device sends a CONFIG packet. -/
  | configPacket (driver : Nat)
  /-- POLL (R380). Every 20 µs slot the device polls the next backchannel address. -/
  | poll (group : Nat)
  /-- REPORT (R381). A driver's REPORT is received, its counters added and the link state, FOM and adaptation updated. -/
  | report (driver : Nat) (p : ReportP) (good : Bool)
  /-- BC_TIMEOUT (R380). A REPORT is missing or late, BC_TIMEOUT counts and after 16 failures DRIVER_SILENT posts. -/
  | bcTimeout (driver : Nat)
  /-- DRIVER_PACKET (R373). A Rennex driver receives a valid packet and updates its selected port and generation. -/
  | driverPacket (driver : Nat) (port : Nat) (pkt : DlPacket)
  /-- LD (R374). At an LD on the selected port the driver applies the last valid ROLE = 1 packet or takes the channels to VCOM. -/
  | ld (driver : Nat) (port : Nat)
  /-- DISCHARGE (R375). A Rennex driver obeys a valid DISCHARGE and takes every channel to VCOM within 200 ns. -/
  | discharge (driver : Nat) (port : Nat) (pkt : DlPacket)
  /-- PORT_ABSENT (R376). The driver's selected port stops being present and every channel goes to VCOM within 1 µs. -/
  | portAbsent (driver : Nat) (port : Nat)
  /-- DRIVER_CONFIG (R377). A Rennex driver applies a CONFIG and sets CONFIG_OK or MISMATCH. -/
  | driverConfig (driver : Nat) (port : Nat) (pkt : DlPacket)
  /-- EYE_SAMPLE (R399). Every 2^20 UI a receiver takes an eye sample, forms FOM and steps the CTLE search. -/
  | eyeSample (lane : Nat) (eyeH : Nat) (eyeV : Nat)
  /-- EB_OVF (R405). The string elastic buffer fills to 64 and the link goes down. -/
  | ebOvf
  /-- REFRESH_STEP (R30). The hottest stack sensor crosses a threshold and the refresh rate changes. -/
  | refreshStep (temps : List Int) (cooled : Bool)
  /-- PD_CHANGED (R567). A power domain transition ends and PD_CHANGED is posted. -/
  | pdChanged
  /-- WAKE (R576). A wake source in a domain's mask fires and returns it from retention to on. -/
  | wake (domain : Nat) (source : Nat) (lost : Bool)
  /-- VID_SETTLE (R587). After a VID write the wait for VGOOD ends and the divider switches or the change ends. -/
  | vidSettle
  /-- VGOOD_TIMEOUT (R588). VGOOD is not high within 2 ms of a VID write and the previous code is restored. -/
  | vgoodTimeout
  /-- VGOOD_LOST (R589). VGOOD goes low for 1 µs outside a change and ENGCLK switches to ÷8. -/
  | vgoodLost
  /-- NVS_COMMIT_END (R544). A page commit ends and its bytes become readable. -/
  | nvsCommitEnd
  /-- COUNTER_INCREMENT (R563). The device writes the next value of a counter into its slot and commits one group. -/
  | counterIncrement (c : Nat)
  /-- PAIR_LINK_UP (R450). The string lanes hold lock and alignment for 1 ms and HELLO is exchanged both ways. -/
  | pairLinkUp
  /-- PAIR_LINK_DOWN (R450). The pair link is lost on lock loss, missing heartbeats or exhausted retries. -/
  | pairLinkDown
  /-- HEARTBEAT (R449). Every 10 µs the device sends a HEARTBEAT block. -/
  | heartbeat
  /-- PHASE (R458). The standby receives a PHASE block and compares it with its own line start. -/
  | phase (frame : Nat) (line : Nat) (ns : Nat)
  /-- RETRANSMIT (R448). A sequenced message is retransmitted on NAK or 50 µs without ACK. -/
  | retransmit (mseq : Nat)
  /-- HELLO (R443). A HELLO message is received and the roles are decided. -/
  | hello (p : HelloP)
  /-- ACK (R448). An ACK message acknowledges a sequenced message. -/
  | ack (mseq : Nat)
  /-- NAK (R448). A NAK message refuses a sequenced message. -/
  | nak (mseq : Nat)
  /-- ECHO (R451). An ECHO message or its answer is received to measure the one-way delay. -/
  | echo (answered : Bool) (roundTrip : Nat) (answerTime : Nat)
  /-- TIME (R452). The standby stamps a TIME message and uses it as its selected domain. -/
  | time (tp : Nat) (tBase : Nat)
  /-- CMD (R454). The standby receives a forwarded command and applies it or enters UNSYNCED. -/
  | cmd (launch : Nat) (crc : Nat) (packet : List Byte)
  /-- LATCH (R456). The standby receives LATCH and latches its frame with the active's band, e and DAC code. -/
  | latch (frame : Nat) (band : Nat) (e : Int) (dac : Nat) (temp : Int)
  /-- LATCH_WAIT_END (R456). 20 µs pass without LATCH and the frame uses the standby's last values. -/
  | latchWaitEnd
  /-- SELECT_MSG (R457). The standby receives SELECT and selects the named slots. -/
  | selectMsg (frame : Nat) (names : List (Nat × Nat))
  /-- SELECT_WAIT_END (R457). SELECT has not arrived by S_k + 100 µs and the standby selects by R146. -/
  | selectWaitEnd
  /-- ROW (R459). The standby receives ROW and commits or skips the row, marking it matched or divergent. -/
  | row (frame : Nat) (row : Nat) (skipped : Nat) (crc : Nat)
  /-- ROW_WAIT_END (R459). No ROW has arrived by due_P and the standby skips the row as divergent. -/
  | rowWaitEnd (row : Nat)
  /-- ROW_REQ (R461). The active receives ROW_REQ for a divergent row. -/
  | rowReq (row : Nat)
  /-- ROW_DATA (R461). The standby receives ROW_DATA and installs or discards it. -/
  | rowData (p : RowDataP)
  /-- RELEASE (R447). The standby receives RELEASE naming the hand-over line. -/
  | release (frame : Nat) (line : Nat) (gen : Nat) (dac : Nat)
  /-- WIND_DOWN_MSG (R468). The standby receives WIND_DOWN and will not take over. -/
  | windDownMsg (cause : Nat)
  /-- HANDOVER (R465). At the hand-over line the outgoing releases the gate nets and the incoming drives them if BATON_IN is low. -/
  | handover (batonIn : Bool)
  /-- HANDOVER_OVERLAP_END (R465). At t_A(y + 1) the outgoing releases PEN and VCOM_OUT. -/
  | handoverOverlapEnd (batonIn : Bool)
  /-- TAKEOVER (R467). BATON_IN falls with no RELEASE or WIND_DOWN and the standby takes over or reports the partner lost. -/
  | takeover
  /-- BLOCK_LOCK (R406). A network or string lane receiver sees 64 consecutive valid headers, enters LOCK and sets BLOCK_LOCK, starting the hold that leads to port up or link up. -/
  | blockLock (lane : Nat)
  /-- CHK_SYNC (R415). A PRBS checker gains sync after 256 error-free bits, or loses it and increments RESYNC when more than 1,024 of 65,536 compared bits differ. -/
  | chkSync (lane : Nat) (gain : Bool)
  /-- LINK_FAULT (R92). A port starts or stops receiving local or remote fault ordered sets, and its transmitter changes between remote fault, idles and normal data. -/
  | linkFault (port : Nat) (fault : Nat)
  /-- ECHO_TIMEOUT (R448). At link-up an ECHO has had no answer within 50 µs, so the device sends a further ECHO, or takes the link down after 256 ECHOs with fewer than 64 answers. -/
  | echoTimeout
  /-- DELAY_REQ (R50). Firmware sends a stamped Delay_Req, multicast or unicast, for an enabled PTP domain. -/
  | delayReq (domain : Nat)
  /-- PD_WRITE_DROP (R577). A BAR0 write that the endpoint held for a domain in retention or transition reaches 100 µs with the domain still not on, and it is discarded and counted. -/
  | pdWriteDrop (offset : Nat)
  /-- COMMAND_TIMEOUT (R488). A command has waited 10 ms on the central store while a stack is not on, or 5 ms on an NVS commit, and is answered TIMEOUT. -/
  | commandTimeout (src : Nat)
  /-- TS2 (R371). The last of the 64 TS2 of RATE is sent: the device switches the lanes to the TARGET rate and sends TS1, and the Rennex driver switches its port to TARGET. -/
  | ts2 (driver : Nat)
  /-- AON_RESET (R592). VDD_AON leaves its range and the internal detector asserts AON reset, resetting the whole device except the NVS array. -/
  | aonReset
  /-- SUPPLY_LOSS (R430). Device supplies fall out of range before the wind-down ends, stopping any commit in progress and leaving a torn page by R550, with outputs going to high impedance. -/
  | supplyLoss
  /-- REFCLK_RETURN (R591). REFCLK or an NREFCLK starts again after a loss: its CLOCK status bit sets, the root PLL relocks, and wind-ups become acceptable under R419. -/
  | refclkReturn (which : Nat)
  /-- PCIE_LINK_UP (R493). The PCIe link trains up after a link down, and the endpoint answers again and can post events and MSI-X messages. -/
  | pcieLinkUp
  deriving DecidableEq, Repr

end Sys2Proof
end

