-- ==== Sys2Proof/Config.lean ====
section
/-! DEFINITION. What one device fixes (fuses, the standards' own functions) and the free values that the rules leave open:
opaque constants without a body, so that no proof can see a value. Each has an entry in the assumption log. -/

namespace Sys2Proof.Config

/-- The unique ID in fuses (R602); lower 64 bits are used. -/
opaque uid : Nat

/-- The fused key hash of R516, 48 bytes. -/
opaque keyHash : List Byte

/-- The fused minimum of SEC_VERSION (R516). -/
opaque minSecVersion : Nat

/-- SHA-384 (R515, R516), a function of the standard that the rules name. -/
opaque sha384 : List Byte → List Byte

/-- ECDSA P-384 verification with SHA-384 (R515): public key, signature, message. -/
opaque ecdsaVerify : List Byte → List Byte → List Byte → Bool

/-- A free natural number for the n-th open value drawn. -/
opaque freeNat : Nat → Nat

/-- A free integer for the n-th open value drawn. -/
opaque freeInt : Nat → Int

/-- The three features bytes of GET_INFO, which no rule describes. -/
opaque features : Nat

/-- Entry n of the AUTO TLUT (R164) for a transfer characteristic and a peak luminance: the EOTF of the named standard. -/
opaque autoTlut : (tcs : Nat) → (peak : Nat) → (n : Nat) → Nat

/-- The AUTO M1 (R164) for a colorimetry, a range and a sampling: the conversion of the named standard. -/
opaque autoM1 : (colorimetry : Nat) → (range : Nat) → (sampling : Nat) → Matrix1

/-- Coefficient (phase, tap) of the built-in scaler set that AUTO chooses for a ratio (R162): crop size, destination size,
axis (0 horizontal). -/
opaque autoCoef : (crop : Nat) → (dst : Nat) → (axis : Nat) → (phase : Nat) → (tap : Nat) → Int

/-- Which panel table (table id, index) a word of an active table bank belongs to (R267; the banks' layout is not given). -/
opaque tableOfWord : Nat → Nat × Nat

/-- What the host memory answers to a bus matrix read through the host window (R521), by address and draw. -/
opaque hostByte : Nat → Nat → Byte

/-- The channels and lanes that a Rennex driver is built with (R377), which no rule gives for one driver. -/
opaque driverBuild : Nat → Nat × Nat

/-- What no rule gives a transmitted media packet, by transmit flow (64 for T, 128 for U, plus index): 0 UDP source port, 1 payload type,
2 SSRC, 3 the Ethernet address of a unicast destination, 4 the IPv6 flow label, 5 the first sequence number. -/
opaque txField : (what : Nat) → (flow : Nat) → Nat

/-- The contents of the boot ROM at an offset (R520). -/
opaque romByte : Nat → Byte

/-- Bytes that the rules give no layout: `what` 0 an SRAM byte of the table and tile-cache banks, 1 a byte of an unused entry of a tile
record by store address, 2 a byte of the saved images in the AON SRAM, 3 what a master reads where nothing answers. -/
opaque unusedByte : (what : Nat) → (addr : Nat) → Byte

end Sys2Proof.Config
end

