-- ==== Sys2Proof/Machine/Sparse.lean ====
section
/-! DEFINITION. Reading and writing a sparse map, the one way every memory and every register file of the model is accessed. -/

namespace Sys2Proof.Machine

/-- The value at index `k`, `d` where nothing is listed. -/
def spGet {α : Type} (m : Sparse α) (d : α) (k : Nat) : α :=
  match m with
  | [] => d
  | (j, v) :: r => if k = j then v else spGet r d k

/-- Lists `v` at index `k` before the first entry with a higher index, in place of an entry with that index. -/
def spInsert {α : Type} (m : Sparse α) (k : Nat) (v : α) : Sparse α :=
  match m with
  | [] => [(k, v)]
  | (j, w) :: r => if k < j then (k, v) :: (j, w) :: r else if k = j then (k, v) :: r else (j, w) :: spInsert r k v

/-- Puts `v` at index `k`, keeping the canonical form: an entry equal to the default is not listed. -/
def spSet {α : Type} [DecidableEq α] (d : α) (m : Sparse α) (k : Nat) (v : α) : Sparse α :=
  if v = d then m.filter (fun p => p.1 != k) else spInsert m k v

/-- The canonical form: indices strictly rising from `lo`, no entry equal to the default. -/
def spWfFrom {α : Type} [DecidableEq α] (d : α) (lo : Nat) (m : Sparse α) : Bool :=
  match m with
  | [] => true
  | (j, v) :: r => decide (lo ≤ j) && decide (v ≠ d) && spWfFrom d (j + 1) r

/-- The canonical form of a whole map. -/
def spWf {α : Type} [DecidableEq α] (d : α) (m : Sparse α) : Bool := spWfFrom d 0 m

/-- Forgets every entry with an index from `lo` up to `hi`, which then reads as the default. -/
def spClear {α : Type} (lo hi : Nat) (m : Sparse α) : Sparse α := m.filter (fun p => decide (p.1 < lo) || decide (hi ≤ p.1))

/-- The first `n` bytes of a byte memory from address `a`, where no entry lies below `a`. -/
def takeBytes (n a : Nat) (m : Sparse Byte) : List Byte :=
  match n with
  | 0 => []
  | n + 1 =>
    match m with
    | [] => 0 :: takeBytes n (a + 1) []
    | (j, v) :: r => if j = a then v :: takeBytes n (a + 1) r else 0 :: takeBytes n (a + 1) ((j, v) :: r)

/-- The `n` bytes from address `a` of a byte memory that reads 0 where nothing is listed. -/
def readBytes (m : Sparse Byte) (a : Nat) (n : Nat) : List Byte := takeBytes n a (m.dropWhile (fun p => decide (p.1 < a)))

/-- The entries of a row of bytes from address `a` upward. -/
def byteCells (a : Nat) (bs : List Byte) : Sparse Byte :=
  match bs with
  | [] => []
  | b :: r => if b = 0 then byteCells (a + 1) r else (a, b) :: byteCells (a + 1) r

/-- Writes bytes from address `a` upward. -/
def writeBytes (m : Sparse Byte) (a : Nat) (bs : List Byte) : Sparse Byte :=
  m.filter (fun p => decide (p.1 < a)) ++ (byteCells a bs ++ m.filter (fun p => decide (a + bs.length ≤ p.1)))

/-- The entries of `n` indices from `a` after `f` on each, where no entry of `m` lies below `a`; an entry equal to the default is not listed. -/
def mapCells {α : Type} [DecidableEq α] (d : α) (f : Nat → α → α) (n a : Nat) (m : Sparse α) : Sparse α :=
  match n with
  | 0 => []
  | n + 1 =>
    let hit := match m with | (j, _) :: _ => decide (j = a) | [] => false
    let v := f a (match m with | (j, w) :: _ => if j = a then w else d | [] => d)
    let rest := mapCells d f n (a + 1) (if hit then m.drop 1 else m)
    if v = d then rest else (a, v) :: rest

/-- Applies `f` to each of the `n` values from index `a`. -/
def spMap {α : Type} [DecidableEq α] (d : α) (f : Nat → α → α) (m : Sparse α) (a n : Nat) : Sparse α :=
  m.filter (fun p => decide (p.1 < a)) ++
    (mapCells d f n a (m.dropWhile (fun p => decide (p.1 < a))) ++ m.filter (fun p => decide (a + n ≤ p.1)))

/-- Rows of bytes that follow one another, put together. -/
def glue (rows : List (Nat × List Byte)) : List (Nat × List Byte) :=
  rows.foldr (fun x acc => match acc with
    | y :: r => if y.1 = x.1 + x.2.length then (x.1, x.2 ++ y.2) :: r else x :: acc
    | [] => [x]) []

end Sys2Proof.Machine
end

