-- ==== Sys2Proof/Machine/Bits.lean ====
section
/-! DEFINITION. Bit fields, byte order (R10 to R12), rounding and the two CRCs of R300 and R357. -/

namespace Sys2Proof.Machine

/-- Bits [hi:lo] of a word (R11). -/
def bits (v hi lo : Nat) : Nat := v / 2 ^ lo % 2 ^ (hi + 1 - lo)

/-- Bit i of a word. -/
def bit (v i : Nat) : Bool := v / 2 ^ i % 2 == 1

/-- A Boolean as a bit. -/
def b2n (b : Bool) : Nat := if b then 1 else 0

/-- A flag parameter of R494, read as a Boolean. -/
def n2b (n : Nat) : Bool := n != 0

/-- `v` with bits [hi:lo] replaced by `x`. -/
def setBits (v hi lo x : Nat) : Nat := v - bits v hi lo * 2 ^ lo + x % 2 ^ (hi + 1 - lo) * 2 ^ lo

/-- The `n` bytes of a value, least significant first (R10). -/
def leBytes (n v : Nat) : List Byte :=
  match n with
  | 0 => []
  | k + 1 => BitVec.ofNat 8 v :: leBytes k (v / 256)

/-- The value of bytes given least significant first (R10). -/
def leNat (bs : List Byte) : Nat :=
  match bs with
  | [] => 0
  | b :: r => b.toNat + 256 * leNat r

/-- The value of bytes given most significant first, as the network standards give them. -/
def beNat (bs : List Byte) : Nat := bs.foldl (fun a b => 256 * a + b.toNat) 0

/-- The signed value of an n-bit two's complement field (R12). -/
def sx (n v : Nat) : Int :=
  let u := v % 2 ^ n
  if u < 2 ^ (n - 1) then (u : Int) else (u : Int) - 2 ^ n

/-- The n-bit two's complement encoding of an integer (R12). -/
def tc (n : Nat) (i : Int) : Nat := (i % (2 ^ n : Int)).toNat

/-- A 16-bit or 32-bit signed value as bytes. -/
def leInt (n : Nat) (i : Int) : List Byte := leBytes n (tc (8 * n) i)

/-- Clamp to [lo, hi]. -/
def clampI (lo hi x : Int) : Int := max lo (min x hi)

/-- Clamp to a natural range from 0. -/
def clampN (hi : Nat) (x : Int) : Nat := (min (max x 0) (hi : Int)).toNat

/-- The sign of an integer. -/
def sgnI (x : Int) : Int := if x > 0 then 1 else if x < 0 then -1 else 0

/-- Division to the nearest integer with ties away from zero (R234, R287). -/
def rdiv (a b : Int) : Int :=
  let q := (2 * a.natAbs + b.natAbs) / (2 * b.natAbs)
  if (a < 0) = (b < 0) then (q : Int) else -(q : Int)

/-- Division to the nearest integer with ties upward (R70, R151). -/
def rdivUp (a b : Int) : Int := (2 * a + b) / (2 * b)

/-- Ceiling division of naturals. -/
def ceilDiv (a b : Nat) : Nat := (a + b - 1) / b

/-- Arithmetic shift right, which floors (R163, R234). -/
def shrI (x : Int) (n : Nat) : Int := x / (2 ^ n : Int)

/-- The 64 KiB-safe increment of a saturating count. -/
def satInc (limit n : Nat) : Nat := if n < limit then n + 1 else limit

/-- A 32-bit wrapping increment (R600). -/
def inc32 (n : Nat) : Nat := (n + 1) % 2 ^ 32

/-- A 64-bit wrapping addition (R127). -/
def add64 (n k : Nat) : Nat := (n + k) % 2 ^ 64

/-- One bit step of the reflected CRC-32 (R300). -/
def crc32Step (c : Nat) : Nat := if c % 2 = 1 then Nat.xor (c / 2) 0xEDB88320 else c / 2

/-- One byte into the CRC-32. -/
def crc32Byte (c : Nat) (b : Byte) : Nat :=
  let c := Nat.xor c b.toNat
  crc32Step (crc32Step (crc32Step (crc32Step (crc32Step (crc32Step (crc32Step (crc32Step c)))))))

/-- CRC-32, IEEE 802.3 polynomial, reflected, init and xorout all-ones (R300). -/
def crc32 (bs : List Byte) : Nat := Nat.xor (bs.foldl crc32Byte 0xFFFFFFFF) 0xFFFFFFFF

/-- One bit step of the CRC-16 (R357). -/
def crc16Step (c : Nat) : Nat := if c / 0x8000 % 2 = 1 then Nat.xor (c * 2 % 0x10000) 0x1021 else c * 2 % 0x10000

/-- One byte into the CRC-16, most significant bit first. -/
def crc16Byte (c : Nat) (b : Byte) : Nat :=
  let c := Nat.xor c (b.toNat * 256)
  crc16Step (crc16Step (crc16Step (crc16Step (crc16Step (crc16Step (crc16Step (crc16Step c)))))))

/-- CRC-16 of R357: polynomial 0x1021, initial value 0xFFFF. -/
def crc16 (bs : List Byte) : Nat := bs.foldl crc16Byte 0xFFFF

/-- `n` bytes of a list from offset `o`, zero bytes past its end. -/
def sliceBytes (bs : List Byte) (o n : Nat) : List Byte :=
  let r := (bs.drop o).take n
  r ++ List.replicate (n - r.length) 0

/-- A little-endian field of `n` bytes at offset `o` of a packet. -/
def fieldAt (bs : List Byte) (o n : Nat) : Nat := leNat (sliceBytes bs o n)

/-- A big-endian field of `n` bytes at offset `o`. -/
def beAt (bs : List Byte) (o n : Nat) : Nat := beNat (sliceBytes bs o n)

/-- Replaces element `i` of a list, unchanged where there is none. -/
def setAt {α : Type} (l : List α) (i : Nat) (x : α) : List α :=
  match l, i with
  | [], _ => []
  | _ :: r, 0 => x :: r
  | y :: r, k + 1 => y :: setAt r k x

/-- Applies `f` to element `i`. -/
def modAt {α : Type} (l : List α) (i : Nat) (f : α → α) : List α :=
  match l, i with
  | [], _ => []
  | y :: r, 0 => f y :: r
  | y :: r, k + 1 => y :: modAt r k f

/-- The first index whose element satisfies `p`, counted from `i`. -/
def indexFrom {α : Type} (p : α → Bool) (i : Nat) : List α → Option Nat
  | [] => none
  | x :: r => if p x then some i else indexFrom p (i + 1) r

/-- The longest list head whose total `f` stays; used to keep queues bounded: appends only below a limit. -/
def pushBelow {α : Type} (limit : Nat) (l : List α) (x : α) : List α := if l.length < limit then l ++ [x] else l

/-- Inserts into a list kept in ascending order of `key`, after equal keys. -/
def insertBy {α : Type} (le : α → α → Bool) (x : α) : List α → List α
  | [] => [x]
  | y :: r => if le y x then y :: insertBy le x r else x :: y :: r

/-- Sorts by repeated insertion, stable. -/
def sortBy {α : Type} (le : α → α → Bool) (l : List α) : List α := l.foldl (fun a x => insertBy le x a) []

/-- Wrapping difference of 32-bit counts (R471). -/
def diff32 (a b : Nat) : Nat := (a + 2 ^ 32 - b % 2 ^ 32) % 2 ^ 32

/-- Whether `a` is newer than `b` in serial arithmetic modulo 2^32 (R115, R193). -/
def newer32 (a b : Nat) : Bool := let d := diff32 a b; decide (1 ≤ d) && decide (d < 2 ^ 31)

end Sys2Proof.Machine
end

