-- ==== Sys2Proof/Machine/Types.lean ====
section
/-! DEFINITION. The parts of the machine's state, block by block of R20 to R42, each a structure of plain data whose
default value is the value at reset (the values the model chose are named in the assumption log). -/

namespace Sys2Proof.Machine

/-! ## Time unit (R43 to R86) -/

/-- One PTP domain (R50 to R54). State: 0 DISABLED, 1 LISTENING, 2 UNCALIBRATED, 3 LOCKED, 4 HOLDOVER. `since` is the tick at
which it last entered or left LOCKED (R67). -/
structure Domain where
  state : Nat := 0
  number : Nat := 0
  primary : Nat := 255
  backup : Nat := 255
  unicast : Bool := false
  gmAddr : Nat := 0
  holdover : Nat := 60
  gm : Option Announce := none
  offset : Int := 0
  meanDelay : Int := 0
  good : Nat := 0
  bad : Nat := 0
  delayReqs : Nat := 0
  mgmtSeen : Nat := 0
  since : Nat := 0
  metadata : List Byte := []
  deriving DecidableEq, Repr

/-- A set of snapshot registers (R47), times in 2^-16 ns. -/
structure Snap where
  tp : Nat := 0
  ta : Nat := 0
  tb : Nat := 0
  gen : Nat := 0
  deriving DecidableEq, Repr

/-- What TP does on the next tick when host software forces a step (R68). -/
inductive StepReq where
  | domain
  | value (u : Nat)
  deriving DecidableEq, Repr

/-- The time unit. Counters are in 2^-48 ns (R44), rates in 2^-16 ppb (R45). -/
structure TimeUnit where
  ta : Nat := 0
  tb : Nat := 0
  tp : Nat := 0
  rateA : Int := 0
  rateB : Int := 0
  rateLoA : Nat := 0
  rateLoB : Nat := 0
  rateHiA : Nat := 0
  rateHiB : Nat := 0
  nextRateA : Option Int := none
  nextRateB : Option Int := none
  lastInc : Nat := 5 * 2 ^ 46
  tracking : Bool := false
  tpGen : Nat := 0
  selected : Nat := 0
  home : Nat := 0
  acquireAuto : Bool := true
  autoSelect : Bool := false
  revert : Bool := false
  jumpLimit : Nat := 1000
  slew : Nat := 100
  jumpRefused : Bool := false
  selectRefused : Bool := false
  slewing : Bool := false
  refusing : Bool := false
  deriving DecidableEq, Repr

/-- The time unit's load registers, next-tick actions, snapshots and calibration (R47, R57, R614 to R617). -/
structure TimeRegs where
  loadSecLo : Nat := 0
  loadSecHi : Nat := 0
  loadNs : Nat := 0
  loadFrac : Nat := 0
  nextA : Option Nat := none
  nextB : Option Nat := none
  nextStep : Option StepReq := none
  snap : Snap := {}
  mgtSnap : Snap := {}
  calRx : Sparse Int := []
  calTx : Sparse Int := []
  ticks : Nat := 0
  deriving DecidableEq, Repr

/-- One capture of an EVT_IN FIFO (R82). -/
structure Capture where
  stamp : Nat := 0
  gen : Nat := 0
  rising : Bool := true
  deriving DecidableEq, Repr

/-- An EVT_IN input (R80 to R82). -/
structure EvtIn where
  edges : Nat := 1
  minPulse : Nat := 1
  report : Bool := false
  fifo : List Capture := []
  overflow : Nat := 0
  glitch : Nat := 0
  deriving DecidableEq, Repr

/-- An EVT_OUT output (R83 to R85): the settings in force, a change waiting for the pulse to end, the pulse. -/
structure EvtOut where
  cfg : EvtOutP := {}
  waiting : Option EvtOutP := none
  pulse : Bool := false
  pulseStart : Nat := 0
  done : Nat := 0
  lastStart : Option Nat := none
  deriving DecidableEq, Repr

/-! ## Command processor, rings and management port (R470 to R511, R628) -/

/-- A ring's registers (R606); `last` is the index at which the packet taken last began (R497). -/
structure Ring where
  base : Nat := 0
  log2 : Nat := 4
  enable : Bool := false
  pi : Nat := 0
  ci : Nat := 0
  last : Nat := 0
  deriving DecidableEq, Repr

/-- A reply waiting to be written (R485). -/
structure Reply where
  src : Nat := 0
  opcode : Nat := 0
  tag : Nat := 0
  status : Nat := 0
  mgt : Bool := false
  acceptNo : Nat := 0
  params : List Byte := []
  deriving DecidableEq, Repr

/-- An event that has occurred and waits to be posted (R492). -/
structure Event where
  code : Nat := 0
  object : Nat := 0
  origin : Nat := 0
  payload : List Byte := []
  time : Nat := 0
  gen : Nat := 0
  deriving DecidableEq, Repr

/-- Where an event code goes (R479, R510). `off` is the complement of its enable. -/
structure EvRoute where
  off : Bool := false
  vector : Nat := 4
  mgt : Bool := false
  deriving DecidableEq, Repr

/-- An accepted command that has not taken effect: in a launch queue (timed, R73) or waiting for a boundary. `frame` is the
frame that R75 selected for it, once a composition start has; `data` the contents of the buffer that it named, read at acceptance. -/
structure Entry where
  queue : Nat := 4
  timed : Bool := false
  t : Nat := 0
  acceptNo : Nat := 0
  tag : Nat := 0
  noApplied : Bool := false
  frame : Option Nat := none
  late : Bool := false
  data : List Byte := []
  cmd : Instr := .commandAccept
  deriving DecidableEq, Repr

/-- A process command (mark P of the reference) answered ACCEPTED whose CMD_APPLIED is still due (R490). -/
structure Proc where
  opcode : Nat := 0
  object : Nat := 0
  acceptNo : Nat := 0
  tag : Nat := 0
  noApplied : Bool := false
  arg : Nat := 0
  buffer : Nat := 0
  deriving DecidableEq, Repr

/-- A command whose reply waits for work that is still running (R476): NVS work, a function reset, a table copy, a pair
acknowledge. -/
structure Running where
  src : Nat := 0
  opcode : Nat := 0
  tag : Nat := 0
  silent : Bool := false
  acceptNo : Nat := 0
  object : Nat := 0
  waitsStore : Bool := false
  cmd : Instr := .commandAccept
  deriving DecidableEq, Repr

/-- The management mailbox and its event queue (R506 to R510). State: 0 EMPTY, 1 PENDING, 2 DONE; `taken` says that the pending command has
been accepted or answered. -/
structure Mailbox where
  state : Nat := 0
  taken : Bool := false
  buf : Sparse Byte := []
  reply : List Byte := []
  events : List (List Byte) := []
  lost : Nat := 0
  lostFlag : Bool := false
  deriving DecidableEq, Repr

/-- The command processor. -/
structure CmdProc where
  acceptNo : Nat := 0
  turn : Nat := 0
  replies : List Reply := []
  events : List Event := []
  held : List Event := []
  evSeq : Nat := 0
  lost : Bool := false
  evLost : Nat := 0
  badIndex : Nat := 0
  routes : Sparse EvRoute := []
  launch : List Entry := []
  procs : List Proc := []
  running : List Running := []
  msiMod : Sparse Nat := []
  msiDue : List Nat := []
  msiSent : Sparse Nat := []
  deriving DecidableEq, Repr

/-- The fault log (R628, R629). -/
structure FaultLog where
  count : Nat := 0
  index : Nat := 0
  entries : Sparse (List Byte) := []
  deriving DecidableEq, Repr

/-! ## System, power, clocks, resets (R566 to R604) -/

/-- SYS, RESET and CLOCK state. -/
structure Sys where
  ready : Bool := false
  pushWait : Bool := false
  bootFail : Nat := 0
  windDown : Bool := false
  debugLocked : Bool := false
  bootsel : Nat := 0
  pfail : Bool := false
  pfailClear : Bool := true
  remap : Bool := false
  accepted : Bool := false
  release : Nat := 0
  pushLength : Nat := 0
  announced : Nat := 0
  pushBytes : List Byte := []
  badWrite : Nat := 0
  winDrop : Nat := 0
  perst : Bool := true
  aonReset : Bool := true
  pcieUp : Bool := false
  cause : Nat := 1
  funcBusy : List Nat := []
  maddr : Nat := 0
  mgtAwake : Bool := false
  suppliesLost : Bool := false
  txHeld : Bool := false
  planesHeld : Bool := true
  deriving DecidableEq, Repr

/-- The clocks (R32, R590, R591, R613). `started` says that the derived clocks run. -/
structure Clocks where
  started : Bool := false
  rootLock : Bool := false
  refclkOk : Bool := true
  nref0Ok : Bool := true
  nref1Ok : Bool := true
  fabSel : Nat := 0
  deriving DecidableEq, Repr

/-- The wind-down in progress (R424 to R428). Cause: 2 PFAIL_N or PERST#, 3 REFCLK loss. `heads` are those that it carries out its steps
on, `clean` those whose discharge hold has ended. -/
structure WindDown where
  cause : Nat := 0
  heads : List Nat := []
  clean : List Nat := []
  commits : Bool := false
  fromPerst : Bool := false
  deriving DecidableEq, Repr

/-- An operating-point change in progress (R587). Phase 0: waiting for VGOOD. -/
structure OpChange where
  target : Nat := 0
  old : Nat := 0
  oldVid : Nat := 0
  proc : Option Proc := none
  deriving DecidableEq, Repr

/-- A domain transition in progress (R567). -/
structure PdChange where
  domain : Nat := 0
  old : Nat := 0
  target : Nat := 0
  proc : Option Proc := none
  deriving DecidableEq, Repr

/-- A unit's yo-yo mode (R504, R580 to R583): its settings, those that wait for the next period, whether its window is open, whether the
compare condition has held in this window (`acted`), the flows matched, a TDM signal seen, the consecutive actions and the mask of R579. -/
structure YoyoUnit where
  on : Bool := false
  cfg : YoyoP := {}
  next : Option YoyoP := none
  window : Bool := false
  acted : Bool := false
  matched : List Nat := []
  signal : Bool := false
  repeats : Nat := 0
  stuck : Bool := false
  deriving DecidableEq, Repr

/-- The POWER block and the sequencer. `moves` holds the switch-offs that the wind-down has started, and the returns after it, each a domain
with its old and its new state (R425, R431). -/
structure Power where
  dom : Sparse Nat := []
  change : Option PdChange := none
  moves : List (Nat × Nat × Nat) := []
  op : Nat := 2
  vid : Nat := 24
  vgood : Bool := true
  opChange : Option OpChange := none
  div8 : Bool := false
  pdIgnored : Bool := false
  wakeMask : Sparse Nat := [(0, 3)]
  stuck : Sparse Nat := []
  wakeRuns : Sparse Nat := []
  latched : List (Nat × Nat) := []
  writeDrop : Nat := 0
  heldWrites : List (Nat × Nat) := []
  pfailGlitch : Nat := 0
  pgoodGlitch : Sparse Nat := []
  otherGlitch : Sparse Nat := []
  temps : List Int := [0, 0, 0, 0, 0, 0, 0, 0]
  refresh : Nat := 0
  yoyo : Sparse YoyoUnit := []
  deriving DecidableEq, Repr

/-! ## Nonvolatile store (R538 to R564) -/

/-- What an NVS task is for, so that the end of its commit can go on (R545, R557, R428). -/
inductive NvsFor where
  | raw (r : Running)
  | recordPage (r : Running) (id : Nat) (first : Nat) (rest : List (List Byte)) (page : Nat)
  | shutdown (changes : List (Nat × Nat)) (cause : Nat)
  | counter (c : Nat)
  deriving DecidableEq, Repr

/-- One commit, running or waiting: the page, the offset of the first byte, the bytes gathered. -/
structure NvsTask where
  page : Nat := 0
  offset : Nat := 0
  data : List Byte := []
  goal : NvsFor := .counter 0
  deriving DecidableEq, Repr

/-- The NVS array, its page buffer, the commit running, the tasks waiting and the result of the record scan. -/
structure Nvs where
  cells : Sparse Byte := []
  page : Nat := 0
  buf : List Byte := []
  dirty : List Bool := []
  commit : Option NvsTask := none
  tasks : List NvsTask := []
  scanning : Bool := true
  inUse : Sparse (Nat × Nat) := []
  counters : Sparse Nat := []
  cleanAtScan : List Bool := [false, false, false, false]
  firstDone : List Bool := [false, false, false, false]
  writeDrop : Nat := 0
  deriving DecidableEq, Repr

/-! ## Memories and fabric (R23 to R31, R512 to R537) -/

/-- The central store, the on-chip SRAM, the AON SRAM, with marked errors (1 or 2 bits) by word, and their registers. -/
structure Mem where
  store : Sparse Byte := []
  sram : Sparse Byte := []
  aon : Sparse Byte := []
  storeErr : Sparse Nat := []
  sramErr : Sparse Nat := []
  aonErr : Sparse Nat := []
  scrubShift : Nat := 14
  idle : Nat := 0
  collide : Bool := false
  collideCnt : Nat := 0
  bar4Drop : Nat := 0
  corr : Sparse Nat := []
  unc : Sparse Nat := []
  latchHi : Sparse Nat := []
  tqDrop : Nat := 0
  psDrop : Nat := 0
  scrubPos : Sparse Nat := []
  corrAt : Sparse Nat := []
  deriving DecidableEq, Repr

/-- FAB_TGTn (R527); `prio` and `park` are held as the exclusive-or with their reset values, so that the default is 0. -/
structure FabTgt where
  bypass : Bool := false
  parkX : Nat := 0
  prioX : Nat := 0
  deriving DecidableEq, Repr

/-- The FABRIC block. -/
structure Fabric where
  tgt : Sparse FabTgt := []
  sliceIgnored : Bool := false
  errValid : Bool := false
  errAddr : Nat := 0
  errInfo : Nat := 0
  postedDrop : Nat := 0
  storeWin : Sparse Nat := []
  hostLo : Sparse Nat := []
  hostHi : Sparse Nat := []
  deriving DecidableEq, Repr

/-! ## Serial lanes (R393 to R416) -/

/-- The stage of a receiver's CTLE search (R401): sweep over 0–15, or the loop's base and trial sums. -/
structure CtleSearch where
  sweep : Bool := true
  boost : Nat := 0
  best : Nat := 0
  bestFom : Nat := 0
  up : Bool := true
  trial : Bool := false
  count : Nat := 0
  sum : Nat := 0
  base : Nat := 0
  deriving DecidableEq, Repr

/-- The stage of a driver lane's transmitter adaptation (R383). `next` is a setting that waits for a change point: a POST, or 16 more
than a PRE. -/
structure TxAdapt where
  pre : Bool := false
  up : Bool := true
  trial : Bool := false
  next : Option Nat := none
  dirty : Bool := false
  count : Nat := 0
  sum : Nat := 0
  base : Nat := 0
  trials : Nat := 0
  kept : Nat := 0
  reverted : Nat := 0
  deriving DecidableEq, Repr

/-- One lane window (R394 to R402, R412) and what stands behind it. Fields whose reset value is 1 on some families are held
complemented (rxAdaptOff, adaptOff, invOff). -/
structure Lane where
  loopback : Nat := 0
  bitslip : Bool := false
  rxAdaptOff : Bool := false
  rxInv : Bool := false
  txInv : Bool := false
  adaptOff : Bool := false
  pre : Nat := 0
  post : Nat := 4
  swing : Nat := 5
  testIgnored : Bool := false
  slipIgnored : Bool := false
  ebOvf : Bool := false
  blockLock : Bool := false
  cdrLock : Bool := false
  signal : Bool := false
  pllLock : Bool := false
  boundary : Nat := 0
  hunting : Bool := true
  deriving DecidableEq, Repr

/-- A lane's figure of merit and adaptation (R399 to R402, R383). -/
structure LaneFom where
  thresh : Nat := 64
  low : Nat := 0
  fom : Nat := 0
  ctle : CtleSearch := {}
  tx : TxAdapt := {}
  deriving DecidableEq, Repr

/-- A lane's PRBS generator and checker (R412 to R416). -/
structure LanePrbs where
  resync : Nat := 0
  chkSync : Bool := false
  invOff : Bool := false
  gen : Bool := false
  chk : Bool := false
  pattern : Nat := 4
  err : Nat := 0
  bits : Nat := 0
  latched : Nat := 0
  deriving DecidableEq, Repr

/-! ## Network (R87 to R139) -/

/-- A lane quad (R87). -/
structure Quad where
  mode : Nat := 0
  fec : Nat := 0
  deriving DecidableEq, Repr

/-- A frame that firmware transmits (R50, R101): what it is and the address or group it concerns. -/
inductive CtrlOut where
  | arpReply (target : Nat)
  | neighbourAdvert (target : Nat)
  | echoReply (host : Nat)
  | membership (group : Nat) (source : Option Nat) (join : Bool)
  | delayReq (domain : Nat) (unicast : Bool)
  deriving DecidableEq, Repr

/-- A network port (R91 to R101, R127). Fault received: 0 none, 1 local, 2 remote. -/
structure Port where
  mac : Nat := 0
  ip4 : Nat := 0
  ip4Len : Nat := 0
  ip6 : List Nat := [0, 0]
  untagged : Bool := false
  vids : List Nat := []
  up : Bool := false
  fault : Nat := 0
  ctrl : List (List Byte) := []
  ctrlOut : List CtrlOut := []
  sent : List (List Byte) := []
  echoes : Nat := 0
  echoSec : Nat := 0
  counters : Sparse Nat := []
  deriving DecidableEq, Repr

/-- A video slot with its descriptor (R111). State: 0 FREE, 1 OPEN, 2 COMPLETE, 3 PARTIAL. -/
structure Slot where
  state : Nat := 0
  field : Bool := false
  second : Bool := false
  changed : Bool := false
  legA : Bool := false
  legB : Bool := false
  rtpTs : Nat := 0
  frameTime : Nat := 0
  tpGen : Nat := 0
  readers : Nat := 0
  first : Nat := 0
  closeTime : Nat := 0
  missing : Nat := 0
  packets : Nat := 0
  seq : Nat := 0
  markerAt : Option Nat := none
  deriving DecidableEq, Repr

/-- A leg's run-time state (R117, R126, R128). `tokens` is what its token bucket holds at `stamp`, in units in which one byte is 10 × uSec
× the denominator of the declared rate. -/
structure LegState where
  active : Bool := false
  seq : Option Nat := none
  tokens : Nat := 0
  stamp : Nat := 0
  packets : Nat := 0
  bytes : Nat := 0
  rtpBad : Nat := 0
  policed : Nat := 0
  bad : Nat := 0
  outOfWindow : Nat := 0
  seqGap : Nat := 0
  deriving DecidableEq, Repr

/-- A receive flow-table entry (R102 to R128). -/
structure RxFlow where
  cfg : Option FlowSetP := none
  enabled : Bool := false
  a : LegState := {}
  b : LegState := {}
  lost : Bool := true
  slots : List Slot := []
  seen : List Nat := []
  frames : Nat := 0
  skipTs : Option Nat := none
  formatChanged : Bool := false
  ringWrite : Nat := 0
  gap : Bool := false
  dup : Nat := 0
  stale : Nat := 0
  latePkt : Nat := 0
  noSlot : Nat := 0
  ancOverflow : Nat := 0
  complete : Nat := 0
  incomplete : Nat := 0
  deriving DecidableEq, Repr

/-- A transmit flow (R132 to R139): its settings, the frame and packet due next, its counters. -/
structure TxFlow where
  cfg : Option TxSetP := none
  enabled : Bool := false
  frame : Nat := 0
  packet : Nat := 0
  started : Bool := false
  sending : Nat := 0
  repeating : Bool := false
  seq : Nat := 0
  linkDown : Nat := 0
  repeats : Nat := 0
  late : Nat := 0
  sent : Nat := 0
  lastRtp : Nat := 0
  deriving DecidableEq, Repr

/-! ## Matrix, layers, leases, audio (R140 to R184) -/

/-- A route (R140). Kind 0 NONE, 1 video, 2 graphics. -/
structure Route where
  kind : Nat := 0
  source : Nat := 0
  deriving DecidableEq, Repr

/-- A transition in progress (R151): the old side, the kind, N and the frame count i. -/
structure Transition where
  old : Route := {}
  kind : Nat := 0
  n : Nat := 1
  i : Nat := 0
  deriving DecidableEq, Repr

/-- A route change that R153 defers. -/
structure Deferred where
  p : RouteSetP
  e : Entry
  waited : Nat := 0
  deriving DecidableEq, Repr

/-- What one side of a destination selected for a frame: a slot of a flow (with its later blend partner and weight, R157). -/
structure Selected where
  flow : Nat := 0
  slot : Nat := 0
  time : Nat := 0
  partner : Option Nat := none
  weight : Nat := 0
  deriving DecidableEq, Repr

/-- The routing state of a destination (R146 to R156). -/
structure DestState where
  route : Route := {}
  switchWait : Nat := 8
  trans : Option Transition := none
  deferred : Option Deferred := none
  shown : Option Selected := none
  oldShown : Option Selected := none
  lossEnd : Bool := false
  faulted : Bool := false
  lateSource : Nat := 0
  blendSingle : Nat := 0
  coefH : Option (List Int) := none
  coefV : Option (List Int) := none
  deriving DecidableEq, Repr

/-- The settings of a head layer (R166, R654). Fields reset to non-zero values are given their R654 defaults here; Z is
held as its exclusive-or with the layer number, so that the default is Z = m. -/
structure LayerCfg where
  enable : Bool := false
  zX : Nat := 0
  crop : Rect := {}
  dest : Rect := {}
  g : Nat := 255
  fill : Nat := 0x80000000
  views : Nat := 15
  blend : Bool := false
  lossFill : Bool := false
  hold : Nat := 0
  bypass : Bool := false
  m1Loaded : Bool := false
  m1 : Matrix1 := {}
  m2 : List Int := matrix2Identity
  deriving DecidableEq, Repr

/-- A present in force or waiting on a host graphics layer (R171). -/
structure Present where
  p : PresentP
  lease : Nat := 0
  frame : Nat := 0xFFFFFFFF
  used : Bool := false
  faulted : Bool := false
  deriving DecidableEq, Repr

/-- A head layer. -/
structure Layer where
  cfg : LayerCfg := {}
  route : DestState := {}
  present : Option Present := none
  deriving DecidableEq, Repr

/-- A transmit output (R176, R177). `frame` is the next frame to compose, `itemsLeft` the frames in composition with slot and items left;
`done` lists complete frames with their slots, newest last. -/
structure Output where
  cfg : Option OutputSetP := none
  route : DestState := {}
  frame : Nat := 0
  slotNext : Nat := 0
  itemsLeft : List (Nat × Nat × Nat) := []
  done : List (Nat × Nat) := []
  abandonedT : Nat := 0
  tluts : List (List Nat) := []
  eluts : List (List Nat) := []
  deriving DecidableEq, Repr

/-- A lease (R172, R173). -/
structure Lease where
  head : Nat := 0
  layer : Nat := 0
  base : Nat := 0
  len : Nat := 0
  ending : Bool := false
  lastFrame : Nat := 0xFFFFFFFF
  breachFrame : Option Nat := none
  deriving DecidableEq, Repr

/-- An audio association of a video source (R178): flow 255 for none. -/
structure Assoc where
  flow : Nat := 255
  map : List Nat := []
  deriving DecidableEq, Repr

/-- A crossfade in progress (R179): the old flow and map, and the output sample it starts at. -/
structure Crossfade where
  old : Assoc := {}
  start : Nat := 0
  deriving DecidableEq, Repr

/-- The audio of a head (R178 to R184). -/
structure HeadAudio where
  layer : Nat := 0
  trim : Int := 0
  tdm : Bool := false
  tdm8 : Bool := false
  map : List Nat := []
  fade : Option Crossfade := none
  gap : Nat := 0
  next : Nat := 0
  out : List Int := []
  muted : Bool := false
  deriving DecidableEq, Repr

/-- The audio of a transmit audio flow (AUDIO_TX). -/
structure TxAudio where
  follows : Nat := 0
  index : Nat := 0
  map : List Nat := []
  fade : Option Crossfade := none
  gap : Nat := 0
  deriving DecidableEq, Repr

/-! ## Tiles and engines (R185 to R221) -/

/-- A descriptor entry of a tile record (R193). -/
structure TileEntry where
  frame : Nat := 0
  layers : Nat := 0
  ordered : Bool := false
  coalesced : Bool := false
  view : Nat := 0
  due : Nat := 0
  deriving DecidableEq, Repr

/-- A tile record (R192, R271). The entries are the waiting ring, oldest first; `rd` is the index of the oldest. -/
structure Tile where
  rd : Nat := 0
  running : Bool := false
  head : Nat := 0
  alloc : Bool := false
  pattern : Nat := 0
  sat : Bool := false
  ovr : Bool := false
  fresh : Bool := false
  lastComposed : Nat := 0
  lastDriven : Nat := 0
  miss : Nat := 0
  coalesce : Nat := 0
  entries : List TileEntry := []
  deriving DecidableEq, Repr

/-- A work item on a deque or an engine: its key, cost in ENGCLK, deadline and urgency (R199, R205, R207). -/
structure Item where
  key : ItemKey := {}
  cost : Nat := 0
  due : Nat := 0
  layers : Nat := 0
  started : Nat := 0
  deriving DecidableEq, Repr

/-- A cluster: its deque, its running items and counters (R207, R212). -/
structure Cluster where
  deque : List Item := []
  running : List Item := []
  steals : Nat := 0
  failed : Nat := 0
  deriving DecidableEq, Repr

/-- What a completed P-item leaves for the commit of its row beside the drive ring (R215): the new PANEL_FLAGS of its tiles
by tile index, what the statistics count, and for a check at the composed tap the words that it read, line by line, with the tile columns
that came from an older frame (R343, R344). -/
structure RunOut where
  head : Nat := 0
  frame : Nat := 0
  row : Nat := 0
  run : Nat := 0
  flags : List (Nat × Nat) := []
  overrides : Nat := 0
  saturated : Nat := 0
  satTile : Option Nat := none
  maxL : Nat := 0
  words : List Nat := []
  stale : List Nat := []
  deriving DecidableEq, Repr

/-- The tile-queue controller. -/
structure TileQueue where
  tiles : Sparse Tile := []
  clusters : Sparse Cluster := []
  held : List Item := []
  outs : List RunOut := []
  doneP : List ItemKey := []
  doneC : List ItemKey := []
  dead : List ItemKey := []
  deriving DecidableEq, Repr

/-! ## Heads (R222 to R346, R417 to R434) -/

/-- One set of panel tables (R263); an absent list is the R657 default. -/
structure PanelTables where
  gamma : Sparse (List Nat) := []
  od : Sparse (List Nat) := []
  dither : List Nat := []
  therm : List Int := []
  knees : List Nat := []
  deriving DecidableEq, Repr

/-- The pipeline settings of R266 with their defaults. -/
structure PanelSettings where
  gammaBypass : Bool := false
  muraEnable : Bool := false
  odEnable : Bool := false
  depth : Nat := 4
  resScale : Nat := 2
  restLevel : Nat := 0
  thermMin : Nat := 64
  thermMax : Nat := 4031
  faultBand : Nat := 4
  thresholds : List Int := [80, 240, 400, 560, 720, 880, 1040]
  settle : List Nat := [4000, 4000, 4000, 4000, 4000, 4000, 4000, 4000]
  deriving DecidableEq, Repr

/-- A whole panel set: tables and settings (R263, R266). -/
structure PanelSet where
  tables : PanelTables := {}
  settings : PanelSettings := {}
  deriving DecidableEq, Repr

/-- The line times of a frame (R305, R331, R335) in 2^-16 ns: line y starts at (num + y × per) / den, rounded to nearest. -/
structure LineClock where
  num : Int := 0
  den : Nat := 1
  per : Nat := 0
  deriving DecidableEq, Repr

/-- What a latch point fixes for a frame (R224, R247, R260, R274, R291). `kind`: 0 picture, 1 transition, 2 balancing,
3 warm-up. `lines` is 0 while the frame's length waits for the next planned frame (R331). `bufBase` and `bufCount` say where its
composed frames lie (R143). -/
structure Latched where
  frame : Nat := 0
  view : Nat := 0
  first : Bool := true
  last : Bool := true
  clock : LineClock := {}
  lines : Nat := 0
  set : PanelSet := {}
  band : Nat := 0
  mura : Nat := 0
  phase : Nat := 0
  e : Int := 0
  q0 : Int := 0
  allowed : Nat := 0
  clearing : Bool := false
  kind : Nat := 0
  code : Nat := 0
  warmN : Nat := 0
  bypassed : List (Nat × Nat) := []
  tick0 : Nat := 0
  tp0 : Nat := 0
  inc : Nat := 1
  slot0 : Nat := 0
  bufBase : Nat := 0
  bufCount : Nat := 0
  deriving DecidableEq, Repr

/-- The panel pipeline of a head. Tables are named (table id, index): `faulty` those in which an error was read, `bypassed` those whose
stage the latch points bypass (R267), `loaded` those loaded since the last activation. `bank` says which of the head's two banks holds
the active set (R263). -/
structure Panel where
  active : PanelSet := {}
  shadow : PanelSet := {}
  copying : Bool := false
  muraBase : List Nat := [0, 0]
  muraActive : Nat := 0
  muraRelease : Option (Nat × Nat) := none
  muraLast : Option Nat := none
  faulty : List (Nat × Nat) := []
  bypassed : List (Nat × Nat) := []
  loaded : List (Nat × Nat) := []
  bank : Nat := 0
  deriving DecidableEq, Repr

/-- The thermistor and band of a head (R242 to R251). -/
structure Therm where
  samples : List Int := []
  bad : Nat := 0
  invalid : Nat := 0
  fault : Bool := false
  band : Nat := 0
  bandSet : Bool := false
  latchedOnce : Bool := false
  deriving DecidableEq, Repr

/-- The ledger and VCOM loop of a head (R268 to R303). -/
structure Ledger where
  allowed : Nat := 0xC0
  warmTime : Nat := 4000
  warmCode : Nat := 512
  clearRows : List Nat := []
  q : Int := 0
  statFrame : Nat := 0
  statMaxL : Nat := 0
  statOverrides : Nat := 0
  statSat : Nat := 0
  saturated : Nat := 0
  satPosted : Option Nat := none
  dataLoss : Nat := 0
  warmLeft : Nat := 0
  warmDue : Bool := false
  warmCount : Nat := 0
  warmEnding : Bool := false
  parkL : Nat := 0
  deriving DecidableEq, Repr

/-- The VCOM settings' defaults (R285). -/
def vcomDefault : VcomP where
  head := 0
  v0 := 2048
  vmin := 0
  vmax := 4095
  senseEnable := 0
  senseTarget := 2048
  senseDelay := 20
  senseN := 16
  senseLimit := 256
  senseScale := 0
  trimGain := 64
  trimStep := 4

/-- The power sequence's defaults (R417). -/
def powerSeqDefault : PowerSeqP where
  head := 0
  penUsed := 15
  vcomSettle := 1000
  penDelay := 1000
  pgTimeout := 20
  trainDelay := 1000
  wdHold := 2000
  penGap := 100

/-- The VCOM loop of a head (R285 to R291). -/
structure Vcom where
  cfg : VcomP := vcomDefault
  dac : Nat := 2048
  driven : Bool := false
  e : Int := 0
  delta : Int := 0
  invalid : Nat := 0
  fault : Bool := false
  clamped : Nat := 0
  skipped : Nat := 0
  deriving DecidableEq, Repr

/-- What one tile row of a frame gives to a check at the composed tap (R343, R344): its words in the rectangle, unless it was skipped. -/
structure CheckPart where
  frame : Nat := 0
  row : Nat := 0
  words : List Nat := []
  skipped : Bool := false
  stale : Bool := false
  deriving DecidableEq, Repr

/-- A check rectangle (R342 to R346). Status as CHK_STATUS. `acc` is the CRC register of the drive tap over the lines scanned
so far of frame `accFrame`. -/
structure Check where
  cfg : Option CheckSetP := none
  learn : Bool := false
  expect : Nat := 0
  frame : Nat := 0
  crc : Nat := 0
  status : Nat := 0
  count : Nat := 0
  acc : Nat := 0
  accFrame : Option Nat := none
  accSkip : Bool := false
  accDone : Bool := false
  latchCrc : Nat := 0
  latchStatus : Nat := 0
  latchExpect : Nat := 0
  parts : List CheckPart := []
  deriving DecidableEq, Repr

/-- The gate settings of a head (R385, R625). -/
structure Gate where
  phases : Nat := 16
  pol : Nat := 0x7FFFF
  gckDelay : Nat := 60
  gateGuard : Nat := 40
  flush : Nat := 8
  parkHold : Nat := 2000
  deriving DecidableEq, Repr

/-- The gate and power outputs of a head as driven (R434). Panel outputs: high impedance while `driven` is clear. `gck` is
the mask of asserted phases. -/
structure Pins where
  driven : Bool := false
  gck : Nat := 0
  stv : Bool := false
  goe : Bool := false
  gallon : Bool := false
  pen : Nat := 0
  deriving DecidableEq, Repr

/-- Panel power of a head (R417 to R432). Phase: 0 none, 1 claiming, 2 VCOM settling, 3 waiting for a PGOOD, 4 PEN_DELAY,
5 TRAIN_DELAY, 6 training, 7 failing (drops), 8 powering down (drops), 9 wind-down hold, 10 wind-down drops. -/
structure PanelPower where
  seq : PowerSeqP := powerSeqDefault
  phase : Nat := 0
  enable : Nat := 0
  arrived : Nat := 0
  claims : Nat := 0
  pgLost : Bool := false
  pgEnable : Nat := 0
  held : Bool := false
  downAfterPark : Bool := false
  deriving DecidableEq, Repr

/-- The scan of a head (R305 to R332). `latched` holds the frame being scanned and those behind it, oldest first; `line` is the
next line to start. Rows of a frame are ready (committed) or skipped; `skips` gathers the ROW_SKIPPED event of a frame: frame,
rows, first row, cause. `planned` holds the planned frames of FOLLOW with their epochs;
`stopFrame` the number of the balancing frame of a stop (R316); `nextCfg` a raster change that waits for the end of the old frames (R324,
R325). -/
structure Scan where
  frame : Nat := 0
  line : Nat := 0
  nextCompose : Nat := 0
  nextLatch : Nat := 0
  firstFrame : Nat := 0
  seam : Bool := true
  latched : List Latched := []
  ready : List (Nat × Nat) := []
  skippedRows : List (Nat × Nat) := []
  skips : List (Nat × Nat × Nat × Nat) := []
  slotNext : Nat := 0
  windupTick : Nat := 0
  tBase : Nat := 0
  startTau : Nat := 0
  stopFrame : Option Nat := none
  balance : Bool := false
  parking : Bool := false
  transition : Nat := 0
  changing : Bool := false
  planned : List (Nat × Nat) := []
  eLast : Nat := 0
  nextCfg : Option HeadConfigP := none
  deriving DecidableEq, Repr

/-- Counters of a head (R219, R196, R331). -/
structure HeadCounts where
  skipped : Nat := 0
  abandonedP : Nat := 0
  abandonedC : Nat := 0
  lateC : Nat := 0
  orderLost : Nat := 0
  leaseDrop : Nat := 0
  breaches : Nat := 0
  followDrop : Nat := 0
  followLate : Nat := 0
  followRepeat : Nat := 0
  deriving DecidableEq, Repr

/-- One side of a layer in a frame: nothing (a route NONE), its fill, a video slot, or a graphics buffer. -/
inductive Side where
  | clear
  | fill
  | video (x : Selected)
  | graphics (p : PresentP)
  deriving DecidableEq, Repr

/-- One layer of a frame in composition: its settings, what each side shows and the transition weight (R151). -/
structure LayerShot where
  layer : Nat := 0
  cfg : LayerCfg := {}
  new : Side := .fill
  old : Side := .fill
  trans : Option Transition := none
  coefH : Option (List Int) := none
  coefV : Option (List Int) := none
  deriving DecidableEq, Repr

/-- A frame whose composition has started (R146, R169): its layers lowest Z first, the background, the slots held (R149) and the
leases its layers use (R173). -/
structure FrameShot where
  frame : Nat := 0
  view : Nat := 0
  layers : List LayerShot := []
  background : Nat := 0
  tluts : List (List Nat) := []
  eluts : List (List Nat) := []
  peak : Nat := 0
  held : List (Nat × Nat) := []
  leases : List Nat := []
  composed : Bool := false
  deriving DecidableEq, Repr

/-- The picture settings of a head (R164, HEAD_PICTURE). -/
structure Picture where
  background : Nat := 0
  peak : Nat := 0
  tluts : List (List Nat) := []
  eluts : List (List Nat) := []
  deriving DecidableEq, Repr

/-- A head's self-refresh settings and state (R304, R327). -/
structure SelfRefresh where
  mode : Nat := 0
  idle : Nat := 2000
  period : Nat := 50000
  holdLimit : Nat := 250
  deriving DecidableEq, Repr

/-- The tile range and drive ring allotted to a head (R187, R312) and its watermarks (R213). -/
structure Allot where
  tileBase : Nat := 0
  tiles : Nat := 0
  ringFirst : Nat := 0
  ringBanks : Nat := 0
  low : Nat := 24
  crit : Nat := 12
  nextWm : Option (Nat × Nat) := none
  deriving DecidableEq, Repr

/-- A head. `nextAllot` holds the tile range and drive ring (base, tiles, first bank, banks) of a raster change that waits (R325).
State: 0 OFF, 1 PARKED, 2 WARMUP, 3 RUNNING, 4 SELF_REFRESH, 5 STOPPING, 6 WIND_DOWN (R625). -/
structure Head where
  state : Nat := 0
  cfg : Option HeadConfigP := none
  views : List ViewP := []
  allot : Allot := {}
  nextAllot : Option (Nat × Nat × Nat × Nat) := none
  sr : SelfRefresh := {}
  picture : Picture := {}
  gate : Gate := {}
  gateNow : Gate := {}
  pins : Pins := {}
  power : PanelPower := {}
  panel : Panel := {}
  therm : Therm := {}
  ledger : Ledger := {}
  vcom : Vcom := {}
  scan : Scan := {}
  counts : HeadCounts := {}
  shots : List FrameShot := []
  audio : HeadAudio := {}
  checks : Sparse Check := []
  land : Bool := false
  deriving DecidableEq, Repr

/-! ## Rennex drivers (R347 to R384) -/

/-- The device's view of a Rennex driver. Link: 0 DOWN, 1 TRAIN, 2 CONFIG, 3 RATE, 4 UP, 5 FAILED. Head 255: set for none.
`silent` counts consecutive failed polls, `timeouts` consecutive missing reports; `ts2` says that the lanes run at TARGET in RATE;
`config` is the content of the last CONFIG sent, SEQ apart. -/
structure Driver where
  head : Nat := 255
  first : Nat := 0
  ch : Nat := 0
  lanes : Nat := 0
  rev : Bool := false
  vendor : List Byte := []
  link : Nat := 0
  slow : Bool := true
  tries : Nat := 0
  seq : Nat := 0
  silent : Nat := 0
  timeouts : Nat := 0
  ts2 : Bool := false
  bcTimeout : Nat := 0
  bcCrc : Nat := 0
  crcErr : Nat := 0
  missed : Nat := 0
  codeErr : Sparse Nat := []
  sent : List Byte := []
  config : List Byte := []
  polled : Bool := false
  deriving DecidableEq, Repr

/-- One port of a Rennex driver (R372, R377). -/
structure RennexPort where
  present : Bool := false
  seq : Nat := 0
  held : Option DlPacket := none
  invalid : Nat := 0
  rate : Nat := 1
  deriving DecidableEq, Repr

/-- A Rennex driver (R372 to R377). SEL: 0 NONE, 1 A, 2 B. Outputs: signed codes by channel, at VCOM where absent. -/
structure Rennex where
  sel : Nat := 0
  gen : Nat := 0
  a : RennexPort := {}
  b : RennexPort := {}
  configOk : Bool := false
  mismatch : Bool := false
  chUsed : Nat := 0
  outs : List Int := []
  missed : Nat := 0
  deriving DecidableEq, Repr

/-! ## Redundant pair (R437 to R468) -/

/-- A sequenced message sent and not yet acknowledged (R448), with the reply that its ACK releases (R454). -/
structure SentMsg where
  mseq : Nat := 0
  mtype : Nat := 0
  body : List Byte := []
  tries : Nat := 0
  reply : Option Reply := none
  deriving DecidableEq, Repr

/-- The pair logic. `lead` says that HELLO made this device the active, `asked` that the standby has asked for rows since link-up; `delay` is
in 2^-4 ns, `echoes` the one-way delays measured, in 2^-16 ns; `outbox` lists what was sent, by message or block type, newest last. State: 0 SOLO, 1 LINKING, 2 ACTIVE, 3 JOINING, 4 SYNCING, 5 HOT, 6 UNSYNCED (R627). -/
structure Pair where
  enable : Bool := false
  prefer : Nat := 0
  auto : Bool := false
  port : Nat := 0
  state : Nat := 0
  linkUp : Bool := false
  baton : Bool := false
  batonOut : Bool := false
  batonIn : Bool := false
  gen : Nat := 0
  partnerUid : Nat := 0
  helloSeen : Bool := false
  lead : Bool := false
  partnerGen : Nat := 0
  asked : Bool := false
  delay : Nat := 0
  echoes : List Nat := []
  echoSent : Nat := 0
  nextSeq : Nat := 1
  rxSeq : Nat := 1
  sent : List SentMsg := []
  outbox : List (Nat × List Byte) := []
  beats : Nat := 0
  tBase : Nat := 0
  deriving DecidableEq, Repr

/-- The pair's lockstep bookkeeping (R454 to R468): the rows now divergent, the rows held complete, how many rows of a frame have matched,
the hand-over line (frame, line, G, DAC code), `overlap` from the release of the gate nets to that of PEN and VCOM_OUT, `redrive` where a failed
hand-over takes the gate nets back at the next line, and the rows that the standby has asked for. -/
structure PairSync where
  divergent : List Nat := []
  complete : List (Nat × Nat) := []
  matched : Nat × Nat := (0, 0)
  phaseErr : Nat := 0
  phaseRun : Nat := 0
  latchLate : Nat := 0
  selectMiss : Nat := 0
  latchFor : Option (Nat × Nat × Int × Nat × Int) := none
  latchWaited : Bool := false
  selects : Option (Nat × List (Nat × Nat)) := none
  selectWaited : Bool := false
  release : Option (Nat × Nat × Nat × Nat) := none
  windDown : Bool := false
  overlap : Bool := false
  redrive : Bool := false
  slow : Bool := false
  requests : List Nat := []
  tpStamp : Option Nat := none
  stepped : Bool := false
  deriving DecidableEq, Repr

/-! ## The outside's view of the last access -/

/-- The model's own record of what the last bus access, register read or management read returned: its bytes, and whether
it was an error response or a poisoned completion. -/
structure Answer where
  bytes : List Byte := []
  error : Bool := false
  poisoned : Bool := false
  acked : Bool := true
  deriving DecidableEq, Repr

end Sys2Proof.Machine
end

