-- ==== Sys2Proof/Machine/State.lean ====
section
/-! DEFINITION. The machine's state, whole and as plain data, the reasons a step can stop, and the state after reset. -/

namespace Sys2Proof.Machine

/-- The machine: every block of R20 to R42 with the registers, buffers, counters and pins the rules give it, and the queue
of commands that wait, first in, first out. `free` is the model's own counter of free values drawn (the spec leaves each of
those values open), and `answer` the model's own record of what the last access returned. -/
structure State where
  pending : List Instr := []
  sys : Sys := {}
  clocks : Clocks := {}
  wind : Option WindDown := none
  power : Power := {}
  time : TimeUnit := {}
  timeRegs : TimeRegs := {}
  domains : Sparse Domain := [(0, { number := 127 })]
  evtIn : Sparse EvtIn := []
  evtOut : Sparse EvtOut := []
  rings : Sparse Ring := []
  cp : CmdProc := {}
  mbx : Mailbox := {}
  log : FaultLog := {}
  nvs : Nvs := {}
  mem : Mem := {}
  fab : Fabric := {}
  lanes : Sparse Lane := []
  foms : Sparse LaneFom := []
  prbs : Sparse LanePrbs := []
  quads : Sparse Quad := []
  ports : Sparse Port := []
  flows : Sparse RxFlow := []
  txs : Sparse TxFlow := []
  layers : Sparse Layer := []
  outputs : Sparse Output := []
  outShots : Sparse (List FrameShot) := []
  leases : Sparse Lease := []
  assocs : Sparse Assoc := []
  txAudio : Sparse TxAudio := []
  tq : TileQueue := {}
  heads : Sparse Head := []
  drivers : Sparse Driver := []
  polls : Sparse Nat := []
  rennex : Sparse Rennex := []
  pair : Pair := {}
  sync : PairSync := {}
  free : Nat := 0
  answer : Answer := {}
  deriving DecidableEq, Repr

/-- Why a step stops with a fault. -/
inductive Fault where
  /-- Raised by no command of this model: kept so that the type is not empty of meaning; a fault would be safe. -/
  | none
  deriving DecidableEq, Repr

/-- Why a step has no meaning. -/
inductive Refusal where
  /-- Raised by the dispatch of a row that has no meaning yet, by its mnemonic; safe. -/
  | notModelled (mnemonic : String)
  deriving DecidableEq, Repr

/-- The machine right after reset, as R592 describes AON reset: every plane held, PERST# asserted, every register at its
reset value, no memory byte listed. Values the rules do not state are named in the assumption log. -/
def State.reset : State := {}

end Sys2Proof.Machine
end

