-- ==== Sys2Proof/Machine/Ops.lean ====
section
/-! DEFINITION. The named operations over the state: time, indexed blocks, events, replies, the tests of R487 and the three
ways a command takes effect (R486 to R491). Every meaning is written over these. -/

namespace Sys2Proof.Machine

/-! ## Time -/

/-- 2^-16 ns units in one second. -/
def uSec : Nat := 65536000000000

/-- A counter's visible value in 2^-16 ns: seconds modulo 2^48 (R43). -/
def visible (c : Nat) : Nat := c / 2 ^ 32 % (2 ^ 48 * uSec)

/-- TP in 2^-16 ns. -/
def State.tp (s : State) : Nat := visible s.time.tp

/-- A counter value for a time in 2^-16 ns. -/
def counterOf (u : Nat) : Nat := u * 2 ^ 32

/-- The stored time layout of a time in 2^-16 ns (R14, R111). -/
def toStored (u : Nat) : StoredTime := ⟨u / uSec, u % uSec / 65536, u % 65536⟩

/-- The time in 2^-16 ns that a stored time names. -/
def unitsOf (t : StoredTime) : Nat := t.sec * uSec + t.ns * 65536 + t.frac

/-- The 12 bytes of a stored time (R111): fraction, nanoseconds, seconds. -/
def timeBytes (u : Nat) : List Byte :=
  let t := toStored u
  leBytes 2 t.frac ++ leBytes 4 t.ns ++ leBytes 6 t.sec

/-- An all-ones stored time (R155). -/
def noTime : List Byte := leBytes 12 (2 ^ 96 - 1)

/-- D of a rate, where a field of 0 stands for 2^16 (R70, R494). -/
def rateDen (r : Rate) : Nat := if r.d = 0 then 65536 else r.d

/-- Frame epoch k of a rate in 2^-16 ns, rounded to nearest with ties upward (R70). -/
def epoch (r : Rate) (k : Nat) : Nat := (2 * k * (rateDen r) * uSec + r.n) / (2 * r.n)

/-- The number of the frame in progress at a time (R70). -/
def frameAt (r : Rate) (t : Nat) : Nat := t * r.n / ((rateDen r) * uSec)

/-- The first frame whose epoch lies at or after a time. -/
def frameFrom (r : Rate) (t : Nat) : Nat :=
  let k := frameAt r t
  if epoch r k ≥ t then k else k + 1

/-- The frame period in 2^-16 ns, rounded down. -/
def period (r : Rate) : Nat := rateDen r * uSec / r.n

/-! ## Indexed blocks -/

/-- Head n. -/
def State.head (s : State) (n : Nat) : Head := spGet s.heads {} n
/-- Writes head n. -/
def State.setHead (s : State) (n : Nat) (h : Head) : State := { s with heads := spSet {} s.heads n h }
/-- Changes head n. -/
def State.modHead (s : State) (n : Nat) (f : Head → Head) : State := s.setHead n (f (s.head n))

/-- Ring r (R606). -/
def State.ring (s : State) (r : Nat) : Ring := spGet s.rings {} r
/-- Writes ring r. -/
def State.setRing (s : State) (r : Nat) (x : Ring) : State := { s with rings := spSet {} s.rings r x }

/-- Lane i (R393). -/
def State.lane (s : State) (i : Nat) : Lane := spGet s.lanes {} i
/-- Writes lane i. -/
def State.setLane (s : State) (i : Nat) (l : Lane) : State := { s with lanes := spSet {} s.lanes i l }
/-- The figure of merit of lane i. -/
def State.fom (s : State) (i : Nat) : LaneFom := spGet s.foms {} i
/-- Writes the figure of merit of lane i. -/
def State.setFom (s : State) (i : Nat) (l : LaneFom) : State := { s with foms := spSet {} s.foms i l }
/-- The PRBS block of lane i. -/
def State.prb (s : State) (i : Nat) : LanePrbs := spGet s.prbs {} i
/-- Writes the PRBS block of lane i. -/
def State.setPrb (s : State) (i : Nat) (l : LanePrbs) : State := { s with prbs := spSet {} s.prbs i l }

/-- Network port n. -/
def State.port (s : State) (n : Nat) : Port := spGet s.ports {} n
/-- Writes network port n. -/
def State.setPort (s : State) (n : Nat) (p : Port) : State := { s with ports := spSet {} s.ports n p }
/-- Quad q. -/
def State.quad (s : State) (q : Nat) : Quad := spGet s.quads {} q
/-- Receive flow of a kind (0 V, 1 A, 2 X) and index. -/
def State.flow (s : State) (kind i : Nat) : RxFlow := spGet s.flows {} (64 * kind + i)
/-- Writes a receive flow. -/
def State.setFlow (s : State) (kind i : Nat) (f : RxFlow) : State := { s with flows := spSet {} s.flows (64 * kind + i) f }
/-- Transmit flow of a kind (3 T, 4 U) and index. -/
def State.tx (s : State) (kind i : Nat) : TxFlow := spGet s.txs {} (64 * (kind - 3) + i)
/-- Writes a transmit flow. -/
def State.setTx (s : State) (kind i : Nat) (f : TxFlow) : State := { s with txs := spSet {} s.txs (64 * (kind - 3) + i) f }

/-- Layer m of head n by its code 16 n + m. -/
def State.layer (s : State) (c : Nat) : Layer := spGet s.layers {} c
/-- Writes a layer. -/
def State.setLayer (s : State) (c : Nat) (l : Layer) : State := { s with layers := spSet {} s.layers c l }
/-- Transmit output n. -/
def State.output (s : State) (n : Nat) : Output := spGet s.outputs {} n
/-- Writes a transmit output. -/
def State.setOutput (s : State) (n : Nat) (o : Output) : State := { s with outputs := spSet {} s.outputs n o }

/-- Tile record of an index (R191). -/
def State.tile (s : State) (i : Nat) : Tile := spGet s.tq.tiles {} i
/-- Writes a tile record. -/
def State.setTile (s : State) (i : Nat) (t : Tile) : State := { s with tq := { s.tq with tiles := spSet {} s.tq.tiles i t } }
/-- Cluster n. -/
def State.cluster (s : State) (n : Nat) : Cluster := spGet s.tq.clusters {} n
/-- Writes cluster n. -/
def State.setCluster (s : State) (n : Nat) (c : Cluster) : State :=
  { s with tq := { s.tq with clusters := spSet {} s.tq.clusters n c } }

/-- Driver d as the device sees it. -/
def State.driver (s : State) (d : Nat) : Driver := spGet s.drivers {} d
/-- Writes driver d. -/
def State.setDriver (s : State) (d : Nat) (x : Driver) : State := { s with drivers := spSet {} s.drivers d x }
/-- Rennex driver d itself. -/
def State.renn (s : State) (d : Nat) : Rennex := spGet s.rennex {} d
/-- Writes Rennex driver d. -/
def State.setRenn (s : State) (d : Nat) (x : Rennex) : State := { s with rennex := spSet {} s.rennex d x }

/-- PTP domain d (0 A, 1 B). -/
def State.domain (s : State) (d : Nat) : Domain := spGet s.domains {} d
/-- Writes a PTP domain. -/
def State.setDomain (s : State) (d : Nat) (x : Domain) : State := { s with domains := spSet {} s.domains d x }

/-- The state of power domain d: 0 on, 1 retention, 2 off. -/
def State.pd (s : State) (d : Nat) : Nat := spGet s.power.dom 0 d
/-- Whether power domain d is on and not in transition. -/
def State.pdOn (s : State) (d : Nat) : Bool :=
  s.pd d == 0 && (match s.power.change with | some c => c.domain != d | none => true)
/-- Whether the central store is available: both stacks on (R25). -/
def State.storeOn (s : State) : Bool := s.pdOn 9 && s.pdOn 10

/-- Draws the next free natural number. -/
def State.drawNat (s : State) : Nat × State := (Config.freeNat s.free, { s with free := s.free + 1 })
/-- Draws the next free integer. -/
def State.drawInt (s : State) : Int × State := (Config.freeInt s.free, { s with free := s.free + 1 })

/-- Records what an access returned. -/
def State.say (s : State) (bs : List Byte) : State := { s with answer := { bytes := bs } }
/-- Records an access that ended in an error response or all-ones data (R525). -/
def State.sayError (s : State) (bs : List Byte) : State := { s with answer := { bytes := bs, error := true } }

/-! ## Events and the fault log -/

/-- An event occurs: it carries TP and the TP generation (R492) and waits to be posted. Origin 0 data, 1 control,
2 management plane. -/
def State.post (s : State) (code object origin : Nat) (payload : List Byte) : State :=
  { s with cp := { s.cp with events := s.cp.events ++
      [{ code := code, object := object, origin := origin, payload := payload, time := s.tp, gen := s.time.tpGen }] } }

/-- Writes an entry of the fault log whole, then counts it (R628, R629). -/
def State.logFault (s : State) (code origin : Nat) (data : List Byte) : State :=
  let e := leBytes 4 s.log.count ++ leBytes 2 code ++ leBytes 1 origin ++ leBytes 1 0 ++ timeBytes s.tp ++
    leBytes 2 s.time.tpGen ++ leBytes 2 0 ++ sliceBytes data 0 40
  { s with log := { s.log with entries := spSet [] s.log.entries (s.log.count % 256) e, count := s.log.count + 1 } }

/-- CMD_APPLIED, unless the command carried NO_APPLIED (R484, R490, R493). -/
def State.applied (s : State) (acceptNo tag frame head : Nat) (late noApplied : Bool) : State :=
  if noApplied then s else
    s.post 0xE001 tag 1 (leBytes 4 acceptNo ++ leBytes 4 frame ++ leBytes 1 head ++ leBytes 1 (b2n late))

/-- CMD_DROPPED with its cause: 1 CANCELLED, 2 REPLACED, 3 RESET, 4 STATE (R490, R495). -/
def State.dropped (s : State) (acceptNo tag cause : Nat) : State :=
  s.post 0xE002 tag 1 (leBytes 4 acceptNo ++ leBytes 1 cause)

/-- CMD_APPLIED of a waiting entry. -/
def State.entryApplied (s : State) (e : Entry) (frame head : Nat) : State :=
  s.applied e.acceptNo e.tag frame head e.late e.noApplied

/-- CMD_APPLIED of a process command. -/
def State.procApplied (s : State) (p : Proc) (frame head : Nat) : State :=
  s.applied p.acceptNo p.tag frame head false p.noApplied

/-- Ends every process command of an opcode and object: CMD_APPLIED, or CMD_DROPPED with cause STATE. -/
def State.endProcs (s : State) (opcode object frame head : Nat) (ok : Bool) : State :=
  let (mine, rest) := s.cp.procs.partition (fun p => p.opcode == opcode && p.object == object)
  let s := { s with cp := { s.cp with procs := rest } }
  mine.foldl (fun s p => if ok then s.procApplied p frame head else s.dropped p.acceptNo p.tag 4) s

/-! ## The pair, as far as commands concern it -/

/-- Whether this device is a standby: JOINING, SYNCING, HOT or UNSYNCED. -/
def State.standby (s : State) : Bool := decide (3 ≤ s.pair.state)

/-- Whether this device is the active of a linked pair. -/
def State.pairActive (s : State) : Bool := s.pair.state == 2 && s.pair.linkUp

/-- The head that a device of a pair serves (R437). -/
def State.pairHead (s : State) : Nat := ([0, 1, 2, 3].find? (fun n => (s.head n).cfg.isSome)).getD 0

/-- Posts a pair event: G and the first and last line concerned (R493). -/
def State.pairPost (s : State) (code first last : Nat) : State :=
  s.post code s.pairHead 0 (leBytes 1 s.pair.gen ++ leBytes 4 first ++ leBytes 4 last)

/-- A standby enters UNSYNCED (R442); a rejoin in progress ends. -/
def State.unsync (s : State) : State :=
  ({ s with pair := { s.pair with state := 6 } } : State).endProcs 0x0D03 0 0xFFFFFFFF 255 false

/-- The source of a command that the active has forwarded (R454), beside 0 to 3 for the rings and 4 for the mailbox. -/
abbrev fromPair : Nat := 5

/-! ## Commands -/

/-- Status codes of R486. -/
abbrev stOk : Nat := 0x0000
/-- ACCEPTED. -/
abbrev stAccepted : Nat := 0x0001
/-- IGNORED. -/
abbrev stIgnored : Nat := 0x0101
/-- BUSY. -/
abbrev stBusy : Nat := 0x0102
/-- NOT_READY. -/
abbrev stNotReady : Nat := 0x0103
/-- BAD_OPCODE. -/
abbrev stBadOpcode : Nat := 0x0201
/-- BAD_LENGTH. -/
abbrev stBadLength : Nat := 0x0202
/-- BAD_PARAM. -/
abbrev stBadParam : Nat := 0x0203
/-- NO_RESOURCE. -/
abbrev stNoResource : Nat := 0x0301
/-- REFUSED. -/
abbrev stRefused : Nat := 0x0302
/-- TIMEOUT. -/
abbrev stTimeout : Nat := 0x0401
/-- FAULT. -/
abbrev stFault : Nat := 0x0501

/-- The acceptance number of a command that was not accepted (R485). -/
abbrev noAccept : Nat := 0xFFFFFFFF

/-- What a command's own rules say of it in the present state, one field per status, in the order of R487. -/
structure Checks where
  bad : Bool := false
  notReady : Bool := false
  busy : Bool := false
  ignored : Bool := false
  noResource : Bool := false
  refused : Bool := false
  deriving DecidableEq, Repr

/-- The launch time of a timed command in 2^-16 ns. -/
def launchAt (h : Hdr) : Nat := unitsOf h.launch

/-- Whether the launch time itself is malformed: its nanoseconds (R482), or more than 86,400 s ahead (R74). -/
def launchBad (h : Hdr) (s : State) : Bool :=
  h.timed && (decide (h.launch.ns ≥ 1000000000) || decide (launchAt h > s.tp + 86400 * uSec))

/-- Whether the launch time lies more than 1 s behind TP (R74). -/
def launchPast (h : Hdr) (s : State) : Bool := h.timed && decide (launchAt h + uSec < s.tp)

/-- The entries of a launch queue (R73); entries that wait only for a boundary take no place in it. -/
def queueLen (s : State) (q : Nat) : Nat := (s.cp.launch.filter (fun e => e.queue == q && e.timed)).length

/-- Whether a timed command finds its launch queue full (R73). -/
def queueFull (h : Hdr) (s : State) (q : Nat) : Bool := h.timed && decide (queueLen s q ≥ 256)

/-- The first status of R487 that applies, `none` where the command passes every test. `t` says whether the opcode may
carry TIMED (mark T). -/
def testCmd (h : Hdr) (t : Bool) (q : Nat) (c : Checks) (s : State) : Option Nat :=
  if c.bad || (h.timed && !t) || launchBad h s then some stBadParam
  else if h.genCheck && h.gen != s.time.tpGen then some stRefused
  else if c.notReady then some stNotReady
  else if c.busy then some stBusy
  else if c.ignored then some stIgnored
  else if c.noResource || queueFull h s q then some stNoResource
  else if c.refused || launchPast h s then some stRefused
  else none

/-- Queues a reply, unless the command was SILENT and the status is OK or ACCEPTED (R484). A forwarded command has no reply: a standby
that refuses it posts PAIR_CONFIG_MISMATCH and enters UNSYNCED (R454). -/
def State.reply (s : State) (h : Hdr) (opcode status acceptNo : Nat) (mgt : Bool) (params : List Byte) : State :=
  if h.src == fromPair then
    (if status == stOk || status == stAccepted || status == stIgnored then s else (s.pairPost 0xE093 0 0).unsync)
  else if h.silent && (status == stOk || status == stAccepted) then s else
    { s with cp := { s.cp with replies := s.cp.replies ++
        [{ src := h.src, opcode := opcode, tag := h.tag, status := status, mgt := mgt, acceptNo := acceptNo,
           params := params }] } }

/-- Takes the next acceptance number (R475). -/
def State.takeNo (s : State) : State := { s with cp := { s.cp with acceptNo := inc32 s.cp.acceptNo } }

/-- Whether the management core executes an opcode (R505). -/
def mgtOpcode (op : Nat) : Bool :=
  op / 256 == 0x0E || op / 256 == 0x0F || op == 0x0103 || op == 0x0104

/-- The command groups FLOW to AUDIO, which the active of a pair forwards (R454). -/
def pairGroup (op : Nat) : Bool := decide (4 ≤ op / 256 ∧ op / 256 ≤ 0x0C)

/-- The tests of a command with what R486 and R41 add before READY: the command processor has not finished starting, while the
management core serves its own groups (R505); and a standby refuses what host software must send to the active (R454). -/
def Checks.served (c : Checks) (h : Hdr) (op : Nat) (s : State) : Checks :=
  { c with notReady := c.notReady || (!mgtOpcode op && !s.sys.ready),
           refused := c.refused || (s.standby && h.src != fromPair && pairGroup op) }

/-- Answers a command that failed a test: a packet that fails the tests of form is not accepted (R485), any other is. -/
def rejectCmd (h : Hdr) (op status : Nat) (detail : List Byte) (s : State) : State :=
  if status == stBadParam || status == stBadOpcode || status == stBadLength then
    s.reply h op status noAccept (mgtOpcode op) []
  else (s.takeNo).reply h op status s.cp.acceptNo (mgtOpcode op) detail

/-- A command that passes its tests and acts at once: it takes its acceptance number, `eff` acts, the reply is OK (R489). -/
def runNow (h : Hdr) (op : Nat) (c : Checks) (s : State) (eff : State → State × List Byte) : State :=
  match testCmd h false 4 (c.served h op s) s with
  | some st => rejectCmd h op st [] s
  | none =>
    let (s', out) := eff s.takeNo
    s'.reply h op stOk s.cp.acceptNo (mgtOpcode op) out

/-- A command that reads state and answers, changing nothing else. -/
def runRead (h : Hdr) (op : Nat) (c : Checks) (s : State) (out : State → List Byte) : State :=
  runNow h op c s (fun s => (s, out s))

/-- A command whose acceptance starts a process that ends in a named event (mark P): the reply is ACCEPTED and CMD_APPLIED
is due when the process ends (R490). `eff` receives the process record that the end of the process finds again. -/
def runProc (h : Hdr) (op object : Nat) (c : Checks) (s : State) (eff : Proc → State → State) : State :=
  match testCmd h false 4 (c.served h op s) s with
  | some st => rejectCmd h op st [] s
  | none =>
    let p : Proc := { opcode := op, object := object, acceptNo := s.cp.acceptNo, tag := h.tag, noApplied := h.noApplied }
    eff p ((s.takeNo).reply h op stAccepted s.cp.acceptNo (mgtOpcode op) [])

/-- Registers a process command as waiting for its end. -/
def State.addProc (s : State) (p : Proc) : State := { s with cp := { s.cp with procs := s.cp.procs ++ [p] } }

/-- The entry that an accepted command leaves behind (R73, R77): an untimed one is ordered as if its launch time were TP at
acceptance. -/
def mkEntry (h : Hdr) (q : Nat) (i : Instr) (s : State) : Entry :=
  { queue := q, timed := h.timed, t := if h.timed then launchAt h else s.tp, acceptNo := s.cp.acceptNo, tag := h.tag,
    noApplied := h.noApplied, cmd := i }

/-- Puts an entry among the waiting commands. -/
def State.enqueue (s : State) (e : Entry) : State := { s with cp := { s.cp with launch := s.cp.launch ++ [e] } }

/-- A command that takes effect at a boundary (mark B) or at its launch time: ACCEPTED, and the entry waits. Where `atOnce`
holds and the command is untimed, it takes effect before its reply and CMD_APPLIED follows (R653). `eff` is the effect. -/
def runBound (h : Hdr) (op : Nat) (t : Bool) (q : Nat) (i : Instr) (atOnce : Bool) (c : Checks) (detail : List Byte)
    (params : State → List Byte) (s : State) (eff : Entry → State → State) (data : List Byte := []) : State :=
  match testCmd h t q (c.served h op s) s with
  | some st => rejectCmd h op st (if st == stRefused && !(h.genCheck && h.gen != s.time.tpGen) then detail else []) s
  | none =>
    let e := { mkEntry h q i s with data := data }
    let s1 := s.takeNo
    let out := params s1
    if atOnce && !h.timed then
      let s2 := eff e s1
      s2.reply h op stAccepted s.cp.acceptNo (mgtOpcode op) out
    else (s1.enqueue e).reply h op stAccepted s.cp.acceptNo (mgtOpcode op) out

/-- An immediate command that may carry TIMED (marks I and T): without it, at once with reply OK; with it, ACCEPTED, and the
effect follows at its launch time (R491). -/
def runNowT (h : Hdr) (op q : Nat) (i : Instr) (c : Checks) (s : State) (eff : State → State) : State :=
  match testCmd h true q (c.served h op s) s with
  | some st => rejectCmd h op st [] s
  | none =>
    if h.timed then (s.takeNo.enqueue (mkEntry h q i s)).reply h op stAccepted s.cp.acceptNo (mgtOpcode op) []
    else (eff s.takeNo).reply h op stOk s.cp.acceptNo (mgtOpcode op) []

/-- A command whose reply waits for work in progress: it is accepted now and answered when the work ends (R476). -/
def runLater (h : Hdr) (op object : Nat) (i : Instr) (c : Checks) (s : State) (eff : Running → State → State) : State :=
  match testCmd h false 4 (c.served h op s) s with
  | some st => rejectCmd h op st [] s
  | none =>
    let r : Running := { src := h.src, opcode := op, tag := h.tag, silent := h.silent, acceptNo := s.cp.acceptNo,
                         object := object, cmd := i }
    eff r s.takeNo

/-- Registers a running command. -/
def State.addRunning (s : State) (r : Running) : State := { s with cp := { s.cp with running := s.cp.running ++ [r] } }

/-- The late reply of a running command; nothing where it has been answered already (R488). -/
def State.finish (s : State) (r : Running) (status : Nat) (params : List Byte) : State :=
  if s.cp.running.all (fun x => x.acceptNo != r.acceptNo) then s else
  let s := { s with cp := { s.cp with running := s.cp.running.filter (fun x => x.acceptNo != r.acceptNo) } }
  s.reply { src := r.src, tag := r.tag, silent := r.silent } r.opcode status r.acceptNo (mgtOpcode r.opcode) params

/-- The frame field of CMD_APPLIED where no frame is concerned (R653). -/
abbrev noFrame : Nat := 0xFFFFFFFF

/-- A command whose work found an internal error: FAULT, logged (R486, R629). -/
def State.failCmd (s : State) (h : Hdr) (op : Nat) : State :=
  rejectCmd h op stFault [] (s.logFault 0xF004 1 (leBytes 2 op ++ leBytes 4 h.tag))

/-- A command that must reach the central store: while a stack is not on, it is accepted and waits (R25, R488), and PD_CHANGED
or COMMAND_TIMEOUT ends the wait; else it runs. -/
def withStore (h : Hdr) (op : Nat) (i : Instr) (s : State) (run : State → State) : State :=
  if s.storeOn || !s.sys.ready then run s
  else runLater h op 0 i {} s (fun r s => s.addRunning { r with waitsStore := true })

/-! ## Heads: the states of R310 -/

/-- A scanning state of R310. -/
def Head.scans (h : Head) : Bool := h.state == 2 || h.state == 3 || h.state == 4 || h.state == 5

/-- A head that R653 names: OFF, PARKED, in the wind-down, or STOPPING once its completion frame is fixed. -/
def Head.idle (h : Head) : Bool := h.state == 0 || h.state == 1 || h.state == 6

/-- A head whose commands of mark B take effect when it parks (R653, STOPPING). -/
def Head.stopping (h : Head) : Bool := h.state == 5

/-- Whether any head has a panel enable asserted (R593). -/
def State.anyEnable (s : State) : Bool := [0, 1, 2, 3].any (fun n => (s.head n).pins.pen != 0)

/-- The four heads. -/
def headNums : List Nat := [0, 1, 2, 3]

/-- Whether any head scans. -/
def State.anyScans (s : State) : Bool := headNums.any (fun n => (s.head n).scans)

/-- The configured width and height of a head. -/
def Head.w (h : Head) : Nat := match h.cfg with | some c => c.w | none => 0
/-- The configured height of a head. -/
def Head.hh (h : Head) : Nat := match h.cfg with | some c => c.h | none => 0
/-- Tile columns of a head (R186). -/
def Head.tw (h : Head) : Nat := ceilDiv h.w 16
/-- Tile rows of a head (R186). -/
def Head.th (h : Head) : Nat := ceilDiv h.hh 8
/-- The rate of a head. -/
def Head.rate (h : Head) : Rate := match h.cfg with | some c => c.rate | none => ⟨1, 1⟩

/-- Every entry of the launch list that satisfies `p` is dropped with a cause. -/
def State.dropEntries (s : State) (p : Entry → Bool) (cause : Nat) : State :=
  let (mine, rest) := s.cp.launch.partition p
  let s := { s with cp := { s.cp with launch := rest } }
  mine.foldl (fun s e => s.dropped e.acceptNo e.tag cause) s

end Sys2Proof.Machine
end

