-- ==== Sys2Proof/Machine/Nvs.lean ====
section
/-! DEFINITION. The nonvolatile store: page buffer and commit (R542 to R547), records (R552 to R560), counters (R561 to R564),
and the NVS command group with the events that drive it. -/

namespace Sys2Proof.Machine

/-! ## Array, records and counters -/

/-- The 64 bytes of a page (R538). -/
def nvsPage (n : Nvs) (p : Nat) : List Byte := readBytes n.cells (64 * p) 64

/-- Data bytes of a record (R552); 0 for an id outside the table. -/
def recordSize (id : Nat) : Nat :=
  if id < 0x10 then 52 else if 0x100 ≤ id ∧ id ≤ 0x1BF then 116 else if 0x200 ≤ id ∧ id ≤ 0x207 then 372 else 0

/-- Pages per copy of a record (R552). -/
def recordPages (id : Nat) : Nat := if id < 0x10 then 1 else if id ≤ 0x1BF then 2 else 6

/-- The first page of copy 0 (A) or 1 (B) of a record (R552). -/
def recordPage (id copy : Nat) : Nat :=
  if id < 0x10 then 3072 + 2 * id + copy
  else if id ≤ 0x1BF then 3104 + 4 * (id - 0x100) + 2 * copy
  else 3872 + 12 * (id - 0x200) + 6 * copy

/-- The bytes of a record copy. -/
def recordCopy (n : Nvs) (id copy : Nat) : List Byte := readBytes n.cells (64 * recordPage id copy) (12 + recordSize id)

/-- The CRC of a record copy (R553): over ID, FORMAT, SEQ and the data. -/
def recordCrc (bs : List Byte) : Nat := crc32 (bs.take 8 ++ bs.drop 12)

/-- Whether a copy is valid (R555). -/
def copyValid (id : Nat) (bs : List Byte) : Bool :=
  fieldAt bs 0 2 == id && fieldAt bs 2 2 == 1 && fieldAt bs 8 4 == recordCrc bs

/-- The sequence number of a copy. -/
def copySeq (bs : List Byte) : Nat := fieldAt bs 4 4

/-- The whole bytes of a record copy for a sequence number and data (R553). -/
def makeCopy (id seq : Nat) (data : List Byte) : List Byte :=
  let hd := leBytes 2 id ++ leBytes 2 1 ++ leBytes 4 seq
  let d := sliceBytes data 0 (recordSize id)
  hd ++ leBytes 4 (crc32 (hd ++ d)) ++ d

/-- The copy in use by R556: none if absent, else the copy, its sequence number and whether the two were twins. -/
def chooseCopy (n : Nvs) (id : Nat) : Option (Nat × Nat × Bool) :=
  let a := recordCopy n id 0
  let b := recordCopy n id 1
  match copyValid id a, copyValid id b with
  | false, false => none
  | true, false => some (0, copySeq a, false)
  | false, true => some (1, copySeq b, false)
  | true, true =>
    let d := diff32 (copySeq a) (copySeq b)
    if d = 0 ∨ d = 2 ^ 31 then some (0, copySeq a, true)
    else if d < 2 ^ 31 then some (0, copySeq a, false)
    else some (1, copySeq b, false)

/-- All record ids of R552. -/
def recordIds : List Nat :=
  List.range 0x10 ++ (List.range 0xC0).map (· + 0x100) ++ (List.range 8).map (· + 0x200)

/-- The copy in use that the record scan fixed, held as (copy + 1, SEQ); 0 stands for absent. -/
def inUse (n : Nvs) (id : Nat) : Option (Nat × Nat) :=
  match spGet n.inUse (0, 0) id with
  | (0, _) => none
  | (c + 1, q) => some (c, q)

/-- The record's data in use, zeros where it is absent (R556). -/
def recordData (n : Nvs) (id : Nat) : List Byte :=
  match inUse n id with
  | none => List.replicate (recordSize id) 0
  | some (c, _) => (recordCopy n id c).drop 12

/-- The word in slot s of counter c (R561). -/
def counterSlot (n : Nvs) (c s : Nat) : Nat := leNat (readBytes n.cells (64 * (3968 + 4 * c) + 4 * s) 4)

/-- CHK of a counter entry (R561). -/
def counterChk (h : Nat) : Nat := 255 - Nat.xor (Nat.xor (bits h 23 16) (bits h 15 8)) (bits h 7 0)

/-- Whether a slot's entry passes its check. -/
def slotValid (w : Nat) : Bool := w % 256 == counterChk (w / 256)

/-- `present` of R562. -/
def slotPresent (n : Nvs) (c x : Nat) : Bool :=
  let w := counterSlot n c (x % 64)
  slotValid w && w / 256 == x / 64

/-- The value of a counter (R562). -/
def counterValue (n : Nvs) (c : Nat) : Nat :=
  (List.range 64).foldl (fun acc s =>
    let w := counterSlot n c s
    let v := 64 * (w / 256) + s
    if slotValid w && (v == 1 || (decide (v > 0) && slotPresent n c (v - 1))) then max acc v else acc) 0

/-- The entry that stores a counter value (R561). -/
def counterEntry (v : Nat) : List Byte := leBytes 4 (256 * (v / 64) + counterChk (v / 64))

/-! ## Page buffer and commit -/

/-- The data of SHUTDOWN after a write that changes the named heads' bytes (R559, R560). -/
def shutdownData (s : State) (changes : List (Nat × Nat)) (cause : Nat) : List Byte :=
  let old := match inUse s.nvs 0 with
    | some _ => (recordData s.nvs 0).take 4
    | none => List.replicate 4 1
  let heads := changes.foldl (fun l c => setAt l c.1 (BitVec.ofNat 8 c.2)) old
  heads ++ leBytes 1 cause ++ leBytes 3 0 ++ timeBytes s.tp ++ leBytes 2 s.time.tpGen ++ List.replicate 30 0

/-- The copy that a write of a record goes to and its sequence number (R557). -/
def nextCopy (n : Nvs) (id : Nat) : Nat × Nat :=
  match inUse n id with
  | none => (0, 1)
  | some (c, q) => (1 - c, (q + 1) % 2 ^ 32)

/-- What a task gathers in the page buffer when its turn comes (R545). -/
def taskFill (s : State) (t : NvsTask) : NvsTask :=
  match t.goal with
  | .shutdown ch cause =>
    let (c, q) := nextCopy s.nvs 0
    { t with page := recordPage 0 c, offset := 0, data := makeCopy 0 q (shutdownData s ch cause) }
  | .counter c =>
    let v := counterValue s.nvs c
    { t with page := 3968 + 4 * c + ((v + 1) % 64) / 16, offset := 4 * ((v + 1) % 16), data := counterEntry (v + 1) }
  | _ => t

/-- Binding copies the page into the buffer; each byte lands at (offset + i) mod 64 and sets its dirty bit (R542). -/
def gather (n : Nvs) (t : NvsTask) : List Byte × List Bool :=
  let step := fun (bd : List Byte × List Bool) (ib : Nat × Byte) =>
    let o := (t.offset + ib.1) % 64
    (setAt bd.1 o ib.2, setAt bd.2 o true)
  ((List.range t.data.length).zip t.data).foldl step (nvsPage n t.page, List.replicate 64 false)

/-- Whether a task would change nothing: an increment of a counter at its end value (R563). -/
def NvsTask.void (n : Nvs) (t : NvsTask) : Bool :=
  match t.goal with
  | .counter c => decide (2 ^ 30 - 1 ≤ counterValue n c)
  | _ => false

/-- Starts the oldest waiting task where no commit runs. -/
def nvsKick (s : State) : State :=
  match s.nvs.commit, s.nvs.tasks.dropWhile (NvsTask.void s.nvs) with
  | none, [] => { s with nvs := { s.nvs with tasks := [] } }
  | none, t :: rest =>
    let t := taskFill s t
    let (b, d) := gather s.nvs t
    { s with nvs := { s.nvs with page := t.page, buf := b, dirty := d, commit := some t, tasks := rest } }
  | _, _ => s

/-- Queues NVS work, in order of acceptance (R545). -/
def nvsTask (s : State) (t : NvsTask) : State := nvsKick { s with nvs := { s.nvs with tasks := s.nvs.tasks ++ [t] } }

/-- Queues a counter increment (R563). -/
def incCounter (s : State) (c : Nat) : State := nvsTask s { goal := .counter c }

/-- Queues a write of the shutdown record (R295, R560). -/
def commitShutdown (s : State) (changes : List (Nat × Nat)) (cause : Nat) : State :=
  nvsTask s { goal := .shutdown changes cause }

/-- The array after the commit of the page buffer: every group with a dirty byte takes all its 4 bytes (R544). -/
def programPage (n : Nvs) : Sparse Byte :=
  (List.range 16).foldl (fun cells g =>
    if (List.range 4).any (fun i => n.dirty.getD (4 * g + i) false)
    then writeBytes cells (64 * n.page + 4 * g) (sliceBytes n.buf (4 * g) 4) else cells) n.cells

/-- What follows the end of a commit, by what it was for; in a wind-down a RECORD_WRITE ends with the commit in progress (R548). -/
def afterCommit (s : State) (g : NvsFor) : State :=
  match g with
  | .raw r => s.finish r stOk []
  | .recordPage r id _ (p :: rest) page =>
    if s.sys.windDown then s.finish r stBusy [] else
    { s with nvs := { s.nvs with tasks := { page := page + 1, data := p, goal := .recordPage r id 0 rest (page + 1) } :: s.nvs.tasks } }
  | .recordPage r id _ [] _ =>
    if s.sys.windDown then s.finish r stBusy [] else
    let (c, q) := nextCopy s.nvs id
    if copyValid id (recordCopy s.nvs id c) then
      ({ s with nvs := { s.nvs with inUse := spSet (0, 0) s.nvs.inUse id (c + 1, q) } }).finish r stOk (leBytes 4 q)
    else (s.logFault 0xF003 2 (leBytes 4 id)).finish r stFault []
  | .shutdown _ _ =>
    let (c, q) := nextCopy s.nvs 0
    if copyValid 0 (recordCopy s.nvs 0 c) then
      { s with nvs := { s.nvs with inUse := spSet (0, 0) s.nvs.inUse 0 (c + 1, q) } }
    else s.logFault 0xF003 2 []
  | .counter c => { s with nvs := { s.nvs with counters := spSet 0 s.nvs.counters c (counterValue s.nvs c) } }

/-- The commit that a FUNC_RESET of the NVS waits for has ended (R549): the page buffer is discarded, NVS_WRITE_DROP cleared and the record
scan runs again. -/
def rescan (s : State) : State := { s with nvs := { s.nvs with scanning := true, buf := [], dirty := [], writeDrop := 0 } }

/-- NVS_COMMIT_END (R544, R545, R549): the groups become readable, the dirty bits clear, the task goes on or the next begins. -/
def commitEnd (s : State) : State :=
  match s.nvs.commit with
  | none => s
  | some t =>
    let s := { s with nvs := { s.nvs with cells := programPage s.nvs, commit := none, dirty := List.replicate 64 false } }
    let s := if s.sys.funcBusy.contains 0x62 && !s.nvs.scanning then rescan s else s
    nvsKick (afterCommit s t.goal)

/-! ## Record scan -/

/-- The record scan of R558: every copy in use, every counter, the heads' bytes of SHUTDOWN; TWIN_SEQ of each pair of equal
sequence numbers is held until the event ring is enabled, and counter 14 counts it. -/
def scanRecords (s : State) (hold : Bool) : State :=
  let chosen := recordIds.filterMap (fun id => (chooseCopy s.nvs id).map (fun c => (id, c)))
  let use := chosen.foldl (fun m (x : Nat × Nat × Nat × Bool) => spSet (0, 0) m x.1 (x.2.1 + 1, x.2.2.1)) ([] : Sparse (Nat × Nat))
  let twins := chosen.filter (fun x => x.2.2.2)
  let vals := (List.range 32).foldl (fun m c => spSet 0 m c (counterValue s.nvs c)) ([] : Sparse Nat)
  let s := { s with nvs := { s.nvs with scanning := false, inUse := use, counters := vals } }
  twins.foldl (fun s x =>
    let ev : Event := { code := 0xE0A0, object := x.1, origin := 2, payload := leBytes 4 x.2.2.1, time := s.tp, gen := s.time.tpGen }
    let s := if hold then { s with cp := { s.cp with held := s.cp.held ++ [ev] } }
             else { s with cp := { s.cp with events := s.cp.events ++ [ev] } }
    incCounter s 14) s

/-- RECORD_SCAN (R558): after AON reset; the scan that a FUNC_RESET of the NVS reruns belongs to that reset (R549), which leaves the
shutdown status of R40 as it was. -/
def execRecordScan (s : State) : Host.Outcome State Fault Refusal :=
  if s.sys.aonReset || !s.nvs.scanning || s.sys.funcBusy.contains 0x62 then .next s else
  let s1 := scanRecords s true
  .next { s1 with nvs := { s1.nvs with cleanAtScan := (match inUse s1.nvs 0 with
    | none => [false, false, false, false]
    | some _ => ((recordData s1.nvs 0).take 4).map (fun b => b == 0)) } }

/-- NVS_COMMIT_END. -/
def execNvsCommitEnd (s : State) : Host.Outcome State Fault Refusal := .next (commitEnd s)

/-- COUNTER_INCREMENT (R563). -/
def execCounterIncrement (c : Nat) (s : State) : Host.Outcome State Fault Refusal :=
  .next (if c < 32 then incCounter s c else s)

/-! ## The NVS command group -/

/-- Whether raw NVS access is served (R541): on the mailbox from AON reset, on the rings from READY. -/
def nvsServed (h : Hdr) (s : State) : Bool := h.src == 4 || s.sys.ready

/-- Reads of the array wait while a commit runs; the model answers them with the array as it stands when the commit has
ended, which is the buffer's content for the page being programmed (R546). -/
def settledCells (n : Nvs) : Sparse Byte := if n.commit.isSome then programPage n else n.cells

/-- NVS_READ (0x0E01, R503): wraps within its page. -/
def execNvsRead (h : Hdr) (page offset count : Nat) (s : State) : Host.Outcome State Fault Refusal :=
  .next (runRead h 0x0E01
    { bad := decide (page > 4095 ∨ offset > 63 ∨ count < 1 ∨ count > 64), notReady := !nvsServed h s } s
    (fun s => (List.range count).map (fun i => spGet (settledCells s.nvs) 0 (64 * page + (offset + i) % 64))))

/-- NVS_WRITE (0x0E02, R503, R545, R548): the reply follows the commit. -/
def execNvsWrite (h : Hdr) (page offset : Nat) (data : List Byte) (s : State) : Host.Outcome State Fault Refusal :=
  .next (runLater h 0x0E02 page (.nvsWrite h page offset data)
    { bad := decide (page > 3071 ∨ offset > 63 ∨ data.length < 1 ∨ data.length > 64), notReady := !nvsServed h s,
      busy := s.sys.windDown } s
    (fun r s => nvsTask (s.addRunning r) { page := page, offset := offset, data := data, goal := .raw r }))

/-- RECORD_READ (0x0E03, R556). -/
def execRecordRead (h : Hdr) (id : Nat) (s : State) : Host.Outcome State Fault Refusal :=
  .next (runRead h 0x0E03 { bad := recordSize id == 0, notReady := s.nvs.scanning } s
    (fun s => match inUse s.nvs id with
      | none => leBytes 4 0 ++ recordData s.nvs id
      | some (_, q) => leBytes 4 q ++ recordData s.nvs id))

/-- The pages of a record copy, as the commits take them in ascending order. -/
def copyPages (id : Nat) (bs : List Byte) : List (List Byte) :=
  (List.range (recordPages id)).map (fun i => (bs.drop (64 * i)).take 64)

/-- RECORD_WRITE (0x0E04, R554, R557): the copy not in use is written page by page, read back and becomes the copy in use. -/
def execRecordWrite (h : Hdr) (id : Nat) (data : List Byte) (s : State) : Host.Outcome State Fault Refusal :=
  .next (
    if recordSize id != 0 && decide (data.length > recordSize id) then
      s.reply h 0x0E04 stBadLength noAccept true []
    else runLater h 0x0E04 id (.recordWrite h id data)
      { bad := recordSize id == 0, notReady := s.nvs.scanning, busy := s.sys.windDown, refused := decide (id < 0x10) } s
      (fun r s =>
        let (c, q) := nextCopy s.nvs id
        let bs := makeCopy id q data
        match copyPages id bs with
        | [] => s
        | p :: rest => nvsTask (s.addRunning r)
            { page := recordPage id c, data := p, goal := .recordPage r id 0 rest (recordPage id c) }))

/-- COUNTER_READ (0x0E05, R562). -/
def execCounterRead (h : Hdr) (c : Nat) (s : State) : Host.Outcome State Fault Refusal :=
  .next (runRead h 0x0E05 { bad := decide (c > 31), notReady := s.nvs.scanning } s
    (fun s => leBytes 8 (counterValue { s.nvs with cells := settledCells s.nvs } c)))

end Sys2Proof.Machine
end

