-- ==== Sys2Proof/Machine/MemOps.lean ====
section
/-! DEFINITION. The central store, the on-chip SRAM and the AON SRAM as their requesters see them: check bits by marked words
(R26, R534, R537), partial writes (R660), the states of the SRAM banks (R533). -/

namespace Sys2Proof.Machine

/-- Bytes of the central store (R23). -/
abbrev storeSize : Nat := 2 ^ 35

/-- Bytes of the on-chip SRAM (R528). -/
abbrev sramSize : Nat := 2 ^ 26

/-- The bank of an SRAM byte. -/
def bankOf (a : Nat) : Nat := a / 131072

/-- The head whose drive ring holds a bank (R312). -/
def State.ringHead (s : State) (b : Nat) : Option Nat :=
  headNums.find? (fun n => let a := (s.head n).allot; decide (a.ringFirst ≤ b) && decide (b < a.ringFirst + a.ringBanks))

/-- The state of an SRAM bank (R533): 0 on, 1 retention, 2 off. -/
def State.bankState (s : State) (b : Nat) : Nat :=
  if b < 32 then (if s.pdOn 0 then 0 else 1)
  else if b < 64 then 0
  else if (s.ringHead b).isSome then 0
  else if s.mem.idle == 1 then 1 else 2

/-! ## Error counts and events (R537) -/

/-- Index of a 64-bit error count: the objects 0 to 2, stack s at 16 + s, bank b at 64 + b. -/
def errIndex (object addr : Nat) : Nat := if object = 0 then 16 + addr / 4096 % 2 else 64 + bankOf addr

/-- Adds one to the counts of an object and of its stack or bank. -/
def countErr (m : Sparse Nat) (object addr : Nat) : Sparse Nat :=
  let m := spSet 0 m object (add64 (spGet m 0 object) 1)
  if object = 2 then m else spSet 0 m (errIndex object addr) (add64 (spGet m 0 (errIndex object addr)) 1)

/-- A corrected error: counted, and posted at most once per object and millisecond. -/
def State.memCorrected (s : State) (object addr : Nat) : State :=
  let s := { s with mem := { s.mem with corr := countErr s.mem.corr object addr } }
  let last := spGet s.mem.corrAt 0 object
  if last ≠ 0 ∧ s.tp < last - 1 + 65536000000 ∧ last - 1 ≤ s.tp then s else
    { s with mem := { s.mem with corrAt := spSet 0 s.mem.corrAt object (s.tp + 1) } }.post 0xE0C0 object 0 (leBytes 8 addr)

/-- An uncorrectable error: counted and posted. -/
def State.memUncorrectable (s : State) (object addr : Nat) : State :=
  { s with mem := { s.mem with unc := countErr s.mem.unc object addr } }.post 0xE0C1 object 0 (leBytes 8 addr)

/-! ## Objects: 0 store, 1 SRAM, 2 AON SRAM -/

/-- The bytes of an object. -/
def State.cells (s : State) (object : Nat) : Sparse Byte :=
  if object = 0 then s.mem.store else if object = 1 then s.mem.sram else s.mem.aon

/-- The marked words of an object: 1 or 2 bit errors by word index. -/
def State.marks (s : State) (object : Nat) : Sparse Nat :=
  if object = 0 then s.mem.storeErr else if object = 1 then s.mem.sramErr else s.mem.aonErr

/-- Replaces the bytes of an object. -/
def State.setCells (s : State) (object : Nat) (c : Sparse Byte) : State :=
  if object = 0 then { s with mem := { s.mem with store := c } }
  else if object = 1 then { s with mem := { s.mem with sram := c } }
  else { s with mem := { s.mem with aon := c } }

/-- Replaces the marks of an object. -/
def State.setMarks (s : State) (object : Nat) (c : Sparse Nat) : State :=
  if object = 0 then { s with mem := { s.mem with storeErr := c } }
  else if object = 1 then { s with mem := { s.mem with sramErr := c } }
  else { s with mem := { s.mem with aonErr := c } }

/-- One read of a word's check bits: a single-bit error is corrected, written back and reported, a double-bit error is
reported and stays (R534, R536). Answers whether the word is uncorrectable. -/
def State.checkWord (s : State) (object w : Nat) : Bool × State :=
  match spGet (s.marks object) 0 w with
  | 0 => (false, s)
  | 1 => (false, (s.setMarks object (spSet 0 (s.marks object) w 0)).memCorrected object (4 * w))
  | _ => (true, s.memUncorrectable object (4 * w))

/-- The word indices that `n` bytes from address `a` touch. -/
def wordsOf (a n : Nat) : List Nat := if n = 0 then [] else (List.range ((a + n - 1) / 4 + 1 - a / 4)).map (· + a / 4)

/-- The marked words that an access touches. -/
def State.markedIn (s : State) (object a n : Nat) : List Nat :=
  ((s.marks object).filter (fun p => decide (a < 4 * p.1 + 4) && decide (4 * p.1 < a + n))).map (fun p => p.1)

/-- Reads bytes: the data as stored, whether any word was uncorrectable, and the state after the reports. -/
def State.readMem (s : State) (object a n : Nat) : List Byte × Bool × State :=
  let (bad, s') := (s.markedIn object a n).foldl
    (fun acc w => let (b, s) := acc.2.checkWord object w; (acc.1 || b, s)) (false, s)
  (readBytes (s.cells object) a n, bad, s')

/-- Writes the enabled bytes of one word: `bytes` pairs each byte of the word with its enable, from byte 0 (R660). Answers
whether the write was applied. -/
def State.writeWord (s : State) (object w : Nat) (bytes : List (Bool × Byte)) : Bool × State :=
  let put := fun (s : State) => s.setCells object
    (((List.range 4).zip bytes).foldl (fun c x => if x.2.1 then spSet 0 c (4 * w + x.1) x.2.2 else c) (s.cells object))
  if bytes.length = 4 ∧ bytes.all (fun x => x.1) then (true, put (s.setMarks object (spSet 0 (s.marks object) w 0)))
  else if bytes.all (fun x => !x.1) then (true, s)
  else
    let r := s.checkWord object w
    if r.1 then (false, r.2) else (true, put r.2)

/-- The bytes and enables that a write of `bs` from `a` puts on word `w`. -/
def wordLanes (a : Nat) (bs : List Byte) (w : Nat) : List (Bool × Byte) :=
  (List.range 4).map (fun i => let x := 4 * w + i
    if a ≤ x ∧ x < a + bs.length then (true, bs.getD (x - a) 0) else (false, 0))

/-- Writes the words that some bytes cover in part, one by one; answers whether every word was applied. -/
def State.writePart (s : State) (object a : Nat) (bs : List Byte) : Bool × State :=
  (wordsOf a bs.length).foldl
    (fun acc w => let (ok, s) := acc.2.writeWord object w (wordLanes a bs w); (acc.1 && ok, s)) (true, s)

/-- Writes whole words: their check bits become valid. -/
def State.writeWhole (s : State) (object a : Nat) (bs : List Byte) : State :=
  (s.setMarks object (spClear (a / 4) ((a + bs.length) / 4) (s.marks object))).setCells object (writeBytes (s.cells object) a bs)

/-- Writes bytes: the word that the first of them cover in part, the whole words, the word that the last of them cover in part; answers
whether every word was applied. -/
def State.writeMem (s : State) (object a : Nat) (bs : List Byte) : Bool × State :=
  let n0 := min ((4 - a % 4) % 4) bs.length
  let n1 := (bs.length - n0) / 4 * 4
  let (ok0, s) := s.writePart object a (bs.take n0)
  let s := if n1 = 0 then s else s.writeWhole object (a + n0) ((bs.drop n0).take n1)
  let (ok1, s) := s.writePart object (a + n0 + n1) (bs.drop (n0 + n1))
  (ok0 && ok1, s)

/-- A write by the device itself of whole words of its own structures. -/
def State.putMem (s : State) (object a : Nat) (bs : List Byte) : State := (s.writeMem object a bs).2

/-- Writes by the device itself of several rows of whole words. -/
def State.putRows (s : State) (object : Nat) (rows : List (Nat × List Byte)) : State :=
  (glue rows).foldl (fun s b => s.putMem object b.1 b.2) s

/-- A read by the device of its own structures, taking the data as stored. -/
def State.getMem (s : State) (object a n : Nat) : List Byte × State := let r := s.readMem object a n; (r.1, r.2.2)

/-- Runs a command that reads a buffer of the central store at acceptance (R501): it waits for the stacks (R25), an uncorrectable
word ends it in FAULT (R536), and `run` receives the bytes. `skip` says that the command reads none. -/
def withBuffer (h : Hdr) (op : Nat) (i : Instr) (skip : Bool) (addr n : Nat) (s : State) (run : List Byte → State → State) : State :=
  if skip || decide (addr + n > storeSize) then run [] s
  else withStore h op i s (fun s =>
    let (bs, unc, s1) := s.readMem 0 addr n
    if unc && s.sys.ready then s1.failCmd h op else run bs s1)

/-- What an SRAM bank that turns on from off holds: zero with valid check bits (R533). -/
def State.clearBanks (s : State) (first n : Nat) : State :=
  let lo := 131072 * first
  let hi := 131072 * (first + n)
  { s with mem := { s.mem with sram := spClear lo hi s.mem.sram, sramErr := spClear (lo / 4) (hi / 4) s.mem.sramErr } }

end Sys2Proof.Machine
end

