-- ==== Sys2Proof/Machine/HeadTime.lean ====
section
/-! DEFINITION. The timing of heads as pure arithmetic: frame epochs (R70, R143, R336), line clocks (R305, R331, R335), the placement
and feasibility of views (R337, R338), the minimum line time (R308, R366), the hold clock (R273, R453). -/

namespace Sys2Proof.Machine

/-- The band in force (R248): FAULT_BAND of ACTIVE until the first latch point with a valid sample since the wind-up. Before the first wind-up
the same holds (DESIGN CHOICE, log entry 34). -/
def Head.bandNow (h : Head) : Nat := if h.therm.bandSet then h.therm.band else h.panel.active.settings.faultBand

/-- n nanoseconds in 2^-16 ns. -/
def nsU (n : Nat) : Nat := 65536 * n
/-- n microseconds in 2^-16 ns. -/
def usU (n : Nat) : Nat := 65536000 * n
/-- n milliseconds in 2^-16 ns. -/
def msU (n : Nat) : Nat := 65536000000 * n

/-! ## Periods -/

/-- A frame period rounded to nearest, ties upward. -/
def periodNear (r : Rate) : Nat := (2 * rateDen r * uSec + r.n) / (2 * r.n)

/-- The composition lead of a head in 2^-16 ns (R143, R658). -/
def leadOf (c : HeadConfigP) : Nat := if c.lead = 0 then periodNear c.rate else nsU c.lead

/-- The composition lead times N, exact. -/
def leadN (c : HeadConfigP) : Nat := if c.lead = 0 then rateDen c.rate * uSec else nsU c.lead * c.rate.n

/-- The epoch offset in 2^-16 ns (R71). -/
def offsetOf (c : HeadConfigP) : Int := c.epochOffset * 65536

/-- LOW in force (R658). -/
def lowOf (c : HeadConfigP) : Nat := if c.low = 0 then 24 else c.low

/-- CRIT in force (R658). -/
def critOf (c : HeadConfigP) : Nat := if c.crit = 0 then min 12 (lowOf c - 8) else c.crit

/-- The composed frames kept for a head per view (R143). -/
def composedCount (c : HeadConfigP) : Nat :=
  ceilDiv ((leadN c : Int) + offsetOf c * c.rate.n).toNat (rateDen c.rate * uSec) + 1

/-- The views that a head scans in turn: 1 outside a view set (R335). -/
def Head.nViews (h : Head) : Nat :=
  match h.cfg with
  | some c => if c.scanMode = 2 then max 1 h.views.length else 1
  | none => 1

/-- Whether a head scans a view set. -/
def Head.inViews (h : Head) : Bool := (match h.cfg with | some c => c.scanMode == 2 | none => false) && !h.views.isEmpty

/-- Whether a head follows a flow (R331). -/
def Head.follows (h : Head) : Bool := match h.cfg with | some c => c.scanMode == 1 | none => false

/-- T_MIN of a FOLLOW head (R331). -/
def followMin (c : HeadConfigP) : Nat := max (ceilDiv uSec 480) ((c.h + 8) * c.lineF)

/-- T_MAX of a FOLLOW head (R331). -/
def followMax (c : HeadConfigP) : Nat := periodNear c.followMin

/-- T_F of R320: the frame period, the cycle period in a view set, T_MAX in FOLLOW mode. -/
def Head.framePeriod (h : Head) : Nat :=
  match h.cfg with
  | some c => if c.scanMode = 1 then followMax c else periodNear c.rate
  | none => 0

/-- The frame epoch of head frame k: that of its cycle in a view set (R336), the planned one in FOLLOW mode (R331). -/
def Head.epochOf (h : Head) (k : Nat) : Option Nat :=
  match h.cfg with
  | none => none
  | some c =>
    if c.scanMode = 1 then (h.scan.planned.find? (fun p => p.1 == k)).map (fun p => p.2)
    else some (epoch c.rate (k / h.nViews))

/-- S_k of a head frame (R143). -/
def Head.composeAt (h : Head) (k : Nat) : Option Int :=
  match h.cfg, h.epochOf k with
  | some c, some e => some ((e : Int) - leadOf c)
  | _, _ => none

/-! ## Link line time (R308, R366) -/

/-- The symbol time of a link rate code in 2^-16 ns (R352). -/
def symbolTime (code : Nat) : Nat := if code = 1 then 327680 else if code = 2 then 163840 else 81920

/-- The drivers set for a head, in ascending index. -/
def State.driversOf (s : State) (n : Nat) : List Nat := (List.range 96).filter (fun d => (s.driver d).head == n && (s.driver d).ch != 0)

/-- M: the data symbols per lane of the head's longest LINE packet (R365). -/
def State.lineSymbols (s : State) (n : Nat) : Nat :=
  (s.driversOf n).foldl (fun m d => let x := s.driver d; max m (ceilDiv (10 + 68 * (x.ch / 48)) (max 1 x.lanes))) 0

/-- The link line time of R366 for gate settings and a rate code. -/
def State.linkLine (s : State) (n : Nat) (g : Gate) (rate : Nat) : Nat :=
  max ((s.lineSymbols n + 14) * symbolTime rate) (nsU (g.gckDelay + g.gateGuard + 100))

/-- The gate settings that bound a head's line time: those in use while it scans, else those stored for its next start. -/
def Head.gateFor (h : Head) : Gate := if h.scans then h.gateNow else h.gate

/-- L_min of R308. -/
def State.lMin (s : State) (n : Nat) (rate : Nat) : Nat := max (nsU 250) (s.linkLine n (s.head n).gateFor rate)

/-- t_A(y) minus t_y: T_LD plus four symbols (R366). -/
def State.loadDelay (s : State) (n rate : Nat) : Nat := (s.lineSymbols n + 10) * symbolTime rate

/-! ## Placement and feasibility of views -/

/-- L of each view for a settle time, with B times N (R337). `T` is D / N seconds, so T times N is D seconds. -/
def placeViews (r : Rate) (lmin st : Nat) (vs : List ViewP) : List (Nat × Int) :=
  let n := (r.n : Int)
  let one := fun (i : Nat) (v : ViewP) =>
    if v.kind = 0 then
      let l := if v.y1 > v.y0 then max lmin (ceilDiv (nsU v.k) (v.y1 - v.y0)) else lmin
      (l, n * (nsU (v.s + v.k) - (st : Int) - (v.y1 * l : Nat)))
    else
      let p := vs.getD ((i + vs.length - 1) % vs.length) {}
      let l := if v.lh = 0 then 4294967296 else v.lh
      let wrap : Int := if i = 0 then rateDen r * uSec else 0
      (l, n * ((nsU (p.s + p.x) : Int) - (p.y0 * l : Nat) + max 0 ((nsU p.k : Int) - ((p.y1 - p.y0) * l : Nat))) - wrap)
  ((List.range vs.length).zip vs).map (fun x => one x.1 x.2)

/-- The detail of R339. -/
def viewDetail (constraint view band line short : Nat) : List Byte :=
  leBytes 1 constraint ++ leBytes 1 view ++ leBytes 1 band ++ leBytes 1 0 ++ leBytes 4 line ++ leBytes 8 short

/-- The test of one view and band (R338): the detail of the first constraint that fails. Times are multiplied by N. -/
def testView (r : Rate) (lmin hh band : Nat) (vs : List ViewP) (pl : List (Nat × Int)) (v : Nat) : Option (List Byte) :=
  let n : Int := r.n
  let t : Int := rateDen r * uSec
  let w := vs.getD v {}
  let (l, b) := pl.getD v (0, 0)
  let next := (v + 1) % vs.length
  let wrap := if next = 0 then t else 0
  let (ln, bn) := pl.getD next (0, 0)
  let last := b + n * ((hh + 7) * l : Nat)
  let short := fun (x : Int) => ceilDiv x.toNat r.n
  let hold := fun (y : Nat) (a : Nat) =>
    let need := n * (nsU (a + w.x) : Int)
    let have_ := bn + wrap + n * (y * ln : Nat)
    if have_ < need then some (viewDetail 4 v band y (short (need - have_))) else none
  if l < lmin then some (viewDetail 1 v band 0 (lmin - l))
  else if b ≤ -t ∨ b ≥ t then some (viewDetail 2 v band 0 0)
  else if last > bn + wrap then some (viewDetail 3 v band (hh - 1) (short (last - bn - wrap)))
  else if w.kind = 0 then (match hold w.y0 w.s with
    | some d => some d
    | none => hold w.y1 (w.s + w.k))
  else none

/-- The feasibility test of a view set over every band (R338): the detail of R339 where it fails. -/
def feasible (r : Rate) (lmin hh : Nat) (settle : List Nat) (vs : List ViewP) : Option (List Byte) :=
  (List.range 8).findSome? (fun b =>
    let pl := placeViews r lmin (usU (settle.getD b 0)) vs
    (List.range vs.length).findSome? (fun v => testView r lmin hh b vs pl v))

/-! ## Line clocks -/

/-- The time of line y by a clock, rounded once to nearest with ties upward (R305). -/
def LineClock.at_ (c : LineClock) (y : Int) : Int := (2 * (c.num + y * c.per) + c.den) / (2 * c.den)

/-- The whole lines of a clock up to a time, a line counting where the next one's rounded start has come. -/
def LineClock.whole (c : LineClock) (t : Int) : Int :=
  let m := (t * c.den - c.num) / max 1 c.per
  if c.at_ (m + 1) ≤ t then m + 1 else m

/-- The clock of frame k in NORMAL mode (R305). -/
def normalClock (c : HeadConfigP) (k : Nat) : LineClock :=
  let den := c.rate.n * c.vtotal
  { num := (k * c.vtotal * rateDen c.rate * uSec : Nat) + offsetOf c * den, den := den, per := rateDen c.rate * uSec }

/-- The clock of subframe v of cycle c for a placement (R335). -/
def viewClock (c : HeadConfigP) (pl : List (Nat × Int)) (cycle v : Nat) : LineClock :=
  let (l, b) := pl.getD v (0, 0)
  { num := ((epoch c.rate cycle : Int) + offsetOf c) * c.rate.n + b, den := c.rate.n, per := l * c.rate.n }

/-- The clock of a planned frame in FOLLOW mode (R331). -/
def followClock (c : HeadConfigP) (e : Nat) : LineClock := { num := (e : Int) + offsetOf c, den := 1, per := c.lineF }

/-- The band whose settle time places the views: the band in force (R249). -/
def Head.settleNow (h : Head) (band : Nat) : Nat := usU (h.panel.active.settings.settle.getD band 0)

/-- The clock that head frame k has in the head's mode, with the views placed by a band. -/
def State.clockOf (s : State) (n k band : Nat) : Option LineClock :=
  let h := s.head n
  match h.cfg with
  | none => none
  | some c =>
    if h.inViews then
      some (viewClock c (placeViews c.rate (s.lMin n c.linkRate) (h.settleNow band) h.views) (k / h.nViews) (k % h.nViews))
    else if c.scanMode = 1 then (h.epochOf k).map (followClock c)
    else some (normalClock c k)

/-- D_SCAN of R309 in 2^-16 ns: the middle active line from the scan epoch, in the house view or else view 0 of a view set. -/
def State.dScan (s : State) (n : Nat) : Int :=
  let h := s.head n
  match h.cfg with
  | none => 0
  | some c =>
    let mid := c.h / 2
    if h.inViews then
      let pl := placeViews c.rate (s.lMin n c.linkRate) (h.settleNow h.bandNow) h.views
      let v := (indexFrom (fun (x : ViewP) => x.kind == 1) 0 h.views).getD 0
      let (l, b) := pl.getD v (0, 0)
      rdivUp b c.rate.n + (mid * l : Nat)
    else if c.scanMode = 1 then (mid * c.lineF : Nat)
    else (normalClock { c with epochOffset := 0 } 0).at_ mid

/-! ## Latched frames -/

/-- The latched entry of frame k. -/
def Head.latchedOf (h : Head) (k : Nat) : Option Latched := h.scan.latched.find? (fun l => l.frame == k)

/-- The latched frame just before frame k in the list of latched frames. -/
def Head.latchedBefore (h : Head) (k : Nat) : Option Latched :=
  (h.scan.latched.foldl (fun (acc : Option Latched × Option Latched) l =>
    if l.frame = k then (acc.2, acc.2) else (acc.1, some l)) (none, none)).1

/-- The lines of a latched frame up to the frame that starts at `t`: fixed where the clock fixes them, else whole pitches in the
gap (R335). -/
def Latched.count (l : Latched) (t : Int) : Nat :=
  if l.lines ≠ 0 then l.lines
  else (l.clock.whole t).toNat

/-- TP of line y of a latched frame; a negative y counts back across frames, or at the frame's own pitch for the first frame
after a start or a seam (R307). -/
def Head.lineTime (h : Head) (l : Latched) (y : Int) : Int :=
  if y ≥ 0 ∨ (l.first && h.scan.latched.all (fun x => x.frame + 1 != l.frame)) then l.clock.at_ y
  else match h.latchedBefore l.frame with
    | none => l.clock.at_ y
    | some p => if p.frame + 1 = l.frame then p.clock.at_ (p.count (l.clock.at_ 0) + y) else l.clock.at_ y

/-- rel_P(k, q) of R199. -/
def Head.relP (h : Head) (l : Latched) (q : Nat) : Int := h.lineTime l (8 * q - 56)

/-- due_P(k, q) of R199: one line time before the row's first line. -/
def Head.dueP (l : Latched) (q : Nat) : Int := l.clock.at_ (8 * q - 1)

/-- The 800 MHz tick nearest a time, ties to the earlier tick, as the latch point foresees it (R274, R306). -/
def Latched.tickOf (l : Latched) (t : Int) : Nat :=
  let x := t * 2 ^ 32 - l.tp0
  ((l.tick0 : Int) + (2 * x + l.inc - 1) / (2 * l.inc)).toNat

/-- The hold clock at the start of line y of a latched frame: from ticks (R273), or in a pair from TP (R453). -/
def State.tauOf (s : State) (n : Nat) (l : Latched) (y : Nat) : Nat :=
  let sc := (s.head n).scan
  let t := l.clock.at_ y
  if s.pair.enable then ((t - sc.tBase + 31250 * 65536) / (62500 * 65536)).toNat
  else (l.tickOf t - sc.windupTick + 25000) / 50000

/-- The hold clock now. -/
def State.tauNow (s : State) (n : Nat) : Nat :=
  let sc := (s.head n).scan
  if s.pair.enable then (((s.tp : Int) - sc.tBase + 31250 * 65536) / (62500 * 65536)).toNat
  else (s.timeRegs.ticks - sc.windupTick + 25000) / 50000

end Sys2Proof.Machine
end

