-- ==== Sys2Proof/Machine/LeaseOps.lean ====
section
/-! DEFINITION. Writes to the central store by host software and by control DMA, as leases guard them (R174, R175), and the crop that a
graphics buffer allows (R655). -/

namespace Sys2Proof.Machine

/-- A crop rectangle clipped to a source of `w` × `h` (R165, R655). -/
def clipCrop (r : Rect) (w h : Nat) : Rect :=
  let x0 := min (max r.x 0) w
  let y0 := min (max r.y 0) h
  let x1 := min (max (r.x + r.w) x0) w
  let y1 := min (max (r.y + r.h) y0) h
  { x := x0, y := y0, w := (x1 - x0).toNat, h := (y1 - y0).toNat }

/-- The leases that a write of `n` bytes from `a` touches (R174). -/
def State.leasesAt (s : State) (a n : Nat) : List (Nat × Lease) :=
  s.leases.filter (fun x => decide (a < x.2.base + x.2.len) && decide (x.2.base < a + n) && decide (0 < n))

/-- The present that a side shows. -/
def Side.present? (x : Side) : Option PresentP := match x with | .graphics p => some p | _ => none

/-- The head pixels, as (tile row, tile column), that the touched bytes of a buffer map to through one layer of a frame (R174). -/
def breachTiles (h : Head) (l : Lease) (a n : Nat) (y : LayerShot) (p : PresentP) : List (Nat × Nat) :=
  if p.base ≠ l.base ∨ p.pitch * p.height ≠ l.len then [] else
  let c := clipCrop y.cfg.crop p.width p.height
  let d := y.cfg.dest
  let lo := (max a l.base - l.base) / 4
  let hi := (min (a + n) (l.base + l.len) - 1 - l.base) / 4
  (List.range (hi + 1 - lo)).filterMap (fun i =>
    let off := 4 * (lo + i)
    let bx : Int := (off % p.pitch / 4 : Nat)
    let py : Int := (off / p.pitch : Nat)
    if bx < c.x ∨ bx ≥ c.x + c.w ∨ py < c.y ∨ py ≥ c.y + c.h then none else
    let x := d.x + (bx - c.x) * d.w / c.w
    let z := d.y + (py - c.y) * d.h / c.h
    if 0 ≤ x ∧ x < h.w ∧ 0 ≤ z ∧ z < h.hh then some (z.toNat / 8, x.toNat / 16) else none)

/-- The least and greatest of a list, 0xFFFF for an empty one. -/
def spanOf (l : List Nat) : Nat × Nat :=
  match l with
  | [] => (0xFFFF, 0xFFFF)
  | x :: r => (r.foldl min x, r.foldl max x)

/-- A landed write breaches one lease (R174): counted, and posted once per frame. -/
def State.breach (s : State) (id : Nat) (l : Lease) (a n : Nat) : State :=
  let h := s.head l.head
  let frame := match h.shots.getLast? with | some x => x.frame % 2 ^ 32 | none => 0xFFFFFFFF
  let s := s.setHead l.head { h with counts := { h.counts with breaches := add64 h.counts.breaches 1 } }
  if l.breachFrame = some frame then s else
  let tiles : List (Nat × Nat) := match h.shots.getLast? with
    | some x => x.layers.flatMap (fun (y : LayerShot) =>
        (match y.new.present? with | some p => breachTiles h l a n y p | none => []) ++
        (match y.old.present? with | some p => breachTiles h l a n y p | none => []))
    | none => []
  let (r0, r1) := spanOf (tiles.map (fun t => t.1))
  let (c0, c1) := spanOf (tiles.map (fun t => t.2))
  ({ s with leases := spSet {} s.leases id { l with breachFrame := some frame } }).post 0xE024 l.head 0
    (leBytes 1 id ++ leBytes 4 frame ++ leBytes 2 r0 ++ leBytes 2 r1 ++ leBytes 2 c0 ++ leBytes 2 c1)

/-- A write of the central store from BAR2 or control DMA under the leases (R174): discarded whole where any head that holds a touched
lease has DROP, else landed with its breaches. The Boolean says whether every word was applied (R660). -/
def State.guardedWrite (s : State) (a : Nat) (bs : List Byte) : Bool × State :=
  let hit := s.leasesAt a bs.length
  let drop := headNums.filter (fun n => hit.any (fun x => x.2.head == n) && !(s.head n).land)
  if drop.isEmpty then
    let (ok, s) := s.writeMem 0 a bs
    (ok, hit.foldl (fun s x => s.breach x.1 x.2 a bs.length) s)
  else (true, drop.foldl (fun s n => s.modHead n (fun h => { h with counts := { h.counts with leaseDrop := add64 h.counts.leaseDrop 1 } })) s)

end Sys2Proof.Machine
end

