-- ==== Sys2Proof/Machine/NetOps.lean ====
section
/-! DEFINITION. The network ports and flow table as their rules compute them: modes and rates (R87 to R93), video formats
(R106, R107), declared rates (R126), open depth (R114), keys (R102), admission (R136), leg states (R128). -/

namespace Sys2Proof.Machine

/-! ## Quads and ports -/

/-- Whether a port exists in its quad's mode (R87, R88). -/
def State.portExists (s : State) (n : Nat) : Bool :=
  let m := (s.quad (n / 4)).mode
  decide (n < 32) && m != 0 && (m != 3 || n % 4 == 0)

/-- Line rate of a port in bit/s (R87); 0 in a quad that is OFF. -/
def State.lineRate (s : State) (n : Nat) : Nat :=
  match (s.quad (n / 4)).mode with | 1 => 10000000000 | 2 => 25000000000 | 3 => 100000000000 | _ => 0

/-- The lanes of a port (R87). -/
def State.portLanes (s : State) (n : Nat) : List Nat := if (s.quad (n / 4)).mode = 3 then [n, n + 1, n + 2, n + 3] else [n]

/-- Whether every lane of a port has block lock. -/
def State.portLock (s : State) (n : Nat) : Bool := (s.portLanes n).all (fun l => (s.lane l).blockLock)

/-- The yo-yo state of a unit (R504). -/
def State.yoyo (s : State) (u : Nat) : YoyoUnit := spGet s.power.yoyo {} u

/-- Writes the yo-yo state of a unit. -/
def State.setYoyo (s : State) (u : Nat) (y : YoyoUnit) : State :=
  { s with power := { s.power with yoyo := spSet {} s.power.yoyo u y } }

/-- Whether a port runs at all at this instant: outside yo-yo mode, or inside its window (R129). -/
def State.portPowered (s : State) (n : Nat) : Bool := let y := s.yoyo n; !y.on || y.window

/-- Whether a port may transmit a media packet now (R92, R99, R425, R431). -/
def State.portSends (s : State) (n : Nat) : Bool :=
  let p := s.port n
  p.up && p.fault == 0 && p.mac != 0 && !s.sys.windDown && !s.sys.txHeld

/-- Adds to a port counter (R127): 0 FCS_ERR, 1 RUNT, 2 OVERSIZE, 3 MAC_FILTERED, 4 MAC_CONTROL, 5 VLAN_DROP, 6 L3_DROP,
7 CTRL_DROP, 8 NO_FLOW, 9 FIFO_DROP, 10 FEC_UNCORR, 11 frames, 12 bytes, 13 corrected codewords, 14 PCS block errors. -/
def State.portCount (s : State) (n k by_ : Nat) : State :=
  let p := s.port n
  s.setPort n { p with counters := spSet 0 p.counters k (add64 (spGet p.counters 0 k) by_) }

/-! ## Legs -/

/-- The event object of a flow (R494). -/
def flowId (kind index : Nat) : Nat := 256 * kind + index

/-- Leg 0 or 1 of a flow-table entry. -/
def RxFlow.leg (f : RxFlow) (l : Nat) : LegState := if l = 0 then f.a else f.b

/-- Replaces a leg's state. -/
def RxFlow.setLeg (f : RxFlow) (l : Nat) (x : LegState) : RxFlow := if l = 0 then { f with a := x } else { f with b := x }

/-- The legs that an entry has, with their numbers. -/
def RxFlow.legs (f : RxFlow) : List (Nat × Leg) :=
  match f.cfg with
  | none => []
  | some c => if c.legBPresent = 0 then [(0, c.legA)] else [(0, c.legA), (1, c.legB)]

/-- A leg goes INACTIVE: LEG_LOST, and FLOW_LOST with the last one (R128). -/
def State.legInactive (s : State) (kind i l : Nat) : State :=
  let f := s.flow kind i
  if !(f.leg l).active then s else
  let f := f.setLeg l { f.leg l with active := false }
  let gone := !f.a.active && !f.b.active
  let s := (s.setFlow kind i { f with lost := f.lost || gone }).post 0xE013 (flowId kind i) 0 (leBytes 1 l)
  if gone && !f.lost then s.post 0xE015 (flowId kind i) 0 (leBytes 1 l) else s

/-- A leg goes ACTIVE: LEG_ACTIVE, and FLOW_ACTIVE for a lost flow (R128). -/
def State.legActive (s : State) (kind i l : Nat) : State :=
  let f := s.flow kind i
  if (f.leg l).active then s else
  let was := f.lost
  let f := f.setLeg l { f.leg l with active := true }
  let s := (s.setFlow kind i { f with lost := false }).post 0xE012 (flowId kind i) 0 (leBytes 1 l)
  if was then s.post 0xE014 (flowId kind i) 0 (leBytes 1 l) else s

/-- Every receive flow, by kind and index. -/
def flowNums : List (Nat × Nat) := [0, 1, 2].flatMap (fun k => (List.range 64).map (fun i => (k, i)))

/-- Every leg on a port goes INACTIVE (R93). -/
def State.legsOffPort (s : State) (n : Nat) : State :=
  flowNums.foldl (fun s ki => (((s.flow ki.1 ki.2).legs.filter (fun l => l.2.port == n)).foldl
    (fun s l => s.legInactive ki.1 ki.2 l.1) s)) s

/-- A port goes down with the cause of R495; its lanes lose lock. -/
def State.portDrop (s : State) (n cause : Nat) : State :=
  let p := s.port n
  let s := (s.portLanes n).foldl (fun s l => s.setLane l { s.lane l with blockLock := false, hunting := true }) s
  if p.up then (s.setPort n { p with up := false, fault := 0 }).post 0xE011 n 0 (leBytes 1 cause)
  else s.setPort n { p with fault := 0 }

/-! ## Video formats (R106, R107) -/

/-- Octets of a pgroup, its columns and its rows. -/
def pgroup (f : Format) : Nat × Nat × Nat :=
  match f.sampling, f.depth with
  | 0, 8 => (4, 2, 1) | 0, _ => (5, 2, 1)
  | 1, 8 => (6, 2, 2) | 1, _ => (15, 4, 2)
  | _, 8 => (3, 1, 1) | _, _ => (15, 4, 1)

/-- Whether a rate lies in its encoding's range, N from 1 to 2^24 (R70). -/
def rateOk (r : Rate) : Bool := decide (1 ≤ r.n ∧ r.n ≤ 2 ^ 24 ∧ r.d < 65536)

/-- Whether a video format is one that R106 and R107 accept. -/
def videoOk (f : Format) : Bool :=
  let (_, c, _) := pgroup f
  decide (f.width ≥ 1 ∧ f.height ≥ 1 ∧ f.sampling ≤ 3 ∧ (f.depth = 8 ∨ f.depth = 10) ∧ f.scanning ≤ 2 ∧ f.colorimetry ≤ 3 ∧
    f.tcs ≤ 2 ∧ f.range ≤ 1 ∧ f.packing ≤ 1 ∧ f.sender ≤ 2 ∧ f.width % c = 0) &&
  (f.sampling != 1 || f.height % 2 == 0) && (f.scanning != 1 || f.height % 2 == 0) &&
  rateOk f.rate && decide (f.rate.n ≥ rateDen f.rate ∧ f.rate.n ≤ 240 * rateDen f.rate)

/-- Whether a video format exceeds R104's limits. -/
def videoTooBig (f : Format) : Bool :=
  decide (f.width > 7680 ∨ f.height > 4320 ∨ f.width * f.height * f.rate.n > 3981312000 * rateDen f.rate)

/-- Rows of pgroups of a frame, or of a field where scanning is interlaced (R110). -/
def pgRows (f : Format) : Nat := f.height / (pgroup f).2.2 / (if f.scanning = 1 then 2 else 1)

/-- Payload bytes of one frame or field. -/
def frameBytes (f : Format) : Nat := f.width / (pgroup f).2.1 * (pgroup f).1 * pgRows f

/-- Frames, or fields where scanning is interlaced, per second. -/
def unitRate (f : Format) : Rate := if f.scanning = 1 then ⟨2 * f.rate.n, f.rate.d⟩ else f.rate

/-- Packets of one row of pgroups (R133) under a UDP payload limit. -/
def rowPackets (f : Format) (limit : Nat) : Nat :=
  ceilDiv (f.width / (pgroup f).2.1) ((limit - 20) / (pgroup f).1)

/-- Packets of one frame (R133). -/
def framePackets (f : Format) (limit : Nat) : Nat := rowPackets f limit * pgRows f

/-! ## Receive entries -/

/-- The declared rate in bytes per second as a fraction (R126). -/
def declared (kind : Nat) (f : Format) : Nat × Nat :=
  if kind = 0 then let r := unitRate f; (frameBytes f * r.n, rateDen r)
  else if kind = 1 then (3 * f.channels * 48000, 1) else (f.ancRate, 1)

/-- The skew window in 2^-16 ns: 0 selects 1 ms for one leg, 10 ms for two (DEDUCED, log entry 21). -/
def skewOf (c : FlowSetP) : Nat :=
  65536000 * (if c.skew != 0 then c.skew else if c.legBPresent != 0 then 10000 else 1000)

/-- The bucket depth in bytes (R126): 0 selects 2 ms of the declared rate, 8 ms for a wide sender. -/
def bucketOf (c : FlowSetP) : Nat :=
  if c.bucket != 0 then c.bucket else
  let (n, d) := declared c.kind c.format
  n * (if c.kind = 0 ∧ c.format.sender = 2 then 8 else 2) / (1000 * d)

/-- The activity timeout in 2^-16 ns (R128): 0 selects 4 frame periods for video and 10 ms for the others. -/
def timeoutOf (c : FlowSetP) : Nat :=
  if c.activity != 0 then c.activity * 65536000
  else if c.kind = 0 then 4 * period c.format.rate else 655360000000

/-- Frames of an audio ring: 0 selects 8,192 (R122). -/
def ringFrames (c : FlowSetP) : Nat := if c.ringLength = 0 then 8192 else c.ringLength

/-- The open depth F of a video entry (R114). -/
def openDepth (c : FlowSetP) : Nat :=
  let r := unitRate c.format
  ceilDiv (skewOf c * r.n) (rateDen r * uSec) + 1

/-- Packets of one skew window at the declared rate (R119): by R133 at the standard size limit for video. -/
def windowPackets (c : FlowSetP) : Nat :=
  if c.kind = 0 then
    let r := unitRate c.format
    ceilDiv (framePackets c.format 1460 * r.n * skewOf c) (rateDen r * uSec)
  else if c.kind = 1 then ceilDiv (skewOf c * (if c.format.packetTime = 0 then 1000 else 8000)) uSec else 0

/-- Row pitch in bytes of a plane of `w` samples (R109). -/
def pitch (w : Nat) : Nat := ceilDiv (ceilDiv w 3 * 4) 64 * 64

/-- Width and height in samples of plane `k` of a format's slot (R106, R109, R110). -/
def planeSize (f : Format) (k : Nat) : Nat × Nat :=
  let h := if f.scanning = 1 then f.height / 2 else f.height
  if k = 0 then (f.width, h)
  else match f.sampling with
    | 0 => (f.width / 2, h)
    | 1 => (f.width / 2, h / 2)
    | _ => (f.width, h)

/-- Offset of plane `k` in a slot, and with k = 3 the bytes of the slot (R109). -/
def planeBase (f : Format) (k : Nat) : Nat :=
  (List.range k).foldl (fun a j => a + pitch (planeSize f j).1 * (planeSize f j).2) 0

/-- A leg's key (R102). -/
def legKey (l : Leg) : Nat × Nat × Nat × Nat × Nat × Nat × Nat :=
  (l.port, l.family, l.dst, l.udp, l.named, if l.named = 0 then 0 else l.src, l.vlan)

/-- Whether a leg's fields lie in their ranges; a leg that names a port which its 100G quad lacks is out of range (R88). -/
def legOk (l : Leg) (s : State) : Bool :=
  decide (l.port < 32 ∧ (l.family = 4 ∨ l.family = 6) ∧ 1 ≤ l.udp ∧ l.udp < 65536 ∧ l.named ≤ 1 ∧ l.vlan ≤ 4094) &&
  !((s.quad (l.port / 4)).mode == 3 && l.port % 4 != 0)

/-- The keys of every enabled leg but those of one entry. -/
def otherKeys (s : State) (kind i : Nat) : List (Nat × Nat × Nat × Nat × Nat × Nat × Nat) :=
  (flowNums.filter (fun ki => ki != (kind, i) && (s.flow ki.1 ki.2).enabled)).flatMap
    (fun ki => (s.flow ki.1 ki.2).legs.map (fun l => legKey l.2))

/-- Whether enabling an entry would make two keys equal (R102). -/
def keyClash (s : State) (kind i : Nat) (c : FlowSetP) : Bool :=
  let o := otherKeys s kind i
  o.contains (legKey c.legA) || (c.legBPresent != 0 && (o.contains (legKey c.legB) || legKey c.legA == legKey c.legB))

/-- Whether the declared rate exceeds a leg's line rate (R104). A quad that is OFF has no line rate to exceed. -/
def overLine (s : State) (kind : Nat) (f : Format) (l : Leg) : Bool :=
  let (n, d) := declared kind f
  s.lineRate l.port != 0 && decide (8 * n > s.lineRate l.port * d)

/-- Channels of every received audio entry but one (R121). -/
def otherChannels (s : State) (i : Nat) : Nat :=
  (List.range 64).foldl (fun a j => match (s.flow 1 j).cfg with
    | some c => if j = i then a else a + c.format.channels
    | none => a) 0

/-- Whether L is a power of two from 1,024 to 65,536. -/
def ringOk (n : Nat) : Bool := [1024, 2048, 4096, 8192, 16384, 32768, 65536].contains n

/-- Whether an entry's fields lie in the ranges of their rules. -/
def flowOk (p : FlowSetP) (s : State) : Bool :=
  let dbl := p.legBPresent != 0
  decide (p.kind ≤ 2 ∧ p.index < 64 ∧ p.enable ≤ 1 ∧ p.legBPresent ≤ 1 ∧ p.ssrcAny ≤ 1) && legOk p.legA s && (!dbl || legOk p.legB s) &&
  (p.payloadType == 255 || decide (96 ≤ p.payloadType ∧ p.payloadType ≤ 127)) &&
  (p.skew == 0 || decide (100 ≤ p.skew ∧ p.skew ≤ 10000)) &&
  (p.bucket == 0 || decide (16384 ≤ p.bucket ∧ p.bucket ≤ 67108864)) &&
  (p.activity == 0 || decide (1000 ≤ p.activity ∧ p.activity ≤ 10000000)) &&
  (match p.kind with
   | 0 => videoOk p.format && decide (3 ≤ p.slotCount ∧ p.slotCount ≤ 8) && decide (openDepth p ≤ 4 ∧ p.slotCount ≥ openDepth p + 2) &&
      (p.bases.take p.slotCount).all (fun b => b % 4096 == 0 && decide (b + planeBase p.format 3 ≤ storeSize)) &&
      decide (p.bases.length ≥ p.slotCount) && decide (p.descriptors + 64 * p.slotCount ≤ storeSize)
   | 1 => decide (1 ≤ p.format.channels ∧ p.format.packetTime ≤ 1 ∧ p.format.channels ≤ (if p.format.packetTime = 0 then 8 else 64)) &&
      ringOk (ringFrames p) && decide (p.bases.getD 0 0 + 4 * p.format.channels * ringFrames p ≤ storeSize)
   | _ => decide (65536 ≤ p.ringLength ∧ p.ringLength ≤ 16777216) &&
      decide (p.bases.getD 0 0 + p.ringLength ≤ storeSize ∧ p.descriptors + 64 ≤ storeSize)) &&
  decide (windowPackets p ≤ 131072)

/-- The bytes of a slot's descriptor (R111). -/
def descBytes (d : Slot) : List Byte :=
  let st := d.state + 8 * b2n d.field + 16 * b2n d.second + 32 * b2n d.changed + 64 * b2n d.legA + 128 * b2n d.legB
  leBytes 4 st ++ leBytes 4 d.rtpTs ++ timeBytes d.frameTime ++ leBytes 2 d.tpGen ++ leBytes 2 d.readers ++ timeBytes d.first ++
    timeBytes d.closeTime ++ leBytes 4 d.missing ++ leBytes 4 d.packets ++ leBytes 4 d.seq ++ leBytes 4 0

/-- Writes slot `j` of a video flow with its descriptor in the central store. -/
def State.putSlot (s : State) (i j : Nat) (d : Slot) : State :=
  let f := s.flow 0 i
  let s := s.setFlow 0 i { f with slots := setAt f.slots j d }
  match f.cfg with
  | some c => s.putMem 0 (c.descriptors + 64 * j) (descBytes d)
  | none => s

/-- Slot `j` of a video flow. -/
def State.slot (s : State) (i j : Nat) : Slot := (s.flow 0 i).slots.getD j {}

/-- Closes an open frame: COMPLETE where nothing is missing, else PARTIAL (R113, R116). -/
def State.closeSlot (s : State) (i j : Nat) (partial_ : Bool) : State :=
  let d := s.slot i j
  if d.state != 1 then s else
  let ok := d.missing == 0 && !partial_
  let f := s.flow 0 i
  let s := s.setFlow 0 i (if ok then { f with complete := add64 f.complete 1 } else { f with incomplete := add64 f.incomplete 1 })
  s.putSlot i j { d with state := if ok then 2 else 3, closeTime := s.tp }

/-- Closes every open frame of a flow as PARTIAL (R105, R596). -/
def State.closeAll (s : State) (i : Nat) : State :=
  (List.range (s.flow 0 i).slots.length).foldl (fun s j => s.closeSlot i j true) s

/-- The newest COMPLETE slot of a flow (R112): the one of greatest FRAME_SEQ. -/
def newestComplete (f : RxFlow) : Option (Nat × Slot) :=
  ((List.range f.slots.length).zip f.slots).foldl (fun b x =>
    if x.2.state = 2 then (match b with
      | some y => if y.2.seq ≤ x.2.seq then some x else some y
      | none => some x) else b) none

/-! ## Transmit admission (R136) -/

/-- Largest UDP payload of a transmit flow (R132). -/
def udpLimit (c : TxSetP) : Nat := if c.extended = 0 then 1460 else 8960

/-- Bytes around the UDP payload on the wire: preamble, Ethernet header and tag, IP, UDP, FCS and gap. -/
def wireOverhead (l : Leg) : Nat := 8 + 14 + (if l.vlan = 0 then 0 else 4) + (if l.family = 6 then 40 else 20) + 8 + 4 + 12

/-- Channels and packet time of an audio transmit flow: those of the audio flow it follows; 8 channels at 1 ms where it
follows an output (DESIGN CHOICE, log entry 23). -/
def audioShape (s : State) (c : TxSetP) : Nat × Nat :=
  match c.audioSource, (s.flow 1 c.audioIndex).cfg with
  | 1, some f => (f.format.channels, f.format.packetTime)
  | _, _ => (8, 0)

/-- A flow's load on a port as a fraction: the serialisation time of its largest packet over its packet interval (R136). -/
def txLoad (s : State) (c : TxSetP) (l : Leg) : Nat × Nat :=
  let rate := s.lineRate l.port
  if rate = 0 then (0, 1) else
  if c.kind = 3 then
    match (s.output c.index).cfg with
    | none => (0, 1)
    | some o =>
      let f := { o.format with width := o.width, height := o.height, rate := o.rate, scanning := 0 }
      let n := framePackets f (udpLimit c)
      let big := ceilDiv (f.width / (pgroup f).2.1) (rowPackets f (udpLimit c)) * (pgroup f).1 + 20
      ((big + wireOverhead l) * 8 * n * o.rate.n * 1125, rate * rateDen o.rate * 1080)
  else
    let (ch, pt) := audioShape s c
    ((3 * ch * (if pt = 0 then 48 else 6) + 12 + wireOverhead l) * 8 * (if pt = 0 then 1000 else 8000), rate)

/-- The legs of a transmit flow. -/
def txLegs (c : TxSetP) : List Leg := if c.legBPresent = 0 then [c.legA] else [c.legA, c.legB]

/-- Whether the port sums stay at or below 0.95 with a flow enabled (R136). -/
def txAdmits (s : State) (c : TxSetP) : Bool :=
  let others := (List.range 128).filterMap (fun j =>
    let f := spGet s.txs {} j
    match f.cfg with
    | some d => if f.enabled && (d.kind, d.index) != (c.kind, c.index) then some d else none
    | none => none)
  (txLegs c).all (fun l =>
    let loads := (c :: others).flatMap (fun d => (txLegs d).filterMap (fun m => if m.port = l.port then some (txLoad s d m) else none))
    let sum : Nat × Nat := loads.foldl (fun a x => (a.1 * x.2 + x.1 * a.2, a.2 * x.2)) (0, 1)
    decide (100 * sum.1 ≤ 95 * sum.2))

/-- Channels of every enabled audio transmit flow but one (R138). -/
def otherTxChannels (s : State) (i : Nat) : Nat :=
  (List.range 64).foldl (fun a j => let f := s.tx 4 j; match f.cfg with
    | some c => if j = i || !f.enabled then a else a + (audioShape s c).1
    | none => a) 0

end Sys2Proof.Machine
end

