-- ==== Sys2Proof/Machine/TileOps.lean ====
section
/-! DEFINITION. The tile-queue controller and the clusters as shared operations: tile records (R191 to R198), costs (R205, R206), deques
and their order (R207), homes (R190), skipped rows (R217, R219), the retirement of composed frames (R149). -/

namespace Sys2Proof.Machine

/-! ## Engine time -/

/-- ENGCLK in MHz (R32); the lower of the two during a change (R206), 600 MHz while VGOOD_LOST holds it at ÷8 (R589). -/
def State.engMHz (s : State) : Nat :=
  let f := fun (op : Nat) => if op = 0 then 1200 else if op = 1 then 800 else 600
  if s.power.div8 then 600 else
  match s.power.opChange with
  | some c => min (f c.old) (f c.target)
  | none => f s.power.op

/-- A cost in cycles as a time in 2^-16 ns, rounded up (R206). -/
def State.cycles (s : State) (cost : Nat) : Nat := ceilDiv (65536000 * cost) s.engMHz

/-! ## Tiles of a head -/

/-- The tile index of tile (tx, ty) (R187). -/
def Head.tileAt (h : Head) (tx ty : Nat) : Nat := h.allot.tileBase + ty * h.tw + tx

/-- Runs per tile row (R189). -/
def Head.runs (h : Head) : Nat := ceilDiv h.tw 16

/-- The tile columns of a run (R189). -/
def Head.runTiles (h : Head) (j : Nat) : List Nat := (List.range 16).filterMap (fun i => if 16 * j + i < h.tw then some (16 * j + i) else none)

/-- Columns (first, past) and lines (first, past) of a run inside the raster. -/
def Head.runBox (h : Head) (q j : Nat) : Nat × Nat × Nat × Nat := (256 * j, min (256 * j + 256) h.w, 8 * q, min (8 * q + 8) h.hh)

/-- The cost of a P-item (R205). -/
def Head.costP (h : Head) (q j : Nat) : Nat := let (x0, x1, y0, y1) := h.runBox q j; 4 * ((x1 - x0) * (y1 - y0)) + 128

/-- The bytes of a tile record (R192, R193, R271). -/
def Tile.record (t : Tile) : List Byte :=
  let flags := t.pattern + 8 * b2n t.sat + 16 * b2n t.ovr + 32 * b2n t.fresh
  let entry := fun (e : TileEntry) => leBytes 4 e.frame ++ leBytes 2 e.layers ++
    leBytes 1 (b2n e.ordered + 2 * b2n e.coalesced + 4 * e.view) ++ leBytes 1 0 ++ leBytes 4 e.due
  let slots := (List.range 4).flatMap (fun i => entry (t.entries.getD ((i + 4 - t.rd) % 4) {}))
  leBytes 1 (t.rd + 4 * t.entries.length + 32 * b2n t.running) ++ leBytes 1 (t.head + 4 * b2n t.alloc) ++ leBytes 2 flags ++
    leBytes 4 t.lastComposed ++ leBytes 4 t.lastDriven ++ leBytes 2 t.miss ++ leBytes 2 t.coalesce ++ slots

/-- PANEL_FLAGS of a tile (R271). -/
def Tile.flags (t : Tile) : Nat := t.pattern + 8 * b2n t.sat + 16 * b2n t.ovr + 32 * b2n t.fresh

/-- A tile with PANEL_FLAGS replaced (R271). -/
def Tile.withFlags (t : Tile) (f : Nat) : Tile := { t with pattern := f % 8, sat := bit f 3, ovr := bit f 4, fresh := bit f 5 }

/-- Removes the oldest entry of a tile's ring. -/
def Tile.pop (t : Tile) : Tile := { t with entries := t.entries.drop 1, rd := (t.rd + 1) % 4, running := false }

/-- Removes from a tile's waiting ring the entries of a frame; a running oldest entry stays (R197). -/
def Tile.drop (t : Tile) (k : Nat) : Tile :=
  let keep := fun (i : Nat) (e : TileEntry) => e.frame != k % 2 ^ 32 || (i == 0 && t.running)
  { t with entries := (((List.range t.entries.length).zip t.entries).filter (fun x => keep x.1 x.2)).map (fun x => x.2) }

/-- Applies `f` to every tile of a head. -/
def State.mapTiles (s : State) (n : Nat) (f : Tile → Tile) : State :=
  let h := s.head n
  { s with tq := { s.tq with tiles := spMap {} (fun _ t => f t) s.tq.tiles h.allot.tileBase (h.tw * h.th) } }

/-- The tile indices of a run. -/
def Head.runIndices (h : Head) (q j : Nat) : List Nat := (h.runTiles j).map (fun tx => h.tileAt tx q)

/-! ## Clusters and deques -/

/-- Whether cluster c is on (R190): its domain is on and the wind-down has not switched it off (R425). -/
def State.clusterOn (s : State) (c : Nat) : Bool := s.pdOn (c + 1)

/-- The clusters that are on, counting upward. -/
def State.clustersOn (s : State) : List Nat := (List.range 8).filter s.clusterOn

/-- The home cluster of an item (R190); none while no cluster is on. The bands of a T-item count as tile rows (DESIGN CHOICE, log
entry 30). -/
def State.homeOf (s : State) (k : ItemKey) : Option Nat :=
  let on := s.clustersOn
  if on.isEmpty then none else on[(k.run + k.row) % on.length]?

/-- Committed lines of a head beyond the line being scanned (R213). -/
def Head.fill (h : Head) : Nat :=
  h.scan.ready.foldl (fun a x =>
    let lines := min 8 (h.hh - 8 * x.2)
    if x.1 = h.scan.frame then a + (lines - (h.scan.line - 8 * x.2)) else if x.1 > h.scan.frame ∧ h.scan.latched.any (fun l => l.frame == x.1) = true then a + lines else a) 0

/-- The urgency level of a head's P-items (R214). -/
def Head.urgency (h : Head) : Nat :=
  if !h.scans then 0 else if h.fill < h.allot.crit then 2 else if h.fill < h.allot.low then 1 else 0

/-- The urgency level of an item (R214). -/
def State.levelOf (s : State) (i : Item) : Nat := if i.key.kind = .p then (s.head i.key.owner).urgency else 0

/-- The head index of an item in the order of R207; outputs come after the heads. -/
def Item.rank (i : Item) : Nat := if i.key.kind = .t then 4 + i.key.owner else i.key.owner

/-- The order of a deque (R207): urgency, deadline, head, tile index. -/
def State.itemLe (s : State) (a b : Item) : Bool :=
  let la := s.levelOf a
  let lb := s.levelOf b
  if la != lb then decide (la > lb) else
  if a.due != b.due then decide (a.due < b.due) else
  if a.rank != b.rank then decide (a.rank < b.rank) else
  decide (a.key.row < b.key.row ∨ (a.key.row = b.key.row ∧ a.key.run ≤ b.key.run))

/-- A cluster's deque in its order. -/
def State.deque (s : State) (c : Nat) : List Item := sortBy s.itemLe (s.cluster c).deque

/-- The estimated remaining cycles of a cluster's running items (R207). -/
def State.remaining (s : State) (c : Nat) : Nat :=
  (s.cluster c).running.foldl (fun a i => a + (i.cost - (s.tp - i.started) * s.engMHz / 65536000)) 0

/-- The published backlog of a cluster (R207); 0 while it is not on (R572). -/
def State.backlog (s : State) (c : Nat) : Nat :=
  if s.clusterOn c then (s.cluster c).deque.foldl (fun a i => a + i.cost) (s.remaining c) else 0

/-- Puts an item on its home deque, or among the items held in the tile records while that deque is full (R203, R207). -/
def State.placeItem (s : State) (i : Item) : State :=
  match s.homeOf i.key with
  | some c =>
    let x := s.cluster c
    if x.deque.length < 64 then s.setCluster c { x with deque := x.deque ++ [i] }
    else { s with tq := { s.tq with held := s.tq.held ++ [i] } }
  | none => { s with tq := { s.tq with held := s.tq.held ++ [i] } }

/-- Feeds held items to their home deques in deadline order as entries free up (R203). -/
def State.feed (s : State) : State :=
  let items := sortBy (fun a b => decide (a.due ≤ b.due)) s.tq.held
  items.foldl (fun s i => s.placeItem i) { s with tq := { s.tq with held := [] } }

/-- Whether an item lies on a deque or among the held items. -/
def State.waiting (s : State) (k : ItemKey) : Bool :=
  s.tq.held.any (fun i => i.key == k) || (List.range 8).any (fun c => (s.cluster c).deque.any (fun i => i.key == k))

/-- Whether an item is running. -/
def State.runningItem (s : State) (k : ItemKey) : Bool := (List.range 8).any (fun c => (s.cluster c).running.any (fun i => i.key == k))

/-- Removes every item that satisfies `p` from the deques and the held items. -/
def State.removeItems (s : State) (p : ItemKey → Bool) : State :=
  let s := { s with tq := { s.tq with held := s.tq.held.filter (fun i => !p i.key) } }
  (List.range 8).foldl (fun s c =>
    let x := s.cluster c
    s.setCluster c { x with deque := x.deque.filter (fun i => !p i.key) }) s

/-- Removes a running item from its engine. -/
def State.freeEngine (s : State) (k : ItemKey) : State :=
  (List.range 8).foldl (fun s c =>
    let x := s.cluster c
    s.setCluster c { x with running := x.running.filter (fun i => i.key != k) }) s

/-- Moves the deque of a cluster to the next cluster that is on (R221, R569), counting upward from it. -/
def State.moveDeque (s : State) (c : Nat) : State :=
  let items := (s.cluster c).deque
  let next := ((List.range 7).map (fun i => (c + 1 + i) % 8)).find? s.clusterOn
  let s := s.setCluster c { s.cluster c with deque := [] }
  match next with
  | some d => let x := s.cluster d
              let s := s.setCluster d { x with deque := x.deque ++ items.take (64 - x.deque.length) }
              { s with tq := { s.tq with held := s.tq.held ++ items.drop (64 - x.deque.length) } }
  | none => { s with tq := { s.tq with held := s.tq.held ++ items } }

/-! ## Abandonment, skips, retirement -/

/-- Whether a C-item is complete or gone. -/
def State.cDone (s : State) (k : ItemKey) : Bool := s.tq.doneC.contains { k with kind := .c }

/-- Whether a P-item has finished or been abandoned. -/
def State.pDone (s : State) (k : ItemKey) : Bool := s.tq.doneP.contains { k with kind := .p } || s.tq.dead.contains { k with kind := .p }

/-- Decrements READERS of each slot that a frame held (R149). -/
def State.releaseHeld (s : State) (held : List (Nat × Nat)) : State :=
  held.foldl (fun s x => let d := s.slot x.1 x.2
                         s.putSlot x.1 x.2 { d with readers := d.readers - 1 }) s

/-- Whether anything of head frame k is still to be composed: an entry of its tiles, or an item on a deque or an engine. -/
def State.composing (s : State) (n k : Nat) : Bool :=
  let h := s.head n
  let mine := fun (i : Item) => i.key.kind == .c && i.key.owner == n && i.key.frame == k
  (List.range (h.tw * h.th)).any (fun i => (s.tile (h.allot.tileBase + i)).entries.any (fun e => e.frame == k % 2 ^ 32)) ||
    s.tq.held.any mine || (List.range 8).any (fun c => (s.cluster c).deque.any mine || (s.cluster c).running.any mine)

/-- Ends the composition of the frames of a head of which nothing is left to compose: their slots are released (R149). -/
def State.retire (s : State) (n : Nat) : State :=
  (s.head n).shots.foldl (fun s x =>
    if x.composed || s.composing n x.frame then s else
    let s := s.releaseHeld x.held
    s.modHead n (fun h => { h with shots := h.shots.map (fun y => if y.frame = x.frame then { y with composed := true, held := [] } else y) })) s

/-- Abandons the C-item of a run: its entries go, MISS and the count of abandoned C-items rise (R201, R202, R219). -/
def State.abandonC (s : State) (k : ItemKey) : State :=
  let c : ItemKey := { k with kind := .c }
  let h := s.head k.owner
  if (h.shots.all (fun x => x.frame != k.frame)) then s else
  let s := s.removeItems (fun x => x == c)
  let s := (h.runIndices k.row k.run).foldl (fun s i =>
    let t := s.tile i
    if t.entries.any (fun e => e.frame == k.frame % 2 ^ 32) then s.setTile i { t.drop k.frame with miss := satInc 65535 t.miss } else s) s
  let s := { s with tq := { s.tq with doneC := s.tq.doneC ++ [c] } }
  (s.modHead k.owner (fun h => { h with counts := { h.counts with abandonedC := add64 h.counts.abandonedC 1 } })).retire k.owner

/-- Whether a row of a frame has committed or been skipped. -/
def Head.settled (h : Head) (k q : Nat) : Bool := h.scan.ready.contains (k, q) || h.scan.skippedRows.contains (k, q)

/-- Posts the ROW_SKIPPED event of a frame once every row of it is settled (R219). -/
def State.postSkips (s : State) (n k : Nat) : State :=
  let h := s.head n
  if !(List.range h.th).all (fun q => h.settled k q) then s else
  match h.scan.skips.find? (fun x => x.1 == k) with
  | none => s
  | some (_, rows, first, cause) =>
    let s := s.modHead n (fun h => { h with scan := { h.scan with skips := h.scan.skips.filter (fun x => x.1 != k) } })
    s.post 0xE030 n 0 (leBytes 4 k ++ leBytes 4 rows ++ leBytes 2 first ++ leBytes 1 cause)

/-- Records a skipped row in the tally of its frame: the number of rows, the first of them and its cause. -/
def tallySkip (l : List (Nat × Nat × Nat × Nat)) (k q cause : Nat) : List (Nat × Nat × Nat × Nat) :=
  if l.any (fun x => x.1 == k) then
    l.map (fun x => if x.1 = k then (k, x.2.1 + 1, if q < x.2.2.1 then (q, cause) else (x.2.2.1, x.2.2.2)) else x)
  else l ++ [(k, 1, q, cause)]

/-- A control block or an unsequenced message is sent (R445, R448), the newest 64 being kept. -/
def State.sendBlock (s : State) (type : Nat) (body : List Byte) : State :=
  let out := s.pair.outbox ++ [(type, body)]
  { s with pair := { s.pair with outbox := out.drop (out.length - 64) } }

/-- A message waits to be sent, the newest 64 being kept (R446, R448). -/
def State.sendMsg (s : State) (mtype : Nat) (body : List Byte) : State :=
  let seq := s.pair.nextSeq
  let out := s.pair.outbox ++ [(mtype, body)]
  { s with pair := { s.pair with
    outbox := out.drop (out.length - 64), nextSeq := if seq + 1 = 2 ^ 24 then 1 else seq + 1,
    sent := s.pair.sent ++ [{ mseq := seq, mtype := mtype, body := body }] } }

/-- A sequenced message has been received: it is acknowledged with its MSEQ (R448). -/
def State.ackMsg (s : State) : State :=
  let q := s.pair.rxSeq
  ({ s with pair := { s.pair with rxSeq := if q + 1 = 2 ^ 24 then 1 else q + 1 } } : State).sendBlock 0x02 (leBytes 4 q)

/-- The process record of LEDGER_SNAPSHOT for a head and frame: `arg` is the frame, `buffer` the buffer (R301, R502). -/
def State.snapshots (s : State) (n k : Nat) : List Proc :=
  s.cp.procs.filter (fun p => p.opcode == 0x0904 && p.object == n && p.arg == k % 2 ^ 32)

/-- Copies the stored panel state of a tile row to the buffers of the snapshots of a frame (R301); ends them with its last row. -/
def State.snapRow (s : State) (n k q : Nat) : State :=
  let snaps := s.snapshots n k
  if snaps.isEmpty then s else
  let h := s.head n
  match h.cfg with
  | none => s
  | some c =>
    let from_ := 1024 * (q * h.tw)
    let s := snaps.foldl (fun s p =>
      let (bs, s) := s.getMem 0 (c.psBase + from_) (1024 * h.tw)
      (s.guardedWrite (p.buffer + from_) bs).2) s
    if (List.range h.th).all (fun r => r == q || h.settled k r) then
      let s := { s with cp := { s.cp with procs := s.cp.procs.filter (fun p => !(p.opcode == 0x0904 && p.object == n && p.arg == k % 2 ^ 32)) } }
      snaps.foldl (fun s p => s.procApplied p (k % 2 ^ 32) n) s
    else s

/-- Whether a check runs on a latched frame (R342, R345): only picture frames, one in 2^e, in its view. -/
def Head.checkRuns (h : Head) (p : CheckSetP) (l : Latched) : Bool :=
  p.enable == 1 && l.kind == 0 && l.frame % 2 ^ p.e == 0 && (p.view == 255 || !h.inViews || p.view == l.view)

/-- Adds what a tile row of a latched frame gives to every check at the composed tap (R343, R344). -/
def Head.addParts (h : Head) (l : Option Latched) (f : CheckSetP → CheckPart) : Head :=
  { h with checks := h.checks.map (fun c => match c.2.cfg with
      | some p => if p.tap = 0 ∧ (match l with | some l => h.checkRuns p l | none => false) = true then
          (c.1, { c.2 with parts := let l := c.2.parts ++ [f p]; l.drop (l.length - 4096) }) else c
      | none => c) }

/-- A tile row of a frame is skipped (R217): the P-items not started go and count as
abandoned (DEDUCED, log entry 36), its outputs are discarded, its lines are marked; the active of
a pair reports it (R459). Causes as R495. -/
def State.skipRow (s : State) (n k q cause : Nat) : State :=
  let h := s.head n
  if h.settled k q then s else
  let mine := fun (x : ItemKey) => x.kind == .p && x.owner == n && x.frame == k && x.row == q
  let gone := (List.range h.runs).map (fun j => ({ kind := .p, owner := n, frame := k, row := q, run := j } : ItemKey))
  let s := s.removeItems mine
  let late := gone.filter (fun x => !s.pDone x && !s.runningItem x)
  let s := { s with tq := { s.tq with
    outs := s.tq.outs.filter (fun o => !(o.head == n && o.frame == k && o.row == q)), dead := s.tq.dead ++ late } }
  let s := (gone.filter (fun x => !s.cDone x && !s.runningItem { x with kind := .c })).foldl (fun s x => s.abandonC x) s
  let s := s.modHead n (fun h => { h.addParts (h.latchedOf k) (fun _ => { frame := k, row := q, skipped := true }) with
    counts := { h.counts with skipped := add64 h.counts.skipped 1, abandonedP := add64 h.counts.abandonedP late.length },
    scan := { h.scan with skippedRows := h.scan.skippedRows ++ [(k, q)], skips := tallySkip h.scan.skips k q cause } })
  let s := s.snapRow n k q
  let s := if s.pairActive then s.sendMsg 0x0A (leBytes 4 k ++ leBytes 2 q ++ leBytes 1 1 ++ leBytes 4 0) else s
  s.postSkips n k

/-- A P-item is abandoned: counted, and its row skipped with a cause (R201, R208, R217, R219). -/
def State.abandonP (s : State) (k : ItemKey) (cause : Nat) : State :=
  let s := s.removeItems (fun x => x == k)
  let s := { s with tq := { s.tq with dead := s.tq.dead ++ [k] } }
  let s := s.modHead k.owner (fun h => { h with counts := { h.counts with abandonedP := add64 h.counts.abandonedP 1 } })
  s.skipRow k.owner k.frame k.row cause

/-- A frame that will not be scanned leaves the tile queues (R316, R320): its entries and its waiting items go. -/
def State.dropFrame (s : State) (n k : Nat) : State :=
  let s := s.removeItems (fun x => x.kind != .t && x.owner == n && x.frame == k)
  (s.mapTiles n (fun t => t.drop k)).retire n

/-- Forgets the bookkeeping of items of a head's frames below k, or of every frame. -/
def State.forgetItems (s : State) (n : Nat) (p : Nat → Bool) : State :=
  let keep := fun (x : ItemKey) => x.kind == .t || x.owner != n || !p x.frame
  { s with tq := { s.tq with
    doneP := s.tq.doneP.filter keep, doneC := s.tq.doneC.filter keep, dead := s.tq.dead.filter keep,
    outs := s.tq.outs.filter (fun o => o.head != n || !p o.frame) } }

/-! ## Leases (R172, R173) -/

/-- A lease ends: LEASE_RELEASED with the last head frame that used its buffer (R173). -/
def State.freeLease (s : State) (id frame : Nat) : State :=
  let l := spGet s.leases {} id
  ({ s with leases := s.leases.filter (fun y => y.1 != id) }).post 0xE023 l.head 0 (leBytes 1 id ++ leBytes 1 l.layer ++ leBytes 4 frame)

/-- Whether the last frame that used a lease has finished scan-out (R173): its head scans a later frame, or none at all. -/
def State.leaseScanned (s : State) (l : Lease) : Bool :=
  let h := s.head l.head
  !h.scans || h.scan.latched.all (fun x => decide (x.frame > l.lastFrame) || decide (x.frame < h.scan.frame)) &&
    h.shots.all (fun x => decide (x.frame > l.lastFrame) || decide (x.frame < h.scan.frame))

/-- A lease whose present has been superseded: it ends at once where no frame used its buffer or the last one has been scanned, else
when that frame finishes (R173). -/
def State.endLease (s : State) (id : Nat) : State :=
  match (s.leases.find? (fun x => x.1 == id)) with
  | none => s
  | some (_, l) =>
    if l.lastFrame = 0xFFFFFFFF then s.freeLease id 0xFFFFFFFF
    else if s.leaseScanned l then s.freeLease id l.lastFrame
    else { s with leases := spSet {} s.leases id { l with ending := true } }

/-- Ends every ending lease of a head that scans no more (R173). -/
def State.endLeases (s : State) (n : Nat) : State :=
  (s.leases.filter (fun x => x.2.head == n && x.2.ending)).foldl (fun s x => s.freeLease x.1 x.2.lastFrame) s

end Sys2Proof.Machine
end

