-- ==== Sys2Proof/Machine/HeadOps.lean ====
section
/-! DEFINITION. What starts, stops and re-times a head: the search for its next frame (R69, R311, R324), the preparation of the ledger
(R294), a start (R311), a stop (R316), a TP step (R69, R274), the abort of the wind-down (R426). -/

namespace Sys2Proof.Machine

/-! ## Tables of a head in SRAM -/

/-- Address of the row time table entry of tile row q (R275). -/
def rowTimeAt (n q : Nat) : Nat := 131072 * (56 + n) + 64 * q

/-- Address of the row check table entry of tile row q (R300). -/
def rowCheckAt (n q : Nat) : Nat := 131072 * (60 + n) + 8 * q

/-- Address of the panel-state word of pixel (u, l) of a tile by its head-relative index (R269). -/
def stateAt (base ti u l : Nat) : Nat := base + 1024 * ti + 8 * (16 * l + u)

/-- A panel-state word (R268) from D and L of R, G and B; -2,048 is never written (R272). -/
def stateWord (d : List Nat) (l : List Int) : Nat :=
  let f := fun (c : Nat) => tc 12 (clampI (-2047) 2047 (l.getD c 0)) * 2 ^ (12 * c) + d.getD c 0 % 512 * 2 ^ (36 + 9 * c)
  f 0 + f 1 + f 2

/-- D of colour c in a panel-state word. -/
def wordD (w c : Nat) : Nat := w / 2 ^ (36 + 9 * c) % 512

/-- L of colour c in a panel-state word, -2,048 read as -2,047 (R272). -/
def wordL (w c : Nat) : Int := max (-2047) (sx 12 (w / 2 ^ (12 * c)))

/-- The lowest allowed pattern of a mask (R280). -/
def lowestPattern (mask : Nat) : Nat := (indexFrom (fun p => bit mask p) 0 (List.range 8)).getD 0

/-- The complement of a pattern (R280). -/
def complementOf (p : Nat) : Nat := Nat.xor p 1

/-- Prepares the ledger of a head (R294, R254): L = 0, D at rest, FRESH, the pattern before the lowest allowed, Q = 0. -/
def State.prepareLedger (s : State) (n : Nat) : State :=
  let h := s.head n
  match h.cfg with
  | none => s
  | some c =>
    let d := h.panel.active.settings.restLevel / 32
    let word := leBytes 8 (stateWord [d, d, d] [0, 0, 0])
    let s := s.putRows 0 ((List.range (h.tw * h.th * 128)).map (fun i => (c.psBase + 8 * i, word)))
    let p := complementOf (lowestPattern h.ledger.allowed)
    let s := s.mapTiles n (fun t => { t with fresh := true, sat := false, ovr := false, pattern := p })
    s.modHead n (fun h => { h with ledger := { h.ledger with
      q := 0, clearRows := [], satPosted := none, statMaxL := 0, statOverrides := 0, statSat := 0 } })

/-! ## The next frame -/

/-- The first frame number from a candidate on whose clock, at a band, satisfies a test; whole cycles in a view set. -/
def State.seekFrame (s : State) (n c0 : Nat) (p : LineClock → Bool) : Nat :=
  let h := s.head n
  let v := h.nViews
  let ok := fun (c : Nat) => match s.clockOf n (v * c) h.bandNow with | some k => p k | none => false
  v * (((List.range 24).map (fun i => c0 + i)).find? ok).getD (c0 + 24)

/-- A frame or cycle number not after the one in progress at a time, from which a search may begin. -/
def Head.seekFrom (h : Head) (t : Int) : Nat :=
  match h.cfg with
  | some c => frameAt c.rate (t - offsetOf c).toNat - 3
  | none => 0

/-- The first frame whose line 0 lies at or after a time (R69, R324); in FOLLOW mode the next frame to be planned. -/
def State.firstAt (s : State) (n : Nat) (t : Int) : Nat :=
  let h := s.head n
  if h.follows then h.scan.nextLatch else s.seekFrame n (h.seekFrom t) (fun c => decide (c.at_ 0 ≥ t))

/-- The first frame whose latch point, at its own pitch, lies at or after a time (R311). -/
def State.firstLatchAt (s : State) (n : Nat) (t : Int) : Nat :=
  let h := s.head n
  if h.follows then h.scan.nextLatch else
  let pitch : Int := match s.clockOf n 0 h.bandNow with | some c => (c.per : Int) / max 1 c.den | none => 0
  s.seekFrame n (h.seekFrom (t + 56 * pitch)) (fun c => decide (c.at_ (-56) ≥ t))

/-! ## Dropping what waits -/

/-- The opcode of a command that waits in a launch queue. -/
def isTimingChange (i : Instr) : Bool :=
  match i with
  | .headConfig _ _ => true
  | .viewSet _ _ => true
  | .viewClear _ _ _ => true
  | _ => false

/-- Frees the tile range and ring that a waiting raster change holds. -/
def State.freeNext (s : State) (n : Nat) : State := s.modHead n (fun h => { h with nextAllot := none })

/-- Drops the shots of a head's frames from k on with all their work. -/
def State.dropFrom (s : State) (n k : Nat) : State :=
  let later := ((s.head n).shots.filter (fun x => decide (x.frame ≥ k))).map (fun x => x.frame)
  let s := later.foldl (fun s f => s.dropFrame n f) s
  s.modHead n (fun h => { h with shots := h.shots.filter (fun x => decide (x.frame < k) || s.composing n x.frame) })

/-! ## Start and stop -/

/-- WARMUP's frame count W (R297). -/
def Head.warmFrames (h : Head) : Nat :=
  match h.cfg with
  | some c => 2 * ceilDiv (h.ledger.warmTime * c.rate.n * h.nViews) (2000 * rateDen c.rate)
  | none => 0

/-- Whether every driver of a head is UP. -/
def State.driversUp (s : State) (n : Nat) : Bool := (s.driversOf n).all (fun d => (s.driver d).link == 4)

/-- A start (R311): the ledger is prepared, ACTIVE committed, the warm-up begun where it is due, and the first frame is the first whose
latch point lies 100 µs ahead. -/
def State.startHead (s : State) (n : Nat) : State :=
  let s := s.prepareLedger n
  let h := s.head n
  let warm := h.ledger.warmDue
  let s := commitShutdown s [(n, 1)] 0
  let s := s.forgetItems n (fun _ => true)
  let s := s.modHead n (fun h => { h with
    state := if warm then 2 else 3, gateNow := h.gate, shots := [],
    ledger := { h.ledger with warmDue := false, warmLeft := if warm then h.warmFrames else 0, warmCount := 0, warmEnding := false, parkL := 0 },
    pins := { h.pins with goe := true },
    scan := { h.scan with
      latched := [], ready := [], skippedRows := [], skips := [], stopFrame := none, balance := false, parking := false,
      transition := 0, changing := false, nextCfg := none, planned := [], eLast := s.tp, seam := true, line := 0, startTau := s.tauNow n,
      slotNext := 0, nextLatch := if h.follows then h.scan.frame + 1 else 0 } })
  let k := s.firstLatchAt n (s.tp + usU 100)
  let s := s.modHead n (fun h => { h with scan := { h.scan with firstFrame := k, nextLatch := k, nextCompose := k, frame := k } })
  if warm then (incCounter s 5).post 0xE055 n 0 (leBytes 4 (s.head n).ledger.warmLeft) else s

/-- Whether a head runs frames that a stop can end. -/
def Head.stoppable (h : Head) : Bool := h.state == 2 || h.state == 3 || h.state == 4

/-- A stop (R316): the frames latched so far are the last pictures, the frame after them is the balancing frame, nothing later is
composed. A waiting WARMUP_END and timing changes of HEAD_CONFIG lose their object. -/
def State.stopHead (s : State) (n : Nat) : State :=
  let h := s.head n
  if !h.stoppable then s else
  let kb := h.scan.nextLatch
  let s := s.modHead n (fun h => { h with
    state := 5, ledger := { h.ledger with warmEnding := false }, scan := { h.scan with stopFrame := some kb } })
  let s := s.dropFrom n kb
  let s := s.endProcs 0x0708 n 0 n false
  let s := s.dropEntries (fun e => e.queue == n && (match e.cmd with
    | .headConfig _ _ => true | .headSr _ _ => true | .warmupEnd _ _ => true | _ => false)) 4
  if (s.head n).scan.nextCfg.isSome then s else s.freeNext n

/-- The pending P-items of the frames latched go with cause RESET (R320). -/
def State.resetRows (s : State) (n : Nat) : State :=
  let h := s.head n
  h.scan.latched.foldl (fun s l => (List.range h.th).foldl (fun s q =>
    if (s.head n).settled l.frame q then s else s.skipRow n l.frame q 4) s) s

/-! ## A step of TP -/

/-- A TP step reaches a head (R69, R274): latched frames keep their starts in elapsed time, and the next frame is the first that begins
a line time after them in the new TP. -/
def State.seamHead (s : State) (n : Nat) (delta : Int) : State :=
  let h := s.head n
  if !h.scans then s else
  let move := fun (l : Latched) => { l with
    clock := { l.clock with num := l.clock.num + delta * l.clock.den }, tp0 := (l.tp0 + delta * 2 ^ 32).toNat }
  let s := s.modHead n (fun h => { h with scan := { h.scan with
    latched := h.scan.latched.map move, seam := true,
    planned := h.scan.planned.map (fun p => (p.1, (p.2 + delta).toNat)), eLast := (h.scan.eLast + delta).toNat } })
  let h := s.head n
  if h.follows then s else
  let k := match h.scan.latched.getLast? with
    | some l =>
      let last := l.count (l.clock.at_ 0 + h.framePeriod) - 1
      s.firstAt n (l.clock.at_ (last + 1))
    | none => s.firstLatchAt n s.tp
  let old := h.scan.nextLatch
  let s := (h.shots.filter (fun x => x.frame ≥ old)).foldl (fun s x => s.dropFrame n x.frame) s
  s.modHead n (fun h => { h with
    shots := h.shots.filter (fun x => x.frame < old),
    scan := { h.scan with
      nextLatch := k, nextCompose := k, frame := if h.scan.latched.isEmpty then k else h.scan.frame,
      firstFrame := if h.scan.latched.isEmpty then k else h.scan.firstFrame,
      stopFrame := h.scan.stopFrame.map (fun b => if b = old then k else b) } })

/-! ## The wind-down -/

/-- The items of a head that run on engines are abandoned where they stand. -/
def State.abortItems (s : State) (n : Nat) : State :=
  let mine := fun (i : Item) => i.key.kind != .t && i.key.owner == n
  let run := (List.range 8).flatMap (fun c => (s.cluster c).running.filter mine)
  if run.isEmpty then s else
  (run.foldl (fun s i => s.freeEngine i.key) s).mapTiles n (fun t => if t.running then t.pop else t)

/-- The abort of a scanning head (R299, R315, R426): nothing is closed or saved, what waits is dropped. -/
def State.abortHead (s : State) (n : Nat) : State :=
  let h := s.head n
  let s := s.abortItems n
  let s := h.shots.foldl (fun s x => s.dropFrame n x.frame) s
  let s := s.removeItems (fun x => x.kind != .t && x.owner == n)
  let s := s.endProcs 0x0704 n 0 n false
  let s := s.endProcs 0x0708 n 0 n false
  let s := s.forgetItems n (fun _ => true)
  s.modHead n (fun h => { h with
    shots := [], scan := { h.scan with
      latched := [], ready := [], skippedRows := [], skips := [], stopFrame := none, balance := false, parking := false,
      transition := 0, changing := false, planned := [] } })

/-- A head that takes no more frames: its scan state is cleared and the slots it held are released. -/
def State.haltHead (s : State) (n state : Nat) : State :=
  let s := s.abortHead n
  let s := s.endLeases n
  s.modHead n (fun h => { h with state := state })

end Sys2Proof.Machine
end

