-- ==== Sys2Proof/Machine/TimeOps.lean ====
section
/-! DEFINITION. Presentation time as shared operations (R60 to R69, R78): switches, steps and what a step reaches, the state changes of
the PTP domains (R52), the EVT_OUT pulse that falls due next (R83). -/

namespace Sys2Proof.Machine

/-! ## PTP domains -/

/-- A domain changes state and posts PTP_STATE (R52). -/
def State.domainState (s : State) (d new : Nat) : State :=
  let x := s.domain d
  if x.state = new then s else
  let gm := match x.gm with | some a => a.identity | none => 0
  let since := if x.state = 3 ∨ new = 3 then s.timeRegs.ticks else x.since
  (s.setDomain d { x with state := new, since := since }).post 0xE004 d 0 (leBytes 1 x.state ++ leBytes 1 new ++ leBytes 8 gm)

/-- Clears the servo of a domain and takes it to LISTENING where it is enabled (R48). -/
def State.domainRestart (s : State) (d : Nat) : State :=
  let x := s.domain d
  let s := if x.state = 0 then s else s.domainState d 1
  s.setDomain d { s.domain d with gm := none, offset := 0, meanDelay := 0, good := 0, bad := 0 }

/-- The counter of a domain: TA or TB, or on a linked standby the active's time (R452). -/
def State.counterOfDomain (s : State) (d : Nat) : Nat := if d = 0 then s.time.ta else s.time.tb

/-- The counter that TP follows: on a standby the time stamped by TIME (R452). -/
def State.source (s : State) : Nat :=
  match s.standby, s.sync.tpStamp with
  | true, some x => x
  | _, _ => s.counterOfDomain s.time.selected

/-- Whether TP's source may be followed: the selected domain LOCKED, or the active's time. -/
def State.sourceLocked (s : State) : Bool := (s.standby && s.sync.tpStamp.isSome) || (s.domain s.time.selected).state == 3

/-- The jump limit in counter units. -/
def State.jumpUnits (s : State) : Nat := s.time.jumpLimit * 2 ^ 48

/-- Posts TIME_JUMP_REFUSED with D and sets the sticky bit (R64). -/
def State.jumpRefused (s : State) (d : Nat) (diff : Int) : State :=
  ({ s with time := { s.time with jumpRefused := true } }).post 0xE003 d 0 (leInt 8 (diff / 2 ^ 32))

/-- TP selects a domain: the home domain too where host software asks (R65, R67). -/
def State.takeDomain (s : State) (d : Nat) (host : Bool) : State :=
  { s with time := { s.time with selected := d, home := if host then d else s.time.home, refusing := false } }

/-- TP's difference from a domain's counter. -/
def State.diffFrom (s : State) (d : Nat) : Int := (s.time.tp : Int) - s.counterOfDomain d

/-- Whether R65 accepts a switch to a domain. -/
def State.switchOk (s : State) (d : Nat) : Bool :=
  !s.time.tracking || ((s.domain d).state == 3 && decide ((s.diffFrom d).natAbs ≤ s.jumpUnits))

/-- A refused switch that a jump caused is reported (R64). -/
def State.switchRefused (s : State) (d : Nat) : State :=
  if (s.domain d).state == 3 ∧ (s.diffFrom d).natAbs > s.jumpUnits then s.jumpRefused d (s.diffFrom d) else s

/-! ## EVT_OUT -/

/-- EVT_OUT pin p. -/
def State.evtOutOf (s : State) (p : Nat) : EvtOut := spGet s.evtOut {} p
/-- Writes EVT_OUT pin p. -/
def State.setEvtOut (s : State) (p : Nat) (e : EvtOut) : State := { s with evtOut := spSet {} s.evtOut p e }
/-- EVT_IN input p. -/
def State.evtInOf (s : State) (p : Nat) : EvtIn := spGet s.evtIn {} p
/-- Writes EVT_IN input p. -/
def State.setEvtIn (s : State) (p : Nat) (e : EvtIn) : State := { s with evtIn := spSet {} s.evtIn p e }

/-- The newest pulse start of an EVT_OUT setting at or before a time, with the pulse's number (R83). -/
def State.pulseAt (s : State) (c : EvtOutP) (t : Nat) : Option (Nat × Nat) :=
  let st := unitsOf c.start
  match c.mode with
  | 1 => if st ≤ t then some (st, 0) else none
  | 2 => if st ≤ t then (let j := (t - st) / max 1 (unitsOf c.period); some (st + j * unitsOf c.period, j)) else none
  | 3 =>
    let off : Int := c.offset * 65536
    let x := ((t : Int) - off).toNat
    let k := frameAt c.rate x
    some (((epoch c.rate k : Int) + off).toNat, k)
  | 4 =>
    let h := s.head c.head
    match h.cfg with
    | none => none
    | some hc =>
      if hc.scanMode = 1 then
        ((h.scan.planned.filter (fun p => decide ((p.2 : Int) + offsetOf hc ≤ t))).getLast?).map (fun p => (((p.2 : Int) + offsetOf hc).toNat, p.1))
      else
        let k := frameAt hc.rate ((t : Int) - offsetOf hc).toNat
        some (((epoch hc.rate k : Int) + offsetOf hc).toNat, k)
  | _ => none

/-- Puts a setting into force on an EVT_OUT pin (R85). -/
def State.evtOutApply (s : State) (p : EvtOutP) : State :=
  let e := s.evtOutOf p.pin
  if e.pulse then s.setEvtOut p.pin { e with waiting := some p }
  else s.setEvtOut p.pin { cfg := p, lastStart := some s.tp }

/-! ## Steps -/

/-- The first frame of a transmit flow whose launch window has not passed at a time (R69). -/
def txFirst (r : Rate) (tro t : Nat) : Nat :=
  let k := frameAt r (t - tro)
  if epoch r k + tro ≥ t then k else k + 1

/-- A TP step reaches a transmit flow: the frames whose window has passed are dropped and counted (R69, R137). -/
def State.seamTx (s : State) (kind i : Nat) : State :=
  let f := s.tx kind i
  match f.cfg, (s.output i).cfg with
  | some c, some o =>
    if !f.enabled || !f.started || kind != 3 then s else
    let k := txFirst o.rate (nsU c.tro) s.tp
    s.setTx kind i { f with frame := k, packet := 0, late := add64 f.late (k - f.frame) }
  | _, _ => s

/-- Every head and transmit flow meets a step of TP (R69). -/
def State.seamFlows (s : State) (delta : Int) : State :=
  (List.range 64).foldl (fun s i => s.seamTx 3 i) (headNums.foldl (fun s n => s.seamHead n delta) s)

/-- Every transmit output goes on with the frame that TP names after a step (R69). -/
def State.seamOutputs (s : State) : State :=
  (List.range 64).foldl (fun s i => match (s.output i).cfg with
    | some c => s.setOutput i { s.output i with frame := frameFrom c.rate (s.tp + periodNear c.rate) }
    | none => s) s

/-- Every EVT_OUT pin in use passes over the pulses that a step leaves behind (R85). -/
def State.seamPins (s : State) : State :=
  (List.range 8).foldl (fun s p => if (s.evtOutOf p).cfg.mode = 0 then s else s.setEvtOut p { s.evtOutOf p with lastStart := some s.tp }) s

/-- The launch entries that a step leaves behind are late (R78). -/
def State.seamEntries (s : State) (delta : Int) : State :=
  { s with cp := { s.cp with launch := s.cp.launch.map (fun e =>
      if e.timed && decide (e.t < s.tp) && decide (delta > 0) then { e with late := true } else e) } }

/-- TP takes a value as a step (R68): the generation rises; heads, transmit outputs and flows, EVT_OUT pins and launch entries meet
it (R69, R78, R85). -/
def State.stepTp (s : State) (v : Nat) : State :=
  let delta : Int := (visible v : Int) - s.tp
  let s := { s with time := { s.time with tp := v, tpGen := (s.time.tpGen + 1) % 65536, refusing := false } }
  (((s.seamFlows delta).seamOutputs).seamPins).seamEntries delta

/-- A value of TP set by host software: at once while FREE (R60), else on the next tick (R68). -/
def State.forceValue (s : State) (u : Nat) : State :=
  if s.time.tracking then { s with timeRegs := { s.timeRegs with nextStep := some (.value u) } } else s.stepTp (counterOf u)

/-- A step to the selected domain, on the next tick (R68). -/
def State.forceDomain (s : State) : State := { s with timeRegs := { s.timeRegs with nextStep := some .domain } }

end Sys2Proof.Machine
end

