-- ==== Sys2Proof/Machine/MatrixOps.lean ====
section
/-! DEFINITION. The routing matrix as shared operations: destinations (R140 to R145), frame selection (R146 to R149, R157), route changes
(R150 to R156, R653), layer settings (R166), presents and leases (R171 to R173), the audio that follows a route (R178 to R181). -/

namespace Sys2Proof.Machine

/-! ## Destinations -/

/-- The routing state of a destination. -/
def State.dest (s : State) (d : Dest) : DestState := if d.kind = 0 then (s.layer d.index).route else (s.output d.index).route

/-- Writes the routing state of a destination. -/
def State.setDest (s : State) (d : Dest) (x : DestState) : State :=
  if d.kind = 0 then s.setLayer d.index { s.layer d.index with route := x } else s.setOutput d.index { s.output d.index with route := x }

/-- The destination code of R494. -/
def destCode (d : Dest) : Nat := 256 * d.kind + d.index

/-- Whether a destination lies in the ranges of R494. -/
def destOk (d : Dest) : Bool := decide ((d.kind = 0 ∧ d.index < 64) ∨ (d.kind = 1 ∧ d.index < 64))

/-- The head of a head layer. -/
def destHead (d : Dest) : Nat := d.index / 16

/-- The launch queue of a destination (R73): its head's, or the common queue. -/
def destQueue (d : Dest) : Nat := if d.kind = 0 then destHead d else 4

/-- The head field of CMD_APPLIED for a destination. -/
def destField (d : Dest) : Nat := if d.kind = 0 then destHead d else 255

/-- Whether a destination has no frame boundaries now: its head is idle (R653), or its output has never been set. -/
def State.destIdle (s : State) (d : Dest) : Bool := if d.kind = 0 then (s.head (destHead d)).idle else (s.output d.index).cfg.isNone

/-- Whether blending is on for a destination. -/
def State.destBlend (s : State) (d : Dest) : Bool :=
  if d.kind = 0 then (s.layer d.index).cfg.blend else (match (s.output d.index).cfg with | some c => n2b c.blend | none => false)

/-- Whether the loss action of a destination is FILL (R156). -/
def State.destLossFill (s : State) (d : Dest) : Bool :=
  if d.kind = 0 then (s.layer d.index).cfg.lossFill else (match (s.output d.index).cfg with | some c => c.lossAction == 1 | none => false)

/-- E_k − P of a destination's frame k (R146). -/
def State.destLimit (s : State) (d : Dest) (k : Nat) : Option Int :=
  if d.kind = 0 then
    let h := s.head (destHead d)
    match h.cfg, h.epochOf k with
    | some c, some e => some ((e : Int) - nsU c.latency)
    | _, _ => none
  else match (s.output d.index).cfg with
    | some c => some ((epoch c.rate k : Int) - nsU c.latency)
    | none => none

/-- The route field of R495. -/
def routeCode (r : Route) : Nat := 256 * r.kind + r.source

/-! ## Frame selection -/

/-- The slots of a flow with their numbers; a disabled flow behaves as one that has never delivered a frame (R141). -/
def RxFlow.frames_ (f : RxFlow) : List (Nat × Slot) := if f.enabled then (List.range f.slots.length).zip f.slots else []

/-- The COMPLETE slot of latest FRAME_TIME that satisfies a test. -/
def latestSlot (l : List (Nat × Slot)) (p : Nat → Bool) : Option (Nat × Slot) :=
  l.foldl (fun b x =>
    if x.2.state = 2 ∧ p x.2.frameTime = true then (match b with
      | some y => if y.2.frameTime ≤ x.2.frameTime then some x else some y
      | none => some x) else b) none

/-- The COMPLETE slot of earliest FRAME_TIME that satisfies a test. -/
def earliestSlot (l : List (Nat × Slot)) (p : Nat → Bool) : Option (Nat × Slot) :=
  l.foldl (fun b x =>
    if x.2.state = 2 ∧ p x.2.frameTime = true then (match b with
      | some y => if x.2.frameTime < y.2.frameTime then some x else some y
      | none => some x) else b) none

/-- What R146 or R157 selects of a video source at a limit E_k − P: the selection, and whether BLEND_SINGLE counts. -/
def State.selectFrame (s : State) (flow : Nat) (limit : Int) (blend : Bool) : Option Selected × Bool :=
  let f := s.flow 0 flow
  match f.cfg with
  | none => (none, false)
  | some c =>
    let l := f.frames_
    if blend && c.format.scanning != 1 then
      let t : Int := limit - periodNear c.format.rate
      match latestSlot l (fun x => decide ((x : Int) ≤ t)) with
      | none => (none, false)
      | some (a, sa) =>
        match earliestSlot l (fun x => decide (x > sa.frameTime) && decide ((x : Int) ≤ limit)) with
        | none => (some { flow := flow, slot := a, time := sa.frameTime }, true)
        | some (b, sb) =>
          let w := (rdivUp (64 * (t - sa.frameTime)) ((sb.frameTime : Int) - sa.frameTime)).toNat
          (some { flow := flow, slot := a, time := sa.frameTime, partner := some b, weight := w }, false)
    else match latestSlot l (fun x => decide ((x : Int) ≤ limit)) with
      | some (a, sa) => (some { flow := flow, slot := a, time := sa.frameTime }, false)
      | none => (none, false)

/-- Whether LATE_SOURCE counts (R147): a slot that meets the time condition, later than the selected one, was not COMPLETE. -/
def State.lateSource (s : State) (flow : Nat) (limit : Int) (sel : Option Selected) : Bool :=
  match sel with
  | none => false
  | some x => ((s.flow 0 flow).frames_).any (fun y =>
      (y.2.state == 1 || y.2.state == 3) && decide ((y.2.frameTime : Int) ≤ limit) && decide (y.2.frameTime > x.time) &&
      (match x.partner with | some b => decide (y.2.frameTime > (s.slot flow b).frameTime) | none => true))

/-- The slots that a selection uses. -/
def Selected.slots (x : Selected) : List (Nat × Nat) :=
  (x.flow, x.slot) :: (match x.partner with | some b => [(x.flow, b)] | none => [])

/-- Adds a reader to each slot (R149). -/
def State.holdSlots (s : State) (l : List (Nat × Nat)) : State :=
  l.foldl (fun s x => let d := s.slot x.1 x.2
                      s.putSlot x.1 x.2 { d with readers := d.readers + 1 }) s

/-! ## Audio that follows a route -/

/-- The association of a route (R178). -/
def State.assocOf (s : State) (r : Route) : Assoc := if r.kind = 1 then spGet s.assocs {} r.source else {}

/-- V_H of R181 in 2^-16 ns for a trim in nanoseconds. -/
def State.videoLatency (s : State) (n : Nat) (trim : Int) : Int :=
  match (s.head n).cfg with
  | some c => nsU c.latency + offsetOf c + s.dScan n + trim * 65536
  | none => trim * 65536

/-- A delay in samples, to nearest with ties upward (R181). -/
def delaySamples (v : Int) : Int := rdivUp (v * 48000) uSec

/-- d of a head's audio. -/
def State.headDelay (s : State) (n : Nat) : Int := delaySamples (s.videoLatency n (s.head n).audio.trim)

/-- d of a transmit audio flow (R181): from the path latency of the output that it follows; 0 where it routes an audio flow. -/
def State.txDelay (s : State) (u : Nat) : Int :=
  let x := spGet s.txAudio {} u
  if x.follows = 0 then (match (s.output x.index).cfg with | some c => delaySamples (nsU c.latency) | none => 0) else 0

/-- Whether a delay fits the ring of an audio flow (R181). -/
def State.delayFits (s : State) (flow : Nat) (d : Int) : Bool :=
  match (s.flow 1 flow).cfg with
  | some c => flow == 255 || decide (2 * (d + 96) ≤ (ringFrames c : Int))
  | none => true

/-- The destination whose audio a head plays (R178). -/
def State.audioDest (s : State) (n : Nat) : Dest := { kind := 0, index := 16 * n + (s.head n).audio.layer }

/-- Where the new side of a change first shows: frame k, or for a FADE the first frame past its middle (R179). -/
def firstNew (k kind n : Nat) : Nat := if kind = 2 then k + n / 2 else k

/-- n_sw of R179 for a time in 2^-16 ns. -/
def fadeSample (t : Int) : Nat := ceilDiv (t.toNat * 48000) uSec

/-- A followed route changes at frame k: the audio crossfades (R179). -/
def State.audioSwitch (s : State) (d : Dest) (old : Route) (k : Nat) : State :=
  let was := s.assocOf old
  if d.kind = 0 then
    let n := destHead d
    let h := s.head n
    if h.audio.layer ≠ d.index % 16 then s else
    match s.clockOf n k h.bandNow with
    | some c => s.setHead n { h with audio := { h.audio with fade := some { old := was, start := fadeSample (c.at_ 0 + s.dScan n) } } }
    | none => s
  else match (s.output d.index).cfg with
    | none => s
    | some c => { s with txAudio := s.txAudio.map (fun x =>
        if x.2.follows = 0 ∧ x.2.index = d.index then (x.1, { x.2 with fade := some { old := was, start := fadeSample (epoch c.rate k) } }) else x) }

/-! ## Route changes -/

/-- Drops the deferred change of a destination (R154). -/
def State.dropDeferred (s : State) (d : Dest) (cause : Nat) : State :=
  let x := s.dest d
  match x.deferred with
  | none => s
  | some f => (s.setDest d { x with deferred := none }).dropped f.e.acceptNo f.e.tag cause

/-- ROUTE_SWITCHED (R155). -/
def State.postSwitched (s : State) (d : Dest) (k : Nat) (r : Route) (time : List Byte) (waited : Nat) : State :=
  s.post 0xE020 (destCode d) 0 (leBytes 4 k ++ leBytes 2 (routeCode r) ++ time ++ leBytes 1 waited)

/-- A route change takes effect at frame k with the selection of its new side (R151, R154, R155). -/
def State.routeSwitch (s : State) (d : Dest) (p : RouteSetP) (e : Entry) (k waited : Nat) (sel : Option Selected) : State :=
  let x := s.dest d
  let new : Route := { kind := p.kind, source := p.source }
  let same := decide (new = x.route)
  let s := s.setDest d { x with
    route := new, switchWait := p.switchWait, deferred := none,
    trans := if p.transition = 0 then none else some { old := x.route, kind := p.transition, n := p.frames, i := 0 },
    oldShown := x.shown, shown := if same then x.shown else none, lossEnd := same && x.lossEnd, faulted := same && x.faulted }
  let s := if p.kind = 1 ∧ sel.isNone then s.post 0xE021 (destCode d) 0 (leBytes 4 k) else s
  let s := s.postSwitched d k new (match sel with | some y => timeBytes y.time | none => noTime) waited
  let s := if same then s else s.audioSwitch d x.route (firstNew k p.transition p.frames)
  s.entryApplied e k (destField d)

/-- A route change falls due at frame k, after a number of frames of deferral (R153): it takes effect, or is deferred while its video
source has no frame that meets R146. -/
def State.routeDue (s : State) (d : Dest) (p : RouteSetP) (e : Entry) (k waited : Nat) : State :=
  let sel := match s.destLimit d k with
    | some limit => if p.kind = 1 then (s.selectFrame p.source limit (s.destBlend d)).1 else none
    | none => none
  if p.kind = 1 ∧ sel.isNone ∧ waited < p.switchWait then
    s.setDest d { s.dest d with deferred := some { p := p, e := e, waited := waited } }
  else s.routeSwitch d p e k waited sel

/-- A route change of a destination without frame boundaries: a cut at once (R653). -/
def State.routeAtOnce (s : State) (d : Dest) (p : RouteSetP) (e : Entry) : State :=
  let s := s.dropDeferred d 2
  let x := s.dest d
  let new : Route := { kind := p.kind, source := p.source }
  let same := decide (new = x.route)
  let s := s.setDest d { x with
    route := new, switchWait := p.switchWait, trans := none, oldShown := none, shown := if same then x.shown else none,
    lossEnd := same && x.lossEnd, faulted := same && x.faulted }
  (s.postSwitched d noFrame new noTime 0).entryApplied e noFrame (destField d)

/-- A ROUTE_SET entry takes effect: at frame k, or at once where there is none. An earlier deferred change is dropped (R154). -/
def State.routeApply (s : State) (p : RouteSetP) (e : Entry) (k : Option Nat) : State :=
  match k with
  | some k => (s.dropDeferred p.dest 2).routeDue p.dest p e k 0
  | none => s.routeAtOnce p.dest p e

/-- The retry of a deferred change at the next frame (R153). -/
def State.routeRetry (s : State) (d : Dest) (k : Nat) : State :=
  match (s.dest d).deferred with
  | some f => s.routeDue d f.p f.e k (f.waited + 1)
  | none => s

/-! ## Settings of layers and outputs -/

/-- The settings that a LAYER_SET gives (R166). -/
def layerCfgOf (p : LayerSetP) : LayerCfg :=
  { enable := n2b p.enable, zX := Nat.xor p.z p.layer, crop := p.crop, dest := p.dest, g := p.g, fill := p.fill, views := p.views,
    blend := n2b p.blend, lossFill := p.lossAction == 1, hold := p.hold, bypass := n2b p.bypass, m1Loaded := p.m1Mode == 1, m1 := p.m1, m2 := p.m2 }

/-- LAYER_SET takes effect. -/
def State.layerApply (s : State) (p : LayerSetP) : State :=
  let c := 16 * p.head + p.layer
  s.setLayer c { s.layer c with cfg := layerCfgOf p }

/-- Z of a layer. -/
def layerZ (m : Nat) (c : LayerCfg) : Nat := Nat.xor c.zX m

/-- ENABLE and Z of a layer as last accepted: those of the newest LAYER_SET that waits, else those in force. -/
def State.askedLayer (s : State) (n m : Nat) : Bool × Nat :=
  match (s.cp.launch.filterMap (fun e => match e.cmd with
    | .layerSet _ q => if q.head = n ∧ q.layer = m then some (n2b q.enable, q.z) else none
    | _ => none)).getLast? with
  | some x => x
  | none => let c := (s.layer (16 * n + m)).cfg; (c.enable, layerZ m c)

/-- Whether a scaling ratio lies from 1/8 to 8 on both axes (R161). -/
def ratioOk (cw ch dw dh : Nat) : Bool := decide (1 ≤ cw ∧ 1 ≤ ch ∧ dw ≤ 8 * cw ∧ cw ≤ 8 * dw ∧ dh ≤ 8 * ch ∧ ch ≤ 8 * dh)

/-- The 16-bit signed words of a buffer. -/
def words16 (bs : List Byte) (o n : Nat) : List Int := (List.range n).map (fun i => sx 16 (fieldAt bs (o + 2 * i) 2))

/-- A coefficient set from a buffer (R501), absent where it breaks R162. -/
def coefSet (bs : List Byte) (taps : Nat) : Option (List Int) :=
  let w := words16 bs 0 (64 * taps)
  if w.all (fun x => decide (-512 ≤ x ∧ x ≤ 511)) && (List.range 64).all (fun ph => ((w.drop (taps * ph)).take taps).foldl (· + ·) 0 == 256)
  then some w else none

/-- Bytes of a coefficient set. -/
def coefBytes (axis : Nat) : Nat := if axis = 0 then 1024 else 768

/-- LAYER_COEF takes effect. -/
def State.coefApply (s : State) (d : Dest) (axis auto : Nat) (data : List Byte) : State :=
  let set := if auto = 1 then none else coefSet data (if axis = 0 then 8 else 6)
  let x := s.dest d
  s.setDest d (if axis = 0 then { x with coefH := set } else { x with coefV := set })

/-- Bytes of a TLUT and ELUT buffer (R501). -/
abbrev lutBytes : Nat := 30726

/-- The TLUTs and ELUTs of a buffer (R501). -/
def lutsOf (bs : List Byte) : List (List Nat) × List (List Nat) :=
  let words := fun (o n : Nat) => (List.range n).map (fun i => fieldAt bs (o + 2 * i) 2)
  ([0x0000, 0x0800, 0x1000].map (fun o => words o 1024), [0x1800, 0x3802, 0x5804].map (fun o => words o 4097))

/-- Whether an ELUT keeps [15:10] zero (R501). -/
def lutsOk (bs : List Byte) : Bool := (lutsOf bs).2.all (fun l => l.all (fun x => decide (x < 1024)))

/-- The tables that a command's buffer gives: AUTO and the default, kept as empty lists, for address 0. -/
def lutsFrom (buffer : Nat) (data : List Byte) : List (List Nat) × List (List Nat) := if buffer = 0 then ([], []) else lutsOf data

/-- HEAD_PICTURE takes effect. -/
def State.pictureApply (s : State) (p : HeadPictureP) (data : List Byte) : State :=
  let l := lutsFrom p.lutBuffer data
  s.modHead p.head (fun h => { h with picture := { background := p.background, peak := p.peak, tluts := l.1, eluts := l.2 } })

/-- OUTPUT_SET takes effect. A new rate begins with the first frame whose composition lies ahead (R144); another raster, format or
slot list begins without complete frames. -/
def State.outputApply (s : State) (p : OutputSetP) (data : List Byte) : State :=
  let o := s.output p.output
  let l := lutsFrom p.lutBuffer data
  let fresh : Output := { o with cfg := some p, tluts := l.1, eluts := l.2 }
  let (newRate, newSlots) := match o.cfg with
    | some c => (decide (c.rate ≠ p.rate), decide (c.width ≠ p.width ∨ c.height ≠ p.height ∨ c.format ≠ p.format ∨ c.slotCount ≠ p.slotCount ∨
        c.bases ≠ p.bases))
    | none => (true, true)
  let fresh := if newRate then { fresh with frame := frameFrom p.rate (s.tp + periodNear p.rate) } else fresh
  let fresh := if newSlots || newRate then { fresh with itemsLeft := [], done := [], slotNext := 0 } else fresh
  let s := s.setOutput p.output fresh
  if newRate then s.setTx 3 p.output { s.tx 3 p.output with started := false, packet := 0 } else s

/-- AUDIO_HEAD takes effect at frame k: a change of the audio layer changes the followed route (R179). -/
def State.audioHeadApply (s : State) (p : AudioHeadP) (k : Option Nat) : State :=
  let h := s.head p.head
  let was := (s.dest (s.audioDest p.head)).route
  let s := s.setHead p.head { h with audio := { h.audio with
    layer := p.layer, trim := p.trim, tdm := n2b p.tdmEnable, tdm8 := p.tdmFormat == 1, map := p.map } }
  match k with
  | some k => if (s.dest (s.audioDest p.head)).route = was then s else s.audioSwitch (s.audioDest p.head) was k
  | none => s

/-- AUDIO_ASSOC takes effect. -/
def State.assocApply (s : State) (source flow : Nat) (map : List Nat) : State :=
  { s with assocs := spSet {} s.assocs source (if flow = 255 then {} else { flow := flow, map := map }) }

/-- AUDIO_TX takes effect. -/
def State.audioTxApply (s : State) (flow follows index : Nat) (map : List Nat) : State :=
  let x : TxAudio := spGet s.txAudio {} flow
  { s with txAudio := spSet {} s.txAudio flow { x with follows := follows, index := index, map := map, fade := none } }

/-! ## Presents -/

/-- The length of a present's range (R172). -/
def presentLen (p : PresentP) : Nat := p.pitch * p.height

/-- The lease that covers a present's range and layer. -/
def State.leaseOf (s : State) (p : PresentP) : Option Nat :=
  (s.leases.find? (fun x => x.2.head == p.head && x.2.layer == p.layer && x.2.base == p.base && x.2.len == presentLen p)).map (fun x => x.1)

/-- The lowest lease that is not held. -/
def State.leaseFree (s : State) : Option Nat := (List.range 256).find? (fun i => s.leases.all (fun x => x.1 != i))

/-- The presents of a layer that wait. -/
def isPresentOf (n m : Nat) (e : Entry) : Bool := match e.cmd with | .layerPresent _ q => q.head == n && q.layer == m | _ => false

/-- A present is accepted (R172, R173): its lease is taken or continues, and a present that still waits on the layer is superseded. -/
def State.presentAccept (s : State) (p : PresentP) : State :=
  let old := s.cp.launch.filter (isPresentOf p.head p.layer)
  let s := s.dropEntries (isPresentOf p.head p.layer) 2
  let s := match s.leaseOf p with
    | some id => { s with leases := spSet {} s.leases id { spGet s.leases {} id with ending := false } }
    | none => match s.leaseFree with
      | some id => { s with leases := spSet {} s.leases id { head := p.head, layer := p.layer, base := p.base, len := presentLen p } }
      | none => s
  let inForce := ((s.layer (16 * p.head + p.layer)).present).map (fun x => x.lease)
  old.foldl (fun s e => match e.cmd with
    | .layerPresent _ q =>
      (match s.leaseOf q with
       | some id => if some id = s.leaseOf p ∨ some id = inForce then s else s.freeLease id 0xFFFFFFFF
       | none => s)
    | _ => s) s

/-- A present takes effect at frame k, or at once (R171, R173). -/
def State.presentApply (s : State) (p : PresentP) (k : Option Nat) : State :=
  let c := 16 * p.head + p.layer
  let l := s.layer c
  let id := (s.leaseOf p).getD 0
  let s := s.setLayer c { l with present := some { p := p, lease := id, frame := k.getD noFrame } }
  match l.present with
  | some old => if old.lease = id then s else s.endLease old.lease
  | none => s

end Sys2Proof.Machine
end

