-- ==== Sys2Proof/Machine/HeadCfg.lean ====
section
/-! DEFINITION. What makes a head configuration acceptable: the ranges of R304, the limits of R37, R143, R308 and R333, the layout of its
drivers (R349), its tile range and drive ring (R188, R312); and its taking effect on a head that does not scan. -/

namespace Sys2Proof.Machine

/-! ## Ranges -/

/-- Bytes of a head's panel state (R269). -/
def panelBytes (w h : Nat) : Nat := 1024 * (ceilDiv w 16 * ceilDiv h 8)

/-- Bytes of one composed frame (R168, R186). -/
def composedBytes (w h : Nat) : Nat := 512 * (ceilDiv w 16 * ceilDiv h 8)

/-- Whether a head configuration lies in the ranges of R71, R143, R145, R213, R304, R331 and R658. -/
def cfgOk (p : HeadConfigP) : Bool :=
  let per := rateDen p.rate * uSec
  decide (p.head < 4 ∧ 16 ≤ p.w ∧ p.w ≤ 32768 ∧ 8 ≤ p.h ∧ p.h ≤ 16384 ∧ p.h + 8 ≤ p.vtotal ∧ p.vtotal ≤ 262143 ∧ p.scanMode ≤ 2 ∧
    p.transitionCode ≤ 1023 ∧ p.latency ≤ 500000000 ∧ 1 ≤ p.linkRate ∧ p.linkRate ≤ 3) &&
  rateOk p.rate && decide (20 * rateDen p.rate ≤ p.rate.n ∧ p.rate.n ≤ 480 * rateDen p.rate) &&
  decide ((offsetOf p).natAbs * p.rate.n < per) && decide (per ≤ 4 * leadN p ∧ leadN p ≤ 2 * per) &&
  decide (16 ≤ lowOf p ∧ lowOf p ≤ 56 ∧ 8 ≤ critOf p ∧ critOf p + 8 ≤ lowOf p) &&
  p.psBase % 4096 == 0 && decide (p.psBase + panelBytes p.w p.h ≤ 0x7FC000000) && decide (p.composedBase < storeSize) &&
  (p.scanMode != 1 || (decide (p.followed < 64) && rateOk p.followMin &&
    decide (20 * rateDen p.followMin ≤ p.followMin.n ∧ p.followMin.n ≤ 480 * rateDen p.followMin)))

/-- Whether two byte ranges overlap. -/
def overlaps (a n b m : Nat) : Bool := decide (a < b + m ∧ b < a + n)

/-- Whether a configuration's panel state overlaps another head's (R269). -/
def State.panelClash (s : State) (p : HeadConfigP) : Bool :=
  headNums.any (fun n => n != p.head && (match (s.head n).cfg with
    | some c => overlaps p.psBase (panelBytes p.w p.h) c.psBase (panelBytes c.w c.h)
    | none => false))

/-! ## Limits -/

/-- Pixels per second of a head as a fraction: every subframe of a view set counts, a FOLLOW head at its shortest frame (R37). -/
def Head.pixelRate (h : Head) : Nat × Nat :=
  match h.cfg with
  | none => (0, 1)
  | some c => if c.scanMode = 1 then (c.w * c.h * uSec, followMin c) else (c.w * c.h * h.nViews * c.rate.n, rateDen c.rate)

/-- Whether the heads together stay within 2^27 pixels and 16.0 Gpix/s (R37). -/
def State.loadOk (s : State) : Bool :=
  let hs := headNums.map (fun n => s.head n)
  let (a, b) := hs.foldl (fun (x : Nat × Nat) h => let r := h.pixelRate; (x.1 * r.2 + r.1 * x.2, x.2 * r.2)) (0, 1)
  decide (hs.foldl (fun x h => x + h.w * h.hh) 0 ≤ 2 ^ 27) && decide (a ≤ 16000000000 * b)

/-- The detail of the feasibility test of a head's view set at its own timing, or nothing where it passes (R338). -/
def State.viewFail (s : State) (n : Nat) (settle : List Nat) : Option (List Byte) :=
  let h := s.head n
  match h.cfg with
  | some c => if h.inViews then feasible c.rate (s.lMin n c.linkRate) c.h settle h.views else none
  | none => none

/-- Whether a head's line pitch respects L_min (R308) and the 4.0 M lines/s of R37; view sets answer by R338. -/
def State.pitchOk (s : State) (n : Nat) : Bool :=
  let h := s.head n
  match h.cfg with
  | none => true
  | some c =>
    let lmin := s.lMin n c.linkRate
    if h.inViews then true
    else if c.scanMode = 1 then decide (lmin ≤ c.lineF)
    else decide (lmin * (c.rate.n * c.vtotal) ≤ rateDen c.rate * uSec) && decide (c.rate.n * c.vtotal ≤ 4000000 * rateDen c.rate)

/-- Whether the followed flow of a FOLLOW head declares more than 480 Hz (R333). -/
def State.followTooFast (s : State) (p : HeadConfigP) : Bool :=
  p.scanMode == 1 && (match (s.flow 0 p.followed).cfg with
    | some f => let r := unitRate f.format; decide (r.n > 480 * rateDen r)
    | none => false)

/-- Whether the audio of a head fits its ring (R181). -/
def State.audioFits (s : State) (n : Nat) : Bool := s.delayFits (s.assocOf (s.dest (s.audioDest n)).route).flow (s.headDelay n)

/-- Whether the drivers set for a head lay out its 3 W subpixel columns as R349 asks. -/
def State.layoutOk (s : State) (n w : Nat) : Bool :=
  let ds := sortBy (fun (a b : Driver) => decide (a.first ≤ b.first)) ((s.driversOf n).map (fun d => s.driver d))
  let last := 3 * w
  let ends := ds.foldl (fun (acc : Bool × Nat) d =>
    let ok := if d.first < last then d.first == acc.2 else decide (acc.2 ≤ d.first)
    (acc.1 && ok && (decide (d.first + d.ch ≤ last) || !d.rev), d.first + d.ch)) (true, 0)
  ends.1 && decide (last ≤ ends.2) && decide (0 < ds.length)

/-- A state in which head n has another configuration and view set, for tests of what it would mean. -/
def State.asIf (s : State) (n : Nat) (c : Option HeadConfigP) (vs : List ViewP) : State := s.modHead n (fun h => { h with cfg := c, views := vs })

/-- Whether the timing of head n in a hypothetical state is refused, the composition lead included (R37, R143, R181, R308, R333, R338). -/
def State.timingRefused (s : State) (n : Nat) : Bool :=
  let h := s.head n
  match h.cfg with
  | none => false
  | some c =>
    decide (2 * ((leadN c : Int) + offsetOf c * c.rate.n) < (rateDen c.rate * uSec : Nat)) || !s.loadOk || !s.pitchOk n ||
    s.followTooFast c || !s.audioFits n || (s.viewFail n h.panel.active.settings.settle).isSome

/-! ## Allotment -/

/-- The lowest start of a free range of `n` among used ranges (base, count) of a space (R188). -/
def lowestFit (used : List (Nat × Nat)) (first size n : Nat) : Option Nat :=
  let l := sortBy (fun (a b : Nat × Nat) => decide (a.1 ≤ b.1)) (used.filter (fun x => x.2 != 0))
  let b := l.foldl (fun b x => if b + n ≤ x.1 then b else max b (x.1 + x.2)) first
  if b + n ≤ first + size then some b else none

/-- Banks of a drive ring (R312). -/
def ringBanksOf (w : Nat) : Nat := ceilDiv (1024 * w) 131072

/-- The tile range and ring that a raster would be allotted: base, tiles, first bank, banks (R188, R312). -/
def State.allotFor (s : State) (w h : Nat) : Option (Nat × Nat × Nat × Nat) :=
  let hs := headNums.map (fun n => s.head n)
  let tiles := ceilDiv w 16 * ceilDiv h 8
  let usedT := hs.flatMap (fun h => (h.allot.tileBase, h.allot.tiles) :: (match h.nextAllot with | some a => [(a.1, a.2.1)] | none => []))
  let usedB := hs.flatMap (fun h => (h.allot.ringFirst, h.allot.ringBanks) :: (match h.nextAllot with | some a => [(a.2.2.1, a.2.2.2)] | none => []))
  match lowestFit usedT 0 1048576 tiles, lowestFit usedB 64 448 (ringBanksOf w) with
  | some b, some f => some (b, tiles, f, ringBanksOf w)
  | _, _ => none

/-- Takes a tile range: its records are fresh (R187, R191). -/
def State.takeTiles (s : State) (n base tiles : Nat) : State :=
  { s with tq := { s.tq with tiles := spMap {} (fun _ _ => { head := n, alloc := true }) s.tq.tiles base tiles } }

/-- Frees a tile range. -/
def State.freeTiles (s : State) (base tiles : Nat) : State := { s with tq := { s.tq with tiles := spClear base (base + tiles) s.tq.tiles } }

/-- A free bank is turned on for a ring: one that was off is zero (R533). -/
def State.takeBanks (s : State) (first n : Nat) : State := if s.mem.idle = 1 then s else s.clearBanks first n

/-- A freed bank that is off keeps nothing (R533). -/
def State.dropBanks (s : State) (first n : Nat) : State := if s.mem.idle = 1 then s else s.clearBanks first n

/-- A configuration takes effect on an unconfigured head (R188, R312). -/
def State.configNow (s : State) (p : HeadConfigP) (a : Nat × Nat × Nat × Nat) : State :=
  let s := (s.takeTiles p.head a.1 a.2.1).takeBanks a.2.2.1 a.2.2.2
  s.modHead p.head (fun h => { h with
    cfg := some p,
    allot := { tileBase := a.1, tiles := a.2.1, ringFirst := a.2.2.1, ringBanks := a.2.2.2, low := lowOf p, crit := critOf p } })

/-- The allotment of a head is freed (R188, R312). -/
def State.unconfig (s : State) (n : Nat) : State :=
  let a := (s.head n).allot
  let s := (s.freeTiles a.tileBase a.tiles).modHead n (fun h => { h with cfg := none, views := [], allot := {} })
  s.dropBanks a.ringFirst a.ringBanks

/-- A view set, or none, takes effect on a head that does not scan. -/
def State.viewsNow (s : State) (n mode : Nat) (vs : List ViewP) : State :=
  s.modHead n (fun h => { h with views := vs, cfg := h.cfg.map (fun c => { c with scanMode := mode }) })

/-- A timing change is accepted (R325, R326): what waits is replaced and its reservation freed. -/
def State.replaceTiming (s : State) (n : Nat) : State :=
  (s.dropEntries (fun e => e.queue == n && isTimingChange e.cmd) 2).freeNext n

end Sys2Proof.Machine
end

