-- ==== Sys2Proof/Machine/CmdHead.lean ====
section
/-! DEFINITION. The HEAD, VIEW and CHECK command groups (0x0701 to 0x0709, 0x0A01 to 0x0A03, 0x0B01, 0x0B02). -/

namespace Sys2Proof.Machine

/-- The reply of HEAD_CONFIG: TILE_BASE and the banks of the drive ring. -/
def allotReply (base banks : Nat) : List Byte := leBytes 4 base ++ leBytes 2 banks

/-- HEAD_CONFIG (0x0701; R37, R143, R188, R269, R304, R308, R312, R322 to R326, R333, R340, R437, R658): at once on an unconfigured
head, a timing change on a scanning one, IGNORED on a configured head that does not scan. -/
def execHeadConfig (h : Hdr) (p : HeadConfigP) (s : State) : Host.Outcome State Fault Refusal :=
  let hd := s.head p.head
  let vs := if p.scanMode = 2 then hd.views else []
  let sTry := s.asIf p.head (some p) vs
  let base : Checks :=
    { bad := !cfgOk p || s.panelClash p, busy := s.sys.windDown,
      refused := sTry.timingRefused p.head ||
        (s.pair.enable && headNums.any (fun n => n != p.head && (s.head n).cfg.isSome)) }
  .next (match hd.cfg with
  | none =>
    let a := s.allotFor p.w p.h
    runNow h 0x0701 { base with noResource := a.isNone } s
      (fun s => (s.configNow p (a.getD (0, 0, 0, 0)), allotReply (a.getD (0, 0, 0, 0)).1 (a.getD (0, 0, 0, 0)).2.2.2))
  | some c =>
    let raster := decide (c.w ≠ p.w ∨ c.h ≠ p.h)
    let a := if raster then (s.freeNext p.head).allotFor p.w p.h else none
    let got := match a with | some x => (x.1, x.2.2.2) | none => (hd.allot.tileBase, hd.allot.ringBanks)
    let chk : Checks := { base with
      busy := base.busy || hd.scan.changing, ignored := !hd.stoppable, noResource := raster && a.isNone,
      refused := base.refused || (c.w != p.w && !s.layoutOk p.head p.w) || (p.scanMode == 1 && hd.inViews) }
    let detail := (sTry.viewFail p.head hd.panel.active.settings.settle).getD []
    let s1 := if testCmd h true p.head (chk.served h 0x0701 s) s = none then
        (let s := s.replaceTiming p.head
         if raster then s.modHead p.head (fun x => { x with nextAllot := a }) else s)
      else s
    runBound h 0x0701 true p.head (.headConfig h p) false chk detail (fun _ => allotReply got.1 got.2) s1 (fun _ s => s))

/-- HEAD_UNCONFIG (0x0702; R188): only in OFF or PARKED. -/
def execHeadUnconfig (h : Hdr) (head : Nat) (s : State) : Host.Outcome State Fault Refusal :=
  let hd := s.head head
  .next (runNow h 0x0702
    { bad := decide (head > 3), busy := s.sys.windDown || hd.power.phase != 0, ignored := hd.cfg.isNone || !(hd.state == 0 || hd.state == 1) } s
    (fun s => (s.unconfig head, [])))

/-- Whether a head may start (R311, R349, R370): it is configured, its drivers are laid out and UP. -/
def State.startOk (s : State) (n : Nat) : Bool :=
  let h := s.head n
  h.cfg.isSome && s.layoutOk n h.w && s.driversUp n

/-- HEAD_START (0x0703; R311, R370): an untimed start takes effect as it is accepted. -/
def execHeadStart (h : Hdr) (head : Nat) (s : State) : Host.Outcome State Fault Refusal :=
  let hd := s.head head
  .next (runBound h 0x0703 true head (.headStart h head) true
    { bad := decide (head > 3), busy := s.sys.windDown || hd.power.phase != 0, ignored := hd.state != 1, refused := !s.startOk head }
    [] (fun _ => []) s
    (fun e s => let s := s.startHead head
                s.entryApplied e ((s.head head).scan.firstFrame % 2 ^ 32) head))

/-- The process record of an entry (R490). -/
def Entry.proc (e : Entry) (op object : Nat) : Proc :=
  { opcode := op, object := object, acceptNo := e.acceptNo, tag := e.tag, noApplied := e.noApplied }

/-- A stop begins and CMD_APPLIED is due at HEAD_PARKED (R316, R318). -/
def State.stopEntry (s : State) (n : Nat) (e : Entry) : State := (s.stopHead n).addProc (e.proc 0x0704 n)

/-- HEAD_STOP (0x0704; R316): IGNORED while the head is STOPPING, PARKED or OFF. -/
def execHeadStop (h : Hdr) (head : Nat) (s : State) : Host.Outcome State Fault Refusal :=
  .next (runBound h 0x0704 true head (.headStop h head) true
    { bad := decide (head > 3), busy := s.sys.windDown, ignored := !(s.head head).stoppable } [] (fun _ => []) s
    (fun e s => s.stopEntry head e))

/-- The settings of HEAD_SR take effect (R304). -/
def State.srSettings (s : State) (p : HeadSrP) : State :=
  s.modHead p.head (fun h => { h with sr := { mode := p.mode, idle := p.idle, period := p.period, holdLimit := p.holdLimit } })

/-- A head enters SELF_REFRESH: composition stops (R327, R328). -/
def State.enterSr (s : State) (n : Nat) : State :=
  let h := s.head n
  let k := h.scan.nextCompose
  (s.setHead n { h with state := 4 }).post 0xE062 n 0 (leBytes 4 k)

/-- A head leaves SELF_REFRESH: the first normal frame is the next whose composition starts (R330). -/
def State.exitSr (s : State) (n : Nat) : State :=
  let h := s.head n
  let k := h.scan.nextCompose
  (s.setHead n { h with state := 3 }).post 0xE063 n 0 (leBytes 4 k)

/-- HEAD_SR takes effect (R327, R330): CMD_APPLIED names the next frame to be composed. -/
def State.srApply (s : State) (p : HeadSrP) (e : Entry) : State :=
  let s := s.srSettings p
  let h := s.head p.head
  let s := if p.command = 1 ∧ h.state = 3 ∧ p.mode ≠ 0 then s.enterSr p.head
    else if p.command = 2 ∧ h.state = 4 then s.exitSr p.head else s
  s.entryApplied e (if h.scans then h.scan.nextCompose % 2 ^ 32 else noFrame) p.head

/-- HEAD_SR (0x0705; R293, R304, R319, R327, R330): an exit takes effect at once, all else at the next composition start of a
scanning head. -/
def execHeadSr (h : Hdr) (p : HeadSrP) (s : State) : Host.Outcome State Fault Refusal :=
  let hd := s.head p.head
  .next (runBound h 0x0705 false p.head (.headSr h p) (!hd.stoppable || p.command == 2)
    { bad := decide (p.head > 3 ∨ p.command > 2 ∨ p.mode > 2 ∨ p.idle < 100 ∨ p.idle > 600000 ∨ p.period > 50000 ∨ p.holdLimit < 60 ∨
        p.holdLimit > 2000 ∨ 1000 * p.holdLimit ≤ p.period ∨ usU p.period < hd.framePeriod),
      busy := s.sys.windDown,
      ignored := (p.command == 1 && !(hd.state == 3 && p.mode != 0)) || (p.command == 2 && hd.state != 4) } [] (fun _ => []) s
    (fun e s => s.srApply p e))

/-- HEAD_PICTURE (0x0706; R164, R168, R501). -/
def execHeadPicture (h : Hdr) (p : HeadPictureP) (s : State) : Host.Outcome State Fault Refusal :=
  .next (withBuffer h 0x0706 (.headPicture h p) (p.lutBuffer == 0) p.lutBuffer lutBytes s (fun bs s =>
    runBound h 0x0706 true p.head (.headPicture h p) (s.head p.head).idle
      { bad := decide (p.head > 3 ∨ p.background ≥ 2 ^ 30 ∨ p.lutBuffer + lutBytes > storeSize) || !(p.lutBuffer == 0 || lutsOk bs),
        busy := s.sys.windDown } [] (fun _ => []) s
      (fun e s => (s.pictureApply p bs).entryApplied e noFrame p.head) bs))

/-- The gate settings of a HEAD_GATE. -/
def gateOf (p : HeadGateP) : Gate :=
  { phases := p.phases, pol := p.polarity, gckDelay := p.gckDelay, gateGuard := p.gateGuard, flush := p.flush, parkHold := p.parkHold }

/-- HEAD_GATE (0x0707; R304, R308, R385, R652): stored for the next start. -/
def execHeadGate (h : Hdr) (p : HeadGateP) (s : State) : Host.Outcome State Fault Refusal :=
  let sTry := s.modHead p.head (fun x => { x with gate := gateOf p, gateNow := gateOf p })
  .next (runNow h 0x0707
    { bad := decide (p.head > 3 ∨ p.polarity ≥ 2 ^ 19 ∨ p.gckDelay < 20 ∨ p.gckDelay > 5000 ∨ p.gateGuard < 20 ∨ p.gateGuard > 5000 ∨ p.flush > 8 ∨
        p.parkHold < 100 ∨ p.parkHold > 20000) || !([2, 4, 8, 16].contains p.phases),
      busy := s.sys.windDown,
      refused := !sTry.pitchOk p.head || (sTry.viewFail p.head (s.head p.head).panel.active.settings.settle).isSome } s
    (fun s => (s.modHead p.head (fun x => { x with gate := gateOf p }), [])))

/-- WARMUP_END (0x0708; R297): CMD_APPLIED follows when the warm-up ends. -/
def execWarmupEnd (h : Hdr) (head : Nat) (s : State) : Host.Outcome State Fault Refusal :=
  let hd := s.head head
  .next (runProc h 0x0708 head
    { bad := decide (head > 3), busy := s.sys.windDown || hd.ledger.warmEnding, ignored := hd.state != 2 } s
    (fun p s => (s.modHead head (fun x => { x with ledger := { x.ledger with warmEnding := true } })).addProc p))

/-- HEAD_STATUS (0x0709; R219, R310). A head abandons no T-items. -/
def execHeadStatus (h : Hdr) (head : Nat) (s : State) : Host.Outcome State Fault Refusal :=
  .next (runRead h 0x0709 { bad := decide (head > 3) } s (fun s =>
    let x := s.head head
    leBytes 1 x.state ++ leBytes 4 x.scan.frame ++ leBytes 1 x.bandNow ++ leBytes 8 x.counts.skipped ++ leBytes 8 x.counts.abandonedP ++
      leBytes 8 x.counts.abandonedC ++ leBytes 8 0))

/-! ## Views -/

/-- Whether a view's settings lie in the ranges of R334 for a head's cycle period and lines. -/
def viewOk (c : HeadConfigP) (v : ViewP) : Bool :=
  let t := rateDen c.rate * 1000000000
  decide (v.kind ≤ 1 ∧ v.s * c.rate.n < t ∧ 1000 ≤ v.x ∧ v.x * c.rate.n ≤ t ∧ v.k * c.rate.n ≤ t ∧ v.y0 ≤ v.y1 ∧ v.y1 < c.h ∧
    (v.y0 < v.y1 ∨ v.k = 0))

/-- Whether a view set is well formed (R334): 1 to 4 views, at most one HOUSE, a single one CAMERA. -/
def viewsOk (c : Option HeadConfigP) (vs : List ViewP) : Bool :=
  decide (1 ≤ vs.length ∧ vs.length ≤ 4 ∧ vs.countP (fun v => v.kind == 1) ≤ 1) && vs.all (fun v => decide (v.kind ≤ 1)) &&
  (vs.length != 1 || vs.all (fun v => v.kind == 0)) && (match c with | some c => vs.all (viewOk c) | none => true)

/-- The tests that VIEW_SET and VIEW_TEST share, with the detail of R339. -/
def viewChecks (p : ViewSetP) (s : State) : Checks × List Byte :=
  let hd := s.head p.head
  let sTry := s.asIf p.head (hd.cfg.map (fun c => { c with scanMode := 2 })) p.views
  let fail := sTry.viewFail p.head hd.panel.active.settings.settle
  ({ bad := decide (p.head > 3) || !viewsOk hd.cfg p.views, ignored := hd.cfg.isNone,
     refused := hd.follows || fail.isSome || !sTry.loadOk || !sTry.audioFits p.head }, fail.getD [])

/-- A timing change by view set or mode (R322, R326, R341): at once on a head that does not scan, else at a latch point. -/
def runViews (h : Hdr) (op head : Nat) (i : Instr) (c : Checks) (detail : List Byte) (mode : Nat) (vs : List ViewP) (s : State) : State :=
  let hd := s.head head
  let c := { c with busy := c.busy || s.sys.windDown || hd.scan.changing }
  let s1 := if testCmd h true head (c.served h op s) s = none then s.replaceTiming head else s
  runBound h op true head i hd.idle c detail (fun _ => []) s1 (fun e s => (s.viewsNow head mode vs).entryApplied e noFrame head)

/-- VIEW_SET (0x0A01; R333, R334, R338, R339, R341). -/
def execViewSet (h : Hdr) (p : ViewSetP) (s : State) : Host.Outcome State Fault Refusal :=
  let (c, detail) := viewChecks p s
  .next (runViews h 0x0A01 p.head (.viewSet h p) c detail 2 p.views s)

/-- VIEW_CLEAR (0x0A02; R341): leaves the view set for NORMAL or FOLLOW; IGNORED without one. -/
def execViewClear (h : Hdr) (head mode : Nat) (s : State) : Host.Outcome State Fault Refusal :=
  let hd := s.head head
  let sTry := s.asIf head (hd.cfg.map (fun c => { c with scanMode := mode })) []
  .next (runViews h 0x0A02 head (.viewClear h head mode)
    { bad := decide (head > 3 ∨ mode > 1) || (mode == 1 && (match hd.cfg with | some c => !cfgOk { c with scanMode := 1 } | none => false)),
      ignored := !hd.inViews, refused := sTry.timingRefused head } [] mode [] s)

/-- VIEW_TEST (0x0A03; R338, R339): changes nothing. -/
def execViewTest (h : Hdr) (p : ViewSetP) (s : State) : Host.Outcome State Fault Refusal :=
  let (c, detail) := viewChecks p s
  .next (match testCmd h false 4 (c.served h 0x0A03 s) s with
  | some st => rejectCmd h 0x0A03 st (if st == stRefused && !(h.genCheck && h.gen != s.time.tpGen) then detail else []) s
  | none => s.takeNo.reply h 0x0A03 stOk s.cp.acceptNo false [])

/-! ## Checks -/

/-- Check c of a head. -/
def Head.check (h : Head) (c : Nat) : Check := spGet h.checks {} c

/-- Writes a check of a head. -/
def State.setCheck (s : State) (n c : Nat) (x : Check) : State := s.modHead n (fun h => { h with checks := spSet {} h.checks c x })

/-- CHECK_SET takes effect (R342, R345): its count and its learning begin afresh. -/
def State.checkApply (s : State) (p : CheckSetP) : State :=
  let x := (s.head p.head).check p.check
  let y : Check := { x with
    cfg := some p, learn := p.mode == 1, expect := p.expect, count := 0, accFrame := none, accDone := false, parts := [] }
  s.setCheck p.head p.check y

/-- CHECK_SET (0x0B01; R342). -/
def execCheckSet (h : Hdr) (p : CheckSetP) (s : State) : Host.Outcome State Fault Refusal :=
  let hd := s.head p.head
  .next (runBound h 0x0B01 true p.head (.checkSet h p) hd.idle
    { bad := decide (p.head > 3 ∨ p.check > 15 ∨ p.enable > 1 ∨ p.tap > 1 ∨ p.cw < 1 ∨ p.cw > 32768 ∨ p.ch < 1 ∨ p.ch > 32768 ∨ p.e > 8 ∨ p.mode > 1 ∨
        p.missLimit < 1 ∨ p.missLimit > 255 ∨ p.action > 2 ∨ (p.view > 3 ∧ p.view ≠ 255)) ||
        (hd.cfg.isSome && decide (p.x0 + p.cw > hd.w ∨ p.y0 + p.ch > hd.hh)),
      busy := s.sys.windDown, ignored := hd.cfg.isNone } [] (fun _ => []) s
    (fun e s => (s.checkApply p).entryApplied e noFrame p.head))

/-- CHECK_READ (0x0B02; R344). -/
def execCheckRead (h : Hdr) (head check : Nat) (s : State) : Host.Outcome State Fault Refusal :=
  .next (runRead h 0x0B02 { bad := decide (head > 3 ∨ check > 15) } s (fun s =>
    let x := (s.head head).check check
    leBytes 4 x.frame ++ leBytes 4 x.crc ++ leBytes 1 x.status ++ leBytes 1 x.count ++ leBytes 1 (b2n x.learn) ++ leBytes 4 x.expect))

end Sys2Proof.Machine
end

