-- ==== Sys2Proof/Machine/CmdMatrix.lean ====
section
/-! DEFINITION. The ROUTE, LAYER and AUDIO command groups (0x0501 to 0x0503, 0x0601 to 0x0605, 0x0C01 to 0x0C04). -/

namespace Sys2Proof.Machine

/-- ROUTE_SET (0x0501; R140 to R142, R150 to R154, R653). -/
def execRouteSet (h : Hdr) (p : RouteSetP) (s : State) : Host.Outcome State Fault Refusal :=
  let d := p.dest
  .next (runBound h 0x0501 true (destQueue d) (.routeSet h p) (s.destIdle d)
    { bad := !destOk d || decide (p.kind > 2 ∨ p.transition > 2 ∨ p.switchWait > 255) ||
        (p.kind == 0 && p.source != 0) || (p.kind == 1 && decide (p.source > 63)) ||
        (p.kind == 2 && (d.kind != 0 || p.source / 16 != destHead d)) ||
        (p.transition == 1 && decide (p.frames < 1 ∨ p.frames > 256)) || (p.transition == 2 && decide (p.frames < 2 ∨ p.frames > 256)),
      busy := d.kind == 0 && s.sys.windDown } [] (fun _ => []) s (fun e s => s.routeAtOnce d p e))

/-- Whether a transmit output's settings lie in the ranges of R145, R156, R166, R176 and R500; `luts` says whether its buffer does. -/
def outputOk (p : OutputSetP) (luts : Bool) : Bool :=
  let f : Format := { p.format with width := p.width, height := p.height, rate := p.rate }
  videoOk f && p.format.scanning == 0 && !videoTooBig f && luts &&
  decide (p.output < 64 ∧ p.latency ≤ 500000000 ∧ 3 ≤ p.slotCount ∧ p.slotCount ≤ 8 ∧ p.bases.length ≥ p.slotCount ∧ p.blend ≤ 1 ∧
    p.lossAction ≤ 1 ∧ p.hold ≤ 60000 ∧ p.crop.w ≥ 1 ∧ p.crop.h ≥ 1 ∧ p.bypass ≤ 1 ∧ p.m1Mode ≤ 1) && !bit p.fill 30 &&
  (p.bases.take p.slotCount).all (fun b => b % 4096 == 0 && decide (b + planeBase f 3 ≤ storeSize)) &&
  p.m2.all (fun x => decide (-131072 ≤ x ∧ x ≤ 131071)) && decide (p.lutBuffer + lutBytes ≤ storeSize)

/-- Whether the delay of an output's audio fits for a path latency (R181). -/
def State.outputAudioFits (s : State) (n latency : Nat) : Bool :=
  s.txAudio.all (fun x => x.2.follows != 0 || x.2.index != n ||
    s.delayFits (s.assocOf (s.output n).route.route).flow (delaySamples (nsU latency)))

/-- OUTPUT_SET (0x0502; R145, R161, R176, R177). -/
def execOutputSet (h : Hdr) (p : OutputSetP) (s : State) : Host.Outcome State Fault Refusal :=
  .next (withBuffer h 0x0502 (.outputSet h p) (p.lutBuffer == 0) p.lutBuffer lutBytes s (fun bs s =>
    runBound h 0x0502 false 4 (.outputSet h p) (s.output p.output).cfg.isNone
      { bad := !outputOk p (p.lutBuffer == 0 || lutsOk bs),
        refused := !ratioOk p.crop.w p.crop.h p.width p.height || !s.outputAudioFits p.output p.latency } [] (fun _ => []) s
      (fun e s => (s.outputApply p bs).entryApplied e noFrame 255) bs))

/-- ROUTE_STATUS (0x0503; R146, R495). -/
def execRouteStatus (h : Hdr) (dest : Dest) (s : State) : Host.Outcome State Fault Refusal :=
  .next (runRead h 0x0503 { bad := !destOk dest } s (fun s =>
    let x := s.dest dest
    leBytes 2 (routeCode x.route) ++ leBytes 1 (if x.deferred.isSome then 2 else if x.trans.isSome then 1 else 0) ++
      (match x.shown with | some y => timeBytes y.time | none => noTime) ++ leBytes 8 x.lateSource ++ leBytes 8 x.blendSingle))

/-- LAYER_SET (0x0601; R156, R161, R166, R169). -/
def execLayerSet (h : Hdr) (p : LayerSetP) (s : State) : Host.Outcome State Fault Refusal :=
  let idle := (s.head p.head).idle
  .next (runBound h 0x0601 true p.head (.layerSet h p) idle
    { bad := decide (p.head > 3 ∨ p.layer > 15 ∨ p.enable > 1 ∨ p.z > 15 ∨ p.crop.w < 1 ∨ p.crop.h < 1 ∨ p.dest.w < 1 ∨ p.dest.w > 32768 ∨
          p.dest.h < 1 ∨ p.dest.h > 32768 ∨ p.dest.x < -32768 ∨ p.dest.x > 32767 ∨ p.dest.y < -32768 ∨ p.dest.y > 32767) ||
        decide (p.g > 255 ∨ p.views > 15 ∨ p.blend > 1 ∨ p.lossAction > 1 ∨ p.hold > 60000 ∨ p.bypass > 1 ∨ p.m1Mode > 1) || bit p.fill 30 ||
        !p.m2.all (fun x => decide (-131072 ≤ x ∧ x ≤ 131071)) ||
        (p.enable == 1 && (List.range 16).any (fun m => m != p.layer && s.askedLayer p.head m == (true, p.z))),
      busy := s.sys.windDown, refused := !ratioOk p.crop.w p.crop.h p.dest.w p.dest.h } [] (fun _ => []) s
    (fun e s => (s.layerApply p).entryApplied e noFrame p.head))

/-- LAYER_COEF (0x0602; R162, R501). -/
def execLayerCoef (h : Hdr) (dest : Dest) (axis auto buffer : Nat) (s : State) : Host.Outcome State Fault Refusal :=
  .next (withBuffer h 0x0602 (.layerCoef h dest axis auto buffer) (auto != 0) buffer (coefBytes axis) s (fun bs s =>
    runBound h 0x0602 false (destQueue dest) (.layerCoef h dest axis auto buffer) (s.destIdle dest)
      { bad := !destOk dest || decide (axis > 1 ∨ auto > 1) ||
          (auto == 0 && (decide (buffer + coefBytes axis > storeSize) || (coefSet bs (if axis = 0 then 8 else 6)).isNone)),
        busy := dest.kind == 0 && s.sys.windDown } [] (fun _ => []) s
      (fun e s => (s.coefApply dest axis auto bs).entryApplied e noFrame (destField dest)) bs))

/-- Whether some layer of a head is routed, or by a waiting ROUTE_SET will be, to a host graphics layer (R500). -/
def State.routedTo (s : State) (n m : Nat) : Bool :=
  (List.range 16).any (fun j => decide ((s.layer (16 * n + j)).route.route = { kind := 2, source := 16 * n + m })) ||
  s.cp.launch.any (fun e => match e.cmd with
    | .routeSet _ q => q.dest.kind == 0 && destHead q.dest == n && q.kind == 2 && q.source == 16 * n + m
    | _ => false)

/-- LAYER_PRESENT (0x0603; R170 to R173): the reply carries the lease. -/
def execLayerPresent (h : Hdr) (p : PresentP) (s : State) : Host.Outcome State Fault Refusal :=
  let c : Checks :=
    { bad := decide (p.head > 3 ∨ p.layer > 15 ∨ p.format > 1 ∨ p.ordered > 1 ∨ p.width = 0 ∨ p.height = 0 ∨ p.pitch < 4 * p.width) ||
        p.base % 4096 != 0 || p.pitch % 64 != 0 || decide (p.base + presentLen p > 0x7FC000000),
      busy := s.sys.windDown, ignored := !s.routedTo p.head p.layer, noResource := (s.leaseOf p).isNone && s.leaseFree.isNone }
  match testCmd h true p.head (c.served h 0x0603 s) s with
  | some st => .next (rejectCmd h 0x0603 st [] s)
  | none =>
    let s1 := s.takeNo.presentAccept p
    let e := mkEntry h p.head (.layerPresent h p) s
    let out := leBytes 1 ((s1.leaseOf p).getD 0)
    let s2 := if (s.head p.head).idle && !h.timed then (s1.presentApply p none).entryApplied e noFrame p.head else s1.enqueue e
    .next (s2.reply h 0x0603 stAccepted s.cp.acceptNo false out)

/-- LEASE_POLICY (0x0604; R174). -/
def execLeasePolicy (h : Hdr) (head policy : Nat) (s : State) : Host.Outcome State Fault Refusal :=
  .next (runNow h 0x0604 { bad := decide (head > 3 ∨ policy > 1), busy := s.sys.windDown } s
    (fun s => (s.modHead head (fun x => { x with land := n2b policy }), [])))

/-- LEASE_STATUS (0x0605; R172, R174). -/
def execLeaseStatus (h : Hdr) (head : Nat) (s : State) : Host.Outcome State Fault Refusal :=
  .next (runRead h 0x0605 { bad := decide (head > 3) } s (fun s =>
    let x := s.head head
    leBytes 1 (s.leases.countP (fun l => l.2.head == head)) ++ leBytes 8 x.counts.leaseDrop ++ leBytes 8 x.counts.breaches))

/-- Whether a channel map of R500 lies in its range: eight entries, each an input channel or 0xFF. -/
def mapOk (map : List Nat) : Bool := map.length == 8 && map.all (fun x => decide (x < 64) || x == 255)

/-- Whether an association would keep every destination that plays it within its ring (R181). -/
def State.assocFits (s : State) (source flow : Nat) : Bool :=
  headNums.all (fun n => (s.dest (s.audioDest n)).route != { kind := 1, source := source } || s.delayFits flow (s.headDelay n)) &&
  s.txAudio.all (fun x => x.2.follows != 0 || (s.output x.2.index).route.route != { kind := 1, source := source } ||
    s.delayFits flow (s.txDelay x.1))

/-- AUDIO_ASSOC (0x0C01; R178, R181). No boundary of its own concerns a video source: it takes effect at once (log entry 31). -/
def execAudioAssoc (h : Hdr) (source flow : Nat) (map : List Nat) (s : State) : Host.Outcome State Fault Refusal :=
  .next (runBound h 0x0C01 false 4 (.audioAssoc h source flow map) true
    { bad := decide (source > 63 ∨ (flow > 63 ∧ flow ≠ 255)) || !mapOk map, refused := flow != 255 && !s.assocFits source flow }
    [] (fun _ => []) s (fun e s => (s.assocApply source flow map).entryApplied e noFrame 255))

/-- AUDIO_HEAD (0x0C02; R178, R181, R183): the reply carries d. -/
def execAudioHead (h : Hdr) (p : AudioHeadP) (s : State) : Host.Outcome State Fault Refusal :=
  let d := delaySamples (s.videoLatency p.head p.trim)
  let route := (s.dest { kind := 0, index := 16 * p.head + p.layer }).route
  .next (runBound h 0x0C02 false p.head (.audioHead h p) (s.head p.head).idle
    { bad := decide (p.head > 3 ∨ p.layer > 15 ∨ p.trim < -100000000 ∨ p.trim > 100000000 ∨ p.tdmEnable > 1 ∨ p.tdmFormat > 1) || !mapOk p.map,
      busy := s.sys.windDown, refused := !s.delayFits (s.assocOf route).flow d } [] (fun _ => leInt 4 d) s
    (fun e s => (s.audioHeadApply p none).entryApplied e noFrame p.head))

/-- AUDIO_TX (0x0C03; R178, R181): the reply carries d. It waits for the next frame of the output that it follows. -/
def execAudioTx (h : Hdr) (flow follows index : Nat) (map : List Nat) (s : State) : Host.Outcome State Fault Refusal :=
  let d := if follows = 0 then (match (s.output index).cfg with | some c => delaySamples (nsU c.latency) | none => 0) else 0
  .next (runBound h 0x0C03 false 4 (.audioTx h flow follows index map) (follows != 0 || (s.output index).cfg.isNone)
    { bad := decide (flow > 63 ∨ follows > 1 ∨ index > 63) || !mapOk map,
      refused := follows == 0 && !s.delayFits (s.assocOf (s.output index).route.route).flow d } [] (fun _ => leInt 4 d) s
    (fun e s => (s.audioTxApply flow follows index map).entryApplied e noFrame 255))

/-- AUDIO_STATUS (0x0C04; R180). Ids 0 to 3 name heads, 64 to 127 the transmit flows U0 to U63 (DESIGN CHOICE, log entry 32). -/
def execAudioStatus (h : Hdr) (id : Nat) (s : State) : Host.Outcome State Fault Refusal :=
  .next (runRead h 0x0C04 { bad := decide ((id > 3 ∧ id < 64) ∨ id > 127) } s (fun s =>
    if id < 4 then leBytes 8 (s.head id).audio.gap ++ leInt 4 (s.headDelay id)
    else leBytes 8 (spGet s.txAudio {} (id - 64)).gap ++ leInt 4 (s.txDelay (id - 64))))

end Sys2Proof.Machine
end

