-- ==== Sys2Proof/Machine/Lanes.lean ====
section
/-! DEFINITION. The serial lanes (R393 to R416): lane windows, block lock, loopbacks, PRBS blocks, eye samples. -/

namespace Sys2Proof.Machine

/-- Network lanes are 0 to 31, string lanes 32 to 35, driver lanes 36 to 227 (R393). -/
def laneExists (i : Nat) : Bool := decide (i < 228)

/-- Whether a lane is a driver lane. -/
def isDriverLane (i : Nat) : Bool := decide (36 ≤ i)

/-- The driver group of a driver lane (R347). -/
def laneGroup (i : Nat) : Nat := (i - 36) / 16

/-- The port that a network lane carries (R87). -/
def State.lanePort (s : State) (i : Nat) : Nat := if (s.quad (i / 4)).mode = 3 then i / 4 * 4 else i

/-- The four cases in which R414 ignores a test setting. -/
def State.testBlocked (s : State) (i : Nat) : Bool :=
  if i < 32 then (s.quad (i / 4)).mode == 0
  else if i < 36 then s.pair.state != 0 && !s.sys.funcBusy.contains 0x60
  else
    let d := s.driver ((i - 36) / 2)
    (decide (d.head < 4) && (s.head d.head).state != 0 && (s.head d.head).state != 1) || (d.link != 0 && d.link != 5)

/-- Whether another lane of the group is attached to the test receiver (R411). -/
def State.groupTaken (s : State) (i : Nat) : Bool :=
  isDriverLane i && ((List.range 16).map (· + 36 + 16 * laneGroup i)).any (fun j => j != i && (s.lane j).loopback != 0)

/-- A network lane that enters a test takes its port and the port's legs down (R414, R93). -/
def State.enterTest (s : State) (i : Nat) : State :=
  if i < 32 ∧ s.portExists (s.lanePort i) then (s.portDrop (s.lanePort i) 3).legsOffPort (s.lanePort i) else s

/-- Sets TEST_IGNORED. -/
def State.testIgnored (s : State) (i : Nat) : State := s.setLane i { s.lane i with testIgnored := true }

/-- A write of LANE_CTL (R395, R397, R411, R414). -/
def laneCtlWrite (i v : Nat) (s : State) : State :=
  let l := s.lane i
  let lb := bits v 10 8
  if !laneExists i || decide (lb > 3) || (lb == 3 && isDriverLane i) then s
  else if lb != 0 && (s.testBlocked i || s.groupTaken i) then s.testIgnored i
  else
    let rx := !isDriverLane i
    let s := s.setLane i { l with
      loopback := lb, bitslip := rx && bit v 4, rxAdaptOff := rx && !bit v 3, rxInv := rx && bit v 2, txInv := bit v 1 }
    if lb != 0 && l.loopback == 0 then s.enterTest i else s

/-- LANE_CTL as read. -/
def laneCtl (i : Nat) (l : Lane) : Nat :=
  256 * l.loopback + 16 * b2n l.bitslip + 8 * b2n (!isDriverLane i && !l.rxAdaptOff) + 4 * b2n l.rxInv + 2 * b2n l.txInv

/-- A write of LANE_TX (R396). -/
def laneTxWrite (i v : Nat) (s : State) : State :=
  s.setLane i { s.lane i with
    adaptOff := isDriverLane i && !bit v 15, pre := bits v 14 12, post := bits v 11 8, swing := bits v 2 0 }

/-- LANE_TX as read. -/
def laneTx (i : Nat) (l : Lane) : Nat :=
  32768 * b2n (isDriverLane i && !l.adaptOff) + 4096 * l.pre + 256 * l.post + l.swing

/-- A write of LANE_STATUS clears its sticky bits (R397). -/
def laneStatusWrite (i v : Nat) (s : State) : State :=
  let l := s.lane i
  s.setLane i { l with
    testIgnored := l.testIgnored && !bit v 15, slipIgnored := l.slipIgnored && !bit v 14, ebOvf := l.ebOvf && !bit v 13 }

/-- BLOCK_LOCK of a lane as read: in 1×100G it is the AND over the PCS lanes of that physical lane (R406). -/
def laneStatus (i : Nat) (s : State) : Nat :=
  let l := s.lane i
  32768 * b2n l.testIgnored + 16384 * b2n l.slipIgnored + 8192 * b2n l.ebOvf + 256 * (s.fom i).ctle.boost +
    8 * b2n l.blockLock + 4 * b2n l.cdrLock + 2 * b2n l.signal + b2n l.pllLock

/-- A write of LANE_FOM: FOM_THRESH (R402). -/
def laneFomWrite (i v : Nat) (s : State) : State := s.setFom i { s.fom i with thresh := bits v 23 16 }

/-- LANE_FOM as read; VALID while the lane is locked or its driver UP. -/
def laneFom (i : Nat) (s : State) : Nat :=
  let f := s.fom i
  let valid := if isDriverLane i then (s.driver ((i - 36) / 2)).link == 4 else (s.lane i).blockLock
  2147483648 * b2n valid + 65536 * f.thresh + 256 * f.low + f.fom

/-- A write of LANE_SLIP (R407, R408). A slip moves the boundary and loses the lock, and with it the port (R91). -/
def laneSlipWrite (i v : Nat) (s : State) : State :=
  let l := s.lane i
  let n := bits v 6 0
  if isDriverLane i then s
  else if !l.bitslip || n == 0 || decide (n > 65) || (decide (i < 32) && (s.quad (i / 4)).mode == 3) then
    s.setLane i { l with slipIgnored := true }
  else
    let s := if i < 32 ∧ l.blockLock ∧ s.portExists (s.lanePort i) then s.portDrop (s.lanePort i) 1 else s
    s.setLane i { s.lane i with boundary := (l.boundary + n) % 66, hunting := true, blockLock := false }

/-- A write of PRBS_CTL (R410, R412, R414, R416). -/
def prbsCtlWrite (i v : Nat) (s : State) : State :=
  let p := s.prb i
  let gen := bit v 9 && (s.lane i).loopback != 3
  if !laneExists i || decide (bits v 2 0 > 4) then s
  else if gen && s.testBlocked i then s.testIgnored i
  else
    let chk := bit v 8
    let p' := { p with
      invOff := !bit v 10, gen := gen, chk := chk, pattern := bits v 2 0, chkSync := p.chkSync && chk && p.chk && p.pattern == bits v 2 0 }
    let p' := if bit v 15 then { p' with err := 0, bits := 0, resync := 0 } else p'
    let s := s.setPrb i p'
    if gen && !p.gen then s.enterTest i else s

/-- Whether the checker fields of a lane's window mean anything: a driver lane's only while it is attached (R411). -/
def chkAttached (i : Nat) (s : State) : Bool := !isDriverLane i || (s.lane i).loopback != 0

/-- PRBS_CTL as read. -/
def prbsCtl (i : Nat) (s : State) : Nat :=
  let p := s.prb i
  let a := chkAttached i s
  65536 * (if a then p.resync else 0) + 2048 * b2n (a && p.chkSync) + 1024 * b2n (!p.invOff) + 512 * b2n p.gen + 256 * b2n p.chk + p.pattern

/-- A lane under the FUNC_RESET of its owner (R398). -/
def State.laneReset (s : State) (i : Nat) : State :=
  let s := s.setLane i { s.lane i with loopback := 0, bitslip := false }
  let f := s.fom i
  (s.setPrb i {}).setFom i { f with low := 0, tx := { f.tx with kept := 0, reverted := 0 } }

/-- Bit n of a PRBS sequence (R413): a Fibonacci register that starts all ones; m is its length, k its second tap. -/
def prbsTaps (pattern : Nat) : Nat × Nat :=
  match pattern with | 0 => (7, 6) | 1 => (9, 5) | 2 => (15, 14) | 3 => (23, 18) | _ => (31, 28)

/-- The first `n` bits that a generator sends, INV applied; `r` holds the register, newest bit first. -/
def prbsBits (pattern : Nat) (inv : Bool) (n : Nat) : List Bool :=
  let (m, k) := prbsTaps pattern
  let go := (List.range n).foldl (fun (acc : List Bool × List Bool) _ =>
    let b := xor (acc.2.getD (m - 1) true) (acc.2.getD (k - 1) true)
    (b :: acc.1, (b :: acc.2).take m)) ([], List.replicate m true)
  go.1.reverse.map (fun b => xor b inv)

/-- LOOPBACK (R409 to R411, R414): a write of LANE_CTL. -/
def execLoopback (lane value : Nat) (s : State) : Host.Outcome State Fault Refusal := .next (laneCtlWrite lane value s)

/-- BITSLIP_EN (R407, R408): a write of LANE_CTL. Clearing it resumes hunting from the boundary in force. -/
def execBitslipEn (lane value : Nat) (s : State) : Host.Outcome State Fault Refusal := .next (laneCtlWrite lane value s)

/-- LANE_SLIP (R407). -/
def execLaneSlip (lane value : Nat) (s : State) : Host.Outcome State Fault Refusal :=
  .next (if laneExists lane then laneSlipWrite lane value s else s)

/-- GEN_EN (R414): a write of PRBS_CTL that sets GEN_EN. -/
def execGenEn (lane value : Nat) (s : State) : Host.Outcome State Fault Refusal :=
  .next (prbsCtlWrite lane (setBits value 9 9 1) s)

/-- CNT_CLR (R416): a write of PRBS_CTL with CNT_CLR. -/
def execCntClr (lane value : Nat) (s : State) : Host.Outcome State Fault Refusal :=
  .next (prbsCtlWrite lane (setBits value 15 15 1) s)

/-- A read of PRBS_ERR latches PRBS_BITS (R416). -/
def prbsErrRead (lane : Nat) (s : State) : Nat × State :=
  let p := s.prb lane
  let on := chkAttached lane s
  (if on then p.err else 0, s.setPrb lane { p with latched := if on then p.bits else 0 })

/-- PRBS_ERR_READ. -/
def execPrbsErrRead (lane : Nat) (s : State) : Host.Outcome State Fault Refusal :=
  .next (if laneExists lane then let (v, s) := prbsErrRead lane s; s.say (leBytes 4 v) else s)

/-- CHK_SYNC (R415): a checker gains sync, or loses it and counts RESYNC. -/
def execChkSync (lane : Nat) (gain : Bool) (s : State) : Host.Outcome State Fault Refusal :=
  let p := s.prb lane
  .next (
    if !laneExists lane || !p.chk || !chkAttached lane s then s
    else if gain then s.setPrb lane { p with chkSync := true }
    else if p.chkSync then s.setPrb lane { p with chkSync := false, resync := satInc 0xFFFF p.resync } else s)

/-- One sample into the CTLE search (R401). -/
def ctleStep (c : CtleSearch) (fom : Nat) : CtleSearch :=
  if c.sweep then
    let c := if c.boost = 0 ∨ fom > c.bestFom then { c with best := c.boost, bestFom := fom } else c
    if c.boost < 15 then { c with boost := c.boost + 1 }
    else { c with sweep := false, boost := c.best, up := true, trial := false, count := 0, sum := 0 }
  else
    let sum := c.sum + fom
    let back := if c.up then c.boost - 1 else c.boost + 1
    let inRange := if c.up then decide (c.boost < 15) else decide (c.boost > 0)
    if c.count < 15 then { c with count := c.count + 1, sum := sum }
    else if c.trial then
      { c with boost := if sum < c.base + 32 then back else c.boost, up := !c.up, trial := false, count := 0, sum := 0 }
    else if inRange then
      { c with base := sum, boost := if c.up then c.boost + 1 else c.boost - 1, trial := true, count := 0, sum := 0 }
    else { c with base := sum, up := !c.up, count := 0, sum := 0 }

/-- The figure of merit of a sample (R399). -/
def fomOf (eyeH eyeV : Nat) : Nat := min 255 ((min eyeH 32 * min eyeV 255 + 8) / 16)

/-- A sample into LANE_FOM (R402). -/
def LaneFom.sample (f : LaneFom) (fom : Nat) : LaneFom :=
  { f with fom := fom, low := if fom < f.thresh then satInc 255 f.low else f.low }

/-- EYE_SAMPLE (R399, R401): from a locked network or string receiver; the search pauses in NEP and while RX_ADAPT_EN is clear. -/
def execEyeSample (lane eyeH eyeV : Nat) (s : State) : Host.Outcome State Fault Refusal :=
  let l := s.lane lane
  .next (
    if !laneExists lane || isDriverLane lane || !l.blockLock then s else
    let fom := fomOf eyeH eyeV
    let f := (s.fom lane).sample fom
    s.setFom lane (if l.rxAdaptOff || l.loopback == 1 then f else { f with ctle := ctleStep f.ctle fom }))

/-- BLOCK_LOCK (R406): a hunting network or string receiver enters LOCK. A search already swept restarts at its loop (R401). -/
def execBlockLock (lane : Nat) (s : State) : Host.Outcome State Fault Refusal :=
  let l := s.lane lane
  .next (
    if !laneExists lane || s.sys.planesHeld || isDriverLane lane || l.blockLock || (decide (lane < 32) && ((s.quad (lane / 4)).mode == 0 || !s.portPowered (s.lanePort lane))) ||
      (decide (32 ≤ lane) && (s.yoyo 0x20).on && !(s.yoyo 0x20).window) then s
    else
      let f := s.fom lane
      let s := s.setLane lane { l with blockLock := true, hunting := false, cdrLock := true, signal := true, pllLock := true }
      s.setFom lane (if f.ctle.sweep then f else { f with ctle := { f.ctle with trial := false, count := 0, sum := 0 } }))

end Sys2Proof.Machine
end

