-- ==== Sys2Proof/Machine/PairOps.lean ====
section
/-! DEFINITION. The redundant pair as shared operations (R437 to R468): the link and its HELLO, the states, the start of a hand-over, who
drives the shared nets. -/

namespace Sys2Proof.Machine

/-! ## Link -/

/-- The HELLO of this device (R447). -/
def State.sendHello (s : State) : State :=
  s.sendMsg 0x01 (leBytes 8 Config.uid ++ leBytes 1 s.pair.prefer ++ leBytes 1 s.pair.state ++ leBytes 1 s.pair.gen ++
    leBytes 1 (s.head s.pairHead).state ++ leBytes 1 s.pair.port)

/-- The link starts afresh (R443, R448, R451): what was sent is forgotten, replies that waited for an ACK go out (R454), HELLO waits for the
lanes. -/
def State.linkFresh (s : State) : State :=
  let held := s.pair.sent.filterMap (fun m => m.reply)
  let s := { s with
    cp := { s.cp with replies := s.cp.replies ++ held },
    pair := { s.pair with linkUp := false, helloSeen := false, asked := false, echoes := [], echoSent := 0, sent := [], nextSeq := 1, rxSeq := 1 },
    sync := { s.sync with requests := [], phaseRun := 0 } }
  if s.pair.enable then s.sendHello else s

/-- The link goes down (R442, R450, R468): the active keeps its baton and goes back to LINKING, a standby enters UNSYNCED. A partner that still
holds BATON_IN high is reported silent. -/
def State.pairDown (s : State) : State :=
  if !s.pair.linkUp then s.linkFresh else
  let silent := s.standby && s.pair.batonIn
  let s := s.linkFresh.pairPost 0xE091 0 0
  let s := if s.pair.state = 2 then { s with pair := { s.pair with state := 1 } } else if s.standby then s.unsync else s
  if silent then s.pairPost 0xE09B 0 0 else s

/-! ## Hand-over -/

/-- Whether the active takes its standby for HOT (R463, R464): it has asked for rows, and none is outstanding. -/
def State.partnerHot (s : State) : Bool := s.pairActive && s.pair.asked && s.sync.requests.isEmpty

/-- A hand-over starts on the active (R464): its line is line 8 of the first frame whose latch point lies 500 µs ahead, and RELEASE names
it. -/
def State.handoverStart (s : State) : State :=
  let n := s.pairHead
  let k := s.firstLatchAt n (s.tp + usU 500) % 2 ^ 32
  let dac := (s.head n).vcom.dac
  let s := { s with sync := { s.sync with release := some (k, 8, s.pair.gen, dac) } }
  s.sendMsg 0x0D (leBytes 4 k ++ leBytes 4 8 ++ leBytes 1 s.pair.gen ++ leBytes 2 dac)

/-- AUTO_HANDOVER (R464): the active's own port of a driver has left UP. Whether every port of the standby is UP is a free value: no message
tells it. -/
def State.autoHandover (s : State) : State :=
  if s.pair.auto && s.partnerHot && s.sync.release.isNone && (s.head s.pairHead).scans then
    (let (v, s) := s.drawNat
     if v % 2 = 1 then s.handoverStart else s)
  else s

end Sys2Proof.Machine
end

