-- ==== Sys2Proof/Machine/LinkOps.lean ====
section
/-! DEFINITION. The device's side of the Rennex driver link as shared operations: link states (R368 to R370), packets (R356 to R364),
the transmitter adaptation (R383), what a driver receives in a session. -/

namespace Sys2Proof.Machine

/-! ## Link states -/

/-- The payload of a driver event: the own port (R659). -/
def State.portByte (s : State) : List Byte := leBytes 1 s.pair.port

/-- A driver changes link state (R368, R369): DRIVER_DOWN on leaving UP, DRIVER_UP and DRIVER_TRAIN_FAIL on entry, and the end of a
DRIVER_RETRAIN that waits. -/
def State.linkTo (s : State) (d link : Nat) (slow : Bool) : State :=
  let x := s.driver d
  let s := if x.link = 4 ∧ link ≠ 4 then (s.post 0xE071 d 0 s.portByte).autoHandover else s
  let x := { x with link := link, slow := slow, ts2 := false }
  let s := s.setDriver d x
  match link with
  | 4 => (s.post 0xE070 d 0 s.portByte).endProcs 0x0805 d noFrame (if x.head < 4 then x.head else 255) true
  | 5 => (s.post 0xE072 d 0 s.portByte).endProcs 0x0805 d noFrame 255 false
  | 0 => s.endProcs 0x0805 d noFrame 255 false
  | _ => s

/-- A driver enters TRAIN otherwise than as a retry: its timeouts start again (R369). -/
def State.linkTrain (s : State) (d : Nat) (slow : Bool) : State :=
  let s := s.linkTo d 1 slow
  s.setDriver d { s.driver d with tries := 0 }

/-- The link rate code of a driver's head (R351). -/
def State.linkRateOf (s : State) (d : Nat) : Nat := match (s.head (s.driver d).head).cfg with | some c => c.linkRate | none => 1

/-- Whether a driver may train now (R369): its head is PARKED, scans, or is in step 3 or 4 of a wind-up. -/
def State.mayTrain (s : State) (d : Nat) : Bool :=
  let x := s.driver d
  let h := s.head x.head
  decide (x.head < 4) && (h.state == 1 || h.scans || h.power.phase == 5 || h.power.phase == 6)

/-- A TRAIN or RATE timeout (R369): the first try and three retries are allowed. -/
def State.linkTimeout (s : State) (d : Nat) : State :=
  let x := s.driver d
  if x.link ≠ 1 ∧ x.link ≠ 3 then s
  else if x.tries ≥ 3 then s.linkTo d 5 true
  else
    let s := s.linkTo d 1 (x.slow || x.link == 3)
    s.setDriver d { s.driver d with tries := x.tries + 1 }

/-! ## Packets -/

/-- ROLE and GEN of the packets that the device sends (R358, R437 to R444): 1 and 0 outside a pair. -/
def State.roleGen (s : State) : Nat :=
  if s.pair.state = 0 then 1 else b2n (s.pair.state == 2) + 16 * (s.pair.gen % 16)

/-- A packet's bytes with its CRC (R356, R357). -/
def linkPacket (type flags frame line : Nat) (body : List Byte) : List Byte :=
  let bs := leBytes 1 type ++ leBytes 1 flags ++ leBytes 2 frame ++ leBytes 4 line ++ body
  bs ++ leBytes 2 (crc16 bs)

/-- ROLE and GEN of a line's packets: from the hand-over line on, the incoming device sends ROLE = 1 with G + 1 and the outgoing one ROLE = 0
(R465). -/
def State.lineRole (s : State) (k y : Nat) : Nat :=
  match s.sync.release with
  | some (f, line, g, _) =>
    if k % 2 ^ 32 = f ∧ line ≤ y ∧ s.sync.overlap = false then
      (if s.pair.state = 2 then 16 * (g % 16) else 1 + 16 * ((g + 1) % 16))
    else s.roleGen
  | none => s.roleGen

/-- CH_USED of a driver (R349). -/
def State.chUsed (s : State) (d : Nat) : Nat :=
  let x := s.driver d
  min x.ch (3 * (s.head x.head).w - x.first)

/-- The body of a CONFIG packet with SEQ 0 (R363): ABSENT at its default of 20 µs. -/
def State.configBody (s : State) (d : Nat) : List Byte :=
  let x := s.driver d
  leBytes 2 x.ch ++ leBytes 2 (s.chUsed d) ++ leBytes 1 x.lanes ++ leBytes 1 (d % 8) ++ leBytes 2 20 ++ leBytes 4 0 ++ sliceBytes x.vendor 0 32

/-- Whether the next CONFIG is a new one (R363): DRIVER_SET has come since the last, or its content is another (DEDUCED, log entry 35). -/
def State.configNew (s : State) (d : Nat) : Bool := (s.driver d).config != s.configBody d

/-- The next CONFIG packet takes the next SEQ if it is a new CONFIG (R363). -/
def State.configTurn (s : State) (d : Nat) : State :=
  let x := s.driver d
  if s.configNew d then s.setDriver d { x with config := s.configBody d, seq := (x.seq + 1) % 65536 } else s

/-- A CONFIG packet (R363). -/
def State.configBytes (s : State) (d : Nat) : List Byte :=
  let x := s.driver d
  linkPacket 4 s.roleGen ((s.head x.head).scan.frame % 65536) 0
    (sliceBytes (s.configBody d) 0 8 ++ leBytes 2 x.seq ++ (s.configBody d).drop 10)

/-- Records a packet as the last one sent to a driver. -/
def State.sendLink (s : State) (d : Nat) (bs : List Byte) : State := s.setDriver d { s.driver d with sent := bs }

/-- Broadcasts an empty packet of a type to every driver of a head (R364, R390). -/
def State.broadcast (s : State) (n type flags : Nat) : State :=
  let h := s.head n
  let bs := linkPacket type flags (h.scan.frame % 65536) h.scan.line []
  (s.driversOf n).foldl (fun s d => s.sendLink d bs) s

/-! ## Transmitter adaptation (R383, R384) -/

/-- The end of a trial or of a skipped one: the direction turns, and every eighth time the tap changes. -/
def TxAdapt.turn (a : TxAdapt) : TxAdapt :=
  { a with up := !a.up, trial := false, count := 0, sum := 0, dirty := false, trials := a.trials + 1,
           pre := if (a.trials + 1) % 8 = 0 then !a.pre else a.pre }

/-- One report's merit into the adaptation, with the tap's present value and whether the report carried errors. -/
def TxAdapt.step (a : TxAdapt) (tap merit : Nat) (bad : Bool) : TxAdapt :=
  if a.next.isSome then a else
  let sum := a.sum + merit
  let bad := a.dirty || bad
  if a.count < 15 then { a with count := a.count + 1, sum := sum, dirty := bad } else
  let top := if a.pre then 7 else 15
  let mark := if a.pre then 16 else 0
  if a.trial then
    if bad || decide (sum ≤ a.base + 16) then
      let b := ({ a with reverted := a.reverted + 1 } : TxAdapt).turn
      { b with next := some (mark + (if a.up then tap - 1 else tap + 1)) }
    else ({ a with kept := a.kept + 1 } : TxAdapt).turn
  else
    let a := { a with base := sum }
    if (if a.up then decide (tap < top) else decide (0 < tap)) then
      { a with next := some (mark + (if a.up then tap + 1 else tap - 1)), trial := true, count := 0, sum := 0, dirty := false }
    else a.turn

/-- A change point of a lane (R383): a waiting setting is made. -/
def State.changePoint (s : State) (lane : Nat) : State :=
  let f := s.fom lane
  match f.tx.next with
  | none => s
  | some v =>
    let l := s.lane lane
    let s := s.setLane lane (if v < 16 then { l with post := v } else { l with pre := v - 16 })
    s.setFom lane { f with tx := { f.tx with next := none } }

/-- The lanes of a driver (R347). -/
def driverLanes (d lanes : Nat) : List Nat := (List.range lanes).map (fun i => 36 + 2 * d + i)

/-- A lane's entry of a report (R383, R400) while its driver is UP. -/
def State.laneReport (s : State) (lane : Nat) (e : EyeReport) (crcErr : Nat) : State :=
  let l := s.lane lane
  let f := (s.fom lane).sample (fomOf e.eyeH e.eyeV)
  let f := if l.adaptOff then f else
    { f with tx := f.tx.step (if f.tx.pre then l.pre else l.post) (8 * e.eyeH + e.eyeV) (decide (e.codeErr > 0 ∨ crcErr > 0)) }
  s.setFom lane f

end Sys2Proof.Machine
end

