-- ==== Sys2Proof/Machine/PanelOps.lean ====
section
/-! DEFINITION. The panel tables and settings of a head (R263 to R267, R657), the mura buffers (R236 to R240), the panel temperature and
band (R243 to R250), and the changes of ledger and VCOM settings taking effect. -/

namespace Sys2Proof.Machine

/-! ## Tables -/

/-- Bytes of a panel table (R501). -/
def tableBytes (table : Nat) : Nat := match table with | 0 => 2048 | 1 => 2178 | 2 => 4096 | 3 => 130 | _ => 18

/-- Whether a table id and index exist. -/
def tableOk (table index : Nat) : Bool :=
  match table with | 0 => decide (index < 3) | 1 => decide (index < 24) | 2 => index == 0 | 3 => index == 0 | 4 => index == 0 | _ => false

/-- The 16-bit entries of a buffer. -/
def entries16 (bs : List Byte) : List Nat := (List.range (bs.length / 2)).map (fun i => fieldAt bs (2 * i) 2)

/-- Whether a table's contents are valid (R226, R233, R256, R264). -/
def tableValid (table : Nat) (bs : List Byte) : Bool :=
  let e := entries16 bs
  match table with
  | 0 => e.all (fun x => decide (x < 16384))
  | 1 => e.all (fun x => decide (x < 16384))
  | 4 => e.all (fun x => decide (x < 16384)) && [0, 1, 2].all (fun c => decide (e.getD (3 * c) 0 < e.getD (3 * c + 1) 0 ∧ e.getD (3 * c + 1) 0 < e.getD (3 * c + 2) 0))
  | _ => true

/-- A table set with one table replaced (R263). -/
def PanelTables.load (t : PanelTables) (table index : Nat) (bs : List Byte) : PanelTables :=
  match table with
  | 0 => { t with gamma := spSet [] t.gamma index (entries16 bs) }
  | 1 => { t with od := spSet [] t.od index (entries16 bs) }
  | 2 => { t with dither := bs.map (fun b => b.toNat) }
  | 3 => { t with therm := words16 bs 0 65 }
  | _ => { t with knees := entries16 bs }

/-- Entry c of the output gamma LUT of a colour, the identity where none is loaded (R226, R657). -/
def PanelTables.gammaAt (t : PanelTables) (colour c : Nat) : Nat :=
  match spGet t.gamma [] colour with | [] => 16 * c + c / 64 | l => l.getD c 0

/-- Entry od[i][j] of a band and colour (R256, R657). -/
def PanelTables.odAt (t : PanelTables) (band colour i j : Nat) : Nat :=
  match spGet t.od [] (3 * band + colour) with | [] => min (512 * j) 16383 | l => l.getD (33 * i + j) 0

/-- The dither tile at column u and row w (R258, R657). -/
def PanelTables.ditherAt (t : PanelTables) (u w : Nat) : Nat := t.dither.getD (64 * w + u) 0

/-- Entry e[i] of the thermistor table (R243, R657). -/
def PanelTables.thermAt (t : PanelTables) (i : Nat) : Int := match t.therm with | [] => 400 | l => l.getD i 0

/-- Knee k of a colour (R233, R657). -/
def PanelTables.kneeAt (t : PanelTables) (colour k : Nat) : Nat :=
  match t.knees with | [] => [4096, 8192, 12288].getD k 0 | l => l.getD (3 * colour + k) 0

/-- The table that a marked word of a head's bank belongs to (R263; which word holds which table is not given). -/
def bankTable (n bank w : Nat) : Option (Nat × Nat) :=
  let lo := 32768 * (48 + 2 * n + bank)
  if lo ≤ w ∧ w < lo + 32768 then some (Config.tableOfWord (w - lo)) else none

/-- Fresh check bits for the words of a bank of a head that satisfy a test. -/
def State.freshBank (s : State) (n bank : Nat) (p : Nat × Nat → Bool) : State :=
  { s with mem := { s.mem with sramErr := s.mem.sramErr.filter (fun x => match bankTable n bank x.1 with | some t => !p t | none => true) } }

/-- A table is loaded into the shadow set (R263, R264). -/
def State.tableLoad (s : State) (n table index : Nat) (bs : List Byte) : State :=
  let s := s.freshBank n (1 - (s.head n).panel.bank) (fun t => t == (table, index))
  s.modHead n (fun h => { h with panel := { h.panel with
    shadow := { h.panel.shadow with tables := h.panel.shadow.tables.load table index bs },
    loaded := (table, index) :: h.panel.loaded.filter (fun x => x != (table, index)) } })

/-- The settings of a SETTINGS_LOAD (R266). -/
def settingsOf (p : SettingsP) : PanelSettings :=
  { gammaBypass := n2b p.gammaBypass, muraEnable := n2b p.muraEnable, odEnable := n2b p.odEnable, depth := p.depth, resScale := p.resScale,
    restLevel := p.restLevel, thermMin := p.thermMin, thermMax := p.thermMax, faultBand := p.faultBand, thresholds := p.thresholds, settle := p.settle }

/-- An activation (R265, R267): the two sets exchange roles, the copy of the new active set begins, and a bypass ends whose table was
loaded since. A copy still in progress is first brought to its end. -/
def State.activateNow (s : State) (n : Nat) : State :=
  s.modHead n (fun h =>
    let p := h.panel
    let shadow := if p.copying then p.active else p.shadow
    { h with panel := { p with
      active := shadow, shadow := p.active, copying := true, loaded := [], bank := 1 - p.bank,
      bypassed := p.bypassed.filter (fun x => !p.loaded.contains x), faulty := p.faulty.filter (fun x => !p.loaded.contains x) } })

/-- The end of the copy (R265): the shadow set equals the active set. -/
def State.copyEnd (s : State) (n : Nat) : State :=
  let s := s.freshBank n (1 - (s.head n).panel.bank) (fun _ => true)
  s.modHead n (fun h => { h with panel := { h.panel with shadow := h.panel.active, copying := false } })

/-! ## Mura buffers -/

/-- Bytes of a mura plane (R228). -/
def muraBytes (h : Head) : Nat := 336 * (h.tw * h.th)

/-- MURA_RELEASED (R238). -/
def State.postMura (s : State) (n base last : Nat) : State := s.post 0xE040 n 0 (leBytes 8 base ++ leBytes 4 last)

/-- Whether a P-item of a latched frame may still read a mura buffer: some run of it has neither finished nor been abandoned (R238). -/
def State.muraBusy (s : State) (n base : Nat) : Bool :=
  let h := s.head n
  h.scan.latched.any (fun l => l.set.settings.muraEnable && l.kind == 0 && l.mura == base && (List.range h.th).any (fun q =>
    (List.range h.runs).any (fun j => !s.pDone { kind := .p, owner := n, frame := l.frame, row := q, run := j })))

/-- A swap takes effect (R236, R238): the buffer swapped out is released at once where no P-item can still read it. -/
def State.muraApply (s : State) (n base : Nat) : State :=
  let p := (s.head n).panel
  let old := p.muraBase.getD p.muraActive 0
  let last := p.muraLast.getD noFrame
  let busy := s.muraBusy n old
  let s := s.modHead n (fun h => { h with panel := { p with
    muraBase := setAt p.muraBase (1 - p.muraActive) base, muraActive := 1 - p.muraActive, muraLast := none,
    muraRelease := if busy then some (old, last) else none } })
  if busy then s else s.postMura n old last

/-! ## Temperature and band -/

/-- A valid code's temperature in 1/16 °C (R243). -/
def thermTemp (t : PanelTables) (c : Nat) : Int :=
  let i := c / 64
  let f : Int := (c % 64 : Nat)
  t.thermAt i + shrI ((t.thermAt (i + 1) - t.thermAt i) * f + 32) 6

/-- The panel temperature (R244): the mean of the last 16 valid samples, or of those since the wind-up or fault; none without one. -/
def Therm.temp (t : Therm) : Option Int :=
  match t.samples with
  | [] => none
  | l => some ((2 * l.foldl (· + ·) 0 + l.length) / (2 * l.length))

/-- The band field of R250 and PANEL_STATUS: 0x8000 without a valid sample. -/
def Therm.field (t : Therm) : List Byte := match t.temp with | some x => leInt 2 x | none => leBytes 2 0x8000

/-- Threshold th[b], b from 1 to 7 (R246). -/
def PanelSettings.th (p : PanelSettings) (b : Nat) : Int := p.thresholds.getD (b - 1) 0

/-- The band rises while the temperature reaches the next threshold (R247). -/
def bandUp (p : PanelSettings) (t : Int) (b : Nat) : Nat :=
  (List.range 7).foldl (fun b _ => if b < 7 ∧ t ≥ p.th (b + 1) then b + 1 else b) b

/-- The band falls while the temperature lies 1.5 °C below its threshold (R247). -/
def bandDown (p : PanelSettings) (t : Int) (b : Nat) : Nat :=
  (List.range 7).foldl (fun b _ => if 0 < b ∧ t < p.th b - 24 then b - 1 else b) b

/-- The band of R247 from the band in force. -/
def bandNext (p : PanelSettings) (t : Int) (b : Nat) : Nat := bandDown p t (bandUp p t b)

/-- The update of the band at a latch point of frame k (R245, R247, R248, R250), with BAND_CHANGED. -/
def State.bandLatch (s : State) (n k : Nat) : State :=
  let h := s.head n
  let set := h.panel.active.settings
  let t := h.therm
  let new := match t.temp with
    | some x => if t.fault then (if t.bandSet then t.band else set.faultBand) else bandNext set x (if t.bandSet then t.band else 0)
    | none => if t.bandSet then t.band else set.faultBand
  let s := s.setHead n { h with therm := { t with band := new, bandSet := t.bandSet || (t.temp.isSome && !t.fault), latchedOnce := true } }
  if t.latchedOnce && new == t.band then s
  else s.post 0xE043 n 0 (leBytes 4 k ++ leBytes 1 (if t.latchedOnce then t.band else 255) ++ leBytes 1 new ++ t.field)

/-! ## Ledger and VCOM settings -/

/-- Whether an ALLOWED mask is not empty and closed under the complement (R280). -/
def allowedOk (m : Nat) : Bool := decide (0 < m ∧ m < 256) && [0, 1, 2, 3].all (fun i => bit m (2 * i) == bit m (2 * i + 1))

/-- LEDGER_SET takes effect (R280, R297). -/
def State.ledgerApply (s : State) (n allowed warmTime warmCode : Nat) : State :=
  s.modHead n (fun h => { h with ledger := { h.ledger with allowed := allowed, warmTime := warmTime, warmCode := warmCode } })

/-- A ledger clear takes effect (R302): every row clears at its next commit. -/
def State.clearApply (s : State) (n : Nat) : State :=
  s.modHead n (fun h => { h with ledger := { h.ledger with clearRows := List.range h.th } })

/-- VCOM_SET takes effect on a head that does not run (R285): a driven DAC takes V0. -/
def State.vcomIdle (s : State) (p : VcomP) : State :=
  s.modHead p.head (fun h => { h with vcom := { h.vcom with cfg := p, dac := if h.vcom.driven then p.v0 else h.vcom.dac } })

end Sys2Proof.Machine
end

