-- ==== Sys2Proof/Machine/CmdPanel.lean ====
section
/-! DEFINITION. The PANEL and LEDGER command groups but for wind-up and power-down (0x0803 to 0x080A, 0x0901 to 0x0906). -/

namespace Sys2Proof.Machine

/-- POWER_SEQ_SET (0x0803; R417, R652): stored for the next wind-up or wind-down. -/
def execPowerSeqSet (h : Hdr) (p : PowerSeqP) (s : State) : Host.Outcome State Fault Refusal :=
  .next (runNow h 0x0803
    { bad := decide (p.head > 3 ∨ p.penUsed < 1 ∨ p.penUsed > 15 ∨ p.vcomSettle > 20000 ∨ p.penDelay > 50000 ∨ p.pgTimeout < 1 ∨ p.pgTimeout > 100 ∨
        p.trainDelay > 50000 ∨ p.wdHold < 100 ∨ p.wdHold > 4000 ∨ p.penGap > 300), busy := s.sys.windDown } s
    (fun s => (s.modHead p.head (fun x => { x with power := { x.power with seq := p } }), [])))

/-- Whether another driver set for the same head overlaps a driver's columns (R349). -/
def State.driverOverlap (s : State) (p : DriverSetP) : Bool :=
  (s.driversOf p.head).any (fun d => d != p.driver && (let x := s.driver d; overlaps p.first p.ch x.first x.ch))

/-- A DRIVER_SET is stored (R348). -/
def State.driverStore (s : State) (p : DriverSetP) : State :=
  s.setDriver p.driver { s.driver p.driver with
    head := p.head, first := p.first, ch := p.ch, lanes := p.lanes, rev := n2b p.rev, vendor := sliceBytes p.vendor 0 32,
    config := [] }

/-- DRIVER_SET (0x0804; R308, R348, R349): only while the heads concerned are OFF or PARKED. -/
def execDriverSet (h : Hdr) (p : DriverSetP) (s : State) : Host.Outcome State Fault Refusal :=
  let still := fun (n : Nat) => decide (n > 3) || (s.head n).state == 0 || (s.head n).state == 1
  let sTry := s.driverStore p
  .next (runNow h 0x0804
    { bad := decide (p.driver > 95 ∨ p.head > 3 ∨ p.first > 98256 ∨ p.ch < 240 ∨ p.ch > 1920 ∨ p.lanes < 1 ∨ p.lanes > 2 ∨ p.rev > 1) ||
        p.first % 48 != 0 || p.ch % 48 != 0 || s.driverOverlap p,
      busy := s.sys.windDown, ignored := !still p.head || !still (s.driver p.driver).head,
      refused := !sTry.pitchOk p.head || (sTry.viewFail p.head (s.head p.head).panel.active.settings.settle).isSome } s
    (fun s => (s.driverStore p, [])))

/-- DRIVER_RETRAIN (0x0805; R369): to TRAIN at the link rate from any state; CMD_APPLIED at DRIVER_UP. -/
def execDriverRetrain (h : Hdr) (driver : Nat) (s : State) : Host.Outcome State Fault Refusal :=
  .next (runProc h 0x0805 driver { bad := decide (driver > 95), busy := s.sys.windDown, ignored := !s.mayTrain driver } s
    (fun p s => (s.linkTrain driver false).addProc p))

/-- Runs a load that waits while the copy after an activation is in progress (R265). -/
def afterCopy (h : Hdr) (op head : Nat) (i : Instr) (s : State) (run : State → State) : State :=
  if (s.head head).panel.copying && s.sys.ready then runLater h op head i {} s (fun r s => s.addRunning r) else run s

/-- TABLE_LOAD (0x0806; R226, R233, R256, R263 to R265, R501). -/
def execTableLoad (h : Hdr) (head table index buffer : Nat) (s : State) : Host.Outcome State Fault Refusal :=
  let i : Instr := .tableLoad h head table index buffer
  let form := decide (head > 3 ∨ buffer + tableBytes table > storeSize) || !tableOk table index
  .next (withBuffer h 0x0806 i form buffer (tableBytes table) s (fun bs s =>
    if form || !tableValid table bs then runNow h 0x0806 { bad := true } s (fun s => (s, []))
    else afterCopy h 0x0806 head i s (fun s =>
      runNow h 0x0806 { busy := s.sys.windDown } s (fun s => (s.tableLoad head table index bs, [])))))

/-- SETTINGS_LOAD (0x0807; R235, R242, R245, R246, R251, R254, R262, R266). -/
def execSettingsLoad (h : Hdr) (p : SettingsP) (s : State) : Host.Outcome State Fault Refusal :=
  let th := p.thresholds
  let bad := decide (p.head > 3 ∨ p.gammaBypass > 1 ∨ p.muraEnable > 1 ∨ p.odEnable > 1 ∨ p.depth > 4 ∨ p.restLevel > 16383 ∨ p.thermMin > p.thermMax ∨
      p.thermMax > 4095 ∨ p.faultBand > 7 ∨ th.length ≠ 7 ∨ p.settle.length ≠ 8) || !([1, 2, 4, 8].contains p.resScale) ||
    (List.range 6).any (fun j => decide (th.getD (j + 1) 0 < th.getD j 0 + 32)) || p.settle.any (fun x => decide (x > 20000))
  .next (if bad then runNow h 0x0807 { bad := true } s (fun s => (s, []))
    else afterCopy h 0x0807 p.head (.settingsLoad h p) s (fun s =>
      runNow h 0x0807 { busy := s.sys.windDown } s (fun s =>
        (s.modHead p.head (fun x => { x with panel := { x.panel with shadow := { x.panel.shadow with settings := settingsOf p } } }), []))))

/-- ACTIVATE (0x0808; R265, R340). -/
def execActivate (h : Hdr) (head : Nat) (s : State) : Host.Outcome State Fault Refusal :=
  let hd := s.head head
  let fail := s.viewFail head hd.panel.shadow.settings.settle
  .next (runBound h 0x0808 true head (.activate h head) hd.idle
    { bad := decide (head > 3), busy := s.sys.windDown, refused := fail.isSome } (fail.getD []) (fun _ => []) s
    (fun e s => (s.activateNow head).entryApplied e noFrame head))

/-- MURA_SWAP (0x0809; R228, R236, R240). -/
def execMuraSwap (h : Hdr) (head base : Nat) (s : State) : Host.Outcome State Fault Refusal :=
  let hd := s.head head
  .next (runBound h 0x0809 true head (.muraSwap h head base) hd.idle
    { bad := decide (head > 3 ∨ base + muraBytes hd > 0x7FC000000) || base % 4096 != 0,
      busy := s.sys.windDown || hd.panel.muraRelease.isSome ||
        s.cp.launch.any (fun e => match e.cmd with | .muraSwap _ n _ => n == head | _ => false),
      ignored := hd.cfg.isNone } [] (fun _ => []) s
    (fun e s => (s.muraApply head base).entryApplied e noFrame head))

/-- PANEL_STATUS (0x080A; R244, R245, R495). -/
def execPanelStatus (h : Hdr) (head : Nat) (s : State) : Host.Outcome State Fault Refusal :=
  .next (runRead h 0x080A { bad := decide (head > 3) } s (fun s =>
    let t := (s.head head).therm
    t.field ++ leBytes 1 (s.head head).bandNow ++ leBytes 4 t.invalid ++ (s.driversOf head).flatMap (fun d => leBytes 1 (s.driver d).link)))

/-! ## Ledger and VCOM -/

/-- VCOM_SET (0x0901; R285, R290). -/
def execVcomSet (h : Hdr) (p : VcomP) (s : State) : Host.Outcome State Fault Refusal :=
  .next (runBound h 0x0901 false p.head (.vcomSet h p) (s.head p.head).idle
    { bad := decide (p.head > 3 ∨ p.vmax > 4095 ∨ p.vmin > p.v0 ∨ p.v0 > p.vmax ∨ p.senseEnable > 1 ∨ p.senseTarget > 4095 ∨ p.senseDelay < 1 ∨
        p.senseDelay > 1000 ∨ p.senseN < 1 ∨ p.senseN > 64 ∨ p.senseLimit < 1 ∨ p.senseLimit > 2047 ∨ p.trimGain < -256 ∨ p.trimGain > 256 ∨
        p.trimStep < 1 ∨ p.trimStep > 64), busy := s.sys.windDown } [] (fun _ => []) s
    (fun e s => (s.vcomIdle p).entryApplied e noFrame p.head))

/-- LEDGER_SET (0x0902; R280, R297). -/
def execLedgerSet (h : Hdr) (head allowed warmTime warmCode : Nat) (s : State) : Host.Outcome State Fault Refusal :=
  .next (runBound h 0x0902 false head (.ledgerSet h head allowed warmTime warmCode) (s.head head).idle
    { bad := decide (head > 3 ∨ warmTime < 500 ∨ warmTime > 30000 ∨ warmCode > 1023) || !allowedOk allowed, busy := s.sys.windDown } []
    (fun _ => []) s (fun e s => (s.ledgerApply head allowed warmTime warmCode).entryApplied e noFrame head))

/-- LEDGER_STATS (0x0903; R301). -/
def execLedgerStats (h : Hdr) (head : Nat) (s : State) : Host.Outcome State Fault Refusal :=
  .next (runRead h 0x0903 { bad := decide (head > 3) } s (fun s =>
    let x := s.head head
    let l := x.ledger
    leBytes 4 l.statFrame ++ leBytes 2 l.statMaxL ++ leBytes 4 l.statOverrides ++ leBytes 4 l.statSat ++ leBytes 2 x.vcom.dac ++
      leInt 2 x.vcom.e ++ leInt 2 x.vcom.delta))

/-- Whether a snapshot's frame lies ahead of every commit and at most 256 frames ahead of the newest frame (R502). -/
def State.snapAhead (s : State) (n k : Nat) : Bool :=
  let h := s.head n
  let now := if h.scans then h.scan.nextLatch - 1 else match h.cfg with
    | some c => if c.scanMode = 1 then h.scan.frame else h.nViews * frameAt c.rate s.tp
    | none => 0
  let ahead := diff32 k now
  (decide (ahead ≤ 256) || (h.scans && decide (diff32 now k < 256) && h.scan.latched.any (fun l => l.frame % 2 ^ 32 == k))) &&
    !h.scan.ready.any (fun x => x.1 % 2 ^ 32 == k || newer32 (x.1 % 2 ^ 32) k)

/-- LEDGER_SNAPSHOT (0x0904; R301, R502). -/
def execLedgerSnapshot (h : Hdr) (head frame buffer size : Nat) (s : State) : Host.Outcome State Fault Refusal :=
  let hd := s.head head
  .next (runProc h 0x0904 head
    { bad := decide (head > 3 ∨ buffer + size > storeSize) || (hd.cfg.isSome && decide (size < panelBytes hd.w hd.hh)),
      refused := hd.cfg.isNone || !s.snapAhead head frame } s
    (fun p s => s.addProc { p with arg := frame, buffer := buffer }))

/-- LEDGER_TABLE_READ (0x0905; R275, R300, R502). -/
def execLedgerTableRead (h : Hdr) (head table first rows buffer : Nat) (s : State) : Host.Outcome State Fault Refusal :=
  let hd := s.head head
  let size := if table = 0 then 64 else 8
  let c : Checks :=
    { bad := decide (head > 3 ∨ table > 1 ∨ rows = 0 ∨ buffer + size * rows > storeSize) || (hd.cfg.isSome && decide (first + rows > hd.th)),
      refused := hd.cfg.isNone }
  .next (withStore h 0x0905 (.ledgerTableRead h head table first rows buffer) s (fun s =>
    let addr := if table = 0 then rowTimeAt head first else rowCheckAt head first
    match testCmd h false 4 (c.served h 0x0905 s) s with
    | some _ => runNow h 0x0905 c s (fun s => (s, []))
    | none =>
      let (bs, unc, s1) := s.readMem 1 addr (size * rows)
      if unc then s1.failCmd h 0x0905 else runNow h 0x0905 c s1 (fun s => ((s.guardedWrite buffer bs).2, []))))

/-- LEDGER_CLEAR (0x0906; R302, R502). -/
def execLedgerClear (h : Hdr) (head : Nat) (s : State) : Host.Outcome State Fault Refusal :=
  let hd := s.head head
  .next (runBound h 0x0906 false head (.ledgerClear h head) hd.idle
    { bad := decide (head > 3), busy := s.sys.windDown, refused := hd.cfg.isNone } [] (fun _ => []) s
    (fun e s => (s.clearApply head).entryApplied e noFrame head))

end Sys2Proof.Machine
end

