-- ==== Sys2Proof/Machine/CmdSystem.lean ====
section
/-! DEFINITION. The SYSTEM and TIME command groups (0x0100 to 0x0104, 0x0201 to 0x0209) but for FUNC_RESET. -/

namespace Sys2Proof.Machine

/-- SYS_ID (R603). -/
abbrev sysId : Nat := 0x9160B100

/-- NOP (0x0100; R486). -/
def execNop (h : Hdr) (s : State) : Host.Outcome State Fault Refusal := .next (runRead h 0x0100 {} s (fun _ => []))

/-- GET_INFO (0x0101; R486): SYS_ID, firmware release, unique ID, debug lock, features. -/
def execGetInfo (h : Hdr) (s : State) : Host.Outcome State Fault Refusal :=
  .next (runRead h 0x0101 {} s (fun s => leBytes 4 sysId ++ leBytes 4 s.sys.release ++ leBytes 8 Config.uid ++
    leBytes 1 (b2n s.sys.debugLocked) ++ leBytes 3 Config.features))

/-- The event codes of R493. -/
def eventCodes : List Nat :=
  [0xE001, 0xE002, 0xE003, 0xE004, 0xE005, 0xE010, 0xE011, 0xE012, 0xE013, 0xE014, 0xE015, 0xE020, 0xE021, 0xE022, 0xE023, 0xE024,
   0xE030, 0xE031, 0xE040, 0xE041, 0xE042, 0xE043, 0xE044, 0xE050, 0xE051, 0xE052, 0xE053, 0xE054, 0xE055, 0xE056] ++
  [0xE060, 0xE061, 0xE062, 0xE063, 0xE064, 0xE070, 0xE071, 0xE072, 0xE073, 0xE080, 0xE081, 0xE082, 0xE083, 0xE090, 0xE091, 0xE092,
   0xE093, 0xE094, 0xE095, 0xE096, 0xE097, 0xE098, 0xE099, 0xE09A, 0xE09B, 0xE09C, 0xE0A0, 0xE0B0, 0xE0B1, 0xE0C0, 0xE0C1, 0xE0D0]

/-- EVENT_CTL (0x0102; R479, R510). -/
def execEventCtl (h : Hdr) (code enable vector mgt : Nat) (s : State) : Host.Outcome State Fault Refusal :=
  .next (runNow h 0x0102
    { bad := !eventCodes.contains code || decide (enable > 1 ∨ vector < 4 ∨ vector > 63 ∨ mgt > 1) } s
    (fun s => ({ s with cp := { s.cp with
      routes := spSet {} s.cp.routes code { off := enable == 0, vector := vector, mgt := n2b mgt } } }, [])))

/-- LOG_READ (0x0104; R628): entries from an index, counting mod 256; an entry never written reads as zero. -/
def execLogRead (h : Hdr) (first count : Nat) (s : State) : Host.Outcome State Fault Refusal :=
  .next (runRead h 0x0104 { bad := decide (first > 255 ∨ count < 1 ∨ count > 14) } s
    (fun s => (List.range count).flatMap (fun i => sliceBytes (spGet s.log.entries [] ((first + i) % 256)) 0 64)))

/-- DOMAIN_SET (0x0201; R50, R52, R53): the domain restarts in LISTENING, or is DISABLED. -/
def execDomainSet (h : Hdr) (p : DomainSetP) (s : State) : Host.Outcome State Fault Refusal :=
  .next (runNow h 0x0201
    { bad := decide (p.domain > 1 ∨ p.enable > 1 ∨ p.domainNumber > 127 ∨ p.primary > 31 ∨ (p.backup > 31 ∧ p.backup ≠ 255) ∨
        p.unicast > 1 ∨ p.holdover < 1 ∨ p.holdover > 86400) } s
    (fun s =>
      let x := s.domain p.domain
      let s := s.setDomain p.domain { x with
        number := p.domainNumber, primary := p.primary, backup := p.backup, unicast := n2b p.unicast, gmAddr := p.gmAddr, holdover := p.holdover }
      let s := s.domainState p.domain (if p.enable = 1 then 1 else 0)
      (s.setDomain p.domain { s.domain p.domain with gm := none, offset := 0, meanDelay := 0, good := 0, bad := 0 }, [])))

/-- DOMAIN_STATUS (0x0202; R46, R50). -/
def execDomainStatus (h : Hdr) (d : Nat) (s : State) : Host.Outcome State Fault Refusal :=
  .next (runRead h 0x0202 { bad := decide (d > 1) } s (fun s =>
    let x := s.domain d
    let (id, utc) := match x.gm with | some a => (a.identity, a.utcOffset) | none => (0, 0)
    leBytes 1 x.state ++ leBytes 8 id ++ leInt 8 x.offset ++ leInt 8 x.meanDelay ++
      leInt 8 (if d = 0 then s.time.rateA else s.time.rateB) ++ leInt 2 utc ++ sliceBytes x.metadata 0 20))

/-- TP_CONFIG (0x0203; R61, R62, R63, R67). -/
def execTpConfig (h : Hdr) (p : TpConfigP) (s : State) : Host.Outcome State Fault Refusal :=
  .next (runNow h 0x0203
    { bad := decide (p.jump < 16 ∨ p.jump > 1000000 ∨ p.slew < 1 ∨ p.slew > 100 ∨ p.acquireAuto > 1 ∨ p.autoSelect > 1 ∨ p.revert > 1) } s
    (fun s => ({ s with time := { s.time with
      jumpLimit := p.jump, slew := p.slew, acquireAuto := n2b p.acquireAuto, autoSelect := n2b p.autoSelect, revert := n2b p.revert } }, [])))

/-- TP_SELECT (0x0204; R64 to R67). A refusal for a jump sets JUMP_REFUSED and posts its event. -/
def execTpSelect (h : Hdr) (d : Nat) (s : State) : Host.Outcome State Fault Refusal :=
  let c : Checks := { bad := decide (d > 1), ignored := d == s.time.selected, refused := !s.switchOk d }
  let s' := runNow h 0x0204 c s (fun s => (s.takeDomain d true, []))
  .next (if testCmd h false 4 ({ c with refused := false }.served h 0x0204 s) s = none ∧ c.refused = true then s'.switchRefused d else s')

/-- TP_STEP (0x0205; R60, R68): the reply carries the generation after the step. -/
def execTpStep (h : Hdr) (source : Nat) (value : StoredTime) (s : State) : Host.Outcome State Fault Refusal :=
  .next (runNow h 0x0205 { bad := decide (source > 1 ∨ value.ns ≥ 1000000000) } s (fun s =>
    (if source = 0 then s.forceDomain else s.forceValue (unitsOf value), leBytes 2 ((s.time.tpGen + 1) % 65536))))

/-- The frame period that bounds a pulse width, where the mode has one (R84). -/
def pulsePeriod (p : EvtOutP) (s : State) : Option Nat :=
  match p.mode with
  | 2 => some (unitsOf p.period)
  | 3 => some (period p.rate)
  | 4 => match (s.head p.head).cfg with | some c => some (period c.rate) | none => none
  | _ => none

/-- EVT_OUT_SET (0x0206; R83 to R85), with TIMED by R76. A width not below the period is ignored (R84). -/
def execEvtOutSet (h : Hdr) (p : EvtOutP) (s : State) : Host.Outcome State Fault Refusal :=
  .next (runNowT h 0x0206 4 (.evtOutSet h p)
    { bad := decide (p.pin > 7 ∨ p.mode > 4 ∨ p.polarity > 1 ∨ p.start.ns ≥ 1000000000 ∨ p.period.ns ≥ 1000000000 ∨ p.head > 3) ||
        (p.mode != 0 && decide (p.width < 8 ∨ p.width > 1000000000)) || (p.mode == 3 && !rateOk p.rate),
      ignored := match pulsePeriod p s with | some x => decide (nsU p.width ≥ x) | none => false } s (fun s => s.evtOutApply p))

/-- EVT_IN_SET (0x0207; R80). -/
def execEvtInSet (h : Hdr) (pin edges minPulse report : Nat) (s : State) : Host.Outcome State Fault Refusal :=
  .next (runNow h 0x0207
    { bad := decide (pin > 7 ∨ edges < 1 ∨ edges > 3 ∨ minPulse < 1 ∨ minPulse > 1000 ∨ report > 1) } s
    (fun s => (s.setEvtIn pin { s.evtInOf pin with edges := edges, minPulse := minPulse, report := n2b report }, [])))

/-- EVT_IN_READ (0x0208; R82): the entries read are removed. -/
def execEvtInRead (h : Hdr) (pin : Nat) (s : State) : Host.Outcome State Fault Refusal :=
  .next (runNow h 0x0208 { bad := decide (pin > 7) } s (fun s =>
    let e := s.evtInOf pin
    (s.setEvtIn pin { e with fifo := [] },
     leBytes 1 e.fifo.length ++ e.fifo.flatMap (fun c =>
       timeBytes c.stamp ++ leBytes 2 c.gen ++ leBytes 1 (if c.rising then 1 else 2) ++ leBytes 1 0))))

/-- LAUNCH_CANCEL (0x0209; R79, R498). -/
def execLaunchCancel (h : Hdr) (queue tag : Nat) (s : State) : Host.Outcome State Fault Refusal :=
  let mine := fun (e : Entry) => e.timed && e.queue == queue && e.tag == tag
  let n := s.cp.launch.countP mine
  .next (runNow h 0x0209 { bad := decide (queue > 4), ignored := n == 0 } s (fun s => (s.dropEntries mine 1, leBytes 2 n)))

end Sys2Proof.Machine
end

