-- ==== Sys2Proof/Machine/Apply.lean ====
section
/-! DEFINITION. How a waiting command takes effect: at a composition start (R75, R150, R169), at a latch point (R236, R265, R280, R302,
R322), or at its own instant on a head without frame boundaries (R76, R653). -/

namespace Sys2Proof.Machine

/-- The commands that a composition start puts into force. -/
def atCompose (i : Instr) : Bool :=
  match i with
  | .routeSet _ _ => true
  | .layerSet _ _ => true
  | .layerCoef _ _ _ _ _ => true
  | .layerPresent _ _ => true
  | .headPicture _ _ => true
  | .audioHead _ _ => true
  | .checkSet _ _ => true
  | .headSr _ _ => true
  | .headStop _ _ => true
  | .outputSet _ _ => true
  | .audioTx _ _ _ _ _ => true
  | _ => false

/-- The commands whose effect ends self-refresh and waits for the first normal frame (R330, R653). -/
def endsSr (i : Instr) : Bool :=
  match i with
  | .routeSet _ _ => true
  | .layerSet _ _ => true
  | .layerPresent _ _ => true
  | _ => false

/-- The commands that a latch point puts into force. -/
def atLatch (i : Instr) : Bool :=
  match i with
  | .activate _ _ => true
  | .muraSwap _ _ _ => true
  | .ledgerSet _ _ _ _ _ => true
  | .ledgerClear _ _ => true
  | i => isTimingChange i

/-- Removes an entry from the waiting commands. -/
def State.unqueue (s : State) (e : Entry) : State :=
  { s with cp := { s.cp with launch := s.cp.launch.filter (fun x => x.acceptNo != e.acceptNo) } }

/-- The order of R77: launch time, then acceptance. -/
def entryLe (a b : Entry) : Bool := decide (a.t < b.t) || (a.t == b.t && !newer32 a.acceptNo b.acceptNo)

/-- A composition-class entry of a destination or head takes effect at frame k. -/
def State.applyAt (s : State) (e : Entry) (k : Nat) : State :=
  let s := s.unqueue e
  let f := k % 2 ^ 32
  match e.cmd with
  | .routeSet _ p => s.routeApply p e (some f)
  | .layerSet _ p => (s.layerApply p).entryApplied e f p.head
  | .layerCoef _ d axis auto _ => (s.coefApply d axis auto e.data).entryApplied e f (destField d)
  | .layerPresent _ p => (s.presentApply p (some f)).entryApplied e f p.head
  | .headPicture _ p => (s.pictureApply p e.data).entryApplied e f p.head
  | .audioHead _ p => (s.audioHeadApply p (some k)).entryApplied e f p.head
  | .checkSet _ p => (s.checkApply p).entryApplied e f p.head
  | .headSr _ p => s.srApply p e
  | .headStop _ n => if (s.head n).stoppable then s.stopEntry n e else s.dropped e.acceptNo e.tag 4
  | .outputSet _ p => (s.outputApply p e.data).entryApplied e f 255
  | .audioTx _ u follows i map => (s.audioTxApply u follows i map).entryApplied e f 255
  | _ => s

/-- An entry takes effect on a head or output without frame boundaries, or one of immediate effect at its launch time (R76, R653). -/
def State.applyIdle (s : State) (e : Entry) : State :=
  let s := s.unqueue e
  match e.cmd with
  | .routeSet _ p => s.routeAtOnce p.dest p e
  | .layerSet _ p => (s.layerApply p).entryApplied e noFrame p.head
  | .layerCoef _ d axis auto _ => (s.coefApply d axis auto e.data).entryApplied e noFrame (destField d)
  | .layerPresent _ p => (s.presentApply p none).entryApplied e noFrame p.head
  | .headPicture _ p => (s.pictureApply p e.data).entryApplied e noFrame p.head
  | .audioHead _ p => (s.audioHeadApply p none).entryApplied e noFrame p.head
  | .checkSet _ p => (s.checkApply p).entryApplied e noFrame p.head
  | .headSr _ p => s.srApply p e
  | .headStop _ n => if (s.head n).stoppable then s.stopEntry n e else s.dropped e.acceptNo e.tag 4
  | .headStart _ n =>
    if (s.head n).state = 1 ∧ (s.head n).power.phase = 0 ∧ s.sys.windDown = false ∧ s.startOk n = true then
      (let s := s.startHead n
       s.entryApplied e ((s.head n).scan.firstFrame % 2 ^ 32) n)
    else s.dropped e.acceptNo e.tag 4
  | .activate _ n => (s.activateNow n).entryApplied e noFrame n
  | .muraSwap _ n base => (s.muraApply n base).entryApplied e noFrame n
  | .ledgerSet _ n a t c => (s.ledgerApply n a t c).entryApplied e noFrame n
  | .ledgerClear _ n => (s.clearApply n).entryApplied e noFrame n
  | .vcomSet _ p => (s.vcomIdle p).entryApplied e noFrame p.head
  | .viewSet _ p => (s.viewsNow p.head 2 p.views).entryApplied e noFrame p.head
  | .viewClear _ n mode => (s.viewsNow n mode []).entryApplied e noFrame n
  | .outputSet _ p => (s.outputApply p e.data).entryApplied e noFrame 255
  | .audioTx _ u follows i map => (s.audioTxApply u follows i map).entryApplied e noFrame 255
  | .evtOutSet _ p => (s.evtOutApply p).entryApplied e noFrame 255
  | _ => s.dropped e.acceptNo e.tag 4

/-- The destination of an entry that a transmit output's composition start puts into force. -/
def outputOf (i : Instr) : Option Nat :=
  match i with
  | .routeSet _ p => if p.dest.kind = 1 then some p.dest.index else none
  | .layerCoef _ d _ _ _ => if d.kind = 1 then some d.index else none
  | .outputSet _ p => some p.output
  | .audioTx _ _ follows i _ => if follows = 0 then some i else none
  | _ => none

/-- The frame epoch of an output's frame. -/
def Output.epochOf (o : Output) (k : Nat) : Option Nat := o.cfg.map (fun c => epoch c.rate k)

/-- The entries that a composition start of frame k puts into force, in the order of R77, with LATE set where an earlier frame with an
epoch at or after the launch time was already composing (R75). -/
def dueEntries (launch : List Entry) (mine : Entry → Bool) (ek prev : Option Nat) : List Entry :=
  let due := launch.filter (fun e => mine e && (!e.timed || (match ek with | some x => decide (e.t ≤ x) | none => false)))
  let mark := fun (e : Entry) => { e with late := e.late || (e.timed && (match prev with | some x => decide (e.t ≤ x) | none => false)) }
  sortBy entryLe (due.map mark)

/-- At the composition start of frame k of a head: the timed entries that wait for a latch point are given that frame (R75, R236). -/
def State.assignFrames (s : State) (n k : Nat) (ek prev : Option Nat) : State :=
  { s with cp := { s.cp with launch := s.cp.launch.map (fun e =>
      if e.queue = n ∧ e.timed = true ∧ e.frame = none ∧ atLatch e.cmd = true ∧ (match ek with | some x => decide (e.t ≤ x) | none => false) = true then
        { e with frame := some k, late := e.late || (match prev with | some x => decide (e.t ≤ x) | none => false) }
      else e) } }

/-- The epoch of the frame before k that had already begun, where there is one since the start. -/
def Head.prevEpoch (h : Head) (k : Nat) : Option Nat :=
  if k ≤ h.scan.firstFrame then none else h.epochOf (k - h.nViews)

/-- The entries of a head take effect at the composition start of frame k. -/
def State.applyHead (s : State) (n k : Nat) : State :=
  let h := s.head n
  let s := s.assignFrames n k (h.epochOf k) (h.prevEpoch k)
  let normal := h.state != 4
  let mine := fun (e : Entry) => e.queue == n && atCompose e.cmd && (normal || !endsSr e.cmd)
  (dueEntries s.cp.launch mine (h.epochOf k) (h.prevEpoch k)).foldl (fun s e => s.applyAt e k) s

/-- The entries of a transmit output take effect at the composition start of frame k. -/
def State.applyOutput (s : State) (n k : Nat) : State :=
  let o := s.output n
  let mine := fun (e : Entry) => e.queue == 4 && outputOf e.cmd == some n
  (dueEntries s.cp.launch mine (o.epochOf k) (o.epochOf (k - 1))).foldl (fun s e => s.applyAt e k) s

/-- An entry of R76 that takes effect more than 10 µs after its launch time is LATE. -/
def State.lateNow (s : State) (e : Entry) : Entry := { e with late := e.late || (e.timed && decide (s.tp > e.t + usU 10)) }

/-- Everything that still waits for a head when it parks takes effect (R653). -/
def State.applyParked (s : State) (n : Nat) : State :=
  let due := s.cp.launch.filter (fun e => e.queue == n && (!e.timed || decide (e.t ≤ s.tp)))
  (sortBy entryLe (due.map s.lateNow)).foldl (fun s e => s.applyIdle e) s

/-- LAUNCH_ENTRY_DUE (R76, R78): the due entries of an idle head, or those of the common queue that are not bound to an output's frames,
take effect in the order of R77. -/
def execLaunchEntryDue (queue : Nat) (s : State) : Host.Outcome State Fault Refusal :=
  let bound := fun (e : Entry) => match outputOf e.cmd with
    | some n => !(s.output n).cfg.isNone
    | none => false
  let free := if queue < 4 then (s.head queue).idle else true
  let due := s.cp.launch.filter (fun e => e.queue == queue && e.timed && decide (e.t ≤ s.tp) && !bound e)
  .next (if free then (sortBy entryLe (due.map s.lateNow)).foldl (fun s e => s.applyIdle e) s else s)

end Sys2Proof.Machine
end

