-- ==== Sys2Proof/Machine/PixelOps.lean ====
section
/-! DEFINITION. The conversion and composition arithmetic of one pixel: unpacking and blend (R109, R157), chroma upsampling (R160), the
scaler (R161, R162), the matrices and LUTs (R159, R163, R164), graphics pixels (R170), transitions (R151, R656), layers (R167, R168). -/

namespace Sys2Proof.Machine

/-! ## Sources -/

/-- The sample of column x and line y in a plane at `base` of a given pitch (R109); `rd` reads a 32-bit word of the central store. -/
def planeSample (rd : Nat → Nat) (base pitch x y : Nat) : Nat := rd (base + y * pitch + 4 * (x / 3)) / 2 ^ (10 * (x % 3)) % 1024

/-- The base of a slot of a flow entry. -/
def slotBase (c : FlowSetP) (slot : Nat) : Nat := c.bases.getD slot 0

/-- A sample of plane k of the selected frame, blended with its partner (R157). -/
def blendSample (rd : Nat → Nat) (c : FlowSetP) (sel : Selected) (k x y : Nat) : Nat :=
  let get := fun (slot : Nat) => planeSample rd (slotBase c slot + planeBase c.format k) (pitch (planeSize c.format k).1) x y
  let a := get sel.slot
  match sel.partner with
  | none => a
  | some b => (sel.weight * get b + (64 - sel.weight) * a + 32) / 64

/-- Four taps from sample j − 1 to j + 2 with edge samples repeated, rounded and clamped (R160). -/
def chromaTaps (coef : List Int) (j hi : Nat) (get : Nat → Int) : Int :=
  let acc := (List.range 4).foldl (fun a t => a + coef.getD t 0 * get (clampN hi ((j : Int) - 1 + t))) 0
  clampI 0 1023 (shrI (acc + 128) 8)

/-- The horizontal coefficients of R160 for an output column. -/
def chromaH (x : Nat) : List Int := if x % 2 = 0 then [0, 256, 0, 0] else [-16, 144, 144, -16]

/-- The vertical coefficients of R160 for an output line of 4:2:0. -/
def chromaV (y : Nat) : List Int := if y % 2 = 0 then [-18, 222, 58, -6] else [-6, 58, 222, -18]

/-- Component k (Y, Cb, Cr or G, B, R) of a video source at full resolution (R160): chroma horizontally, then vertically. -/
def videoSample (rd : Nat → Nat) (c : FlowSetP) (sel : Selected) (k x y : Nat) : Nat :=
  let f := c.format
  if k = 0 ∨ f.sampling ≥ 2 then blendSample rd c sel k x y else
  let (w, h) := planeSize f k
  let across := fun (line : Nat) => chromaTaps (chromaH x) (x / 2) (w - 1) (fun j => blendSample rd c sel k j line)
  (if f.sampling = 0 then across y else chromaTaps (chromaV y) (y / 2) (h - 1) across).toNat

/-- An 8-bit graphics colour at 10 bits (R170). -/
def expand8 (v : Nat) : Nat := v * 4 + v / 64

/-- Channel k (R, G, B, and 3 for A) of a graphics pixel (R170). -/
def graphicsSample (rd : Nat → Nat) (p : PresentP) (k x y : Nat) : Nat :=
  let w := rd (p.base + y * p.pitch + 4 * x)
  if p.format = 0 then (match k with
    | 0 => expand8 (bits w 23 16) | 1 => expand8 (bits w 15 8) | 2 => expand8 (bits w 7 0) | _ => bits w 31 24)
  else (match k with
    | 0 => bits w 29 20 | 1 => bits w 19 10 | 2 => bits w 9 0 | _ => 85 * bits w 31 30)

/-! ## Scaler -/

/-- The step of an axis (R161). -/
def scaleStep (crop dst : Nat) : Nat := (2 * crop * 65536 + dst) / (2 * dst)

/-- The first tap's index before clamping less T / 2 − 1, and the phase, of output x (R161). -/
def scalePos (origin : Int) (crop dst : Nat) (bob : Int) (x : Int) : Int × Nat :=
  let step : Int := scaleStep crop dst
  let pos := origin * 65536 + step / 2 - 32768 + bob + x * step
  let ph := ((pos % 65536 + 512) / 1024).toNat
  if ph = 64 then (pos / 65536 + 1, 0) else (pos / 65536, ph)

/-- The source indices that the T taps of an output read (R161). -/
def scaleTaps (taps : Nat) (origin : Int) (crop dst : Nat) (bob : Int) (x : Int) : List Nat :=
  let (i, _) := scalePos origin crop dst bob x
  (List.range taps).map (fun (t : Nat) => (clampI origin (origin + crop - 1) (i - taps / 2 + 1 + t)).toNat)

/-- One output of one axis (R161), clamped to `top`. -/
def scaleOne (taps : Nat) (coef : Nat → Nat → Int) (origin : Int) (crop dst : Nat) (bob : Int) (top : Int) (x : Int) (get : Nat → Int) : Int :=
  let (_, ph) := scalePos origin crop dst bob x
  let js := scaleTaps taps origin crop dst bob x
  let acc := ((List.range taps).zip js).foldl (fun a t => a + coef ph t.1 * get t.2) 0
  clampI 0 top (shrI (acc + 128) 8)

/-- The coefficients of an axis: those loaded, or one of the built-in sets by ratio (R162). -/
def coefOf (set : Option (List Int)) (taps crop dst axis : Nat) : Nat → Nat → Int :=
  match set with
  | some l => fun ph t => l.getD (taps * ph + t) 0
  | none => fun ph t => Config.autoCoef crop dst axis ph t

/-- A scaled sample of channel values `get x y` (R161): horizontal, then vertical. -/
def scaled (y : LayerShot) (crop : Rect) (bob top : Int) (dx dy : Int) (get : Nat → Nat → Int) : Int :=
  let d := y.cfg.dest
  let ch := coefOf y.coefH 8 crop.w d.w 0
  let cv := coefOf y.coefV 6 crop.h d.h 1
  scaleOne 6 cv crop.y crop.h d.h bob top dy (fun line => scaleOne 8 ch crop.x crop.w d.w 0 top dx (fun col => get col line))

/-! ## Matrices and LUTs -/

/-- M1 or M3 (R163). -/
def matrix1 (m : Matrix1) (v : List Int) : List Int :=
  [0, 1, 2].map (fun c =>
    let acc := [0, 1, 2].foldl (fun a j => a + m.coef.getD (3 * c + j) 0 * (v.getD j 0 - m.offIn.getD j 0)) 0
    clampI 0 1023 (shrI (acc + 2048) 12 + m.offOut.getD c 0))

/-- Entry n of the default ELUT (R501). -/
def elutDefault (n : Nat) : Nat := min 1023 ((1023 * n + 2048) / 4096)

/-- Entry n of an ELUT for a colour, the default where none is loaded. -/
def elutAt (l : List (List Nat)) (c n : Nat) : Int := match l with | [] => elutDefault n | l => ((l.getD c []).getD n 0 : Nat)

/-- Stages 5 to 7 (R163) with a TLUT given as a function. -/
def transfer (tlut : Nat → Nat → Nat) (m2 : List Int) (eluts : List (List Nat)) (r : List Int) : List Int :=
  let lin : List Int := [0, 1, 2].map (fun c => (tlut c (r.getD c 0).toNat : Int))
  [0, 1, 2].map (fun c =>
    let acc := [0, 1, 2].foldl (fun a j => a + m2.getD (3 * c + j) 0 * lin.getD j 0) 0
    let l2 := (clampI 0 65535 (shrI (acc + 8192) 14)).toNat
    let a := elutAt eluts c (l2 / 16)
    let b := elutAt eluts c (l2 / 16 + 1)
    a + shrI ((b - a) * (l2 % 16 : Nat) + 8) 4)

/-- The AUTO transfer of a graphics layer, whose transfer characteristic no rule gives: a fourth kind beside R164's three. -/
abbrev tcsGraphics : Nat := 3

/-- The TLUT of a frame's destination: loaded, or by the source's transfer characteristic and the peak luminance (R164). -/
def tlutOf (x : FrameShot) (tcs c n : Nat) : Nat := match x.tluts with | [] => Config.autoTlut tcs x.peak n | l => (l.getD c []).getD n 0

/-! ## Sides of a layer -/

/-- A pixel of a side (R656): its colour and alpha; `none` where it is transparent. -/
abbrev SidePx := Option (List Int × Int)

/-- The three colours of a fill or background word (R168, R500). -/
def wordColours (v : Nat) : List Int := [(bits v 9 0 : Nat), (bits v 19 10 : Nat), (bits v 29 20 : Nat)]

/-- The bob offset of a selected slot (R158). -/
def bobOf (c : FlowSetP) (d : Slot) : Int := if c.format.scanning ≠ 1 then 0 else if d.second then -16384 else 16384

/-- The lines of a source frame or field. -/
def srcLines (f : Format) : Nat := if f.scanning = 1 then f.height / 2 else f.height

/-- The crop of a side, clipped to what it shows (R165, R655). -/
def State.sideCrop (s : State) (y : LayerShot) (side : Side) : Rect :=
  match side with
  | .graphics p => clipCrop y.cfg.crop p.width p.height
  | .video v => (match (s.flow 0 v.flow).cfg with
    | some c => clipCrop y.cfg.crop c.format.width (srcLines c.format)
    | none => y.cfg.crop)
  | _ => y.cfg.crop

/-- The pixel of a side at column dx and line dy of the destination rectangle, through stages 1 to 7. -/
def State.sidePixel (s : State) (rd : Nat → Nat) (x : FrameShot) (y : LayerShot) (side : Side) (dx dy : Int) : SidePx :=
  let crop := s.sideCrop y side
  let cfg := y.cfg
  match side with
  | .clear => none
  | .fill => if bit cfg.fill 31 then none else some (wordColours cfg.fill, 255)
  | .graphics p =>
    let get := fun (k : Nat) (top : Int) => scaled y crop 0 top dx dy (fun c l => (graphicsSample rd p k c l : Nat))
    let m := if cfg.m1Loaded then cfg.m1 else {}
    let r := matrix1 m [get 0 1023, get 1 1023, get 2 1023]
    some (if cfg.bypass then r else transfer (tlutOf x tcsGraphics) cfg.m2 x.eluts r, get 3 255)
  | .video v =>
    match (s.flow 0 v.flow).cfg with
    | none => none
    | some c =>
      let f := c.format
      let get := fun (k : Nat) => scaled y crop (bobOf c (s.slot v.flow v.slot)) 1023 dx dy (fun i l => (videoSample rd c v k i l : Nat))
      let m := if cfg.m1Loaded then cfg.m1 else Config.autoM1 f.colorimetry f.range f.sampling
      let r := matrix1 m [get 0, get 1, get 2]
      some (if cfg.bypass then r else transfer (tlutOf x f.tcs) cfg.m2 x.eluts r, 255)

/-- The mix of a transition at i of N (R151, R656). -/
def mixSides (t : Option Transition) (old new : SidePx) : SidePx :=
  match t with
  | none => new
  | some t =>
    if t.kind = 0 ∨ t.i ≥ t.n then new else
    match old, new with
    | none, none => none
    | _, _ =>
      let colour := fun (a b : SidePx) => match a with | some v => v.1 | none => (match b with | some v => v.1 | none => [0, 0, 0])
      let alpha := fun (a : SidePx) => match a with | some v => v.2 | none => 0
      let co := colour old new
      let cn := colour new old
      if t.kind = 1 then
        let b := rdivUp (256 * (t.i + 1)) t.n
        let mix := fun (o n : Int) => shrI (b * n + (256 - b) * o + 128) 8
        some ([0, 1, 2].map (fun c => mix (co.getD c 0) (cn.getD c 0)), mix (alpha old) (alpha new))
      else if 2 * (t.i + 1) ≤ t.n then
        let g := rdivUp (256 * ((t.n : Int) - 2 * (t.i + 1))) t.n
        some (co.map (fun o => shrI (g * o + 128) 8), alpha old)
      else
        let g := rdivUp (256 * (2 * ((t.i : Int) + 1) - t.n)) t.n
        some (cn.map (fun n => shrI (g * n + 128) 8), alpha new)

/-- One layer over the accumulated colours at a pixel of the raster (R167). -/
def State.layerOver (s : State) (rd : Nat → Nat) (x : FrameShot) (acc : List Int) (y : LayerShot) (px py : Int) : List Int :=
  let d := y.cfg.dest
  let dx := px - d.x
  let dy := py - d.y
  if dx < 0 ∨ dx ≥ d.w ∨ dy < 0 ∨ dy ≥ d.h then acc else
  match mixSides y.trans (s.sidePixel rd x y y.old dx dy) (s.sidePixel rd x y y.new dx dy) with
  | none => acc
  | some (c, a) =>
    let w := min 256 ((y.cfg.g * a + 127) / 254)
    [0, 1, 2].map (fun i => shrI (w * c.getD i 0 + (256 - w) * acc.getD i 0 + 128) 8)

/-- The composed colours of a pixel of a frame (R167). -/
def State.composePixel (s : State) (rd : Nat → Nat) (x : FrameShot) (px py : Int) : List Int :=
  x.layers.foldl (fun acc y => s.layerOver rd x acc y px py) (wordColours x.background)

/-- A composed pixel as a word (R168). -/
def packColours (c : List Int) : Nat := (c.getD 0 0).toNat % 1024 + (c.getD 1 0).toNat % 1024 * 1024 + (c.getD 2 0).toNat % 1024 * 1048576

/-! ## What an item reads -/

/-- The words of the central store that a side reads for a box of destination columns and lines. -/
def State.sideReads (s : State) (y : LayerShot) (side : Side) (cols lines : List Int) : List Nat :=
  let crop := s.sideCrop y side
  let d := y.cfg.dest
  let xs := (cols.flatMap (fun x => scaleTaps 8 crop.x crop.w d.w 0 x)).eraseDups
  let ys := fun (bob : Int) => (lines.flatMap (fun l => scaleTaps 6 crop.y crop.h d.h bob l)).eraseDups
  match side with
  | .graphics p => (ys 0).flatMap (fun l => xs.map (fun x => p.base + l * p.pitch + 4 * x))
  | .video v =>
    match (s.flow 0 v.flow).cfg with
    | none => []
    | some c =>
      let f := c.format
      let ls := ys (bobOf c (s.slot v.flow v.slot))
      v.slots.flatMap (fun z => [0, 1, 2].flatMap (fun k =>
        let (w, h) := planeSize f k
        let near := fun (j hi : Nat) => (List.range 4).map (fun (t : Nat) => clampN (hi - 1) ((j : Int) - 1 + t))
        let cs := if k = 0 ∨ f.sampling ≥ 2 then xs else (xs.flatMap (fun x => near (x / 2) w)).eraseDups
        let rs := if k = 0 ∨ f.sampling ≠ 1 then ls else (ls.flatMap (fun l => near (l / 2) h)).eraseDups
        rs.flatMap (fun l => cs.map (fun x => slotBase c z.2 + planeBase f k + l * pitch w + 4 * (x / 3)))))
  | _ => []

/-- The words that the layers of a frame read for a box of raster columns and lines. -/
def State.shotReads (s : State) (x : FrameShot) (x0 x1 y0 y1 : Nat) : List Nat :=
  x.layers.flatMap (fun y =>
    let d := y.cfg.dest
    let cols := ((List.range (x1 - x0)).map (fun i => ((x0 + i : Nat) : Int) - d.x)).filter (fun (i : Int) => decide (0 ≤ i ∧ i < d.w))
    let lines := ((List.range (y1 - y0)).map (fun i => ((y0 + i : Nat) : Int) - d.y)).filter (fun (i : Int) => decide (0 ≤ i ∧ i < d.h))
    if cols.isEmpty || lines.isEmpty then [] else
    s.sideReads y y.new cols lines ++ (if y.trans.isSome then s.sideReads y y.old cols lines else []))

/-- The check bits of a list of words of the central store are tested (R534, R536): the uncorrectable words, and the state after the
reports. -/
def State.checkReads (s : State) (reads : List Nat) : List Nat × State :=
  if s.mem.storeErr.isEmpty then ([], s) else
  let hit := (s.mem.storeErr.map (fun p => p.1)).filter (fun w => reads.contains (4 * w))
  hit.foldl (fun acc w => let (b, s) := acc.2.checkWord 0 w; (if b then acc.1 ++ [4 * w] else acc.1, s)) ([], s)

/-- A free value for each word whose content is undefined (R220). -/
def State.drawWords (s : State) (ws : List Nat) : List (Nat × Nat) × State :=
  ws.foldl (fun acc w => let (v, s) := acc.2.drawNat; (acc.1 ++ [(w, v % 2 ^ 32)], s)) ([], s)

/-- Reads a word of the central store, with the words of undefined content replaced. -/
def State.wordReader (s : State) (odd : List (Nat × Nat)) (a : Nat) : Nat :=
  match odd.find? (fun x => x.1 == a) with
  | some x => x.2
  | none => leNat (readBytes s.mem.store a 4)

end Sys2Proof.Machine
end

