-- ==== Sys2Proof/Machine/Compose.lean ====
section
/-! DEFINITION. Composition: the start of a frame of a head or output (R143 to R157, R169 to R175, R195 to R200), the C- and T-items
(R163 to R168, R177, R202, R220), the hold time of a loss (R156), the end of a lease (R173). -/

namespace Sys2Proof.Machine

/-! ## Planned times -/

/-- The time of a line of head frame k before it latches, counted back across frames where y is negative (R199, R307). -/
def State.planLine (s : State) (n k : Nat) (y : Int) : Int :=
  let h := s.head n
  match h.latchedOf k with
  | some l => h.lineTime l y
  | none =>
    match s.clockOf n k h.bandNow with
    | none => 0
    | some c =>
      if y ≥ 0 ∨ k ≤ h.scan.firstFrame then c.at_ y else
      match s.clockOf n (k - 1) h.bandNow with
      | none => c.at_ y
      | some p => p.at_ (p.whole (c.at_ 0) + y)

/-- rel_P(k, q) as a composition start foresees it; it is due_C of the row (R199). -/
def State.relPlan (s : State) (n k q : Nat) : Int := s.planLine n k (8 * q - 56)

/-- DUE of a descriptor entry (R193): TP in ns over 16, mod 2^32. -/
def dueField (t : Int) : Nat := (t / 1048576 % 4294967296).toNat

/-- Whether this device and its partner keep the lockstep of R452 to R461. -/
def State.paired (s : State) : Bool := s.pairActive || s.standby

/-- The deadline of the P-items of a tile row (R199): 2 µs before due_P in a pair (R459). -/
def State.deadP (s : State) (n k q : Nat) : Int :=
  let h := s.head n
  let due := match h.latchedOf k, s.clockOf n k h.bandNow with
    | some l, _ => Head.dueP l q
    | none, some c => c.at_ (8 * q - 1)
    | none, none => 0
  due - (if s.paired then usU 2 else 0)

/-! ## Selection of a layer -/

/-- Counts LATE_SOURCE and BLEND_SINGLE (R147, R157). -/
def DestState.counted (x : DestState) (late single : Bool) : DestState :=
  { x with lateSource := add64 x.lateSource (b2n late), blendSingle := add64 x.blendSingle (b2n single) }

/-- The slot of a flow with exactly a FRAME_TIME, COMPLETE (R457). -/
def RxFlow.exact (f : RxFlow) (t : Nat) : Option (Nat × Slot) := f.frames_.find? (fun x => x.2.state == 2 && x.2.frameTime == t)

/-- All-ones in place of a FRAME_TIME. -/
abbrev noFrameTime : Nat := 2 ^ 96 - 1

/-- The selection that a SELECT of the active names for a layer, where its slots are COMPLETE here (R457). -/
def State.selectNamed (s : State) (flow : Nat) (limit : Int) (name : Nat × Nat) : Option Selected :=
  let f := s.flow 0 flow
  match f.exact name.1 with
  | none => none
  | some (a, sa) =>
    if name.2 = noFrameTime then some { flow := flow, slot := a, time := sa.frameTime } else
    match f.exact name.2, f.cfg with
    | some (b, sb), some c =>
      let t : Int := limit - periodNear c.format.rate
      some { flow := flow, slot := a, time := sa.frameTime, partner := some b,
             weight := (rdivUp (64 * (t - sa.frameTime)) ((sb.frameTime : Int) - sa.frameTime)).toNat }
    | _, _ => none

/-- What a video route selects for frame k: by the active's SELECT on a standby, else by R146 and R157. Answers the selection, whether
BLEND_SINGLE counts, and whether SELECT_MISS counts. -/
def State.pick (s : State) (d : Dest) (flow : Nat) (limit : Int) (k : Nat) : Option Selected × Bool × Bool :=
  let (own, single) := s.selectFrame flow limit (s.destBlend d)
  let named := match s.standby, s.sync.selects with
    | true, some (f, names) => if f = k % 2 ^ 32 ∧ d.kind = 0 then some (names.getD (d.index % 16) (noFrameTime, noFrameTime)) else none
    | _, _ => none
  match named with
  | none => (own, single, s.standby && d.kind == 0)
  | some name =>
    if name.1 = noFrameTime then (none, false, false)
    else match s.selectNamed flow limit name with
      | some x => (some x, false, false)
      | none => (own, single, true)

/-- What a route of a destination shows in frame k, from its selection or from what it showed before (R146, R148, R156). -/
def sideOf (sel shown : Option Selected) (lossEnd : Bool) : Side :=
  if lossEnd then .fill else
  match sel with
  | some x => .video x
  | none => match shown with
    | some x => .video x
    | none => .fill

/-- Whether two selections show the same frames. -/
def sameFrame (a b : Option Selected) : Bool :=
  match a, b with
  | some x, some y => x.slot == y.slot && x.time == y.time && x.partner == y.partner
  | none, none => true
  | _, _ => false

/-- The side that a route gives: fills where a layer has no picture; `clear` stands for NONE of a head layer, while an output shows its
fill (R140). -/
def State.routeSide (s : State) (d : Dest) (r : Route) (sel shown : Option Selected) (lossEnd : Bool) : Side :=
  match r.kind with
  | 0 => if d.kind = 0 then .clear else .fill
  | 1 => sideOf sel shown lossEnd
  | _ => match (s.layer r.source).present with
    | some x => .graphics x.p
    | none => .fill

/-- The settings by which a transmit output converts its source: one opaque layer over its whole raster (R176, R177). -/
def outputLayer (c : OutputSetP) : LayerCfg :=
  { enable := true, crop := c.crop, dest := { x := 0, y := 0, w := c.width, h := c.height }, g := 255, fill := c.fill, blend := n2b c.blend,
    lossFill := c.lossAction == 1, hold := c.hold, bypass := n2b c.bypass, m1Loaded := c.m1Mode == 1, m1 := c.m1, m2 := c.m2 }

/-- Whether a side cannot be shown: its clipped crop is empty or its ratio outside 1/8 to 8 (R165, R655). -/
def State.sideBad (s : State) (y : LayerShot) (side : Side) : Bool :=
  match side with
  | .clear => false
  | .fill => false
  | _ => let c := s.sideCrop y side
         !ratioOk c.w c.h y.cfg.dest.w y.cfg.dest.h

/-- Marks a fault of a side and posts LAYER_FAULT once for each present, or for each run of frames of a video source, that causes it. -/
def State.layerFault (s : State) (d : Dest) (k : Nat) (r : Route) : State :=
  let f := leBytes 4 k
  if r.kind = 2 then
    let l := s.layer r.source
    match l.present with
    | some p => if p.faulted then s else (s.setLayer r.source { l with present := some { p with faulted := true } }).post 0xE022 (destCode d) 0 f
    | none => s
  else
    let x := s.dest d
    if x.faulted then s else (s.setDest d { x with faulted := true }).post 0xE022 (destCode d) 0 f

/-- The step of a transition past a composed frame. -/
def nextTrans (t : Option Transition) : Option Transition :=
  match t with
  | none => none
  | some t => if t.i + 1 ≥ t.n then none else some { t with i := t.i + 1 }

/-- Frame k of one destination's layer: its selection is made, counted and recorded, and its shot answered (R146 to R157, R165, R655). -/
def State.layerFrame (s : State) (d : Dest) (cfg : LayerCfg) (k : Nat) : LayerShot × State :=
  let x := s.dest d
  let limit := (s.destLimit d k).getD 0
  let one := fun (s : State) (r : Route) =>
    if r.kind = 1 then
      let (sel, single, miss) := s.pick d r.source limit k
      let late := s.lateSource r.source limit sel
      let s := s.setDest d ((s.dest d).counted late single)
      (sel, if miss then { s with sync := { s.sync with selectMiss := add64 s.sync.selectMiss 1 } } else s)
    else (none, s)
  let (sel, s) := one s x.route
  let (oldSel, s) := match x.trans with
    | some t => one s t.old
    | none => (none, s)
  let lossEnd := x.lossEnd && (sel.isNone || sameFrame sel x.shown)
  let new := s.routeSide d x.route sel x.shown lossEnd
  let old := match x.trans with
    | some t => s.routeSide d t.old oldSel x.oldShown false
    | none => .fill
  let shot : LayerShot := { layer := d.index % 16, cfg := cfg, new := new, old := old, trans := x.trans, coefH := x.coefH, coefV := x.coefV }
  let badNew := s.sideBad shot new
  let badOld := x.trans.isSome && s.sideBad shot old
  let y := s.dest d
  let s := s.setDest d { y with
    shown := if sel.isSome then sel else y.shown, oldShown := if oldSel.isSome then oldSel else y.oldShown, lossEnd := lossEnd,
    trans := nextTrans y.trans, faulted := y.faulted && (x.route.kind != 1 || badNew) }
  let s := if badNew then s.layerFault d k x.route else s
  let s := match x.trans with
    | some t => if badOld && t.old != x.route then s.layerFault d k t.old else s
    | none => s
  ({ shot with new := if badNew then .fill else new, old := if badOld then .fill else old }, s)

/-- The slots that a layer of a frame reads. -/
def LayerShot.reads (y : LayerShot) : List (Nat × Nat) :=
  (match y.new with | .video v => v.slots | _ => []) ++ (if y.trans.isSome then (match y.old with | .video v => v.slots | _ => []) else [])

/-- The presents that a layer of a frame shows. -/
def LayerShot.presents (y : LayerShot) : List PresentP :=
  y.new.present?.toList ++ (if y.trans.isSome then y.old.present?.toList else [])

/-! ## Descriptors (R195, R196) -/

/-- The LAYERS mask of a tile: the layers of a frame that cover at least one of its pixels inside the raster (R193). -/
def layersOver (h : Head) (x : FrameShot) (tx ty : Nat) : Nat :=
  x.layers.foldl (fun m y =>
    let d := y.cfg.dest
    let x0 : Int := (16 * tx : Nat)
    let y0 : Int := (8 * ty : Nat)
    let x1 : Int := (min (16 * tx + 16) h.w : Nat)
    let y1 : Int := (min (8 * ty + 8) h.hh : Nat)
    if max x0 d.x < min x1 (d.x + d.w) ∧ max y0 d.y < min y1 (d.y + d.h) then m + 2 ^ y.layer else m) 0

/-- Enters a descriptor into a tile's ring (R196): the tile, whether a frame was replaced, whether ORDER_LOST counts. -/
def Tile.enter (t : Tile) (e : TileEntry) : Tile × Bool × Bool :=
  let n := t.entries.length
  let started := fun (i : Nat) => i == 0 && t.running
  match t.entries.getLast? with
  | some l =>
    if !started (n - 1) && !l.ordered && !e.ordered then
      ({ t with entries := t.entries.dropLast ++ [e], miss := satInc 65535 t.miss }, true, false)
    else if n < 4 then ({ t with entries := t.entries ++ [e] }, false, false)
    else
      let m : TileEntry := { e with layers := Nat.lor l.layers e.layers, ordered := l.ordered || e.ordered, coalesced := true }
      ({ t with entries := t.entries.dropLast ++ [m], coalesce := satInc 65535 t.coalesce }, false, l.ordered)
  | none => ({ t with entries := [e] }, false, false)

/-- Whether a check at the composed tap is armed for a frame (R195, R342). -/
def Head.checkArmed (h : Head) (k view : Nat) : Bool :=
  h.checks.any (fun c => match c.2.cfg with
    | some p => p.enable == 1 && p.tap == 0 && k % 2 ^ p.e == 0 && (p.view == 255 || !h.inViews || p.view == view)
    | none => false)

/-- Posts the descriptors of a frame to every tile of its head (R195, R196). -/
def State.postTiles (s : State) (n : Nat) (x : FrameShot) (ordered : Bool) : State :=
  let h := s.head n
  let ord := ordered || h.checkArmed x.frame x.view || (h.inViews && decide (h.nViews ≥ 2))
  (List.range h.th).foldl (fun s ty =>
    let due := dueField (s.relPlan n x.frame ty)
    (List.range h.tw).foldl (fun s tx =>
      let i := h.tileAt tx ty
      let e : TileEntry := { frame := x.frame % 2 ^ 32, layers := layersOver h x tx ty, ordered := ord, view := x.view, due := due }
      let (t, gone, lost) := (s.tile i).enter e
      (s.setTile i t).modHead n (fun h => { h with counts := { h.counts with
        abandonedC := add64 h.counts.abandonedC (b2n gone), orderLost := add64 h.counts.orderLost (b2n lost) } })) s) s

/-! ## The composition start of a head -/

/-- Records that frame k uses the leases of the presents of its layers (R173). -/
def State.useLeases (s : State) (n k : Nat) (ids : List Nat) : State :=
  { s with leases := s.leases.map (fun l => if l.2.head = n ∧ ids.contains l.1 = true then (l.1, { l.2 with lastFrame := k % 2 ^ 32 }) else l) }

/-- The leases of the presents that some layers show. -/
def State.leasesOf (s : State) (ys : List LayerShot) : List Nat := (ys.flatMap (fun y => y.presents.filterMap (fun p => s.leaseOf p))).eraseDups

/-- Whether a present flagged ORDERED is shown for the first time by some layers (R195). -/
def State.firstOrdered (s : State) (n : Nat) (ys : List LayerShot) : Bool :=
  (List.range 16).any (fun m => match (s.layer (16 * n + m)).present with
    | some x => x.p.ordered == 1 && !x.used && ys.any (fun y => y.presents.contains x.p)
    | none => false)

/-- Marks the presents that some layers show as used. -/
def State.markPresents (s : State) (n : Nat) (ys : List LayerShot) : State :=
  (List.range 16).foldl (fun s m =>
    let l := s.layer (16 * n + m)
    match l.present with
    | some x => if !x.used && ys.any (fun y => y.presents.contains x.p) then s.setLayer (16 * n + m) { l with present := some { x with used := true } } else s
    | none => s) s

/-- The SELECT message of the active (R447, R457): the frame times that each layer's route selected. -/
def State.selectBytes (s : State) (k : Nat) (shots : List (Nat × LayerShot)) : List Byte :=
  leBytes 4 k ++ (List.range 16).flatMap (fun m =>
    match shots.find? (fun x => x.1 == m) with
    | some (_, y) => (match y.new with
      | .video v => timeBytes v.time ++ (match v.partner with | some b => timeBytes (s.slot v.flow b).frameTime | none => noTime)
      | _ => noTime ++ noTime)
    | none => noTime ++ noTime)

/-- The waiting C-items of frames whose entries have been replaced are gone (R196). -/
def State.pruneC (s : State) (n : Nat) : State :=
  let h := s.head n
  s.removeItems (fun x => x.kind == .c && x.owner == n &&
    !(h.runIndices x.row x.run).all (fun i => (s.tile i).entries.any (fun e => e.frame == x.frame % 2 ^ 32)))

/-- Frame k of a head is composed: every layer selects (R146), slots and leases are held (R149, R173), and one descriptor per tile and
subframe is posted (R195, R336). -/
def State.composeFrame (s : State) (n k : Nat) : State :=
  let h := s.head n
  let v := h.nViews
  let (shots, s) := (List.range 16).foldl (fun (acc : List (Nat × LayerShot) × State) m =>
    let (y, s) := acc.2.layerFrame { kind := 0, index := 16 * n + m } (acc.2.layer (16 * n + m)).cfg k
    (acc.1 ++ [(m, y)], s)) ([], s)
  let s := if s.pairActive then s.sendMsg 0x09 (s.selectBytes k shots) else s
  let on := sortBy (fun (a b : Nat × LayerShot) => decide (layerZ a.1 a.2.cfg ≤ layerZ b.1 b.2.cfg)) (shots.filter (fun x => x.2.cfg.enable))
  let s := (List.range v).foldl (fun s i =>
    let ys := (on.filter (fun x => !h.inViews || bit x.2.cfg.views i)).map (fun x => x.2)
    let ids := s.leasesOf ys
    let held := ys.flatMap (fun y => y.reads)
    let p := (s.head n).picture
    let shot : FrameShot := { frame := k + i, view := i, layers := ys, background := p.background, tluts := p.tluts, eluts := p.eluts,
                              peak := p.peak, held := held, leases := ids }
    let ordered := s.firstOrdered n ys
    let s := (s.holdSlots held).useLeases n (k + i) ids
    let s := s.modHead n (fun h => { h with shots := h.shots ++ [shot] })
    s.postTiles n shot ordered) s
  ((s.markPresents n (on.map (fun x => x.2))).pruneC n).retire n

/-- Whether a head composes now (R316, R328, R653): it scans and is not in self-refresh; a stopping head still composes its completion
frame where that has not started. -/
def Head.composes (h : Head) : Bool :=
  h.state == 2 || h.state == 3 || (h.state == 5 && (match h.scan.stopFrame with | some kb => decide (h.scan.nextCompose < kb) | none => false))

/-- The destinations of a head with a deferred change. -/
def State.deferredOf (s : State) (n : Nat) : List Dest :=
  ((List.range 16).map (fun m => ({ kind := 0, index := 16 * n + m } : Dest))).filter (fun d => (s.dest d).deferred.isSome)

/-- The composition start of a head's next frame or cycle: deferred changes retry (R153), entries take effect (R75, R169), and the frame
is composed unless the head is in self-refresh (R328). -/
def State.composeHead (s : State) (n : Nat) : State :=
  let h := s.head n
  let k := h.scan.nextCompose
  if !(h.composes || h.state == 4) || h.scan.nextCfg.isSome || (h.epochOf k).isNone then s else
  let s := if h.composes then (s.deferredOf n).foldl (fun s d => s.routeRetry d k) s else s
  let s := s.applyHead n k
  let h := s.head n
  if !(h.composes || h.state == 4) then s else
  let s := if h.composes then s.composeFrame n k else s
  let s := { s with sync := { s.sync with selects := none, selectWaited := false } }
  s.modHead n (fun h => { h with scan := { h.scan with nextCompose := k + h.nViews } })

/-! ## The composition start of an output -/

/-- Bands of 8 lines and runs of 2,048 pixels of a transmit frame (R199). -/
def outputItems (c : OutputSetP) : Nat × Nat := (ceilDiv c.height 8, ceilDiv c.width 2048)

/-- A slot of an output that neither holds its newest complete frame nor is being composed, in rotation. -/
def Output.freeSlot (o : Output) (count : Nat) : Nat :=
  let busy := fun (j : Nat) => o.itemsLeft.any (fun x => x.2.1 == j) || (match o.done.getLast? with | some x => x.2 == j | none => false)
  (((List.range count).map (fun i => (o.slotNext + i) % count)).find? (fun j => !busy j)).getD o.slotNext

/-- The composition start of a transmit output's next frame (R144, R146, R150, R177). -/
def State.composeOutput (s : State) (n : Nat) : State :=
  let k := (s.output n).frame
  if (s.output n).cfg.isNone then s else
  let d : Dest := { kind := 1, index := n }
  let s := s.routeRetry d k
  let s := s.applyOutput n k
  let o := s.output n
  match o.cfg with
  | none => s
  | some c =>
    if o.frame ≠ k then s else
    let (y, s) := s.layerFrame d (outputLayer c) k
    let s := s.holdSlots y.reads
    let shot : FrameShot := { frame := k, layers := [y], background := 0, tluts := o.tluts, eluts := o.eluts, held := y.reads }
    let o := s.output n
    let slot := o.freeSlot c.slotCount
    let (b, r) := outputItems c
    let s := s.setOutput n { o with frame := k + 1, slotNext := (slot + 1) % c.slotCount, itemsLeft := o.itemsLeft ++ [(k, slot, b * r)] }
    { s with outShots := spSet [] s.outShots n (spGet s.outShots [] n ++ [shot]) }

/-- Whether a standby has not yet the SELECT of the frame that a head composes next (R457). -/
def State.selectHeld (s : State) (n : Nat) : Bool :=
  let h := s.head n
  s.standby && s.pair.linkUp && h.composes &&
    (match s.sync.selects with | some x => x.1 != h.scan.nextCompose % 2 ^ 32 | none => true)

/-- COMPOSITION_START (R146): of the head of a head layer, or of a transmit output. A standby holds the composition until SELECT has
arrived (R457). -/
def execCompositionStart (dest : Dest) (s : State) : Host.Outcome State Fault Refusal :=
  let n := destHead dest
  .next (
    if !destOk dest then s
    else if dest.kind = 1 then s.composeOutput dest.index
    else if s.selectHeld n then { s with sync := { s.sync with selectWaited := true } }
    else s.composeHead n)

/-- LOSS_HOLD_END (R156): the hold time of a FILL loss action ends while the source is still lost. -/
def execLossHoldEnd (dest : Dest) (s : State) : Host.Outcome State Fault Refusal :=
  let x := s.dest dest
  .next (if destOk dest && s.destLossFill dest && x.route.kind == 1 && (s.flow 0 x.route.source).lost then s.setDest dest { x with lossEnd := true } else s)

/-! ## C-items -/

/-- The composed frame buffer of head frame k at a tile index of the head (R143, R336, R186), as its latch point found it. -/
def State.composedAt (s : State) (n k ti : Nat) : Nat :=
  let h := s.head n
  match h.cfg with
  | none => 0
  | some c =>
    let (base, count) := match h.latchedOf k with
      | some l => if l.bufCount = 0 then (c.composedBase, h.nViews * composedCount c) else (l.bufBase, l.bufCount)
      | none => (c.composedBase, h.nViews * composedCount c)
    base + k % count * (512 * (h.tw * h.th)) + 512 * ti

/-- The shot of a head frame. -/
def Head.shotOf (h : Head) (k : Nat) : Option FrameShot := h.shots.find? (fun x => x.frame == k)

/-- The layers of a frame that an item's LAYERS mask names. -/
def FrameShot.masked (x : FrameShot) (mask : Nat) : FrameShot := { x with layers := x.layers.filter (fun y => bit mask y.layer) }

/-- Composes a run of a head frame into its composed frame buffer (R163 to R168). -/
def State.composeRun (s : State) (n : Nat) (x : FrameShot) (q j : Nat) : Bool × State :=
  let h := s.head n
  let (x0, x1, y0, y1) := h.runBox q j
  let (bad, s) := s.checkReads (s.shotReads x x0 x1 y0 y1)
  let (odd, s) := s.drawWords bad
  let rd := s.wordReader odd
  let words := (List.range (y1 - y0)).flatMap (fun l => (List.range (x1 - x0)).map (fun i =>
    let px := x0 + i
    (s.composedAt n x.frame (q * h.tw + px / 16) + 4 * (16 * l + px % 16), packColours (s.composePixel rd x (px : Nat) ((y0 + l : Nat) : Int)))))
  (!bad.isEmpty, s.putRows 0 (words.map (fun w => (w.1, leBytes 4 w.2))))

/-- The item kind of ENGINE_DATA_ERROR: 0 C, 1 P, 2 T (DESIGN CHOICE, log entry 33). -/
def kindCode (k : ItemKind) : Nat := match k with | .c => 0 | .p => 1 | .t => 2

/-- ENGINE_DATA_ERROR (R220): item kind, frame, tile index of the run's first tile or the item's number in an output frame. -/
def State.dataError (s : State) (k : ItemKey) (tile : Nat) : State :=
  s.post 0xE031 k.owner 0 (leBytes 1 (kindCode k.kind) ++ leBytes 4 k.frame ++ leBytes 4 tile)

/-- C_ITEM_COMPLETE (R202, R219, R220): the composed words are stored, LAST_COMPOSED set, the entries removed. -/
def execCItemComplete (key : ItemKey) (s : State) : Host.Outcome State Fault Refusal :=
  let h := s.head key.owner
  .next (
    if key.kind != .c || !s.runningItem key then s else
    let mask := ((List.range 8).flatMap (fun c => ((s.cluster c).running.filter (fun i => i.key == key)).map (fun i => i.layers))).headD 0xFFFF
    let (err, s) := match h.shotOf key.frame with
      | some x => s.composeRun key.owner (x.masked mask) key.row key.run
      | none => (false, s)
    let s := if err then s.dataError key ((h.runIndices key.row key.run).headD 0) else s
    let late := decide ((s.tp : Int) > s.relPlan key.owner key.frame key.row)
    let s := (h.runIndices key.row key.run).foldl (fun s i =>
      let t := s.tile i
      s.setTile i { (if t.running then t.pop else t) with lastComposed := key.frame % 2 ^ 32 }) s
    let s := { (s.freeEngine key) with tq := { (s.freeEngine key).tq with doneC := s.tq.doneC ++ [key] } }
    (s.modHead key.owner (fun h => { h with counts := { h.counts with lateC := add64 h.counts.lateC (b2n late) } })).retire key.owner)

/-! ## T-items -/

/-- Writes one sample of a plane into its packed word (R109), leaving the word's other samples. -/
def State.putSample (s : State) (base pitch x y v : Nat) : State :=
  let a := base + y * pitch + 4 * (x / 3)
  let w := leNat (readBytes s.mem.store a 4)
  s.putMem 0 a (leBytes 4 (setBits w (10 * (x % 3) + 9) (10 * (x % 3)) v))

/-- The output colours of a pixel after M3 (R177), edges repeated. -/
def State.outputPixel (s : State) (rd : Nat → Nat) (c : OutputSetP) (x : FrameShot) (px py : Int) : List Int :=
  matrix1 c.m3 (s.composePixel rd x (clampI 0 (c.width - 1) px) (clampI 0 (c.height - 1) py))

/-- Component k of an output at plane column i and line l (R177): chroma horizontally by 1, 2, 1 over 4, vertically by line pairs. -/
def State.outputSample (s : State) (rd : Nat → Nat) (c : OutputSetP) (x : FrameShot) (k i l : Nat) : Nat :=
  let f := c.format
  let get := fun (px py : Int) => (s.outputPixel rd c x px py).getD k 0
  let across := fun (py : Int) =>
    let m : Int := (2 * i : Nat)
    shrI (get (m - 1) py + 2 * get m py + get (m + 1) py + 2) 2
  let v : Int :=
    if k = 0 ∨ f.sampling ≥ 2 then get (i : Nat) (l : Nat)
    else if f.sampling = 0 then across (l : Nat)
    else shrI (across ((2 * l : Nat) : Int) + across ((2 * l + 1 : Nat) : Int) + 1) 1
  if f.depth = 8 then 4 * (clampI 0 255 (shrI (v + 2) 2)).toNat else v.toNat

/-- Composes a transmit run into its transmit-frame slot (R109, R177). -/
def State.composeTx (s : State) (c : OutputSetP) (x : FrameShot) (slot band run : Nat) : Bool × State :=
  let f := { c.format with width := c.width, height := c.height, rate := c.rate, scanning := 0 }
  let x0 := 2048 * run
  let x1 := min (x0 + 2048) c.width
  let y0 := 8 * band
  let y1 := min (y0 + 8) c.height
  let wide := if f.sampling ≤ 1 then 1 else 0
  let (bad, s) := s.checkReads (s.shotReads x (x0 - wide) (min (x1 + wide) c.width) y0 y1)
  let (odd, s) := s.drawWords bad
  let rd := s.wordReader odd
  let put := [0, 1, 2].flatMap (fun k =>
    let dx := if k = 0 ∨ f.sampling ≥ 2 then 1 else 2
    let dy := if k ≠ 0 ∧ f.sampling = 1 then 2 else 1
    let base := c.bases.getD slot 0 + planeBase f k
    (List.range ((y1 - y0) / dy)).flatMap (fun l => (List.range ((x1 - x0) / dx)).map (fun i =>
      (base, pitch (planeSize f k).1, x0 / dx + i, y0 / dy + l, s.outputSample rd c x k (x0 / dx + i) (y0 / dy + l)))))
  (!bad.isEmpty, put.foldl (fun s p => s.putSample p.1 p.2.1 p.2.2.1 p.2.2.2.1 p.2.2.2.2) s)

/-- Ends a frame of an output in composition: its source slots are released (R149) and its shot forgotten. -/
def State.endOutShot (s : State) (n k : Nat) : State :=
  let shots := spGet s.outShots [] n
  let s := (shots.filter (fun x => x.frame == k)).foldl (fun s x => s.releaseHeld x.held) s
  { s with outShots := spSet [] s.outShots n (shots.filter (fun x => x.frame != k)) }

/-- T_ITEM_COMPLETE (R177, R220): the last item of a transmit frame completes its slot. -/
def execTItemComplete (key : ItemKey) (s : State) : Host.Outcome State Fault Refusal :=
  let o := s.output key.owner
  .next (
    if key.kind != .t || !s.runningItem key then s else
    let s := s.freeEngine key
    match o.cfg, o.itemsLeft.find? (fun x => x.1 == key.frame), (spGet s.outShots [] key.owner).find? (fun x => x.frame == key.frame) with
    | some c, some (_, slot, left), some x =>
      let (err, s) := s.composeTx c x slot key.row key.run
      let s := if err then s.dataError key (key.row * (outputItems c).2 + key.run) else s
      let s := { s with tq := { s.tq with doneC := s.tq.doneC ++ [key] } }
      if left > 1 then
        s.setOutput key.owner { o with itemsLeft := o.itemsLeft.map (fun y => if y.1 = key.frame then (y.1, y.2.1, left - 1) else y) }
      else
        let done := o.done ++ [(key.frame, slot)]
        let s := s.setOutput key.owner { o with
          itemsLeft := o.itemsLeft.filter (fun y => y.1 != key.frame), done := done.drop (done.length - 4) }
        let s := { s with tq := { s.tq with doneC := s.tq.doneC.filter (fun y => !(y.kind == ItemKind.t && y.owner == key.owner && y.frame == key.frame)) } }
        s.endOutShot key.owner key.frame
    | _, _, _ => s)

/-- LEASE_RELEASED (R173): the last head frame that used a superseded buffer has finished scan-out. -/
def execLeaseReleased (lease : Nat) (s : State) : Host.Outcome State Fault Refusal :=
  .next (match s.leases.find? (fun x => x.1 == lease) with
    | some (_, l) => if l.ending && s.leaseScanned l then s.freeLease lease l.lastFrame else s
    | none => s)

end Sys2Proof.Machine
end

