-- ==== Sys2Proof/Machine/Tiles.lean ====
section
/-! DEFINITION. Work items on clusters: release (R199 to R203), the latest start of a P-item (R201), engines (R208), stealing (R209 to R212),
skipped rows (R217). -/

namespace Sys2Proof.Machine

/-! ## Costs (R205) -/

/-- Cycles per pixel that a layer costs where it covers one. -/
def State.layerCycles (s : State) (y : LayerShot) : Nat :=
  let c := s.sideCrop y y.new
  let d := y.cfg.dest
  match y.new with
  | .clear => 1
  | .fill => 1
  | side =>
    let scaledBy := decide (c.w ≠ d.w ∨ c.h ≠ d.h)
    let below := decide (2 * d.w < c.w ∨ 2 * d.h < c.h)
    let blend := match side with
      | .video v => y.cfg.blend && (match (s.flow 0 v.flow).cfg with | some f => f.format.scanning != 1 | none => false)
      | _ => false
    1 + b2n scaledBy + b2n below + b2n blend

/-- The pixels of a box that a rectangle covers. -/
def boxArea (d : Rect) (x0 x1 y0 y1 : Nat) : Nat :=
  (min (x1 : Int) (d.x + d.w) - max (x0 : Int) d.x).toNat * (min (y1 : Int) (d.y + d.h) - max (y0 : Int) d.y).toNat

/-- The pixels of a box that no layer covers. -/
def uncovered (ys : List LayerShot) (x0 x1 y0 y1 : Nat) : Nat :=
  (List.range (y1 - y0)).foldl (fun a l => a + (List.range (x1 - x0)).countP (fun i =>
    ys.all (fun y => boxArea y.cfg.dest (x0 + i) (x0 + i + 1) (y0 + l) (y0 + l + 1) == 0))) 0

/-- The cost of composing a box of a frame, with `extra` cycles per pixel. -/
def State.boxCost (s : State) (ys : List LayerShot) (x0 x1 y0 y1 extra : Nat) : Nat :=
  ys.foldl (fun a y => a + s.layerCycles y * boxArea y.cfg.dest x0 x1 y0 y1) 0 + uncovered ys x0 x1 y0 y1 + extra * ((x1 - x0) * (y1 - y0)) + 128

/-! ## Release -/

/-- Whether a P-item's pixels come from composition: only those of a picture frame that is composed (R225, R328). -/
def Head.composedPicture (h : Head) (k : Nat) : Bool :=
  (match h.latchedOf k with | some l => l.kind == 0 | none => false) && ((h.shotOf k).isSome || (h.composes && decide (h.scan.nextCompose ≤ k)))

/-- Whether the run's P-item of the frame before k is finished or abandoned, or does not exist (R199). -/
def State.prevDone (s : State) (key : ItemKey) : Bool :=
  let h := s.head key.owner
  if key.frame > h.scan.nextLatch then false
  else if (h.latchedOf (key.frame - 1)).isNone then true
  else s.pDone { key with frame := key.frame - 1 }

/-- Whether every tile of a run holds its oldest entry for a frame, not yet running (R200). -/
def State.runHolds (s : State) (key : ItemKey) : Bool :=
  ((s.head key.owner).runIndices key.row key.run).all (fun i => let t := s.tile i
    !t.running && (match t.entries with | e :: _ => e.frame == key.frame % 2 ^ 32 | [] => false))

/-- The C-item of a run (R200, R205). -/
def State.itemC (s : State) (key : ItemKey) : Item :=
  let h := s.head key.owner
  let mask := (h.runIndices key.row key.run).foldl (fun m i => Nat.lor m (match (s.tile i).entries with | e :: _ => e.layers | [] => 0)) 0
  let (x0, x1, y0, y1) := h.runBox key.row key.run
  let ys := match h.shotOf key.frame with | some x => (x.masked mask).layers | none => []
  { key := key, cost := s.boxCost ys x0 x1 y0 y1 0, due := (s.relPlan key.owner key.frame key.row).toNat, layers := mask }

/-- The P-item of a run. -/
def State.itemP (s : State) (key : ItemKey) : Item :=
  { key := key, cost := (s.head key.owner).costP key.row key.run, due := (s.deadP key.owner key.frame key.row).toNat }

/-- The deadline of an output's T-items: E_k + TRO (R199, R134). -/
def State.dueT (s : State) (n k : Nat) : Nat :=
  let o := s.output n
  let tro := match (s.tx 3 n).cfg with | some c => nsU c.tro | none => 0
  (o.epochOf k).getD 0 + tro

/-- The T-item of a transmit run. -/
def State.itemT (s : State) (key : ItemKey) : Item :=
  let o := s.output key.owner
  let (w, h) := match o.cfg with | some c => (c.width, c.height) | none => (0, 0)
  let ys := match (spGet s.outShots [] key.owner).find? (fun x => x.frame == key.frame) with | some x => x.layers | none => []
  { key := key, due := s.dueT key.owner key.frame,
    cost := s.boxCost ys (2048 * key.run) (min (2048 * key.run + 2048) w) (8 * key.row) (min (8 * key.row + 8) h) 1 }

/-- Whether an item is neither placed, running nor over. -/
def State.fresh (s : State) (k : ItemKey) : Bool := !s.waiting k && !s.runningItem k && !s.tq.doneC.contains k && !s.tq.doneP.contains k && !s.tq.dead.contains k

/-- Whether a P-item belongs to a latched frame's row that is still to be settled. -/
def State.pendingP (s : State) (key : ItemKey) : Bool :=
  let h := s.head key.owner
  h.scans && (h.latchedOf key.frame).isSome && decide (key.row < h.th ∧ key.run < h.runs) && !h.settled key.frame key.row && s.fresh key

/-- ITEM_RELEASE (R199, R203). -/
def execItemRelease (key : ItemKey) (s : State) : Host.Outcome State Fault Refusal :=
  let h := s.head key.owner
  .next (match key.kind with
  | .c =>
    if h.scans && (h.shotOf key.frame).isSome && decide (key.row < h.th ∧ key.run < h.runs) && s.fresh key && s.runHolds key && s.prevDone key &&
      !s.pDone { key with kind := .p } then s.placeItem (s.itemC key)
    else s
  | .p =>
    if s.pendingP key && (!h.composedPicture key.frame || s.cDone { key with kind := .c }) then s.placeItem (s.itemP key) else s
  | .t =>
    let o := s.output key.owner
    let (b, r) := match o.cfg with | some c => outputItems c | none => (0, 0)
    if o.itemsLeft.any (fun x => x.1 == key.frame) && decide (key.row < b ∧ key.run < r) && s.fresh key then s.placeItem (s.itemT key) else s)

/-- P_ITEM_LATEST_START (R201): at lat_P a C-item that has not started is abandoned and the P-item is ready; one that runs takes the
P-item with it. -/
def execPItemLatestStart (key : ItemKey) (s : State) : Host.Outcome State Fault Refusal :=
  let c : ItemKey := { key with kind := .c }
  .next (
    if key.kind != .p || !s.pendingP key then s
    else if s.runningItem c then s.abandonP key 2
    else
      let s := if (s.head key.owner).composedPicture key.frame && !s.cDone c then s.abandonC c else s
      s.placeItem (s.itemP key))

/-! ## Engines -/

/-- Engines per cluster (R20). -/
abbrev enginesPerCluster : Nat := 16

/-- Every T-item of a frame that has not started is abandoned (R208, R219). -/
def State.abandonT (s : State) (n k : Nat) : State :=
  let o := s.output n
  match o.itemsLeft.find? (fun x => x.1 == k) with
  | none => s
  | some (_, _, left) =>
    let mine := fun (x : ItemKey) => x.kind == .t && x.owner == n && x.frame == k
    let run := (List.range 8).foldl (fun a c => a + (s.cluster c).running.countP (fun i => mine i.key)) 0
    let s := s.removeItems mine
    let s := s.setOutput n { o with itemsLeft := o.itemsLeft.filter (fun x => x.1 != k), abandonedT := add64 o.abandonedT (left - run) }
    let s := { s with tq := { s.tq with doneC := s.tq.doneC.filter (fun y => !mine y) } }
    s.endOutShot n k

/-- Marks the tiles of a C-item's run as running (R192). -/
def State.markRunning (s : State) (key : ItemKey) : State :=
  if key.kind != .c then s else
  ((s.head key.owner).runIndices key.row key.run).foldl (fun s i => s.setTile i { s.tile i with running := true }) s

/-- An item leaves the deque of one cluster and starts on an engine of another. -/
def State.startItem (s : State) (i : Item) (src dst : Nat) : State :=
  let a := s.cluster src
  let s := s.setCluster src { a with deque := a.deque.filter (fun x => x.key != i.key) }
  let b := s.cluster dst
  (s.setCluster dst { b with running := b.running ++ [{ i with started := s.tp }] }).markRunning i.key

/-- The deadline of an item now: that of a P-item follows the latched line starts. -/
def State.dueNow (s : State) (i : Item) : Nat := if i.key.kind = .p then (s.deadP i.key.owner i.key.frame i.key.row).toNat else i.due

/-- The items of a deque in order are tested in turn (R208): those that cannot run are abandoned, the first that can is started. -/
def State.takeFirst (s : State) (c : Nat) (items : List Item) : State :=
  match items with
  | [] => s
  | i :: rest =>
    if !(s.cluster c).deque.any (fun x => x.key == i.key) then s.takeFirst c rest else
    match i.key.kind with
    | .p => if s.tp + s.cycles i.cost > s.dueNow i then (s.abandonP i.key 1).takeFirst c rest else s.startItem i c c
    | .c => if s.pDone { i.key with kind := .p } || !s.runHolds i.key then (s.abandonC i.key).takeFirst c rest else s.startItem i c c
    | .t => if s.tp > i.due then (s.abandonT i.key.owner i.key.frame).takeFirst c rest else s.startItem i c c

/-- Whether a cluster has an idle engine. -/
def State.hasIdle (s : State) (c : Nat) : Bool := s.clusterOn c && decide ((s.cluster c).running.length < enginesPerCluster)

/-- ENGINE_FREE (R208). -/
def execEngineFree (cluster : Nat) (s : State) : Host.Outcome State Fault Refusal :=
  .next (if cluster < 8 ∧ s.hasIdle cluster = true then (s.takeFirst cluster (s.deque cluster)).feed else s)

/-! ## Stealing -/

/-- The projected finish of an item behind a backlog of cycles (R209). -/
def State.projected (s : State) (before : Nat) (i : Item) : Nat := s.tp + s.cycles (ceilDiv before 16 + i.cost)

/-- Whether an item is at risk behind a backlog (R209). -/
def State.atRisk (s : State) (before : Nat) (i : Item) : Bool := s.levelOf i != 0 || decide (s.projected before i > s.dueNow i)

/-- Whether a thief can still finish an item in time (R210): STEAL_LAT is 240 ENGCLK. -/
def State.meetable (s : State) (i : Item) : Bool := decide (s.tp + s.cycles (240 + i.cost) ≤ s.dueNow i)

/-- The first item at risk that a thief can meet. -/
def State.pickAtRisk (s : State) (before : Nat) (items : List Item) : Option Item :=
  match items with
  | [] => none
  | i :: rest => if s.atRisk before i && s.meetable i then some i else s.pickAtRisk (before + i.cost) rest

/-- What a thief takes of a victim's deque (R210). -/
def State.pickFrom (s : State) (v : Nat) : Option Item :=
  let items := s.deque v
  match s.pickAtRisk (s.remaining v) items with
  | some i => some i
  | none => if items.length ≥ 2 then (match items.getLast? with | some i => if s.meetable i then some i else none | none => none) else none

/-- Victims in order of backlog, largest first, ties to the lower index (R210). -/
def State.victims (s : State) (t : Nat) : List Nat :=
  sortBy (fun a b => decide (s.backlog a ≥ s.backlog b)) ((List.range 8).filter (fun c => c != t && s.clusterOn c && !(s.cluster c).deque.isEmpty))

/-- STEAL (R210 to R212). In a machine of one step at a time no two parties claim in one cycle, so every claim succeeds. -/
def execSteal (cluster : Nat) (s : State) : Host.Outcome State Fault Refusal :=
  .next (
    if !(decide (cluster < 8) && s.hasIdle cluster && (s.cluster cluster).deque.isEmpty) then s else
    match (s.victims cluster).findSome? (fun v => (s.pickFrom v).map (fun i => (v, i))) with
    | none => s
    | some (v, i) =>
      if i.key.kind = .c ∧ (s.pDone { i.key with kind := .p } || !s.runHolds i.key) = true then s.abandonC i.key else
      let s := s.startItem i v cluster
      (s.setCluster cluster { s.cluster cluster with steals := add64 (s.cluster cluster).steals 1 }).feed)

/-- ROW_SKIPPED (R217, R459): a tile row of a latched frame that has not committed at its deadline. -/
def execRowSkipped (head frame row : Nat) (s : State) : Host.Outcome State Fault Refusal :=
  let h := s.head head
  .next (if h.scans && (h.latchedOf frame).isSome && decide (row < h.th) && !h.settled frame row then s.skipRow head frame row 1 else s)

end Sys2Proof.Machine
end

