-- ==== Sys2Proof/Machine/PanelPipe.lean ====
section
/-! DEFINITION. One tile run through the panel pipeline: gamma, mura correction, overdrive and dither (R222 to R262), the ledger's hold
closure and polarity (R276 to R283, R297, R298, R302), and the reads that can fail (R220, R267, R303). -/

namespace Sys2Proof.Machine

/-! ## Stages 2 to 5 -/

/-- Whether a latched frame bypasses the stage of a table id (R267). -/
def Latched.stageOff (l : Latched) (table : Nat) : Bool := l.bypassed.any (fun x => x.1 == table)

/-- Stage 2 (R223, R227). -/
def Latched.level (l : Latched) (colour c : Nat) : Nat :=
  if l.set.settings.gammaBypass || l.stageOff 0 then 16 * c + c / 64 else l.set.tables.gammaAt colour c

/-- The address of a grid node in a mura plane (R228, R229, R232). -/
def muraNode (base tw i j : Nat) : Nat := base + 336 * (j / 2 * tw + i / 4) + 18 * (i % 4 + 4 * (j % 2))

/-- The four nodes around a pixel with their weights (R234). -/
def muraNear (base tw th x y : Nat) : List (Nat × Int) :=
  let hx : Int := 2 * x - 3
  let hy : Int := 2 * y - 3
  let ix := hx / 8
  let iy := hy / 8
  let fx := hx - 8 * ix
  let fy := hy - 8 * iy
  [((0 : Int), (0 : Int)), (0, 1), (1, 0), (1, 1)].map (fun p =>
    let (a, b) := p
    (muraNode base tw (clampN (4 * tw - 1) (ix + a)) (clampN (2 * th - 1) (iy + b)), (if a = 0 then 8 - fx else fx) * (if b = 0 then 8 - fy else fy)))

/-- The address of the residual word of a subpixel (R231). -/
def muraResid (base tw x y colour : Nat) : Nat :=
  base + 336 * (y / 8 * tw + x / 16) + 0x90 + 4 * ((3 * (16 * (y % 8) + x % 16) + colour) / 8)

/-- Stage 3 (R231, R233, R234); `byte` reads a byte of the central store. -/
def Latched.mura_ (l : Latched) (byte : Nat → Nat) (tw th x y colour v : Nat) : Nat :=
  let set := l.set.settings
  if !set.muraEnable || l.stageOff 4 then v else
  let near := muraNear l.mura tw th x y
  let sum := fun (k o : Nat) => near.foldl (fun a n => a + n.2 * sx 8 (byte (n.1 + 6 * k + 2 * colour + o))) 0
  let knee := fun (k : Nat) => (l.set.tables.kneeAt colour k : Int)
  let vi : Int := v
  let (gn, on) :=
    if vi ≤ knee 0 then (sum 0 0, sum 0 1)
    else if vi ≥ knee 2 then (sum 2 0, sum 2 1)
    else
      let lo := if vi < knee 1 then 0 else 1
      let one := fun (o : Nat) => sum lo o + rdiv ((sum (lo + 1) o - sum lo o) * (vi - knee lo)) (knee (lo + 1) - knee lo)
      (one 0, one 1)
  let acc := vi * gn + on * 2048
  let sub := (3 * (16 * (y % 8) + x % 16) + colour) % 8
  let w := muraResid l.mura tw x y colour
  let r := sx 4 (byte (w + sub / 2) / (if sub % 2 = 0 then 1 else 16))
  (clampI 0 16383 (vi + shrI (acc + 32768) 16 + r * set.resScale)).toNat

/-- Stage 4 (R223, R257): the drive level from the target and the displayed value. -/
def Latched.overdrive (l : Latched) (colour t d : Nat) : Nat :=
  if !l.set.settings.odEnable || l.stageOff 1 then t else
  let od := fun (i j : Nat) => l.set.tables.odAt l.band colour i j
  let p := 32 * d + d / 16
  let (ip, fp, it, ft) := (p / 512, p % 512, t / 512, t % 512)
  let top := od ip it * (512 - ft) + od ip (it + 1) * ft
  let bot := od (ip + 1) it * (512 - ft) + od (ip + 1) (it + 1) * ft
  min ((top * (512 - fp) + bot * fp + 131072) / 262144) 16383

/-- Stage 5 (R259 to R262): the driver code. -/
def Latched.dither_ (l : Latched) (colour x y v : Nat) : Nat :=
  let dd := if l.stageOff 2 then 0 else l.set.settings.depth
  let u := (x + (if colour = 1 then 32 else 0)) % 64
  let w := (y + (if colour = 2 then 32 else 0)) % 64
  let n := (l.set.tables.ditherAt u w + 64 * l.phase) % 256
  let vv := if dd < 4 then min ((v + 2 ^ (3 - dd)) / 2 ^ (4 - dd)) (2 ^ (10 + dd) - 1) else v
  min ((vv + n / 2 ^ (8 - dd)) / 2 ^ dd) 1023

/-! ## Hold closure and polarity -/

/-- The held code of a displayed value (R276). -/
def held (d : Nat) : Nat := 2 * d + d / 256

/-- The sign that a pattern gives a subpixel column j on a line of its tile (R279). -/
def patSign (p l j : Nat) : Int :=
  let up := match p with
    | 0 => true
    | 1 => false
    | 2 => l % 2 == 0
    | 3 => l % 2 == 1
    | 4 => j % 2 == 0
    | 5 => j % 2 == 1
    | 6 => (l + j) % 2 == 0
    | _ => (l + j) % 2 == 1
  if up then 1 else -1

/-- Unsigned difference mod 2^32, at most 2^20 (R277). -/
def holdTime (new old : Nat) : Nat := min (diff32 (new % 2 ^ 32) old) 1048576

/-- Signed difference mod 2^32 (R277). -/
def holdQ (new : Int) (old : Nat) : Int := sx 32 (tc 32 (new - old))

/-- The charge of a hold in LU (R277): nearest, ties away from zero. -/
def chargeOf (x : Int) : Int := sgnI x * ((x.natAbs + 8192) / 16384 : Nat)

/-- The sign of the previous write of a subpixel (R277). -/
def oldSign (lOld : Int) (pattern l j : Nat) : Int := if lOld.natAbs ≥ 1536 then -(sgnI lOld) else patSign pattern l j

/-- Closes a hold (R277, R278): the ledger value and whether it saturated. -/
def closeHold (fresh : Bool) (lOld : Int) (dOld pattern l j h : Nat) (c : Int) : Int × Bool :=
  if fresh then (lOld, false) else
  let x := 16 * oldSign lOld pattern l j * held dOld * h + c
  let v := lOld + chargeOf x
  (clampI (-2047) 2047 v, decide (v < -2047 ∨ v > 2047))

/-- The score of a pattern over subpixels (R281): each given by line, subpixel column, lp and the held code of its new value. -/
def patScore (p : Nat) (subs : List (Nat × Nat × Int × Nat)) : Int :=
  subs.foldl (fun a x => let (l, j, lp, m) := x; if lp.natAbs < 1536 then a + patSign p l j * lp * m else a) 0

/-- The pattern of a tile's write (R281). -/
def choosePattern (allowed stored : Nat) (subs : List (Nat × Nat × Int × Nat)) : Nat :=
  let ps := (List.range 8).filter (fun p => bit allowed p)
  let scores := ps.map (fun p => (p, patScore p subs))
  let least := match scores with | [] => 0 | x :: r => r.foldl (fun m y => min m y.2) x.2
  let best := (scores.filter (fun x => x.2 == least)).map (fun x => x.1)
  if best.contains (complementOf stored) then complementOf stored else best.headD (lowestPattern allowed)

/-! ## A tile -/

/-- The value Q of a line (R291), mod 2^32 by its uses. -/
def State.lineQ (s : State) (n : Nat) (l : Latched) (y : Nat) : Int := l.q0 + l.e * ((s.tauOf n l y : Int) - s.tauOf n l 0)

/-- The hold clock at an instant of a latched frame's timing (R273, R453). -/
def State.tauAt (s : State) (n : Nat) (l : Latched) (t : Int) : Nat :=
  let sc := (s.head n).scan
  if s.pair.enable then ((t - sc.tBase + 31250 * 65536) / (62500 * 65536)).toNat else (l.tickOf t - sc.windupTick + 25000) / 50000

/-- tau_dis as an instant (R298): one frame period after the last active line of the balancing frame. -/
def Head.disTime (h : Head) (l : Latched) : Int := l.clock.at_ ((h.hh : Int) - 1) + h.framePeriod

/-- The code and sign of a subpixel of the balancing frame (R298). -/
def balanceCode (lp e : Int) (hb : Nat) : Nat × Int :=
  let r := -(lp * 16384 + e * hb)
  (min 1023 (rdiv r.natAbs (16 * max 1 hb)).toNat, if r ≥ 0 then 1 else -1)

/-- One subpixel on its way through stage 6: line and subpixel column in the tile, the closed ledger value, the target, the driver code,
the sign where the frame fixes it, whether it saturated. -/
structure SubPx where
  x : Nat := 0
  y : Nat := 0
  colour : Nat := 0
  l : Nat := 0
  j : Nat := 0
  lp : Int := 0
  t : Nat := 0
  code : Nat := 0
  sign : Option Int := none
  sat : Bool := false
  deriving DecidableEq, Repr

/-- The target and driver code of a subpixel (R222, R225): from the composed code, or as the kind of the frame fixes them. -/
def Latched.subCode (l : Latched) (byte : Nat → Nat) (tw th x y colour comp d : Nat) (lp : Int) (hb : Nat) : Nat × Nat × Option Int :=
  match l.kind with
  | 0 =>
    let t := l.mura_ byte tw th x y colour (l.level colour comp)
    (t, l.dither_ colour x y (l.overdrive colour t d), none)
  | 2 => let (c, sg) := balanceCode lp l.e hb; (16 * c, c, some sg)
  | _ => (16 * l.code, l.code, none)

/-- The pattern of a tile's write by the kind of the frame (R281, R297, R302): the warm-up alternates the lowest allowed pair. -/
def Latched.pattern (l : Latched) (clear : Bool) (stored : Nat) (subs : List SubPx) : Nat :=
  if l.kind = 3 then lowestPattern l.allowed + l.warmN % 2
  else choosePattern l.allowed stored (subs.map (fun p => (p.l, p.j, if clear then 0 else p.lp, held (p.t / 32))))

/-- The sign of a subpixel's write (R281, R282, R298). -/
def SubPx.polarity (p : SubPx) (pattern : Nat) : Int :=
  match p.sign with
  | some s => s
  | none => if p.lp.natAbs ≥ 1536 then -(sgnI p.lp) else patSign pattern p.l p.j

/-! ## The run -/

/-- The frame number nearest to frame k, from its low 32 bits, of what a tile last composed (R201). -/
def fullFrame (k low : Nat) : Nat :=
  let d := diff32 (k % 2 ^ 32) low
  if d < 2 ^ 31 then k - d else k + (2 ^ 32 - d)

/-- The words that a P-item reads of the composed frames, the mura plane and the panel state, the last apart (R303). -/
def State.readsP (s : State) (n : Nat) (l : Latched) (q j : Nat) : List Nat × List Nat :=
  let h := s.head n
  let (x0, x1, y0, y1) := h.runBox q j
  let px := (List.range (y1 - y0)).flatMap (fun a => (List.range (x1 - x0)).map (fun b => (x0 + b, y0 + a)))
  let comp := if l.kind ≠ 0 then [] else px.map (fun p =>
    let tx := p.1 / 16
    s.composedAt n (fullFrame l.frame (s.tile (h.tileAt tx q)).lastComposed) (q * h.tw + tx) + 4 * (16 * (p.2 % 8) + p.1 % 16))
  let mura := if l.kind ≠ 0 || !l.set.settings.muraEnable || l.stageOff 4 then [] else px.flatMap (fun p =>
    (muraNear l.mura h.tw h.th p.1 p.2).flatMap (fun n => (wordsOf n.1 18).map (fun w => 4 * w)) ++
      [0, 1, 2].map (fun c => muraResid l.mura h.tw p.1 p.2 c / 4 * 4))
  let base := match h.cfg with | some c => c.psBase | none => 0
  let state := px.flatMap (fun p =>
    let a := stateAt base (q * h.tw + p.1 / 16) (p.1 % 16) (p.2 % 8)
    [a, a + 4])
  (comp ++ mura, state)

/-- The tables that a frame's P-items use (R267). -/
def Latched.uses (l : Latched) (t : Nat × Nat) : Bool :=
  l.kind == 0 && !l.stageOff t.1 && (match t.1 with
    | 0 => !l.set.settings.gammaBypass
    | 1 => l.set.settings.odEnable && t.2 / 3 == l.band
    | 2 => true
    | 4 => l.set.settings.muraEnable
    | _ => false)

/-- The uncorrectable words of the active bank among the tables that a frame uses (R267): they become faulty tables. -/
def State.tableFaults (s : State) (n : Nat) (l : Latched) : Bool × State :=
  let b := (s.head n).panel.bank
  (s.mem.sramErr.filter (fun x => match bankTable n b x.1 with | some t => l.uses t | none => false)).foldl (fun acc x =>
    let (bad, s) := acc.2.checkWord 1 x.1
    if bad then
      let t := (bankTable n b x.1).getD (0, 0)
      (true, s.modHead n (fun h => { h with panel := { h.panel with faulty := if h.panel.faulty.contains t then h.panel.faulty else h.panel.faulty ++ [t] } }))
    else (acc.1, s)) (false, s)

/-- Rewrites an uncorrectable panel-state word (R303): L = 0 and D at rest, counted and reported with its pixel. -/
def State.rewriteState (s : State) (n : Nat) (rest : Nat) (a : Nat) : State :=
  let h := s.head n
  let base := match h.cfg with | some c => c.psBase | none => 0
  let i := (a - base) / 8
  let ti := i / 128
  let x := 16 * (ti % max 1 h.tw) + i % 16
  let y := 8 * (ti / max 1 h.tw) + i % 128 / 16
  let d := rest / 32
  let s := s.putMem 0 (base + 8 * i) (leBytes 8 (stateWord [d, d, d] [0, 0, 0]))
  (s.modHead n (fun h => { h with ledger := { h.ledger with dataLoss := add64 h.ledger.dataLoss 1 } })).post 0xE051 n 0 (leBytes 2 x ++ leBytes 2 y)

/-- Tests every word that a P-item reads; answers whether one was uncorrectable (R220, R267, R303). -/
def State.checkP (s : State) (n : Nat) (l : Latched) (q j : Nat) : Bool × State :=
  let (other, state) := s.readsP n l q j
  let (bad, s) := s.checkReads other
  let (badState, s) := s.checkReads state
  let s := (badState.map (fun a => a / 8 * 8)).eraseDups.foldl (fun s a => s.rewriteState n l.set.settings.restLevel a) s
  let (_, badRow, s) := s.readMem 1 (rowTimeAt n q) 64
  let (badTab, s) := s.tableFaults n l
  (!bad.isEmpty || !badState.isEmpty || badRow || badTab, s)

/-- The address of a pixel's bytes in the drive ring (R312, R313). -/
def Head.ringAt (h : Head) (l : Latched) (x y : Nat) : Nat := 131072 * h.allot.ringFirst + 16 * h.w * ((l.slot0 + y) % 64) + 16 * x

/-- The drive data of a pixel (R312): code and polarity of R, G and B. -/
def driveBytes (codes : List (Nat × Int)) : List Byte :=
  codes.flatMap (fun c => leBytes 2 (c.1 + (if c.2 > 0 then 32768 else 0))) ++ leBytes 2 0

/-- The subpixels of a tile inside the raster after stages 1 to 5 and the hold closure (R277). -/
def State.tileSubs (s : State) (n : Nat) (l : Latched) (q tx : Nat) : List SubPx :=
  let h := s.head n
  let t := s.tile (h.tileAt tx q)
  let base := match h.cfg with | some c => c.psBase | none => 0
  let byte := fun (a : Nat) => (spGet s.mem.store 0 a).toNat
  let from_ := s.composedAt n (fullFrame l.frame t.lastComposed) (q * h.tw + tx)
  let y0 := 8 * q
  let x0 := 16 * tx
  let dis := s.tauAt n l (h.disTime l)
  let panel := readBytes s.mem.store (stateAt base (q * h.tw + tx) 0 0) 1024
  let composed := readBytes s.mem.store from_ 512
  (List.range (min 8 (h.hh - y0))).flatMap (fun a =>
    let y := y0 + a
    let tau := s.tauOf n l y
    let row := rowTimeAt n q + 8 * a
    let hold := holdTime tau (leNat (readBytes s.mem.sram row 4))
    let c := holdQ (s.lineQ n l y) (leNat (readBytes s.mem.sram (row + 4) 4))
    (List.range (min 16 (h.w - x0))).flatMap (fun b =>
      let x := x0 + b
      let word := fieldAt panel (8 * (16 * a + b)) 8
      let comp := fieldAt composed (4 * (16 * a + b)) 4
      [0, 1, 2].map (fun col =>
        let (lp, sat) := closeHold t.fresh (wordL word col) (wordD word col) t.pattern a (3 * b + col) hold c
        let (tg, code, sign) := l.subCode byte h.tw h.th x y col (bits comp (10 * col + 9) (10 * col)) (wordD word col) lp (dis - tau)
        { x := x, y := y, colour := col, l := a, j := 3 * b + col, lp := lp, t := tg, code := code, sign := sign, sat := sat })))

/-- What a run's tiles write: their ring bytes, new flags and statistics (R215, R278, R281 to R283). -/
def State.runTile (s : State) (n : Nat) (l : Latched) (clear : Bool) (q : Nat) (acc : RunOut × List (Nat × List Byte)) (tx : Nat) :
    RunOut × List (Nat × List Byte) :=
  let h := s.head n
  let i := h.tileAt tx q
  let t := s.tile i
  let subs := s.tileSubs n l q tx
  let p := l.pattern clear t.pattern subs
  let past := if clear then 0 else subs.countP (fun x => decide (x.lp.natAbs ≥ 1536))
  let nsat := subs.countP (fun x => x.sat)
  let subs := if clear then subs.map (fun x => ({ x with lp := 0 } : SubPx)) else subs
  let flags := p + 8 * b2n (!clear && (t.sat || decide (nsat > 0))) + 16 * b2n (decide (past > 0))
  let bytes := (List.range (subs.length / 3)).map (fun k =>
    let px := (subs.drop (3 * k)).take 3
    let x := (px.headD {}).x
    let y := (px.headD {}).y
    (h.ringAt l x y, driveBytes (px.map (fun z => (z.code, z.polarity p))) ++
      leBytes 8 (stateWord (px.map (fun z => z.t / 32)) (px.map (fun z => z.lp)))))
  let o := acc.1
  ({ o with
     flags := o.flags ++ [(i, flags)], overrides := o.overrides + past, saturated := o.saturated + nsat,
     satTile := match o.satTile with | some y => some y | none => if nsat > 0 then some i else none,
     maxL := subs.foldl (fun m x => max m x.lp.natAbs) o.maxL }, acc.2 ++ bytes)

/-- The composed words of a run as its P-item reads them, line by line (R343). -/
def State.runWords (s : State) (n : Nat) (l : Latched) (q j : Nat) : List Nat :=
  let h := s.head n
  let (x0, x1, y0, y1) := h.runBox q j
  (List.range (y1 - y0)).flatMap (fun a => (List.range (x1 - x0)).map (fun b =>
    let x := x0 + b
    let t := s.tile (h.tileAt (x / 16) q)
    leNat (readBytes s.mem.store (s.composedAt n (fullFrame l.frame t.lastComposed) (q * h.tw + x / 16) + 4 * (16 * a + x % 16)) 4)))

/-- A P-item's output (R215): its slots in the drive ring are written, and what the commit needs is kept. -/
def State.runP (s : State) (n : Nat) (l : Latched) (q j : Nat) : State :=
  let h := s.head n
  let clear := l.clearing && h.ledger.clearRows.contains q
  let (o, bytes) := (h.runTiles j).foldl (fun acc tx => s.runTile n l clear q acc tx) ({ head := n, frame := l.frame, row := q, run := j }, [])
  let o := if l.kind = 0 ∧ h.checkArmed l.frame l.view = true then
      { o with words := s.runWords n l q j, stale := (h.runTiles j).filter (fun tx => (s.tile (h.tileAt tx q)).lastComposed != l.frame % 2 ^ 32) }
    else o
  let s := s.putRows 1 bytes
  { s with tq := { s.tq with outs := s.tq.outs ++ [o] } }

end Sys2Proof.Machine
end

