-- ==== Sys2Proof/Machine/Commit.lean ====
section
/-! DEFINITION. The commit of a tile row (R216, R252, R283, R300, R301), the completion of P-items (R215, R217), and the release of a mura
buffer (R238). -/

namespace Sys2Proof.Machine

/-- The outputs that the runs of a row have left (R215). -/
def State.rowOuts (s : State) (n k q : Nat) : List RunOut := s.tq.outs.filter (fun o => o.head == n && o.frame == k && o.row == q)

/-- Whether every P-item of a row has completed (R216). -/
def State.rowComplete (s : State) (n k q : Nat) : Bool :=
  let outs := s.rowOuts n k q
  (List.range (s.head n).runs).all (fun j => outs.any (fun o => o.run == j))

/-- The panel-state bytes of a tile in the state area of a row: 1,024 bytes, zero outside the raster (R269, R300). -/
def State.tileState (s : State) (n : Nat) (l : Latched) (q tx : Nat) : List Byte :=
  let h := s.head n
  (List.range 8).flatMap (fun a => (List.range 16).flatMap (fun b =>
    let x := 16 * tx + b
    let y := 8 * q + a
    if x < h.w ∧ y < h.hh then readBytes s.mem.sram (h.ringAt l x y + 8) 8 else leBytes 8 0))

/-- The PANEL_FLAGS that a row's outputs give a tile. -/
def flagsOf (outs : List RunOut) (i : Nat) : Nat :=
  match (outs.flatMap (fun o => o.flags)).find? (fun x => x.1 == i) with | some x => x.2 | none => 0

/-- The row check CRC of a row as its commit would write it (R300). -/
def State.rowCrc (s : State) (n : Nat) (l : Latched) (q : Nat) : Nat :=
  let h := s.head n
  let outs := s.rowOuts n l.frame q
  crc32 ((List.range h.tw).flatMap (fun tx => s.tileState n l q tx ++ leBytes 2 (flagsOf outs (h.tileAt tx q))))

/-- The part of a check rectangle in a tile row, as its P-items read it (R343). -/
def partOf (h : Head) (outs : List RunOut) (k q : Nat) (p : CheckSetP) : CheckPart :=
  let ylo := max p.y0 (8 * q)
  let yhi := min (p.y0 + p.ch) (min (8 * q + 8) h.hh)
  let at_ := fun (x y : Nat) => match outs.find? (fun o => o.run == x / 256) with
    | some o => let w := min 256 (h.w - 256 * o.run)
                o.words.getD (w * (y - 8 * q) + (x - 256 * o.run)) 0
    | none => 0
  { frame := k, row := q,
    words := (List.range (yhi - ylo)).flatMap (fun a => (List.range p.cw).map (fun b => at_ (p.x0 + b) (ylo + a))),
    stale := (outs.flatMap (fun o => o.stale)).any (fun tx => decide (16 * tx < p.x0 + p.cw ∧ p.x0 < 16 * tx + 16)) }

/-- The statistics of a frame take a row (R301). -/
def Ledger.addRow (l : Ledger) (k : Nat) (outs : List RunOut) : Ledger :=
  let f := k % 2 ^ 32
  let l := if l.statFrame = f then l else { l with statFrame := f, statMaxL := 0, statOverrides := 0, statSat := 0 }
  { l with
    statMaxL := outs.foldl (fun m o => max m o.maxL) l.statMaxL, statOverrides := outs.foldl (fun a o => a + o.overrides) l.statOverrides,
    statSat := outs.foldl (fun a o => a + o.flags.countP (fun x => bit x.2 3)) l.statSat,
    saturated := outs.foldl (fun a o => add64 a o.saturated) l.saturated }

/-- The ROW_DATA of a row just committed, which the standby has asked for (R447, R461). -/
def State.answerRow (s : State) (n k q crc : Nat) (flags : List Nat) (panel : List Byte) : State :=
  if !s.pairActive || !s.sync.requests.contains q then s else
  let times := readBytes s.mem.sram (rowTimeAt n q) 64
  let s := { s with sync := { s.sync with requests := s.sync.requests.filter (fun r => r != q) } }
  s.sendMsg 0x0C (leBytes 4 k ++ leBytes 2 q ++ times ++ flags.flatMap (fun f => leBytes 2 f) ++ panel ++ leBytes 4 crc)

/-- A tile row commits (R216, R283, R300): its lines are ready, its state area goes to the panel state, its tiles and tables are
written, what waits for it follows. -/
def State.commitRow (s : State) (n : Nat) (l : Latched) (q : Nat) : State :=
  let h := s.head n
  let k := l.frame
  let outs := s.rowOuts n k q
  let base := match h.cfg with | some c => c.psBase | none => 0
  let crc := s.rowCrc n l q
  let states := (List.range h.tw).map (fun tx => (base + 1024 * (q * h.tw + tx), s.tileState n l q tx))
  let inside := fun (tx : Nat) => decide (16 * tx + 16 ≤ h.w ∧ 8 * q + 8 ≤ h.hh)
  let s := s.putRows 0 (((List.range h.tw).zip states).flatMap (fun z =>
    let (tx, a, bs) := z
    if inside tx then [(a, bs)] else
    (List.range 128).filterMap (fun i =>
      if 16 * tx + i % 16 < h.w ∧ 8 * q + i / 16 < h.hh then some (a + 8 * i, sliceBytes bs (8 * i) 8) else none)))
  let lines := (List.range (min 8 (h.hh - 8 * q))).flatMap (fun a =>
    leBytes 4 (s.tauOf n l (8 * q + a)) ++ leBytes 4 (tc 32 (s.lineQ n l (8 * q + a))))
  let s := s.putMem 1 (rowTimeAt n q) lines
  let s := s.putMem 1 (rowCheckAt n q) (leBytes 4 k ++ leBytes 4 crc)
  let s := (List.range h.tw).foldl (fun s tx =>
    let i := h.tileAt tx q
    s.setTile i { (s.tile i).withFlags (flagsOf outs i) with lastDriven := k % 2 ^ 32 }) s
  let sat := outs.findSome? (fun o => o.satTile)
  let post := sat.isSome && h.ledger.satPosted != some k
  let s := s.modHead n (fun h => { h.addParts (some l) (partOf h outs k q) with
    ledger := { (h.ledger.addRow k outs) with
      clearRows := if l.clearing then h.ledger.clearRows.filter (fun r => r != q) else h.ledger.clearRows,
      satPosted := if post then some k else h.ledger.satPosted },
    scan := { h.scan with ready := h.scan.ready ++ [(k, q)] } })
  let s := { s with tq := { s.tq with outs := s.tq.outs.filter (fun o => !(o.head == n && o.frame == k && o.row == q)) } }
  let s := if post then s.post 0xE050 n 0 (leBytes 4 k ++ leBytes 4 (sat.getD 0)) else s
  let s := s.snapRow n k q
  let s := if s.pairActive then s.sendMsg 0x0A (leBytes 4 k ++ leBytes 2 q ++ leBytes 1 0 ++ leBytes 4 crc) else s
  let s := s.answerRow n k q crc ((List.range h.tw).map (fun tx => flagsOf outs (h.tileAt tx q))) (states.flatMap (fun x => x.2))
  s.postSkips n k

/-- Records that a P-item read its frame's mura buffer (R238). -/
def State.muraRead (s : State) (n : Nat) (l : Latched) : State :=
  if l.kind ≠ 0 || !l.set.settings.muraEnable then s else
  s.modHead n (fun h =>
    let p := h.panel
    let f := l.frame % 2 ^ 32
    let p := if p.muraBase.getD p.muraActive 0 = l.mura then { p with muraLast := some f } else p
    { h with panel := { p with muraRelease := p.muraRelease.map (fun r => if r.1 = l.mura then (r.1, f) else r) } })

/-- What the completion of a P-item does to its row (R215, R216, R220, R459): with the last of the row the row is skipped where it is too late,
held where the machine is a standby with its link up, and committed otherwise. -/
def State.finishP (s : State) (key : ItemKey) (l : Latched) : State :=
  let s := s.runP key.owner l key.row key.run
  let s := { s with tq := { s.tq with doneP := s.tq.doneP ++ [key] } }
  if !s.rowComplete key.owner key.frame key.row then s
  else if (s.tp : Int) ≥ s.deadP key.owner key.frame key.row + 81920 then s.skipRow key.owner key.frame key.row 1
  else if s.standby && s.pair.linkUp then { s with sync := { s.sync with complete := s.sync.complete ++ [(key.frame, key.row)] } }
  else s.commitRow key.owner l key.row

/-- A P-item whose engine has ended it, for the state latched for its frame: nothing where its row is settled, abandoned on an uncorrectable read. -/
def State.endP (s : State) (key : ItemKey) (l : Latched) : State :=
  let s := s.muraRead key.owner l
  if (s.head key.owner).settled key.frame key.row then { s with tq := { s.tq with doneP := s.tq.doneP ++ [key] } } else
  let c := s.checkP key.owner l key.row key.run
  if c.1 then c.2.abandonP key 3 else c.2.finishP key l

/-- P_ITEM_COMPLETE (R215 to R217, R220, R459): the row commits with its last item in time, the tick at which
due_P falls included (R44; DEDUCED, log entry 37); a standby holds it until ROW arrives. -/
def execPItemComplete (key : ItemKey) (s : State) : Host.Outcome State Fault Refusal :=
  .next (
    if key.kind != .p || !s.runningItem key then s else
    let s := s.freeEngine key
    match (s.head key.owner).latchedOf key.frame with
    | none => s
    | some l => s.endP key l)

/-- MURA_RELEASED (R238): the last P-item that reads the buffer swapped out has completed or been abandoned. -/
def execMuraReleased (head : Nat) (s : State) : Host.Outcome State Fault Refusal :=
  .next (match (s.head head).panel.muraRelease with
    | none => s
    | some (base, last) =>
      if s.muraBusy head base then s else
      (s.modHead head (fun h => { h with panel := { h.panel with muraRelease := none } })).postMura head base last)

end Sys2Proof.Machine
end

