-- ==== Sys2Proof/Machine/Latch.lean ====
section
/-! DEFINITION. The latch point of a frame (R224, R236, R247, R260, R265, R267, R274, R291) with the timing changes that it puts into
force (R322 to R325), and the waits of a standby for LATCH and SELECT (R456, R457). -/

namespace Sys2Proof.Machine

/-! ## Timing changes -/

/-- The configuration and views that a timing change asks for. -/
def Head.newTiming (h : Head) (i : Instr) : Option (HeadConfigP × List ViewP) :=
  match h.cfg, i with
  | some _, .headConfig _ p => some (p, if p.scanMode = 2 then h.views else [])
  | some c, .viewSet _ p => some ({ c with scanMode := 2 }, p.views)
  | some c, .viewClear _ _ mode => some ({ c with scanMode := mode }, [])
  | _, _ => none

/-- The line pitch of a clock in 2^-16 ns, rounded up. -/
def LineClock.pitch (c : LineClock) : Nat := ceilDiv c.per (max 1 c.den)

/-- The clocks of the subframes of a head's frame or cycle k. -/
def State.cycleClocks (s : State) (n k : Nat) : List LineClock :=
  (List.range (s.head n).nViews).filterMap (fun i => s.clockOf n (k + i) (s.head n).bandNow)

/-- Whether a line time changes by more than one eighth of the old one (R323). -/
def pitchJump (old new : LineClock) : Bool :=
  decide (8 * ((new.per * old.den : Int) - old.per * new.den).natAbs > old.per * new.den)

/-- Fixes the length of the last latched frame where its clock leaves it open: up to the frame that starts at a time (R335). -/
def Scan.fixLines (sc : Scan) (t : Int) : Scan :=
  match sc.latched.getLast? with
  | some l => if l.lines = 0 then { sc with latched := sc.latched.dropLast ++ [{ l with lines := max 1 (l.count t) }] } else sc
  | none => sc

/-- The start of the last line of the last latched frame with its line time; where no frame is latched, the present. -/
def State.lastLine (s : State) (n : Nat) : Int × Nat :=
  match (s.head n).scan.latched.getLast? with
  | some l => (l.clock.at_ ((l.lines : Int) - 1), l.clock.pitch)
  | none => ((s.tp : Int) + usU 100, 0)

/-- The number of the first frame of the timing now configured whose line 0 lies at or after a time; in FOLLOW mode the next number
(R324). -/
def State.resumeAt (s : State) (n : Nat) (t : Int) : Nat := s.firstAt n (max t s.tp)

/-- Whether every latched frame of a head has been scanned to its end. -/
def Head.drained (h : Head) : Bool :=
  match h.scan.latched.getLast? with
  | none => true
  | some l => l.frame == h.scan.frame && l.lines != 0 && decide (l.lines ≤ h.scan.line)

/-- Frames from k on follow a seam: what was composed ahead under the old timing is dropped, and a FOLLOW head plans from the seam on
(R322 to R324, R331). -/
def State.seamAt (s : State) (n k transition : Nat) (t : Int) : State :=
  let s := s.dropFrom n (s.head n).scan.nextLatch
  let kept := (s.head n).scan.latched
  let s := s.forgetItems n (fun f => kept.all (fun l => l.frame != f))
  s.modHead n (fun h => { h with scan := { h.scan with
    nextLatch := k, nextCompose := k, seam := true, transition := transition, changing := transition != 0, planned := [], nextCfg := none,
    eLast := match h.cfg with | some c => (t - offsetOf c - followMin c).toNat | none => h.scan.eLast,
    firstFrame := k, frame := if h.scan.latched.isEmpty then k else h.scan.frame } })

/-- The earliest resumption after a raster change: a new frame period, or an old line, after the last old line (R324). -/
def State.rasterResume (s : State) (n : Nat) (c : HeadConfigP) : Int :=
  let (t, p) := s.lastLine n
  t + max p (({ cfg := some c } : Head).framePeriod)

/-- The panel-state words of a new raster: those of pixels inside both rasters move, the others are new (R284, R325). -/
def State.movedWords (s : State) (h : Head) (old c : HeadConfigP) : List (Nat × List Byte) :=
  let d := h.panel.active.settings.restLevel / 32
  let tw := ceilDiv c.w 16
  (List.range c.h).flatMap (fun y => (List.range c.w).map (fun x =>
    (stateAt c.psBase (y / 8 * tw + x / 16) (x % 16) (y % 8),
     if x < old.w ∧ y < old.h then readBytes s.mem.store (stateAt old.psBase (y / 8 * h.tw + x / 16) (x % 16) (y % 8)) 8
     else leBytes 8 (stateWord [d, d, d] [0, 0, 0]))))

/-- The records of a new raster's tiles: a tile inside the old raster keeps its PANEL_FLAGS, a tile with a new pixel is FRESH. -/
def State.movedTiles (s : State) (h : Head) (n : Nat) (old c : HeadConfigP) (base : Nat) : List (Nat × Tile) :=
  let tw := ceilDiv c.w 16
  (List.range (ceilDiv c.h 8)).flatMap (fun ty => (List.range tw).map (fun tx =>
    let inside := decide (min (16 * tx + 16) c.w ≤ old.w ∧ min (8 * ty + 8) c.h ≤ old.h)
    let t : Tile := { head := n, alloc := true }
    (base + ty * tw + tx,
     if inside then t.withFlags (s.tile (h.tileAt tx ty)).flags
     else { t with fresh := true, pattern := complementOf (lowestPattern h.ledger.allowed) })))

/-- A raster change takes effect (R325): the new tile range and drive ring replace the old ones; `move` carries the panel state over. -/
def State.switchRaster (s : State) (n : Nat) (move : Bool) : State :=
  let h := s.head n
  match h.scan.nextCfg, h.nextAllot, h.cfg with
  | some c, some a, some old =>
    let words := if move then s.movedWords h old c else []
    let tiles := if move then s.movedTiles h n old c a.1 else []
    let s := (s.freeTiles h.allot.tileBase h.allot.tiles).takeTiles n a.1 a.2.1
    let s := tiles.foldl (fun s t => s.setTile t.1 t.2) s
    let s := s.putRows 0 words
    let s := s.modHead n (fun h => { h with
      cfg := some c, views := if c.scanMode = 2 then h.views else [], nextAllot := none, scan := { h.scan with nextCfg := none },
      allot := { tileBase := a.1, tiles := a.2.1, ringFirst := a.2.2.1, ringBanks := a.2.2.2, low := lowOf c, crit := critOf c } })
    (s.dropBanks h.allot.ringFirst h.allot.ringBanks).takeBanks a.2.2.1 a.2.2.2
  | _, _, _ => s.modHead n (fun h => { h with scan := { h.scan with nextCfg := none } })

/-- A raster change takes effect in the gap after the last old line, with a transition frame (R323 to R325). -/
def State.rasterNow (s : State) (n : Nat) : State :=
  match (s.head n).scan.nextCfg with
  | none => s
  | some c =>
    let t := s.rasterResume n c
    let s := s.switchRaster n true
    s.seamAt n (s.resumeAt n t) (s.head n).nViews t

/-- A timing change takes effect at the latch point of frame k, the first frame at the new timing in its place (R322 to R324). -/
def State.applyTiming (s : State) (n k : Nat) (e : Entry) : State :=
  let h := s.head n
  match h.newTiming e.cmd, h.cfg with
  | some (c, vs), some old =>
    let before := s.cycleClocks n k
    let s := s.unqueue e
    let s := match s.clockOf n k h.bandNow with
      | some q => s.modHead n (fun h => { h with scan := h.scan.fixLines (q.at_ 0) })
      | none => s
    if c.w ≠ old.w ∨ c.h ≠ old.h then
      let k' := (s.asIf n (some c) vs).resumeAt n (s.rasterResume n c)
      let s := s.modHead n (fun h => { h with scan := { h.scan with nextCfg := some c, changing := true } })
      let s := s.entryApplied e (k' % 2 ^ 32) n
      if (s.head n).drained then s.rasterNow n else s
    else
      let (t, p) := s.lastLine n
      let s := s.modHead n (fun h => { h with
        cfg := some c, views := vs,
        allot := match e.cmd with | .headConfig _ q => { h.allot with low := lowOf q, crit := critOf q } | _ => h.allot })
      let k' := s.resumeAt n (t + p)
      let after := s.cycleClocks n k'
      let jump := (s.head n).nViews != h.nViews || (before.zip after).any (fun x => pitchJump x.1 x.2)
      (s.seamAt n k' (if jump then (s.head n).nViews else 0) (t + p)).entryApplied e (k' % 2 ^ 32) n
  | _, _ => s.unqueue e

/-! ## Commands that a latch point puts into force -/

/-- The entries of a latch class that are due at the latch point of frame k, LATE where R75 selected an earlier frame (R236, R265). -/
def State.latchDue (s : State) (n k : Nat) (timing : Bool) : List Entry :=
  let due := s.cp.launch.filter (fun e => e.queue == n && atLatch e.cmd && isTimingChange e.cmd == timing &&
    (!e.timed || (match e.frame with | some f => decide (f ≤ k) | none => false)))
  sortBy entryLe (due.map (fun e => { e with late := e.late || (match e.frame with | some f => decide (f < k) | none => false) }))

/-- One entry takes effect at the latch point of frame k; activations that fall together exchange the banks once (R265). -/
def State.latchEntry (s : State) (n k : Nat) (first : Bool) (e : Entry) : State :=
  let s := s.unqueue e
  let s := match e.cmd with
    | .activate _ _ => if first then s.activateNow n else s
    | .muraSwap _ _ base => s.muraApply n base
    | .ledgerSet _ _ a t c => s.ledgerApply n a t c
    | .ledgerClear _ _ => s.clearApply n
    | _ => s
  s.entryApplied e (k % 2 ^ 32) n

/-- Whether a command activates the panel tables. -/
def isActivate (i : Instr) : Bool := match i with | .activate _ _ => true | _ => false

/-- Every entry of the latch class takes effect (R236, R265, R280, R302). -/
def State.latchEntries (s : State) (n k : Nat) : State :=
  ((s.latchDue n k false).foldl (fun (acc : State × Bool) e => (acc.1.latchEntry n k (!acc.2) e, acc.2 || isActivate e.cmd)) (s, false)).1

/-- The tables found faulty are bypassed from this latch point on, each with PANEL_TABLE_FAULT (R267). -/
def State.bypassFaulty (s : State) (n : Nat) : State :=
  let p := (s.head n).panel
  let new := p.faulty.filter (fun t => !p.bypassed.contains t)
  let s := s.modHead n (fun h => { h with panel := { h.panel with bypassed := p.bypassed ++ new } })
  new.foldl (fun s t => s.post 0xE044 n 0 (leBytes 1 t.1 ++ leBytes 1 t.2)) s

/-! ## The latch -/

/-- What the LATCH of the active gives a standby (R456): band, e, DAC code, panel temperature. -/
structure LatchGiven where
  band : Nat := 0
  e : Int := 0
  dac : Nat := 0
  temp : Int := 0
  deriving DecidableEq, Repr

/-- A standby takes the band, the temperature and the DAC code from LATCH (R456), with BAND_CHANGED (R250). -/
def State.takeGiven (s : State) (n k : Nat) (g : LatchGiven) : State :=
  let h := s.head n
  let t := h.therm
  let new : Therm := { t with
    band := g.band, bandSet := true, latchedOnce := true, samples := if g.temp = -32768 then [] else [g.temp] }
  let s := s.setHead n { h with therm := new, vcom := { h.vcom with dac := g.dac } }
  if t.latchedOnce && g.band == t.band then s
  else s.post 0xE043 n 0 (leBytes 4 k ++ leBytes 1 (if t.latchedOnce then t.band else 255) ++ leBytes 1 g.band ++ new.field)

/-- The clock of a balancing frame kb (R317): that of the frame after the completion frame, or pitch L_min from the next cycle's scan
epoch in a view set. -/
def State.balanceClock (s : State) (n k : Nat) : Option LineClock :=
  let h := s.head n
  match h.cfg with
  | none => none
  | some c =>
    if h.inViews then
      some { num := ((epoch c.rate (k / h.nViews) : Int) + offsetOf c) * c.rate.n, den := c.rate.n, per := s.lMin n c.linkRate * c.rate.n }
    else s.clockOf n k h.bandNow

/-- The lines of frame k + i by its clock, 0 where the next frame fixes them (R305, R331, R335). -/
def State.linesOf (s : State) (n k i kind : Nat) (clock : LineClock) : Nat :=
  let h := s.head n
  match h.cfg with
  | none => 0
  | some c =>
    if h.inViews then
      if kind = 2 ∨ i + 1 ≥ h.nViews then 0 else
      match s.clockOf n (k + i + 1) h.bandNow with
      | some q => ({ clock := clock } : Latched).count (q.at_ 0)
      | none => 0
    else if c.scanMode = 1 then 0 else c.vtotal

/-- Latches frame k + i of the cycle that begins at frame k. -/
def State.latchOne (s : State) (n k i kind warmN : Nat) (e : Int) (clock : LineClock) : State :=
  let h := s.head n
  let sc := h.scan.fixLines (clock.at_ 0)
  let p := h.panel
  let base : Latched := {
    frame := k + i, view := i, first := i == 0 && h.scan.seam, last := i + 1 == h.nViews, clock := clock, lines := s.linesOf n k i kind clock,
    set := p.active, band := h.bandNow, mura := p.muraBase.getD p.muraActive 0, phase := k / h.nViews % 4, e := e,
    allowed := h.ledger.allowed, clearing := !h.ledger.clearRows.isEmpty, kind := kind,
    code := (if kind = 3 then h.ledger.warmCode else match h.cfg with | some c => c.transitionCode | none => 0), warmN := warmN,
    bypassed := p.bypassed, tick0 := s.timeRegs.ticks, tp0 := s.time.tp, inc := s.time.lastInc, slot0 := h.scan.slotNext,
    bufBase := (match h.cfg with | some c => c.composedBase | none => 0),
    bufCount := match h.cfg with | some c => h.nViews * composedCount c | none => 0 }
  let l : Latched := match sc.latched.getLast? with
    | some q => { base with
        q0 := q.q0 + q.e * ((s.tauOf n base 0 : Int) - s.tauOf n q 0), slot0 := (q.slot0 + q.lines) % 64 }
    | none => { base with q0 := h.ledger.q }
  s.setHead n { h with
    ledger := { h.ledger with q := l.q0 },
    scan := { sc with latched := sc.latched ++ [l], seam := h.scan.seam && i != 0, slotNext := l.slot0 } }

/-- Whether YOYO self-refresh scans frame k (R329): one frame or cycle in M = max(1, floor(SR_PERIOD / T_frame)). -/
def Head.scansFrame (h : Head) (k : Nat) : Bool :=
  if h.state ≠ 4 ∨ h.sr.mode ≠ 2 then true else
  match h.cfg with
  | none => true
  | some c =>
    let m := if c.scanMode = 1 then usU h.sr.period / max 1 h.framePeriod else h.sr.period * c.rate.n / (rateDen c.rate * 1000000)
    k / h.nViews % max 1 m == 0

/-- The kind of the frames that latch next (R225, R297): balancing, transition, warm-up or picture. -/
def Head.kindNext (h : Head) : Nat :=
  if h.state = 5 then 2 else if h.scan.transition > 0 then 1 else if h.state = 2 ∧ h.ledger.warmLeft > 0 then 3 else 0

/-- The warm-up ends after a frame with an even count where that has been commanded (R297). -/
def Ledger.warmCut (l : Ledger) : Ledger := if l.warmEnding && l.warmCount % 2 == 0 then { l with warmLeft := 0 } else l

/-- The LATCH message of the active (R447, R456). -/
def Head.latchBytes (h : Head) (k : Nat) (e : Int) : List Byte :=
  leBytes 4 k ++ leBytes 1 h.bandNow ++ leInt 2 e ++ leBytes 2 h.vcom.dac ++ h.therm.field

/-- Latches the next frame or cycle of a head whose timing does not change: its settings are fixed, then its frames join the frames to be
scanned, one balancing frame in a stop. -/
def State.latchFrames (s : State) (n k : Nat) (given : Option LatchGiven) : State :=
  let s := s.modHead n (fun h => { h with ledger := h.ledger.warmCut })
  let s := match given with | some g => s.takeGiven n k g | none => s.bandLatch n k
  let s := s.bypassFaulty n
  let h := s.head n
  let kind := h.kindNext
  let count := if kind = 2 then 1 else h.nViews
  let e := match given with
    | some g => g.e
    | none => if h.vcom.cfg.senseEnable = 1 ∧ h.vcom.fault = false then h.vcom.e else 0
  let s := if s.pairActive then s.sendMsg 0x08 (h.latchBytes k e) else s
  let clockOf := fun (s : State) (i : Nat) => if kind = 2 then s.balanceClock n k else s.clockOf n (k + i) (s.head n).bandNow
  let s := if h.scansFrame k then
      (List.range count).foldl (fun s i => match clockOf s i with
        | some c => s.latchOne n k i kind (h.ledger.warmCount + i) e c
        | none => s) s
    else match clockOf s 0 with
      | some c => s.modHead n (fun h => { h with scan := { h.scan.fixLines (c.at_ 0) with seam := true } })
      | none => s
  s.modHead n (fun h => { h with
    ledger := if kind = 3 then { h.ledger with warmLeft := h.ledger.warmLeft - count, warmCount := h.ledger.warmCount + count } else h.ledger,
    scan := { h.scan with nextLatch := k + count, transition := h.scan.transition - count } })

/-- The latch point of a head's next frame, with what LATCH gives on a standby. A stop latches its balancing frame alone (R316); a timing
change that is due takes the frame's place (R322). -/
def State.latchHead (s : State) (n : Nat) (given : Option LatchGiven) : State :=
  let s := { s with sync := { s.sync with latchFor := none, latchWaited := false } }
  let h := s.head n
  let k := h.scan.nextLatch
  if !h.scans || h.scan.parking || (s.clockOf n k h.bandNow).isNone then s
  else if h.state = 5 then (if h.scan.stopFrame = some k then s.latchFrames n k given else s)
  else if h.scan.nextCfg.isSome then s
  else match s.latchDue n k true with
    | e :: _ => s.applyTiming n k e
    | [] => (s.latchEntries n k).latchFrames n k given

/-- What the LATCH of the active said of frame k, where it has arrived (R456). -/
def State.givenFor (s : State) (k : Nat) : Option LatchGiven :=
  match s.sync.latchFor with
  | some (f, band, e, dac, temp) => if f = k % 2 ^ 32 then some { band := band, e := e, dac := dac, temp := temp } else none
  | none => none

/-- LATCH_POINT (R224): a standby waits for the LATCH of the active (R456). -/
def execLatchPoint (head : Nat) (s : State) : Host.Outcome State Fault Refusal :=
  let h := s.head head
  let given := if s.standby then s.givenFor h.scan.nextLatch else none
  .next (
    if !h.scans then s
    else if s.standby && s.pair.linkUp && given.isNone then { s with sync := { s.sync with latchWaited := true } }
    else s.latchHead head given)

/-- LATCH (R456): kept until the standby's own latch point, or used at once where that has passed; one that arrives later counts. -/
def execLatch (frame band : Nat) (e : Int) (dac : Nat) (temp : Int) (s : State) : Host.Outcome State Fault Refusal :=
  let n := s.pairHead
  let k := (s.head n).scan.nextLatch
  .next (
    if !s.standby then s else
    let s := s.ackMsg
    if newer32 (frame % 2 ^ 32) (k % 2 ^ 32) = false ∧ frame % 2 ^ 32 ≠ k % 2 ^ 32 then
      { s with sync := { s.sync with latchLate := add64 s.sync.latchLate 1 } }
    else
      let s := { s with sync := { s.sync with latchFor := some (frame % 2 ^ 32, band, e, dac, temp) } }
      if s.sync.latchWaited && frame % 2 ^ 32 == k % 2 ^ 32 then s.latchHead n (s.givenFor k) else s)

/-- LATCH_WAIT_END (R456): the frame uses the standby's last values. -/
def execLatchWaitEnd (s : State) : Host.Outcome State Fault Refusal :=
  let n := s.pairHead
  let h := s.head n
  let last : LatchGiven := { band := h.bandNow, e := (h.scan.latched.getLast?.map (fun l => l.e)).getD 0, dac := h.vcom.dac,
                             temp := (h.therm.temp).getD (-32768) }
  .next (if s.standby && s.sync.latchWaited then s.latchHead n (some last) else s)

/-- SELECT_MSG (R457): kept for the composition start of its frame, or used at once where that waits. -/
def execSelectMsg (frame : Nat) (names : List (Nat × Nat)) (s : State) : Host.Outcome State Fault Refusal :=
  let n := s.pairHead
  .next (
    if !s.standby then s else
    let s := s.ackMsg
    let s := { s with sync := { s.sync with selects := some (frame % 2 ^ 32, names) } }
    if s.sync.selectWaited && !s.selectHeld n then s.composeHead n else s)

/-- SELECT_WAIT_END (R457): the standby selects by R146. -/
def execSelectWaitEnd (s : State) : Host.Outcome State Fault Refusal :=
  .next (if s.standby && s.sync.selectWaited then s.composeHead s.pairHead else s)

end Sys2Proof.Machine
end

