-- ==== Sys2Proof/Machine/Scan.lean ====
section
/-! DEFINITION. Scan-out (R305 to R319, R329 to R332, R356 to R365, R385 to R390): the start of a line, the balancing frame, the park
discharge, the stall watchdog, self-refresh, repeat frames, the end of the warm-up. -/

namespace Sys2Proof.Machine

/-! ## Moving on to the next frame -/

/-- The latched frame that follows the frame being scanned. -/
def Head.nextScan (h : Head) : Option Latched :=
  match (h.scan.latched.dropWhile (fun l => l.frame != h.scan.frame)) with
  | _ :: l :: _ => some l
  | [_] => none
  | [] => h.scan.latched.head?

/-- Whether the frame being scanned has ended: its last line has started, so that the next line is another frame's. -/
def Head.frameDone (h : Head) : Bool :=
  match h.latchedOf h.scan.frame with
  | some l => l.lines != 0 && decide (l.lines ≤ h.scan.line)
  | none => true

/-- The latched frames from the predecessor of a frame on. -/
def keepFrom (ls : List Latched) (k : Nat) : List Latched :=
  match ls with
  | a :: b :: r => if a.frame = k ∨ b.frame = k then a :: b :: r else keepFrom (b :: r) k
  | r => r

/-- Scan-out moves to its next latched frame: what concerned frames behind its predecessor is forgotten, and a timing change is over once
its transition frame has been scanned (R326). -/
def State.advance (s : State) (n : Nat) (l : Latched) : State :=
  let h := s.head n
  let ended := match h.latchedOf h.scan.frame with | some o => o.kind == 1 && l.kind != 1 | none => false
  let kept := keepFrom h.scan.latched l.frame
  let has := fun (k : Nat) => kept.any (fun x => x.frame == k)
  let s := s.modHead n (fun h => { h with
    shots := h.shots.filter (fun x => !x.composed || has x.frame || decide (h.scan.nextLatch ≤ x.frame)),
    scan := { h.scan with
      frame := l.frame, line := 0, latched := kept, ready := h.scan.ready.filter (fun x => has x.1),
      skippedRows := h.scan.skippedRows.filter (fun x => has x.1), balance := l.kind == 2,
      changing := h.scan.changing && !(ended && h.scan.nextCfg.isNone) } })
  let shots := (s.head n).shots
  s.forgetItems n (fun f => !has f && decide (f < h.scan.nextLatch) && shots.all (fun x => x.frame != f))

/-! ## Line packets -/

/-- The tile columns whose drive data of a line hold an uncorrectable word (R534): scan-out reads the first 8 bytes of each pixel. -/
def State.badColumns (s : State) (n : Nat) (l : Latched) (y : Nat) : List Nat × State :=
  let h := s.head n
  let a := h.ringAt l 0 y
  ((s.markedIn 1 a (16 * h.w)).filter (fun w => decide (w % 4 < 2))).foldl (fun acc w =>
    let (bad, s) := acc.2.checkWord 1 w
    (if bad then acc.1 ++ [(4 * w - a) / 256] else acc.1, s)) ([], s)

/-- What is sent for a subpixel column of a line, in the layout of TAP_DRIVE (R343): the ring's word, or code 0 in its pattern's sign
where the tile column's data are lost. -/
def State.sentWord (s : State) (n : Nat) (l : Latched) (bad : List Nat) (y col : Nat) : Nat :=
  let h := s.head n
  let p := (s.tile (h.tileAt (col / 48) (y / 8))).pattern
  if bad.contains (col / 48) then (if patSign p (y % 8) (col % 48) > 0 then 32768 else 0)
  else leNat (readBytes s.mem.sram (h.ringAt l (col / 3) y + 2 * (col % 3)) 2)

/-- The head subpixel column of a driver's channel (R349). -/
def Driver.column (x : Driver) (c : Nat) : Nat := if x.rev then x.first + x.ch - 1 - c else x.first + c

/-- PAT of a group whose columns show a tile's pattern (R360). -/
def patField (rev : Bool) (p : Nat) : Nat := if rev && decide (4 ≤ p) then Nat.xor p 1 else p

/-- One group of a LINE packet (R359, R360). -/
def State.groupBytes (s : State) (n : Nat) (l : Latched) (bad : List Nat) (y : Nat) (x : Driver) (used g : Nat) : List Byte :=
  let h := s.head n
  let tx := x.column (48 * g) / 48
  let p := if 48 * g < used then (s.tile (h.tileAt tx (y / 8))).pattern else 0
  let chan := (List.range 48).map (fun i =>
    let c := 48 * g + i
    if c < used then
      let col := x.column c
      let v := s.sentWord n l bad y col
      (v % 1024, (bit v 15) != decide (patSign p (y % 8) (col % 48) > 0))
    else (0, false))
  let sum := fun (w : Nat) (f : Nat × Bool → Nat) => ((List.range 48).zip chan).foldl (fun a z => a + f z.2 * 2 ^ (w * z.1)) 0
  leBytes 1 (patField x.rev p) ++ leBytes 1 0 ++ leBytes 6 (sum 1 (fun z => b2n z.2)) ++ leBytes 60 (sum 10 (fun z => z.1))

/-- The LINE field of a packet (R356). -/
def lineField (l : Latched) (y : Nat) : Nat := y % 2 ^ 18 + l.view % 4 * 2 ^ 18

/-- A packet of a line to every driver of a head that is UP (R365, R370). -/
def State.sendLine (s : State) (n : Nat) (l : Latched) (y type : Nat) (body : Nat → Driver → List Byte) : State :=
  (s.driversOf n).foldl (fun t d =>
    if (t.driver d).link = 4 then t.sendLink d (linkPacket type (s.lineRole l.frame y) (l.frame % 65536) (lineField l y) (body d (s.driver d))) else t) s

/-! ## Gate outputs -/

/-- The gate outputs over the pulse of line y of a frame (R386 to R388): `driven` says that the row's gates open, `pre` that the next
line is a line 0 and so that this is virtual line −1 of it. -/
def Pins.pulse (p : Pins) (g : Gate) (hh y : Nat) (driven pre : Bool) : Pins :=
  { p with gck := if y < hh + g.flush then 2 ^ (y % max 1 g.phases) else 0, stv := pre, goe := decide (y < hh) && driven, gallon := false }

/-- The gate outputs through a stretch without lines (R388, R389). -/
def Pins.quiet (p : Pins) : Pins := { p with gck := 0, stv := false, goe := false }

/-! ## Checks at the drive tap -/

/-- The CRC register of a check after a line of its rectangle (R343). -/
def crcWords (acc : Nat) (ws : List Nat) : Nat := (ws.flatMap (fun w => leBytes 2 w)).foldl crc32Byte acc

/-- Line y of a frame for the checks at the drive tap (R343, R344). -/
def State.driveChecks (s : State) (n : Nat) (l : Latched) (bad : List Nat) (y : Nat) (skipped : Bool) : State :=
  let one := fun (h : Head) (x : Check) => match x.cfg with
    | none => x
    | some p =>
      if p.tap ≠ 1 then x else
      let x := if y = p.y0 ∧ h.checkRuns p l = true then { x with acc := 0xFFFFFFFF, accFrame := some l.frame, accSkip := false, accDone := false } else x
      if x.accFrame ≠ some l.frame then x
      else if y = p.y0 + p.ch then { x with accDone := true }
      else if y < p.y0 ∨ y > p.y0 + p.ch then x
      else if skipped then { x with accSkip := true }
      else { x with acc := crcWords x.acc ((List.range (3 * p.cw)).map (fun i => s.sentWord n l bad y (3 * p.x0 + i))) }
  s.modHead n (fun h => { h with checks := h.checks.map (fun c => (c.1, one h c.2)) })

/-! ## The start of a line -/

/-- An active line starts: the line or skip packet goes out (R314, R356 to R362). -/
def State.activeLine (s : State) (n : Nat) (l : Latched) (y : Nat) : State × List Nat × Bool :=
  let s := if (s.head n).settled l.frame (y / 8) then s else s.skipRow n l.frame (y / 8) 1
  if (s.head n).scan.ready.contains (l.frame, y / 8) then
    let r := s.badColumns n l y
    (r.2.sendLine n l y 1 (fun d x => (List.range (x.ch / 48)).flatMap (fun g => r.2.groupBytes n l r.1 y x (r.2.chUsed d) g)), r.1, true)
  else (s.sendLine n l y 2 (fun _ _ => []), [], false)

/-- A blanking line starts: BLANK goes out, and the drivers' lanes reach a change point (R314, R362, R383). -/
def State.blankLine (s : State) (n : Nat) (l : Latched) (y : Nat) : State :=
  let s := s.sendLine n l y 3 (fun _ _ => [])
  (s.driversOf n).foldl (fun s d => (driverLanes d (s.driver d).lanes).foldl (fun s i => s.changePoint i) s) s

/-- The PHASE block of a line start, which the active of a pair sends (R445, R449). -/
def State.sendPhase (s : State) (l : Latched) (y : Nat) : State :=
  if s.pairActive then
    s.sendBlock 0x55 (leBytes 3 (l.frame % 16 * 4 + y % 2 ^ 18 * 64) ++ leBytes 4 ((l.clock.at_ y).toNat % uSec / 65536))
  else s

/-- After a hand-over that failed the outgoing device drives the gate nets again, a line after it has found that out (R466). -/
def State.redriveNets (s : State) (n : Nat) : State :=
  if s.sync.redrive then
    ({ s with sync := { s.sync with redrive := false }, pair := { s.pair with baton := true, batonOut := true } } : State).modHead n
      (fun h => { h with pins := { h.pins with driven := true } })
  else s

/-- Line y of the frame being scanned starts. -/
def State.startLine (s : State) (n : Nat) (l : Latched) : State :=
  let h := s.head n
  let y := h.scan.line
  let s := (s.redriveNets n).sendPhase l y
  let s := match h.allot.nextWm with
    | some (low, crit) => s.modHead n (fun h => { h with allot := { h.allot with low := low, crit := crit, nextWm := none } })
    | none => s
  let (s, bad, driven) := if y < h.hh then s.activeLine n l y else (s.blankLine n l y, [], false)
  let s := s.driveChecks n l bad y (!driven)
  let pre := (l.lines != 0 && y + 1 == l.lines && (match h.nextScan with | some q => q.frame == l.frame + 1 && !q.first | none => false)) ||
    (y == 0 && (match h.latchedBefore l.frame with | some p => p.frame + 1 != l.frame || l.first | none => true))
  let s := s.modHead n (fun h => { h with
    pins := h.pins.pulse h.gateNow h.hh y driven pre, scan := { h.scan with line := y + 1 } })
  if h.scan.nextCfg.isSome && (s.head n).drained then s.rasterNow n else s

/-- LINE_START (R306, R314): the next line of the frame being scanned, or line 0 of the frame that follows it; where no frame follows,
the outputs stay quiet (R329). -/
def execLineStart (head : Nat) (s : State) : Host.Outcome State Fault Refusal :=
  let h := s.head head
  .next (
    if !h.scans || h.scan.parking then s else
    let s := if h.frameDone then (match h.nextScan with | some l => s.advance head l | none => s) else s
    let h := s.head head
    match h.latchedOf h.scan.frame with
    | some l => if h.frameDone then s.setHead head { h with pins := h.pins.quiet } else s.startLine head l
    | none => s.setHead head { h with pins := h.pins.quiet })

/-! ## Stop and park -/

/-- BALANCING_FRAME (R298, R316): the completion frame has ended and the balancing frame is scanned. -/
def execBalancingFrame (head : Nat) (s : State) : Host.Outcome State Fault Refusal :=
  let h := s.head head
  .next (if h.state == 5 && h.frameDone && !h.scan.parking then
      (match h.nextScan with | some l => if l.kind = 2 then s.advance head l else s | none => s)
    else s)

/-- The ledger value of a subpixel after the closure at the discharge (R277, R298). -/
def State.parkValue (s : State) (n : Nat) (l : Latched) (dis : Nat) (x y col : Nat) : Int :=
  let h := s.head n
  let base := match h.cfg with | some c => c.psBase | none => 0
  let t := s.tile (h.tileAt (x / 16) (y / 8))
  let word := leNat (readBytes s.mem.store (stateAt base (y / 8 * h.tw + x / 16) (x % 16) (y % 8)) 8)
  let row := rowTimeAt n (y / 8) + 8 * (y % 8)
  let hold := holdTime dis (leNat (readBytes s.mem.sram row 4))
  let c := holdQ (l.q0 + l.e * ((dis : Int) - s.tauOf n l 0)) (leNat (readBytes s.mem.sram (row + 4) 4))
  let v := wordL word col
  if h.scan.ready.contains (l.frame, y / 8) then
    let (code, sign) := balanceCode v l.e (dis - s.tauOf n l y)
    clampI (-2047) 2047 (v + chargeOf (16 * sign * held (16 * code / 32) * hold + c))
  else (closeHold t.fresh v (wordD word col) t.pattern (y % 8) (3 * (x % 16) + col) hold c).1

/-- The largest |L| after the closure at the discharge (R298). -/
def State.parkMax (s : State) (n : Nat) (l : Latched) : Nat :=
  let h := s.head n
  let dis := s.tauAt n l (h.disTime l)
  (List.range h.hh).foldl (fun m y => (List.range h.w).foldl (fun m x =>
    [0, 1, 2].foldl (fun m c => max m (s.parkValue n l dis x y c).natAbs) m) m) 0

/-- PARK (R298, R318, R390): the discharge begins; DISCHARGE goes to every driver of the head, GALLON is asserted. -/
def execPark (head : Nat) (s : State) : Host.Outcome State Fault Refusal :=
  let h := s.head head
  .next (match h.latchedOf h.scan.frame with
    | some l =>
      if h.state == 5 && h.scan.balance && !h.scan.parking && decide (h.hh ≤ h.scan.line) then
        let most := s.parkMax head l
        let s := s.broadcast head 5 s.roleGen
        s.modHead head (fun h => { h with
          ledger := { h.ledger with parkL := most }, pins := { h.pins with gck := 0, stv := false, goe := true, gallon := true },
          scan := { h.scan with parking := true } })
      else s
    | none => s)

/-! ## Watchdog, self-refresh, follow, warm-up -/

/-- Whether some active line has gone without a committed write for HOLD_LIMIT on the hold clock (R319). -/
def State.stalled (s : State) (n : Nat) : Bool :=
  let h := s.head n
  let now := s.tauNow n
  (List.range h.hh).any (fun y =>
    let fresh := (List.range h.tw).any (fun tx => (s.tile (h.tileAt tx (y / 8))).fresh)
    let last := if fresh then h.scan.startTau else leNat (readBytes s.mem.sram (rowTimeAt n (y / 8) + 8 * (y % 8)) 4)
    decide (16 * h.sr.holdLimit ≤ diff32 (now % 2 ^ 32) (last % 2 ^ 32)))

/-- HEAD_STALL (R319): the head stops by R316. -/
def execHeadStall (head : Nat) (s : State) : Host.Outcome State Fault Refusal :=
  let h := s.head head
  .next (if h.stoppable && s.stalled head then (s.post 0xE061 head 0 (leBytes 4 h.scan.frame)).stopHead head else s)

/-- Whether a layer of a head has a routed source that is ACTIVE. -/
def State.activeSource (s : State) (n : Nat) : Bool :=
  (List.range 16).any (fun m => let r := (s.layer (16 * n + m)).route.route
                                r.kind == 1 && !(s.flow 0 r.source).lost)

/-- SR_ENTER (R327): a RUNNING head that allows self-refresh and has no ACTIVE source. -/
def execSrEnter (head : Nat) (s : State) : Host.Outcome State Fault Refusal :=
  let h := s.head head
  .next (if h.state == 3 && h.sr.mode != 0 && !s.activeSource head then s.enterSr head else s)

/-- SR_EXIT (R330). -/
def execSrExit (head : Nat) (s : State) : Host.Outcome State Fault Refusal :=
  .next (if (s.head head).state == 4 then s.exitSr head else s)

/-- The number of the frame that a FOLLOW head plans next (R331). -/
def Head.planNumber (h : Head) : Nat :=
  match h.scan.planned.getLast? with | some p => max (p.1 + 1) h.scan.nextLatch | none => h.scan.nextLatch

/-- Plans a frame with an epoch; the newest 16 are kept. -/
def Head.plan (h : Head) (e : Nat) : Head :=
  let l := h.scan.planned ++ [(h.planNumber, e)]
  { h with scan := { h.scan with planned := l.drop (l.length - 16), eLast := e } }

/-- A slot of the followed flow opens with FRAME_TIME f (R331). -/
def State.followPlan (s : State) (n f : Nat) : State :=
  let h := s.head n
  match h.cfg with
  | none => s
  | some c =>
    let e := f + nsU c.latency
    if !h.follows || !h.scans then s
    else if e < h.scan.eLast + followMin c then s.setHead n { h with counts := { h.counts with followDrop := add64 h.counts.followDrop 1 } }
    else if e < s.tp + leadOf c then s.setHead n { h with counts := { h.counts with followLate := add64 h.counts.followLate 1 } }
    else s.setHead n (h.plan e)

/-- FOLLOW_REPEAT (R332): a repeat frame at E_last + T_MAX. -/
def execFollowRepeat (head : Nat) (s : State) : Host.Outcome State Fault Refusal :=
  let h := s.head head
  .next (match h.cfg with
    | some c =>
      let e := h.scan.eLast + followMax c
      if h.follows && h.scans && decide (e ≤ s.tp + leadOf c) then
        s.setHead head { h.plan e with counts := { h.counts with followRepeat := add64 h.counts.followRepeat 1 } }
      else s
    | none => s)

/-- WARMUP_DONE (R297): the warm-up's frames have been scanned, and the head is RUNNING; a WARMUP_END takes effect with the first frame that
follows them. -/
def execWarmupDone (head : Nat) (s : State) : Host.Outcome State Fault Refusal :=
  let h := s.head head
  let past := match h.latchedOf h.scan.frame with | some l => l.kind != 3 || (h.frameDone && h.nextScan.all (fun q => q.kind != 3)) | none => false
  .next (if h.state == 2 && h.ledger.warmLeft == 0 && past then
      ((s.setHead head { h with state := 3, ledger := { h.ledger with warmEnding := false } }).post 0xE056 head 0
        (leBytes 4 h.ledger.warmCount)).endProcs 0x0708 head
          ((if (h.latchedOf h.scan.frame).any (fun l => l.kind == 3) then h.scan.frame + 1 else h.scan.frame) % 2 ^ 32) head true
    else s)

end Sys2Proof.Machine
end

