-- ==== Sys2Proof/Machine/NetRx.lean ====
section
/-! DEFINITION. Reception (R94 to R128): the checks of MAC, IP and UDP, control traffic, the flow lookup, RTP, policing, and delivery to
the video, audio and ancillary receivers. -/

namespace Sys2Proof.Machine

/-! ## Frames -/

/-- Bytes from offset `o` on. -/
def from_ (bs : List Byte) (o : Nat) : List Byte := bs.drop o

/-- The ones' complement sum of a byte string taken as big-endian 16-bit words. -/
def onesSum (bs : List Byte) : Nat :=
  let s := (List.range ((bs.length + 1) / 2)).foldl (fun a i => a + beAt bs (2 * i) 2) 0
  let s := s % 65536 + s / 65536
  s % 65536 + s / 65536

/-- Whether a byte string with its checksum field sums to all ones. -/
def sumOk (bs : List Byte) : Bool := onesSum bs % 65535 == 0 && onesSum bs != 0

/-- An IP multicast address (R94, R101). -/
def isMulticast (family dst : Nat) : Bool := if family = 6 then decide (dst / 2 ^ 120 = 255) else decide (dst / 2 ^ 28 = 14)

/-- The Ethernet address of an IP multicast group. -/
def groupMac (family dst : Nat) : Nat := if family = 6 then 0x3333 * 2 ^ 32 + dst % 2 ^ 32 else 0x01005E * 2 ^ 24 + dst % 2 ^ 23

/-- The PTP multicast addresses (R50, Annexes C and D of IEEE 1588). -/
def ptpMacs : List Nat := [groupMac 4 0xE0000181, 0x333300000181]

/-- Whether a port is configured for an enabled PTP domain (R100). -/
def State.ptpPort (s : State) (n : Nat) : Bool :=
  [0, 1].any (fun d => let x := s.domain d; x.state != 0 && (x.primary == n || x.backup == n))

/-- The legs of enabled receive flows on a port, each with its flow's kind and index and the leg number. -/
def State.portLegs (s : State) (n : Nat) : List (Nat × Nat × Nat × Leg) :=
  flowNums.flatMap (fun ki => let f := s.flow ki.1 ki.2
    if f.enabled then (f.legs.filter (fun l => l.2.port == n)).map (fun l => (ki.1, ki.2, l.1, l.2)) else [])

/-- Whether a port accepts a destination address (R94). -/
def State.acceptsMac (s : State) (n mac : Nat) : Bool :=
  let p := s.port n
  mac == p.mac || mac == 2 ^ 48 - 1 || (s.ptpPort n && ptpMacs.contains mac) ||
    (s.portLegs n).any (fun l => isMulticast l.2.2.2.family l.2.2.2.dst && groupMac l.2.2.2.family l.2.2.2.dst == mac)

/-- A frame past the MAC checks: its VID (0 untagged), EtherType, and payload without the FCS. -/
structure MacFrame where
  vid : Nat := 0
  etherType : Nat := 0
  payload : List Byte := []
  source : Nat := 0
  deriving DecidableEq, Repr

/-- Whether an EtherType is a VLAN tag's (R96). -/
def isTag (t : Nat) : Bool := t == 0x8100 || t == 0x88A8

/-- The MAC checks (R94 to R96): the port counter that a frame ends in, or the frame. -/
def State.macCheck (s : State) (n : Nat) (bs : List Byte) : Nat ⊕ MacFrame :=
  let len := bs.length
  let p := s.port n
  let t := beAt bs 12 2
  let tagged := isTag t
  let et := if tagged then beAt bs 16 2 else t
  let vid := if tagged then beAt bs 14 2 % 4096 else 0
  if len < 64 then .inl 1
  else if len > 9216 then .inl 2
  else if fieldAt bs (len - 4) 4 ≠ crc32 (bs.take (len - 4)) then .inl 0
  else if t = 0x8808 ∨ et = 0x8808 then .inl 4
  else if !s.acceptsMac n (beAt bs 0 6) then .inl 3
  else if (tagged && (isTag et || !p.vids.contains vid)) || (!tagged && !p.untagged) then .inl 5
  else .inr { vid := vid, etherType := et, payload := (bs.take (len - 4)).drop (if tagged then 18 else 14), source := beAt bs 6 6 }

/-- An IP packet past the checks of R97: family, source, destination, protocol, what follows its headers. -/
structure IpPacket where
  family : Nat := 4
  src : Nat := 0
  dst : Nat := 0
  proto : Nat := 0
  body : List Byte := []
  deriving DecidableEq, Repr

/-- Whether IPv4 options are nothing but Router Alert and padding (R97). -/
def onlyRouterAlert (bs : List Byte) : Bool :=
  match bs with
  | [] => true
  | b :: r =>
    if b = 0 then true
    else if b = 1 then onlyRouterAlert r
    else match bs with
      | b0 :: b1 :: _ :: _ :: r4 => b0 == 148 && b1 == 4 && (r4.all (fun x => x == 0 || x == 1))
      | _ => false

/-- The IPv4 checks of R97. -/
def ipv4 (bs : List Byte) : Option IpPacket :=
  let ihl := 4 * (beAt bs 0 1 % 16)
  let total := beAt bs 2 2
  let frag := beAt bs 6 2
  let proto := beAt bs 9 1
  let opts := (bs.take ihl).drop 20
  let ok := beAt bs 0 1 / 16 == 4 && decide (20 ≤ ihl ∧ ihl ≤ total ∧ total ≤ bs.length) && sumOk (bs.take ihl) &&
    frag % 16384 == 0 && ((proto == 17 && ihl == 20) || (proto == 1 && ihl == 20) || (proto == 2 && onlyRouterAlert opts))
  if ok then some { family := 4, src := beAt bs 12 4, dst := beAt bs 16 4, proto := proto, body := (bs.take total).drop ihl } else none

/-- The IPv6 checks of R97. -/
def ipv6 (bs : List Byte) : Option IpPacket :=
  let len := beAt bs 4 2
  let nh := beAt bs 6 1
  let body := (bs.drop 40).take len
  let base : IpPacket := { family := 6, src := beAt bs 8 16, dst := beAt bs 24 16 }
  if beAt bs 0 1 / 16 ≠ 6 ∨ bs.length < 40 + len then none
  else if nh = 17 ∨ nh = 58 then some { base with proto := nh, body := body }
  else if nh = 0 ∧ beAt body 0 1 = 58 ∧ 8 * (beAt body 1 1 + 1) ≤ len then
    some { base with proto := 58, body := body.drop (8 * (beAt body 1 1 + 1)) }
  else none

/-- The pseudo header that a UDP checksum covers. -/
def pseudoHeader (p : IpPacket) (len : Nat) : List Byte :=
  if p.family = 6 then (leBytes 16 p.src).reverse ++ (leBytes 16 p.dst).reverse ++ (leBytes 4 len).reverse ++ [0, 0, 0, 17]
  else (leBytes 4 p.src).reverse ++ (leBytes 4 p.dst).reverse ++ [0, 17] ++ (leBytes 2 len).reverse

/-- The UDP checks of R98: destination port and payload. -/
def udp (p : IpPacket) : Option (Nat × List Byte) :=
  let len := beAt p.body 4 2
  let sum := beAt p.body 6 2
  if len < 8 ∨ p.body.length < len then none
  else if sum = 0 then (if p.family = 6 then none else some (beAt p.body 2 2, (p.body.take len).drop 8))
  else if sumOk (pseudoHeader p len ++ p.body.take len) then some (beAt p.body 2 2, (p.body.take len).drop 8)
  else none

/-- A frame for firmware goes on the port's queue of 256, or is counted in CTRL_DROP (R100). -/
def State.toFirmware (s : State) (n : Nat) (bs : List Byte) : State :=
  let p := s.port n
  if p.ctrl.length < 256 then s.setPort n { p with ctrl := p.ctrl ++ [bs] } else s.portCount n 7 1

/-- The leg that a UDP packet matches (R102): one that names its source before one with ANY. -/
def State.findLeg (s : State) (n vid : Nat) (p : IpPacket) (port : Nat) : Option (Nat × Nat × Nat × Leg) :=
  let hits := (s.portLegs n).filter (fun l => let g := l.2.2.2
    g.family == p.family && g.dst == p.dst && g.udp == port && g.vlan == vid && (g.named == 0 || g.src == p.src))
  match hits.find? (fun l => l.2.2.2.named != 0) with | some l => some l | none => hits.head?

/-! ## RTP -/

/-- An RTP packet: marker, payload type, sequence number, timestamp, SSRC, where the payload starts, the packet without padding. -/
structure Rtp where
  marker : Bool := false
  pt : Nat := 0
  seq : Nat := 0
  ts : Nat := 0
  ssrc : Nat := 0
  start : Nat := 0
  packet : List Byte := []
  deriving DecidableEq, Repr

/-- Parses RTP (R103): version 2, padding removed, CSRC list and header extension skipped. -/
def parseRtp (bs : List Byte) : Option Rtp :=
  let b0 := beAt bs 0 1
  let csrc := 12 + 4 * (b0 % 16)
  let start := if bit b0 4 then csrc + 4 + 4 * beAt bs (csrc + 2) 2 else csrc
  let pad := if bit b0 5 then beAt bs (bs.length - 1) 1 else 0
  if b0 / 64 ≠ 2 ∨ bs.length < start + pad ∨ bs.length < 12 ∨ (bit b0 5 && pad == 0) = true then none
  else some { marker := bit (beAt bs 1 1) 7, pt := beAt bs 1 1 % 128, seq := beAt bs 2 2, ts := beAt bs 4 4, ssrc := beAt bs 8 4, start := start,
              packet := bs.take (bs.length - pad) }

/-- The payload of an RTP packet. -/
def Rtp.payload (r : Rtp) : List Byte := r.packet.drop r.start

/-- The whole seconds' count nearest to an arrival that a 32-bit timestamp of a clock of `f` Hz stands for (R72). -/
def nearestCount (f ts stamp : Nat) : Nat :=
  ts + ((rdivUp ((stamp : Int) * f / uSec - ts) (2 ^ 32)).toNat) * 2 ^ 32

/-- A count of a clock of `f` Hz as a time in 2^-16 ns, to nearest. -/
def countTime (f n : Nat) : Nat := (2 * n * uSec + f) / (2 * f)

/-- The extended sequence number nearest to the last one, for a stream whose packets carry 16 bits. -/
def nearSeq (last : Option Nat) (seq : Nat) : Nat :=
  match last with
  | none => seq
  | some x => let up := (seq + 65536 - x % 65536) % 65536
              if up < 32768 then (x + up) % 2 ^ 32 else (x + 2 ^ 32 - (65536 - up)) % 2 ^ 32

/-! ## Policing -/

/-- The token bucket of a leg (R126): whether a payload of `n` bytes passes, and the leg after it. -/
def police (c : FlowSetP) (l : LegState) (now n : Nat) : Bool × LegState :=
  let (num, den) := declared c.kind c.format
  let unit := 10 * uSec * den
  let have_ := min (unit * bucketOf c) (l.tokens + (now - l.stamp) * 11 * num)
  if have_ < unit * n then (false, { l with tokens := have_, stamp := now, policed := add64 l.policed 1 })
  else (true, { l with tokens := have_ - unit * n, stamp := now })

/-! ## Merging -/

/-- The sequence window of a flow (R119). -/
abbrev seqWindow : Nat := 131072

/-- The newest extended sequence number remembered. -/
def newestSeq (seen : List Nat) : Option Nat :=
  seen.foldl (fun b x => match b with | some y => if newer32 x y then some x else some y | none => some x) none

/-- Whether a number lies behind the window (R119). -/
def staleSeq (seen : List Nat) (x : Nat) : Bool :=
  match newestSeq seen with
  | some y => newer32 y x && decide (seqWindow ≤ diff32 y x)
  | none => false

/-- Remembers a number and forgets what falls out of the window. -/
def rememberSeq (seen : List Nat) (x : Nat) : List Nat :=
  let l := if seen.contains x then seen else seen ++ [x]
  match newestSeq l with | some y => l.filter (fun z => decide (diff32 y z < seqWindow)) | none => l

/-! ## Video -/

/-- One SRD header (R107): length in octets, row, field flag, pixel offset. -/
structure Srd where
  len : Nat := 0
  row : Nat := 0
  field : Bool := false
  offset : Nat := 0
  deriving DecidableEq, Repr

/-- The SRD headers from an offset of the payload header on; none where a fourth would follow. -/
def parseSrds (bs : List Byte) (o fuel : Nat) : Option (List Srd) :=
  match fuel with
  | 0 => none
  | f + 1 =>
    if bs.length < o + 6 then none else
    let h : Srd := { len := beAt bs o 2, field := bit (beAt bs (o + 2) 2) 15, row := beAt bs (o + 2) 2 % 32768, offset := beAt bs (o + 4) 2 % 32768 }
    if bit (beAt bs (o + 4) 2) 15 then (parseSrds bs (o + 6) f).map (fun l => h :: l) else some [h]

/-- The rows that a segment, field or frame numbers (R107, R110). -/
def srdRows (f : Format) : Nat := if f.scanning = 0 then f.height else f.height / 2

/-- Whether an SRD is one that R108 accepts. -/
def srdOk (f : Format) (h : Srd) : Bool :=
  let (oct, cols, rows) := pgroup f
  decide (h.row < srdRows f) && h.row % rows == 0 && h.len % oct == 0 && h.offset % cols == 0 &&
    decide (h.offset + h.len / oct * cols ≤ f.width)

/-- The samples of one pgroup (ST 2110-20): plane, column and line within the group, in wire order. -/
def pgroupLayout (f : Format) : List (Nat × Nat × Nat) :=
  match f.sampling with
  | 0 => [(1, 0, 0), (0, 0, 0), (2, 0, 0), (0, 1, 0)]
  | 1 =>
    let part := fun (x : Nat) => [(0, 2 * x, 0), (0, 2 * x + 1, 0), (0, 2 * x, 1), (0, 2 * x + 1, 1), (1, x, 0), (2, x, 0)]
    if f.depth = 8 then part 0 else part 0 ++ part 1
  | 2 => (List.range (if f.depth = 8 then 1 else 4)).flatMap (fun i => [(1, i, 0), (0, i, 0), (2, i, 0)])
  | _ => (List.range (if f.depth = 8 then 1 else 4)).flatMap (fun i => [(2, i, 0), (0, i, 0), (1, i, 0)])

/-- Columns of plane k for `x` columns of plane 0. -/
def planeCol (f : Format) (k x : Nat) : Nat := if k = 0 ∨ 2 ≤ f.sampling then x else x / 2

/-- Lines of plane k for `y` lines of plane 0. -/
def planeRow (f : Format) (k y : Nat) : Nat := if k = 0 ∨ f.sampling ≠ 1 then y else y / 2

/-- The line of a slot that a row of an SRD lies on: PsF weaves its segments (R110). -/
def slotRow (f : Format) (h : Srd) (l : Nat) : Nat := if f.scanning = 2 then 2 * (h.row + l) + b2n h.field else h.row + l

/-- Writes the pgroups of an SRD into a slot (R109): 8-bit samples are stored multiplied by 4. -/
def State.putSrd (s : State) (c : FlowSetP) (j : Nat) (h : Srd) (bs : List Byte) : State :=
  let f := c.format
  let (oct, cols, _) := pgroup f
  let base := slotBase c j
  let lay := pgroupLayout f
  (List.range (h.len / oct)).foldl (fun s g =>
    let v := beAt bs (oct * g) oct
    ((List.range lay.length).zip lay).foldl (fun s il =>
      let (i, k, x, y) := il
      let w := if f.depth = 8 then 8 else 10
      let d := v / 2 ^ (8 * oct - w * (i + 1)) % 2 ^ w
      let col := planeCol f k (h.offset + g * cols) + x
      let row := if f.sampling = 1 ∧ k ≠ 0 then planeRow f k (slotRow f h 0) + y else slotRow f h y
      s.putSample (base + planeBase f k) (pitch (planeSize f k).1) col row (if f.depth = 8 then 4 * d else d)) s) s

/-- The open slots of a flow with their numbers. -/
def RxFlow.open_ (f : RxFlow) : List (Nat × Slot) := ((List.range f.slots.length).zip f.slots).filter (fun x => x.2.state == 1)

/-- The oldest of some slots by frame number; a FREE slot is older than any other. -/
def oldestSlot (l : List (Nat × Slot)) : Option (Nat × Slot) :=
  let age := fun (d : Slot) => if d.state = 0 then 0 else d.seq + 1
  l.foldl (fun b x => match b with | some y => if age x.2 < age y.2 then some x else some y | none => some x) none

/-- The slot in which a new frame opens (R112). -/
def RxFlow.slotFor (f : RxFlow) : Option Nat :=
  let keep := newestComplete f
  let l := ((List.range f.slots.length).zip f.slots).filter (fun x =>
    x.2.readers == 0 && x.2.state != 1 && (match keep with | some y => x.1 != y.1 | none => true))
  (oldestSlot l).map (fun x => x.1)

/-- Where as many slots are open as the flow may hold open, the oldest is closed first (R115, R116). -/
def State.makeRoom (s : State) (i : Nat) (c : FlowSetP) : State :=
  if openDepth c ≤ (s.flow 0 i).open_.length then
    (match oldestSlot (s.flow 0 i).open_ with | some x => s.closeSlot i x.1 false | none => s)
  else s

/-- Every head that follows the flow plans its frame from the time of the frame that opens (R331). -/
def State.planFollowers (s : State) (i time : Nat) : State :=
  headNums.foldl (fun s n => if (s.head n).follows && (match (s.head n).cfg with | some q => q.followed == i | none => false) then
    s.followPlan n time else s) s

/-- FRAME_TIME of the frame whose RTP timestamp is given, the count nearest the packet's arrival (R111). -/
def frameTimeAt (rtp stamp : Nat) : Nat := countTime 90000 (nearestCount 90000 rtp stamp)

/-- The descriptor of a frame that opens (R110, R111). -/
def State.newSlot (s : State) (i : Nat) (c : FlowSetP) (r : Rtp) (second : Bool) (stamp : Nat) : Slot :=
  { state := 1, field := c.format.scanning == 1, second := c.format.scanning == 1 && second, changed := (s.flow 0 i).formatChanged, rtpTs := r.ts,
    frameTime := frameTimeAt r.ts stamp, tpGen := s.time.tpGen, first := stamp, missing := frameBytes c.format, seq := (s.flow 0 i).frames % 2 ^ 32 }

/-- A frame opens in the slot given; none where no slot qualifies, and NO_SLOT counts. -/
def State.openIn (s : State) (i : Nat) (c : FlowSetP) (r : Rtp) (second : Bool) (stamp : Nat) : Option Nat → State
  | none => s.setFlow 0 i { s.flow 0 i with noSlot := add64 (s.flow 0 i).noSlot 1, skipTs := some r.ts }
  | some j =>
    ((s.setFlow 0 i { s.flow 0 i with frames := (s.flow 0 i).frames + 1, formatChanged := false, skipTs := none }).putSlot i j
      (s.newSlot i c r second stamp)).planFollowers i (frameTimeAt r.ts stamp)

/-- A frame opens (R111, R112, R115) in the slot that R112 picks. -/
def State.openFrame (s : State) (i : Nat) (c : FlowSetP) (r : Rtp) (second : Bool) (stamp : Nat) : Option Nat × State :=
  let s := s.makeRoom i c
  let j := (s.flow 0 i).slotFor
  (j, s.openIn i c r second stamp j)

/-- Where a video packet goes (R115, R120): an open frame, a new one, or nowhere. -/
def State.videoSlot (s : State) (i : Nat) (c : FlowSetP) (r : Rtp) (second : Bool) (stamp : Nat) : Option Nat × State :=
  let f := s.flow 0 i
  match f.open_.find? (fun x => x.2.rtpTs == r.ts) with
  | some x => (some x.1, s)
  | none =>
    if f.skipTs = some r.ts then (none, s)
    else if f.open_.all (fun x => newer32 r.ts x.2.rtpTs) && f.slots.all (fun d => d.state == 0 || d.rtpTs != r.ts) then
      s.openFrame i c r second stamp
    else (none, s.setFlow 0 i { f with latePkt := add64 f.latePkt 1 })

/-- A packet is written to its frame (R111, R116, R118): a number already seen adds nothing to the count. -/
def State.videoWrite (s : State) (i j leg : Nat) (c : FlowSetP) (r : Rtp) (hs : List Srd) (body : List Byte) (ext stamp : Nat) : State :=
  let again := (s.flow 0 i).seen.contains ext
  let s := (hs.foldl (fun (acc : State × Nat) h => (acc.1.putSrd c j h ((body.drop acc.2).take h.len), acc.2 + h.len)) (s, 0)).1
  let d := s.slot i j
  let d := { d with
    legA := d.legA || leg == 0, legB := d.legB || leg == 1,
    missing := if again then d.missing else d.missing - body.length, packets := if again then d.packets else d.packets + 1,
    markerAt := if r.marker && d.markerAt.isNone then some stamp else d.markerAt }
  let s := s.putSlot i j d
  let f := s.flow 0 i
  let s := s.setFlow 0 i { f with seen := rememberSeq f.seen ext }
  if d.missing = 0 then s.closeSlot i j false else s

/-- A counter of a leg. -/
def State.legCount (s : State) (k i leg : Nat) (g : LegState → LegState) : State :=
  let f := s.flow k i
  s.setFlow k i (f.setLeg leg (g (f.leg leg)))

/-- Merging by R118 and R119: whether a packet is to be written; a copy or a stale packet is counted. -/
def State.merge (s : State) (k i : Nat) (c : FlowSetP) (ext : Nat) : Bool × State :=
  let f := s.flow k i
  if staleSeq f.seen ext then (false, s.setFlow k i { f with stale := add64 f.stale 1 })
  else if c.legBPresent ≠ 0 ∧ f.seen.contains ext then (false, s.setFlow k i { f with dup := add64 f.dup 1 })
  else (true, s)

/-- Delivery to the video receiver (R106 to R120). -/
def State.video (s : State) (i leg : Nat) (c : FlowSetP) (r : Rtp) (hs : Option (List Srd)) (ext stamp : Nat) : State :=
  match hs with
  | none => s.legCount 0 i leg (fun l => { l with bad := add64 l.bad 1 })
  | some hs =>
    let body := r.payload.drop (2 + 6 * hs.length)
    if !hs.all (srdOk c.format) || (hs.foldl (fun a h => a + h.len) 0) != body.length then
      s.legCount 0 i leg (fun l => { l with bad := add64 l.bad 1 })
    else
      let (go, s) := s.merge 0 i c ext
      if !go then s else
      let (slot, s) := s.videoSlot i c r (hs.any (fun h => h.field)) stamp
      match slot with
      | some j => s.videoWrite i j leg c r hs body ext stamp
      | none => s

/-! ## Audio and ancillary -/

/-- Delivery to the audio receiver (R121 to R123). -/
def State.audioIn (s : State) (i leg : Nat) (c : FlowSetP) (r : Rtp) (ext stamp : Nat) : State :=
  let n := c.format.channels
  let body := r.payload
  let len := ringFrames c
  let t0 := nearestCount 48000 r.ts stamp
  let off : Int := (countTime 48000 t0 : Int) - stamp
  if body.length % (3 * n) ≠ 0 then s.legCount 1 i leg (fun l => { l with bad := add64 l.bad 1 })
  else if 2 * 48000 * off.natAbs > len * uSec then s.legCount 1 i leg (fun l => { l with outOfWindow := add64 l.outOfWindow 1 })
  else
    let (go, s) := s.merge 1 i c ext
    if !go then s else
    let s := (List.range (body.length / 3)).foldl (fun s k =>
      let t := t0 + k / n
      s.putMem 0 (c.bases.getD 0 0 + 4 * (n * (t % len) + k % n)) (leBytes 4 (256 * beAt body (3 * k) 3 + t / len % 256))) s
    let f := s.flow 1 i
    s.setFlow 1 i { f with seen := rememberSeq f.seen ext }

/-- The offset at which a record of `n` bytes goes in a ring of `size` with write and read offsets `w` and `r` (R125); the second
component says that a wrap marker precedes it. -/
def ancPlace (size w r n : Nat) : Option (Nat × Bool) :=
  if w < r then (if w + n < r then some (w, false) else none)
  else if w + n < size ∨ (w + n = size ∧ 0 < r) then some (w, false)
  else if n < r then some (0, true)
  else none

/-- Delivery to the ancillary receiver (R124, R125). -/
def State.ancIn (s : State) (i leg : Nat) (c : FlowSetP) (r : Rtp) (ext stamp : Nat) : State :=
  let (go, s) := s.merge 2 i c ext
  if !go then s else
  let f := s.flow 2 i
  let base := c.bases.getD 0 0
  let n := 32 + ceilDiv r.packet.length 32 * 32
  let (rd, s) := s.getMem 0 (c.descriptors + 4) 4
  match ancPlace c.ringLength f.ringWrite (leNat rd) n with
  | none => s.setFlow 2 i { f with ancOverflow := add64 f.ancOverflow 1, gap := true }
  | some (o, wrap) =>
    let s := if wrap then s.putMem 0 (base + f.ringWrite) (leBytes 4 0xFFFFFFFF) else s
    let hd := leBytes 4 r.packet.length ++ leBytes 2 (leg + 2 * b2n f.gap) ++ leBytes 2 s.time.tpGen ++ timeBytes stamp ++ leBytes 4 r.ts ++
      leBytes 4 ext ++ leBytes 4 0
    let s := s.putMem 0 (base + o) (sliceBytes (hd ++ r.packet) 0 n)
    let w := if o + n = c.ringLength then 0 else o + n
    let s := s.setFlow 2 i { f with ringWrite := w, gap := false, seen := rememberSeq f.seen ext }
    s.putMem 0 c.descriptors (leBytes 4 w)

/-! ## Classification of a matched packet -/

/-- The extended sequence number of a packet (R117): the extension of ST 2110-20 and ST 2110-40 in the payload, none in audio. -/
def extSeq (kind : Nat) (last : Option Nat) (r : Rtp) : Nat :=
  if kind = 1 then nearSeq last r.seq else 65536 * beAt r.payload 0 2 + r.seq

/-- Whether a packet passes the RTP checks of its entry (R103). -/
def rtpOk (c : FlowSetP) (r : Rtp) : Bool :=
  (c.payloadType == 255 || c.payloadType == r.pt) && (c.ssrcAny != 0 || c.ssrc == r.ssrc) && (c.kind == 1 || decide (2 ≤ r.payload.length))

/-- A packet that matched a leg (R103, R117, R126, R128). In a yo-yo window it is classified and counted, and nothing is written
(R129). -/
def State.legPacket (s : State) (kind i leg : Nat) (body : List Byte) (stamp : Nat) (window : Bool) : State :=
  let s := if window then s else s.legActive kind i leg
  let f := s.flow kind i
  match f.cfg with
  | none => s
  | some c =>
    let s := s.legCount kind i leg (fun l => { l with packets := add64 l.packets 1, bytes := add64 l.bytes body.length })
    match (parseRtp body).filter (rtpOk c) with
    | none => s.legCount kind i leg (fun l => { l with rtpBad := add64 l.rtpBad 1 })
    | some r =>
      let srds := if kind = 0 then parseSrds r.payload 2 3 else none
      let media := r.payload.length - (if kind = 0 then 2 + 6 * (match srds with | some h => h.length | none => 3) else 0)
      let l := (s.flow kind i).leg leg
      let (pass, l) := police c l stamp media
      let s := s.legCount kind i leg (fun _ => l)
      if !pass then s else
      let ext := extSeq kind (newestSeq f.seen) r
      let gap := match l.seq with | some q => (q + 1) % 2 ^ 32 != ext | none => false
      let s := s.legCount kind i leg (fun l => { l with seq := some ext, seqGap := if gap then add64 l.seqGap 1 else l.seqGap })
      let s := if gap then let f := s.flow kind i; s.setFlow kind i { f with gap := true } else s
      if window then s
      else match kind with
        | 0 => s.video i leg c r srds ext stamp
        | 1 => s.audioIn i leg c r ext stamp
        | _ => s.ancIn i leg c r ext stamp

/-- The arrival stamp of a frame on a port (R55, R57): 0.25 ns resolution, with the port's calibration. -/
def State.stampOn (s : State) (n : Nat) : Nat :=
  ((s.tp / 16384 * 16384 : Nat) + spGet s.timeRegs.calRx 0 n * 4096 : Int).toNat

/-- Whether a port receives (R91, R129): it is up, or it has lock inside a yo-yo window. -/
def State.portReceives (s : State) (n : Nat) : Bool :=
  s.portExists n && ((s.yoyo n).on && (s.yoyo n).window && s.portLock n || !(s.yoyo n).on && (s.port n).up)

/-- FRAME_RECEIVE (R94 to R103): the checks in their order, each discard in exactly one counter (R127). -/
def execFrameReceive (port : Nat) (bytes : List Byte) (fifoFull : Bool) (s : State) : Host.Outcome State Fault Refusal :=
  let stamp := s.stampOn port
  let window := (s.yoyo port).on
  .next (
    if !s.portReceives port then s else
    let s := (s.portCount port 11 1).portCount port 12 bytes.length
    if fifoFull then s.portCount port 9 1 else
    match s.macCheck port bytes with
    | .inl k => s.portCount port k 1
    | .inr m =>
      if m.etherType = 0x0806 then s.toFirmware port bytes else
      let ip := if m.etherType = 0x0800 then ipv4 m.payload else if m.etherType = 0x86DD then ipv6 m.payload else none
      match ip with
      | none => s.portCount port 6 1
      | some p =>
        if p.proto ≠ 17 then s.toFirmware port bytes else
        match udp p with
        | none => s.portCount port 6 1
        | some (dst, body) =>
          if (dst = 319 ∨ dst = 320) ∧ s.ptpPort port = true then s.toFirmware port bytes else
          match s.findLeg port m.vid p dst with
          | none => s.portCount port 8 1
          | some (kind, i, leg, _) =>
            let s := if window then (let y := s.yoyo port
                                     s.setYoyo port { y with matched := if y.matched.contains (64 * kind + i) then y.matched else y.matched ++ [64 * kind + i] })
              else s
            s.legPacket kind i leg body stamp window)

end Sys2Proof.Machine
end

