-- ==== Sys2Proof/Machine/Audio.lean ====
section
/-! DEFINITION. Audio as shared operations (R122, R178 to R184): the samples of a followed flow, the crossfade, what a head's TDM port and
a transmit flow play. -/

namespace Sys2Proof.Machine

/-! ## Crossfade -/

/-- π in units of 2^-128. -/
abbrev pi128 : Int := 1069028584064966747859680373161870783301

/-- The cosine series from term k on, in units of 2^-128: `t` is the k-th term, `x2` the square of the angle. -/
def cosSeries (fuel k : Nat) (t x2 acc : Int) : Int :=
  match fuel with
  | 0 => acc
  | f + 1 => let u := -(t * x2 / 2 ^ 128) / (((2 * k + 1) * (2 * k + 2) : Nat) : Int)
             cosSeries f (k + 1) u x2 (acc + u)

/-- The cosine of π × (m + 0.5) / 192 in units of 2^-128 (R179). -/
def fadeCos (m : Nat) : Int :=
  let x := pi128 * (2 * m + 1 : Nat) / 384
  cosSeries 40 0 (2 ^ 128) (x * x / 2 ^ 128) (2 ^ 128)

/-- Sample m of a crossfade (R179). -/
def fadeMix (old new : Int) (m : Nat) : Int :=
  clampI (-8388608) 8388607 (rdiv (old * (2 ^ 128 + fadeCos m) + new * (2 ^ 128 - fadeCos m)) (2 ^ 129))

/-! ## Samples -/

/-- One channel of a flow at media-clock time t (R122): the sample, whether it was missing (R180), the state after the read. A flow that is
not set, or has no such channel, is silent. -/
def State.flowSample (s : State) (flow ch : Nat) (t : Int) : Int × Nat × State :=
  match (s.flow 1 flow).cfg with
  | none => (0, 0, s)
  | some c =>
    let len := ringFrames c
    let n := c.format.channels
    if 64 ≤ flow ∨ n ≤ ch then (0, 0, s)
    else if t < 0 then (0, 1, s)
    else
      let (bs, s) := s.getMem 0 (c.bases.getD 0 0 + 4 * (n * (t.toNat % len) + ch)) 4
      let w := leNat bs
      if w % 256 = t.toNat / len % 256 then (sx 24 (w / 256), 0, s) else (0, 1, s)

/-- Input channel `i` of what an association plays at media-clock time t. -/
def State.assocSample (s : State) (a : Assoc) (i : Nat) (t : Int) : Int × Nat × State :=
  let ch := a.map.getD i 255
  if a.flow = 255 ∨ ch = 255 then (0, 0, s) else s.flowSample a.flow ch t

/-- Input channel `i` of an audio destination at output sample n (R179 to R181): `new` plays, or the crossfade from the old side. -/
def State.destSample (s : State) (new : Assoc) (fade : Option Crossfade) (i n : Nat) (d : Int) : Int × Nat × State :=
  let t : Int := (n : Int) - d
  match fade with
  | none => s.assocSample new i t
  | some f =>
    if n < f.start then s.assocSample f.old i t
    else if f.start + 192 ≤ n then s.assocSample new i t
    else
      let (a, x, s) := s.assocSample f.old i t
      let (b, y, s) := s.assocSample new i t
      (fadeMix a b (n - f.start), x + y, s)

/-- Output channels through a channel map (R500): the samples, the samples missing, the state after the reads. -/
def State.mapSamples (s : State) (new : Assoc) (fade : Option Crossfade) (inputs : List Nat) (n : Nat) (d : Int) : List Int × Nat × State :=
  inputs.foldl (fun (acc : List Int × Nat × State) i =>
    let (v, g, s) := if i = 255 then (0, 0, acc.2.2) else acc.2.2.destSample new fade i n d
    (acc.1 ++ [v], acc.2.1 + g, s)) ([], 0, s)

/-- A crossfade that has ended by output sample n. -/
def fadeLeft (f : Option Crossfade) (n : Nat) : Option Crossfade :=
  match f with | some x => if x.start + 192 ≤ n then none else some x | none => none

/-! ## TDM ports -/

/-- The yo-yo unit of a head's TDM port (R504). -/
def tdmUnit (n : Nat) : Nat := 48 + n

/-- Whether a head's TDM port sends samples: enabled, outside the wind-down, not on a standby (R183, R184, R426, R460). -/
def State.tdmRuns (s : State) (n : Nat) : Bool := (s.head n).audio.tdm && !s.sys.windDown && !s.sys.txHeld && !s.standby

/-- Output sample k of a head's audio is emitted (R181, R182, R184): zeros while muted and inside a yo-yo window, which takes note of a
signal (R580). -/
def State.headSample (s : State) (n k : Nat) : State :=
  let a := (s.head n).audio
  let y := s.yoyo (tdmUnit n)
  let r := s.mapSamples (s.assocOf (s.dest (s.audioDest n)).route) a.fade ((List.range 8).map (fun c => a.map.getD c 255)) k (s.headDelay n)
  let vs := r.1
  let gap := r.2.1
  let s := r.2.2
  let loud := vs.any (fun v => decide (4096 ≤ v.natAbs))
  let s := if y.on && y.window && loud then s.setYoyo (tdmUnit n) { y with signal := true } else s
  s.modHead n (fun h => { h with audio := { h.audio with
    out := if h.audio.muted || y.on then List.replicate 8 0 else vs, gap := add64 h.audio.gap gap, fade := fadeLeft h.audio.fade (k + 1), next := k + 1 } })

/-- The output sample in progress at TP (R182). -/
def State.sampleNow (s : State) : Nat := s.tp * 48000 / uSec

/-- The samples of the heads' TDM ports that TP has reached are emitted. -/
def State.emitSamples (s : State) : State :=
  let k := s.sampleNow
  headNums.foldl (fun s n =>
    if !s.tdmRuns n || ((s.yoyo (tdmUnit n)).on && !(s.yoyo (tdmUnit n)).window) || (s.head n).audio.next == k + 1 then s
    else s.headSample n k) s

/-! ## Transmit audio flows -/

/-- What a transmit audio flow plays (R178): the associated audio of its output's route, or an audio flow directly. -/
def State.txAssoc (s : State) (x : TxAudio) : Assoc :=
  if x.follows = 0 then s.assocOf (s.output x.index).route.route else { flow := x.index, map := List.range 64 }

/-- The input channel of output channel c: by the channel map, itself where no map names it. -/
def TxAudio.input (x : TxAudio) (c : Nat) : Nat := x.map.getD c c

/-- The payload of an audio packet (R138): `frames` sample frames from media-clock time `t0`, in L24. -/
def State.txPayload (s : State) (u channels frames t0 : Nat) : List Byte × State :=
  let x : TxAudio := spGet s.txAudio {} u
  let d := s.txDelay u
  let (bs, gap, s) := (List.range frames).foldl (fun (acc : List Byte × Nat × State) i =>
    let (vs, g, s) := acc.2.2.mapSamples (s.txAssoc x) x.fade ((List.range channels).map x.input) (t0 + i) d
    (acc.1 ++ vs.flatMap (fun v => (leInt 3 v).reverse), acc.2.1 + g, s)) ([], 0, s)
  let y : TxAudio := spGet s.txAudio {} u
  (bs, { s with txAudio := spSet {} s.txAudio u { y with gap := add64 y.gap gap, fade := fadeLeft y.fade (t0 + frames) } })

end Sys2Proof.Machine
end

