-- ==== Sys2Proof/Machine/TimeEvents.lean ====
section
/-! DEFINITION. Time as it passes: the tick (R44 to R69), automatic selection (R67), the PTP domains' messages and timeouts (R50 to R54),
the event pins (R80 to R86). -/

namespace Sys2Proof.Machine

/-! ## The tick -/

/-- The nominal increment of 1.25 ns in 2^-48 ns (R44). -/
abbrev nominalInc : Nat := 5 * 2 ^ 46

/-- The increment for a rate adjustment in 2^-16 ppb (R44, R45). -/
def incOf (rate : Int) : Nat := ((nominalInc : Int) + 5 * 2 ^ 30 * rate / 1000000000).toNat

/-- The slew term of one tick (R62): SLEW is in 0.1 µs/s. -/
def slewStep (slew : Nat) : Nat := nominalInc * slew / 10000000

/-- TA and TB advance, after the rates and loads that wait for this tick (R44, R45, R615, R616). -/
def State.tickCounters (s : State) : State :=
  let t := s.time
  let r := s.timeRegs
  let a := t.nextRateA.getD t.rateA
  let b := t.nextRateB.getD t.rateB
  { s with
    time := { t with
      rateA := a, rateB := b, nextRateA := none, nextRateB := none,
      ta := match r.nextA with | some u => counterOf u | none => t.ta + incOf a,
      tb := match r.nextB with | some u => counterOf u | none => t.tb + incOf b },
    timeRegs := { r with nextA := none, nextB := none, ticks := r.ticks + 1 },
    sync := { s.sync with tpStamp := s.sync.tpStamp.map (fun x => x + nominalInc) } }

/-- TP advances by an increment. -/
def State.moveTp (s : State) (inc : Nat) (slewing : Bool) : State :=
  { s with time := { s.time with tp := s.time.tp + inc, lastInc := inc, slewing := slewing } }

/-- The increment of the counter that TP follows: nominal for the active's time on a standby. -/
def State.sourceInc (s : State) : Nat :=
  if s.standby && s.sync.tpStamp.isSome then nominalInc else incOf (if s.time.selected = 0 then s.time.rateA else s.time.rateB)

/-- TP steps on this tick and is TRACKING. -/
def State.track (s : State) (v : Nat) : State :=
  let s := s.stepTp v
  { s with time := { s.time with tracking := true } }

/-- One tick of TP in FREE (R60, R61). -/
def State.tickFree (s : State) : State :=
  let s := s.moveTp nominalInc false
  if !s.sourceLocked then s
  else if s.time.acquireAuto then s.track s.source
  else if ((s.time.tp : Int) - s.source).natAbs ≤ s.jumpUnits then { s with time := { s.time with tracking := true } }
  else s

/-- One tick of TP in TRACKING (R62 to R64). -/
def State.tickTracking (s : State) : State :=
  let inc := s.sourceInc
  let d : Int := ((s.time.tp + inc : Nat) : Int) - s.source
  if d.natAbs ≤ s.jumpUnits then
    let c := min d.natAbs (slewStep s.time.slew)
    let s := s.moveTp (if d > 0 then inc - c else inc + c) (c != 0)
    { s with time := { s.time with refusing := false } }
  else
    let s := if s.time.refusing then s else s.jumpRefused s.time.selected d
    let s := s.moveTp s.time.lastInc false
    { s with time := { s.time with refusing := true } }

/-- One tick of TP, or the step that waits for it (R68). A standby in JOINING forces one step to the active's time (R452). -/
def State.tickTp (s : State) : State :=
  match s.timeRegs.nextStep with
  | some r =>
    let s := { s with timeRegs := { s.timeRegs with nextStep := none } }
    (match r with | .domain => s.track s.source | .value u => s.stepTp (counterOf u))
  | none =>
    if s.pair.state == 3 && s.sync.tpStamp.isSome && !s.sync.stepped then
      (let s := s.track s.source
       { s with sync := { s.sync with stepped := true } })
    else if s.time.tracking then s.tickTracking else s.tickFree

/-- TIME_TICK (R44, R60 to R64, R68): one tick of the time clock, and the audio samples that TP reaches. -/
def execTimeTick (s : State) : Host.Outcome State Fault Refusal :=
  .next (if s.sys.planesHeld || !s.clocks.started then s else (s.tickCounters.tickTp).emitSamples)

/-! ## Automatic selection -/

/-- One second of ticks (R67). -/
abbrev secondTicks : Nat := 800000000

/-- AUTO_SELECT (R67): away from a home domain that has been out of LOCKED for 1 s, or back to one that has been LOCKED for 1 s. -/
def execAutoSelect (s : State) : Host.Outcome State Fault Refusal :=
  let t := s.time
  let other := 1 - t.selected
  let aged := fun (d : Nat) => decide ((s.domain d).since + secondTicks ≤ s.timeRegs.ticks)
  let go :=
    if t.selected = t.home then (s.domain t.selected).state != 3 && aged t.selected && (s.domain other).state == 3
    else t.revert && (s.domain other).state == 3 && aged other
  .next (if t.autoSelect && t.tracking && go && s.switchOk other then s.takeDomain other false else s)

/-! ## PTP -/

/-- Whether the default BMCA prefers dataset a to b (R50). -/
def betterGm (a b : Announce) : Bool :=
  if a.priority1 ≠ b.priority1 then decide (a.priority1 < b.priority1)
  else if a.clockClass ≠ b.clockClass then decide (a.clockClass < b.clockClass)
  else if a.accuracy ≠ b.accuracy then decide (a.accuracy < b.accuracy)
  else if a.variance ≠ b.variance then decide (a.variance < b.variance)
  else if a.priority2 ≠ b.priority2 then decide (a.priority2 < b.priority2)
  else decide (a.identity < b.identity)

/-- A grandmaster is selected or changes (R52). -/
def State.takeGm (s : State) (d : Nat) (a : Announce) : State :=
  let s := s.setDomain d { s.domain d with gm := some a, good := 0, bad := 0 }
  s.domainState d 2

/-- An Announce message (R50, R52). -/
def State.ptpAnnounce (s : State) (d : Nat) (a : Announce) : State :=
  let x := s.domain d
  match x.gm with
  | none => if x.state = 1 then s.takeGm d a else s
  | some g =>
    if a.identity = g.identity then
      (let s := s.setDomain d { x with gm := some a }
       if x.state = 4 then s.takeGm d a else s)
    else if (x.state = 2 ∨ x.state = 3) ∧ betterGm a g = true then s.takeGm d a
    else s

/-- Sets a domain's counter rate from the servo (R51), within the limit of R45. -/
def State.setRate (s : State) (d : Nat) (r : Int) : State :=
  let r := clampI (-32768000000) 32768000000 r
  if d = 0 then { s with time := { s.time with nextRateA := some r } } else { s with time := { s.time with nextRateB := some r } }

/-- The servo may step the counter of an UNCALIBRATED domain by any amount (R54). -/
def State.servoStep (s : State) (d : Nat) : State :=
  let (k, s) := s.drawInt
  if d = 0 then { s with time := { s.time with ta := ((s.time.ta : Int) + k).toNat } }
  else { s with time := { s.time with tb := ((s.time.tb : Int) + k).toNat } }

/-- A Sync message with its origin time and receive stamp (R50 to R54). The servo's rate and step are free values. -/
def State.ptpSync (s : State) (d t1 t2 : Nat) : State :=
  let x := s.domain d
  let off : Int := (t2 : Int) - t1 - x.meanDelay
  let good := if off.natAbs < 6553600 then min (x.good + 1) 16 else 0
  let bad := if off.natAbs > 65536000 then min (x.bad + 1) 4 else 0
  let was := x.state
  let s := s.setDomain d { x with offset := off, good := good, bad := bad }
  let (r, s) := s.drawInt
  let s := s.setRate d r
  match was with
  | 4 => s.domainState d 2
  | 2 =>
    let s := s.servoStep d
    if good = 16 then s.domainState d 3 else s
  | 3 =>
    if bad = 4 then
      (let s := s.domainState d 2
       s.setDomain d { s.domain d with good := 0, bad := 0 })
    else s
  | _ => s

/-- PTP_MESSAGE (R50 to R54): a message for an enabled domain; all but Announce and management are taken from its grandmaster alone. -/
def execPtpMessage (domain : Nat) (msg : PtpMsg) (s : State) : Host.Outcome State Fault Refusal :=
  let x := s.domain domain
  let mine := match x.gm with | some g => g.identity == msg.source | none => false
  .next (
    if domain > 1 ∨ x.state = 0 then s
    else if msg.kind = 0 then s.ptpAnnounce domain msg.announce
    else if msg.kind = 4 then s.setDomain domain { x with mgmtSeen := x.mgmtSeen + 1 }
    else if !mine then s
    else match msg.kind with
      | 1 => s.ptpSync domain msg.t1 msg.t2
      | 2 => s.setDomain domain { x with meanDelay := (x.offset + x.meanDelay + ((msg.t4 : Int) - msg.t3)) / 2 }
      | 3 => s.setDomain domain { x with metadata := sliceBytes msg.metadata 0 20 }
      | _ => s)

/-- A domain without a valid grandmaster (R52). -/
def State.listen (s : State) (d : Nat) : State :=
  let s := s.domainState d 1
  s.setDomain d { s.domain d with gm := none, good := 0, bad := 0 }

/-- SYNC_LOSS (R52). -/
def execSyncLoss (domain : Nat) (s : State) : Host.Outcome State Fault Refusal :=
  .next (if domain > 1 then s else match (s.domain domain).state with
    | 3 => s.domainState domain 4
    | 2 => s.listen domain
    | _ => s)

/-- HOLDOVER_LIMIT (R52, R53): the state changes, the counter keeps its rate. -/
def execHoldoverLimit (domain : Nat) (s : State) : Host.Outcome State Fault Refusal :=
  .next (if domain ≤ 1 ∧ (s.domain domain).state = 4 then s.listen domain else s)

/-- The port that a domain uses: its primary port while that is up, else its backup (R50). -/
def State.domainPort (s : State) (d : Nat) : Option Nat :=
  let x := s.domain d
  if x.primary < 32 ∧ (s.port x.primary).up = true then some x.primary
  else if x.backup < 32 ∧ (s.port x.backup).up = true then some x.backup
  else none

/-- The control frames that firmware has sent on a port, the newest 64 being kept. -/
def State.sendCtrl (s : State) (n : Nat) (c : CtrlOut) : State :=
  let p := s.port n
  let l := p.ctrlOut ++ [c]
  s.setPort n { p with ctrlOut := l.drop (l.length - 64) }

/-- DELAY_REQ (R50): multicast, or unicast to the grandmaster's address. -/
def execDelayReq (domain : Nat) (s : State) : Host.Outcome State Fault Refusal :=
  let x := s.domain domain
  .next (
    if domain > 1 ∨ x.state = 0 ∨ x.gm = none then s else
    match s.domainPort domain with
    | some n => if s.portSends n then
        (s.setDomain domain { x with delayReqs := x.delayReqs + 1 }).sendCtrl n (.delayReq domain x.unicast)
      else s
    | none => s)

/-! ## Event pins -/

/-- EVT_CAPTURE (R80, R82): an accepted edge that lies `back` before now in 2^-16 ns, stamped to 0.25 ns. -/
def execEvtCapture (pin : Nat) (rising : Bool) (back : Nat) (s : State) : Host.Outcome State Fault Refusal :=
  let e := s.evtInOf pin
  let stamp := (s.tp - back) / 16384 * 16384
  .next (
    if pin > 7 ∨ s.sys.planesHeld = true ∨ bit e.edges (if rising then 0 else 1) = false then s
    else if e.fifo.length ≥ 16 then s.setEvtIn pin { e with overflow := satInc 0xFFFF e.overflow }
    else
      let s := s.setEvtIn pin { e with fifo := e.fifo ++ [{ stamp := stamp, gen := s.time.tpGen, rising := rising }] }
      if e.report then s.post 0xE005 pin 0 (timeBytes stamp ++ leBytes 2 s.time.tpGen ++ leBytes 1 (if rising then 1 else 2)) else s)

/-- Whether pulse number j of a setting is still to be produced (R83): a count of 0 means without end. -/
def pulseCounts (c : EvtOutP) (j : Nat) : Bool := c.mode != 2 || c.count == 0 || decide (j < c.count)

/-- EVT_OUT_PULSE (R83 to R86, R460): the pulse in progress ends when its width has passed, and a change of settings that waited takes
effect; or the next pulse starts. -/
def execEvtOutPulse (pin : Nat) (s : State) : Host.Outcome State Fault Refusal :=
  let e := s.evtOutOf pin
  .next (
    if pin > 7 ∨ s.sys.planesHeld = true ∨ s.standby = true then s
    else if e.pulse then
      (if s.tp < e.pulseStart + nsU e.cfg.width ∧ e.pulseStart ≤ s.tp then s
       else match e.waiting with
         | some p => s.setEvtOut pin { cfg := p, lastStart := some s.tp }
         | none => s.setEvtOut pin { e with pulse := false })
    else match s.pulseAt e.cfg s.tp with
      | some (t, j) =>
        if (match e.lastStart with | some l => decide (l < t) | none => true) && pulseCounts e.cfg j then
          s.setEvtOut pin { e with pulse := true, pulseStart := t, done := e.done + 1, lastStart := some t }
        else s
      | none => s)

end Sys2Proof.Machine
end

