-- ==== Sys2Proof/Machine/NetEvents.lean ====
section
/-! DEFINITION. What happens on the ports beside reception: firmware's answers (R100, R101), the closing of frames (R116), port and leg
states (R91, R92, R128), the yo-yo windows of every unit (R129 to R131, R579 to R583). -/

namespace Sys2Proof.Machine

/-! ## Firmware's part -/

/-- The IP packet that a frame on the receive queue of firmware carries, and none for any other frame. -/
def queuedIp (bs : List Byte) : Option IpPacket :=
  let tagged := isTag (beAt bs 12 2)
  let et := if tagged then beAt bs 16 2 else beAt bs 12 2
  let pl := (bs.take (bs.length - 4)).drop (if tagged then 18 else 14)
  if et = 0x0800 then ipv4 pl else if et = 0x86DD then ipv6 pl else none

/-- The address that an ARP request asks for. -/
def arpTarget (bs : List Byte) : Option Nat :=
  let tagged := isTag (beAt bs 12 2)
  let et := if tagged then beAt bs 16 2 else beAt bs 12 2
  let pl := bs.drop (if tagged then 18 else 14)
  if et = 0x0806 ∧ beAt pl 0 2 = 1 ∧ beAt pl 2 2 = 0x0800 ∧ beAt pl 6 2 = 1 then some (beAt pl 24 4) else none

/-- Whether an address is one of the port's own (R99). -/
def Port.owns (p : Port) (family a : Nat) : Bool := a != 0 && (if family = 6 then p.ip6.contains a else p.ip4 == a)

/-- Firmware sends a control frame on a port that may transmit. -/
def State.fwSend (s : State) (n : Nat) (c : CtrlOut) : State := if s.portSends n then s.sendCtrl n c else s

/-- The membership report of a leg: source-specific where the leg has a source filter (R101). -/
def reportOf (l : Leg) (join : Bool) : CtrlOut := .membership l.dst (if l.named = 0 then none else some l.src) join

/-- Reports in answer to a query for a group, 0 standing for a general query (R101). -/
def State.answerQuery (s : State) (n family group : Nat) : State :=
  ((s.portLegs n).filter (fun l => let g := l.2.2.2
    isMulticast g.family g.dst && g.family == family && (group == 0 || g.dst == group))).foldl
    (fun s l => s.fwSend n (reportOf l.2.2.2 true)) s

/-- An echo request to one of the port's addresses is answered, at most 1,000 in a second (R101). -/
def State.answerEcho (s : State) (n : Nat) (k : IpPacket) : State :=
  let p := s.port n
  let sec := s.tp / uSec
  let count := if p.echoSec = sec then p.echoes else 0
  if !p.owns k.family k.dst || 1000 ≤ count then s
  else (s.setPort n { p with echoSec := sec, echoes := count + 1 }).fwSend n (.echoReply k.src)

/-- What firmware does with a frame that it takes from the receive queue (R97, R100, R101). -/
def State.fwFrame (s : State) (n : Nat) (bs : List Byte) : State :=
  let p := s.port n
  match arpTarget bs with
  | some a => if p.owns 4 a then s.fwSend n (.arpReply a) else s
  | none =>
    match queuedIp bs with
    | none => s
    | some k =>
      let ty := beAt k.body 0 1
      match k.proto with
      | 1 => if ty = 8 then s.answerEcho n k else s.portCount n 6 1
      | 2 => if ty = 0x11 then s.answerQuery n 4 (beAt k.body 4 4) else s.portCount n 6 1
      | 58 =>
        if ty = 128 then s.answerEcho n k
        else if ty = 130 then s.answerQuery n 6 (beAt k.body 8 16)
        else if ty = 135 then (if p.owns 6 (beAt k.body 8 16) then s.fwSend n (.neighbourAdvert (beAt k.body 8 16)) else s)
        else if 133 ≤ ty ∧ ty ≤ 137 then s
        else s.portCount n 6 1
      | _ => s

/-- CONTROL_FRAME_HANDLE (R100, R101): the oldest frame of the port's receive queue. A PTP message's contents are PTP_MESSAGE's. -/
def execControlFrameHandle (port : Nat) (s : State) : Host.Outcome State Fault Refusal :=
  let p := s.port port
  .next (match p.ctrl with
    | bs :: r => if s.sys.ready then (s.setPort port { p with ctrl := r }).fwFrame port bs else s
    | [] => s)

/-- MEMBERSHIP_REPORT (R101): the report of a leg with a multicast destination after its flow was enabled or disabled. -/
def execMembershipReport (kind index leg : Nat) (s : State) : Host.Outcome State Fault Refusal :=
  let f := s.flow kind index
  .next (match f.legs.find? (fun l => l.1 == leg) with
    | some (_, l) => if kind ≤ 2 ∧ isMulticast l.family l.dst = true ∧ s.sys.ready = true then s.fwSend l.port (reportOf l f.enabled) else s
    | none => s)

/-! ## Frames, ports and legs -/

/-- Whether an open frame is past one of the times of R116. -/
def slotDue (c : FlowSetP) (d : Slot) (now : Nat) : Bool :=
  d.state == 1 && (decide (d.first + period c.format.rate + skewOf c ≤ now) ||
    (match d.markerAt with | some m => decide (m + skewOf c ≤ now) | none => false))

/-- FRAME_CLOSE (R116): the open frames of a video flow whose time has come. -/
def execFrameClose (flow : Nat) (s : State) : Host.Outcome State Fault Refusal :=
  let f := s.flow 0 flow
  .next (match f.cfg with
    | some c => (List.range f.slots.length).foldl (fun s j => if slotDue c (s.slot flow j) s.tp then s.closeSlot flow j false else s) s
    | none => s)

/-- PORT_UP (R91): the lock of the port's PCS has lasted 10 ms. -/
def execPortUp (port : Nat) (s : State) : Host.Outcome State Fault Refusal :=
  let p := s.port port
  .next (if p.up || !s.portExists port || !s.portLock port || (s.yoyo port).on then s
    else (s.setPort port { p with up := true, fault := 0 }).post 0xE010 port 0 (leBytes 1 0))

/-- PORT_DOWN (R91): any loss of lock. -/
def execPortDown (port : Nat) (s : State) : Host.Outcome State Fault Refusal :=
  .next (if s.portExists port then s.portDrop port 1 else s)

/-- LEG_LOST (R128): the activity timeout has passed. -/
def execLegLost (kind index leg : Nat) (s : State) : Host.Outcome State Fault Refusal :=
  .next (if kind ≤ 2 ∧ index < 64 ∧ (s.flow kind index).enabled = true then s.legInactive kind index leg else s)

/-- LINK_FAULT (R92): the fault that an up port receives. -/
def execLinkFault (port fault : Nat) (s : State) : Host.Outcome State Fault Refusal :=
  let p := s.port port
  .next (if p.up = true ∧ fault ≤ 2 then s.setPort port { p with fault := fault } else s)

/-! ## Yo-yo mode -/

/-- The string link's unit. -/
abbrev stringUnit : Nat := 0x20
/-- The thermal sensors' unit. -/
abbrev thermalUnit : Nat := 0x40

/-- Lanes lose lock. -/
def State.lanesOff (s : State) (ls : List Nat) : State :=
  ls.foldl (fun s l => s.setLane l { s.lane l with blockLock := false, cdrLock := false, signal := false, hunting := true }) s

/-- The lanes of a unit go off outside its window (R129, R580). -/
def State.unitOff (s : State) (u : Nat) : State :=
  if u < 32 then s.lanesOff (s.portLanes u) else if u = stringUnit then s.lanesOff [32, 33, 34, 35] else s

/-- YOYO_WINDOW (R129, R579, R580, R583): the window opens, with settings that waited, or closes; a window without the condition ends a
run of consecutive actions. -/
def execYoyoWindow (unit : Nat) (opens : Bool) (s : State) : Host.Outcome State Fault Refusal :=
  let y := s.yoyo unit
  .next (
    if !y.on || y.window == opens then s
    else if opens then
      s.setYoyo unit { y with cfg := y.next.getD y.cfg, next := none, window := true, acted := false, matched := [], signal := false }
    else (s.setYoyo unit { y with window := false, repeats := if y.acted then y.repeats else 0 }).unitOff unit)

/-- The flows of a unit's watch set that matched in this window (R130). -/
def YoyoUnit.watched (y : YoyoUnit) : List Nat := y.matched.filter (fun f => bit y.cfg.watch f)

/-- The compare condition of a unit (R130, R580). -/
def State.yoyoHolds (s : State) (u : Nat) : Bool :=
  let y := s.yoyo u
  if u < 32 then (if y.cfg.compare = 0 then s.portLock u else y.watched != [])
  else if u = stringUnit then [32, 33, 34, 35].all (fun l => (s.lane l).blockLock)
  else if u = thermalUnit then s.power.temps.any (fun t => decide (1600 ≤ t))
  else y.signal

/-- FLOW_ACTIVE for each flow that matched. -/
def State.postWatched (s : State) (y : YoyoUnit) : State :=
  y.watched.foldl (fun s f => s.post 0xE014 (flowId (f / 64) (f % 64)) 0 (leBytes 1 0)) s

/-- YOYO_COMPARE (R130, R579, R581): the condition holds in the window and the action is taken, once; the 1,000th in a row makes the unit
stuck. -/
def execYoyoCompare (unit : Nat) (s : State) : Host.Outcome State Fault Refusal :=
  let y := s.yoyo unit
  .next (
    if !y.on || !y.window || y.acted || y.stuck || !s.yoyoHolds unit then s else
    let stuck := decide (1000 ≤ y.repeats + 1)
    let z := { y with acted := true, repeats := y.repeats + 1, stuck := stuck }
    let s :=
      if y.cfg.action = 0 then (s.setYoyo unit { z with on := false, window := false, next := none }).postWatched y
      else
        let s := s.setYoyo unit z
        if y.cfg.compare = 0 then s.post 0xE010 unit 0 (leBytes 1 0) else s.postWatched y
    if stuck then s.post 0xE0B1 3 2 [] else s)

/-- YOYO_MEMBERSHIP_REPORT (R131): the stored reports for the port's watch set. -/
def execYoyoMembershipReport (port : Nat) (s : State) : Host.Outcome State Fault Refusal :=
  let y := s.yoyo port
  .next (if port > 31 || !y.on || !y.window || (s.port port).mac == 0 || !s.portLock port || s.sys.windDown || s.sys.txHeld then s
    else ((s.portLegs port).filter (fun l => bit y.cfg.watch (64 * l.1 + l.2.1) && isMulticast l.2.2.2.family l.2.2.2.dst)).foldl
      (fun s l => s.sendCtrl port (reportOf l.2.2.2 true)) s)

end Sys2Proof.Machine
end

