-- ==== Sys2Proof/Machine/Drivers.lean ====
section
/-! DEFINITION. The events of the driver link on the device's side (R368 to R371, R380, R381) and the Rennex drivers themselves
(R361, R362, R372 to R377). -/

namespace Sys2Proof.Machine

/-! ## The device's side -/

/-- TRAIN_TIMEOUT (R369): 5 ms in TRAIN or RATE. -/
def execTrainTimeout (driver : Nat) (s : State) : Host.Outcome State Fault Refusal :=
  .next (if driver < 96 then s.linkTimeout driver else s)

/-- CONFIG_PACKET (R363, R368): every 16 µs in CONFIG. -/
def execConfigPacket (driver : Nat) (s : State) : Host.Outcome State Fault Refusal :=
  let t := s.configTurn driver
  .next (if driver < 96 ∧ (s.driver driver).link = 2 then t.sendLink driver (t.configBytes driver) else s)

/-- TS2 (R371): after the last TS2 of RATE the lanes and the driver's port run at TARGET. -/
def execTs2 (driver : Nat) (s : State) : Host.Outcome State Fault Refusal :=
  let x := s.driver driver
  .next (
    if driver < 96 ∧ x.link = 3 then
      (let r := s.renn driver
       let rate := s.linkRateOf driver
       (s.setDriver driver { x with ts2 := true }).setRenn driver
         (if s.pair.port = 0 then { r with a := { r.a with rate := rate } } else { r with b := { r.b with rate := rate } }))
    else s)

/-- POLL (R380): the next address of a driver group is polled. -/
def execPoll (group : Nat) (s : State) : Host.Outcome State Fault Refusal :=
  let a := spGet s.polls 0 group
  let d := 8 * group + a
  .next (
    if group < 12 then
      { (s.setDriver d { s.driver d with polled := true }) with polls := spSet 0 s.polls group ((a + 1) % 8) }
    else s)

/-- A poll of a driver has failed: DRIVER_SILENT after 16 in a row (R380). -/
def State.pollFailed (s : State) (d : Nat) : State :=
  let x := s.driver d
  let n := min (x.silent + 1) 17
  let s := s.setDriver d { x with silent := n }
  if n = 16 then s.post 0xE073 d 0 s.portByte else s

/-- BC_TIMEOUT (R368, R380): a REPORT is missing or late; 16 in a row take a driver from UP to TRAIN. A driver that sends nothing is not
expected to answer. -/
def execBcTimeout (driver : Nat) (s : State) : Host.Outcome State Fault Refusal :=
  let x := s.driver driver
  .next (
    if 96 ≤ driver ∨ x.polled = false then s else
    let s := s.setDriver driver { x with polled := false }
    if x.head = 255 ∨ x.link = 0 then s else
    let n := min (x.timeouts + 1) 16
    let s := (s.setDriver driver { x with polled := false, bcTimeout := add64 x.bcTimeout 1, timeouts := n }).pollFailed driver
    if n = 16 ∧ x.link = 4 then s.linkTrain driver false else s)

/-- The report's entry for lane i of the port that this device drives (R381, R659). -/
def reportLane (p : ReportP) (port i : Nat) : EyeReport :=
  if port = 0 then (if i = 0 then p.lane0A else p.lane1A) else (if i = 0 then p.lane0B else p.lane1B)

/-- LOCK of the port that this device drives. -/
def reportLock (p : ReportP) (port : Nat) : Bool := if port = 0 then p.lockA else p.lockB

/-- A good report's counters join the totals of the driver (R381). -/
def Driver.addReport (x : Driver) (p : ReportP) (port : Nat) : Driver :=
  { x with
    polled := false, silent := 0, timeouts := 0, crcErr := add64 x.crcErr p.crcErr, missed := add64 x.missed p.missed,
    codeErr := (List.range x.lanes).foldl (fun m i => spSet 0 m i (add64 (spGet m 0 i) (reportLane p port i).codeErr)) x.codeErr }

/-- What a good report makes of the link state (R368, R369). -/
def State.linkReport (s : State) (d : Nat) (p : ReportP) : State :=
  let x := s.driver d
  let lock := reportLock p s.pair.port
  match x.link with
  | 1 => if lock then s.linkTo d 2 x.slow else s
  | 2 =>
    if p.mismatch then s.linkTo d 5 true
    else if p.configOk && p.seq == x.seq && !s.configNew d then s.linkTo d (if s.linkRateOf d = 1 then 4 else 3) x.slow
    else s
  | 3 => if lock && x.ts2 then s.linkTo d 4 false else s
  | 4 =>
    if !lock then s.linkTrain d false
    else (List.range x.lanes).foldl (fun s i => s.laneReport (36 + 2 * d + i) (reportLane p s.pair.port i) p.crcErr) s
  | _ => s

/-- REPORT (R368, R380, R381, R383, R400): the answer to a poll. -/
def execReport (driver : Nat) (p : ReportP) (good : Bool) (s : State) : Host.Outcome State Fault Refusal :=
  let x := s.driver driver
  .next (
    if 96 ≤ driver ∨ x.polled = false then s
    else if good then (s.setDriver driver (x.addReport p s.pair.port)).linkReport driver p
    else (s.setDriver driver { x with polled := false, timeouts := 0, bcCrc := add64 x.bcCrc 1 }).pollFailed driver)

/-! ## A Rennex driver -/

/-- A driver's port A (0) or B (1). -/
def Rennex.port (r : Rennex) (p : Nat) : RennexPort := if p = 0 then r.a else r.b

/-- Writes a driver's port. -/
def Rennex.setPort (r : Rennex) (p : Nat) (x : RennexPort) : Rennex := if p = 0 then { r with a := x } else { r with b := x }

/-- Whether a packet is valid (R356, R372). -/
def dlValid (k : DlPacket) : Bool := k.good && decide (1 ≤ k.type ∧ k.type ≤ 5)

/-- Selection by a valid packet (R373). -/
def Rennex.select (r : Rennex) (p : Nat) (k : DlPacket) : Rennex :=
  let d := (k.gen + 16 - r.gen % 16) % 16
  if !k.role then r
  else if r.sel = 0 ∨ r.sel = p + 1 ∨ (1 ≤ d ∧ d ≤ 7) then { r with sel := p + 1, gen := k.gen % 16 }
  else r

/-- What every packet does to the port that receives it: a port that receives is present (R372), an invalid packet counts (R381). -/
def Rennex.receive (r : Rennex) (p : Nat) (k : DlPacket) : Rennex :=
  let x := { r.port p with present := true }
  if dlValid k then (r.setPort p x).select p k else r.setPort p { x with invalid := satInc 0xFFFF x.invalid }

/-- DRIVER_PACKET (R372 to R374): a LINE, SKIP or BLANK packet is held for the next LD of its port. -/
def execDriverPacket (driver port : Nat) (pkt : DlPacket) (s : State) : Host.Outcome State Fault Refusal :=
  let r := (s.renn driver).receive port pkt
  .next (
    if 96 ≤ driver ∨ 1 < port then s
    else if dlValid pkt && decide (pkt.type ≤ 3) then s.setRenn driver (r.setPort port { r.port port with held := some pkt })
    else s.setRenn driver r)

/-- The outputs that a LINE packet gives (R359, R361): signed codes, channels from CH_USED upward at VCOM. -/
def lineOuts (used : Nat) (k : DlPacket) : List Int :=
  (List.range (k.body.length / 68 * 48)).map (fun c =>
    let o := 68 * (c / 48)
    let i := c % 48
    let flip := bit (fieldAt k.body (o + 2) 6) i
    let code : Int := (bits (fieldAt k.body (o + 8) 60) (10 * i + 9) (10 * i) : Nat)
    let sign := patSign (fieldAt k.body o 1 % 8) (k.line % 2) i
    if c < used then (if flip then -sign else sign) * code else 0)

/-- LD (R374): the driver applies what its selected port holds, or takes every channel to VCOM. -/
def execLd (driver port : Nat) (s : State) : Host.Outcome State Fault Refusal :=
  let r := s.renn driver
  let x := r.port port
  let clear := r.setPort port { x with held := none }
  .next (
    if 96 ≤ driver ∨ 1 < port ∨ r.sel ≠ port + 1 then s else
    s.setRenn driver (match x.held with
      | some k =>
        if !k.role then { clear with outs := [], missed := satInc 0xFFFF r.missed }
        else if k.type = 1 then { clear with outs := lineOuts r.chUsed k }
        else if k.type = 2 then clear
        else { clear with outs := [] }
      | none => { clear with outs := [], missed := satInc 0xFFFF r.missed }))

/-- DISCHARGE (R373, R375): obeyed on either port when its generation is not older. -/
def execDischarge (driver port : Nat) (pkt : DlPacket) (s : State) : Host.Outcome State Fault Refusal :=
  let r := s.renn driver
  let new := r.receive port pkt
  let obey := dlValid pkt && pkt.type == 5 && pkt.role && decide ((pkt.gen + 16 - r.gen % 16) % 16 ≤ 7)
  .next (if 96 ≤ driver ∨ 1 < port then s else s.setRenn driver (if obey then { new with outs := [] } else new))

/-- PORT_ABSENT (R372, R376): the selected port's loss takes every channel to VCOM. -/
def execPortAbsent (driver port : Nat) (s : State) : Host.Outcome State Fault Refusal :=
  let r := s.renn driver
  let new := r.setPort port { r.port port with present := false, held := none }
  .next (if 96 ≤ driver ∨ 1 < port then s else s.setRenn driver (if r.sel = port + 1 then { new with sel := 0, outs := [] } else new))

/-- DRIVER_CONFIG (R363, R377): the CONFIG of the highest SEQ of a port is applied. -/
def execDriverConfig (driver port : Nat) (pkt : DlPacket) (s : State) : Host.Outcome State Fault Refusal :=
  let r := (s.renn driver).receive port pkt
  let seq := fieldAt pkt.body 8 2
  let (ch, lanes) := Config.driverBuild driver
  let ok := fieldAt pkt.body 0 2 == ch && fieldAt pkt.body 4 1 == lanes && fieldAt pkt.body 5 1 == driver % 8
  .next (
    if 96 ≤ driver ∨ 1 < port then s
    else if dlValid pkt && pkt.type == 4 && decide ((r.port port).seq ≤ seq) then
      s.setRenn driver { (r.setPort port { r.port port with seq := seq }) with configOk := ok, mismatch := !ok, chUsed := fieldAt pkt.body 2 2 }
    else s.setRenn driver r)

end Sys2Proof.Machine
end

