-- ==== Sys2Proof/Machine/Sense.lean ====
section
/-! DEFINITION. The VCOM loop at its trim instants (R285 to R290), the panel thermistor (R242 to R245), the results of the check
rectangles (R343 to R346). -/

namespace Sys2Proof.Machine

/-! ## VCOM -/

/-- Posts an event of the VCOM loop with the DAC code. -/
def State.postDac (s : State) (n code : Nat) : State := s.post code n 0 (leBytes 2 (s.head n).vcom.dac)

/-- Whether the sense window of the frame being scanned ends in time (R286): at most one line time before line 0 of the next frame, where
that is latched or fixed by the frame's own length. -/
def Head.windowFits (h : Head) (l : Latched) : Bool :=
  let c := h.vcom.cfg
  let stop := l.clock.at_ h.hh + usU (c.senseDelay + c.senseN)
  let next : Option Int := match h.nextScan with
    | some q => some (q.clock.at_ 0)
    | none => if l.lines = 0 then none else some (l.clock.at_ l.lines)
  match next with
  | some t => decide (stop ≤ t - l.clock.pitch)
  | none => true

/-- The DAC steps toward its target (R288), unless a write of V0 takes the step's place. -/
def State.trim (s : State) (n : Nat) (delta : Int) : State :=
  let v := (s.head n).vcom
  let c := v.cfg
  let step := clampI (-(c.trimStep : Int)) c.trimStep (rdiv (delta * c.trimGain) 256)
  let dac := (clampI c.vmin c.vmax ((v.dac : Int) - step)).toNat
  let run := if dac = c.vmin ∨ dac = c.vmax then min (v.clamped + 1) 17 else 0
  let s := s.modHead n (fun h => { h with vcom := { h.vcom with dac := dac, clamped := run } })
  if run = 16 then s.postDac n 0xE054 else s

/-- A measurement is formed (R287 to R289). `hold` says that a write of V0 takes the place of this trim's step (R290). -/
def State.measure (s : State) (n : Nat) (samples : List Nat) (hold : Bool) : State :=
  let v := (s.head n).vcom
  let c := v.cfg
  let delta := rdiv ((samples.foldl (· + ·) 0 : Nat) : Int) (max 1 c.senseN) - c.senseTarget
  let valid := decide (delta.natAbs ≤ c.senseLimit) && samples.all (fun x => decide (1 ≤ x ∧ x ≤ 4094))
  if valid then
    let e := clampI (-2047) 2047 (rdiv (-delta * c.senseScale) 256)
    let s := s.modHead n (fun h => { h with vcom := { h.vcom with invalid := 0, fault := false, delta := delta, e := e } })
    let s := if v.fault then s.postDac n 0xE053 else s
    if hold then s else s.trim n delta
  else
    let count := v.invalid + 1
    if count ≥ 8 ∧ v.fault = false then
      (s.modHead n (fun h => { h with vcom := { h.vcom with invalid := count, fault := true, e := 0 } })).postDac n 0xE052
    else s.modHead n (fun h => { h with vcom := { h.vcom with invalid := min count 8 } })

/-- A VCOM_SET takes effect at a trim instant (R285, R290). -/
def State.vcomTrim (s : State) (n : Nat) (e : Entry) : State :=
  let s := s.unqueue e
  match e.cmd with
  | .vcomSet _ p =>
    (s.modHead n (fun h => { h with vcom := { h.vcom with cfg := p, dac := p.v0, clamped := 0 } })).entryApplied e ((s.head n).scan.frame % 2 ^ 32) n
  | _ => s

/-- TRIM_INSTANT (R286 to R290): at the end of the sense window, in the blanking of a frame or of a cycle's last subframe. A standby does
not sense (R456). -/
def execTrimInstant (head : Nat) (samples : List Nat) (s : State) : Host.Outcome State Fault Refusal :=
  let h := s.head head
  let sets := sortBy entryLe (s.cp.launch.filter (fun e => e.queue == head && (match e.cmd with | .vcomSet _ _ => true | _ => false)))
  .next (match h.latchedOf h.scan.frame with
    | none => s
    | some l =>
      if !h.scans || !l.last then s else
      let c := h.vcom.cfg
      let s :=
        if c.senseEnable ≠ 1 || s.standby || decide (samples.length < c.senseN) then s
        else if h.windowFits l then s.measure head (samples.take c.senseN) (!sets.isEmpty)
        else s.modHead head (fun h => { h with vcom := { h.vcom with skipped := add64 h.vcom.skipped 1 } })
      sets.foldl (fun s e => s.vcomTrim head e) s)

/-! ## Thermistor -/

/-- A sample of a head's thermistor input (R242 to R245). -/
def State.thermTake (s : State) (n code : Nat) : State :=
  let h := s.head n
  let set := h.panel.active
  let t := h.therm
  if set.settings.thermMin ≤ code ∧ code ≤ set.settings.thermMax then
    let l := (if t.fault then [] else t.samples) ++ [thermTemp set.tables code]
    let s := s.setHead n { h with therm := { t with samples := l.drop (l.length - 16), bad := 0, fault := false } }
    if t.fault then s.post 0xE042 n 0 [] else s
  else
    let bad := min (t.bad + 1) 16
    let fault := t.fault || decide (16 ≤ bad)
    let s := s.setHead n { h with therm := { t with bad := bad, invalid := inc32 t.invalid, fault := fault } }
    if fault && !t.fault then s.post 0xE041 n 0 [] else s

/-- THERM_SAMPLE (R242): while the head is wound up. A standby does not sample (R456). -/
def execThermSample (head sample : Nat) (s : State) : Host.Outcome State Fault Refusal :=
  let h := s.head head
  .next (if (h.state == 1 || h.scans) && !s.standby then s.thermTake head (sample % 4096) else s)

/-! ## Check results -/

/-- A result of a check (R344 to R346): recorded, learned or compared, and acted on. Status: 1 MATCH, 2 MISMATCH, 3 SKIPPED, 4 STALE. -/
def State.checkDone (s : State) (n c : Nat) (p : CheckSetP) (k crc : Nat) (skipped stale : Bool) : State :=
  let x := (s.head n).check c
  let f := k % 2 ^ 32
  if skipped || stale then s.setCheck n c { x with frame := f, crc := crc, status := if skipped then 3 else 4 }
  else
    let expect := if x.learn then crc else x.expect
    if crc = expect then s.setCheck n c { x with frame := f, crc := crc, status := 1, count := 0, learn := false, expect := expect }
    else
      let count := min (x.count + 1) p.missLimit
      let past := decide (count ≥ p.missLimit)
      let s := s.setCheck n c { x with
        frame := f, crc := crc, status := 2, count := if past && p.action == 1 then 0 else count }
      if !past || p.action == 0 then s else
      let s := s.post 0xE064 n 0 (leBytes 1 c ++ leBytes 4 f ++ leBytes 4 crc)
      if p.action = 2 then s.stopHead n else s

/-- The tile rows that a rectangle touches. -/
def checkRows (p : CheckSetP) : List Nat := (List.range ((p.y0 + p.ch - 1) / 8 + 1 - p.y0 / 8)).map (· + p.y0 / 8)

/-- The oldest frame all of whose tile rows in the rectangle have committed or been skipped (R344). -/
def Check.readyFrame (x : Check) (p : CheckSetP) : Option Nat :=
  ((x.parts.map (fun y => y.frame)).eraseDups).find? (fun k => (checkRows p).all (fun q => x.parts.any (fun y => y.frame == k && y.row == q)))

/-- The result of a check at the composed tap for a frame: CRC, SKIPPED, STALE. -/
def Check.composedResult (x : Check) (p : CheckSetP) (k : Nat) : Nat × Bool × Bool :=
  let mine := (checkRows p).filterMap (fun q => x.parts.find? (fun y => y.frame == k && y.row == q))
  (crc32 (mine.flatMap (fun y => y.words.flatMap (fun w => leBytes 4 w))), mine.any (fun y => y.skipped), mine.any (fun y => y.stale))

/-- CHECK_RESULT (R344, R346): a result that is ready is recorded and acted on. -/
def execCheckResult (head check : Nat) (s : State) : Host.Outcome State Fault Refusal :=
  let x := (s.head head).check check
  .next (match x.cfg with
    | none => s
    | some p =>
      if p.tap = 1 then
        (match x.accFrame with
        | some k =>
          if !x.accDone then s else
          let s := s.setCheck head check { x with accFrame := none, accDone := false }
          s.checkDone head check p k (Nat.xor x.acc 0xFFFFFFFF) x.accSkip false
        | none => s)
      else match x.readyFrame p with
        | none => s
        | some k =>
          let (crc, skipped, stale) := x.composedResult p k
          let rest := (x.parts.dropWhile (fun y => y.frame != k)).filter (fun y => y.frame != k)
          (s.setCheck head check { x with parts := rest }).checkDone head check p k crc skipped stale)

end Sys2Proof.Machine
end

