-- ==== Sys2Proof/Machine/Power.lean ====
section
/-! DEFINITION. Panel power: the wind-up (R419 to R421), the power-down (R423), the end of a park (R318), the loss of a PGOOD (R422), the
wind-down up to its commits (R424 to R428). -/

namespace Sys2Proof.Machine

/-! ## Enables, nets and the baton -/

/-- The highest enable asserted. -/
def Pins.top (p : Pins) : Nat := if bit p.pen 3 then 3 else if bit p.pen 2 then 2 else if bit p.pen 1 then 1 else 0

/-- Asserts an enable. -/
def Pins.raise (p : Pins) (e : Nat) : Pins := if bit p.pen e then p else { p with pen := p.pen + 2 ^ e }

/-- Deasserts the highest enable. -/
def Pins.dropTop (p : Pins) : Pins := if p.pen = 0 then p else { p with pen := p.pen - 2 ^ p.top }

/-- The enables in use from e upward (R417). -/
def usedFrom (mask e : Nat) : Option Nat := (List.range 4).find? (fun i => decide (e ≤ i) && bit mask i)

/-- Whether a head drives a shared net. -/
def Head.drives (h : Head) : Bool := h.pins.driven || h.pins.pen != 0

/-- The baton and its pins follow from what the device drives and tests (R438). -/
def State.batonPins (s : State) : State :=
  let held := headNums.any (fun n => (s.head n).pins.driven)
  { s with pair := { s.pair with baton := held, batonOut := held || headNums.any (fun n => (s.head n).power.phase == 1) } }

/-- A head's gate outputs, VCOM_OUT and lanes go to high impedance, and its enables are off (R421, R423, R426). -/
def State.releaseNets (s : State) (n : Nat) : State :=
  let s := s.modHead n (fun h => { h with
    pins := { driven := false }, vcom := { h.vcom with driven := false }, power := { h.power with phase := 0, held := false, pgLost := false, arrived := 0 } })
  ((s.driversOf n).foldl (fun s d => s.linkTo d 0 true) s).batonPins

/-- A head enters OFF: commands that wait for it take effect (R653). -/
def State.headOff (s : State) (n : Nat) : State := (s.modHead n (fun h => { h with state := 0 })).applyParked n

/-- A head's phase of panel power. -/
def State.setPhase (s : State) (n phase : Nat) : State := s.modHead n (fun h => { h with power := { h.power with phase := phase } })

/-! ## Wind-up -/

/-- The wind-up proper begins (R296, R420, R564): the thermistor starts afresh, the counter counts, the first wind-up after an AON reset
decides on a warm-up. -/
def State.windupBegin (s : State) (n : Nat) : State :=
  let first := !s.nvs.firstDone.getD n false
  let warm := first && !s.nvs.cleanAtScan.getD n false
  let s := s.modHead n (fun h => { h with
    therm := { h.therm with samples := [], bad := 0, fault := false, bandSet := false, latchedOnce := false },
    power := { h.power with arrived := 0, downAfterPark := false },
    ledger := { h.ledger with warmDue := h.ledger.warmDue || warm } })
  incCounter { s with nvs := { s.nvs with firstDone := s.nvs.firstDone.set n true } } (6 + n)

/-- The process record of a running command that is now answered ACCEPTED. -/
def Running.proc (r : Running) : Proc :=
  { opcode := r.opcode, object := r.object, acceptNo := r.acceptNo, tag := r.tag,
    noApplied := match r.cmd with | .panelWindup h _ => h.noApplied | _ => false }

/-- The PANEL_WINDUP that waits for the claim test of a head. -/
def State.windupRun (s : State) (n : Nat) : Option Running := s.cp.running.find? (fun r => r.opcode == 0x0801 && r.object == n)

/-- Answers the PANEL_WINDUP that waits for a claim test. -/
def State.windupAnswer (s : State) (n status : Nat) : State :=
  match s.windupRun n with
  | some r => let s := s.finish r status []
              if status = stAccepted then s.addProc r.proc else s
  | none => s

/-- PANEL_WINDUP (0x0801; R349, R419, R420, R437 to R441): the reply follows the claim test; a standby drives no shared net and goes on to
the training of its drivers. -/
def execPanelWindup (h : Hdr) (head : Nat) (s : State) : Host.Outcome State Fault Refusal :=
  let hd := s.head head
  .next (runLater h 0x0801 head (.panelWindup h head)
    { bad := decide (head > 3), busy := s.sys.windDown, ignored := hd.state != 0 || hd.power.phase != 0,
      refused := s.sys.pfail || !s.sys.pfailClear || !s.clocks.refclkOk || (hd.cfg.isSome && !s.layoutOk head hd.w) ||
        (s.standby && !s.pair.linkUp) } s
    (fun r s =>
      let s := s.addRunning r
      if s.standby then ((s.windupBegin head).setPhase head 5).windupAnswer head stAccepted
      else (s.modHead head (fun x => { x with power := { x.power with phase := 1, claims := 0 } })).batonPins))

/-- CLAIM_TEST (R438 to R440): the test of 20 µs has ended; `low` says that BATON_IN stayed low. -/
def execClaimTest (head : Nat) (low : Bool) (s : State) : Host.Outcome State Fault Refusal :=
  let h := s.head head
  .next (
    if h.power.phase ≠ 1 then s
    else if low then
      (let s := s.windupBegin head
       let s := s.modHead head (fun x => { x with
         pins := { driven := true }, vcom := { x.vcom with driven := true, dac := x.vcom.cfg.v0 }, power := { x.power with phase := 2 } })
       s.batonPins.windupAnswer head stAccepted)
    else if s.pair.prefer = 1 ∨ h.power.claims ≥ 4 then ((s.setPhase head 0).batonPins).windupAnswer head stRefused
    else s.setHead head { h with power := { h.power with claims := h.power.claims + 1 } })

/-- Asserts the next enable of a wind-up and waits for its PGOOD (R420). -/
def State.nextEnable (s : State) (n e : Nat) : State :=
  s.modHead n (fun h => { h with pins := h.pins.raise e, power := { h.power with phase := 3, enable := e } })

/-- VCOM_SETTLE (R420): the first enable in use is asserted. -/
def execVcomSettle (head : Nat) (s : State) : Host.Outcome State Fault Refusal :=
  let h := s.head head
  .next (if h.power.phase = 2 then s.nextEnable head ((usedFrom h.power.seq.penUsed 0).getD 0) else s)

/-- PGOOD (R420): the enable's PGOOD has risen; PEN_DELAY or, after the last, TRAIN_DELAY begins. -/
def execPgood (head enable : Nat) (s : State) : Host.Outcome State Fault Refusal :=
  let h := s.head head
  .next (if h.power.phase = 3 ∧ h.power.enable = enable then
      s.setHead head { h with power := { h.power with
        arrived := if bit h.power.arrived enable then h.power.arrived else h.power.arrived + 2 ^ enable,
        phase := if (usedFrom h.power.seq.penUsed (enable + 1)).isSome then 4 else 5 } }
    else s)

/-- PEN_DELAY (R420): the next enable in use is asserted. -/
def execPenDelay (head : Nat) (s : State) : Host.Outcome State Fault Refusal :=
  let h := s.head head
  .next (if h.power.phase = 4 then
      (match usedFrom h.power.seq.penUsed (h.power.enable + 1) with | some e => s.nextEnable head e | none => s.setPhase head 5)
    else s)

/-- TRAIN_DELAY (R420): every driver of the head enters TRAIN. -/
def execTrainDelay (head : Nat) (s : State) : Host.Outcome State Fault Refusal :=
  .next (if (s.head head).power.phase = 5 then (s.driversOf head).foldl (fun s d => s.linkTrain d true) (s.setPhase head 6) else s)

/-- WINDUP_DONE (R242, R273, R420, R441): every driver is UP or FAILED; the first thermistor sample is taken and the head is PARKED. -/
def execWindupDone (head therm : Nat) (s : State) : Host.Outcome State Fault Refusal :=
  let h := s.head head
  let ds := s.driversOf head
  .next (if h.power.phase = 6 ∧ ds.all (fun d => (s.driver d).link == 4 || (s.driver d).link == 5) = true then
      (let s := s.modHead head (fun x => { x with
         state := 1, power := { x.power with phase := 0 }, scan := { x.scan with windupTick := s.timeRegs.ticks, tBase := if s.standby then s.pair.tBase else s.tp } })
       let s := if s.standby then s else s.thermTake head (therm % 4096)
       let s := s.post 0xE080 head 2 (leBytes 1 (ds.countP (fun d => (s.driver d).link != 4)))
       s.endProcs 0x0801 head noFrame head true)
    else s)

/-! ## Drops of enables -/

/-- A wind-up that failed has dropped its last enable (R421). -/
def State.windupFailed (s : State) (n : Nat) : State :=
  let e := (s.head n).power.enable
  ((s.releaseNets n).post 0xE081 n 2 (leBytes 1 e)).endProcs 0x0801 n noFrame n false

/-- A panel has been powered down (R423). -/
def State.poweredDown (s : State) (n : Nat) : State := ((s.releaseNets n).headOff n).endProcs 0x0802 n noFrame n true

/-- The last enable drop of a head in the wind-down (R426); where the loss of a PGOOD brought it there, CLEAN is committed,
PANEL_PG_LOST posted, and the head is OFF (R422). -/
def State.wdLastDrop (s : State) (n : Nat) : State :=
  let p := (s.head n).power
  let s := s.releaseNets n
  if p.pgLost then
    (let s := if s.sys.windDown then s else commitShutdown s [(n, 0)] 4
     (s.post 0xE082 n 2 (leBytes 1 p.pgEnable)).headOff n)
  else s

/-- The highest enable of a head drops; with the last, the phase ends. -/
def State.dropEnable (s : State) (n : Nat) : State :=
  let s := s.modHead n (fun h => { h with pins := h.pins.dropTop })
  let h := s.head n
  if h.pins.pen ≠ 0 then s else
  match h.power.phase with
  | 7 => s.windupFailed n
  | 8 => s.poweredDown n
  | 10 => s.wdLastDrop n
  | _ => s

/-- WINDUP_FAIL (R421): a PGOOD has not arrived within PG_TIMEOUT, and the enables raised drop again. -/
def execWindupFail (head : Nat) (s : State) : Host.Outcome State Fault Refusal :=
  .next (if (s.head head).power.phase = 3 then (s.setPhase head 7).dropEnable head else s)

/-- PEN_GAP_END (R421, R426): the next enable drops. -/
def execPenGapEnd (head : Nat) (s : State) : Host.Outcome State Fault Refusal :=
  let p := (s.head head).power.phase
  .next (if p = 7 ∨ p = 10 then s.dropEnable head else s)

/-- The power-down of a PARKED head begins: the highest enable drops (R423). -/
def State.powerDown (s : State) (n : Nat) : State := (s.setPhase n 8).dropEnable n

/-- PANEL_POWERDOWN_DROP (R423): the next enable of a head that is powered down drops. -/
def execPanelPowerdownDrop (head : Nat) (s : State) : Host.Outcome State Fault Refusal :=
  .next (if (s.head head).power.phase = 8 then s.dropEnable head else s)

/-- PANEL_POWERDOWN (0x0802; R423): a scanning head first stops and parks. -/
def execPanelPowerdown (h : Hdr) (head : Nat) (s : State) : Host.Outcome State Fault Refusal :=
  let hd := s.head head
  .next (runProc h 0x0802 head
    { bad := decide (head > 3), busy := s.sys.windDown || hd.power.phase != 0, ignored := hd.state == 0 } s
    (fun p s =>
      let s := s.addProc p
      if hd.state = 1 then s.powerDown head
      else (s.stopHead head).modHead head (fun x => { x with power := { x.power with downAfterPark := true } })))

/-- HEAD_PARKED (R295, R318, R390, R423, R564, R653): GALLON is released, CLEAN committed, the head PARKED; commands that waited take effect
and a power-down goes on. -/
def execHeadParked (head : Nat) (s : State) : Host.Outcome State Fault Refusal :=
  let h := s.head head
  .next (if h.state == 5 && h.scan.parking then
      (let s := s.modHead head (fun x => { x with pins := { x.pins with gallon := false, goe := false } })
       let s := incCounter (commitShutdown s [(head, 0)] 1) (10 + head)
       let s := s.post 0xE060 head 0 (leBytes 2 h.ledger.parkL)
       let s := s.endProcs 0x0704 head ((h.scan.stopFrame.getD h.scan.frame) % 2 ^ 32) head true
       let s := if h.scan.nextCfg.isSome then s.switchRaster head false else s
       let s := (s.haltHead head 1).applyParked head
       if (s.head head).power.downAfterPark then
         (s.modHead head (fun x => { x with power := { x.power with downAfterPark := false } })).powerDown head
       else s)
    else s)

/-! ## Wind-down -/

/-- A head takes the steps of the wind-down from its start (R426, R427): scan or wind-up is aborted and the gate outputs closed. A PARKED
head keeps its outputs and takes only the drops. -/
def State.wdHead (s : State) (n : Nat) : State :=
  let h := s.head n
  if h.power.phase = 9 ∨ h.power.phase = 10 then s else
  let s := s.endProcs 0x0801 n noFrame n false
  let s := s.endProcs 0x0802 n noFrame n false
  let s := if h.scans then s.haltHead n 6 else s
  s.modHead n (fun x => { x with
    pins := if h.state = 1 then x.pins else { x.pins with gck := 0, stv := false, goe := true },
    power := { x.power with phase := if h.power.phase = 8 then 10 else 9, held := false, downAfterPark := false } })

/-- DISCHARGE and GALLON of a head in the wind-down (R391, R426, R432): a standby sends its DISCHARGE with a generation that no driver
obeys. -/
def State.wdDischarge (s : State) (n : Nat) : State :=
  let h := s.head n
  let s := s.modHead n (fun x => { x with power := { x.power with held := true } })
  if h.state = 1 then s else
  let flags := if s.standby then 1 + 16 * ((s.pair.gen + 8) % 16) else 1 + 16 * (if s.pair.state = 0 then 0 else s.pair.gen % 16)
  (s.broadcast n 5 flags).modHead n (fun x => { x with pins := { x.pins with gallon := true } })

/-- The clusters are switched off (R425, R567): what runs on them is lost, what waits is held. Each that was not off posts PD_CHANGED at the
end of its switch-off. `replaced` is the domain whose transition the switch-off replaces. -/
def State.enginesOff (s : State) (replaced : Option Nat) : State :=
  let lost := (List.range 8).flatMap (fun c => (s.cluster c).running)
  let going := ((List.range 8).filter (fun c => s.pd (c + 1) != 2 || replaced == some (c + 1))).map (fun c => (c + 1, s.pd (c + 1), 2))
  let s := { s with power := { s.power with
    dom := (List.range 8).foldl (fun m c => spSet 0 m (c + 1) 2) s.power.dom,
    moves := s.power.moves.filter (fun m => decide (m.1 = 0 ∨ 8 < m.1)) ++ going } }
  let s := (List.range 8).foldl (fun s c => (s.moveDeque c).setCluster c { (s.moveDeque c).cluster c with running := [] }) s
  lost.foldl (fun s i => if i.key.kind = ItemKind.t then s.abandonT i.key.owner i.key.frame else s) s

/-- The sequencer is overridden (R425, R575): an ENG transition is replaced by the switch-off, a change of operating point ends at the lower
frequency. -/
def State.sequencerStop (s : State) : State :=
  let s := match s.power.change with
    | some c => if 1 ≤ c.domain ∧ c.domain ≤ 8 then
        (let s := { s with power := { s.power with change := none } }
         match c.proc with | some p => s.dropped p.acceptNo p.tag 4 | none => s)
      else s
    | none => s
  match s.power.opChange with
  | some o =>
    let s := { s with power := { s.power with opChange := none, op := max o.old o.target } }
    (match o.proc with | some p => s.dropped p.acceptNo p.tag 4 | none => s)
  | none => s

/-- NVS work that has not begun to commit is discarded and answered BUSY (R548). -/
def State.nvsDiscard (s : State) : State :=
  let s1 := { s with nvs := { s.nvs with tasks := s.nvs.tasks.filter (fun t => match t.goal with | .raw _ => false | .recordPage .. => false | _ => true) } }
  s.nvs.tasks.foldl (fun s t => match t.goal with
    | .raw r => s.finish r stBusy []
    | .recordPage r _ _ _ _ => s.finish r stBusy []
    | _ => s) s1

/-- The wind-down starts (R424 to R428, R431, R468): every head with an enable asserted or in its wind-up takes part, on a standby every
head whose own lanes run (R432). -/
def State.windStart (s : State) (cause : Nat) (fromPerst : Bool) : State :=
  if s.sys.windDown then s else
  let mine := headNums.filter (fun n => (s.head n).drives || (s.standby && ((s.head n).state != 0 || (s.head n).power.phase != 0)))
  let claims := headNums.filter (fun n => (s.head n).power.phase == 1)
  let s := { s with sys := { s.sys with windDown := true, txHeld := true }, wind := some { cause := cause, heads := mine, fromPerst := fromPerst } }
  let replaced := s.power.change.map (fun c => c.domain)
  let s := s.sequencerStop.nvsDiscard
  let s := claims.foldl (fun s n => (s.setPhase n 0).batonPins.windupAnswer n stBusy) s
  let s := mine.foldl (fun s n => s.wdHead n) s
  let s := if s.pairActive then s.sendMsg 0x0E (leBytes 1 cause) else s
  s.enginesOff replaced

/-- PFAIL_N (R418, R424, R431): during a wind-down a further assertion changes nothing. -/
def execPfailN (s : State) : Host.Outcome State Fault Refusal :=
  .next (if s.sys.aonReset then s
    else ({ s with sys := { s.sys with pfail := true, pfailClear := false } } : State).windStart 2 false)

/-- Transmission resumes and ENG0 to ENG7 start to return to on (R431, R567). -/
def State.windResume (s : State) : State :=
  let going := ((List.range 8).filter (fun c => s.pd (c + 1) != 0)).map (fun c => (c + 1, s.pd (c + 1), 0))
  { s with sys := { s.sys with txHeld := false }, power := { s.power with moves := s.power.moves ++ going } }

/-- PFAIL_N_DEASSERT (R419, R431): 10 ms without a break. -/
def execPfailNDeassert (s : State) : Host.Outcome State Fault Refusal :=
  let s' : State := { s with sys := { s.sys with pfail := false, pfailClear := true } }
  .next (if s.sys.aonReset then s else if s.sys.windDown || !s.sys.txHeld then s' else s'.windResume)

/-- REFCLK_LOSS (R35): the root PLL holds its frequency and the wind-down starts. -/
def execRefclkLoss (s : State) : Host.Outcome State Fault Refusal :=
  .next (if s.sys.aonReset then s
    else ({ s with clocks := { s.clocks with refclkOk := false, rootLock := false } } : State).windStart 3 false)

/-- WIND_DOWN (R391, R426): DISCHARGE goes out and GALLON is asserted on every head that takes part and has not yet done so. -/
def execWindDown (s : State) : Host.Outcome State Fault Refusal :=
  .next (match s.wind with
    | some w => w.heads.foldl (fun s n =>
        let p := (s.head n).power
        if p.phase = 9 ∧ p.held = false then s.wdDischarge n else s) s
    | none => s)

/-- WD_HOLD_END (R426, R428): the hold after GALLON ends and the highest enable drops. -/
def execWdHoldEnd (head : Nat) (s : State) : Host.Outcome State Fault Refusal :=
  let h := s.head head
  .next (if h.power.phase = 9 ∧ h.power.held = true then
      (let s := if h.state = 1 then s else { s with wind := s.wind.map (fun w => { w with clean := w.clean ++ [head] }) }
       (s.setPhase head 10).dropEnable head)
    else s)

/-- WIND_DOWN_COMMITS (R428, R560): after the last drop of every head, the shutdown record and the counters are committed in that order. -/
def execWindDownCommits (s : State) : Host.Outcome State Fault Refusal :=
  .next (match s.wind with
    | some w =>
      if w.commits || w.heads.any (fun n => (s.head n).power.phase == 9 || (s.head n).power.phase == 10) then s else
      let s := { s with wind := some { w with commits := true } }
      let s := incCounter (commitShutdown s (w.clean.map (fun n => (n, 0))) w.cause) 3
      if w.cause = 3 then incCounter s 4 else s
    | none => s)

/-- PANEL_PG_LOST (R422, R427): that head alone winds down. -/
def execPanelPgLost (head enable : Nat) (s : State) : Host.Outcome State Fault Refusal :=
  let h := s.head head
  .next (if s.sys.windDown || !bit h.pins.pen enable || !bit h.power.arrived enable || 7 ≤ h.power.phase then s
    else
      (let s := s.modHead head (fun x => { x with power := { x.power with pgLost := true, pgEnable := enable } })
       (s.wdHead head).wdDischarge head))

end Sys2Proof.Machine
end

