-- ==== Sys2Proof/Machine/PowerDomains.lean ====
section
/-! DEFINITION. The power domains and the sequencer (R566 to R578), wake (R576 to R579), yo-yo settings (R580 to R583), operating points
(R586 to R589), clocks (R590, R591), refresh (R30) and the glitch counts (R418, R635). -/

namespace Sys2Proof.Machine

/-! ## The sequencer -/

/-- Whether the sequencer takes no request: a change in progress (R574) or a wind-down (R575). -/
def State.seqBusy (s : State) : Bool := s.power.change.isSome || !s.power.moves.isEmpty || s.power.opChange.isSome || s.sys.windDown

/-- Whether a transmit output is set or a transmit flow enabled (R568). -/
def State.anyOutput (s : State) : Bool := (List.range 64).any (fun i => (s.output i).cfg.isSome)

/-- Whether a flow leg is enabled on a port that is neither in yo-yo mode nor OFF (R568). -/
def State.anyLegRuns (s : State) : Bool :=
  flowNums.any (fun ki => let f := s.flow ki.1 ki.2
    f.enabled && f.legs.any (fun l => s.portExists l.2.port && !(s.yoyo l.2.port).on))

/-- Whether any transmit flow is enabled. -/
def State.anyTx (s : State) : Bool := (List.range 128).any (fun j => (spGet s.txs {} j).enabled)

/-- The requests that R568 refuses. -/
def State.pdRefused (s : State) (d st : Nat) : Bool :=
  let leaves := s.pd d == 0 && st != 0
  (d == 0 && st == 2) ||
  (1 ≤ d && d ≤ 8 && leaves && (s.anyScans || s.anyOutput) && (List.range 8).all (fun c => c + 1 == d || s.pd (c + 1) != 0)) ||
  (9 ≤ d && leaves && (s.anyScans || s.anyTx || s.anyLegRuns)) ||
  (9 ≤ d && st == 2 && headNums.any (fun n => (s.head n).cfg.isSome))

/-- A transition starts (R567, R569): a cluster that runs nothing hands its deque on at once. -/
def State.pdBegin (s : State) (d st : Nat) (p : Option Proc) : State :=
  let s := { s with power := { s.power with change := some { domain := d, old := s.pd d, target := st, proc := p } } }
  if 1 ≤ d ∧ d ≤ 8 ∧ st ≠ 0 ∧ (s.cluster (d - 1)).running.isEmpty = true then s.moveDeque (d - 1) else s

/-- PD_SET (0x0F01; R566 to R570, R574, R575). -/
def execPdSet (h : Hdr) (domain state : Nat) (s : State) : Host.Outcome State Fault Refusal :=
  .next (runProc h 0x0F01 domain
    { bad := decide (domain > 10 ∨ state > 2), busy := s.seqBusy, ignored := s.pd domain == state, refused := s.pdRefused domain state } s
    (fun p s => s.pdBegin domain state (some p)))

/-- Sets PD_IGNORED. -/
def State.pdIgnore (s : State) : State := { s with power := { s.power with pdIgnored := true } }

/-- PD_CTL (R567, R568, R574, R575, R611): a write of POWER.PD_CTL. -/
def execPdCtl (value : Nat) (s : State) : Host.Outcome State Fault Refusal :=
  let d := bits value 3 0
  let st := bits value 5 4
  .next (
    if s.sys.aonReset then s
    else if d > 10 || st > 2 || s.seqBusy then s.pdIgnore
    else if s.pd d = st then s
    else if s.pdRefused d st then s.pdIgnore
    else s.pdBegin d st none)

/-! ## Operating points -/

/-- The VID code of a point (R586). -/
def vidOf (op : Nat) : Nat := if op = 0 then 50 else if op = 1 then 36 else 24

/-- A change of operating point starts: the divider counts as the slower of the two until the wait for VGOOD ends (R206, R587). -/
def State.opBegin (s : State) (op : Nat) (p : Option Proc) : State :=
  { s with power := { s.power with
      opChange := some { target := op, old := s.power.op, oldVid := s.power.vid, proc := p }, vid := vidOf op } }

/-- OP_SET (0x0F02; R587, R589): the point in force is IGNORED unless VGOOD_LOST holds the divider. -/
def execOpSet (h : Hdr) (op : Nat) (s : State) : Host.Outcome State Fault Refusal :=
  .next (runProc h 0x0F02 0x0F { bad := decide (op > 2), busy := s.seqBusy, ignored := op == s.power.op && !s.power.div8 } s
    (fun p s => s.opBegin op (some p)))

/-- OP_CTL (R574, R587, R612): a write of POWER.OP_CTL. -/
def execOpCtl (value : Nat) (s : State) : Host.Outcome State Fault Refusal :=
  let op := bits value 1 0
  .next (
    if s.sys.aonReset then s
    else if op = 3 ∨ s.seqBusy = true then s.pdIgnore
    else if op = s.power.op ∧ s.power.div8 = false then s
    else s.opBegin op none)

/-- A change of operating point ends with a point in force: PD_CHANGED, and the command's end. -/
def State.opEnd (s : State) (c : OpChange) (op : Nat) (ok : Bool) : State :=
  let s := { s with power := { s.power with opChange := none, op := op } }
  let s := s.post 0xE0B0 0x0F 2 (leBytes 1 c.old ++ leBytes 1 op)
  match c.proc with
  | some p => if ok then s.procApplied p noFrame 255 else s.dropped p.acceptNo p.tag 4
  | none => s

/-- A wake that waited for the sequencer starts, oldest first (R574, R578). -/
def State.wakeNext (s : State) : State :=
  if s.seqBusy then s else
  let ready := s.power.latched.filter (fun w => s.pd w.1 == 1 || s.pd w.1 == 2)
  match ready.head? with
  | some w => ({ s with power := { s.power with latched := s.power.latched.filter (fun x => x.1 != w.1) } } : State).pdBegin w.1 0 none
  | none => { s with power := { s.power with latched := [] } }

/-- VID_SETTLE (R587): VGOOD is high and the waits have passed: the point is in force. -/
def execVidSettle (s : State) : Host.Outcome State Fault Refusal :=
  .next (match s.power.opChange with
    | some c => (({ s with power := { s.power with vgood := true, div8 := false } } : State).opEnd c c.target true).wakeNext
    | none => s)

/-- VGOOD_TIMEOUT (R588): the previous code is restored, the lower frequency kept. -/
def execVgoodTimeout (s : State) : Host.Outcome State Fault Refusal :=
  .next (match s.power.opChange with
    | some c =>
      let s := s.logFault 0xF001 2 (leBytes 1 s.power.vid)
      (({ s with power := { s.power with vgood := false, vid := c.oldVid } } : State).opEnd c (max c.old c.target) false).wakeNext
    | none => s)

/-- VGOOD_LOST (R589): outside a change, ENGCLK goes to ÷8. -/
def execVgoodLost (s : State) : Host.Outcome State Fault Refusal :=
  .next (if s.sys.aonReset then s
    else if s.power.opChange.isSome then { s with power := { s.power with vgood := false } }
    else ({ s with power := { s.power with vgood := false, div8 := true } } : State).logFault 0xF002 2 (leBytes 1 s.power.vid))

/-! ## Wake -/

/-- WAKE_MASK_WRITE (R579, R612): a write sets the mask and clears STUCK. -/
def State.setWakeMask (s : State) (d value : Nat) : State :=
  { s with power := { s.power with
      wakeMask := spSet 0 s.power.wakeMask d (value % 32), stuck := spSet 0 s.power.stuck d 0,
      wakeRuns := spClear (8 * d) (8 * d + 8) s.power.wakeRuns } }

/-- WAKE_MASK_WRITE (R579, R612). -/
def execWakeMaskWrite (domain value : Nat) (s : State) : Host.Outcome State Fault Refusal :=
  .next (if domain > 10 ∨ s.sys.aonReset = true then s else s.setWakeMask domain value)

/-- A level source has caused one more wake of a domain; the 1,000th in a row makes it stuck (R579). -/
def State.levelWake (s : State) (d src : Nat) : State :=
  let k := 8 * d + src
  let n := spGet s.power.wakeRuns 0 k + 1
  let s := { s with power := { s.power with wakeRuns := spSet 0 s.power.wakeRuns k n } }
  if n < 1000 then s else
  let m := spGet s.power.stuck 0 d
  ({ s with power := { s.power with stuck := spSet 0 s.power.stuck d (if bit m src then m else m + 2 ^ src),
                                    wakeRuns := spSet 0 s.power.wakeRuns k 0 } } : State).post 0xE0B1 src 2 []

/-- A wake waits for its domain's entry, or for the sequencer. -/
def State.latchWake (s : State) (d src : Nat) : State := { s with power := { s.power with latched := s.power.latched ++ [(d, src)] } }

/-- WAKE (R576, R578, R579): a source in the domain's mask fires. `lost` says that an edge fell in the last 4 AONCLK cycles of an
entry. -/
def execWake (domain source : Nat) (lost : Bool) (s : State) : Host.Outcome State Fault Refusal :=
  let level := decide (3 ≤ source)
  let count := fun (s : State) => if level then s.levelWake domain source else s
  .next (
    if domain > 10 || source > 4 || !bit (spGet s.power.wakeMask 0 domain) source || bit (spGet s.power.stuck 0 domain) source then s
    else match s.power.change with
      | some c =>
        if c.domain = domain then
          (if c.target = 0 ∨ (lost = true ∧ level = false) then s else count (s.latchWake domain source))
        else if s.pd domain = 1 then count (s.latchWake domain source) else s
      | none =>
        if s.pd domain ≠ 1 then s
        else if s.seqBusy then count (s.latchWake domain source)
        else count (s.pdBegin domain 0 none))

/-- PD_WRITE_DROP (R577): a held write has waited 100 µs. -/
def execPdWriteDrop (offset : Nat) (s : State) : Host.Outcome State Fault Refusal :=
  .next (match s.power.heldWrites.find? (fun w => w.1 == offset) with
    | some w => { s with power := { s.power with heldWrites := s.power.heldWrites.erase w, writeDrop := inc32 s.power.writeDrop } }
    | none => s)

/-! ## Yo-yo settings -/

/-- Whether a YOYO_SET has its fields in range (R129, R495, R504, R580, R581). -/
def yoyoOk (p : YoyoP) (s : State) : Bool :=
  let port := decide (p.unit < 32)
  let str := p.unit == stringUnit
  let tdm := decide (48 ≤ p.unit ∧ p.unit ≤ 51)
  let therm := p.unit == thermalUnit
  let low := if port then (if (s.quad (p.unit / 4)).mode = 3 then 4 else 2) else if str then 2 else 1
  decide (p.enable ≤ 1 ∧ p.compare ≤ 3 ∧ p.action ≤ 1) && (port || str || tdm || therm) &&
    (p.enable == 0 ||
      (decide (10 ≤ p.period ∧ p.period ≤ 60000 ∧ low ≤ p.window ∧ p.window ≤ 1000 ∧ p.window < p.period) &&
        (p.action == 0 || port) &&
        (if port then decide (p.compare ≤ 1) else if str then p.compare == 0 else if tdm then p.compare == 2 else p.compare == 3)))

/-- A unit enters yo-yo mode: its first window opens at once (R583), and a port is no longer up (R129). -/
def State.yoyoEnter (s : State) (p : YoyoP) : State :=
  let y := s.yoyo p.unit
  let s := s.setYoyo p.unit { on := true, cfg := p, window := true, repeats := if y.stuck then 0 else y.repeats }
  if p.unit < 32 ∧ s.portExists p.unit = true then s.portDrop p.unit 1 else s

/-- YOYO_SET (0x0F03; R504, R579 to R583). -/
def execYoyoSet (h : Hdr) (p : YoyoP) (s : State) : Host.Outcome State Fault Refusal :=
  let y := s.yoyo p.unit
  .next (runNow h 0x0F03
    { bad := !yoyoOk p s, ignored := p.enable == 0 && !y.on && !y.stuck,
      refused := p.enable == 1 && ((p.unit == thermalUnit && (s.pd 9 == 0 || s.pd 10 == 0)) || (p.unit == stringUnit && s.pair.linkUp)) } s
    (fun s => (
      if p.enable = 0 then s.setYoyo p.unit {}
      else if y.on then s.setYoyo p.unit { y with next := some p, stuck := false, repeats := if y.stuck then 0 else y.repeats }
      else s.yoyoEnter p, [])))

/-- The state of a domain as PD_STATUS shows it: 3 in transition (R612). -/
def State.pdShown (s : State) (d : Nat) : Nat :=
  if s.power.moves.any (fun m => m.1 == d) then 3 else
  match s.power.change with
  | some c => if c.domain = d then 3 else s.pd d
  | none => s.pd d

/-- POWER_STATUS (0x0F04; R566, R610, R612). -/
def execPowerStatus (h : Hdr) (s : State) : Host.Outcome State Fault Refusal :=
  .next (runRead h 0x0F04 {} s (fun s =>
    (List.range 11).flatMap (fun d => leBytes 1 (s.pdShown d)) ++ leBytes 1 s.power.op ++ leBytes 1 (b2n s.power.pdIgnored) ++
      (List.range 8).flatMap (fun i => leInt 2 (s.power.temps.getD i 0))))

/-! ## Clocks, refresh, glitches -/

/-- FAB_SEL (R524, R590, R613): 0 for 800 MHz is ignored while any slice is bypassed. -/
def execFabSel (value : Nat) (s : State) : Host.Outcome State Fault Refusal :=
  let v := bits value 1 0
  .next (
    if s.sys.aonReset || v == 3 then s
    else if v = 0 ∧ s.clocks.fabSel ≠ 0 ∧ (List.range 8).any (fun t => (spGet s.fab.tgt {} t).bypass) = true then
      { s with fab := { s.fab with sliceIgnored := true } }
    else { s with clocks := { s.clocks with fabSel := v } })

/-- NREFCLK_LOSS (R34, R591): the ports of NL0 to NL15 or NL16 to NL31 go down. -/
def execNrefclkLoss (n : Nat) (s : State) : Host.Outcome State Fault Refusal :=
  let lanes := (List.range 16).map (fun i => 16 * n + i)
  .next (if n > 1 ∨ s.sys.aonReset = true then s else
    let s := if n = 0 then { s with clocks := { s.clocks with nref0Ok := false } } else { s with clocks := { s.clocks with nref1Ok := false } }
    let s := (lanes.filter s.portExists).foldl (fun s p => s.portDrop p 5) s
    s.lanesOff lanes)

/-- REFCLK_RETURN (R591): 0 REFCLK, 1 and 2 the two NREFCLK inputs. -/
def execRefclkReturn (which : Nat) (s : State) : Host.Outcome State Fault Refusal :=
  .next (if s.sys.aonReset then s else match which with
    | 0 => { s with clocks := { s.clocks with refclkOk := true, rootLock := s.clocks.started } }
    | 1 => { s with clocks := { s.clocks with nref0Ok := true } }
    | 2 => { s with clocks := { s.clocks with nref1Ok := true } }
    | _ => s)

/-- The refresh step for a temperature in 1/16 °C, `below` lower than the thresholds of R30. -/
def refreshOf (t below : Int) : Nat := if 1760 - below < t then 2 else if 1520 - below < t then 1 else 0

/-- REFRESH_STEP (R30, R579): the sensors are read; the rate rises with the hotter stack, and falls where `cooled` says that it has been
2 °C below for 1 s. -/
def execRefreshStep (temps : List Int) (cooled : Bool) (s : State) : Host.Outcome State Fault Refusal :=
  let y := s.yoyo thermalUnit
  let ts := (List.range 8).map (fun i => temps.getD i 0)
  let hot := max (ts.getD 6 0) (ts.getD 7 0)
  let up := refreshOf hot 0
  let down := refreshOf hot 32
  .next (if y.on && !y.window then s else
    let runs := if ts.any (fun t => decide (1760 ≤ t)) then s.power.wakeRuns else s.power.wakeRuns.filter (fun r => r.1 % 8 != 4)
    { s with power := { s.power with
        temps := ts, wakeRuns := runs,
        refresh := if s.power.refresh ≤ up then up else if cooled then min s.power.refresh down else s.power.refresh } })

/-- The glitch count of an input that no register shows: 0 VGOOD, 1 BATON_IN. -/
def State.otherGlitch (s : State) (k : Nat) : State :=
  { s with power := { s.power with otherGlitch := spSet 0 s.power.otherGlitch k (inc32 (spGet s.power.otherGlitch 0 k)) } }

/-- GLITCH (R81, R418, R635): a pulse shorter than the minimum changes nothing but its count. -/
def execGlitch (input : DebInput) (s : State) : Host.Outcome State Fault Refusal :=
  .next (match input with
    | .pfail => { s with power := { s.power with pfailGlitch := inc32 s.power.pfailGlitch } }
    | .pgood head enable =>
      let k := 4 * head + enable
      { s with power := { s.power with pgoodGlitch := spSet 0 s.power.pgoodGlitch k (satInc 255 (spGet s.power.pgoodGlitch 0 k)) } }
    | .evtIn pin => if pin > 7 then s else s.setEvtIn pin { s.evtInOf pin with glitch := satInc 0xFFFF (s.evtInOf pin).glitch }
    | .vgood => s.otherGlitch 0
    | .batonIn => s.otherGlitch 1)

end Sys2Proof.Machine
end

