-- ==== Sys2Proof/Machine/FuncReset.lean ====
section
/-! DEFINITION. Function resets (R221, R320, R369, R398, R444, R496, R497, R549, R595, R596): a reset starts by command or by register, and
its effects are complete when FUNC_RESET_DONE ends it. -/

namespace Sys2Proof.Machine

/-- The function codes of R496. -/
def funcKnown (f : Nat) : Bool :=
  decide (f ≤ 0x22 ∨ (0x30 ≤ f ∧ f ≤ 0x37) ∨ (0x40 ≤ f ∧ f ≤ 0x43) ∨ (0x50 ≤ f ∧ f ≤ 0x5B) ∨ (0x60 ≤ f ∧ f ≤ 0x64))

/-- Whether a function resets now. -/
def State.resetting (s : State) (f : Nat) : Bool := s.sys.funcBusy.contains f

/-- A reset that the wind-down turns away (R425, R595): of a head or of the NVS. -/
def State.resetHeldOff (s : State) (f : Nat) : Bool := s.sys.windDown && (decide (0x40 ≤ f ∧ f ≤ 0x43) || f == 0x62)

/-- A function reset starts: a head stops by R316 with its pending P-items dropped (R320), the pair's link goes down (R444), the record
scan begins where no commit runs (R549), the TDM ports fall silent (R596). -/
def State.funcStart (s : State) (f : Nat) : State :=
  let s := { s with sys := { s.sys with funcBusy := s.sys.funcBusy ++ [f] } }
  if 0x40 ≤ f ∧ f ≤ 0x43 then (s.stopHead (f - 0x40)).resetRows (f - 0x40)
  else if f = 0x60 then s.pairDown
  else if f = 0x62 then (if s.nvs.commit.isNone then rescan s else s)
  else if f = 0x61 then headNums.foldl (fun s n => s.modHead n (fun h => { h with audio := { h.audio with muted := true } })) s
  else s

/-! ## What each reset leaves (R596) -/

/-- A network port: PCS, MAC and lanes; the port goes down. -/
def State.resetPort (s : State) (n : Nat) : State :=
  let s := s.portDrop n 4
  (s.portLanes n).foldl (fun s i => s.laneReset i) s

/-- A leg's bucket refilled (R126). -/
def fullLeg (c : FlowSetP) (l : LegState) (now : Nat) : LegState :=
  { l with tokens := 10 * uSec * (declared c.kind c.format).2 * bucketOf c, stamp := now }

/-- The media receiver: open frames, buckets, 2022-7 windows. -/
def State.resetMedia (s : State) : State :=
  let s := (List.range 64).foldl (fun s i => s.closeAll i) s
  flowNums.foldl (fun s ki =>
    let f := s.flow ki.1 ki.2
    match f.cfg with
    | none => s
    | some c => s.setFlow ki.1 ki.2 { f with seen := [], a := fullLeg c f.a s.tp, b := fullLeg c f.b s.tp }) s

/-- Every destination of the matrix. -/
def allDests : List Dest := (List.range 64).map (fun i => ⟨0, i⟩) ++ (List.range 64).map (fun i => ⟨1, i⟩)

/-- A destination's pending change is dropped with cause RESET and its transition ends on the new route. -/
def State.resetDest (s : State) (d : Dest) : State :=
  let s := s.dropDeferred d 3
  let x := s.dest d
  if x.trans.isSome then s.setDest d { x with trans := none } else s

/-- Whether an entry is a route change that waits for its frame. -/
def Entry.isRoute (e : Entry) : Bool := match e.cmd with | .routeSet .. => true | _ => false

/-- The matrix. Timed route changes stay in their launch queues, which only a head's reset clears (DEDUCED). -/
def State.resetMatrix (s : State) : State :=
  allDests.foldl (fun s d => s.resetDest d) (s.dropEntries (fun e => e.isRoute && !e.timed) 3)

/-- An item that a cluster's reset abandons (R221). -/
def State.loseItem (s : State) (k : ItemKey) : State :=
  match k.kind with
  | .p => s.abandonP k 4
  | .c => s.abandonC k
  | .t => s.abandonT k.owner k.frame

/-- A cluster (R221). -/
def State.resetCluster (s : State) (c : Nat) : State :=
  let lost := (s.cluster c).running
  let s := s.setCluster c { s.cluster c with running := [] }
  let s := lost.foldl (fun s i => s.loseItem i.key) s
  (s.moveDeque c).feed

/-- A head (R320): its launch queue and its pending transitions. -/
def State.resetHead (s : State) (n : Nat) : State :=
  let s := s.dropEntries (fun e => e.queue == n && e.timed) 3
  (List.range 16).foldl (fun s m => s.resetDest ⟨0, 16 * n + m⟩) s

/-- A driver group (R369, R398). -/
def State.resetGroup (s : State) (g : Nat) : State :=
  let s := (List.range 16).foldl (fun s i => s.laneReset (36 + 16 * g + i)) s
  (List.range 8).foldl (fun s i =>
    let d := 8 * g + i
    let s := s.linkTo d 0 true
    if s.mayTrain d then s.linkTrain d false else s) s

/-- The pair logic (R398, R444): the link is down, the baton stays. -/
def State.resetPair (s : State) : State :=
  let s := if s.pair.linkUp then s.pairDown else s
  [32, 33, 34, 35].foldl (fun s i => (s.setLane i { s.lane i with blockLock := false, hunting := true }).laneReset i) s

/-- Audio: crossfades end on the new source, the silence of the TDM ports ends. -/
def State.resetAudio (s : State) : State :=
  let s := headNums.foldl (fun s n => s.modHead n (fun h => { h with audio := { h.audio with fade := none, muted := false } })) s
  { s with txAudio := s.txAudio.map (fun x => (x.1, { x.2 with fade := none })) }

/-- The NVS (R549): the record scan ends. -/
def State.resetNvs (s : State) : State := scanRecords s false

/-- The first abandoned index of a command ring (R493, R497): the command that has no reply, else the first packet not taken. -/
def State.abandonedAt (s : State) (r : Nat) : Nat :=
  let busy := s.cp.running.any (fun x => x.src == r && x.opcode != 0x0103) || s.cp.replies.any (fun x => x.src == r)
  if busy then (s.ring r).last else (s.ring r).ci

/-- The command processor (R497): commands without a reply and every pending CMD_APPLIED go; launch queues stay. The reset alone is still
answered. -/
def State.resetCommands (s : State) : State :=
  let idx := [0, 1, 2, 3].flatMap (fun r => leBytes 4 (s.abandonedAt r))
  let s := [0, 1, 2, 3].foldl (fun s r => s.setRing r { s.ring r with ci := (s.ring r).pi, last := (s.ring r).pi }) s
  let quiet := fun (p : Option Proc) => (p.map (fun p => ({ p with noApplied := true } : Proc)) : Option Proc)
  let s : State := { s with
    cp := { s.cp with
      running := s.cp.running.filter (fun x => decide (x.src ≥ 4) || x.opcode == 0x0103),
      replies := s.cp.replies.filter (fun x => decide (x.src ≥ 4)),
      procs := [],
      launch := s.cp.launch.map (fun e => ({ e with noApplied := true } : Entry)),
      events := s.cp.events.filter (fun e => e.code != 0xE001) },
    power := { s.power with
      change := s.power.change.map (fun c => ({ c with proc := quiet c.proc } : PdChange)),
      opChange := s.power.opChange.map (fun c => ({ c with proc := quiet c.proc } : OpChange)) } }
  let s := allDests.foldl (fun s d =>
    let x := s.dest d
    match x.deferred with
    | some f => s.setDest d { x with deferred := some { f with e := { f.e with noApplied := true } } }
    | none => s) s
  s.post 0xE0D0 0 1 idx

/-- What the reset of a function has done when it completes (R596). -/
def State.funcEffect (s : State) (f : Nat) : State :=
  if f ≤ 0x1F then s.resetPort f
  else if f = 0x20 then s.resetMedia
  else if f = 0x21 then (s.domainRestart 0).domainRestart 1
  else if f = 0x22 then s.resetMatrix
  else if 0x30 ≤ f ∧ f ≤ 0x37 then s.resetCluster (f - 0x30)
  else if 0x40 ≤ f ∧ f ≤ 0x43 then s.resetHead (f - 0x40)
  else if 0x50 ≤ f ∧ f ≤ 0x5B then s.resetGroup (f - 0x50)
  else if f = 0x60 then s.resetPair
  else if f = 0x61 then s.resetAudio
  else if f = 0x62 then s.resetNvs
  else if f = 0x63 then s.resetCommands
  else s

/-- Whether what a reset waits for has happened: a head no longer scans (R320), the commit in progress has ended and the scan
runs (R549). -/
def State.funcMayEnd (s : State) (f : Nat) : Bool :=
  if 0x40 ≤ f ∧ f ≤ 0x43 then !(s.head (f - 0x40)).scans else if f = 0x62 then s.nvs.scanning else true

/-- FUNC_RESET (0x0103; R496, R595): the management core executes it and replies when the reset completes. -/
def execFuncReset (h : Hdr) (fn : Nat) (s : State) : Host.Outcome State Fault Refusal :=
  .next (runLater h 0x0103 fn (.funcReset h fn)
    { bad := !funcKnown fn, busy := s.resetting fn || s.resetHeldOff fn } s
    (fun r s => (s.funcStart fn).addRunning r))

/-- A write of RESET.FUNC_RESET (R595). -/
def funcResetWrite (value : Nat) (s : State) : State :=
  let f := bits value 15 0
  if !funcKnown f || s.resetting f || s.resetHeldOff f then s else s.funcStart f

/-- CODE (R595): a write of RESET.FUNC_RESET. -/
def execCode (value : Nat) (s : State) : Host.Outcome State Fault Refusal := .next (funcResetWrite value s)

/-- FUNC_RESET_DONE (R596): the reset completes and the command that asked for it is answered. -/
def execFuncResetDone (fn : Nat) (s : State) : Host.Outcome State Fault Refusal :=
  .next (
    if !s.resetting fn || !s.funcMayEnd fn then s else
    let s := { s with sys := { s.sys with funcBusy := s.sys.funcBusy.filter (fun f => f != fn) } }
    let s := s.funcEffect fn
    (s.cp.running.filter (fun r => r.opcode == 0x0103 && r.object == fn)).foldl (fun s r => s.finish r stOk []) s)

end Sys2Proof.Machine
end

