-- ==== Sys2Proof/Machine/Image.lean ====
section
/-! DEFINITION. The Skomo image: its checks (R514 to R517), the push (R519, R605) and the acceptance that leads to REMAP (R518). -/

namespace Sys2Proof.Machine

/-- Bytes of an image header (R515). -/
abbrev headerSize : Nat := 512

/-- The payload length that a header gives. -/
def imageLength (img : List Byte) : Nat := fieldAt img 0x10 4

/-- The payload of an image. -/
def imagePayload (img : List Byte) : List Byte := sliceBytes img headerSize (imageLength img)

/-- Whether MAGIC is right (R514). -/
def imageMagic (img : List Byte) : Bool := fieldAt img 0 4 == 0x4F4D4B53

/-- RELEASE (R515). -/
def imageRelease (img : List Byte) : Nat := fieldAt img 8 4

/-- Check 1 of R516: MAGIC, HDR_VERSION, LENGTH and ENTRY. -/
def imageForm (img : List Byte) : Bool :=
  let len := imageLength img
  imageMagic img && fieldAt img 4 2 == 1 && decide (4 ≤ len ∧ len ≤ 2097152) && len % 4 == 0 && decide (fieldAt img 0x14 4 < len)

/-- The checks of R516 on the header, in order: 0, or the cause of R517. -/
def headerCause (img : List Byte) : Nat :=
  if !imageForm img then 2
  else if Config.sha384 (sliceBytes img 0x50 96) != Config.keyHash then 3
  else if fieldAt img 0x0C 4 < Config.minSecVersion then 4
  else if !Config.ecdsaVerify (sliceBytes img 0x50 96) (sliceBytes img 0xB0 96) (sliceBytes img 0 0xB0) then 5
  else 0

/-- The cause of an image (R516, R517): 0 where it passes every check. -/
def imageCause (img : List Byte) : Nat :=
  let c := headerCause img
  if c ≠ 0 then c else if Config.sha384 (imagePayload img) != sliceBytes img 0x20 48 then 6 else 0

/-- The boot ROM reads an image: the payload goes to SRAM byte 0 as it is read, once the header has passed (R516). Answers the cause. -/
def State.readImage (s : State) (img : List Byte) : Nat × State :=
  (imageCause img, if headerCause img = 0 then s.putMem 1 0 (imagePayload img) else s)

/-- The boot has failed (R42, R517, R519, R564): the cause, the fault log, counter 2, the wait for a push. -/
def State.bootFailed (s : State) (cause : Nat) (push : Bool) : State :=
  incCounter (({ s with sys := { s.sys with bootFail := cause, pushWait := push } } : State).logFault 0xF005 1 (leBytes 1 cause)) 2

/-- An image is accepted: counter 1 (R564), and REMAP follows (R518). -/
def State.bootAccepted (s : State) (img : List Byte) : State :=
  incCounter { s with sys := { s.sys with accepted := true, pushWait := false, release := imageRelease img } } 1

/-- One image tried by R516, a failure waiting for a push. -/
def State.tryImage (s : State) (img : List Byte) : State :=
  let (c, s) := s.readImage img
  if c = 0 then s.bootAccepted img else s.bootFailed c true

/-- The end of a push (R519, R605): cause 7 where the announced length was not reached, else the checks of R516. -/
def State.pushGo (s : State) : State :=
  if !s.sys.pushWait then s
  else if s.sys.pushBytes.length < s.sys.announced then s.bootFailed 7 true
  else s.tryImage s.sys.pushBytes

/-- A write of SYS_PUSH_CTL from PCI Express (R605). LENGTH is stored by every write that is not ignored, the length of a push is the
one that START announced (DEDUCED). -/
def pushCtlWrite (v : Nat) (s : State) : State :=
  let len := bits v 21 0
  let start := bit v 31
  let go := bit v 30
  if start && (!s.sys.pushWait || len % 4 != 0 || decide (len < 516 ∨ 2097664 < len) || go) then s
  else
    let s := { s with sys := { s.sys with pushLength := len } }
    if start then { s with sys := { s.sys with announced := len, pushBytes := [] } }
    else if go then s.pushGo else s

/-- A write of SYS_PUSH_DATA from PCI Express (R519): ignored beyond the announced length and while PUSH_WAIT is clear. -/
def pushDataWrite (v : Nat) (s : State) : State :=
  if !s.sys.pushWait || decide (s.sys.announced ≤ s.sys.pushBytes.length) then s
  else { s with sys := { s.sys with pushBytes := s.sys.pushBytes ++ leBytes 4 v } }

/-- A write of SYS_DBG_LOCK (R604). -/
def dbgLockWrite (v : Nat) (s : State) : State :=
  if bit v 0 && bits v 31 16 == 0x9160 then { s with sys := { s.sys with debugLocked := true } } else s

end Sys2Proof.Machine
end

