-- ==== Sys2Proof/Machine/Flags.lean ====
section
/-! DEFINITION. The registers of BAR0 as they read (R597 to R629): every status flag, counter and setting in its bits. The side effects of
a read are in Regs. -/

namespace Sys2Proof.Machine

/-- SYS_STATUS (R603). -/
def sysStatus (s : State) : Nat :=
  4096 * s.sys.bootFail + 128 * b2n s.sys.pfail + 64 * b2n s.sys.windDown + 32 * b2n s.sys.debugLocked + 16 * s.sys.bootsel +
    2 * b2n s.sys.pushWait + b2n s.sys.ready

/-- SYS registers (R602). -/
def sysReg (r : Nat) (s : State) : Nat :=
  match r with
  | 0x00 => 0x9160B100
  | 0x04 => b2n s.sys.remap
  | 0x08 => sysStatus s
  | 0x10 => s.sys.pushLength
  | 0x18 => s.sys.pushBytes.length
  | 0x20 => Config.uid % 2 ^ 32
  | 0x24 => Config.uid / 2 ^ 32 % 2 ^ 32
  | 0x28 => s.sys.badWrite
  | 0x2C => s.sys.winDrop
  | _ => 0

/-- RINGS registers (R606). -/
def ringsReg (r : Nat) (s : State) : Nat :=
  if r < 0x120 then
    let x := s.ring (r / 0x20)
    match r % 0x20 with
    | 0 => x.base
    | 4 => 2147483648 * b2n x.enable + x.log2
    | 8 => x.pi
    | 12 => x.ci
    | _ => 0
  else if 0x200 ≤ r ∧ r < 0x300 then spGet s.cp.msiMod 0 ((r - 0x200) / 4)
  else if r = 0x400 then s.cp.badIndex
  else if r = 0x404 then s.cp.evLost
  else 0

/-- RESET registers (R595, R609). -/
def resetReg (r : Nat) (s : State) : Nat :=
  if 0x10 ≤ r ∧ r < 0x20 then
    let k := (r - 0x10) / 4
    s.sys.funcBusy.foldl (fun a f => if f / 32 = k then a + 2 ^ (f % 32) else a) 0
  else if r = 0x20 then s.sys.cause else 0

/-- POWER registers (R610, R612). -/
def powerReg (r : Nat) (s : State) : Nat :=
  if r = 4 then (List.range 11).foldl (fun a d => a + s.pdShown d * 4 ^ d) (2147483648 * b2n s.power.pdIgnored)
  else if r = 8 then 65536 * s.power.vid + 512 * b2n s.power.vgood + 256 * b2n s.power.opChange.isSome + s.power.op
  else if 0x10 ≤ r ∧ r < 0x3C then
    let d := (r - 0x10) / 4
    65536 * spGet s.power.stuck 0 d + spGet s.power.wakeMask 0 d
  else if r = 0x40 then s.power.writeDrop
  else if r = 0x44 then s.power.pfailGlitch
  else if 0x48 ≤ r ∧ r < 0x58 then
    (List.range 4).foldl (fun a k => a + spGet s.power.pgoodGlitch 0 (r - 0x48 + k) * 256 ^ k) 0
  else if 0x60 ≤ r ∧ r < 0x80 then tc 16 (s.power.temps.getD ((r - 0x60) / 4) 0)
  else if r = 0x80 then s.power.refresh
  else 0

/-- CLOCK registers (R613). -/
def clockReg (r : Nat) (s : State) : Nat :=
  match r with
  | 0 => s.clocks.fabSel
  | 4 => b2n s.clocks.rootLock + 2 * b2n s.clocks.refclkOk + 4 * b2n s.clocks.nref0Ok + 8 * b2n s.clocks.nref1Ok
  | _ => 0

/-- One word of a snapshot (R614): SEC_LO, SEC_HI, NS, FRAC with the generation of TP. -/
def snapWord (u gen k : Nat) : Nat :=
  let t := toStored u
  match k with
  | 0 => t.sec % 2 ^ 32
  | 1 => t.sec / 2 ^ 32
  | 2 => t.ns
  | _ => 65536 * gen + t.frac

/-- TIME_CTL as read (R616). -/
def timeCtl (s : State) : Nat :=
  8 * s.time.selected + 4 * b2n s.time.revert + 2 * b2n s.time.autoSelect + b2n s.time.acquireAuto

/-- TIME_STATUS (R616). -/
def timeStatus (s : State) : Nat :=
  65536 * s.time.tpGen + 512 * b2n s.time.selectRefused + 256 * b2n s.time.jumpRefused + 4 * s.time.selected +
    2 * b2n s.time.slewing + b2n s.time.tracking

/-- TIME registers (R614), with the snapshot set of the path that reads (R47, R601). -/
def timeReg (mgt : Bool) (r : Nat) (s : State) : Nat :=
  let sn := if mgt then s.timeRegs.mgtSnap else s.timeRegs.snap
  if r = 0 then timeCtl s
  else if r = 4 then timeStatus s
  else if r = 8 then s.time.jumpLimit
  else if r = 0xC then s.time.slew
  else if r = 0x10 then s.time.rateLoA
  else if r = 0x14 then s.time.rateHiA
  else if r = 0x18 then s.time.rateLoB
  else if r = 0x1C then s.time.rateHiB
  else if 0x20 ≤ r ∧ r < 0x30 then snapWord sn.tp sn.gen ((r - 0x20) / 4)
  else if 0x30 ≤ r ∧ r < 0x40 then snapWord sn.ta 0 ((r - 0x30) / 4)
  else if 0x40 ≤ r ∧ r < 0x50 then snapWord sn.tb 0 ((r - 0x40) / 4)
  else if r = 0x50 then s.timeRegs.loadSecLo
  else if r = 0x54 then s.timeRegs.loadSecHi
  else if r = 0x58 then s.timeRegs.loadNs
  else if r = 0x5C then s.timeRegs.loadFrac
  else if 0x100 ≤ r ∧ r < 0x200 then
    tc 16 (spGet (if r % 8 = 0 then s.timeRegs.calRx else s.timeRegs.calTx) 0 ((r - 0x100) / 8))
  else if 0x200 ≤ r ∧ r < 0x220 then
    let e := s.evtInOf ((r - 0x200) / 4)
    65536 * e.overflow + e.glitch
  else 0

/-- NVS registers (R618). -/
def nvsReg (r : Nat) (s : State) : Nat :=
  match r with
  | 0 => 65536 * s.nvs.page + 2 * b2n s.nvs.scanning + b2n s.nvs.commit.isSome
  | 4 => s.nvs.writeDrop
  | _ => 0

/-- The error count that an SRAM register shows (R619): the count's index, and which word of CORR_LO, CORR_HI, UNC_LO, UNC_HI. -/
def sramCount (r : Nat) : Option (Nat × Nat) :=
  if 0x10 ≤ r ∧ r < 0x40 then some ((r - 0x10) / 16, r % 16 / 4)
  else if 0x40 ≤ r ∧ r < 0x60 then some (16 + (r - 0x40) / 16, r % 16 / 4)
  else if 0x1000 ≤ r ∧ r < 0x3000 then some (64 + (r - 0x1000) / 16, r % 16 / 4)
  else none

/-- SRAM registers (R619). -/
def sramReg (r : Nat) (s : State) : Nat :=
  match sramCount r with
  | some (i, 0) => spGet s.mem.corr 0 i % 2 ^ 32
  | some (i, 1) => spGet s.mem.latchHi 0 (2 * i)
  | some (i, 2) => spGet s.mem.unc 0 i % 2 ^ 32
  | some (i, _) => spGet s.mem.latchHi 0 (2 * i + 1)
  | none =>
    if r = 0 then 256 * s.mem.scrubShift + s.mem.idle
    else if r = 4 then b2n s.mem.collide
    else if r = 8 then s.mem.collideCnt
    else if r = 0xC then s.mem.bar4Drop
    else if 0x80 ≤ r ∧ r < 0x100 then
      (List.range 16).foldl (fun a j => a + s.bankState (16 * ((r - 0x80) / 4) + j) * 4 ^ j) 0
    else 0

/-- The reset values of PARK and PRIO (R527). -/
def parkReset (t : Nat) : Nat := if t = 3 ∨ t = 5 then 4 else 0
/-- The reset value of PRIO (R527). -/
abbrev prioReset : Nat := 0x2EF924

/-- FAB_TGTn as read (R527). -/
def fabTgt (t : Nat) (s : State) : Nat :=
  let x := spGet s.fab.tgt {} t
  2147483648 * b2n x.bypass + 16777216 * Nat.xor x.parkX (parkReset t) + Nat.xor x.prioX prioReset

/-- FABRIC registers (R527, R621). The window registers of master 5 read 0 (R623). -/
def fabricReg (r : Nat) (s : State) : Nat :=
  if r < 0x20 then fabTgt (r / 4) s
  else if r = 0x20 then 2 * b2n s.fab.errValid + b2n s.fab.sliceIgnored
  else if r = 0x24 then s.fab.errAddr
  else if r = 0x28 then s.fab.errInfo
  else if r = 0x2C then s.fab.postedDrop
  else if 0x40 ≤ r ∧ r < 0xC0 then
    let m := (r - 0x40) / 16
    if m = 5 then 0
    else match r % 16 with
      | 0 => spGet s.fab.storeWin 0 m
      | 4 => spGet s.fab.hostLo 0 m
      | 8 => spGet s.fab.hostHi 0 m
      | _ => 0
  else 0

/-- A lane window (R394). -/
def laneReg (i r : Nat) (s : State) : Nat :=
  match r with
  | 0x00 => laneCtl i (s.lane i)
  | 0x04 => laneTx i (s.lane i)
  | 0x08 => laneStatus i s
  | 0x0C => laneFom i s
  | 0x10 => prbsCtl i s
  | 0x14 => (prbsErrRead i s).1
  | 0x18 => (s.prb i).latched % 2 ^ 32
  | 0x1C => (s.prb i).latched / 2 ^ 32 % 2 ^ 32
  | _ => 0

/-- CHK_STATUS (R624). -/
def chkStatus (c : Check) : Nat :=
  let tap := match c.cfg with | some p => p.tap | none => 0
  let en := match c.cfg with | some p => p.enable | none => 0
  262144 * tap + 131072 * en + 65536 * b2n c.learn + 256 * c.count + c.status

/-- A check's registers (R624): CHK_FRAME, and the three that it latches. -/
def checkReg (n c r : Nat) (s : State) : Nat :=
  let x := (s.head n).check c
  match r with
  | 0x00 => x.frame
  | 0x04 => x.latchCrc
  | 0x08 => x.latchStatus
  | 0x0C => x.latchExpect
  | _ => 0

/-- A head's registers (R625). -/
def headReg (n r : Nat) (s : State) : Nat :=
  let h := s.head n
  match r with
  | 0x00 => 65536 * h.urgency + 256 * min 127 h.fill + h.state
  | 0x04 => h.scan.frame % 2 ^ 32
  | 0x08 => (match h.allot.nextWm with | some (low, crit) => 256 * crit + low | none => 256 * h.allot.crit + h.allot.low)
  | 0x0C => h.gate.pol
  | 0x10 => h.allot.tileBase
  | 0x14 => 65536 * h.allot.ringBanks + h.allot.ringFirst
  | 0x18 => queueLen s n
  | 0x1C => h.counts.skipped % 2 ^ 32
  | _ => 0

/-- PAIR_STATUS (R627). A bounce of BATON_IN is not modelled, so the raw bit equals the debounced one. -/
def pairStatusReg (s : State) : Nat :=
  let p := s.pair
  32768 * p.port + 16384 * b2n p.auto + 8192 * b2n p.enable + 4096 * p.prefer + 2048 * b2n p.linkUp + 1024 * b2n p.batonIn +
    512 * b2n p.batonIn + 256 * b2n p.baton + 16 * p.gen + p.state

/-- PAIR registers (R627). -/
def pairReg (r : Nat) (s : State) : Nat :=
  match r with
  | 0x00 => pairStatusReg s
  | 0x04 => s.sync.divergent.length
  | 0x08 => s.pair.delay
  | 0x0C => s.sync.phaseErr % 2 ^ 32
  | 0x10 => s.sync.latchLate % 2 ^ 32
  | 0x14 => s.sync.selectMiss % 2 ^ 32
  | 0x18 => s.pair.partnerUid % 2 ^ 32
  | 0x1C => s.pair.partnerUid / 2 ^ 32 % 2 ^ 32
  | _ => 0

/-- EVTLOG registers (R628). -/
def logReg (r : Nat) (s : State) : Nat :=
  if r = 0 then s.log.count % 2 ^ 32
  else if r = 4 then s.log.index
  else if 0x100 ≤ r ∧ r < 0x140 then fieldAt (spGet s.log.entries [] s.log.index) (r - 0x100) 4
  else 0

/-- Whether an offset lies in a block of the CTL domain (R577, R597): RINGS or FABRIC. -/
def inCtl (off : Nat) : Bool := decide ((0x10000 ≤ off ∧ off < 0x20000) ∨ (0x80000 ≤ off ∧ off < 0x100000))

/-- The register at an aligned BAR0 offset as it reads, without the side effects of the read (R597). A block of CTL reads 0 while CTL is
not on (R577), an unassigned offset 0 (R16). -/
def regValue (mgt : Bool) (off : Nat) (s : State) : Nat :=
  if inCtl off && !s.pdOn 0 then 0
  else if off < 0x10000 then sysReg off s
  else if off < 0x20000 then ringsReg (off - 0x10000) s
  else if off < 0x30000 then resetReg (off - 0x20000) s
  else if off < 0x40000 then powerReg (off - 0x30000) s
  else if off < 0x50000 then clockReg (off - 0x40000) s
  else if off < 0x60000 then timeReg mgt (off - 0x50000) s
  else if off < 0x70000 then nvsReg (off - 0x60000) s
  else if off < 0x80000 then sramReg (off - 0x70000) s
  else if off < 0x100000 then fabricReg (off - 0x80000) s
  else if off < 0x10E400 then laneReg ((off - 0x100000) / 256) (off % 256) s
  else if off < 0x200000 then 0
  else if off < 0x201000 then (if off % 0x400 < 0x200 then checkReg ((off - 0x200000) / 0x400) (off % 0x400 / 0x20) (off % 0x20) s else 0)
  else if off < 0x300000 then 0
  else if off < 0x304000 then headReg ((off - 0x300000) / 0x1000) (off % 0x1000) s
  else if off < 0x400000 then 0
  else if off < 0x500000 then pairReg (off - 0x400000) s
  else if off < 0x600000 then logReg (off - 0x500000) s
  else 0

end Sys2Proof.Machine
end

