-- ==== Sys2Proof/Machine/Regs.lean ====
section
/-! DEFINITION. Reads and writes of the registers of BAR0 with all that they do (R15 to R17, R597 to R628), over PCI Express and over the
management port. Every register command of the table is such a write or read. -/

namespace Sys2Proof.Machine

/-! ## Reads -/

/-- The snapshot that a read of SNAP0 SEC_LO latches (R47). -/
def State.takeSnap (s : State) (mgt : Bool) : State :=
  let x : Snap := { tp := s.tp, ta := visible s.time.ta, tb := visible s.time.tb, gen := s.time.tpGen }
  if mgt then { s with timeRegs := { s.timeRegs with mgtSnap := x } } else { s with timeRegs := { s.timeRegs with snap := x } }

/-- A read of CHK_FRAME latches the other three (R624). -/
def State.latchCheck (s : State) (n c : Nat) : State :=
  let x := (s.head n).check c
  s.setCheck n c { x with latchCrc := x.crc, latchStatus := chkStatus x, latchExpect := x.expect }

/-- A read of an SRAM _LO register latches its _HI (R619). -/
def State.latchSram (s : State) (r : Nat) : State :=
  match sramCount r with
  | some (i, 0) => { s with mem := { s.mem with latchHi := spSet 0 s.mem.latchHi (2 * i) (spGet s.mem.corr 0 i / 2 ^ 32) } }
  | some (i, 2) => { s with mem := { s.mem with latchHi := spSet 0 s.mem.latchHi (2 * i + 1) (spGet s.mem.unc 0 i / 2 ^ 32) } }
  | _ => s

/-- What a read latches before its value is taken. -/
def readBefore (mgt : Bool) (off : Nat) (s : State) : State :=
  if off = 0x50020 then s.takeSnap mgt
  else if 0x70000 ≤ off ∧ off < 0x80000 then s.latchSram (off - 0x70000)
  else if 0x100000 ≤ off ∧ off < 0x10E400 ∧ off % 256 = 0x14 then (prbsErrRead ((off - 0x100000) / 256) s).2
  else if 0x200000 ≤ off ∧ off < 0x201000 ∧ off % 0x400 < 0x200 ∧ off % 0x20 = 0 then
    s.latchCheck ((off - 0x200000) / 0x400) (off % 0x400 / 0x20)
  else s

/-- What a completed read clears: the RC fields EVTIN_CNTi and FOM_LOW (R17). -/
def readAfter (off : Nat) (s : State) : State :=
  if 0x50200 ≤ off ∧ off < 0x50220 then
    let p := (off - 0x50200) / 4
    s.setEvtIn p { s.evtInOf p with overflow := 0, glitch := 0 }
  else if 0x100000 ≤ off ∧ off < 0x10E400 ∧ off % 256 = 0x0C then
    let i := (off - 0x100000) / 256
    s.setFom i { s.fom i with low := 0 }
  else s

/-- A read of one register: its value and the state after it. `done` says that the whole access completed (R17). -/
def readReg (mgt : Bool) (off : Nat) (done : Bool) (s : State) : Nat × State :=
  let s := readBefore mgt off s
  (regValue mgt off s, if done then readAfter off s else s)

/-- Several registers in ascending order (R506, R598): their bytes and the state after. -/
def readRegs (mgt : Bool) (off : Nat) (n : Nat) (s : State) : List Byte × State :=
  (List.range n).foldl (fun acc i => let (v, s) := readReg mgt (off + 4 * i) true acc.2; (acc.1 ++ leBytes 4 v, s)) ([], s)

/-! ## Ring registers (R470, R471, R606 to R608) -/

/-- Slots of a ring. -/
def Ring.size (r : Ring) : Nat := 2 ^ r.log2

/-- Slots that a ring holds (R471). -/
def Ring.used (r : Ring) : Nat := diff32 r.pi r.ci

/-- Whether every slot of a ring lies in banks 24 to 31 (R529). -/
def ringFits (base log2 : Nat) : Bool := decide (0x300000 ≤ base ∧ base + 64 * 2 ^ log2 ≤ 0x400000)

/-- Whether a ring's PI is host software's, a command ring (R471). -/
def isCr (r : Nat) : Bool := decide (r < 4)

/-- An index write (R471, R607). -/
def State.ringIndex (s : State) (r pi ci : Nat) : State :=
  let x := s.ring r
  if !x.enable then s
  else if diff32 pi ci > x.size then { s with cp := { s.cp with badIndex := inc32 s.cp.badIndex } }
  else s.setRing r { x with pi := pi, ci := ci }

/-- A write of RING_CFG (R470, R529, R558, R607, R608). A write that changes LOG2SIZE of an enabled ring is ignored; the first ENABLE
of EV after READY lets the held TWIN_SEQ events go first. -/
def State.ringCfg (s : State) (r v : Nat) : State :=
  let x := s.ring r
  let log2 := bits v 3 0
  let en := bit v 31
  let new := en && !x.enable
  if log2 < 4 ∨ 12 < log2 ∨ (x.enable = true ∧ log2 ≠ x.log2) ∨ (new = true ∧ ringFits x.base log2 = false) then s
  else
    let s := s.setRing r (if new then { x with log2 := log2, enable := en, pi := 0, ci := 0, last := 0 } else { x with log2 := log2, enable := en })
    if r = 8 ∧ en = true ∧ s.sys.ready = true then { s with cp := { s.cp with events := s.cp.held ++ s.cp.events, held := [] } } else s

/-- A write in the RINGS block (R606, R607). -/
def ringsWrite (r v : Nat) (s : State) : State :=
  if r < 0x120 then
    let n := r / 0x20
    let x := s.ring n
    match r % 0x20 with
    | 0 => if x.enable then s else s.setRing n { x with base := bits v 25 12 * 4096 }
    | 4 => s.ringCfg n v
    | 8 => if isCr n then s.ringIndex n v x.ci else s
    | 12 => if isCr n then s else s.ringIndex n x.pi v
    | _ => s
  else if 0x200 ≤ r ∧ r < 0x300 then
    let m := bits v 9 0
    if m > 1000 then s else { s with cp := { s.cp with msiMod := spSet 0 s.cp.msiMod ((r - 0x200) / 4) m } }
  else s

/-! ## TIME (R614 to R617) -/

/-- The LOAD value in 2^-16 ns. -/
def State.loadValue (s : State) : Nat :=
  (s.timeRegs.loadSecHi * 2 ^ 32 + s.timeRegs.loadSecLo) * uSec + s.timeRegs.loadNs * 65536 + s.timeRegs.loadFrac

/-- A write of SELECT (R61, R64, R65): the value in force requests nothing. -/
def State.selectWrite (s : State) (d : Nat) : State :=
  if d = s.time.selected then s
  else if s.switchOk d then s.takeDomain d true
  else ({ s with time := { s.time with selectRefused := true } } : State).switchRefused d

/-- A write of TIME_CTL (R616, R617). -/
def timeCtlWrite (v : Nat) (s : State) : State :=
  let ops := b2n (bit v 4) + b2n (bit v 5) + b2n (bit v 6) + b2n (bit v 7)
  if ops > 1 ∨ ((bit v 5 || bit v 6 || bit v 7) = true ∧ s.timeRegs.loadNs ≥ 1000000000) then s
  else
    let s := { s with time := { s.time with revert := bit v 2, autoSelect := bit v 1, acquireAuto := bit v 0 } }
    let s := s.selectWrite (bits v 3 3)
    if bit v 4 then s.forceDomain
    else if bit v 5 then s.forceValue s.loadValue
    else if bit v 6 then { s with timeRegs := { s.timeRegs with nextA := some s.loadValue } }
    else if bit v 7 then { s with timeRegs := { s.timeRegs with nextB := some s.loadValue } }
    else s

/-- A write of RATE_A_HI or RATE_B_HI (R45, R615): the 40-bit value takes effect on the next tick, one outside ±500 ppm is ignored. -/
def rateHi (d v : Nat) (s : State) : State :=
  let lo := if d = 0 then s.time.rateLoA else s.time.rateLoB
  let hi := bits v 7 0
  let rate := sx 40 (hi * 2 ^ 32 + lo)
  if rate.natAbs > 32768000000 then s
  else if d = 0 then { s with time := { s.time with rateHiA := hi, nextRateA := some rate } }
  else { s with time := { s.time with rateHiB := hi, nextRateB := some rate } }

/-- A write of a TS_CAL register (R57, R615). -/
def calWrite (r v : Nat) (s : State) : State :=
  let x := sx 16 v
  let n := (r - 0x100) / 8
  if x = -32768 then s
  else if r % 8 = 0 then { s with timeRegs := { s.timeRegs with calRx := spSet 0 s.timeRegs.calRx n x } }
  else { s with timeRegs := { s.timeRegs with calTx := spSet 0 s.timeRegs.calTx n x } }

/-- A write in the TIME block (R614, R615). -/
def timeWrite (r v : Nat) (s : State) : State :=
  if r = 0 then timeCtlWrite v s
  else if r = 4 then { s with time := { s.time with
    selectRefused := s.time.selectRefused && !bit v 9, jumpRefused := s.time.jumpRefused && !bit v 8 } }
  else if r = 8 then
    let x := bits v 19 0
    if x < 16 ∨ 1000000 < x then s else { s with time := { s.time with jumpLimit := x } }
  else if r = 0xC then
    let x := bits v 6 0
    if x < 1 ∨ 100 < x then s else { s with time := { s.time with slew := x } }
  else if r = 0x10 then { s with time := { s.time with rateLoA := v % 2 ^ 32 } }
  else if r = 0x14 then rateHi 0 v s
  else if r = 0x18 then { s with time := { s.time with rateLoB := v % 2 ^ 32 } }
  else if r = 0x1C then rateHi 1 v s
  else if r = 0x50 then { s with timeRegs := { s.timeRegs with loadSecLo := v % 2 ^ 32 } }
  else if r = 0x54 then { s with timeRegs := { s.timeRegs with loadSecHi := bits v 15 0 } }
  else if r = 0x58 then { s with timeRegs := { s.timeRegs with loadNs := v % 2 ^ 32 } }
  else if r = 0x5C then { s with timeRegs := { s.timeRegs with loadFrac := bits v 15 0 } }
  else if 0x100 ≤ r ∧ r < 0x200 then calWrite r v s
  else s

/-! ## SRAM and FABRIC (R524, R527, R619 to R623) -/

/-- A write of SRAM_CTL (R533, R535, R620): free banks that go off lose what they held. -/
def sramCtl (v : Nat) (s : State) : State :=
  let sh := bits v 12 8
  let idle := bits v 0 0
  if sh < 10 ∨ 20 < sh then s
  else
    let s' := { s with mem := { s.mem with scrubShift := sh, idle := idle } }
    if idle = 0 ∧ s.mem.idle = 1 then
      ((List.range 448).map (· + 64)).foldl (fun s b => if (s.ringHead b).isSome then s else s.clearBanks b 1) s'
    else s'

/-- A write of FAB_TGTn (R524, R527). -/
def fabTgtWrite (t v : Nat) (s : State) : State :=
  if bit v 31 ∧ s.clocks.fabSel = 0 then { s with fab := { s.fab with sliceIgnored := true } }
  else
    let x : FabTgt := { bypass := bit v 31, parkX := Nat.xor (bits v 26 24) (parkReset t), prioX := Nat.xor (bits v 23 0) prioReset }
    { s with fab := { s.fab with tgt := spSet {} s.fab.tgt t x } }

/-- A write in the FABRIC block (R621 to R623). -/
def fabricWrite (r v : Nat) (s : State) : State :=
  if r < 0x20 then fabTgtWrite (r / 4) v s
  else if r = 0x20 then { s with fab := { s.fab with errValid := s.fab.errValid && !bit v 1, sliceIgnored := s.fab.sliceIgnored && !bit v 0 } }
  else if 0x40 ≤ r ∧ r < 0xC0 then
    let m := (r - 0x40) / 16
    if m = 5 then s
    else match r % 16 with
      | 0 => { s with fab := { s.fab with storeWin := spSet 0 s.fab.storeWin m (bits v 4 0) } }
      | 4 => { s with fab := { s.fab with hostLo := spSet 0 s.fab.hostLo m (bits v 31 31 * 2 ^ 31) } }
      | 8 => { s with fab := { s.fab with hostHi := spSet 0 s.fab.hostHi m (v % 2 ^ 32) } }
      | _ => s
  else s

/-! ## The other blocks -/

/-- A write in the SYS block (R601, R603 to R605). SYS_CTL takes REMAP from CC0 alone; the management port has no push. -/
def sysWrite (mgt : Bool) (r v : Nat) (s : State) : State :=
  match r with
  | 0x0C => dbgLockWrite v s
  | 0x10 => if mgt then s else pushCtlWrite v s
  | 0x14 => if mgt then s else pushDataWrite v s
  | _ => s

/-- A write in the RESET block (R595, R609). -/
def resetWrite (r v : Nat) (s : State) : State :=
  match r with
  | 0x00 => funcResetWrite v s
  | 0x20 => { s with sys := { s.sys with cause := Nat.xor s.sys.cause (Nat.land s.sys.cause v) } }
  | _ => s

/-- The state that an outcome answers, the state before it where it answers none. -/
def nextOr (s : State) (o : Host.Outcome State Fault Refusal) : State := match o with | .next t => t | _ => s

/-- A write in the POWER block (R610 to R612). -/
def powerWrite (r v : Nat) (s : State) : State :=
  if r = 0 then nextOr s (execPdCtl v s)
  else if r = 4 then { s with power := { s.power with pdIgnored := s.power.pdIgnored && !bit v 31 } }
  else if r = 8 then nextOr s (execOpCtl v s)
  else if 0x10 ≤ r ∧ r < 0x3C then s.setWakeMask ((r - 0x10) / 4) v
  else s

/-- A write of a lane window (R394, R402, R407, R412). -/
def laneWrite (i r v : Nat) (s : State) : State :=
  match r with
  | 0x00 => laneCtlWrite i v s
  | 0x04 => laneTxWrite i v s
  | 0x08 => laneStatusWrite i v s
  | 0x0C => laneFomWrite i v s
  | 0x10 => prbsCtlWrite i v s
  | 0x20 => laneSlipWrite i v s
  | _ => s

/-- A write of HEAD_WM (R213, R626): it waits for the next line start. -/
def headWmWrite (n v : Nat) (s : State) : State :=
  let low := bits v 5 0
  let crit := bits v 13 8
  if low < 16 ∨ 56 < low ∨ crit < 8 ∨ low < crit + 8 then s
  else s.modHead n (fun h => { h with allot := { h.allot with nextWm := some (low, crit) } })

/-- A write of HEAD_GATE_POL (R625, R626): in force from the head's next start. -/
def headPolWrite (n v : Nat) (s : State) : State := s.modHead n (fun h => { h with gate := { h.gate with pol := v % 2 ^ 19 } })

/-- A write of a head's registers. -/
def headWrite (n r v : Nat) (s : State) : State :=
  match r with
  | 0x08 => headWmWrite n v s
  | 0x0C => headPolWrite n v s
  | _ => s

/-- A register write that reaches its block (R597). -/
def blockWrite (mgt : Bool) (off v : Nat) (s : State) : State :=
  if off < 0x10000 then sysWrite mgt off v s
  else if off < 0x20000 then ringsWrite (off - 0x10000) v s
  else if off < 0x30000 then resetWrite (off - 0x20000) v s
  else if off < 0x40000 then powerWrite (off - 0x30000) v s
  else if off < 0x50000 then (if off = 0x40000 then nextOr s (execFabSel v s) else s)
  else if off < 0x60000 then timeWrite (off - 0x50000) v s
  else if off < 0x70000 then s
  else if off < 0x80000 then
    (if off = 0x70000 then sramCtl v s
     else if off = 0x70004 then { s with mem := { s.mem with collide := s.mem.collide && !bit v 0 } }
     else s)
  else if off < 0x100000 then fabricWrite (off - 0x80000) v s
  else if off < 0x10E400 then laneWrite ((off - 0x100000) / 256) (off % 256) v s
  else if off < 0x300000 then s
  else if off < 0x304000 then headWrite ((off - 0x300000) / 0x1000) (off % 0x1000) v s
  else if off = 0x500004 then { s with log := { s.log with index := bits v 7 0 } }
  else s

/-- A write of one register: into a block of CTL it waits while CTL is in retention or in transition, and is discarded while CTL is off
(R577). -/
def writeReg (mgt : Bool) (off v : Nat) (s : State) : State :=
  if inCtl off && s.pdShown 0 == 2 then { s with power := { s.power with writeDrop := inc32 s.power.writeDrop } }
  else if inCtl off && !s.pdOn 0 then { s with power := { s.power with heldWrites := s.power.heldWrites ++ [(off, v)] } }
  else blockWrite mgt off v s

/-- One register write in a request: ignored and counted unless it is aligned with all four byte enables set (R598). -/
def pcieWrite (off v enables : Nat) (s : State) : State :=
  if enables % 16 = 15 ∧ off % 4 = 0 then writeReg false off v s
  else { s with sys := { s.sys with badWrite := inc32 s.sys.badWrite } }

/-! ## The register commands -/

/-- REGISTER_WRITE (R15, R16, R598): a write of any register with its byte enables. -/
def execRegisterWrite (offset value enables : Nat) (s : State) : Host.Outcome State Fault Refusal :=
  .next (pcieWrite offset (value % 2 ^ 32) enables s)

/-- RC_READ (R17, R598): a PCI Express read of a register; `complete` is false where the access ends in an error response. -/
def execRcRead (offset : Nat) (complete : Bool) (s : State) : Host.Outcome State Fault Refusal :=
  let (v, t) := readReg false (offset / 4 * 4) complete s
  .next (if complete then t.say (leBytes 4 v) else t.sayError (leBytes 4 (2 ^ 32 - 1)))

/-- CHK_FRAME_READ (R624). -/
def execChkFrameRead (head check : Nat) (s : State) : Host.Outcome State Fault Refusal :=
  .next (if head > 3 ∨ check > 15 then s else
    let (v, t) := readReg false (0x200000 + 0x400 * head + 0x20 * check) true s
    t.say (leBytes 4 v))

/-- SRAM_LO_READ (R619): `offset` is that of the register in BAR0. -/
def execSramLoRead (offset : Nat) (s : State) : Host.Outcome State Fault Refusal :=
  let (v, t) := readReg false offset true s
  .next (t.say (leBytes 4 v))

/-- TP_SNAP_SEC_LO_READ (R47, R601), over PCI Express or the management port. -/
def execTpSnapSecLoRead (mgt : Bool) (s : State) : Host.Outcome State Fault Refusal :=
  let (v, t) := readReg mgt 0x50020 true s
  .next (t.say (leBytes 4 v))

/-- RATE_HI_WRITE (R45, R615). -/
def execRateHiWrite (domain value : Nat) (s : State) : Host.Outcome State Fault Refusal :=
  .next (if domain > 1 then s else rateHi domain value s)

/-- STEP_VALUE (R60, R68, R616, R617): a write of TIME_CTL with STEP_VALUE set. -/
def execStepValue (value : Nat) (s : State) : Host.Outcome State Fault Refusal := .next (timeCtlWrite (setBits value 5 5 1) s)

/-- STEP_DOMAIN (R68, R616): a write of TIME_CTL with STEP_DOMAIN set. -/
def execStepDomain (value : Nat) (s : State) : Host.Outcome State Fault Refusal := .next (timeCtlWrite (setBits value 4 4 1) s)

/-- LOAD_A (R616, R617): a write of TIME_CTL with LOAD_A set. -/
def execLoadA (value : Nat) (s : State) : Host.Outcome State Fault Refusal := .next (timeCtlWrite (setBits value 6 6 1) s)

/-- LOAD_B (R616, R617): a write of TIME_CTL with LOAD_B set. -/
def execLoadB (value : Nat) (s : State) : Host.Outcome State Fault Refusal := .next (timeCtlWrite (setBits value 7 7 1) s)

/-- SELECT (R61, R65, R616): a write of TIME_CTL. -/
def execSelect (value : Nat) (s : State) : Host.Outcome State Fault Refusal := .next (timeCtlWrite value s)

/-- BLOW (R604): a write of SYS_DBG_LOCK. -/
def execBlow (value : Nat) (s : State) : Host.Outcome State Fault Refusal := .next (dbgLockWrite value s)

/-- START (R605): a write of SYS_PUSH_CTL with START set. -/
def execStart (value : Nat) (s : State) : Host.Outcome State Fault Refusal := .next (pushCtlWrite (setBits value 31 31 1) s)

/-- GO (R519, R605): a write of SYS_PUSH_CTL with GO set. -/
def execGo (value : Nat) (s : State) : Host.Outcome State Fault Refusal := .next (pushCtlWrite (setBits value 30 30 1) s)

/-- SYS_PUSH_DATA_WRITE (R519). -/
def execSysPushDataWrite (value : Nat) (s : State) : Host.Outcome State Fault Refusal := .next (pushDataWrite value s)

/-- SLICE_BYPASS (R524, R527, R577): a write of FAB_TGTn. -/
def execSliceBypass (target value : Nat) (s : State) : Host.Outcome State Fault Refusal :=
  .next (if target > 7 then s else writeReg false (0x80000 + 4 * target) (value % 2 ^ 32) s)

/-- SRAM_CTL_WRITE (R620). -/
def execSramCtlWrite (value : Nat) (s : State) : Host.Outcome State Fault Refusal := .next (sramCtl value s)

/-- HEAD_WM (R626). -/
def execHeadWm (head value : Nat) (s : State) : Host.Outcome State Fault Refusal := .next (if head > 3 then s else headWmWrite head value s)

/-- HEAD_GATE_POL (R626). -/
def execHeadGatePol (head value : Nat) (s : State) : Host.Outcome State Fault Refusal :=
  .next (if head > 3 then s else headPolWrite head value s)

/-- DOORBELL (R471, R472, R577, R607): a write of a command ring's PI. -/
def execDoorbell (ring pi : Nat) (s : State) : Host.Outcome State Fault Refusal :=
  .next (if ring > 3 then s else writeReg false (0x10008 + 0x20 * ring) (pi % 2 ^ 32) s)

/-- RING_CI_WRITE (R471, R474, R607): a write of the CI of a reply ring or of the event ring. -/
def execRingCiWrite (ring ci : Nat) (s : State) : Host.Outcome State Fault Refusal :=
  .next (if ring < 4 ∨ 8 < ring then s else writeReg false (0x1000C + 0x20 * ring) (ci % 2 ^ 32) s)

/-- RING_CFG_WRITE (R470, R529, R558, R607, R608). -/
def execRingCfgWrite (ring value : Nat) (s : State) : Host.Outcome State Fault Refusal :=
  .next (if ring > 8 then s else writeReg false (0x10004 + 0x20 * ring) (value % 2 ^ 32) s)

/-- REG_WRITE (R506, R507, R601): each register takes effect once its four bytes have arrived; a register cut short is discarded. -/
def execRegWrite (offset : Nat) (data : List Byte) (s : State) : Host.Outcome State Fault Refusal :=
  .next ((List.range (data.length / 4)).foldl (fun s i => writeReg true (offset / 4 * 4 + 4 * i) (fieldAt data (4 * i) 4) s) s)

/-- REG_READ (R506, R507, R601): `count` registers with rising offsets. -/
def execRegRead (offset count : Nat) (s : State) : Host.Outcome State Fault Refusal :=
  let (bs, t) := readRegs true (offset / 4 * 4) count s
  .next (t.say bs)

end Sys2Proof.Machine
end

