-- ==== Sys2Proof/Machine/Boot.lean ====
section
/-! DEFINITION. From power to READY (R36 to R42, R514 to R519) and the resets of R592: AON reset, PERST#, hot reset, the loss of supplies,
and the end of a wind-down (R428, R593). -/

namespace Sys2Proof.Machine

/-! ## Resets -/

/-- Sets a bit of RESET_CAUSE (R609). -/
def State.addCause (s : State) (b : Nat) : State := { s with sys := { s.sys with cause := Nat.lor s.sys.cause b } }

/-- The power state of ENG0 to ENG7 while the wind-down keeps them off (R431). -/
def engOff : Sparse Nat := (List.range 8).map (fun c => (c + 1, 2))

/-- The command processor in reset: the management core's own work, and the events that it holds, stay (R505, R558). -/
def CmdProc.held0 (c : CmdProc) : CmdProc :=
  { running := c.running.filter (fun r => r.src == 4 && mgtOpcode r.opcode), replies := c.replies.filter (fun r => r.src == 4 && r.mgt), held := c.held }

/-- The control and data planes enter reset by PERST# (R49, R592, R654, R657). What stays is the always-on domain (the NVS, the AON SRAM,
the fault log, the mailbox, the wake masks, the clock selection, the fuse and the straps), the input pins, the Rennex drivers, which are other
parts, and the bytes of the store and of the fixed SRAM banks. -/
def State.planesReset (s : State) : State :=
  let kept := !s.sys.pfailClear && s.sys.txHeld
  { s with
    sys := { s.sys with
      ready := false, pushWait := false, bootFail := 0, windDown := false, remap := false, accepted := false, release := 0, pushLength := 0,
      announced := 0, pushBytes := [], badWrite := 0, winDrop := 0, txHeld := kept, planesHeld := true, pcieUp := false },
    clocks := { s.clocks with started := false, rootLock := false },
    wind := none,
    power := { s.power with
      dom := if kept then engOff else [], change := none, moves := [], op := 2, vid := 24, opChange := none, div8 := false, latched := [], heldWrites := [],
      yoyo := [] },
    time := {}, timeRegs := {}, domains := [(0, { number := 127 })], evtIn := [], evtOut := [],
    rings := [], cp := s.cp.held0,
    mem := { store := s.mem.store, sram := spClear (131072 * 64) sramSize s.mem.sram, aon := s.mem.aon, storeErr := s.mem.storeErr,
             sramErr := spClear (32768 * 64) (sramSize / 4) s.mem.sramErr, aonErr := s.mem.aonErr },
    fab := {}, lanes := [], foms := [], prbs := [], quads := [], ports := [], flows := [], txs := [], layers := [], outputs := [], outShots := [],
    leases := [], assocs := [], txAudio := [], tq := {}, heads := [], drivers := [], polls := [],
    pair := { batonIn := s.pair.batonIn }, sync := {} }

/-- The planes leave reset (R593): t0 of the start-up. -/
def State.planesStart (s : State) : State := { s with sys := { s.sys with planesHeld := false } }

/-- The groups that the commit in progress programs, in order (R544). -/
def dirtyGroups (n : Nvs) : List Nat := (List.range 16).filter (fun g => (List.range 4).any (fun i => n.dirty.getD (4 * g + i) false))

/-- A commit stopped before its end (R550): the groups up to some point are new, the bytes of the next are indeterminate, the rest old. -/
def State.tearPage (s : State) : State :=
  if s.nvs.commit.isNone then s else
  let gs := dirtyGroups s.nvs
  let (x, s) := s.drawNat
  let k := x % (gs.length + 1)
  let cells := (gs.take k).foldl (fun c g => writeBytes c (64 * s.nvs.page + 4 * g) (sliceBytes s.nvs.buf (4 * g) 4)) s.nvs.cells
  let (y, s) := s.drawNat
  let cells := match gs[k]? with | some g => writeBytes cells (64 * s.nvs.page + 4 * g) (leBytes 4 y) | none => cells
  { s with nvs := { s.nvs with cells := cells, commit := none, tasks := [], dirty := [], buf := [] } }

/-- AON_RESET (R592): VDD_AON leaves its range; everything goes but the NVS array, the fuse, the input pins and the drivers' own state. -/
def execAonReset (s : State) : Host.Outcome State Fault Refusal :=
  let s := s.tearPage
  .next { State.reset with
    pending := s.pending, nvs := { cells := s.nvs.cells }, rennex := s.rennex, free := s.free,
    sys := { debugLocked := s.sys.debugLocked, pfail := s.sys.pfail, pfailClear := s.sys.pfailClear },
    pair := { batonIn := s.pair.batonIn } }

/-- AON_RESET_RELEASE (R558, R564, R586, R592, R609, R636): the strap is latched, VID drives OP2, the record scan begins, AON_START counts. -/
def execAonResetRelease (maddr : Nat) (s : State) : Host.Outcome State Fault Refusal :=
  .next (if !s.sys.aonReset then s else
    incCounter { s with
      sys := { s.sys with aonReset := false, maddr := maddr % 8, cause := 1 },
      power := { s.power with op := 2, vid := 24 } } 0)

/-- PERST_ASSERT (R592, R593, R609): a wind-down comes first while any head has an enable asserted or a wind-down runs. -/
def execPerstAssert (s : State) : Host.Outcome State Fault Refusal :=
  .next (
    if s.sys.aonReset || s.sys.perst then s else
    let s := ({ s with sys := { s.sys with perst := true } } : State).addCause 2
    match s.wind with
    | some w => ({ s with wind := some { w with fromPerst := true } } : State).addCause 8
    | none => if s.anyEnable then (s.addCause 8).windStart 2 true else s.planesReset)

/-- PERST_RELEASE (R49, R593, R636): BOOTSEL is sampled; the planes leave reset now or, where a wind-down still runs, at its end. -/
def execPerstRelease (bootsel : Nat) (s : State) : Host.Outcome State Fault Refusal :=
  .next (
    if s.sys.aonReset || !s.sys.perst then s else
    let s := { s with sys := { s.sys with perst := false, bootsel := bootsel % 2, suppliesLost := false } }
    if s.wind.isSome then s else s.planesReset.planesStart)

/-- PCIE_HOT_RESET (R592, R609): the endpoint and MSI-X state, a reset of the command processor, every ring disabled. -/
def execPcieHotReset (s : State) : Host.Outcome State Fault Refusal :=
  .next (
    if s.sys.planesHeld then s else
    let s := s.resetCommands
    let s := (List.range 9).foldl (fun s r => s.setRing r { s.ring r with enable := false }) s
    let s := { s with
      sys := { s.sys with pcieUp := false },
      cp := { s.cp with msiDue := [], msiSent := [] },
      power := { s.power with heldWrites := [] } }
    s.addCause 4)

/-- PCIE_LINK_UP (R493): the endpoint answers again. -/
def execPcieLinkUp (s : State) : Host.Outcome State Fault Refusal :=
  .next (if s.sys.planesHeld then s else { s with sys := { s.sys with pcieUp := true } })

/-- SUPPLY_LOSS (R430, R433, R550): a commit in progress stops, the planes lose their power and their memories; the board asserts PERST#. -/
def execSupplyLoss (s : State) : Host.Outcome State Fault Refusal :=
  .next (
    let s := s.tearPage
    let s := { s with sys := { s.sys with suppliesLost := true, perst := true } }
    let s := s.planesReset
    { s with mem := { s.mem with store := [], storeErr := [], sram := [], sramErr := [] } })

/-! ## Boot -/

/-- ROOT_PLL_LOCK (R32). -/
def execRootPllLock (s : State) : Host.Outcome State Fault Refusal :=
  .next (if s.sys.planesHeld || !s.clocks.refclkOk then s else { s with clocks := { s.clocks with started := true, rootLock := true } })

/-- The flash boot (R514): the slot of greater RELEASE with MAGIC first, then the other; the cause of the last failure stands. -/
def State.bootFlash (s : State) (a b : Image) : State :=
  let aFirst := imageMagic a && (!imageMagic b || decide (imageRelease b ≤ imageRelease a)) || (!imageMagic a && !imageMagic b)
  let first := if aFirst then a else b
  let second := if aFirst then b else a
  let (c1, s) := s.readImage first
  if c1 = 0 then s.bootAccepted first else s.tryImage second

/-- BOOT (R514, R516, R517, R519): with BOOTSEL at HOST the device waits for a push. -/
def execBoot (sfdp : Bool) (slotA slotB : Image) (s : State) : Host.Outcome State Fault Refusal :=
  .next (
    if s.sys.planesHeld || !s.clocks.started || s.sys.accepted || s.sys.pushWait then s
    else if s.sys.bootsel = 1 then { s with sys := { s.sys with pushWait := true } }
    else if !sfdp then s.bootFailed 1 true
    else s.bootFlash slotA slotB)

/-- REMAP (R518): from CC0, once, after an image is accepted. -/
def execRemap (s : State) : Host.Outcome State Fault Refusal :=
  .next (if s.sys.accepted && !s.sys.remap then { s with sys := { s.sys with remap := true } } else s)

/-- READY (R518): the central store is trained and cleared and the rings are initialised; a training failure is cause 8. -/
def execReady (trained : Bool) (s : State) : Host.Outcome State Fault Refusal :=
  .next (
    if !s.sys.remap || s.sys.ready then s
    else if !trained then s.bootFailed 8 false
    else { s with
      sys := { s.sys with ready := true }, rings := [],
      mem := { s.mem with store := [], storeErr := [] } })

/-! ## The end of the wind-down -/

/-- WIND_DOWN_DONE (R426, R428, R431, R433, R593): the commits have ended, the heads are OFF; under PERST# the planes enter reset, and leave
it where PERST# has been released. -/
def execWindDownDone (s : State) : Host.Outcome State Fault Refusal :=
  .next (match s.wind with
    | some w =>
      if !w.commits || s.nvs.commit.isSome || !s.nvs.tasks.isEmpty then s else
      let s := { s with wind := none, sys := { s.sys with windDown := false } }
      let s := s.post 0xE083 0 2 (leBytes 1 w.cause ++ leBytes 1 w.heads.length)
      let s := w.heads.foldl (fun s n => s.headOff n) s
      let s := if s.sys.pfailClear then s.windResume else s
      if w.fromPerst then (if s.sys.perst then s.planesReset else s.planesReset.planesStart) else s
    | none => s)

end Sys2Proof.Machine
end

