-- ==== Sys2Proof/Machine/CmdNet.lean ====
section
/-! DEFINITION. The PORT and FLOW command groups (0x0301 to 0x0304, 0x0401 to 0x0410). -/

namespace Sys2Proof.Machine

/-- QUAD_SET (0x0301; R87, R93): every port of the quad goes down, its legs go INACTIVE, its lanes lose lock. -/
def quadChange (quad mode fec : Nat) (s : State) : State :=
  let old := s.quad quad
  if old = { mode := mode, fec := fec } then s else
  let ports := (List.range 4).map (· + 4 * quad)
  let s := (ports.filter s.portExists).foldl (fun s n => (s.portDrop n 2).legsOffPort n) s
  let s := { s with quads := spSet {} s.quads quad { mode := mode, fec := fec } }
  ports.foldl (fun s l => s.setLane l { s.lane l with
    blockLock := false, hunting := true, cdrLock := false, signal := false, pllLock := mode != 0 }) s

/-- QUAD_SET (0x0301). -/
def execQuadSet (h : Hdr) (quad mode fec : Nat) (s : State) : Host.Outcome State Fault Refusal :=
  .next (runNow h 0x0301 { bad := decide (quad > 7 ∨ mode > 3 ∨ fec > 15) } s (fun s => (quadChange quad mode fec s, [])))

/-- PORT_SET (0x0302; R96, R99). -/
def execPortSet (h : Hdr) (p : PortSetP) (s : State) : Host.Outcome State Fault Refusal :=
  .next (runNow h 0x0302
    { bad := decide (p.port > 31 ∨ p.untagged > 1 ∨ p.vidCount > 8 ∨ p.ip4Len > 32) ||
        (p.vids.take p.vidCount).any (fun v => decide (v < 1 ∨ v > 4094)) } s
    (fun s => (s.setPort p.port { s.port p.port with
      mac := p.mac, ip4 := p.ip4, ip4Len := p.ip4Len, ip6 := p.ip6, untagged := n2b p.untagged, vids := p.vids.take p.vidCount }, [])))

/-- PORT_COUNTERS (0x0303; R127). -/
def execPortCounters (h : Hdr) (port clear : Nat) (s : State) : Host.Outcome State Fault Refusal :=
  .next (runNow h 0x0303 { bad := decide (port > 31 ∨ clear > 1) } s (fun s =>
    let p := s.port port
    let out := (List.range 15).flatMap (fun k => leBytes 8 (spGet p.counters 0 k))
    (if clear = 1 then s.setPort port { p with counters := [] } else s, out)))

/-- PORT_STATUS (0x0304; R91, R92): up, fault received, lane lock mask. -/
def execPortStatus (h : Hdr) (port : Nat) (s : State) : Host.Outcome State Fault Refusal :=
  .next (runRead h 0x0304 { bad := decide (port > 31) } s (fun s =>
    let p := s.port port
    let lanes := s.portLanes port
    let mask := ((List.range lanes.length).zip lanes).foldl (fun m x => m + b2n (s.lane x.2).blockLock * 2 ^ x.1) 0
    leBytes 1 (b2n p.up) ++ leBytes 1 p.fault ++ leBytes 1 mask))

/-- Whether two configurations of a video entry share format and buffers (R105). -/
def sameFrames (a b : FlowSetP) : Bool :=
  a.format == b.format && a.bases == b.bases && a.slotCount == b.slotCount && a.descriptors == b.descriptors

/-- Fresh descriptors of a video entry, all FREE, in the store. -/
def State.freshSlots (s : State) (i n : Nat) : State :=
  let s := s.setFlow 0 i { s.flow 0 i with slots := List.replicate n {} }
  (List.range n).foldl (fun s j => s.putSlot i j {}) s

/-- What FLOW_SET writes (R102, R105, R126): buckets start full; a change of a video entry's format or buffers closes its open
frames as PARTIAL and flags the next frame FORMAT_CHANGED; a new ring starts empty. -/
def flowWrite (p : FlowSetP) (s : State) : State :=
  let f := s.flow p.kind p.index
  let (_, d) := declared p.kind p.format
  let full := 10 * uSec * d * bucketOf p
  let fresh := { f with
    cfg := some p, enabled := n2b p.enable, a := { f.a with tokens := full, stamp := s.tp }, b := { f.b with tokens := full, stamp := s.tp } }
  match f.cfg with
  | none =>
    let s := s.setFlow p.kind p.index fresh
    if p.kind = 0 then s.freshSlots p.index p.slotCount
    else if p.kind = 2 then s.putMem 0 p.descriptors (List.replicate 8 0) else s
  | some c =>
    if p.kind = 0 then
      if sameFrames c p then s.setFlow 0 p.index fresh else
      let s := s.closeAll p.index
      let f := s.flow 0 p.index
      (s.setFlow 0 p.index { fresh with
        slots := f.slots, incomplete := f.incomplete, formatChanged := true, seen := [], skipTs := none }).freshSlots p.index p.slotCount
    else if p.kind = 2 ∧ (c.bases != p.bases ∨ c.ringLength ≠ p.ringLength ∨ c.descriptors ≠ p.descriptors) then
      (s.setFlow 2 p.index { fresh with ringWrite := 0 }).putMem 0 p.descriptors (List.replicate 8 0)
    else s.setFlow p.kind p.index fresh

/-- FLOW_SET (0x0401; R102 to R105, R114, R119, R121). -/
def execFlowSet (h : Hdr) (p : FlowSetP) (s : State) : Host.Outcome State Fault Refusal :=
  .next (runNow h 0x0401
    { bad := !flowOk p s,
      noResource := p.kind == 1 && decide (otherChannels s p.index + p.format.channels > 1024),
      refused := (p.kind == 0 && videoTooBig p.format) || overLine s p.kind p.format p.legA ||
        (p.legBPresent != 0 && overLine s p.kind p.format p.legB) || (p.enable != 0 && keyClash s p.kind p.index p) } s
    (fun s =>
      let legs := (s.flow p.kind p.index).legs
      let s := if p.enable = 0 then legs.foldl (fun s l => s.legInactive p.kind p.index l.1) s else s
      (flowWrite p s, [])))

/-- FLOW_ENABLE (0x0402): a receive or transmit flow. A flow that no command has set, or that already is as asked, changes
nothing (R489). -/
def execFlowEnable (h : Hdr) (kind index enable : Nat) (s : State) : Host.Outcome State Fault Refusal :=
  let rx := s.flow kind index
  let tx := s.tx kind index
  .next (runNow h 0x0402
    { bad := decide (kind > 4 ∨ index > 63 ∨ enable > 1),
      ignored := if kind ≤ 2 then rx.cfg.isNone else tx.cfg.isNone,
      noResource := enable == 1 && kind == 4 && (match tx.cfg with
        | some c => decide (otherTxChannels s index + (audioShape s c).1 > 1024) | none => false),
      refused := enable == 1 && (if kind ≤ 2 then (match rx.cfg with | some c => keyClash s kind index c | none => false)
        else (match tx.cfg with | some c => !txAdmits s c | none => false)) } s
    (fun s =>
      if kind ≤ 2 then
        let s := if enable = 0 then rx.legs.foldl (fun s l => s.legInactive kind index l.1) s else s
        (s.setFlow kind index { s.flow kind index with enabled := n2b enable }, [])
      else (s.setTx kind index { tx with enabled := n2b enable, started := false, packet := 0 }, [])))

/-- The counters of one leg in the order of R127: RTP_BAD, POLICED, SRD_BAD, AUDIO_BAD, OUT_OF_WINDOW, then packets, bytes
and SEQ_GAP (the order after the table's is a DESIGN CHOICE, log entry 24). -/
def legCounters (kind : Nat) (l : LegState) : List Nat :=
  [l.rtpBad, l.policed, if kind = 0 then l.bad else 0, if kind = 1 then l.bad else 0, l.outOfWindow, l.packets, l.bytes, l.seqGap]

/-- A leg with its counters cleared. -/
def LegState.cleared (l : LegState) : LegState :=
  { l with rtpBad := 0, policed := 0, bad := 0, outOfWindow := 0, packets := 0, bytes := 0, seqGap := 0 }

/-- FLOW_COUNTERS (0x0403; R127). -/
def execFlowCounters (h : Hdr) (kind index clear : Nat) (s : State) : Host.Outcome State Fault Refusal :=
  .next (runNow h 0x0403 { bad := decide (kind > 4 ∨ index > 63 ∨ clear > 1) } s (fun s =>
    if kind ≤ 2 then
      let f := s.flow kind index
      let out := legCounters kind f.a ++ legCounters kind f.b ++
        [f.dup, f.stale, f.latePkt, f.noSlot, f.ancOverflow, f.complete, f.incomplete]
      let f' := if clear = 1 then { f with
        a := f.a.cleared, b := f.b.cleared, dup := 0, stale := 0, latePkt := 0, noSlot := 0, ancOverflow := 0, complete := 0, incomplete := 0 } else f
      (s.setFlow kind index f', out.flatMap (leBytes 8))
    else
      let f := s.tx kind index
      let f' := if clear = 1 then { f with linkDown := 0, repeats := 0, late := 0 } else f
      (s.setTx kind index f', [f.linkDown, f.repeats, f.late].flatMap (leBytes 8))))

/-- FLOW_STATUS (0x0404; R128): a state byte per leg (1 ACTIVE), open frames, newest COMPLETE FRAME_TIME, all-ones for none. -/
def execFlowStatus (h : Hdr) (kind index : Nat) (s : State) : Host.Outcome State Fault Refusal :=
  .next (runRead h 0x0404 { bad := decide (kind > 2 ∨ index > 63) } s (fun s =>
    let f := s.flow kind index
    leBytes 1 (b2n f.a.active) ++ leBytes 1 (b2n f.b.active) ++ leBytes 1 (f.slots.countP (fun d => d.state == 1)) ++
      (match newestComplete f with | some x => timeBytes x.2.frameTime | none => noTime)))

/-- Whether the fields of TX_SET lie in their ranges; TRO is bounded by a quarter of the output's frame (R134). -/
def txOk (p : TxSetP) (s : State) : Bool :=
  let lim := fun (l : Leg) => legOk l s && decide (l.dscp < 64 ∧ l.pcp < 8)
  decide ((p.kind = 3 ∨ p.kind = 4) ∧ p.index < 64 ∧ p.enable ≤ 1 ∧ p.legBPresent ≤ 1 ∧ p.extended ≤ 1 ∧ p.audioSource ≤ 1 ∧ p.audioIndex < 64) &&
  lim p.legA && (p.legBPresent == 0 || (lim p.legB && p.legA.port != p.legB.port)) &&
  (p.kind == 4 || (match (s.output p.index).cfg with
    | some o => decide (4 * p.tro * o.rate.n ≤ 1000000000 * rateDen o.rate)
    | none => true))

/-- Whether a transmit flow's declared rate exceeds a leg's line rate (R104). -/
def txOverLine (s : State) (p : TxSetP) : Bool :=
  (txLegs p).any (fun l =>
    if p.kind = 3 then (match (s.output p.index).cfg with
      | some o => overLine s 0 { o.format with width := o.width, height := o.height, rate := o.rate, scanning := 0 } l
      | none => false)
    else overLine s 1 { channels := (audioShape s p).1 } l)

/-- TX_SET (0x0410; R104, R132, R136, R138). An audio flow also takes up what it follows. -/
def execTxSet (h : Hdr) (p : TxSetP) (s : State) : Host.Outcome State Fault Refusal :=
  .next (runNow h 0x0410
    { bad := !txOk p s,
      noResource := p.kind == 4 && p.enable == 1 && decide (otherTxChannels s p.index + (audioShape s p).1 > 1024),
      refused := txOverLine s p || (p.enable == 1 && !txAdmits s p) } s
    (fun s =>
      let s := s.setTx p.kind p.index { s.tx p.kind p.index with cfg := some p, enabled := n2b p.enable, started := false, packet := 0 }
      let u : TxAudio := spGet s.txAudio {} p.index
      (if p.kind = 4 then { s with txAudio := spSet {} s.txAudio p.index { u with follows := p.audioSource, index := p.audioIndex } }
       else s, [])))

end Sys2Proof.Machine
end

