-- ==== Sys2Proof/Machine/Diag.lean ====
section
/-! DEFINITION. Tile records as bytes (R191 to R193, R271) and the DIAG command group (0x10). -/

namespace Sys2Proof.Machine

/-- The first store byte of the tile-record region (R191). -/
abbrev tileRegion : Nat := 0x7FC000000

/-- A descriptor entry (R193). -/
def entryBytes (e : TileEntry) : List Byte :=
  leBytes 4 e.frame ++ leBytes 2 e.layers ++ leBytes 1 (b2n e.ordered + 2 * b2n e.coalesced + 4 * e.view) ++ leBytes 1 0 ++ leBytes 4 e.due

/-- PANEL_FLAGS (R271). -/
def panelFlagsOf (t : Tile) : Nat := 32 * b2n t.fresh + 16 * b2n t.ovr + 8 * b2n t.sat + t.pattern

/-- Descriptor entry j of a record: the waiting entry that the ring places there, free bytes where there is none. -/
def slotBytes (t : Tile) (i j : Nat) : List Byte :=
  let k := (j + 4 - t.rd % 4) % 4
  match t.entries[k]? with
  | some e => entryBytes e
  | none => (List.range 12).map (fun b => Config.unusedByte 1 (tileRegion + 64 * i + 16 + 12 * j + b))

/-- The 64 bytes of the tile record of an index (R192). -/
def State.tileRecord (s : State) (i : Nat) : List Byte :=
  let t := s.tile i
  leBytes 1 (t.rd + 4 * t.entries.length + 32 * b2n t.running) ++ leBytes 1 (t.head + 4 * b2n t.alloc) ++ leBytes 2 (panelFlagsOf t) ++
    leBytes 4 t.lastComposed ++ leBytes 4 t.lastDriven ++ leBytes 2 t.miss ++ leBytes 2 t.coalesce ++
    (List.range 4).flatMap (fun j => slotBytes t i j)

/-- TILE_READ (0x1001; R192). -/
def execTileRead (h : Hdr) (index count : Nat) (s : State) : Host.Outcome State Fault Refusal :=
  .next (runRead h 0x1001 { bad := decide (count < 1 ∨ 14 < count ∨ 2 ^ 20 < index + count) } s
    (fun s => (List.range count).flatMap (fun i => s.tileRecord (index + i))))

/-- ENGINE_COUNTERS (0x1002; R212). -/
def execEngineCounters (h : Hdr) (cluster : Nat) (s : State) : Host.Outcome State Fault Refusal :=
  .next (runRead h 0x1002 { bad := decide (cluster > 7) } s
    (fun s => leBytes 8 (s.cluster cluster).steals ++ leBytes 8 (s.cluster cluster).failed))

/-- MEM_INJECT (0x1003; R537): the next read of the word reports one or two bit errors. -/
def execMemInject (h : Hdr) (memory addr bits : Nat) (s : State) : Host.Outcome State Fault Refusal :=
  .next (runNow h 0x1003
    { bad := decide (memory > 1 ∨ bits < 1 ∨ 2 < bits ∨ (if memory = 0 then storeSize else sramSize) ≤ addr) } s
    (fun s => (s.setMarks memory (spSet 0 (s.marks memory) (addr / 4) bits), [])))

end Sys2Proof.Machine
end

