-- ==== Sys2Proof/Machine/Operands.lean ====
section
/-! DEFINITION. Command packets (R481, R482, R494, R495, R499, R500, R651): every operand form of the command reference, read from the bytes
of a packet into the command that they spell. -/

namespace Sys2Proof.Machine

/-- What a packet's parameters are: their length in bytes, the reserved ones (offset, count), the command. -/
structure Operands where
  size : Nat
  reserved : List (Nat × Nat) := []
  cmd : Instr

/-- Operands without reserved bytes. -/
def plain (size : Nat) (cmd : Instr) : Option Operands := some ⟨size, [], cmd⟩

/-- Operands with reserved bytes. -/
def holed (size : Nat) (reserved : List (Nat × Nat)) (cmd : Instr) : Option Operands := some ⟨size, reserved, cmd⟩

/-! ## Encodings of R494, R499 and R500 -/

/-- A stored time (R111). -/
def timeAt (p : List Byte) (o : Nat) : StoredTime := ⟨fieldAt p (o + 6) 6, fieldAt p (o + 2) 4, fieldAt p o 2⟩
/-- A rate. -/
def rateAt (p : List Byte) (o : Nat) : Rate := ⟨fieldAt p o 4, fieldAt p (o + 4) 2⟩
/-- A signed field of `n` bytes. -/
def intAt (p : List Byte) (o n : Nat) : Int := sx (8 * n) (fieldAt p o n)
/-- `k` fields of `n` bytes. -/
def natsAt (p : List Byte) (o n k : Nat) : List Nat := (List.range k).map (fun i => fieldAt p (o + n * i) n)
/-- `k` signed fields of `n` bytes. -/
def intsAt (p : List Byte) (o n k : Nat) : List Int := (List.range k).map (fun i => intAt p (o + n * i) n)
/-- A destination. -/
def destAt (p : List Byte) (o : Nat) : Dest := ⟨fieldAt p (o + 1) 1, fieldAt p o 1⟩
/-- An address of a leg in network order: an IPv4 address stands in the first four of the 16 bytes. -/
def addrAt (p : List Byte) (o family : Nat) : Nat := if family = 4 then beAt p o 4 else beAt p o 16
/-- A leg. -/
def legAt (p : List Byte) (o : Nat) : Leg :=
  let fam := fieldAt p (o + 1) 1
  { port := fieldAt p o 1, family := fam, dst := addrAt p (o + 2) fam, udp := fieldAt p (o + 18) 2, named := fieldAt p (o + 20) 1,
    src := addrAt p (o + 21) fam, vlan := fieldAt p (o + 37) 2, dscp := fieldAt p (o + 39) 1, ttl := fieldAt p (o + 40) 1,
    pcp := fieldAt p (o + 41) 1 }
/-- A video format block. -/
def videoAt (p : List Byte) (o : Nat) : Format :=
  { width := fieldAt p o 2, height := fieldAt p (o + 2) 2, sampling := fieldAt p (o + 4) 1, depth := fieldAt p (o + 5) 1,
    scanning := fieldAt p (o + 6) 1, colorimetry := fieldAt p (o + 7) 1, tcs := fieldAt p (o + 8) 1, range := fieldAt p (o + 9) 1,
    packing := fieldAt p (o + 10) 1, sender := fieldAt p (o + 11) 1, rate := rateAt p (o + 12) }
/-- A format block of a flow kind. -/
def formatAt (p : List Byte) (o kind : Nat) : Format :=
  if kind = 0 then videoAt p o
  else if kind = 1 then { channels := fieldAt p o 1, packetTime := fieldAt p (o + 1) 1 }
  else { ancRate := fieldAt p o 8 }
/-- The bytes of a format block that a kind uses. -/
def formatUsed (kind : Nat) : Nat := if kind = 0 then 18 else if kind = 1 then 2 else 8
/-- M1 or M3. -/
def matrixAt (p : List Byte) (o : Nat) : Matrix1 :=
  { coef := intsAt p o 2 9, offIn := intsAt p (o + 18) 2 3, offOut := intsAt p (o + 24) 2 3 }
/-- A crop rectangle. -/
def cropAt (p : List Byte) (o : Nat) : Rect :=
  { x := fieldAt p o 4, y := fieldAt p (o + 4) 4, w := fieldAt p (o + 8) 4, h := fieldAt p (o + 12) 4 }
/-- A destination rectangle, whose origin is signed. -/
def placeAt (p : List Byte) (o : Nat) : Rect :=
  { x := intAt p o 2, y := intAt p (o + 2) 2, w := fieldAt p (o + 4) 2, h := fieldAt p (o + 6) 2 }
/-- One view of VIEW_SET. -/
def viewAt (p : List Byte) (o : Nat) : ViewP :=
  { kind := fieldAt p o 1, y0 := fieldAt p (o + 2) 2, y1 := fieldAt p (o + 4) 2, s := fieldAt p (o + 8) 4, x := fieldAt p (o + 12) 4,
    k := fieldAt p (o + 16) 4, lh := fieldAt p (o + 20) 4 }

/-! ## The reference tables, group by group -/

/-- SYSTEM (0x01) and TIME (0x02). -/
def systemOperands (h : Hdr) (op : Nat) (p : List Byte) : Option Operands :=
  let u := fieldAt p
  match op with
  | 0x0100 => plain 0 (.nop h)
  | 0x0101 => plain 0 (.getInfo h)
  | 0x0102 => plain 5 (.eventCtl h (u 0 2) (u 2 1) (u 3 1) (u 4 1))
  | 0x0103 => plain 2 (.funcReset h (u 0 2))
  | 0x0104 => plain 4 (.logRead h (u 0 2) (u 2 2))
  | 0x0201 => plain 26 (.domainSet h
      { domain := u 0 1, enable := u 1 1, domainNumber := u 2 1, primary := u 3 1, backup := u 4 1, unicast := u 5 1,
        gmAddr := beAt p 6 16, holdover := u 22 4 })
  | 0x0202 => plain 1 (.domainStatus h (u 0 1))
  | 0x0203 => plain 8 (.tpConfig h
      { jump := u 0 4, slew := u 4 1, acquireAuto := u 5 1, autoSelect := u 6 1, revert := u 7 1 })
  | 0x0204 => plain 1 (.tpSelect h (u 0 1))
  | 0x0205 => plain 13 (.tpStep h (u 0 1) (timeAt p 1))
  | 0x0206 => plain 46 (.evtOutSet h
      { pin := u 0 1, mode := u 1 1, polarity := u 2 1, start := timeAt p 3, period := timeAt p 15, width := u 27 4, count := u 31 4,
        rate := rateAt p 35, offset := intAt p 41 4, head := u 45 1 })
  | 0x0207 => plain 5 (.evtInSet h (u 0 1) (u 1 1) (u 2 2) (u 4 1))
  | 0x0208 => plain 1 (.evtInRead h (u 0 1))
  | 0x0209 => plain 5 (.launchCancel h (u 0 1) (u 1 4))
  | _ => none

/-- PORT (0x03) and FLOW (0x04). -/
def networkOperands (h : Hdr) (op : Nat) (p : List Byte) : Option Operands :=
  let u := fieldAt p
  match op with
  | 0x0301 => plain 3 (.quadSet h (u 0 1) (u 1 1) (u 2 1))
  | 0x0302 => plain 62 (.portSet h
      { port := u 0 1, mac := beAt p 1 6, ip4 := beAt p 7 4, ip4Len := u 11 1, ip6 := [beAt p 12 16, beAt p 28 16], untagged := u 44 1,
        vidCount := u 45 1, vids := natsAt p 46 2 8 })
  | 0x0303 => plain 2 (.portCounters h (u 0 1) (u 1 1))
  | 0x0304 => plain 1 (.portStatus h (u 0 1))
  | 0x0401 => holed 220 [(45, 2), (90, 2), (98 + formatUsed (u 1 1), 32 - formatUsed (u 1 1))] (.flowSet h
      { kind := u 1 1, index := u 0 1, enable := u 2 1, legA := legAt p 3, legBPresent := u 47 1, legB := legAt p 48, payloadType := u 92 1,
        ssrcAny := u 93 1, ssrc := u 94 4, format := formatAt p 98 (u 1 1), slotCount := u 130 2, descriptors := u 132 8,
        bases := natsAt p 140 8 8, ringLength := u 204 4, skew := u 208 4, bucket := u 212 4, activity := u 216 4 })
  | 0x0402 => plain 3 (.flowEnable h (u 1 1) (u 0 1) (u 2 1))
  | 0x0403 => plain 3 (.flowCounters h (u 1 1) (u 0 1) (u 2 1))
  | 0x0404 => plain 2 (.flowStatus h (u 1 1) (u 0 1))
  | 0x0410 => holed 99 [(45, 2), (90, 2)] (.txSet h
      { kind := u 1 1, index := u 0 1, enable := u 2 1, legA := legAt p 3, legBPresent := u 47 1, legB := legAt p 48, extended := u 92 1,
        tro := u 93 4, audioSource := u 97 1, audioIndex := u 98 1 })
  | _ => none

/-- ROUTE (0x05), LAYER (0x06) and AUDIO (0x0C). -/
def matrixOperands (h : Hdr) (op : Nat) (p : List Byte) : Option Operands :=
  let u := fieldAt p
  match op with
  | 0x0501 => plain 8 (.routeSet h
      { dest := destAt p 0, kind := u 2 1, source := u 3 1, transition := u 4 1, frames := u 5 2, switchWait := u 7 1 })
  | 0x0502 => holed 244 [(29, 14)] (.outputSet h
      { output := u 0 1, width := u 1 2, height := u 3 2, rate := rateAt p 5, format := videoAt p 11, latency := u 43 4, slotCount := u 47 1,
        bases := natsAt p 48 8 8, fill := u 112 4, blend := u 116 1, lossAction := u 117 1, hold := u 118 4, crop := cropAt p 122,
        bypass := u 138 1, m1Mode := u 139 1, m1 := matrixAt p 140, m2 := intsAt p 170 4 9, m3 := matrixAt p 206, lutBuffer := u 236 8 })
  | 0x0503 => plain 2 (.routeStatus h (destAt p 0))
  | 0x0601 => plain 108 (.layerSet h
      { head := u 0 1, layer := u 1 1, enable := u 2 1, z := u 3 1, crop := cropAt p 4, dest := placeAt p 20, g := u 28 1, fill := u 29 4,
        views := u 33 1, blend := u 34 1, lossAction := u 35 1, hold := u 36 4, bypass := u 40 1, m1Mode := u 41 1, m1 := matrixAt p 42,
        m2 := intsAt p 72 4 9 })
  | 0x0602 => plain 12 (.layerCoef h (destAt p 0) (u 2 1) (u 3 1) (u 4 8))
  | 0x0603 => plain 20 (.layerPresent h
      { head := u 0 1, layer := u 1 1, base := u 2 8, pitch := u 10 4, width := u 14 2, height := u 16 2, format := u 18 1, ordered := u 19 1 })
  | 0x0604 => plain 2 (.leasePolicy h (u 0 1) (u 1 1))
  | 0x0605 => plain 1 (.leaseStatus h (u 0 1))
  | 0x0C01 => plain 10 (.audioAssoc h (u 0 1) (u 1 1) (natsAt p 2 1 8))
  | 0x0C02 => plain 16 (.audioHead h
      { head := u 0 1, layer := u 1 1, trim := intAt p 2 4, tdmEnable := u 6 1, tdmFormat := u 7 1, map := natsAt p 8 1 8 })
  | 0x0C03 => plain 11 (.audioTx h (u 0 1) (u 1 1) (u 2 1) (natsAt p 3 1 8))
  | 0x0C04 => plain 1 (.audioStatus h (u 0 1))
  | _ => none

/-- HEAD (0x07), VIEW (0x0A) and CHECK (0x0B). -/
def headOperands (h : Hdr) (op : Nat) (p : List Byte) : Option Operands :=
  let u := fieldAt p
  let v := u 1 1
  let views : ViewSetP := { head := u 0 1, views := (List.range v).map (fun i => viewAt p (4 + 24 * i)) }
  let viewHoles := (2, 2) :: (List.range v).flatMap (fun i => [(5 + 24 * i, 1), (10 + 24 * i, 2)])
  match op with
  | 0x0701 => plain 62 (.headConfig h
      { head := u 0 1, w := u 1 2, h := u 3 2, rate := rateAt p 5, epochOffset := intAt p 11 4, vtotal := u 15 4, scanMode := u 19 1,
        transitionCode := u 20 2, lead := u 22 4, latency := u 26 4, low := u 30 1, crit := u 31 1, linkRate := u 32 1, psBase := u 33 8,
        composedBase := u 41 8, followed := u 49 1, lineF := u 50 6, followMin := rateAt p 56 })
  | 0x0702 => plain 1 (.headUnconfig h (u 0 1))
  | 0x0703 => plain 1 (.headStart h (u 0 1))
  | 0x0704 => plain 1 (.headStop h (u 0 1))
  | 0x0705 => plain 13 (.headSr h
      { head := u 0 1, command := u 1 1, mode := u 2 1, idle := u 3 4, period := u 7 4, holdLimit := u 11 2 })
  | 0x0706 => plain 15 (.headPicture h { head := u 0 1, background := u 1 4, peak := u 5 2, lutBuffer := u 7 8 })
  | 0x0707 => plain 12 (.headGate h
      { head := u 0 1, phases := u 1 1, polarity := u 2 3, gckDelay := u 5 2, gateGuard := u 7 2, flush := u 9 1, parkHold := u 10 2 })
  | 0x0708 => plain 1 (.warmupEnd h (u 0 1))
  | 0x0709 => plain 1 (.headStatus h (u 0 1))
  | 0x0A01 => holed (4 + 24 * v) viewHoles (.viewSet h views)
  | 0x0A02 => plain 2 (.viewClear h (u 0 1) (u 1 1))
  | 0x0A03 => holed (4 + 24 * v) viewHoles (.viewTest h views)
  | 0x0B01 => plain 21 (.checkSet h
      { head := u 0 1, check := u 1 1, enable := u 2 1, tap := u 3 1, x0 := u 4 2, y0 := u 6 2, cw := u 8 2, ch := u 10 2, view := u 12 1,
        e := u 13 1, mode := u 14 1, expect := u 15 4, missLimit := u 19 1, action := u 20 1 })
  | 0x0B02 => plain 2 (.checkRead h (u 0 1) (u 1 1))
  | _ => none

/-- PANEL (0x08) and LEDGER (0x09). -/
def panelOperands (h : Hdr) (op : Nat) (p : List Byte) : Option Operands :=
  let u := fieldAt p
  match op with
  | 0x0801 => plain 1 (.panelWindup h (u 0 1))
  | 0x0802 => plain 1 (.panelPowerdown h (u 0 1))
  | 0x0803 => plain 13 (.powerSeqSet h
      { head := u 0 1, penUsed := u 1 1, vcomSettle := u 2 2, penDelay := u 4 2, pgTimeout := u 6 1, trainDelay := u 7 2, wdHold := u 9 2,
        penGap := u 11 2 })
  | 0x0804 => plain 42 (.driverSet h
      { driver := u 0 1, head := u 1 1, first := u 2 4, ch := u 6 2, lanes := u 8 1, rev := u 9 1, vendor := sliceBytes p 10 32 })
  | 0x0805 => plain 1 (.driverRetrain h (u 0 1))
  | 0x0806 => plain 11 (.tableLoad h (u 0 1) (u 1 1) (u 2 1) (u 3 8))
  | 0x0807 => plain 43 (.settingsLoad h
      { head := u 0 1, gammaBypass := u 1 1, muraEnable := u 2 1, odEnable := u 3 1, depth := u 4 1, resScale := u 5 1, restLevel := u 6 2,
        thermMin := u 8 2, thermMax := u 10 2, faultBand := u 12 1, thresholds := intsAt p 13 2 7, settle := natsAt p 27 2 8 })
  | 0x0808 => plain 1 (.activate h (u 0 1))
  | 0x0809 => plain 9 (.muraSwap h (u 0 1) (u 1 8))
  | 0x080A => plain 1 (.panelStatus h (u 0 1))
  | 0x0901 => plain 20 (.vcomSet h
      { head := u 0 1, v0 := u 1 2, vmin := u 3 2, vmax := u 5 2, senseEnable := u 7 1, senseTarget := u 8 2, senseDelay := u 10 2,
        senseN := u 12 1, senseLimit := u 13 2, senseScale := intAt p 15 2, trimGain := intAt p 17 2, trimStep := u 19 1 })
  | 0x0902 => plain 6 (.ledgerSet h (u 0 1) (u 1 1) (u 2 2) (u 4 2))
  | 0x0903 => plain 1 (.ledgerStats h (u 0 1))
  | 0x0904 => plain 21 (.ledgerSnapshot h (u 0 1) (u 1 4) (u 5 8) (u 13 8))
  | 0x0905 => plain 14 (.ledgerTableRead h (u 0 1) (u 1 1) (u 2 2) (u 4 2) (u 6 8))
  | 0x0906 => plain 1 (.ledgerClear h (u 0 1))
  | _ => none

/-- PAIR (0x0D), NVS (0x0E), POWER (0x0F) and DIAG (0x10); `n` is LENGTH in bytes, which ends the data of RECORD_WRITE (R554, R651). -/
def serviceOperands (h : Hdr) (op n : Nat) (p : List Byte) : Option Operands :=
  let u := fieldAt p
  match op with
  | 0x0D01 => plain 4 (.pairSet h (u 0 1) (u 1 1) (u 2 1) (u 3 1))
  | 0x0D02 => plain 0 (.pairHandover h)
  | 0x0D03 => plain 0 (.pairRejoin h)
  | 0x0D04 => plain 0 (.pairStatus h)
  | 0x0E01 => plain 4 (.nvsRead h (u 0 2) (u 2 1) (u 3 1))
  | 0x0E02 => plain (4 + u 3 1) (.nvsWrite h (u 0 2) (u 2 1) (sliceBytes p 4 (u 3 1)))
  | 0x0E03 => plain 2 (.recordRead h (u 0 2))
  | 0x0E04 => plain (max 2 (n - 16)) (.recordWrite h (u 0 2) (sliceBytes p 2 (n - 18)))
  | 0x0E05 => plain 1 (.counterRead h (u 0 1))
  | 0x0F01 => plain 2 (.pdSet h (u 0 1) (u 1 1))
  | 0x0F02 => plain 1 (.opSet h (u 0 1))
  | 0x0F03 => plain 36 (.yoyoSet h
      { unit := u 0 1, enable := u 1 1, period := u 2 4, window := u 6 4, compare := u 10 1, action := u 11 1, watch := u 12 24 })
  | 0x0F04 => plain 0 (.powerStatus h)
  | 0x1001 => plain 5 (.tileRead h (u 0 4) (u 4 1))
  | 0x1002 => plain 1 (.engineCounters h (u 0 1))
  | 0x1003 => plain 10 (.memInject h (u 0 1) (u 1 8) (u 9 1))
  | _ => none

/-- The operands of an opcode, none where the group or the command is unknown. -/
def operandsOf (h : Hdr) (op n : Nat) (p : List Byte) : Option Operands :=
  match op / 256 with
  | 1 => systemOperands h op p
  | 2 => systemOperands h op p
  | 3 => networkOperands h op p
  | 4 => networkOperands h op p
  | 5 => matrixOperands h op p
  | 6 => matrixOperands h op p
  | 7 => headOperands h op p
  | 8 => panelOperands h op p
  | 9 => panelOperands h op p
  | 10 => headOperands h op p
  | 11 => headOperands h op p
  | 12 => matrixOperands h op p
  | _ => serviceOperands h op n p

/-! ## Whole packets -/

/-- The header of a packet (R481, R482). -/
def hdrOf (src : Nat) (bs : List Byte) : Hdr :=
  let f := fieldAt bs 8 4
  { src := src, tag := fieldAt bs 4 4, timed := bit f 0, silent := bit f 1, fence := bit f 2, genCheck := bit f 3, noApplied := bit f 4,
    gen := fieldAt bs 12 2, launch := if bit f 0 then timeAt bs 16 else {} }

/-- The opcode of a packet. -/
def opOf (bs : List Byte) : Nat := fieldAt bs 0 2

/-- LENGTH of a packet, in words. -/
def lengthOf (bs : List Byte) : Nat := fieldAt bs 2 2

/-- A packet read: the command that it spells, or the first of BAD_OPCODE, BAD_LENGTH and BAD_PARAM that its form earns (R482, R487, R651). -/
def readPacket (src : Nat) (bs : List Byte) : Nat ⊕ Instr :=
  let h := hdrOf src bs
  let n := 4 * lengthOf bs
  let start := if h.timed then 28 else 16
  let p := bs.drop start
  match operandsOf h (opOf bs) n p with
  | none => .inl stBadOpcode
  | some x =>
    let last := start + x.size
    if lengthOf bs < 4 ∨ 256 < lengthOf bs ∨ ceilDiv last 4 * 4 ≠ n then .inl stBadLength
    else if fieldAt bs 8 4 ≥ 32 ∨ fieldAt bs 14 2 ≠ 0 ∨ (x.reserved.any (fun r => fieldAt p r.1 r.2 != 0)) = true ∨ fieldAt bs last (n - last) ≠ 0 then
      .inl stBadParam
    else .inr x.cmd

end Sys2Proof.Machine
end

