-- ==== Sys2Proof/Machine/Pair.lean ====
section
/-! DEFINITION. The redundant pair (R437 to R468): its commands, its link, what each message does where it arrives, hand-over and takeover. -/

namespace Sys2Proof.Machine

/-! ## Commands -/

/-- PAIR_SET (0x0D01; R437, R442, R444, R659). -/
def execPairSet (h : Hdr) (enable prefer auto port : Nat) (s : State) : Host.Outcome State Fault Refusal :=
  .next (runNow h 0x0D01
    { bad := decide (enable > 1 ∨ prefer > 1 ∨ auto > 1 ∨ port > 1),
      refused := (enable == 1 && decide (1 < headNums.countP (fun n => (s.head n).cfg.isSome))) ||
        (port != s.pair.port && headNums.any (fun n => (s.head n).state != 0)) } s
    (fun s =>
      let was := s.pair.enable
      let s := { s with pair := { s.pair with enable := n2b enable, prefer := prefer, auto := n2b auto, port := port } }
      (if enable = 1 ∧ was = false then ({ s with pair := { s.pair with state := 1 } } : State).linkFresh
       else if enable = 0 ∧ was = true then
         (let s := s.pairDown
          ({ s with
             pair := { s.pair with state := 0, sent := [] },
             sync := { s.sync with divergent := [], complete := [], matched := (0, 0), release := none, requests := [], tpStamp := none, windDown := false } } : State).endProcs
            0x0D03 0 noFrame 255 false)
       else s, [])))

/-- PAIR_HANDOVER (0x0D02; R463, R464): to the active, or to the HOT standby, which waits for RELEASE. -/
def execPairHandover (h : Hdr) (s : State) : Host.Outcome State Fault Refusal :=
  let hot := s.sync.divergent.isEmpty && (s.head s.pairHead).scans && (s.partnerHot || (s.pair.state == 5 && s.pair.linkUp))
  .next (runProc h 0x0D02 0 { busy := s.sys.windDown || s.sync.release.isSome || s.sync.overlap, refused := !hot } s
    (fun p s => let s := s.addProc p
                if s.pair.state = 2 then s.handoverStart else s))

/-- PAIR_REJOIN (0x0D03; R442). -/
def execPairRejoin (h : Hdr) (s : State) : Host.Outcome State Fault Refusal :=
  .next (runProc h 0x0D03 0 { ignored := s.pair.state != 6 } s
    (fun p s => ({ s with pair := { s.pair with state := 3 }, sync := { s.sync with stepped := false, phaseRun := 0 } } : State).addProc p))

/-- PAIR_STATUS (0x0D04; R442). -/
def execPairStatus (h : Hdr) (s : State) : Host.Outcome State Fault Refusal :=
  .next (runRead h 0x0D04 {} s (fun s =>
    leBytes 1 s.pair.state ++ leBytes 1 s.pair.gen ++ leBytes 1 (b2n s.pair.baton) ++ leBytes 4 s.sync.divergent.length ++
      leBytes 8 s.sync.latchLate ++ leBytes 8 s.sync.selectMiss ++ leBytes 8 s.sync.phaseErr))

/-! ## Link -/

/-- HELLO (R443, R659): the roles are decided; a partner with the same port takes the link down. -/
def execHello (p : HelloP) (s : State) : Host.Outcome State Fault Refusal :=
  let lead := if s.pair.baton then true else if p.baton then false
    else if s.pair.prefer ≠ p.prefer then s.pair.prefer == 0 else decide (Config.uid < p.uid)
  .next (
    if !s.pair.enable then s else
    let s := s.ackMsg
    if p.port = s.pair.port then (s.pairPost 0xE093 0 0).pairDown
    else { s with pair := { s.pair with
      helloSeen := true, lead := lead, partnerUid := p.uid, partnerGen := p.gen, batonIn := s.pair.batonIn || p.baton } })

/-- An ECHO is sent (R448, R451). -/
def State.sendEcho (s : State) : State :=
  ({ s with pair := { s.pair with echoSent := s.pair.echoSent + 1 } } : State).sendBlock 0x04 (timeBytes s.tp)

/-- TIME of the active (R447, R452, R453). -/
def State.sendTime (s : State) : State :=
  s.sendMsg 0x06 (timeBytes s.tp ++ timeBytes (s.head s.pairHead).scan.tBase)

/-- PAIR_LINK_UP (R442, R443, R450, R451): the lanes are in lock and HELLO has passed both ways. -/
def execPairLinkUp (s : State) : Host.Outcome State Fault Refusal :=
  let p := s.pair
  .next (
    if !p.enable || p.linkUp || !p.helloSeen || p.sent.any (fun m => m.mtype == 1) || !([32, 33, 34, 35].all (fun l => (s.lane l).blockLock)) then s
    else
      let s := { s with pair := { p with
        linkUp := true, state := if p.state = 1 then (if p.lead then 2 else 3) else p.state,
        gen := if p.state = 1 ∧ p.lead = false then p.partnerGen else p.gen } }
      let s := { s with sync := { s.sync with stepped := false, release := none, windDown := false } }
      let s := (s.pairPost 0xE090 0 0).sendEcho
      if s.pair.state = 2 then s.sendTime else s)

/-- PAIR_LINK_DOWN (R442, R450, R468). -/
def execPairLinkDown (s : State) : Host.Outcome State Fault Refusal := .next (if s.pair.enable then s.pairDown else s)

/-- HEARTBEAT (R445, R449): the device sends a HEARTBEAT block. -/
def execHeartbeat (s : State) : Host.Outcome State Fault Refusal :=
  let p := s.pair
  .next (if !p.enable then s else
    let s := { s with pair := { p with beats := inc32 p.beats } }
    s.sendBlock 0x2D (leBytes 1 p.state ++ leBytes 1 (p.gen % 16 + 16 * b2n p.baton + 32 * b2n s.sys.windDown) ++ leBytes 4 p.beats ++ leBytes 1 0))

/-- A sequenced message is sent again, or has used up its retries (R448, R450). -/
def State.resend (s : State) (mseq : Nat) : State :=
  match s.pair.sent.find? (fun m => m.mseq == mseq) with
  | none => s
  | some m =>
    if m.tries ≥ 3 then s.pairDown else
    ({ s with pair := { s.pair with sent := s.pair.sent.map (fun x => if x.mseq = mseq then { x with tries := x.tries + 1 } else x) } } : State).sendBlock
      m.mtype m.body

/-- RETRANSMIT (R448): 50 µs have passed without an ACK. -/
def execRetransmit (mseq : Nat) (s : State) : Host.Outcome State Fault Refusal := .next (s.resend mseq)

/-- NAK (R448). -/
def execNak (mseq : Nat) (s : State) : Host.Outcome State Fault Refusal := .next (s.resend mseq)

/-- ACK (R448, R454): the message is done, and a reply that waited for it goes out. -/
def execAck (mseq : Nat) (s : State) : Host.Outcome State Fault Refusal :=
  let mine := s.pair.sent.filter (fun m => m.mseq == mseq)
  .next { s with
    cp := { s.cp with replies := s.cp.replies ++ mine.filterMap (fun m => m.reply) },
    pair := { s.pair with sent := s.pair.sent.filter (fun m => m.mseq != mseq) } }

/-- ECHO (R448, R451): the partner's is answered; an answer gives one measurement, and 64 give the one-way delay. -/
def execEcho (answered : Bool) (roundTrip answerTime : Nat) (s : State) : Host.Outcome State Fault Refusal :=
  .next (
    if !s.pair.enable then s
    else if !answered then s.sendBlock 0x04 (List.replicate 12 0 ++ timeBytes s.tp ++ timeBytes s.tp)
    else if !s.pair.linkUp || decide (64 ≤ s.pair.echoes.length) then s
    else
      let l := s.pair.echoes ++ [(roundTrip - answerTime) / 2]
      let s := { s with pair := { s.pair with echoes := l } }
      if l.length < 64 then s.sendEcho
      else { s with pair := { s.pair with delay := (l.foldl (fun a x => a + x) 0 + 32 * 4096) / (64 * 4096) } })

/-- ECHO_TIMEOUT (R448): a further ECHO, at most 256. -/
def execEchoTimeout (s : State) : Host.Outcome State Fault Refusal :=
  .next (
    if !s.pair.linkUp || decide (64 ≤ s.pair.echoes.length) then s
    else if s.pair.echoSent ≥ 256 then s.pairDown
    else s.sendEcho)

/-- EB_OVF (R405): the elastic buffer is full. -/
def execEbOvf (s : State) : Host.Outcome State Fault Refusal :=
  .next (
    let s := [32, 33, 34, 35].foldl (fun s l => s.setLane l { s.lane l with ebOvf := true, blockLock := false, hunting := true }) s
    if s.pair.linkUp then s.pairDown else s)

/-! ## Lockstep -/

/-- TIME (R452, R453): the standby stamps the active's time and takes its T_BASE. -/
def execTime (tp tBase : Nat) (s : State) : Host.Outcome State Fault Refusal :=
  .next (
    if !s.standby then s else
    let s := s.ackMsg
    ({ s with sync := { s.sync with tpStamp := some (counterOf (tp + 4096 * s.pair.delay)) }, pair := { s.pair with tBase := tBase } } : State).modHead
      s.pairHead (fun h => { h with scan := { h.scan with tBase := tBase } }))

/-- A divergent row is requested (R461). -/
def State.askRow (s : State) (q : Nat) : State :=
  ({ s with sync := { s.sync with requests := if s.sync.requests.contains q then s.sync.requests else s.sync.requests ++ [q] } } : State).sendMsg
    0x0B (leBytes 2 q)

/-- Lockstep begins (R442): every row starts divergent and is requested (R461). -/
def State.lockstep (s : State) : State :=
  let rows := List.range (s.head s.pairHead).th
  let s := { s with pair := { s.pair with state := 4 }, sync := { s.sync with divergent := rows, matched := (0, 0), phaseRun := 0, slow := false } }
  rows.foldl (fun s q => s.askRow q) s

/-- Whether TP is within 20 ns of the active's time (R442). -/
def State.inTime (s : State) : Bool :=
  match s.sync.tpStamp with
  | some x => decide (((s.time.tp : Int) - x).natAbs ≤ 20 * 2 ^ 48)
  | none => false

/-- PHASE (R442, R458): a standby in JOINING whose head scans in step begins lockstep; in lockstep 16 differences above 20 ns in a row
end it. -/
def execPhase (frame line ns : Nat) (s : State) : Host.Outcome State Fault Refusal :=
  let h := s.head s.pairHead
  .next (match h.scan.latched.find? (fun l => l.frame % 16 == frame % 16) with
    | none => s
    | some l =>
      let own := (h.lineTime l line).toNat % uSec / 65536
      let d := (own + 1000000000 - ns % 1000000000) % 1000000000
      let far := decide (20 < min d (1000000000 - d))
      if !s.pair.linkUp then s
      else if s.pair.state = 3 then (if h.scans && s.inTime && !far then s.lockstep else s)
      else if s.pair.state ≠ 4 ∧ s.pair.state ≠ 5 then s
      else if !far then { s with sync := { s.sync with phaseRun := 0 } }
      else
        let s := { s with sync := { s.sync with phaseErr := inc32 s.sync.phaseErr, phaseRun := s.sync.phaseRun + 1 } }
        if s.sync.phaseRun < 16 then s else
        (({ s with sync := { s.sync with phaseRun := 0 } } : State).pairPost 0xE094 line line).unsync)

/-- Bytes of panel state that 6.0 GB/s moves in three frame periods (R462). -/
def resyncLimit (r : Rate) : Nat := 6000000000 * 3 * rateDen r / r.n

/-- A row is found divergent (R442, R461, R462). -/
def State.rowDiverges (s : State) (k q : Nat) : State :=
  let h := s.head s.pairHead
  let s := { s with sync := { s.sync with matched := if s.sync.matched.1 = k then s.sync.matched else (k, 0) } }
  if s.pair.state ≠ 4 ∧ s.pair.state ≠ 5 then s else
  let s := { s with pair := { s.pair with state := 4 },
                    sync := { s.sync with divergent := if s.sync.divergent.contains q then s.sync.divergent else s.sync.divergent ++ [q] } }
  let s := if s.sync.requests.contains q then s else s.askRow q
  let past := decide (1024 * h.tw * s.sync.divergent.length > resyncLimit h.rate)
  let s' : State := { s with sync := { s.sync with slow := past } }
  if past && !s.sync.slow then s'.pairPost 0xE095 (8 * q) (8 * q + 7) else s'

/-- A row matches (R461); the standby is HOT once every row of the head has matched in one frame (R442). -/
def State.rowMatches (s : State) (k q : Nat) : State :=
  let n := s.pairHead
  let m := if s.sync.matched.1 = k then (k, s.sync.matched.2 + 1) else (k, 1)
  let s := { s with sync := { s.sync with matched := m, divergent := s.sync.divergent.filter (fun r => r != q) } }
  if s.pair.state = 4 ∧ m.2 = (s.head n).th ∧ s.sync.divergent = [] then
    (({ s with pair := { s.pair with state := 5 }, sync := { s.sync with slow := false } } : State).pairPost 0xE092 0 0).endProcs 0x0D03 0 noFrame 255 true
  else s

/-- ROW (R459): the standby commits or skips the row. -/
def execRow (frame row skipped crc : Nat) (s : State) : Host.Outcome State Fault Refusal :=
  let n := s.pairHead
  let h := s.head n
  .next (
    if !s.standby then s else
    let s := s.ackMsg
    match h.scan.latched.find? (fun l => l.frame % 2 ^ 32 == frame % 2 ^ 32) with
    | none => s
    | some l =>
      let k := l.frame
      if h.settled k row || decide (h.th ≤ row) then s else
      let whole := s.sync.complete.contains (k, row)
      let own := s.rowCrc n l row
      let s := { s with sync := { s.sync with complete := s.sync.complete.filter (fun x => x != (k, row)) } }
      if skipped = 1 then (s.skipRow n k row 1).rowMatches k row
      else if !whole then (s.skipRow n k row 1).rowDiverges k row
      else if own = crc then (s.commitRow n l row).rowMatches k row
      else (s.commitRow n l row).rowDiverges k row)

/-- ROW_WAIT_END (R459): due_P has come without ROW; the standby skips the row. -/
def execRowWaitEnd (row : Nat) (s : State) : Host.Outcome State Fault Refusal :=
  let n := s.pairHead
  let h := s.head n
  .next (
    if !s.standby || !s.pair.linkUp then s else
    match h.scan.latched.find? (fun l => !h.settled l.frame row && decide (Head.dueP l row ≤ s.tp)) with
    | none => s
    | some l =>
      let s := { s with sync := { s.sync with complete := s.sync.complete.filter (fun x => x != (l.frame, row)) } }
      (s.skipRow n l.frame row 1).rowDiverges l.frame row)

/-- ROW_REQ (R461): the active answers with the next commit of the row. -/
def execRowReq (row : Nat) (s : State) : Host.Outcome State Fault Refusal :=
  .next (
    if !s.pairActive then s else
    let s := s.ackMsg
    { s with pair := { s.pair with asked := true },
             sync := { s.sync with requests := if s.sync.requests.contains row then s.sync.requests else s.sync.requests ++ [row] } })

/-- ROW_DATA (R271, R461): installed where it arrives before the row's next release; else discarded and the row requested again. -/
def execRowData (p : RowDataP) (s : State) : Host.Outcome State Fault Refusal :=
  let n := s.pairHead
  let h := s.head n
  .next (
    if !s.standby then s else
    let s := s.ackMsg
    let s := { s with sync := { s.sync with requests := s.sync.requests.filter (fun r => r != p.row) } }
    let soon := match h.scan.latched.find? (fun l => l.frame % 2 ^ 32 == (p.frame + 1) % 2 ^ 32) with
      | some l => decide ((s.tp : Int) < h.relP l p.row)
      | none => newer32 p.frame (h.scan.frame % 2 ^ 32) || p.frame == h.scan.frame % 2 ^ 32
    match h.cfg with
    | none => s
    | some c =>
      if h.th ≤ p.row then s
      else if !soon then s.askRow p.row
      else
        let s := s.putMem 0 (c.psBase + 1024 * (p.row * h.tw)) (sliceBytes p.panel 0 (1024 * h.tw))
        let s := s.putMem 1 (rowTimeAt n p.row) (sliceBytes p.times 0 64)
        let s := s.putMem 1 (rowCheckAt n p.row) (leBytes 4 p.frame ++ leBytes 4 p.crc)
        (List.range h.tw).foldl (fun s tx =>
          let i := h.tileAt tx p.row
          s.setTile i ((s.tile i).withFlags (fieldAt p.flags (2 * tx) 2))) s)

/-! ## Hand-over -/

/-- RELEASE (R447, R464): the hand-over line. -/
def execRelease (frame line gen dac : Nat) (s : State) : Host.Outcome State Fault Refusal :=
  .next (if !s.standby then s else
    let s := s.ackMsg
    { s with sync := { s.sync with release := some (frame % 2 ^ 32, line, gen, dac) } })

/-- WIND_DOWN_MSG (R468): the partner's wind-down. -/
def execWindDownMsg (cause : Nat) (s : State) : Host.Outcome State Fault Refusal :=
  .next (if !s.pair.enable || cause > 255 then s else
    let s := s.ackMsg
    { s with sync := { s.sync with windDown := true } })

/-- The device drives the shared nets of a head, at the levels in force, with a DAC code (R436, R465, R467). -/
def State.driveNets (s : State) (n dac : Nat) : State :=
  (s.modHead n (fun h => { h with
    pins := { driven := true, goe := true, pen := h.power.seq.penUsed % 16 }, vcom := { h.vcom with driven := true, dac := dac },
    power := { h.power with arrived := h.power.seq.penUsed % 16 } })).batonPins

/-- Transmit flows start at their next frame (R467). -/
def State.restartTx (s : State) : State :=
  { s with txs := s.txs.map (fun f => (f.1, { f.2 with started := false, packet := 0 })) }

/-- This device becomes the active with a generation. -/
def State.becomeActive (s : State) (gen dac : Nat) : State :=
  ({ s with pair := { s.pair with state := 2, gen := gen % 16, batonIn := false, asked := true }, sync := { s.sync with release := none, requests := [] } } : State).restartTx.driveNets
    s.pairHead dac

/-- HANDOVER (R464 to R466): at the hand-over line the outgoing device releases the gate nets; the incoming one drives the nets if BATON_IN
is low, and else gives the hand-over up. -/
def execHandover (batonIn : Bool) (s : State) : Host.Outcome State Fault Refusal :=
  let n := s.pairHead
  .next (match s.sync.release with
    | none => s
    | some (k, y, g, dac) =>
      if s.pair.state = 2 then
        (if s.sync.overlap then s else
         let s := s.modHead n (fun h => { h with pins := { h.pins with driven := false, gck := 0, stv := false, goe := false, gallon := false } })
         ({ s with pair := { s.pair with state := 5, batonIn := batonIn }, sync := { s.sync with overlap := true } } : State).batonPins)
      else if s.pair.state ≠ 5 then s
      else if batonIn then
        (({ s with pair := { s.pair with batonIn := true }, sync := { s.sync with release := none } } : State).pairPost 0xE097 y y).endProcs 0x0D02 0 k n false
      else ((s.becomeActive (g + 1) dac).pairPost 0xE096 y y).endProcs 0x0D02 0 k n true)

/-- HANDOVER_OVERLAP_END (R465, R466): the outgoing device releases PEN and VCOM_OUT where the incoming one holds the baton, and else takes the
hand-over back with G + 2. -/
def execHandoverOverlapEnd (batonIn : Bool) (s : State) : Host.Outcome State Fault Refusal :=
  let n := s.pairHead
  .next (match s.sync.release, s.sync.overlap with
    | some (k, y, g, _), true =>
      let s := { s with sync := { s.sync with release := none, overlap := false }, pair := { s.pair with batonIn := batonIn } }
      if batonIn then
        (let s := s.modHead n (fun h => { h with pins := { driven := false }, vcom := { h.vcom with driven := false }, power := { h.power with arrived := 0 } })
         let s := { s with pair := { s.pair with gen := (g + 1) % 16 } }
         (s.pairPost 0xE096 y y).endProcs 0x0D02 0 k n true)
      else
        let s := { s with pair := { s.pair with state := 2, gen := (g + 2) % 16 }, sync := { s.sync with redrive := true } }
        (s.pairPost 0xE097 y (y + 1)).endProcs 0x0D02 0 k n false
    | _, _ => s)

/-- TAKEOVER (R467, R468): BATON_IN has fallen with no RELEASE received. -/
def execTakeover (s : State) : Host.Outcome State Fault Refusal :=
  let n := s.pairHead
  let h := s.head n
  let y := h.scan.line
  .next (
    if !s.standby || s.sync.release.isSome || s.sync.overlap then s else
    let s := { s with pair := { s.pair with batonIn := false } }
    if s.sync.windDown then
      (let s := if h.scans then s.haltHead n 0 else s
       (s.releaseNets n).headOff n |>.pairPost 0xE09C 0 0)
    else if s.pair.state = 5 then (s.becomeActive (s.pair.gen + 1) h.vcom.dac).pairPost 0xE098 (y - 1) y
    else if (s.pair.state = 4 ∨ s.pair.state = 6) ∧ h.scans = true then
      ((s.becomeActive (s.pair.gen + 1) h.vcom.dac).pairPost 0xE099 (y - 1) y).stopHead n
    else s.pairPost 0xE09A 0 0)

end Sys2Proof.Machine
end

