-- ==== Sys2Proof/Machine/Run.lean ====
section
/-! DEFINITION. Running a command that a packet spells (R475, R489, R491): from a ring or the mailbox, from the pair's active (R454), and
again where a command that waited goes on (R25, R265). -/

namespace Sys2Proof.Machine

/-- The meaning of a command of the reference; an event is none. -/
def meaningOf (i : Instr) (s : State) : Host.Outcome State Fault Refusal :=
  match i with
  | .nop h => execNop h s
  | .getInfo h => execGetInfo h s
  | .eventCtl h code enable vector mgt => execEventCtl h code enable vector mgt s
  | .funcReset h fn => execFuncReset h fn s
  | .logRead h first count => execLogRead h first count s
  | .domainSet h p => execDomainSet h p s
  | .domainStatus h d => execDomainStatus h d s
  | .tpConfig h p => execTpConfig h p s
  | .tpSelect h d => execTpSelect h d s
  | .tpStep h source value => execTpStep h source value s
  | .evtOutSet h p => execEvtOutSet h p s
  | .evtInSet h pin edges minPulse report => execEvtInSet h pin edges minPulse report s
  | .evtInRead h pin => execEvtInRead h pin s
  | .launchCancel h queue tag => execLaunchCancel h queue tag s
  | .quadSet h quad mode fec => execQuadSet h quad mode fec s
  | .portSet h p => execPortSet h p s
  | .portCounters h port clear => execPortCounters h port clear s
  | .portStatus h port => execPortStatus h port s
  | .flowSet h p => execFlowSet h p s
  | .flowEnable h kind index enable => execFlowEnable h kind index enable s
  | .flowCounters h kind index clear => execFlowCounters h kind index clear s
  | .flowStatus h kind index => execFlowStatus h kind index s
  | .txSet h p => execTxSet h p s
  | .routeSet h p => execRouteSet h p s
  | .outputSet h p => execOutputSet h p s
  | .routeStatus h dest => execRouteStatus h dest s
  | .layerSet h p => execLayerSet h p s
  | .layerCoef h dest axis auto buffer => execLayerCoef h dest axis auto buffer s
  | .layerPresent h p => execLayerPresent h p s
  | .leasePolicy h head policy => execLeasePolicy h head policy s
  | .leaseStatus h head => execLeaseStatus h head s
  | .audioAssoc h source flow map => execAudioAssoc h source flow map s
  | .audioHead h p => execAudioHead h p s
  | .audioTx h flow follows index map => execAudioTx h flow follows index map s
  | .audioStatus h id => execAudioStatus h id s
  | .headConfig h p => execHeadConfig h p s
  | .headUnconfig h head => execHeadUnconfig h head s
  | .headStart h head => execHeadStart h head s
  | .headStop h head => execHeadStop h head s
  | .headSr h p => execHeadSr h p s
  | .headPicture h p => execHeadPicture h p s
  | .headGate h p => execHeadGate h p s
  | .warmupEnd h head => execWarmupEnd h head s
  | .headStatus h head => execHeadStatus h head s
  | .panelWindup h head => execPanelWindup h head s
  | .panelPowerdown h head => execPanelPowerdown h head s
  | .powerSeqSet h p => execPowerSeqSet h p s
  | .driverSet h p => execDriverSet h p s
  | .driverRetrain h driver => execDriverRetrain h driver s
  | .tableLoad h head table index buffer => execTableLoad h head table index buffer s
  | .settingsLoad h p => execSettingsLoad h p s
  | .activate h head => execActivate h head s
  | .muraSwap h head base => execMuraSwap h head base s
  | .panelStatus h head => execPanelStatus h head s
  | .vcomSet h p => execVcomSet h p s
  | .ledgerSet h head allowed warmTime warmCode => execLedgerSet h head allowed warmTime warmCode s
  | .ledgerStats h head => execLedgerStats h head s
  | .ledgerSnapshot h head frame buffer size => execLedgerSnapshot h head frame buffer size s
  | .ledgerTableRead h head table first rows buffer => execLedgerTableRead h head table first rows buffer s
  | .ledgerClear h head => execLedgerClear h head s
  | .viewSet h p => execViewSet h p s
  | .viewClear h head mode => execViewClear h head mode s
  | .viewTest h p => execViewTest h p s
  | .checkSet h p => execCheckSet h p s
  | .checkRead h head check => execCheckRead h head check s
  | .pairSet h enable prefer auto port => execPairSet h enable prefer auto port s
  | .pairHandover h => execPairHandover h s
  | .pairRejoin h => execPairRejoin h s
  | .pairStatus h => execPairStatus h s
  | .nvsRead h page offset count => execNvsRead h page offset count s
  | .nvsWrite h page offset data => execNvsWrite h page offset data s
  | .recordRead h id => execRecordRead h id s
  | .recordWrite h id data => execRecordWrite h id data s
  | .counterRead h c => execCounterRead h c s
  | .pdSet h domain state => execPdSet h domain state s
  | .opSet h op => execOpSet h op s
  | .yoyoSet h p => execYoyoSet h p s
  | .powerStatus h => execPowerStatus h s
  | .tileRead h index count => execTileRead h index count s
  | .engineCounters h cluster => execEngineCounters h cluster s
  | .memInject h memory addr bits => execMemInject h memory addr bits s
  | _ => .next s

/-- Runs a command. -/
def State.runCommand (s : State) (i : Instr) : State := nextOr s (meaningOf i s)

/-- A command that waited goes on with the acceptance number that it has (R25, R265, R488). -/
def State.resume (s : State) (r : Running) : State :=
  let no := s.cp.acceptNo
  let s := { s with cp := { s.cp with running := s.cp.running.filter (fun x => x.acceptNo != r.acceptNo), acceptNo := r.acceptNo } }
  let s := s.runCommand r.cmd
  { s with cp := { s.cp with acceptNo := no } }

/-- Whether an opcode may carry TIMED (mark T of the reference). -/
def mayTime (op : Nat) : Bool :=
  [0x0206, 0x0501, 0x0601, 0x0603, 0x0701, 0x0703, 0x0704, 0x0706, 0x0808, 0x0809, 0x0A01, 0x0A02, 0x0B01].contains op

/-- A packet with a launch time put into it: TIMED is set and the parameters move behind the launch time (R482). -/
def timedPacket (bs : List Byte) (t : Nat) : List Byte :=
  if bit (fieldAt bs 8 4) 0 then bs
  else
    let n := lengthOf bs + 3
    leBytes 2 (opOf bs) ++ leBytes 2 n ++ sliceBytes bs 4 4 ++ leBytes 4 (fieldAt bs 8 4 + 1) ++ sliceBytes bs 12 4 ++ timeBytes t ++ bs.drop 16

/-- A command that fails the tests of form. -/
def State.badPacket (s : State) (src : Nat) (bs : List Byte) (status : Nat) : State := rejectCmd (hdrOf src bs) (opOf bs) status [] s

/-- Reads a packet and runs the command that it spells. -/
def State.runPacket (s : State) (src : Nat) (bs : List Byte) : State :=
  match readPacket src bs with
  | .inl st => s.badPacket src bs st
  | .inr i => s.runCommand i

end Sys2Proof.Machine
end

