-- ==== Sys2Proof/Machine/PairCmd.lean ====
section
/-! DEFINITION. Commands between the devices of a pair (R454, R455): what the active forwards and what the standby does with it. -/

namespace Sys2Proof.Machine

/-- The central-store ranges that a command reads: table buffers, graphics buffers, mura planes (R454, R455). -/
def State.cmdRanges (s : State) (i : Instr) : List (Nat × Nat) :=
  match i with
  | .headPicture _ p => if p.lutBuffer = 0 then [] else [(p.lutBuffer, 30726)]
  | .outputSet _ p => if p.lutBuffer = 0 then [] else [(p.lutBuffer, 30726)]
  | .layerCoef _ _ axis auto buffer => if auto = 1 then [] else [(buffer, if axis = 0 then 1024 else 768)]
  | .tableLoad _ _ table _ buffer => [(buffer, tableBytes table)]
  | .layerPresent _ p => [(p.base, p.pitch * p.height)]
  | .muraSwap _ head base => [(base, muraBytes (s.head head))]
  | _ => []

/-- The input CRC of a command (R300, R454). -/
def State.cmdCrc (s : State) (i : Instr) : Nat := crc32 ((s.cmdRanges i).flatMap (fun r => readBytes s.mem.store r.1 r.2))

/-- Whether a command takes a launch time that it does not carry: HEAD_CONFIG does so only for a configured head. -/
def State.takesLaunch (s : State) (op : Nat) (i : Instr) : Bool :=
  mayTime op && (match i with | .headConfig _ p => (s.head p.head).cfg.isSome | _ => true)

/-- A packet with the launch time that the pair gives it (R454). -/
def State.launchPacket (s : State) (bs : List Byte) (i : Instr) (t : Nat) : List Byte :=
  if s.takesLaunch (opOf bs) i then timedPacket bs t else bs

/-- Holds a reply until the message sent last is acknowledged (R454). -/
def State.holdReply (s : State) (r : Reply) : State :=
  match s.pair.sent.getLast? with
  | some m => { s with pair := { s.pair with sent := s.pair.sent.dropLast ++ [{ m with reply := some r }] } }
  | none => { s with cp := { s.cp with replies := s.cp.replies ++ [r] } }

/-- The active runs a command of the groups FLOW to AUDIO and forwards it where it accepts it (R454). -/
def State.runForward (s : State) (src : Nat) (bs : List Byte) (i : Instr) : State :=
  let h := hdrOf src bs
  let t := if h.timed then unitsOf h.launch else s.tp + usU 200
  let body := timeBytes t ++ leBytes 4 (s.cmdCrc i) ++ bs
  let s1 := s.runPacket src (s.launchPacket bs i t)
  let n := s.cp.replies.length
  match s1.cp.replies[n]? with
  | some r =>
    if r.status ≠ stOk ∧ r.status ≠ stAccepted then s1
    else
      let rest := s1.cp.replies.take n ++ s1.cp.replies.drop (n + 1)
      ((({ s1 with cp := { s1.cp with replies := rest } } : State).sendMsg 0x07 body)).holdReply r
  | none => if s1.cp.acceptNo = s.cp.acceptNo then s1 else s1.sendMsg 0x07 body

/-- A packet from a ring or the mailbox is accepted (R454, R475). -/
def State.acceptPacket (s : State) (src : Nat) (bs : List Byte) : State :=
  match readPacket src bs with
  | .inl st => s.badPacket src bs st
  | .inr i => if s.pairActive && pairGroup (opOf bs) then s.runForward src bs i else s.runCommand i

/-- CMD (R454): the standby applies a forwarded command, or reports PAIR_CONFIG_MISMATCH where it refuses it or its bytes differ. -/
def execCmd (launch crc : Nat) (packet : List Byte) (s : State) : Host.Outcome State Fault Refusal :=
  .next (
    if !s.standby || !s.pair.linkUp then s else
    let s := s.ackMsg
    match readPacket fromPair packet with
    | .inl _ => (s.pairPost 0xE093 0 0).unsync
    | .inr i => if s.cmdCrc i ≠ crc then (s.pairPost 0xE093 0 0).unsync else s.runPacket fromPair (s.launchPacket packet i launch))

end Sys2Proof.Machine
end

