-- ==== Sys2Proof/Machine/Rings.lean ====
section
/-! DEFINITION. Rings, mailbox and management port (R470 to R480, R485, R488, R492, R506 to R511): packets are accepted, replies and events
written, messages signalled. -/

namespace Sys2Proof.Machine

/-! ## Slots -/

/-- SRAM address of the slot of an index (R471). -/
def Ring.slotAt (r : Ring) (i : Nat) : Nat := r.base + 64 * (i % r.size)

/-- Slots that a packet of a LENGTH takes (R473); a LENGTH outside 4 to 256 counts as one slot (DESIGN CHOICE). -/
def slotsOf (length : Nat) : Nat := if length < 4 ∨ 256 < length then 1 else ceilDiv length 16

/-- Reads `n` slots from index `i`, wrapping past the ring's end. -/
def State.readSlots (s : State) (r : Ring) (i n : Nat) : List Byte × Bool × State :=
  (List.range n).foldl (fun acc j =>
    let (bs, bad, s) := acc.2.2.readMem 1 (r.slotAt (i + j)) 64
    (acc.1 ++ bs, acc.2.1 || bad, s)) ([], false, s)

/-- Writes a packet into slots from index `i`, the last slot filled up with zero bytes. -/
def State.writeSlots (s : State) (r : Ring) (i : Nat) (bs : List Byte) : State :=
  (List.range (ceilDiv bs.length 64)).foldl (fun s j => s.putMem 1 (r.slotAt (i + j)) (sliceBytes bs (64 * j) 64)) s

/-- A vector is to be signalled after a PI advance (R479, R480). -/
def State.signal (s : State) (v : Nat) : State :=
  if s.cp.msiDue.contains v then s else { s with cp := { s.cp with msiDue := s.cp.msiDue ++ [v] } }

/-- Advances the PI of a ring that the device writes. -/
def State.advancePi (s : State) (r n v : Nat) : State :=
  (s.setRing r { s.ring r with pi := ((s.ring r).pi + n) % 2 ^ 32 }).signal v

/-! ## Acceptance -/

/-- Whether the command processor runs: firmware is up, CTL is on, no reset of it is in progress. -/
def State.cpRuns (s : State) : Bool := s.sys.ready && s.pdOn 0 && !s.resetting 0x63

/-- Whether a source still owes the reply of a command (R476). -/
def State.owes (s : State) (src : Nat) : Bool :=
  s.cp.running.any (fun r => r.src == src) || s.cp.replies.any (fun r => r.src == src) ||
    s.pair.sent.any (fun m => match m.reply with | some r => r.src == src | none => false)

/-- Whether any command accepted has not replied (R477). -/
def State.anyOwed (s : State) : Bool := [0, 1, 2, 3, 4].any (fun r => s.owes r)

/-- LENGTH in the header at a command ring's CI. -/
def State.nextLength (s : State) (r : Ring) : Nat := leNat (readBytes s.mem.sram (r.slotAt r.ci + 2) 2)

/-- Whether a header allows acceptance under FENCE (R477). -/
def State.fenceOk (s : State) (flags : Nat) : Bool := !bit flags 2 || !s.anyOwed

/-- Whether command ring r has a packet that may be accepted (R472 to R477, R608). -/
def State.ringReady (s : State) (r : Nat) : Bool :=
  let x := s.ring r
  let y := s.ring (r + 4)
  s.cpRuns && x.enable && !s.owes r && y.enable && decide (y.used < y.size) && decide (0 < x.used) &&
    decide (slotsOf (s.nextLength x) ≤ x.used) && s.fenceOk (leNat (readBytes s.mem.sram (x.slotAt x.ci + 8) 4))

/-- The packet in the mailbox. -/
def State.mbxPacket (s : State) : List Byte := readBytes s.mbx.buf 0 1024

/-- Whether the mailbox's packet may be accepted: the management core's groups at any time, others while the command processor runs (R505,
R508, R509). -/
def State.mbxReady (s : State) : Bool :=
  s.mbx.state == 1 && !s.mbx.taken && (mgtOpcode (opOf s.mbxPacket) || s.cpRuns) && s.fenceOk (fieldAt s.mbxPacket 8 4)

/-- Whether a source is ready; 4 is the mailbox. -/
def State.sourceReady (s : State) (src : Nat) : Bool := if src < 4 then s.ringReady src else s.mbxReady

/-- One packet is taken from a source and accepted. A SILENT mailbox command that has no reply leaves the mailbox EMPTY (DESIGN CHOICE). -/
def State.takeFrom (s : State) (src : Nat) : State :=
  let s := { s with cp := { s.cp with turn := (src + 1) % 5 } }
  if src < 4 then
    let x := s.ring src
    let n := slotsOf (s.nextLength x)
    let (bs, bad, s) := s.readSlots x x.ci n
    let s := s.setRing src { x with ci := (x.ci + n) % 2 ^ 32, last := x.ci }
    if bad then s.failCmd (hdrOf src bs) (opOf bs) else s.acceptPacket src bs
  else
    let s := ({ s with mbx := { s.mbx with taken := true } } : State).acceptPacket 4 s.mbxPacket
    if s.owes 4 then s else { s with mbx := { s.mbx with state := 0, taken := false } }

/-- COMMAND_ACCEPT (R425, R454, R472 to R477, R487): the next source in turn that has a complete packet gives one command. -/
def execCommandAccept (s : State) : Host.Outcome State Fault Refusal :=
  .next (match ((List.range 5).map (fun i => (s.cp.turn + i) % 5)).find? (fun src => s.sourceReady src) with
    | some src => s.takeFrom src
    | none => s)

/-! ## Replies -/

/-- The bytes of a reply (R485). -/
def replyBytes (r : Reply) : List Byte :=
  let words := 4 + ceilDiv r.params.length 4
  leBytes 2 r.opcode ++ leBytes 2 words ++ leBytes 4 r.tag ++ leBytes 2 r.status ++ leBytes 2 (b2n r.mgt) ++ leBytes 4 r.acceptNo ++
    sliceBytes r.params 0 (4 * (words - 4))

/-- REPLY_WRITE (R474, R476, R478, R479, R485, R508): the oldest reply of a source goes into its reply ring, or for 4 into the mailbox. -/
def execReplyWrite (ring : Nat) (s : State) : Host.Outcome State Fault Refusal :=
  .next (match s.cp.replies.find? (fun r => r.src == ring) with
    | none => s
    | some r =>
      let bs := replyBytes r
      let s' := { s with cp := { s.cp with replies := s.cp.replies.erase r } }
      if ring < 4 then
        let y := s.ring (ring + 4)
        let n := ceilDiv bs.length 64
        if !s.pdOn 0 || !y.enable || decide (y.size < y.used + n) then s
        else (s'.writeSlots y y.pi bs).advancePi (ring + 4) n ring
      else { s' with mbx := { s'.mbx with state := 2, taken := false, reply := bs } })

/-- COMMAND_TIMEOUT (R488): a command of a source that has waited on the store or on an NVS commit is answered TIMEOUT. -/
def execCommandTimeout (src : Nat) (s : State) : Host.Outcome State Fault Refusal :=
  .next (match s.cp.running.find? (fun r => r.src == src &&
      (r.waitsStore || ((r.opcode == 0x0E02 || r.opcode == 0x0E04) && s.nvs.commit.isSome))) with
    | some r => s.finish r stTimeout []
    | none => s)

/-! ## Events -/

/-- The 64 bytes of an event (R492). -/
def eventBytes (e : Event) (seq : Nat) (lost : Bool) : List Byte :=
  let words := 8 + ceilDiv e.payload.length 4
  leBytes 2 e.code ++ leBytes 2 words ++ leBytes 4 seq ++ timeBytes e.time ++ leBytes 2 e.gen ++ leBytes 1 e.origin ++ leBytes 1 (b2n lost) ++
    leBytes 4 e.object ++ leBytes 4 0 ++ sliceBytes e.payload 0 32

/-- An event goes into the event ring, or is discarded and counted (R474, R608). -/
def State.toRing (s : State) (e : Event) (seq vector : Nat) : State :=
  let y := s.ring 8
  if y.enable && decide (y.used < y.size) then
    let s := s.writeSlots y y.pi (eventBytes e seq s.cp.lost)
    ({ s with cp := { s.cp with lost := false } } : State).advancePi 8 1 vector
  else { s with cp := { s.cp with lost := true, evLost := inc32 s.cp.evLost } }

/-- An event joins the management port's queue of 64, or is lost and counted (R506, R510). -/
def State.toMgt (s : State) (e : Event) (seq : Nat) : State :=
  if s.mbx.events.length < 64 then
    { s with mbx := { s.mbx with events := s.mbx.events ++ [eventBytes e seq s.mbx.lostFlag], lostFlag := false } }
  else { s with mbx := { s.mbx with lost := satInc 31 s.mbx.lost, lostFlag := true } }

/-- EVENT_POST (R474, R478, R479, R484, R492, R493, R510): the oldest event that has occurred is posted; an event code that EVENT_CTL has
disabled is not. -/
def execEventPost (s : State) : Host.Outcome State Fault Refusal :=
  .next (match s.cp.events with
    | [] => s
    | e :: rest =>
      if !s.pdOn 0 then s else
      let r := spGet s.cp.routes {} e.code
      let s := { s with cp := { s.cp with events := rest } }
      if r.off then s else
      let seq := s.cp.evSeq
      let s := { s with cp := { s.cp with evSeq := inc32 seq } }
      let s := s.toRing e seq r.vector
      if r.mgt then s.toMgt e seq else s)

/-- MSI_X_MESSAGE (R479, R480, R493): at most one message per vector within its moderation time. -/
def execMsiXMessage (vector : Nat) (s : State) : Host.Outcome State Fault Refusal :=
  let last := spGet s.cp.msiSent 0 vector
  let now := s.timeRegs.ticks + 1
  .next (
    if !s.cp.msiDue.contains vector || !s.sys.pcieUp || (last != 0 && decide (now < last + 800 * spGet s.cp.msiMod 0 vector)) then s
    else { s with cp := { s.cp with msiDue := s.cp.msiDue.filter (fun v => v != vector), msiSent := spSet 0 s.cp.msiSent vector now } })

/-! ## The management port -/

/-- MBX_WRITE (R506, R508). -/
def execMbxWrite (offset : Nat) (data : List Byte) (s : State) : Host.Outcome State Fault Refusal :=
  .next (if s.mbx.state = 1 then s else
    { s with mbx := { s.mbx with state := 0, buf := writeBytes s.mbx.buf offset (data.take (1024 - offset)) } })

/-- MBX_SUBMIT (R506, R508). -/
def execMbxSubmit (s : State) : Host.Outcome State Fault Refusal :=
  .next (if s.mbx.state = 1 then s else { s with mbx := { s.mbx with state := 1, taken := false } })

/-- MBX_READ (R506): reply bytes from an offset. -/
def execMbxRead (offset count : Nat) (s : State) : Host.Outcome State Fault Refusal :=
  .next (s.say (sliceBytes s.mbx.reply offset count))

/-- EVT_READ (R506, R510): the oldest queued event; what an empty queue returns no rule gives. -/
def execEvtRead (s : State) : Host.Outcome State Fault Refusal :=
  .next (match s.mbx.events with
    | e :: rest => ({ s with mbx := { s.mbx with events := rest } } : State).say e
    | [] => let (x, s) := s.drawNat; s.say (leBytes 64 x))

/-- STATUS (R506): one byte; the count of lost events is cleared. -/
def execStatus (s : State) : Host.Outcome State Fault Refusal :=
  .next (({ s with mbx := { s.mbx with lost := 0 } } : State).say
    (leBytes 1 (s.mbx.state + 4 * b2n (!s.mbx.events.isEmpty) + 8 * s.mbx.lost)))

/-- MAILBOX_TIMEOUT (R488, R509): a command that the management core does not serve has waited 100 ms for the command processor. -/
def execMailboxTimeout (s : State) : Host.Outcome State Fault Refusal :=
  .next (
    let bs := s.mbxPacket
    if s.mbx.state != 1 || s.mbx.taken || mgtOpcode (opOf bs) then s
    else ({ s with mbx := { s.mbx with taken := true } } : State).reply { (hdrOf 4 bs) with silent := false } (opOf bs) stTimeout noAccept false [])

/-- MGT_ADDRESS_MATCH (R511, R584, R636, R644): the strap address wakes the management core and is acknowledged, any other is neither. -/
def execMgtAddressMatch (addr : Nat) (s : State) : Host.Outcome State Fault Refusal :=
  .next (
    if s.sys.aonReset || addr != 0x58 + s.sys.maddr then { s with answer := { acked := false } }
    else { s with sys := { s.sys with mgtAwake := true }, answer := {} })

end Sys2Proof.Machine
end

