-- ==== Sys2Proof/Machine/Memory.lean ====
section
/-! DEFINITION. The memories as the host and the bus matrix reach them: BAR2, BAR4, the control address map, the aliases, the windows, error
responses and scrubbing (R24, R25, R41, R174, R192, R270, R520 to R537, R540, R546, R572, R622, R660). -/

namespace Sys2Proof.Machine

/-! ## Error responses -/

/-- An error response of the bus matrix is captured while ERR_VALID is clear (R525, R622). -/
def State.capture (s : State) (addr : Nat) (write : Bool) (cause target master : Nat) : State :=
  if s.fab.errValid then s
  else { s with fab := { s.fab with
    errValid := true, errAddr := addr, errInfo := 4096 * b2n write + 256 * cause + 16 * target + master } }

/-- An error response for an uncorrectable word, whose CAUSE no rule gives. -/
def State.captureWord (s : State) (addr : Nat) (write : Bool) (target master : Nat) : State :=
  let (x, s) := s.drawNat
  s.capture addr write (x % 16) target master

/-- A posted write that meets an error is discarded and counted (R525, R660). -/
def State.dropPosted (s : State) : State := { s with fab := { s.fab with postedDrop := inc32 s.fab.postedDrop } }

/-- All-ones data. -/
def onesBytes (n : Nat) : List Byte := List.replicate n 0xFF

/-- A read that answers all-ones without an error on the link. -/
def State.sayOnes (s : State) (n : Nat) : State := s.say (onesBytes n)

/-- A read that answers data, poisoned where a word was uncorrectable (R536). -/
def State.sayData (s : State) (bs : List Byte) (bad : Bool) : State := { s with answer := { bytes := bs, poisoned := bad } }

/-! ## The central store -/

/-- Whether a range reaches into another. -/
def meets (a n b m : Nat) : Bool := decide (a < b + m ∧ b < a + n)

/-- The tile-record region as bytes (R191, R192): the current records. -/
def State.recordBytes (s : State) (a n : Nat) : List Byte :=
  (List.range n).map (fun i =>
    let o := a + i - tileRegion
    (s.tileRecord (o / 64)).getD (o % 64) 0)

/-- Bytes of the central store: the tile-record region, else its cells. Answers the bytes, whether a word was uncorrectable, the state. -/
def State.readStore (s : State) (a n : Nat) : List Byte × Bool × State :=
  if tileRegion ≤ a then (s.recordBytes a n, false, s) else s.readMem 0 a n

/-- Whether a write touches the panel state of a configured head (R269, R270). -/
def State.hitsPanel (s : State) (a n : Nat) : Bool :=
  headNums.any (fun k => let h := s.head k; match h.cfg with | some c => meets a n c.psBase (1024 * (h.tw * h.th)) | none => false)

/-- Whether a window access reaches the device (R41, R525, R572): writes while CTL is not on are counted. -/
def State.windowOpen (s : State) : Bool := s.sys.ready && s.pdOn 0

/-- A window write that does not reach the device. -/
def State.windowDrop (s : State) : State :=
  if s.sys.ready then { s with sys := { s.sys with winDrop := inc32 s.sys.winDrop } } else s

/-- BAR2_WRITE (R24, R25, R41, R174, R192, R270, R525, R660). -/
def execBar2Write (addr : Nat) (data : List Byte) (s : State) : Host.Outcome State Fault Refusal :=
  let n := data.length
  .next (
    if !s.windowOpen then s.windowDrop
    else if !s.storeOn || decide (storeSize < addr + n) then s
    else if meets addr n tileRegion (storeSize - tileRegion) then { s with mem := { s.mem with tqDrop := inc32 s.mem.tqDrop } }
    else if s.hitsPanel addr n then { s with mem := { s.mem with psDrop := inc32 s.mem.psDrop } }
    else
      let (ok, s) := s.guardedWrite addr data
      if ok then s else (s.captureWord addr true 4 5).dropPosted)

/-- BAR2_READ (R24, R25, R41, R192, R270, R525, R536). -/
def execBar2Read (addr len : Nat) (s : State) : Host.Outcome State Fault Refusal :=
  .next (
    if !s.windowOpen || !s.storeOn || decide (storeSize < addr + len) then s.sayOnes len
    else let (bs, bad, s) := s.readStore addr len; s.sayData bs bad)

/-! ## The on-chip SRAM -/

/-- Whether every bank that a range touches is on. -/
def State.banksOn (s : State) (a n : Nat) : Bool :=
  n == 0 || (List.range (bankOf (a + n - 1) + 1 - bankOf a)).all (fun i => s.bankState (bankOf a + i) == 0)

/-- Bytes of the SRAM: banks 32 to 55 hold caches and tables whose layout no rule gives. -/
def State.readSram (s : State) (a n : Nat) : List Byte × Bool × State :=
  let (bs, bad, s) := s.readMem 1 a n
  (((List.range n).zip bs).map (fun x =>
    let b := bankOf (a + x.1)
    if 32 ≤ b ∧ b < 56 then Config.unusedByte 0 (a + x.1) else x.2), bad, s)

/-- BAR4_WRITE (R41, R525, R529, R660). -/
def execBar4Write (offset : Nat) (data : List Byte) (s : State) : Host.Outcome State Fault Refusal :=
  .next (
    if !s.windowOpen then s.windowDrop
    else if offset < 0x300000 ∨ 0x400000 < offset + data.length then { s with mem := { s.mem with bar4Drop := inc32 s.mem.bar4Drop } }
    else
      let (ok, s) := s.writeMem 1 offset data
      if ok then s else (s.captureWord (0x10000000 + offset) true 1 5).dropPosted)

/-- BAR4_READ (R41, R525, R529, R534, R536): a bank that is not on is not woken. -/
def execBar4Read (offset len : Nat) (s : State) : Host.Outcome State Fault Refusal :=
  .next (
    if !s.windowOpen || decide (sramSize < offset + len) then s.sayOnes len
    else if !s.banksOn offset len then (s.capture (0x10000000 + offset) false 2 1 5).sayOnes len
    else let (bs, bad, s) := s.readSram offset len; s.sayData bs bad)

/-- Byte `i` of the word that an alias write leaves: the enabled byte's bits set or cleared (R532). -/
def aliasByte (set : Bool) (old value enables i : Nat) : Nat :=
  let o := old / 256 ^ i % 256
  let v := value / 256 ^ i % 256
  if !bit enables i then o else if set then Nat.lor o v else Nat.land o (255 - v)

/-- The word that an alias write leaves (R532). -/
def aliasWord (set : Bool) (old value enables : Nat) : Nat :=
  aliasByte set old value enables 0 + 256 * (aliasByte set old value enables 1 +
    256 * (aliasByte set old value enables 2 + 256 * aliasByte set old value enables 3))

/-- An alias write (R532, R533, R660): the word is read, checked, changed and written in one access. The Boolean says whether it was applied. -/
def State.aliasWrite (s : State) (set : Bool) (a value enables : Nat) : Bool × State :=
  let w := a / 4
  let r := s.checkWord 1 w
  if r.1 then (false, r.2) else
    (true, r.2.setCells 1 (writeBytes r.2.mem.sram (4 * w) (leBytes 4 (aliasWord set (leNat (readBytes r.2.mem.sram (4 * w) 4)) value enables))))

/-- An alias write by a master: an error response where the bank is not on or the word is uncorrectable. -/
def State.aliasBy (s : State) (set : Bool) (a value enables addr master : Nat) : State :=
  if sramSize ≤ a then s.sayError []
  else if s.bankState (bankOf a) ≠ 0 then (s.capture addr true 2 1 master).sayError []
  else
    let (ok, s) := s.aliasWrite set a value enables
    if ok then s.say [] else (s.captureWord addr true 1 master).sayError []

/-- BIT_SET_ALIAS_WRITE (R532). The master is one of the control cores, which the command does not name. -/
def execBitSetAliasWrite (offset value enables : Nat) (s : State) : Host.Outcome State Fault Refusal :=
  let (m, t) := s.drawNat
  .next (if !s.pdOn 0 then s.sayError [] else t.aliasBy true offset value enables (0x14000000 + offset) (m % 4))

/-- BIT_CLEAR_ALIAS_WRITE (R532). -/
def execBitClearAliasWrite (offset value enables : Nat) (s : State) : Host.Outcome State Fault Refusal :=
  let (m, t) := s.drawNat
  .next (if !s.pdOn 0 then s.sayError [] else t.aliasBy false offset value enables (0x18000000 + offset) (m % 4))

/-! ## The AON SRAM -/

/-- One byte of the AON SRAM: the fault log, plain memory, the saved images (R573, R628). -/
def State.aonByte (s : State) (a : Nat) : Byte :=
  if a < 0x4000 then (spGet s.log.entries [] (a / 64)).getD (a % 64) 0
  else if 0x30000 ≤ a then Config.unusedByte 2 a
  else spGet s.mem.aon 0 a

/-! ## The control address map (R520, R521) -/

/-- Where a control address leads. -/
inductive Reach where
  | rom (a : Nat)
  | sram (a : Nat)
  | aliased (set : Bool) (a : Nat)
  | regs (off : Nat)
  | nvs (a : Nat)
  | aon (a : Nat)
  | tiles
  | store (a : Nat)
  | host (a : Nat)
  | unmapped
  deriving DecidableEq, Repr

/-- The map of R520 for a master, with its windows (R521). -/
def reachOf (s : State) (master a : Nat) : Reach :=
  if a < 0x40000 then (if s.sys.remap then .sram a else .rom a)
  else if a < 0x400000 then (if s.sys.remap then .sram a else .unmapped)
  else if 0x0F000000 ≤ a ∧ a < 0x0F040000 then (if s.sys.remap then .rom (a - 0x0F000000) else .unmapped)
  else if 0x10000000 ≤ a ∧ a < 0x14000000 then .sram (a - 0x10000000)
  else if 0x14000000 ≤ a ∧ a < 0x18000000 then .aliased true (a - 0x14000000)
  else if 0x18000000 ≤ a ∧ a < 0x1C000000 then .aliased false (a - 0x18000000)
  else if 0x20000000 ≤ a ∧ a < 0x21000000 then .regs (a - 0x20000000)
  else if 0x21000000 ≤ a ∧ a < 0x21040000 then .nvs (a - 0x21000000)
  else if 0x22000000 ≤ a ∧ a < 0x22040000 then .aon (a - 0x22000000)
  else if 0x23000000 ≤ a ∧ a < 0x23010000 then .tiles
  else if 0x40000000 ≤ a ∧ a < 0x80000000 then .store (spGet s.fab.storeWin 0 master * 2 ^ 30 + (a - 0x40000000))
  else if 0x80000000 ≤ a ∧ a < 0x100000000 then
    .host (spGet s.fab.hostHi 0 master * 2 ^ 32 + spGet s.fab.hostLo 0 master + (a - 0x80000000))
  else .unmapped

/-- The target index of a reach (R522); an unmapped address has none, and 0 stands in its error capture (DESIGN CHOICE). -/
def Reach.target (r : Reach) : Nat :=
  match r with
  | .rom _ => 0 | .sram _ => 1 | .aliased _ _ => 1 | .regs _ => 2 | .nvs _ => 3 | .store _ => 4 | .aon _ => 5 | .host _ => 6 | .tiles => 7
  | .unmapped => 0

/-- An error response to a matrix transaction. -/
def State.matrixError (s : State) (p : MatrixP) (cause target : Nat) : State := (s.capture p.addr p.write cause target p.master).sayError []

/-- An uncorrectable word met by a matrix transaction (R536). -/
def State.matrixWord (s : State) (p : MatrixP) (target : Nat) : State := (s.captureWord p.addr p.write target p.master).sayError []

/-- A matrix read of `n` bytes. -/
def State.matrixRead (s : State) (p : MatrixP) (r : Reach) (n : Nat) : State :=
  match r with
  | .rom a => s.say ((List.range n).map (fun i => Config.romByte (a + i)))
  | .sram a =>
    if !s.banksOn a n then s.matrixError p 2 1
    else let (bs, bad, s) := s.readSram a n; if bad then s.matrixWord p 1 else s.say bs
  | .aliased _ a =>
    if !s.banksOn a n then s.matrixError p 2 1
    else let (bs, bad, s) := s.readSram a n; if bad then s.matrixWord p 1 else s.say bs
  | .regs off => let (bs, s) := readRegs false (off / 4 * 4) (ceilDiv n 4) s; s.say bs
  | .nvs a => if s.nvs.commit.isSome then s else s.say (readBytes s.nvs.cells a n)
  | .aon a =>
    let (_, bad, t) := s.readMem 2 a n
    if bad then t.matrixWord p 5 else t.say ((List.range n).map (fun i => s.aonByte (a + i)))
  | .tiles => s.say ((List.range n).map (fun i => Config.unusedByte 3 (p.addr + i)))
  | .store a =>
    if !s.storeOn then s.matrixError p 2 4
    else let (bs, bad, s) := s.readStore a n; if bad then s.matrixWord p 4 else s.say bs
  | .host a =>
    let (x, s) := s.drawNat
    s.say ((List.range n).map (fun i => Config.hostByte (a + i) x))
  | .unmapped => s.matrixError p 3 0

/-- A register write through the matrix: whole registers act, a partial one is ignored and counted (R598); CC0 alone writes REMAP (R518). -/
def State.matrixRegs (s : State) (master off : Nat) (data : List Byte) : State :=
  if off % 4 ≠ 0 ∨ data.length % 4 ≠ 0 then { s with sys := { s.sys with badWrite := inc32 s.sys.badWrite } }
  else (List.range (data.length / 4)).foldl (fun s i =>
    let o := off + 4 * i
    let v := fieldAt data (4 * i) 4
    if o = 4 then (if master = 0 ∧ bit v 0 = true ∧ s.sys.accepted = true ∧ s.sys.remap = false then { s with sys := { s.sys with remap := true } } else s)
    else writeReg false o v s) s

/-- A matrix write. Writes into the boot ROM, the fault log, the saved images and the tile-queue ports change nothing (DESIGN CHOICE for what no
rule gives). -/
def State.matrixWrite (s : State) (p : MatrixP) (r : Reach) : State :=
  match r with
  | .rom _ => s.say []
  | .sram a =>
    if !s.banksOn a p.data.length then s.matrixError p 2 1
    else let (ok, s) := s.writeMem 1 a p.data; if ok then s.say [] else s.matrixWord p 1
  | .aliased set a => s.aliasBy set (a / 4 * 4) (leNat p.data * 256 ^ (a % 4)) ((2 ^ p.data.length - 1) * 2 ^ (a % 4)) p.addr p.master
  | .regs off => (s.matrixRegs p.master off p.data).say []
  | .nvs _ =>
    if p.master = 4 then s.say []
    else ({ s with nvs := { s.nvs with writeDrop := inc32 s.nvs.writeDrop } } : State).matrixError p 6 3
  | .aon a =>
    if a < 0x4000 ∨ 0x30000 ≤ a then s.say []
    else let (ok, s) := s.writeMem 2 a p.data; if ok then s.say [] else s.matrixWord p 5
  | .tiles => s.say []
  | .store a =>
    if !s.storeOn then s.matrixError p 2 4
    else
      let (ok, s) := if p.master = 6 then s.guardedWrite a p.data else s.writeMem 0 a p.data
      if ok then s.say [] else s.matrixWord p 4
  | .host _ => s.say []
  | .unmapped => s.matrixError p 3 0

/-- MATRIX_TRANSACTION (R512, R520 to R527, R531, R534, R536, R540, R546, R572, R622, R660): one transaction of up to 64 bytes of a master of
the control map; PCI Express inbound has its own commands. A debug port that is locked issues none but to registers, which answer it with
an error. A read of the NVS array waits while a commit runs. -/
def execMatrixTransaction (p : MatrixP) (s : State) : Host.Outcome State Fault Refusal :=
  let r := reachOf s p.master p.addr
  .next (
    if p.master > 7 || p.master == 5 || decide (64 < p.len) || decide (64 < p.data.length) then s
    else if !s.pdOn 0 then (if p.master = 4 then s.sayError [] else s)
    else if p.master == 7 && s.sys.debugLocked then (if r.target = 2 then s.matrixError p 4 2 else s)
    else if p.write then s.matrixWrite p r else s.matrixRead p r p.len)

/-- MATRIX_TIMEOUT (R525, R546, R622): the target has not completed in time; an NVS read that a commit holds up ends with cause 7. -/
def execMatrixTimeout (p : MatrixP) (s : State) : Host.Outcome State Fault Refusal :=
  let r := reachOf s p.master p.addr
  .next (
    if p.master > 7 || !s.pdOn 0 then s
    else
      let s := s.matrixError p (if r.target = 3 && s.nvs.commit.isSome then 7 else 1) r.target
      if p.master == 5 && p.write then s.dropPosted else s)

/-- NVS_WINDOW_WRITE (R540): a write from any master but MGT. -/
def execNvsWindowWrite (master offset : Nat) (data : List Byte) (s : State) : Host.Outcome State Fault Refusal :=
  .next (
    if master > 7 || master == 4 || !s.pdOn 0 then s
    else ({ s with nvs := { s.nvs with writeDrop := inc32 s.nvs.writeDrop } } : State).matrixError
      { master := master, addr := 0x21000000 + offset, write := true, len := data.length, data := data } 6 3)

/-! ## Scrubbing -/

/-- The store address of a stack's 64-byte unit (R24). -/
def patrolAt (stack u : Nat) : Nat := (2 * (u / 64) + stack) * 4096 + u % 64 * 64

/-- SCRUB (R534 to R537): units 0 to 511 are the bank scrubbers, 512 and 513 the patrol scrubbers of MEMA and MEMB. -/
def execScrub (unit : Nat) (s : State) : Host.Outcome State Fault Refusal :=
  let u := spGet s.mem.scrubPos 0 unit
  let step := fun (s : State) (n : Nat) => { s with mem := { s.mem with scrubPos := spSet 0 s.mem.scrubPos unit ((u + 1) % n) } }
  .next (
    if unit < 512 then
      (if s.bankState unit ≠ 0 ∨ s.sys.planesHeld = true then s else step (s.checkWord 1 (32768 * unit + u)).2 32768)
    else if unit < 514 then
      (if !s.pdOn (unit - 503) || s.sys.planesHeld then s
       else step ((List.range 16).foldl (fun s i => (s.checkWord 0 (patrolAt (unit - 512) u / 4 + i)).2) s) (2 ^ 28))
    else s)

end Sys2Proof.Machine
end

