-- ==== Sys2Proof/Machine/NetTx.lean ====
section
/-! DEFINITION. Transmission (R132 to R139): when a packet falls due, what it holds, the frame it leaves in, and what becomes of one that
cannot leave. -/

namespace Sys2Proof.Machine

/-! ## Frames -/

/-- The `n` bytes of a value, most significant first, as the network standards order them. -/
def beBytes (n v : Nat) : List Byte := (leBytes n v).reverse

/-- The ones' complement of the ones' complement sum: a checksum field. -/
def checksum (bs : List Byte) : Nat := (65535 - onesSum bs % 65535) % 65536

/-- A UDP datagram with its header; over IPv6 with a computed checksum (R139). -/
def udpDatagram (l : Leg) (src sport : Nat) (body : List Byte) : List Byte :=
  let len := 8 + body.length
  let d := fun (sum : Nat) => beBytes 2 sport ++ beBytes 2 l.udp ++ beBytes 2 len ++ beBytes 2 sum ++ body
  if l.family = 6 then
    let c := checksum (pseudoHeader { family := 6, src := src, dst := l.dst, proto := 17, body := [] } len ++ d 0)
    d (if c = 0 then 65535 else c)
  else d 0

/-- An IP packet around a UDP datagram (R139). `label` is the IPv6 flow label. -/
def ipDatagram (l : Leg) (src label : Nat) (dg : List Byte) : List Byte :=
  if l.family = 6 then
    beBytes 4 (6 * 2 ^ 28 + l.dscp % 64 * 2 ^ 22 + label % 2 ^ 20) ++ beBytes 2 dg.length ++ beBytes 1 17 ++ beBytes 1 l.ttl ++ beBytes 16 src ++
      beBytes 16 l.dst ++ dg
  else
    let h := fun (sum : Nat) => beBytes 1 0x45 ++ beBytes 1 (l.dscp % 64 * 4) ++ beBytes 2 (20 + dg.length) ++ beBytes 2 0 ++ beBytes 2 0x4000 ++
      beBytes 1 l.ttl ++ beBytes 1 17 ++ beBytes 2 sum ++ beBytes 4 src ++ beBytes 4 l.dst
    h (checksum (h 0)) ++ dg

/-- An Ethernet frame with its FCS, padded to 64 bytes (R94, R139). -/
def etherFrame (l : Leg) (dst src : Nat) (pkt : List Byte) : List Byte :=
  let tag := if l.vlan = 0 then [] else beBytes 2 0x8100 ++ beBytes 2 (l.pcp % 8 * 8192 + l.vlan % 4096)
  let f := beBytes 6 dst ++ beBytes 6 src ++ tag ++ beBytes 2 (if l.family = 6 then 0x86DD else 0x0800) ++ pkt
  let f := f ++ List.replicate (60 - f.length) 0
  f ++ leBytes 4 (crc32 f)

/-- The port's own address of a family (R99). -/
def Port.source (p : Port) (family : Nat) : Nat := if family = 6 then (p.ip6.find? (fun a => a != 0)).getD 0 else p.ip4

/-- The frame that carries an RTP packet of transmit flow `id` on a leg. -/
def State.mediaFrame (s : State) (id : Nat) (l : Leg) (rtp : List Byte) : List Byte :=
  let p := s.port l.port
  let src := p.source l.family
  let dst := if isMulticast l.family l.dst then groupMac l.family l.dst else Config.txField 3 id
  etherFrame l dst p.mac (ipDatagram l src (Config.txField 4 id) (udpDatagram l src (Config.txField 0 id % 65536) rtp))

/-- An RTP packet (R134, R138): the header, then what follows it. -/
def rtpPacket (id seq ts : Nat) (marker : Bool) (rest : List Byte) : List Byte :=
  beBytes 1 0x80 ++ beBytes 1 (b2n marker * 128 + Config.txField 1 id % 128) ++ beBytes 2 seq ++ beBytes 4 ts ++
    beBytes 4 (Config.txField 2 id) ++ rest

/-- The frames that a port has sent, the newest 64 being kept. -/
def State.sendFrame (s : State) (n : Nat) (bs : List Byte) : State :=
  let p := s.port n
  let l := p.sent ++ [bs]
  s.setPort n { p with sent := l.drop (l.length - 64) }

/-- A media packet leaves on each of its legs, or is counted in TX_LINK_DOWN (R92). -/
def State.sendMedia (s : State) (kind i : Nat) (c : TxSetP) (rtp : List Byte) : State :=
  (txLegs c).foldl (fun s l =>
    let f := s.tx kind i
    if s.portSends l.port then (s.setTx kind i { f with sent := add64 f.sent 1 }).sendFrame l.port (s.mediaFrame (64 * (kind - 2) + i) l rtp)
    else s.setTx kind i { f with linkDown := add64 f.linkDown 1 }) s

/-! ## Video -/

/-- The format of an output's transmit frames. -/
def frameFormat (o : OutputSetP) : Format := { o.format with width := o.width, height := o.height, rate := o.rate, scanning := 0 }

/-- The pgroups of packet q of a row of B pgroups in P packets (R133): the first one, and how many. -/
def packetGroups (b p q : Nat) : Nat × Nat :=
  let x := b / p
  let m := b % p
  (q * x + min q m, x + b2n (decide (q < m)))

/-- The samples that `n` pgroups from group `g` of a row hold, in wire order: plane, column and line (R107, R109). -/
def groupSamples (f : Format) (row g n : Nat) : List (Nat × Nat × Nat) :=
  let (_, cols, rows) := pgroup f
  (List.range n).flatMap (fun i => (pgroupLayout f).map (fun kxy =>
    let (k, x, y) := kxy
    (k, planeCol f k ((g + i) * cols) + x, planeRow f k (row * rows) + y)))

/-- The bytes of samples of `w` bits each, most significant first. -/
def packBits (w : Nat) (vs : List Nat) : List Byte :=
  beBytes (vs.length * w / 8) (vs.foldl (fun a v => a * 2 ^ w + v % 2 ^ w) 0)

/-- The payload after the RTP header of a video packet (R132, R133, R107) and the state after its reads of the slot. -/
def State.videoPayload (s : State) (o : OutputSetP) (slot row g n seq : Nat) : List Byte × State :=
  let f := frameFormat o
  let (oct, cols, rows) := pgroup f
  let at_ := fun (x : Nat × Nat × Nat) =>
    o.bases.getD slot 0 + planeBase f x.1 + x.2.2 * pitch (planeSize f x.1).1 + 4 * (x.2.1 / 3)
  let xs := groupSamples f row g n
  let s := ((xs.map at_).eraseDups).foldl (fun s a => (s.getMem 0 a 4).2) s
  let w := if f.depth = 8 then 8 else 10
  let vs := xs.map (fun x =>
    let v := leNat (readBytes s.mem.store (at_ x) 4) / 2 ^ (10 * (x.2.1 % 3)) % 1024
    if w = 8 then v / 4 else v)
  (beBytes 2 (seq / 65536) ++ beBytes 2 (oct * n) ++ beBytes 2 (row * rows) ++ beBytes 2 (g * cols) ++ packBits w vs, s)

/-- The launch time of packet j of N of frame k in 2^-16 ns (R134), to nearest. -/
def launchTime (r : Rate) (tro k j n : Nat) : Nat :=
  epoch r k + tro + (2 * j * rateDen r * uSec * 1080 + r.n * 1125 * n) / (2 * (r.n * 1125 * n))

/-- The media clock of 90 kHz at frame epoch k, from the exact epoch (R70, R72). -/
def rtpClock (r : Rate) (k : Nat) : Nat := k * rateDen r * 90000 / r.n

/-- Half a tick in 2^-16 ns: a packet leaves on the nearest tick (R135). -/
abbrev halfTick : Nat := 40960

/-- The transmit flow goes on to its next packet or frame. -/
def TxFlow.next (f : TxFlow) (n : Nat) : TxFlow :=
  let f := { f with seq := (f.seq + 1) % 2 ^ 32 }
  if f.packet + 1 < n then { f with packet := f.packet + 1 } else { f with packet := 0, frame := f.frame + 1 }

/-- The slot that frame k of an output is sent from (R137): its own, else that of the previous complete frame. -/
def Output.sendSlot (o : Output) (k : Nat) : Option (Nat × Bool) :=
  match o.done.find? (fun x => x.1 == k) with
  | some x => some (x.2, false)
  | none => ((o.done.filter (fun x => decide (x.1 < k))).getLast?).map (fun x => (x.2, true))

/-- Packet 0 of a frame falls due (R137): its slot is fixed, or the frame passes with nothing to send. -/
def State.txBegin (s : State) (i : Nat) : State :=
  let f := s.tx 3 i
  if f.packet ≠ 0 then s else
  match (s.output i).sendSlot f.frame with
  | some (slot, again) => s.setTx 3 i { f with sending := slot, repeating := again, repeats := if again then add64 f.repeats 1 else f.repeats }
  | none => s.setTx 3 i { f with frame := f.frame + 1 }

/-- The packet due next of a video transmit flow leaves, or is discarded as TX_LATE (R134 to R137). -/
def State.txVideo (s : State) (i : Nat) (c : TxSetP) (o : OutputSetP) : State :=
  let fmt := frameFormat o
  let n := framePackets fmt (udpLimit c)
  let f := s.tx 3 i
  let t := launchTime o.rate (nsU c.tro) f.frame f.packet n
  if s.tp + halfTick < t then s else
  let k := f.frame
  let s := s.txBegin i
  let f := s.tx 3 i
  if f.frame ≠ k then s
  else if launchTime o.rate (nsU c.tro) k (f.packet + 1) n + halfTick < s.tp then s.setTx 3 i { f.next n with late := add64 f.late 1 }
  else
    let p := rowPackets fmt (udpLimit c)
    let (g, m) := packetGroups (fmt.width / (pgroup fmt).2.1) p (f.packet % p)
    let seq := (f.seq + Config.txField 5 (64 + i)) % 2 ^ 32
    let ts := rtpClock o.rate k % 2 ^ 32
    let (body, s) := s.videoPayload o f.sending (f.packet / p) g m seq
    let s := s.sendMedia 3 i c (rtpPacket (64 + i) (seq % 65536) ts (f.packet + 1 == n) body)
    let f := s.tx 3 i
    s.setTx 3 i { f.next n with lastRtp := ts }

/-- Whether a transmit flow runs: enabled, and not on a standby (R460). -/
def State.txRuns (s : State) (f : TxFlow) : Bool := f.enabled && !s.standby && !s.sys.planesHeld

/-- TX_PACKET_LAUNCH (R92, R132 to R137): the next packet of video transmit flow T. A flow just enabled begins with the first frame whose
launch window has not begun. -/
def execTxPacketLaunch (flow : Nat) (s : State) : Host.Outcome State Fault Refusal :=
  let f := s.tx 3 flow
  .next (
    if flow > 63 || !s.txRuns f then s else
    match f.cfg, (s.output flow).cfg with
    | some c, some o =>
      let s := if f.started then s else s.setTx 3 flow { f with started := true, packet := 0, frame := txFirst o.rate (nsU c.tro) s.tp }
      s.txVideo flow c o
    | _, _ => s)

/-! ## Audio -/

/-- The sample frames of an audio packet and its packet time in 2^-16 ns (R138). -/
def audioPacket (pt : Nat) : Nat × Nat := if pt = 0 then (48, 65536000000) else (6, 8192000000)

/-- The packet due next of an audio transmit flow leaves one packet time after its first sample, or is discarded as TX_LATE (R135, R138). -/
def State.txAudioPacket (s : State) (i : Nat) (c : TxSetP) : State :=
  let (ch, pt) := audioShape s c
  let (n, dur) := audioPacket pt
  let f := s.tx 4 i
  let t := countTime 48000 f.frame + dur
  if s.tp + halfTick < t then s
  else if t + dur < s.tp then s.setTx 4 i { f with frame := f.frame + n, seq := (f.seq + 1) % 65536, late := add64 f.late 1 }
  else
    let (body, s) := s.txPayload i ch n f.frame
    let s := s.sendMedia 4 i c (rtpPacket (128 + i) ((f.seq + Config.txField 5 (128 + i)) % 65536) (f.frame % 2 ^ 32) false body)
    let f := s.tx 4 i
    s.setTx 4 i { f with frame := f.frame + n, seq := (f.seq + 1) % 65536, lastRtp := f.frame % 2 ^ 32 }

/-- AUDIO_TX_LAUNCH (R92, R138): the next packet of audio transmit flow U. A flow just enabled begins with the first packet that starts at
or after TP; packets start at multiples of their sample count. -/
def execAudioTxLaunch (flow : Nat) (s : State) : Host.Outcome State Fault Refusal :=
  let f := s.tx 4 flow
  .next (
    if flow > 63 || !s.txRuns f then s else
    match f.cfg with
    | some c =>
      let n := (audioPacket (audioShape s c).2).1
      let s := if f.started then s else s.setTx 4 flow { f with started := true, frame := ceilDiv (s.tp * 48000 / uSec) n * n }
      s.txAudioPacket flow c
    | none => s)

end Sys2Proof.Machine
end

