-- ==== Sys2Proof/Machine/Resume.lean ====
section
/-! DEFINITION. The ends of the waits that let commands and writes go on: PD_CHANGED (R567 to R578, R582) and the end of the copy of panel
tables (R265). -/

namespace Sys2Proof.Machine

/-- Every waiting command that satisfies `p` goes on, oldest first. -/
def State.resumeAll (s : State) (p : Running → Bool) : State := (s.cp.running.filter p).foldl (fun s r => s.resume r) s

/-- ACTIVATE_COPY (R265): the copy of the new active set into the shadow set ends, and loads that waited go on. -/
def execActivateCopy (head : Nat) (s : State) : Host.Outcome State Fault Refusal :=
  .next (if head > 3 ∨ (s.head head).panel.copying = false then s else
    (s.copyEnd head).resumeAll (fun r => (r.opcode == 0x0806 || r.opcode == 0x0807) && r.object == head && !r.waitsStore))

/-- A stack that leaves for off loses its contents (R566, R570): every 4 KiB block of it reads as cleared. -/
def State.clearStack (s : State) (stack : Nat) : State :=
  { s with mem := { s.mem with
      store := s.mem.store.filter (fun x => x.1 / 4096 % 2 != stack), storeErr := s.mem.storeErr.filter (fun x => x.1 / 1024 % 2 != stack) } }

/-- What follows a domain's arrival in its new state. -/
def State.domainArrived (s : State) (d old new : Nat) : State :=
  if d = 0 then
    (if new = 0 then
      let held := s.power.heldWrites
      held.foldl (fun s w => writeReg false w.1 w.2 s) { s with power := { s.power with heldWrites := [] } }
     else s)
  else if d ≤ 8 then (if new = 0 then s.feed else (s.moveDeque (d - 1)))
  else if new = 2 then s.clearStack (d - 9)
  else if new = 0 ∧ old ≠ 0 then
    let s := if (s.yoyo thermalUnit).on then s.setYoyo thermalUnit {} else s
    if s.storeOn then s.resumeAll (fun r => r.waitsStore) else s
  else s

/-- PD_CHANGED (R425, R431, R566 to R570, R573, R574, R577, R578, R582): the transition in progress ends, those of a wind-down first. A
cluster that leaves on first lets its running items complete. -/
def execPdChanged (s : State) : Host.Outcome State Fault Refusal :=
  .next (match s.power.moves, s.power.change with
    | m :: rest, _ =>
      let s := { s with power := { s.power with moves := rest, dom := spSet 0 s.power.dom m.1 m.2.2 } }
      let s := s.post 0xE0B0 m.1 2 (leBytes 1 m.2.1 ++ leBytes 1 m.2.2)
      (s.domainArrived m.1 m.2.1 m.2.2).wakeNext
    | [], none => s
    | [], some c =>
      if 1 ≤ c.domain ∧ c.domain ≤ 8 ∧ c.target ≠ 0 ∧ (s.cluster (c.domain - 1)).running.isEmpty = false then s else
      let s := { s with power := { s.power with change := none, dom := spSet 0 s.power.dom c.domain c.target } }
      let s := s.post 0xE0B0 c.domain 2 (leBytes 1 c.old ++ leBytes 1 c.target)
      let s := match c.proc with | some p => s.procApplied p noFrame 255 | none => s
      (s.domainArrived c.domain c.old c.target).wakeNext)

end Sys2Proof.Machine
end

