-- ==== Sys2Proof/Machine/Dispatch.lean ====
section
/-! DEFINITION. Which meaning each command and event has: one arm per row of the table. -/

namespace Sys2Proof.Machine

def exec (i : Instr) (s : State) : Host.Outcome State Fault Refusal :=
  match i with
  | .nop h => Sys2Proof.Machine.execNop h s
  | .getInfo h => Sys2Proof.Machine.execGetInfo h s
  | .eventCtl h code enable vector mgt => Sys2Proof.Machine.execEventCtl h code enable vector mgt s
  | .funcReset h fn => Sys2Proof.Machine.execFuncReset h fn s
  | .logRead h first count => Sys2Proof.Machine.execLogRead h first count s
  | .domainSet h p => Sys2Proof.Machine.execDomainSet h p s
  | .domainStatus h d => Sys2Proof.Machine.execDomainStatus h d s
  | .tpConfig h p => Sys2Proof.Machine.execTpConfig h p s
  | .tpSelect h d => Sys2Proof.Machine.execTpSelect h d s
  | .tpStep h source value => Sys2Proof.Machine.execTpStep h source value s
  | .evtOutSet h p => Sys2Proof.Machine.execEvtOutSet h p s
  | .evtInSet h pin edges minPulse report => Sys2Proof.Machine.execEvtInSet h pin edges minPulse report s
  | .evtInRead h pin => Sys2Proof.Machine.execEvtInRead h pin s
  | .launchCancel h queue tag => Sys2Proof.Machine.execLaunchCancel h queue tag s
  | .quadSet h quad mode fec => Sys2Proof.Machine.execQuadSet h quad mode fec s
  | .portSet h p => Sys2Proof.Machine.execPortSet h p s
  | .portCounters h port clear => Sys2Proof.Machine.execPortCounters h port clear s
  | .portStatus h port => Sys2Proof.Machine.execPortStatus h port s
  | .flowSet h p => Sys2Proof.Machine.execFlowSet h p s
  | .flowEnable h kind index enable => Sys2Proof.Machine.execFlowEnable h kind index enable s
  | .flowCounters h kind index clear => Sys2Proof.Machine.execFlowCounters h kind index clear s
  | .flowStatus h kind index => Sys2Proof.Machine.execFlowStatus h kind index s
  | .txSet h p => Sys2Proof.Machine.execTxSet h p s
  | .routeSet h p => Sys2Proof.Machine.execRouteSet h p s
  | .outputSet h p => Sys2Proof.Machine.execOutputSet h p s
  | .routeStatus h dest => Sys2Proof.Machine.execRouteStatus h dest s
  | .layerSet h p => Sys2Proof.Machine.execLayerSet h p s
  | .layerCoef h dest axis auto buffer => Sys2Proof.Machine.execLayerCoef h dest axis auto buffer s
  | .layerPresent h p => Sys2Proof.Machine.execLayerPresent h p s
  | .leasePolicy h head policy => Sys2Proof.Machine.execLeasePolicy h head policy s
  | .leaseStatus h head => Sys2Proof.Machine.execLeaseStatus h head s
  | .audioAssoc h source flow map => Sys2Proof.Machine.execAudioAssoc h source flow map s
  | .audioHead h p => Sys2Proof.Machine.execAudioHead h p s
  | .audioTx h flow follows index map => Sys2Proof.Machine.execAudioTx h flow follows index map s
  | .audioStatus h id => Sys2Proof.Machine.execAudioStatus h id s
  | .headConfig h p => Sys2Proof.Machine.execHeadConfig h p s
  | .headUnconfig h head => Sys2Proof.Machine.execHeadUnconfig h head s
  | .headStart h head => Sys2Proof.Machine.execHeadStart h head s
  | .headStop h head => Sys2Proof.Machine.execHeadStop h head s
  | .headSr h p => Sys2Proof.Machine.execHeadSr h p s
  | .headPicture h p => Sys2Proof.Machine.execHeadPicture h p s
  | .headGate h p => Sys2Proof.Machine.execHeadGate h p s
  | .warmupEnd h head => Sys2Proof.Machine.execWarmupEnd h head s
  | .headStatus h head => Sys2Proof.Machine.execHeadStatus h head s
  | .panelWindup h head => Sys2Proof.Machine.execPanelWindup h head s
  | .panelPowerdown h head => Sys2Proof.Machine.execPanelPowerdown h head s
  | .powerSeqSet h p => Sys2Proof.Machine.execPowerSeqSet h p s
  | .driverSet h p => Sys2Proof.Machine.execDriverSet h p s
  | .driverRetrain h driver => Sys2Proof.Machine.execDriverRetrain h driver s
  | .tableLoad h head table index buffer => Sys2Proof.Machine.execTableLoad h head table index buffer s
  | .settingsLoad h p => Sys2Proof.Machine.execSettingsLoad h p s
  | .activate h head => Sys2Proof.Machine.execActivate h head s
  | .muraSwap h head base => Sys2Proof.Machine.execMuraSwap h head base s
  | .panelStatus h head => Sys2Proof.Machine.execPanelStatus h head s
  | .vcomSet h p => Sys2Proof.Machine.execVcomSet h p s
  | .ledgerSet h head allowed warmTime warmCode => Sys2Proof.Machine.execLedgerSet h head allowed warmTime warmCode s
  | .ledgerStats h head => Sys2Proof.Machine.execLedgerStats h head s
  | .ledgerSnapshot h head frame buffer size => Sys2Proof.Machine.execLedgerSnapshot h head frame buffer size s
  | .ledgerTableRead h head table first rows buffer => Sys2Proof.Machine.execLedgerTableRead h head table first rows buffer s
  | .ledgerClear h head => Sys2Proof.Machine.execLedgerClear h head s
  | .viewSet h p => Sys2Proof.Machine.execViewSet h p s
  | .viewClear h head mode => Sys2Proof.Machine.execViewClear h head mode s
  | .viewTest h p => Sys2Proof.Machine.execViewTest h p s
  | .checkSet h p => Sys2Proof.Machine.execCheckSet h p s
  | .checkRead h head check => Sys2Proof.Machine.execCheckRead h head check s
  | .pairSet h enable prefer auto port => Sys2Proof.Machine.execPairSet h enable prefer auto port s
  | .pairHandover h => Sys2Proof.Machine.execPairHandover h s
  | .pairRejoin h => Sys2Proof.Machine.execPairRejoin h s
  | .pairStatus h => Sys2Proof.Machine.execPairStatus h s
  | .nvsRead h page offset count => Sys2Proof.Machine.execNvsRead h page offset count s
  | .nvsWrite h page offset data => Sys2Proof.Machine.execNvsWrite h page offset data s
  | .recordRead h id => Sys2Proof.Machine.execRecordRead h id s
  | .recordWrite h id data => Sys2Proof.Machine.execRecordWrite h id data s
  | .counterRead h c => Sys2Proof.Machine.execCounterRead h c s
  | .pdSet h domain state => Sys2Proof.Machine.execPdSet h domain state s
  | .opSet h op => Sys2Proof.Machine.execOpSet h op s
  | .yoyoSet h p => Sys2Proof.Machine.execYoyoSet h p s
  | .powerStatus h => Sys2Proof.Machine.execPowerStatus h s
  | .tileRead h index count => Sys2Proof.Machine.execTileRead h index count s
  | .engineCounters h cluster => Sys2Proof.Machine.execEngineCounters h cluster s
  | .memInject h memory addr bits => Sys2Proof.Machine.execMemInject h memory addr bits s
  | .commandAccept => Sys2Proof.Machine.execCommandAccept s
  | .regWrite offset data => Sys2Proof.Machine.execRegWrite offset data s
  | .regRead offset count => Sys2Proof.Machine.execRegRead offset count s
  | .mbxWrite offset data => Sys2Proof.Machine.execMbxWrite offset data s
  | .mbxSubmit => Sys2Proof.Machine.execMbxSubmit s
  | .mbxRead offset count => Sys2Proof.Machine.execMbxRead offset count s
  | .evtRead => Sys2Proof.Machine.execEvtRead s
  | .status => Sys2Proof.Machine.execStatus s
  | .mailboxTimeout => Sys2Proof.Machine.execMailboxTimeout s
  | .mgtAddressMatch addr => Sys2Proof.Machine.execMgtAddressMatch addr s
  | .doorbell ring pi => Sys2Proof.Machine.execDoorbell ring pi s
  | .ringCiWrite ring ci => Sys2Proof.Machine.execRingCiWrite ring ci s
  | .ringCfgWrite ring value => Sys2Proof.Machine.execRingCfgWrite ring value s
  | .replyWrite ring => Sys2Proof.Machine.execReplyWrite ring s
  | .eventPost => Sys2Proof.Machine.execEventPost s
  | .msiXMessage vector => Sys2Proof.Machine.execMsiXMessage vector s
  | .stepValue value => Sys2Proof.Machine.execStepValue value s
  | .stepDomain value => Sys2Proof.Machine.execStepDomain value s
  | .loadA value => Sys2Proof.Machine.execLoadA value s
  | .loadB value => Sys2Proof.Machine.execLoadB value s
  | .select value => Sys2Proof.Machine.execSelect value s
  | .rateHiWrite domain value => Sys2Proof.Machine.execRateHiWrite domain value s
  | .tpSnapSecLoRead mgt => Sys2Proof.Machine.execTpSnapSecLoRead mgt s
  | .laneSlip lane value => Sys2Proof.Machine.execLaneSlip lane value s
  | .bitslipEn lane value => Sys2Proof.Machine.execBitslipEn lane value s
  | .loopback lane value => Sys2Proof.Machine.execLoopback lane value s
  | .genEn lane value => Sys2Proof.Machine.execGenEn lane value s
  | .cntClr lane value => Sys2Proof.Machine.execCntClr lane value s
  | .prbsErrRead lane => Sys2Proof.Machine.execPrbsErrRead lane s
  | .rcRead offset complete => Sys2Proof.Machine.execRcRead offset complete s
  | .chkFrameRead head check => Sys2Proof.Machine.execChkFrameRead head check s
  | .sramLoRead offset => Sys2Proof.Machine.execSramLoRead offset s
  | .blow value => Sys2Proof.Machine.execBlow value s
  | .start value => Sys2Proof.Machine.execStart value s
  | .go value => Sys2Proof.Machine.execGo value s
  | .sysPushDataWrite value => Sys2Proof.Machine.execSysPushDataWrite value s
  | .remap => Sys2Proof.Machine.execRemap s
  | .code value => Sys2Proof.Machine.execCode value s
  | .funcResetDone fn => Sys2Proof.Machine.execFuncResetDone fn s
  | .pdCtl value => Sys2Proof.Machine.execPdCtl value s
  | .opCtl value => Sys2Proof.Machine.execOpCtl value s
  | .wakeMaskWrite domain value => Sys2Proof.Machine.execWakeMaskWrite domain value s
  | .fabSel value => Sys2Proof.Machine.execFabSel value s
  | .sliceBypass target value => Sys2Proof.Machine.execSliceBypass target value s
  | .sramCtlWrite value => Sys2Proof.Machine.execSramCtlWrite value s
  | .headWm head value => Sys2Proof.Machine.execHeadWm head value s
  | .headGatePol head value => Sys2Proof.Machine.execHeadGatePol head value s
  | .registerWrite offset value enables => Sys2Proof.Machine.execRegisterWrite offset value enables s
  | .bar2Write addr data => Sys2Proof.Machine.execBar2Write addr data s
  | .bar2Read addr len => Sys2Proof.Machine.execBar2Read addr len s
  | .bar4Write offset data => Sys2Proof.Machine.execBar4Write offset data s
  | .bar4Read offset len => Sys2Proof.Machine.execBar4Read offset len s
  | .bitSetAliasWrite offset value enables => Sys2Proof.Machine.execBitSetAliasWrite offset value enables s
  | .bitClearAliasWrite offset value enables => Sys2Proof.Machine.execBitClearAliasWrite offset value enables s
  | .nvsWindowWrite master offset data => Sys2Proof.Machine.execNvsWindowWrite master offset data s
  | .matrixTransaction p => Sys2Proof.Machine.execMatrixTransaction p s
  | .matrixTimeout p => Sys2Proof.Machine.execMatrixTimeout p s
  | .scrub unit => Sys2Proof.Machine.execScrub unit s
  | .aonResetRelease maddr => Sys2Proof.Machine.execAonResetRelease maddr s
  | .recordScan => Sys2Proof.Machine.execRecordScan s
  | .perstAssert => Sys2Proof.Machine.execPerstAssert s
  | .perstRelease bootsel => Sys2Proof.Machine.execPerstRelease bootsel s
  | .pcieHotReset => Sys2Proof.Machine.execPcieHotReset s
  | .rootPllLock => Sys2Proof.Machine.execRootPllLock s
  | .boot sfdp slotA slotB => Sys2Proof.Machine.execBoot sfdp slotA slotB s
  | .ready trained => Sys2Proof.Machine.execReady trained s
  | .refclkLoss => Sys2Proof.Machine.execRefclkLoss s
  | .nrefclkLoss n => Sys2Proof.Machine.execNrefclkLoss n s
  | .pfailN => Sys2Proof.Machine.execPfailN s
  | .pfailNDeassert => Sys2Proof.Machine.execPfailNDeassert s
  | .glitch input => Sys2Proof.Machine.execGlitch input s
  | .windDown => Sys2Proof.Machine.execWindDown s
  | .wdHoldEnd head => Sys2Proof.Machine.execWdHoldEnd head s
  | .penGapEnd head => Sys2Proof.Machine.execPenGapEnd head s
  | .windDownCommits => Sys2Proof.Machine.execWindDownCommits s
  | .windDownDone => Sys2Proof.Machine.execWindDownDone s
  | .pgood head enable => Sys2Proof.Machine.execPgood head enable s
  | .panelPgLost head enable => Sys2Proof.Machine.execPanelPgLost head enable s
  | .windupFail head => Sys2Proof.Machine.execWindupFail head s
  | .claimTest head low => Sys2Proof.Machine.execClaimTest head low s
  | .vcomSettle head => Sys2Proof.Machine.execVcomSettle head s
  | .penDelay head => Sys2Proof.Machine.execPenDelay head s
  | .trainDelay head => Sys2Proof.Machine.execTrainDelay head s
  | .windupDone head therm => Sys2Proof.Machine.execWindupDone head therm s
  | .panelPowerdownDrop head => Sys2Proof.Machine.execPanelPowerdownDrop head s
  | .timeTick => Sys2Proof.Machine.execTimeTick s
  | .autoSelect => Sys2Proof.Machine.execAutoSelect s
  | .ptpMessage domain msg => Sys2Proof.Machine.execPtpMessage domain msg s
  | .syncLoss domain => Sys2Proof.Machine.execSyncLoss domain s
  | .holdoverLimit domain => Sys2Proof.Machine.execHoldoverLimit domain s
  | .evtCapture pin rising back => Sys2Proof.Machine.execEvtCapture pin rising back s
  | .evtOutPulse pin => Sys2Proof.Machine.execEvtOutPulse pin s
  | .launchEntryDue queue => Sys2Proof.Machine.execLaunchEntryDue queue s
  | .frameReceive port bytes fifoFull => Sys2Proof.Machine.execFrameReceive port bytes fifoFull s
  | .controlFrameHandle port => Sys2Proof.Machine.execControlFrameHandle port s
  | .membershipReport kind index leg => Sys2Proof.Machine.execMembershipReport kind index leg s
  | .frameClose flow => Sys2Proof.Machine.execFrameClose flow s
  | .portUp port => Sys2Proof.Machine.execPortUp port s
  | .portDown port => Sys2Proof.Machine.execPortDown port s
  | .legLost kind index leg => Sys2Proof.Machine.execLegLost kind index leg s
  | .yoyoWindow unit opens => Sys2Proof.Machine.execYoyoWindow unit opens s
  | .yoyoCompare unit => Sys2Proof.Machine.execYoyoCompare unit s
  | .yoyoMembershipReport port => Sys2Proof.Machine.execYoyoMembershipReport port s
  | .txPacketLaunch flow => Sys2Proof.Machine.execTxPacketLaunch flow s
  | .audioTxLaunch flow => Sys2Proof.Machine.execAudioTxLaunch flow s
  | .compositionStart dest => Sys2Proof.Machine.execCompositionStart dest s
  | .lossHoldEnd dest => Sys2Proof.Machine.execLossHoldEnd dest s
  | .itemRelease key => Sys2Proof.Machine.execItemRelease key s
  | .pItemLatestStart key => Sys2Proof.Machine.execPItemLatestStart key s
  | .engineFree cluster => Sys2Proof.Machine.execEngineFree cluster s
  | .steal cluster => Sys2Proof.Machine.execSteal cluster s
  | .cItemComplete key => Sys2Proof.Machine.execCItemComplete key s
  | .tItemComplete key => Sys2Proof.Machine.execTItemComplete key s
  | .pItemComplete key => Sys2Proof.Machine.execPItemComplete key s
  | .rowSkipped head frame row => Sys2Proof.Machine.execRowSkipped head frame row s
  | .latchPoint head => Sys2Proof.Machine.execLatchPoint head s
  | .muraReleased head => Sys2Proof.Machine.execMuraReleased head s
  | .activateCopy head => Sys2Proof.Machine.execActivateCopy head s
  | .thermSample head sample => Sys2Proof.Machine.execThermSample head sample s
  | .lineStart head => Sys2Proof.Machine.execLineStart head s
  | .trimInstant head samples => Sys2Proof.Machine.execTrimInstant head samples s
  | .headStall head => Sys2Proof.Machine.execHeadStall head s
  | .srEnter head => Sys2Proof.Machine.execSrEnter head s
  | .srExit head => Sys2Proof.Machine.execSrExit head s
  | .followRepeat head => Sys2Proof.Machine.execFollowRepeat head s
  | .warmupDone head => Sys2Proof.Machine.execWarmupDone head s
  | .balancingFrame head => Sys2Proof.Machine.execBalancingFrame head s
  | .park head => Sys2Proof.Machine.execPark head s
  | .headParked head => Sys2Proof.Machine.execHeadParked head s
  | .checkResult head check => Sys2Proof.Machine.execCheckResult head check s
  | .leaseReleased lease => Sys2Proof.Machine.execLeaseReleased lease s
  | .trainTimeout driver => Sys2Proof.Machine.execTrainTimeout driver s
  | .configPacket driver => Sys2Proof.Machine.execConfigPacket driver s
  | .poll group => Sys2Proof.Machine.execPoll group s
  | .report driver p good => Sys2Proof.Machine.execReport driver p good s
  | .bcTimeout driver => Sys2Proof.Machine.execBcTimeout driver s
  | .driverPacket driver port pkt => Sys2Proof.Machine.execDriverPacket driver port pkt s
  | .ld driver port => Sys2Proof.Machine.execLd driver port s
  | .discharge driver port pkt => Sys2Proof.Machine.execDischarge driver port pkt s
  | .portAbsent driver port => Sys2Proof.Machine.execPortAbsent driver port s
  | .driverConfig driver port pkt => Sys2Proof.Machine.execDriverConfig driver port pkt s
  | .eyeSample lane eyeH eyeV => Sys2Proof.Machine.execEyeSample lane eyeH eyeV s
  | .ebOvf => Sys2Proof.Machine.execEbOvf s
  | .refreshStep temps cooled => Sys2Proof.Machine.execRefreshStep temps cooled s
  | .pdChanged => Sys2Proof.Machine.execPdChanged s
  | .wake domain source lost => Sys2Proof.Machine.execWake domain source lost s
  | .vidSettle => Sys2Proof.Machine.execVidSettle s
  | .vgoodTimeout => Sys2Proof.Machine.execVgoodTimeout s
  | .vgoodLost => Sys2Proof.Machine.execVgoodLost s
  | .nvsCommitEnd => Sys2Proof.Machine.execNvsCommitEnd s
  | .counterIncrement c => Sys2Proof.Machine.execCounterIncrement c s
  | .pairLinkUp => Sys2Proof.Machine.execPairLinkUp s
  | .pairLinkDown => Sys2Proof.Machine.execPairLinkDown s
  | .heartbeat => Sys2Proof.Machine.execHeartbeat s
  | .phase frame line ns => Sys2Proof.Machine.execPhase frame line ns s
  | .retransmit mseq => Sys2Proof.Machine.execRetransmit mseq s
  | .hello p => Sys2Proof.Machine.execHello p s
  | .ack mseq => Sys2Proof.Machine.execAck mseq s
  | .nak mseq => Sys2Proof.Machine.execNak mseq s
  | .echo answered roundTrip answerTime => Sys2Proof.Machine.execEcho answered roundTrip answerTime s
  | .time tp tBase => Sys2Proof.Machine.execTime tp tBase s
  | .cmd launch crc packet => Sys2Proof.Machine.execCmd launch crc packet s
  | .latch frame band e dac temp => Sys2Proof.Machine.execLatch frame band e dac temp s
  | .latchWaitEnd => Sys2Proof.Machine.execLatchWaitEnd s
  | .selectMsg frame names => Sys2Proof.Machine.execSelectMsg frame names s
  | .selectWaitEnd => Sys2Proof.Machine.execSelectWaitEnd s
  | .row frame row skipped crc => Sys2Proof.Machine.execRow frame row skipped crc s
  | .rowWaitEnd row => Sys2Proof.Machine.execRowWaitEnd row s
  | .rowReq row => Sys2Proof.Machine.execRowReq row s
  | .rowData p => Sys2Proof.Machine.execRowData p s
  | .release frame line gen dac => Sys2Proof.Machine.execRelease frame line gen dac s
  | .windDownMsg cause => Sys2Proof.Machine.execWindDownMsg cause s
  | .handover batonIn => Sys2Proof.Machine.execHandover batonIn s
  | .handoverOverlapEnd batonIn => Sys2Proof.Machine.execHandoverOverlapEnd batonIn s
  | .takeover => Sys2Proof.Machine.execTakeover s
  | .blockLock lane => Sys2Proof.Machine.execBlockLock lane s
  | .chkSync lane gain => Sys2Proof.Machine.execChkSync lane gain s
  | .linkFault port fault => Sys2Proof.Machine.execLinkFault port fault s
  | .echoTimeout => Sys2Proof.Machine.execEchoTimeout s
  | .delayReq domain => Sys2Proof.Machine.execDelayReq domain s
  | .pdWriteDrop offset => Sys2Proof.Machine.execPdWriteDrop offset s
  | .commandTimeout src => Sys2Proof.Machine.execCommandTimeout src s
  | .ts2 driver => Sys2Proof.Machine.execTs2 driver s
  | .aonReset => Sys2Proof.Machine.execAonReset s
  | .supplyLoss => Sys2Proof.Machine.execSupplyLoss s
  | .refclkReturn which => Sys2Proof.Machine.execRefclkReturn which s
  | .pcieLinkUp => Sys2Proof.Machine.execPcieLinkUp s

end Sys2Proof.Machine
end

