-- ==== Sys2Proof/Safety.lean ====
section
/-! DEFINITION. What the claims about the machine are stated in: the canonical form of its memories, the fields that hold only legal values,
and when a command meets the tests that every command meets. -/

namespace Sys2Proof.Safety

open Sys2Proof.Machine

/-- The canonical form of the three memories of R23, R528 and R573: addresses strictly rising, no byte listed that reads as unlisted. -/
def Memory.wf (m : Mem) : Bool := spWf 0 m.store && spWf 0 m.sram && spWf 0 m.aon

/-- JUMP_LIMIT and SLEW hold values that a write of them may leave (R62, R64, R615). -/
abbrev timeLegal (t : TimeUnit) : Prop := 16 ≤ t.jumpLimit ∧ t.jumpLimit ≤ 1000000 ∧ 1 ≤ t.slew ∧ t.slew ≤ 100

/-- The invariant of the whole machine: its memories and the NVS array (R538) are canonical; FAB_SEL never holds 3 (R613), SCRUB_SHIFT lies
in 10 to 20 (R535, R620), the time unit's limits are legal (R615), the mailbox is EMPTY, PENDING or DONE (R508), MADDR has three bits
(R636). -/
def Sound (s : State) : Prop :=
  Memory.wf s.mem = true ∧ spWf 0 s.nvs.cells = true ∧ s.clocks.fabSel ≤ 2 ∧ (10 ≤ s.mem.scrubShift ∧ s.mem.scrubShift ≤ 20) ∧
    timeLegal s.time ∧ s.mbx.state ≤ 2 ∧ s.sys.maddr < 8

/-! ## Commands that pass the tests which every command meets -/

/-- A command without a launch time that none of the tests common to all commands turns away: its generation holds where it asks for the test
(R482), the device is READY or the management core serves it (R486, R505), and a standby takes it from the active or it is no command of the
groups that the active forwards (R454). -/
def Plain (h : Hdr) (op : Nat) (s : State) : Prop :=
  h.timed = false ∧ (h.genCheck = true → h.gen = s.time.tpGen) ∧ (mgtOpcode op = true ∨ s.sys.ready = true) ∧
    (s.standby = true → h.src = fromPair ∨ pairGroup op = false)

/-- A command with a launch time that none of the tests common to all timed commands turns away: beside those of `Plain`, the launch time is
well formed (R482), at most 86,400 s ahead and 1 s behind (R74), and its queue has room (R73). -/
def Timed (h : Hdr) (op q : Nat) (s : State) : Prop :=
  h.timed = true ∧ h.launch.ns < 1000000000 ∧ launchAt h ≤ s.tp + 86400 * uSec ∧ s.tp ≤ launchAt h + uSec ∧ queueLen s q < 256 ∧
    (h.genCheck = true → h.gen = s.time.tpGen) ∧ (mgtOpcode op = true ∨ s.sys.ready = true) ∧
    (s.standby = true → h.src = fromPair ∨ pairGroup op = false)

/-- State `t` with the reply to a command that was accepted in state `s` (R475, R484, R485). -/
def answered (h : Hdr) (op st : Nat) (s t : State) (out : List Byte) : State := t.reply h op st s.cp.acceptNo (mgtOpcode op) out

/-- A command is accepted and waits as an entry for its boundary or its launch time (R73, R490), `data` being what it read at acceptance. -/
def waiting (h : Hdr) (op q : Nat) (i : Instr) (s : State) (data out : List Byte) : State :=
  answered h op stAccepted s (s.takeNo.enqueue { mkEntry h q i s with data := data }) out

/-- A command is accepted and has taken effect at once, `t` being the state after its effect: CMD_APPLIED with no frame (R490, R653). -/
def appliedNow (h : Hdr) (op q : Nat) (i : Instr) (s t : State) (head : Nat) (out : List Byte) : State :=
  answered h op stAccepted s (t.entryApplied (mkEntry h q i s) noFrame head) out

/-- The record of a command whose process ends with CMD_APPLIED later (R490). -/
def procOf (h : Hdr) (op object : Nat) (s : State) : Proc :=
  { opcode := op, object := object, acceptNo := s.cp.acceptNo, tag := h.tag, noApplied := h.noApplied }

/-- The record of a command whose reply comes when its work ends (R476). -/
def runningOf (h : Hdr) (op object : Nat) (i : Instr) (s : State) : Running :=
  { src := h.src, opcode := op, tag := h.tag, silent := h.silent, acceptNo := s.cp.acceptNo, object := object, cmd := i }

/-! ## Frames -/

/-- The parts of the state, one per kind of state that the rules name. -/
inductive Part where
  /-- The queue of waiting commands. -/
  | queue
  /-- SYS, RESET and boot (R512 to R519, R592 to R604). -/
  | sys
  /-- The clocks (R32, R590, R613). -/
  | clocks
  /-- The wind-down in progress (R424 to R428). -/
  | wind
  /-- The power domains, the operating point and the glitch counts (R566 to R589). -/
  | power
  /-- The yo-yo units (R580). -/
  | yoyo
  /-- The time counters and their limits (R42 to R69). -/
  | time
  /-- The load, rate and snapshot registers of the time unit (R615, R616). -/
  | timeRegs
  /-- The PTP domains (R50 to R53). -/
  | domains
  /-- The EVT_IN inputs (R80). -/
  | evtIn
  /-- The EVT_OUT outputs (R83). -/
  | evtOut
  /-- The ring registers (R470 to R474, R606). -/
  | rings
  /-- The acceptance number (R475). -/
  | acceptNo
  /-- The replies not yet written (R485). -/
  | replies
  /-- The events not yet posted (R492). -/
  | events
  /-- The commands that wait for their effect, their end or their reply (R73, R488, R490). -/
  | waiting
  /-- The rest of the command processor: turns, event routes, MSI-X (R475 to R480). -/
  | cp
  /-- The mailbox and the event queue of the management port (R508 to R510). -/
  | mbx
  /-- The fault log (R628). -/
  | log
  /-- The bytes of the NVS array (R538). -/
  | nvsCells
  /-- The page buffer, the commits and the scanned records (R541 to R564). -/
  | nvs
  /-- The bytes of the central store (R23). -/
  | store
  /-- The bytes of the on-chip SRAM (R528). -/
  | sram
  /-- The bytes of the AON SRAM (R573). -/
  | aon
  /-- Check bits, error counts and scrubbing (R534 to R537). -/
  | memory
  /-- The bus matrix registers (R522 to R527). -/
  | fab
  /-- The lane registers (R393 to R409). -/
  | lanes
  /-- The figures of merit (R399). -/
  | foms
  /-- The PRBS blocks (R411 to R416). -/
  | prbs
  /-- The quads (R87). -/
  | quads
  /-- The network ports (R88 to R101). -/
  | ports
  /-- The receive flows (R102 to R128). -/
  | flows
  /-- The transmit flows (R132 to R141). -/
  | txs
  /-- The layers (R142 to R171). -/
  | layers
  /-- The transmit outputs (R176). -/
  | outputs
  /-- The frames that the transmit outputs compose (R146). -/
  | outShots
  /-- The leases (R172 to R175). -/
  | leases
  /-- The audio associations (R178). -/
  | assocs
  /-- The transmit audio flows (R178). -/
  | txAudio
  /-- The tile queue: tiles, clusters, work items (R186 to R221). -/
  | tq
  /-- The heads (R222 to R346, R385, R417 to R434). -/
  | heads
  /-- The drivers as the device sees them (R347 to R384). -/
  | drivers
  /-- The next poll of every backchannel (R380). -/
  | polls
  /-- The Rennex drivers themselves (R372 to R377). -/
  | rennex
  /-- The pair logic (R435 to R469). -/
  | pair
  /-- What a standby holds of the active (R455 to R463). -/
  | sync
  /-- The count of free values drawn (the model's own field). -/
  | free
  /-- What the last access returned. -/
  | answer
  deriving DecidableEq, Repr

/-- The part has the same value in two states. -/
def Part.same (p : Part) (s t : State) : Prop :=
  match p with
  | .queue => t.pending = s.pending
  | .sys => t.sys = s.sys
  | .clocks => t.clocks = s.clocks
  | .wind => t.wind = s.wind
  | .power => { t.power with yoyo := [] } = ({ s.power with yoyo := [] } : Power)
  | .yoyo => t.power.yoyo = s.power.yoyo
  | .time => t.time = s.time
  | .timeRegs => t.timeRegs = s.timeRegs
  | .domains => t.domains = s.domains
  | .evtIn => t.evtIn = s.evtIn
  | .evtOut => t.evtOut = s.evtOut
  | .rings => t.rings = s.rings
  | .acceptNo => t.cp.acceptNo = s.cp.acceptNo
  | .replies => t.cp.replies = s.cp.replies
  | .events => t.cp.events = s.cp.events
  | .waiting => (t.cp.launch, t.cp.procs, t.cp.running) = (s.cp.launch, s.cp.procs, s.cp.running)
  | .cp => { t.cp with acceptNo := 0, replies := [], events := [], launch := [], procs := [], running := [] } =
      ({ s.cp with acceptNo := 0, replies := [], events := [], launch := [], procs := [], running := [] } : CmdProc)
  | .mbx => t.mbx = s.mbx
  | .log => t.log = s.log
  | .nvsCells => t.nvs.cells = s.nvs.cells
  | .nvs => { t.nvs with cells := [] } = ({ s.nvs with cells := [] } : Nvs)
  | .store => t.mem.store = s.mem.store
  | .sram => t.mem.sram = s.mem.sram
  | .aon => t.mem.aon = s.mem.aon
  | .memory => { t.mem with store := [], sram := [], aon := [] } = ({ s.mem with store := [], sram := [], aon := [] } : Mem)
  | .fab => t.fab = s.fab
  | .lanes => t.lanes = s.lanes
  | .foms => t.foms = s.foms
  | .prbs => t.prbs = s.prbs
  | .quads => t.quads = s.quads
  | .ports => t.ports = s.ports
  | .flows => t.flows = s.flows
  | .txs => t.txs = s.txs
  | .layers => t.layers = s.layers
  | .outputs => t.outputs = s.outputs
  | .outShots => t.outShots = s.outShots
  | .leases => t.leases = s.leases
  | .assocs => t.assocs = s.assocs
  | .txAudio => t.txAudio = s.txAudio
  | .tq => t.tq = s.tq
  | .heads => t.heads = s.heads
  | .drivers => t.drivers = s.drivers
  | .polls => t.polls = s.polls
  | .rennex => t.rennex = s.rennex
  | .pair => t.pair = s.pair
  | .sync => t.sync = s.sync
  | .free => t.free = s.free
  | .answer => t.answer = s.answer

/-- From `s` to `t` no part changes but those listed. -/
def Frame (l : List Part) (s t : State) : Prop := ∀ p, p ∉ l → p.same s t

/-- What every command of a ring or of the mailbox may change, whatever it does: its acceptance and its reply, and on a standby the state of the
pair (R454, R475, R484, R485). -/
def answering : List Part := [.acceptNo, .replies, .events, .waiting, .pair]

/-- The parts that a command or event may change, row by row of the opcode table. -/
def touches : Instr → List Part
  | .nop .. | .getInfo .. | .logRead .. | .domainStatus .. | .launchCancel .. | .portStatus .. | .flowStatus .. | .routeStatus ..
  | .leaseStatus .. | .audioStatus .. | .headStatus .. | .panelStatus .. | .ledgerStats .. | .ledgerSnapshot .. | .viewTest .. | .checkRead ..
  | .pairStatus .. | .nvsRead .. | .recordRead .. | .counterRead .. | .powerStatus .. | .tileRead .. | .engineCounters .. => answering
  | .eventCtl .. => answering ++ [.cp]
  | .funcReset .. => answering ++ [.sys, .nvs, .store, .memory, .flows, .leases, .tq, .heads, .sync]
  | .domainSet .. => answering ++ [.domains]
  | .tpConfig .. | .tpSelect .. => answering ++ [.time]
  | .tpStep .. => answering ++ [.time, .timeRegs, .evtOut, .store, .memory, .flows, .txs, .outputs, .tq, .heads]
  | .evtOutSet .. => answering ++ [.evtOut]
  | .evtInSet .. | .evtInRead .. => answering ++ [.evtIn]
  | .quadSet .. => answering ++ [.lanes, .quads, .ports, .flows]
  | .portSet .. | .portCounters .. => answering ++ [.ports]
  | .flowSet .. => answering ++ [.store, .memory, .flows]
  | .flowEnable .. | .flowCounters .. => answering ++ [.flows, .txs]
  | .txSet .. => answering ++ [.txs, .txAudio]
  | .routeSet .. => answering ++ [.layers, .outputs]
  | .outputSet .. => answering ++ [.log, .memory, .txs, .outputs]
  | .layerSet .. => answering ++ [.layers]
  | .layerCoef .. => answering ++ [.log, .memory, .layers, .outputs]
  | .layerPresent .. => answering ++ [.layers, .leases]
  | .leasePolicy .. | .headSr .. | .headGate .. | .warmupEnd .. | .powerSeqSet .. | .settingsLoad .. | .activate .. | .muraSwap .. | .vcomSet ..
  | .ledgerSet .. | .ledgerClear .. | .viewSet .. | .viewClear .. | .checkSet .. => answering ++ [.heads]
  | .audioAssoc .. => answering ++ [.assocs]
  | .audioHead .. => answering ++ [.txAudio, .heads]
  | .audioTx .. => answering ++ [.txAudio]
  | .headConfig .. | .headUnconfig .. => answering ++ [.sram, .memory, .tq, .heads]
  | .headStart .. => answering ++ [.nvs, .store, .memory, .tq, .heads]
  | .headStop .. => answering ++ [.store, .memory, .flows, .tq, .heads]
  | .headPicture .. | .tableLoad .. => answering ++ [.log, .memory, .heads]
  | .panelWindup .. => answering ++ [.nvs, .heads]
  | .panelPowerdown .. =>
    answering ++ [.evtOut, .nvs, .store, .memory, .flows, .txs, .layers, .outputs, .leases, .txAudio, .tq, .heads, .drivers, .sync, .free]
  | .driverSet .. => answering ++ [.drivers]
  | .driverRetrain .. => answering ++ [.drivers, .sync, .free]
  | .ledgerTableRead .. => answering ++ [.log, .store, .memory, .leases, .heads]
  | .pairSet .. | .pairHandover .. | .pairRejoin .. => answering ++ [.sync]
  | .nvsWrite .. | .recordWrite .. => answering ++ [.nvs]
  | .pdSet .. => answering ++ [.power, .tq]
  | .opSet .. => answering ++ [.power]
  | .yoyoSet .. => answering ++ [.yoyo, .lanes, .ports]
  | .memInject .. => answering ++ [.memory]
  | .commandAccept =>
    answering ++ [.sys, .power, .yoyo, .time, .timeRegs, .domains, .evtIn, .evtOut, .rings, .cp, .mbx, .log, .nvs, .store, .sram, .memory,
      .lanes, .quads, .ports, .flows, .txs, .layers, .outputs, .leases, .assocs, .txAudio, .tq, .heads, .drivers, .sync, .free]
  | .regWrite .. | .doorbell .. | .ringCiWrite .. | .ringCfgWrite .. | .sliceBypass .. | .registerWrite .. =>
    [.sys, .clocks, .power, .time, .timeRegs, .evtOut, .rings, .replies, .events, .waiting, .cp, .log, .nvs, .store, .sram, .memory, .fab,
      .lanes, .foms, .prbs, .ports, .flows, .txs, .outputs, .leases, .tq, .heads, .pair, .sync]
  | .regRead .. | .tpSnapSecLoRead .. | .rcRead .. | .chkFrameRead .. | .sramLoRead .. =>
    [.timeRegs, .evtIn, .memory, .foms, .prbs, .heads, .answer]
  | .mbxWrite .. | .mbxSubmit => [.mbx]
  | .mbxRead .. => [.answer]
  | .evtRead => [.mbx, .free, .answer]
  | .status => [.mbx, .answer]
  | .mailboxTimeout => [.replies, .events, .waiting, .mbx, .pair]
  | .mgtAddressMatch .. => [.sys, .answer]
  | .replyWrite .. => [.rings, .replies, .events, .cp, .mbx, .sram, .memory]
  | .eventPost => [.rings, .events, .cp, .mbx, .sram, .memory]
  | .msiXMessage .. => [.cp]
  | .stepValue .. | .stepDomain .. | .loadA .. | .loadB .. | .select .. =>
    [.time, .timeRegs, .evtOut, .events, .waiting, .store, .memory, .flows, .txs, .outputs, .tq, .heads]
  | .rateHiWrite .. | .autoSelect => [.time]
  | .laneSlip .. | .portDown .. => [.events, .lanes, .ports]
  | .bitslipEn .. | .loopback .. => [.events, .lanes, .ports, .flows]
  | .genEn .. | .cntClr .. => [.events, .lanes, .prbs, .ports, .flows]
  | .prbsErrRead .. => [.prbs, .answer]
  | .blow .. | .sysPushDataWrite .. | .remap | .pcieLinkUp => [.sys]
  | .start .. | .go .. | .boot .. => [.sys, .events, .log, .nvs, .sram, .memory]
  | .code .. => [.sys, .replies, .events, .waiting, .nvs, .store, .memory, .flows, .leases, .tq, .heads, .pair, .sync]
  | .funcResetDone .. =>
    [.sys, .power, .domains, .rings, .replies, .events, .waiting, .cp, .nvs, .store, .memory, .lanes, .foms, .prbs, .ports, .flows, .layers,
      .outputs, .outShots, .leases, .txAudio, .tq, .heads, .drivers, .pair, .sync, .free]
  | .pdCtl .. => [.power, .tq]
  | .opCtl .. | .wakeMaskWrite .. | .refreshStep .. | .pdWriteDrop .. => [.power]
  | .fabSel .. => [.clocks, .fab]
  | .sramCtlWrite .. => [.sram, .memory]
  | .headWm .. | .headGatePol .. | .pgood .. | .vcomSettle .. | .penDelay .. | .followRepeat .. => [.heads]
  | .bar2Write .. => [.sys, .events, .store, .memory, .fab, .leases, .heads, .free]
  | .bar2Read .. => [.events, .memory, .answer]
  | .bar4Write .. => [.sys, .events, .sram, .memory, .fab, .free]
  | .bar4Read .. => [.events, .memory, .fab, .answer]
  | .bitSetAliasWrite .. | .bitClearAliasWrite .. => [.events, .sram, .memory, .fab, .free, .answer]
  | .nvsWindowWrite .. => [.nvs, .fab, .answer]
  | .matrixTransaction .. =>
    [.sys, .clocks, .power, .time, .timeRegs, .evtIn, .evtOut, .rings, .replies, .events, .waiting, .cp, .log, .nvs, .store, .sram, .aon,
      .memory, .fab, .lanes, .foms, .prbs, .ports, .flows, .txs, .outputs, .leases, .tq, .heads, .pair, .sync, .free, .answer]
  | .matrixTimeout .. => [.fab, .answer]
  | .scrub .. => [.events, .memory]
  | .aonResetRelease .. => [.sys, .power, .nvs]
  | .recordScan => [.events, .cp, .nvs]
  | .perstAssert | .windDownDone =>
    answering ++ [.sys, .clocks, .wind, .power, .yoyo, .time, .timeRegs, .domains, .evtIn, .evtOut, .rings, .cp, .nvs, .store, .sram, .memory,
      .fab, .lanes, .foms, .prbs, .quads, .ports, .flows, .txs, .layers, .outputs, .outShots, .leases, .assocs, .txAudio, .tq, .heads, .drivers,
      .polls, .sync]
  | .perstRelease .. =>
    answering ++ [.sys, .clocks, .wind, .power, .yoyo, .time, .timeRegs, .domains, .evtIn, .evtOut, .rings, .cp, .sram, .memory, .fab, .lanes,
      .foms, .prbs, .quads, .ports, .flows, .txs, .layers, .outputs, .outShots, .leases, .assocs, .txAudio, .tq, .heads, .drivers, .polls, .sync]
  | .pcieHotReset => [.sys, .power, .rings, .replies, .events, .waiting, .cp, .layers, .outputs]
  | .rootPllLock | .refclkReturn .. => [.clocks]
  | .ready .. => [.sys, .rings, .log, .nvs, .store, .memory]
  | .refclkLoss =>
    [.sys, .clocks, .wind, .power, .replies, .events, .waiting, .nvs, .store, .memory, .flows, .outputs, .outShots, .leases, .tq, .heads, .pair]
  | .nrefclkLoss .. => [.clocks, .events, .lanes, .ports]
  | .pfailN =>
    [.sys, .wind, .power, .replies, .events, .waiting, .nvs, .store, .memory, .flows, .outputs, .outShots, .leases, .tq, .heads, .pair]
  | .pfailNDeassert => [.sys, .power]
  | .glitch .. => [.power, .evtIn]
  | .windDown | .park .. => [.heads, .drivers]
  | .wdHoldEnd .. =>
    [.wind, .evtOut, .events, .waiting, .nvs, .store, .memory, .flows, .txs, .layers, .outputs, .leases, .txAudio, .tq, .heads, .drivers, .pair,
      .sync, .free]
  | .penGapEnd .. | .windupFail .. | .panelPowerdownDrop .. | .takeover =>
    [.evtOut, .events, .waiting, .nvs, .store, .memory, .flows, .txs, .layers, .outputs, .leases, .txAudio, .tq, .heads, .drivers, .pair, .sync,
      .free]
  | .windDownCommits => [.wind, .nvs]
  | .panelPgLost .. => [.events, .waiting, .store, .memory, .flows, .leases, .tq, .heads, .drivers]
  | .claimTest .. => [.replies, .events, .waiting, .nvs, .heads, .pair]
  | .trainDelay .. => [.events, .waiting, .heads, .drivers, .pair, .sync, .free]
  | .windupDone .. | .trimInstant .. | .warmupDone .. => [.events, .waiting, .heads]
  | .timeTick => [.yoyo, .time, .timeRegs, .evtOut, .events, .waiting, .store, .memory, .flows, .txs, .outputs, .tq, .heads, .sync]
  | .ptpMessage .. => [.time, .domains, .events, .free]
  | .syncLoss .. | .holdoverLimit .. => [.domains, .events]
  | .evtCapture .. => [.evtIn, .events]
  | .evtOutPulse .. => [.evtOut]
  | .launchEntryDue .. => [.evtOut, .events, .waiting, .nvs, .store, .memory, .flows, .txs, .layers, .outputs, .leases, .txAudio, .tq, .heads]
  | .frameReceive .. => [.yoyo, .events, .store, .memory, .ports, .flows, .heads]
  | .controlFrameHandle .. | .membershipReport .. | .yoyoMembershipReport .. | .linkFault .. => [.ports]
  | .frameClose .. => [.events, .store, .memory, .flows]
  | .portUp .. => [.events, .ports]
  | .legLost .. => [.events, .flows]
  | .yoyoWindow .. => [.yoyo, .lanes]
  | .yoyoCompare .. => [.yoyo, .events]
  | .txPacketLaunch .. => [.events, .memory, .ports, .txs]
  | .audioTxLaunch .. => [.events, .memory, .ports, .txs, .txAudio]
  | .compositionStart .. =>
    [.events, .waiting, .store, .memory, .flows, .txs, .layers, .outputs, .outShots, .leases, .txAudio, .tq, .heads, .pair, .sync]
  | .lossHoldEnd .. => [.layers, .outputs]
  | .itemRelease .. => [.tq]
  | .pItemLatestStart .. | .rowSkipped .. => [.events, .waiting, .store, .memory, .flows, .leases, .tq, .heads, .pair]
  | .engineFree .. => [.events, .waiting, .store, .memory, .flows, .outputs, .outShots, .leases, .tq, .heads, .pair]
  | .steal .. => [.events, .store, .memory, .flows, .tq, .heads]
  | .cItemComplete .. => [.events, .store, .memory, .flows, .tq, .heads, .free]
  | .tItemComplete .. => [.events, .store, .memory, .flows, .outputs, .outShots, .tq, .free]
  | .pItemComplete .. | .row .. => [.events, .waiting, .store, .sram, .memory, .flows, .leases, .tq, .heads, .pair, .sync]
  | .latchPoint .. | .latch .. | .latchWaitEnd => [.events, .waiting, .store, .sram, .memory, .flows, .tq, .heads, .pair, .sync]
  | .muraReleased .. | .thermSample .. | .srEnter .. | .srExit .. => [.events, .heads]
  | .activateCopy .. | .cmd .. =>
    answering ++ [.sys, .power, .yoyo, .time, .timeRegs, .domains, .evtIn, .evtOut, .cp, .log, .nvs, .store, .sram, .memory, .lanes, .quads,
      .ports, .flows, .txs, .layers, .outputs, .leases, .assocs, .txAudio, .tq, .heads, .drivers, .sync, .free]
  | .lineStart .. => [.events, .waiting, .store, .sram, .memory, .lanes, .foms, .flows, .leases, .tq, .heads, .drivers, .pair, .sync]
  | .headStall .. | .checkResult .. => [.events, .waiting, .store, .memory, .flows, .tq, .heads]
  | .balancingFrame .. => [.tq, .heads]
  | .headParked .. =>
    [.evtOut, .events, .waiting, .nvs, .store, .sram, .memory, .flows, .txs, .layers, .outputs, .leases, .txAudio, .tq, .heads, .drivers, .pair,
      .sync, .free]
  | .leaseReleased .. => [.events, .leases]
  | .trainTimeout .. | .bcTimeout .. => [.events, .waiting, .drivers, .pair, .sync, .free]
  | .configPacket .. => [.drivers]
  | .poll .. => [.drivers, .polls]
  | .report .. => [.events, .waiting, .foms, .drivers, .pair, .sync, .free]
  | .driverPacket .. | .ld .. | .discharge .. | .portAbsent .. | .driverConfig .. => [.rennex]
  | .eyeSample .. => [.foms]
  | .ebOvf => [.replies, .events, .waiting, .lanes, .pair, .sync]
  | .pdChanged =>
    answering ++ [.sys, .clocks, .power, .yoyo, .time, .timeRegs, .domains, .evtIn, .evtOut, .rings, .cp, .log, .nvs, .store, .sram, .memory,
      .fab, .lanes, .foms, .prbs, .quads, .ports, .flows, .txs, .layers, .outputs, .leases, .assocs, .txAudio, .tq, .heads, .drivers, .sync,
      .free]
  | .wake .. | .vidSettle => [.power, .events, .tq]
  | .vgoodTimeout => [.power, .events, .log, .tq]
  | .vgoodLost => [.power, .log]
  | .nvsCommitEnd => [.replies, .events, .waiting, .log, .nvsCells, .nvs, .pair]
  | .counterIncrement .. => [.nvs]
  | .pairLinkUp => [.events, .pair, .sync]
  | .pairLinkDown | .retransmit .. | .hello .. | .nak .. | .echoTimeout => [.replies, .events, .waiting, .pair, .sync]
  | .heartbeat | .echo .. => [.pair]
  | .phase .. => [.events, .waiting, .pair, .sync]
  | .ack .. => [.replies, .pair]
  | .time .. => [.heads, .pair, .sync]
  | .selectMsg .. | .selectWaitEnd =>
    [.events, .waiting, .store, .memory, .flows, .txs, .layers, .outputs, .leases, .txAudio, .tq, .heads, .pair, .sync]
  | .rowWaitEnd .. => [.events, .waiting, .store, .memory, .flows, .leases, .tq, .heads, .pair, .sync]
  | .rowReq .. | .release .. | .windDownMsg .. => [.pair, .sync]
  | .rowData .. => [.events, .store, .sram, .memory, .tq, .pair, .sync]
  | .handover .. => [.events, .waiting, .txs, .heads, .pair, .sync]
  | .handoverOverlapEnd .. => [.events, .waiting, .heads, .pair, .sync]
  | .blockLock .. => [.lanes, .foms]
  | .chkSync .. => [.prbs]
  | .delayReq .. => [.domains, .ports]
  | .commandTimeout .. => [.replies, .events, .waiting, .pair]
  | .ts2 .. => [.drivers, .rennex]
  | .aonReset =>
    answering ++ [.sys, .clocks, .wind, .power, .yoyo, .time, .timeRegs, .domains, .evtIn, .evtOut, .rings, .cp, .mbx, .log, .nvsCells, .nvs,
      .store, .sram, .aon, .memory, .fab, .lanes, .foms, .prbs, .quads, .ports, .flows, .txs, .layers, .outputs, .outShots, .leases, .assocs,
      .txAudio, .tq, .heads, .drivers, .polls, .sync, .free, .answer]
  | .supplyLoss =>
    answering ++ [.sys, .clocks, .wind, .power, .yoyo, .time, .timeRegs, .domains, .evtIn, .evtOut, .rings, .cp, .nvsCells, .nvs, .store, .sram,
      .memory, .fab, .lanes, .foms, .prbs, .quads, .ports, .flows, .txs, .layers, .outputs, .outShots, .leases, .assocs, .txAudio, .tq, .heads,
      .drivers, .polls, .sync, .free]

end Sys2Proof.Safety
end

