-- ==== Sys2Proof/WellFormed.lean ====
section
/-! DEFINITION. Which terms of the command syntax are commands: every field of a packet fits its width (R481, R482, R494, R499, R500, the reference
tables R496 to R504), every index of an event names a thing that exists. -/

namespace Sys2Proof

/-- A field of `n` bytes. -/
def fits (n v : Nat) : Bool := decide (v < 256 ^ n)

/-- A signed field of `n` bytes. -/
def fitsInt (n : Nat) (v : Int) : Bool := decide (-(256 ^ n) ≤ 2 * v ∧ 2 * v < 256 ^ n)

/-- `k` fields of `n` bytes. -/
def fitsAll (n k : Nat) (l : List Nat) : Bool := l.length == k && l.all (fits n)

/-- `k` signed fields of `n` bytes. -/
def fitsInts (n k : Nat) (l : List Int) : Bool := l.length == k && l.all (fitsInt n)

/-- An index below a count. -/
def below (n v : Nat) : Bool := decide (v < n)

/-- A stored time (R111). -/
def StoredTime.ok (t : StoredTime) : Bool := fits 6 t.sec && fits 4 t.ns && fits 2 t.frac

/-- A header (R481): from one of the four rings, the mailbox (R508), or the partner of the pair (R454). -/
def Hdr.ok (h : Hdr) : Bool := below 6 h.src && fits 4 h.tag && fits 2 h.gen && h.launch.ok

/-- A rate (R494): every field in its width. -/
def Rate.ok (x : Rate) : Bool :=
  fits 4 x.n && fits 2 x.d

/-- The Destination encoding of R494: every field in its width. -/
def Dest.ok (x : Dest) : Bool :=
  fits 1 x.kind && fits 1 x.index

/-- DOMAIN_SET (0x0201): every field in its width. -/
def DomainSetP.ok (x : DomainSetP) : Bool :=
  fits 1 x.domain && fits 1 x.enable && fits 1 x.domainNumber && fits 1 x.primary && fits 1 x.backup && fits 1 x.unicast && fits 16 x.gmAddr &&
  fits 4 x.holdover

/-- TP_CONFIG (0x0203): every field in its width. -/
def TpConfigP.ok (x : TpConfigP) : Bool :=
  fits 4 x.jump && fits 1 x.slew && fits 1 x.acquireAuto && fits 1 x.autoSelect && fits 1 x.revert

/-- EVT_OUT_SET (0x0206); the fields after the pin are the settings of R83: every field in its width. -/
def EvtOutP.ok (x : EvtOutP) : Bool :=
  fits 1 x.pin && fits 1 x.mode && fits 1 x.polarity && x.start.ok && x.period.ok && fits 4 x.width && fits 4 x.count && x.rate.ok &&
  fitsInt 4 x.offset && fits 1 x.head

/-- PORT_SET (0x0302): every field in its width. -/
def PortSetP.ok (x : PortSetP) : Bool :=
  fits 1 x.port && fits 6 x.mac && fits 4 x.ip4 && fits 1 x.ip4Len && fitsAll 16 2 x.ip6 && fits 1 x.untagged && fits 1 x.vidCount &&
  fitsAll 2 8 x.vids

/-- The Leg encoding of R494: every field in its width. -/
def Leg.ok (x : Leg) : Bool :=
  fits 1 x.port && fits 1 x.family && fits 16 x.dst && fits 2 x.udp && fits 1 x.named && fits 16 x.src && fits 2 x.vlan && fits 1 x.dscp &&
  fits 1 x.ttl && fits 1 x.pcp

/-- The format block of R499, all three kinds in one record: every field in its width. -/
def Format.ok (x : Format) : Bool :=
  fits 2 x.width && fits 2 x.height && fits 1 x.sampling && fits 1 x.depth && fits 1 x.scanning && fits 1 x.colorimetry && fits 1 x.tcs &&
  fits 1 x.range && fits 1 x.packing && fits 1 x.sender && x.rate.ok && fits 1 x.channels && fits 1 x.packetTime && fits 8 x.ancRate

/-- FLOW_SET (0x0401): every field in its width. -/
def FlowSetP.ok (x : FlowSetP) : Bool :=
  fits 1 x.kind && fits 1 x.index && fits 1 x.enable && x.legA.ok && fits 1 x.legBPresent && x.legB.ok && fits 1 x.payloadType &&
  fits 1 x.ssrcAny && fits 4 x.ssrc && x.format.ok && fits 2 x.slotCount && fits 8 x.descriptors && fitsAll 8 8 x.bases && fits 4 x.ringLength &&
  fits 4 x.skew && fits 4 x.bucket && fits 4 x.activity

/-- TX_SET (0x0410): every field in its width. -/
def TxSetP.ok (x : TxSetP) : Bool :=
  fits 1 x.kind && fits 1 x.index && fits 1 x.enable && x.legA.ok && fits 1 x.legBPresent && x.legB.ok && fits 1 x.extended && fits 4 x.tro &&
  fits 1 x.audioSource && fits 1 x.audioIndex

/-- ROUTE_SET (0x0501): every field in its width. -/
def RouteSetP.ok (x : RouteSetP) : Bool :=
  x.dest.ok && fits 1 x.kind && fits 1 x.source && fits 1 x.transition && fits 2 x.frames && fits 1 x.switchWait

/-- M1 or M3 (R500): every field in its width. -/
def Matrix1.ok (x : Matrix1) : Bool :=
  fitsInts 2 9 x.coef && fitsInts 2 3 x.offIn && fitsInts 2 3 x.offOut

/-- A rectangle (R166): every field in its width. -/
def Rect.ok (x : Rect) : Bool :=
  decide (-(2 ^ 32) ≤ x.x ∧ x.x < 2 ^ 32) && decide (-(2 ^ 32) ≤ x.y ∧ x.y < 2 ^ 32) && fits 4 x.w && fits 4 x.h

/-- OUTPUT_SET (0x0502): every field in its width. -/
def OutputSetP.ok (x : OutputSetP) : Bool :=
  fits 1 x.output && fits 2 x.width && fits 2 x.height && x.rate.ok && x.format.ok && fits 4 x.latency && fits 1 x.slotCount &&
  fitsAll 8 8 x.bases && fits 4 x.fill && fits 1 x.blend && fits 1 x.lossAction && fits 4 x.hold && x.crop.ok && fits 1 x.bypass &&
  fits 1 x.m1Mode && x.m1.ok && fitsInts 4 9 x.m2 && x.m3.ok && fits 8 x.lutBuffer

/-- LAYER_SET (0x0601): every field in its width. -/
def LayerSetP.ok (x : LayerSetP) : Bool :=
  fits 1 x.head && fits 1 x.layer && fits 1 x.enable && fits 1 x.z && x.crop.ok && x.dest.ok && fits 1 x.g && fits 4 x.fill && fits 1 x.views &&
  fits 1 x.blend && fits 1 x.lossAction && fits 4 x.hold && fits 1 x.bypass && fits 1 x.m1Mode && x.m1.ok && fitsInts 4 9 x.m2

/-- LAYER_PRESENT (0x0603): every field in its width. -/
def PresentP.ok (x : PresentP) : Bool :=
  fits 1 x.head && fits 1 x.layer && fits 8 x.base && fits 4 x.pitch && fits 2 x.width && fits 2 x.height && fits 1 x.format && fits 1 x.ordered

/-- AUDIO_HEAD (0x0C02): every field in its width. -/
def AudioHeadP.ok (x : AudioHeadP) : Bool :=
  fits 1 x.head && fits 1 x.layer && fitsInt 4 x.trim && fits 1 x.tdmEnable && fits 1 x.tdmFormat && fitsAll 1 8 x.map

/-- HEAD_CONFIG (0x0701): every field in its width. -/
def HeadConfigP.ok (x : HeadConfigP) : Bool :=
  fits 1 x.head && fits 2 x.w && fits 2 x.h && x.rate.ok && fitsInt 4 x.epochOffset && fits 4 x.vtotal && fits 1 x.scanMode &&
  fits 2 x.transitionCode && fits 4 x.lead && fits 4 x.latency && fits 1 x.low && fits 1 x.crit && fits 1 x.linkRate && fits 8 x.psBase &&
  fits 8 x.composedBase && fits 1 x.followed && fits 6 x.lineF && x.followMin.ok

/-- HEAD_SR (0x0705): every field in its width. -/
def HeadSrP.ok (x : HeadSrP) : Bool :=
  fits 1 x.head && fits 1 x.command && fits 1 x.mode && fits 4 x.idle && fits 4 x.period && fits 2 x.holdLimit

/-- HEAD_PICTURE (0x0706): every field in its width. -/
def HeadPictureP.ok (x : HeadPictureP) : Bool :=
  fits 1 x.head && fits 4 x.background && fits 2 x.peak && fits 8 x.lutBuffer

/-- HEAD_GATE (0x0707): every field in its width. -/
def HeadGateP.ok (x : HeadGateP) : Bool :=
  fits 1 x.head && fits 1 x.phases && fits 3 x.polarity && fits 2 x.gckDelay && fits 2 x.gateGuard && fits 1 x.flush && fits 2 x.parkHold

/-- POWER_SEQ_SET (0x0803): every field in its width. -/
def PowerSeqP.ok (x : PowerSeqP) : Bool :=
  fits 1 x.head && fits 1 x.penUsed && fits 2 x.vcomSettle && fits 2 x.penDelay && fits 1 x.pgTimeout && fits 2 x.trainDelay &&
  fits 2 x.wdHold && fits 2 x.penGap

/-- DRIVER_SET (0x0804): every field in its width. -/
def DriverSetP.ok (x : DriverSetP) : Bool :=
  fits 1 x.driver && fits 1 x.head && fits 4 x.first && fits 2 x.ch && fits 1 x.lanes && fits 1 x.rev && x.vendor.length == 32

/-- SETTINGS_LOAD (0x0807): every field in its width. -/
def SettingsP.ok (x : SettingsP) : Bool :=
  fits 1 x.head && fits 1 x.gammaBypass && fits 1 x.muraEnable && fits 1 x.odEnable && fits 1 x.depth && fits 1 x.resScale &&
  fits 2 x.restLevel && fits 2 x.thermMin && fits 2 x.thermMax && fits 1 x.faultBand && fitsInts 2 7 x.thresholds && fitsAll 2 8 x.settle

/-- VCOM_SET (0x0901): every field in its width. -/
def VcomP.ok (x : VcomP) : Bool :=
  fits 1 x.head && fits 2 x.v0 && fits 2 x.vmin && fits 2 x.vmax && fits 1 x.senseEnable && fits 2 x.senseTarget && fits 2 x.senseDelay &&
  fits 1 x.senseN && fits 2 x.senseLimit && fitsInt 2 x.senseScale && fitsInt 2 x.trimGain && fits 1 x.trimStep

/-- One view of VIEW_SET (R334): every field in its width. -/
def ViewP.ok (x : ViewP) : Bool :=
  fits 1 x.kind && fits 2 x.y0 && fits 2 x.y1 && fits 4 x.s && fits 4 x.x && fits 4 x.k && fits 4 x.lh

/-- VIEW_SET and VIEW_TEST (0x0A01, 0x0A03): every field in its width. -/
def ViewSetP.ok (x : ViewSetP) : Bool :=
  fits 1 x.head && below 256 x.views.length && x.views.all ViewP.ok

/-- CHECK_SET (0x0B01): every field in its width. -/
def CheckSetP.ok (x : CheckSetP) : Bool :=
  fits 1 x.head && fits 1 x.check && fits 1 x.enable && fits 1 x.tap && fits 2 x.x0 && fits 2 x.y0 && fits 2 x.cw && fits 2 x.ch &&
  fits 1 x.view && fits 1 x.e && fits 1 x.mode && fits 4 x.expect && fits 1 x.missLimit && fits 1 x.action

/-- YOYO_SET (0x0F03): every field in its width. -/
def YoyoP.ok (x : YoyoP) : Bool :=
  fits 1 x.unit && fits 1 x.enable && fits 4 x.period && fits 4 x.window && fits 1 x.compare && fits 1 x.action && fits 24 x.watch

/-- A PTP message as the hardware hands it to firmware, with its stamps in 2^-16 ns (R51, R55). `kind`: every field in its width. -/
def PtpMsg.ok (x : PtpMsg) : Bool :=
  below 5 x.kind && below (2 ^ 112) x.t1 && below (2 ^ 112) x.t2 && below (2 ^ 112) x.t3 && below (2 ^ 112) x.t4

/-- One bus matrix transaction (R522): every field in its width. -/
def MatrixP.ok (x : MatrixP) : Bool :=
  fits 1 x.master && fits 4 x.addr && decide (1 ≤ x.len ∧ x.len ≤ 64) && (!x.write || x.data.length == x.len)

/-- A packet on a driver lane as a Rennex driver sees it (R356, R372): every field in its width. -/
def DlPacket.ok (x : DlPacket) : Bool :=
  fits 1 x.type && fits 1 x.gen && fits 4 x.frame && fits 4 x.line

/-- One lane's entry in a REPORT (R381, R382): every field in its width. -/
def EyeReport.ok (x : EyeReport) : Bool :=
  fits 1 x.eyeH && fits 1 x.eyeV && fits 2 x.codeErr

/-- The payload of a REPORT (R381): every field in its width. -/
def ReportP.ok (x : ReportP) : Bool :=
  below 4 x.sel && fits 1 x.gen && fits 2 x.seq && fits 2 x.crcErr && fits 2 x.missed && x.lane0A.ok && x.lane1A.ok && x.lane0B.ok && x.lane1B.ok

/-- A HELLO message's payload (R447): every field in its width. -/
def HelloP.ok (x : HelloP) : Bool :=
  fits 8 x.uid && below 2 x.prefer && below 8 x.pairState && fits 1 x.gen && below 8 x.headState && below 2 x.port

/-- A ROW_DATA message's payload (R447): every field in its width. -/
def RowDataP.ok (x : RowDataP) : Bool :=
  fits 4 x.frame && fits 2 x.row && fits 4 x.crc

/-- A debounced input that exists (R418, R635). -/
def DebInput.ok : DebInput → Bool
  | .pfail => true
  | .pgood head enable => below 4 head && below 4 enable
  | .evtIn pin => below 8 pin
  | .vgood => true
  | .batonIn => true

/-- A work item of a head or a transmit output (R199). -/
def ItemKey.ok (x : ItemKey) : Bool :=
  (match x.kind with | .c => below 4 x.owner | .p => below 4 x.owner | .t => below 64 x.owner) && fits 4 x.frame && fits 2 x.row && fits 1 x.run

/-- A well-formed command or event. -/
def wellFormed : Instr → Bool
  | .nop h => h.ok
  | .getInfo h => h.ok
  | .eventCtl h code enable vector mgt => h.ok && fits 2 code && fits 1 enable && fits 1 vector && fits 1 mgt
  | .funcReset h fn => h.ok && fits 2 fn
  | .logRead h first count => h.ok && fits 2 first && fits 2 count
  | .domainSet h p => h.ok && p.ok
  | .domainStatus h d => h.ok && fits 1 d
  | .tpConfig h p => h.ok && p.ok
  | .tpSelect h d => h.ok && fits 1 d
  | .tpStep h source value => h.ok && fits 1 source && value.ok
  | .evtOutSet h p => h.ok && p.ok
  | .evtInSet h pin edges minPulse report => h.ok && fits 1 pin && fits 1 edges && fits 2 minPulse && fits 1 report
  | .evtInRead h pin => h.ok && fits 1 pin
  | .launchCancel h queue tag => h.ok && fits 1 queue && fits 4 tag
  | .quadSet h quad mode fec => h.ok && fits 1 quad && fits 1 mode && fits 1 fec
  | .portSet h p => h.ok && p.ok
  | .portCounters h port clear => h.ok && fits 1 port && fits 1 clear
  | .portStatus h port => h.ok && fits 1 port
  | .flowSet h p => h.ok && p.ok
  | .flowEnable h kind index enable => h.ok && fits 1 kind && fits 1 index && fits 1 enable
  | .flowCounters h kind index clear => h.ok && fits 1 kind && fits 1 index && fits 1 clear
  | .flowStatus h kind index => h.ok && fits 1 kind && fits 1 index
  | .txSet h p => h.ok && p.ok
  | .routeSet h p => h.ok && p.ok
  | .outputSet h p => h.ok && p.ok
  | .routeStatus h dest => h.ok && dest.ok
  | .layerSet h p => h.ok && p.ok
  | .layerCoef h dest axis auto buffer => h.ok && dest.ok && fits 1 axis && fits 1 auto && fits 8 buffer
  | .layerPresent h p => h.ok && p.ok
  | .leasePolicy h head policy => h.ok && fits 1 head && fits 1 policy
  | .leaseStatus h head => h.ok && fits 1 head
  | .audioAssoc h source flow map => h.ok && fits 1 source && fits 1 flow && fitsAll 1 8 map
  | .audioHead h p => h.ok && p.ok
  | .audioTx h flow follows index map => h.ok && fits 1 flow && fits 1 follows && fits 1 index && fitsAll 1 8 map
  | .audioStatus h id => h.ok && fits 1 id
  | .headConfig h p => h.ok && p.ok
  | .headUnconfig h head => h.ok && fits 1 head
  | .headStart h head => h.ok && fits 1 head
  | .headStop h head => h.ok && fits 1 head
  | .headSr h p => h.ok && p.ok
  | .headPicture h p => h.ok && p.ok
  | .headGate h p => h.ok && p.ok
  | .warmupEnd h head => h.ok && fits 1 head
  | .headStatus h head => h.ok && fits 1 head
  | .panelWindup h head => h.ok && fits 1 head
  | .panelPowerdown h head => h.ok && fits 1 head
  | .powerSeqSet h p => h.ok && p.ok
  | .driverSet h p => h.ok && p.ok
  | .driverRetrain h driver => h.ok && fits 1 driver
  | .tableLoad h head table index buffer => h.ok && fits 1 head && fits 1 table && fits 1 index && fits 8 buffer
  | .settingsLoad h p => h.ok && p.ok
  | .activate h head => h.ok && fits 1 head
  | .muraSwap h head base => h.ok && fits 1 head && fits 8 base
  | .panelStatus h head => h.ok && fits 1 head
  | .vcomSet h p => h.ok && p.ok
  | .ledgerSet h head allowed warmTime warmCode => h.ok && fits 1 head && fits 1 allowed && fits 2 warmTime && fits 2 warmCode
  | .ledgerStats h head => h.ok && fits 1 head
  | .ledgerSnapshot h head frame buffer size => h.ok && fits 1 head && fits 4 frame && fits 8 buffer && fits 8 size
  | .ledgerTableRead h head table first rows buffer => h.ok && fits 1 head && fits 1 table && fits 2 first && fits 2 rows && fits 8 buffer
  | .ledgerClear h head => h.ok && fits 1 head
  | .viewSet h p => h.ok && p.ok
  | .viewClear h head mode => h.ok && fits 1 head && fits 1 mode
  | .viewTest h p => h.ok && p.ok
  | .checkSet h p => h.ok && p.ok
  | .checkRead h head check => h.ok && fits 1 head && fits 1 check
  | .pairSet h enable prefer auto port => h.ok && fits 1 enable && fits 1 prefer && fits 1 auto && fits 1 port
  | .pairHandover h => h.ok
  | .pairRejoin h => h.ok
  | .pairStatus h => h.ok
  | .nvsRead h page offset count => h.ok && fits 2 page && fits 1 offset && fits 1 count
  | .nvsWrite h page offset data => h.ok && fits 2 page && fits 1 offset && decide (data.length ≤ 255)
  | .recordRead h id => h.ok && fits 2 id
  | .recordWrite h id data => h.ok && fits 2 id && decide (data.length ≤ 1006)
  | .counterRead h c => h.ok && fits 1 c
  | .pdSet h domain state => h.ok && fits 1 domain && fits 1 state
  | .opSet h op => h.ok && fits 1 op
  | .yoyoSet h p => h.ok && p.ok
  | .powerStatus h => h.ok
  | .tileRead h index count => h.ok && fits 4 index && fits 1 count
  | .engineCounters h cluster => h.ok && fits 1 cluster
  | .memInject h memory addr bits => h.ok && fits 1 memory && fits 8 addr && fits 1 bits
  | .commandAccept => true
  | .regWrite offset _ => fits 3 offset
  | .regRead offset count => fits 3 offset && below 262145 count
  | .mbxWrite offset data => fits 2 offset && decide (data.length ≤ 1024)
  | .mbxSubmit => true
  | .mbxRead offset count => fits 2 offset && below 1025 count
  | .evtRead => true
  | .status => true
  | .mailboxTimeout => true
  | .mgtAddressMatch addr => below 128 addr
  | .doorbell ring pi => below 4 ring && fits 4 pi
  | .ringCiWrite ring ci => below 9 ring && fits 4 ci
  | .ringCfgWrite ring value => below 9 ring && fits 4 value
  | .replyWrite ring => below 5 ring
  | .eventPost => true
  | .msiXMessage vector => below 64 vector
  | .stepValue value => fits 4 value
  | .stepDomain value => fits 4 value
  | .loadA value => fits 4 value
  | .loadB value => fits 4 value
  | .select value => fits 4 value
  | .rateHiWrite domain value => below 2 domain && fits 4 value
  | .tpSnapSecLoRead _ => true
  | .laneSlip lane value => below 228 lane && fits 4 value
  | .bitslipEn lane value => below 228 lane && fits 4 value
  | .loopback lane value => below 228 lane && fits 4 value
  | .genEn lane value => below 228 lane && fits 4 value
  | .cntClr lane value => below 228 lane && fits 4 value
  | .prbsErrRead lane => below 228 lane
  | .rcRead offset _ => fits 4 offset
  | .chkFrameRead head check => below 4 head && below 16 check
  | .sramLoRead offset => fits 4 offset
  | .blow value => fits 4 value
  | .start value => fits 4 value
  | .go value => fits 4 value
  | .sysPushDataWrite value => fits 4 value
  | .remap => true
  | .code value => fits 4 value
  | .funcResetDone fn => fits 2 fn
  | .pdCtl value => fits 4 value
  | .opCtl value => fits 4 value
  | .wakeMaskWrite domain value => below 11 domain && fits 4 value
  | .fabSel value => fits 4 value
  | .sliceBypass target value => below 64 target && fits 4 value
  | .sramCtlWrite value => fits 4 value
  | .headWm head value => below 4 head && fits 4 value
  | .headGatePol head value => below 4 head && fits 4 value
  | .registerWrite offset value enables => fits 4 offset && fits 4 value && below 16 enables
  | .bar2Write addr data => fits 8 addr && decide (data.length ≤ 4096)
  | .bar2Read addr len => fits 8 addr && below 4097 len
  | .bar4Write offset data => fits 4 offset && decide (data.length ≤ 4096)
  | .bar4Read offset len => fits 4 offset && below 4097 len
  | .bitSetAliasWrite offset value enables => fits 4 offset && fits 4 value && below 16 enables
  | .bitClearAliasWrite offset value enables => fits 4 offset && fits 4 value && below 16 enables
  | .nvsWindowWrite master offset data => fits 1 master && fits 4 offset && decide (data.length ≤ 64)
  | .matrixTransaction p => p.ok
  | .matrixTimeout p => p.ok
  | .scrub unit => below 514 unit
  | .aonResetRelease maddr => below 8 maddr
  | .recordScan => true
  | .perstAssert => true
  | .perstRelease bootsel => below 2 bootsel
  | .pcieHotReset => true
  | .rootPllLock => true
  | .boot _ _ _ => true
  | .ready _ => true
  | .refclkLoss => true
  | .nrefclkLoss n => below 2 n
  | .pfailN => true
  | .pfailNDeassert => true
  | .glitch input => input.ok
  | .windDown => true
  | .wdHoldEnd head => below 4 head
  | .penGapEnd head => below 4 head
  | .windDownCommits => true
  | .windDownDone => true
  | .pgood head enable => below 4 head && below 4 enable
  | .panelPgLost head enable => below 4 head && below 4 enable
  | .windupFail head => below 4 head
  | .claimTest head _ => below 4 head
  | .vcomSettle head => below 4 head
  | .penDelay head => below 4 head
  | .trainDelay head => below 4 head
  | .windupDone head therm => below 4 head && fits 2 therm
  | .panelPowerdownDrop head => below 4 head
  | .timeTick => true
  | .autoSelect => true
  | .ptpMessage domain msg => below 2 domain && msg.ok
  | .syncLoss domain => below 2 domain
  | .holdoverLimit domain => below 2 domain
  | .evtCapture pin _ back => below 8 pin && fits 4 back
  | .evtOutPulse pin => below 8 pin
  | .launchEntryDue queue => below 5 queue
  | .frameReceive port bytes _ => below 32 port && decide (bytes.length ≤ 16384)
  | .controlFrameHandle port => below 32 port
  | .membershipReport kind index leg => below 5 kind && below 64 index && below 2 leg
  | .frameClose flow => below 64 flow
  | .portUp port => below 32 port
  | .portDown port => below 32 port
  | .legLost kind index leg => below 5 kind && below 64 index && below 2 leg
  | .yoyoWindow unit _ => below 65 unit
  | .yoyoCompare unit => below 65 unit
  | .yoyoMembershipReport port => below 32 port
  | .txPacketLaunch flow => below 64 flow
  | .audioTxLaunch flow => below 64 flow
  | .compositionStart dest => dest.ok
  | .lossHoldEnd dest => dest.ok
  | .itemRelease key => key.ok
  | .pItemLatestStart key => key.ok
  | .engineFree cluster => below 8 cluster
  | .steal cluster => below 8 cluster
  | .cItemComplete key => key.ok
  | .tItemComplete key => key.ok
  | .pItemComplete key => key.ok
  | .rowSkipped head frame row => below 4 head && fits 4 frame && fits 2 row
  | .latchPoint head => below 4 head
  | .muraReleased head => below 4 head
  | .activateCopy head => below 4 head
  | .thermSample head sample => below 4 head && fits 2 sample
  | .lineStart head => below 4 head
  | .trimInstant head samples => below 4 head && samples.all (fits 2)
  | .headStall head => below 4 head
  | .srEnter head => below 4 head
  | .srExit head => below 4 head
  | .followRepeat head => below 4 head
  | .warmupDone head => below 4 head
  | .balancingFrame head => below 4 head
  | .park head => below 4 head
  | .headParked head => below 4 head
  | .checkResult head check => below 4 head && below 16 check
  | .leaseReleased lease => fits 4 lease
  | .trainTimeout driver => below 96 driver
  | .configPacket driver => below 96 driver
  | .poll group => below 12 group
  | .report driver p _ => below 96 driver && p.ok
  | .bcTimeout driver => below 96 driver
  | .driverPacket driver port pkt => below 96 driver && below 2 port && pkt.ok
  | .ld driver port => below 96 driver && below 2 port
  | .discharge driver port pkt => below 96 driver && below 2 port && pkt.ok
  | .portAbsent driver port => below 96 driver && below 2 port
  | .driverConfig driver port pkt => below 96 driver && below 2 port && pkt.ok
  | .eyeSample lane eyeH eyeV => below 228 lane && fits 1 eyeH && fits 1 eyeV
  | .ebOvf => true
  | .refreshStep temps _ => temps.all (fitsInt 2)
  | .pdChanged => true
  | .wake domain source _ => below 11 domain && below 5 source
  | .vidSettle => true
  | .vgoodTimeout => true
  | .vgoodLost => true
  | .nvsCommitEnd => true
  | .counterIncrement c => below 16 c
  | .pairLinkUp => true
  | .pairLinkDown => true
  | .heartbeat => true
  | .phase frame line ns => fits 4 frame && fits 4 line && fits 4 ns
  | .retransmit mseq => fits 4 mseq
  | .hello p => p.ok
  | .ack mseq => fits 4 mseq
  | .nak mseq => fits 4 mseq
  | .echo _ roundTrip answerTime => fits 8 roundTrip && fits 8 answerTime
  | .time tp tBase => below (2 ^ 112) tp && below (2 ^ 112) tBase
  | .cmd launch crc packet => fits 12 launch && fits 4 crc && decide (packet.length ≤ 1024)
  | .latch frame band e dac temp => fits 4 frame && below 8 band && fitsInt 2 e && fits 2 dac && fitsInt 2 temp
  | .latchWaitEnd => true
  | .selectMsg frame names => fits 4 frame && names.length == 16 && names.all (fun x => fits 12 x.1 && fits 12 x.2)
  | .selectWaitEnd => true
  | .row frame row skipped crc => fits 4 frame && fits 2 row && below 2 skipped && fits 4 crc
  | .rowWaitEnd row => fits 2 row
  | .rowReq row => fits 2 row
  | .rowData p => p.ok
  | .release frame line gen dac => fits 4 frame && fits 4 line && fits 1 gen && fits 2 dac
  | .windDownMsg cause => fits 1 cause
  | .handover _ => true
  | .handoverOverlapEnd _ => true
  | .takeover => true
  | .blockLock lane => below 228 lane
  | .chkSync lane _ => below 228 lane
  | .linkFault port fault => below 32 port && below 3 fault
  | .echoTimeout => true
  | .delayReq domain => below 2 domain
  | .pdWriteDrop offset => fits 4 offset
  | .commandTimeout src => below 5 src
  | .ts2 driver => below 96 driver
  | .aonReset => true
  | .supplyLoss => true
  | .refclkReturn which => below 3 which
  | .pcieLinkUp => true

end Sys2Proof
end

