-- ==== Sys2Proof/Certificates/Slice0/Obligations.lean ====
section
/-! DEFINITION. The statements about the machine: what each row of the table does, what every row leaves alone, what every step keeps. The
docstrings name the rules; where a clause is the model's choice they name the entry of the assumption log. -/

open Sys2Proof Sys2Proof.Machine Sys2Proof.Safety

/-- The block takes the command at the front of its queue and runs it with the queue's rest. -/
def Obligations.StepTakesTheFrontCommand : Prop :=
  ∀ (s : State) (c : Instr) (rest : List Instr), step { s with pending := c :: rest } = exec c { s with pending := rest }

/-- On an empty queue the block idles (DESIGN CHOICE, log entry 2). -/
def Obligations.StepIdlesOnAnEmptyQueue : Prop :=
  ∀ s : State, s.pending = [] → step s = .next s

/-- Right after reset the machine is sound and its queue is empty. -/
def Obligations.ResetIsSound : Prop :=
  Sound State.reset ∧ State.reset.pending = []

/-- No step leaves soundness: the memories and the NVS array stay in canonical form, FAB_SEL never holds 3 (R613), SCRUB_SHIFT stays within
10 to 20 (R535), JUMP_LIMIT and SLEW stay legal (R615), the mailbox stays EMPTY, PENDING or DONE (R508) and MADDR keeps three bits (R636). -/
def Obligations.EveryStepKeepsSoundness : Prop :=
  ∀ s t : State, Sound s → step s = .next t → Sound t

/-- Every command of the table completes in every state, none of them faults or is refused, and none touches the queue of waiting commands. -/
def Obligations.EveryCommandCompletes : Prop :=
  ∀ (c : Instr) (s : State), ∃ t, exec c s = .next t ∧ t.pending = s.pending

/-- The frame of every row of the table: a command changes no part of the state but those that `touches` lists for its row. -/
def Obligations.EveryCommandStaysInItsFrame : Prop :=
  ∀ (c : Instr) (s t : State), exec c s = .next t → Frame (touches c) s t

/-- The bytes of the NVS array change only where a page commit ends and where power fails in the middle of one; those of the AON SRAM only by a
transaction of the bus matrix and at AON reset; what a Rennex driver holds only by its own packets and by RATE. -/
def Obligations.LastingBytesHaveFewWriters : Prop :=
  ∀ (c : Instr) (s t : State), exec c s = .next t →
    (c ≠ .nvsCommitEnd → c ≠ .aonReset → c ≠ .supplyLoss → t.nvs.cells = s.nvs.cells) ∧
    ((∀ p, c ≠ .matrixTransaction p) → c ≠ .aonReset → t.mem.aon = s.mem.aon) ∧
    ((∀ d p k, c ≠ .driverPacket d p k) → (∀ d p, c ≠ .ld d p) → (∀ d p k, c ≠ .discharge d p k) → (∀ d p, c ≠ .portAbsent d p) →
      (∀ d p k, c ≠ .driverConfig d p k) → (∀ d, c ≠ .ts2 d) → t.rennex = s.rennex)

/-- What a packet spells is well-formed: every field fits the width that the encoding gives it. Model: the widths of parameters that the reference
gives by name only are the model's (log entry 168). -/
def Obligations.PacketsSpellWellFormedCommands : Prop :=
  ∀ (src : Nat) (bs : List Byte) (c : Instr), src < 6 → readPacket src bs = .inr c → wellFormed c = true

/-- What a reply is: a forwarded command has none, and a status of failure takes the standby to UNSYNCED; SILENT suppresses OK and ACCEPTED; any
other command has one, with its tag, its status, its acceptance number and its parameters. Model: the standby's end on a forwarded command that
fails is the model's reading (log entry 160). -/
def Obligations.RepliesAreQueuedAsCommanded : Prop :=
  ∀ (s : State) (h : Hdr) (op st no : Nat) (mgt : Bool) (out : List Byte),
    (h.src = fromPair → st = stOk ∨ st = stAccepted ∨ st = stIgnored → s.reply h op st no mgt out = s) ∧
    (h.src = fromPair → st ≠ stOk → st ≠ stAccepted → st ≠ stIgnored → (s.reply h op st no mgt out).pair.state = 6) ∧
    (h.src ≠ fromPair → h.silent = true → st = stOk ∨ st = stAccepted → s.reply h op st no mgt out = s) ∧
    (h.src ≠ fromPair → h.silent = false ∨ (st ≠ stOk ∧ st ≠ stAccepted) →
      s.reply h op st no mgt out = { s with cp := { s.cp with replies := s.cp.replies ++
        [{ src := h.src, opcode := op, tag := h.tag, status := st, mgt := mgt, acceptNo := no, params := out }] } })

/-- The order in which a command is tested: BAD_PARAM for its form and its launch time, REFUSED for its generation, NOT_READY, BUSY, IGNORED,
NO_RESOURCE, REFUSED. Model: the places of the launch-time tests in that order are the model's reading (log entries 26 and 27). -/
def Obligations.TestsRunInOrder : Prop :=
  ∀ (h : Hdr) (t : Bool) (q : Nat) (c : Checks) (s : State),
    (testCmd h t q c s = some stBadParam ↔ c.bad = true ∨ (h.timed = true ∧ t = false) ∨ launchBad h s = true) ∧
    (c.bad = false → (h.timed = true → t = true) → launchBad h s = false →
      (testCmd h t q c s = if h.genCheck = true ∧ h.gen ≠ s.time.tpGen then some stRefused
        else if c.notReady = true then some stNotReady else if c.busy = true then some stBusy else if c.ignored = true then some stIgnored
        else if c.noResource = true ∨ queueFull h s q = true then some stNoResource
        else if c.refused = true ∨ launchPast h s = true then some stRefused else none))

/-- The reading commands of the SYSTEM and TIME groups answer OK with what they read, and change nothing else. Model: the packing of what the
reference gives by name only is the model's (log entry 168). -/
def Obligations.SystemReadsAnswer : Prop :=
  ∀ (h : Hdr) (s : State),
    (Plain h 0x0100 s → exec (.nop h) s = .next (answered h 0x0100 stOk s s.takeNo [])) ∧
    (Plain h 0x0101 s → exec (.getInfo h) s = .next (answered h 0x0101 stOk s s.takeNo
      (leBytes 4 sysId ++ leBytes 4 s.sys.release ++ leBytes 8 Config.uid ++ leBytes 1 (b2n s.sys.debugLocked) ++ leBytes 3 Config.features))) ∧
    (∀ first count, Plain h 0x0104 s → first ≤ 255 → 1 ≤ count → count ≤ 14 →
      exec (.logRead h first count) s = .next (answered h 0x0104 stOk s s.takeNo
        ((List.range count).flatMap (fun i => sliceBytes (spGet s.log.entries [] ((first + i) % 256)) 0 64)))) ∧
    (∀ d gm, Plain h 0x0202 s → d ≤ 1 → (s.domain d).gm = gm →
      exec (.domainStatus h d) s = .next (answered h 0x0202 stOk s s.takeNo
        (leBytes 1 (s.domain d).state ++ leBytes 8 (gm.elim 0 (fun a => a.identity)) ++ leInt 8 (s.domain d).offset ++ leInt 8 (s.domain d).meanDelay ++
          leInt 8 (if d = 0 then s.time.rateA else s.time.rateB) ++ leInt 2 (gm.elim 0 (fun a => a.utcOffset)) ++
          sliceBytes (s.domain d).metadata 0 20)))

/-- The reading commands of the PORT, FLOW, ROUTE, LAYER and AUDIO groups answer OK with what they read, and change nothing else. Model: the packing
of what the reference gives by name only is the model's (log entries 24, 32 and 168). -/
def Obligations.MediaReadsAnswer : Prop :=
  ∀ (h : Hdr) (s : State),
    (∀ port, Plain h 0x0304 s → port ≤ 31 → ∃ mask,
      exec (.portStatus h port) s = .next (answered h 0x0304 stOk s s.takeNo
        (leBytes 1 (b2n (s.port port).up) ++ leBytes 1 (s.port port).fault ++ leBytes 1 mask)) ∧
      ∀ i lane, i < 8 → (s.portLanes port)[i]? = some lane → mask.testBit i = (s.lane lane).blockLock) ∧
    (∀ kind index, Plain h 0x0404 s → kind ≤ 2 → index ≤ 63 →
      exec (.flowStatus h kind index) s = .next (answered h 0x0404 stOk s s.takeNo
        (leBytes 1 (b2n (s.flow kind index).a.active) ++ leBytes 1 (b2n (s.flow kind index).b.active) ++
          leBytes 1 ((s.flow kind index).slots.countP (fun d => d.state == 1)) ++
          (newestComplete (s.flow kind index)).elim noTime (fun x => timeBytes x.2.frameTime)))) ∧
    (∀ dest, Plain h 0x0503 s → destOk dest = true →
      exec (.routeStatus h dest) s = .next (answered h 0x0503 stOk s s.takeNo
        (leBytes 2 (routeCode (s.dest dest).route) ++
          leBytes 1 (if (s.dest dest).deferred.isSome then 2 else if (s.dest dest).trans.isSome then 1 else 0) ++
          (s.dest dest).shown.elim noTime (fun y => timeBytes y.time) ++ leBytes 8 (s.dest dest).lateSource ++
          leBytes 8 (s.dest dest).blendSingle))) ∧
    (∀ head, Plain h 0x0605 s → head ≤ 3 →
      exec (.leaseStatus h head) s = .next (answered h 0x0605 stOk s s.takeNo
        (leBytes 1 (s.leases.countP (fun l => l.2.head == head)) ++ leBytes 8 (s.head head).counts.leaseDrop ++
          leBytes 8 (s.head head).counts.breaches))) ∧
    (∀ head, Plain h 0x0C04 s → head ≤ 3 →
      exec (.audioStatus h head) s = .next (answered h 0x0C04 stOk s s.takeNo (leBytes 8 (s.head head).audio.gap ++ leInt 4 (s.headDelay head)))) ∧
    (∀ flow, Plain h 0x0C04 s → flow ≤ 63 →
      exec (.audioStatus h (64 + flow)) s = .next (answered h 0x0C04 stOk s s.takeNo
        (leBytes 8 (spGet s.txAudio {} flow).gap ++ leInt 4 (s.txDelay flow))))

/-- The reading commands of the HEAD, PANEL, LEDGER and CHECK groups answer OK with what they read, and change nothing else. Model: the packing of
what the reference gives by name only is the model's (log entries 99 and 168). -/
def Obligations.HeadReadsAnswer : Prop :=
  ∀ (h : Hdr) (s : State) (head : Nat), head ≤ 3 →
    (Plain h 0x0709 s → exec (.headStatus h head) s = .next (answered h 0x0709 stOk s s.takeNo
      (leBytes 1 (s.head head).state ++ leBytes 4 (s.head head).scan.frame ++ leBytes 1 (s.head head).bandNow ++
        leBytes 8 (s.head head).counts.skipped ++ leBytes 8 (s.head head).counts.abandonedP ++ leBytes 8 (s.head head).counts.abandonedC ++
        leBytes 8 0))) ∧
    (Plain h 0x080A s → exec (.panelStatus h head) s = .next (answered h 0x080A stOk s s.takeNo
      ((s.head head).therm.field ++ leBytes 1 (s.head head).bandNow ++ leBytes 4 (s.head head).therm.invalid ++
        (s.driversOf head).flatMap (fun d => leBytes 1 (s.driver d).link)))) ∧
    (Plain h 0x0903 s → exec (.ledgerStats h head) s = .next (answered h 0x0903 stOk s s.takeNo
      (leBytes 4 (s.head head).ledger.statFrame ++ leBytes 2 (s.head head).ledger.statMaxL ++ leBytes 4 (s.head head).ledger.statOverrides ++
        leBytes 4 (s.head head).ledger.statSat ++ leBytes 2 (s.head head).vcom.dac ++ leInt 2 (s.head head).vcom.e ++
        leInt 2 (s.head head).vcom.delta))) ∧
    (∀ check, Plain h 0x0B02 s → check ≤ 15 →
      exec (.checkRead h head check) s = .next (answered h 0x0B02 stOk s s.takeNo
        (leBytes 4 ((s.head head).check check).frame ++ leBytes 4 ((s.head head).check check).crc ++ leBytes 1 ((s.head head).check check).status ++
          leBytes 1 ((s.head head).check check).count ++ leBytes 1 (b2n ((s.head head).check check).learn) ++
          leBytes 4 ((s.head head).check check).expect))) ∧
    (∀ c views, Plain h 0x0A03 s → (s.head head).cfg = some c → c.scanMode ≠ 1 → viewsOk (some c) views = true →
      (s.asIf head (some { c with scanMode := 2 }) views).viewFail head (s.head head).panel.active.settings.settle = none →
      (s.asIf head (some { c with scanMode := 2 }) views).loadOk = true →
      (s.asIf head (some { c with scanMode := 2 }) views).audioFits head = true →
      exec (.viewTest h ⟨head, views⟩) s = .next (answered h 0x0A03 stOk s s.takeNo []))

/-- The reading commands of the PAIR, NVS, POWER and DIAG groups answer OK with what they read, and change nothing else. Model: the packing of what
the reference gives by name only, and the array that NVS_READ answers in a commit, are the model's (log entries 149 and 168). -/
def Obligations.ServiceReadsAnswer : Prop :=
  ∀ (h : Hdr) (s : State),
    (Plain h 0x0D04 s → exec (.pairStatus h) s = .next (answered h 0x0D04 stOk s s.takeNo
      (leBytes 1 s.pair.state ++ leBytes 1 s.pair.gen ++ leBytes 1 (b2n s.pair.baton) ++ leBytes 4 s.sync.divergent.length ++
        leBytes 8 s.sync.latchLate ++ leBytes 8 s.sync.selectMiss ++ leBytes 8 s.sync.phaseErr))) ∧
    (∀ page offset count, Plain h 0x0E01 s → nvsServed h s = true → page ≤ 4095 → offset ≤ 63 → 1 ≤ count → count ≤ 64 →
      exec (.nvsRead h page offset count) s = .next (answered h 0x0E01 stOk s s.takeNo
        ((List.range count).map (fun i => spGet (settledCells s.nvs) 0 (64 * page + (offset + i) % 64))))) ∧
    (∀ id, Plain h 0x0E03 s → recordSize id ≠ 0 → s.nvs.scanning = false →
      exec (.recordRead h id) s = .next (answered h 0x0E03 stOk s s.takeNo
        (leBytes 4 ((inUse s.nvs id).elim 0 (fun x => x.2)) ++ recordData s.nvs id))) ∧
    (∀ c, Plain h 0x0E05 s → c ≤ 31 → s.nvs.scanning = false →
      exec (.counterRead h c) s = .next (answered h 0x0E05 stOk s s.takeNo
        (leBytes 8 (counterValue { s.nvs with cells := settledCells s.nvs } c)))) ∧
    (Plain h 0x0F04 s → exec (.powerStatus h) s = .next (answered h 0x0F04 stOk s s.takeNo
      ((List.range 11).flatMap (fun d => leBytes 1 (s.pdShown d)) ++ leBytes 1 s.power.op ++ leBytes 1 (b2n s.power.pdIgnored) ++
        (List.range 8).flatMap (fun i => leInt 2 (s.power.temps.getD i 0))))) ∧
    (∀ index count, Plain h 0x1001 s → 1 ≤ count → count ≤ 14 → index + count ≤ 2 ^ 20 →
      exec (.tileRead h index count) s = .next (answered h 0x1001 stOk s s.takeNo ((List.range count).flatMap (fun i => s.tileRecord (index + i))))) ∧
    (∀ cluster, Plain h 0x1002 s → cluster ≤ 7 →
      exec (.engineCounters h cluster) s = .next (answered h 0x1002 stOk s s.takeNo
        (leBytes 8 (s.cluster cluster).steals ++ leBytes 8 (s.cluster cluster).failed)))

/-- The setting commands of the SYSTEM, TIME and DIAG groups act at once and answer OK. -/
def Obligations.SystemSettingsTakeEffectAtOnce : Prop :=
  ∀ (h : Hdr) (s : State),
    (∀ code enable vector mgt, Plain h 0x0102 s → code ∈ eventCodes → enable ≤ 1 → 4 ≤ vector → vector ≤ 63 → mgt ≤ 1 →
      exec (.eventCtl h code enable vector mgt) s = .next (answered h 0x0102 stOk s { s.takeNo with cp := { s.takeNo.cp with
        routes := spSet {} s.cp.routes code { off := enable == 0, vector := vector, mgt := mgt == 1 } } } [])) ∧
    (∀ p : DomainSetP, Plain h 0x0201 s → p.domain ≤ 1 → p.enable ≤ 1 → p.domainNumber ≤ 127 → p.primary ≤ 31 → (p.backup ≤ 31 ∨ p.backup = 255) →
        p.unicast ≤ 1 → 1 ≤ p.holdover → p.holdover ≤ 86400 →
      ∃ t, exec (.domainSet h p) s = .next (answered h 0x0201 stOk s t []) ∧
        (t.domain p.domain).state = (if p.enable = 1 then 1 else 0) ∧ (t.domain p.domain).number = p.domainNumber ∧
        (t.domain p.domain).primary = p.primary ∧ (t.domain p.domain).backup = p.backup ∧ (t.domain p.domain).unicast = (p.unicast == 1) ∧
        (t.domain p.domain).gmAddr = p.gmAddr ∧ (t.domain p.domain).holdover = p.holdover ∧ (t.domain p.domain).gm = none ∧
        (∀ d, d ≠ p.domain → t.domain d = s.domain d)) ∧
    (∀ p : TpConfigP, Plain h 0x0203 s → 16 ≤ p.jump → p.jump ≤ 1000000 → 1 ≤ p.slew → p.slew ≤ 100 → p.acquireAuto ≤ 1 → p.autoSelect ≤ 1 →
        p.revert ≤ 1 →
      exec (.tpConfig h p) s = .next (answered h 0x0203 stOk s { s.takeNo with time := { s.time with
        jumpLimit := p.jump, slew := p.slew, acquireAuto := p.acquireAuto == 1, autoSelect := p.autoSelect == 1, revert := p.revert == 1 } } [])) ∧
    (∀ pin edges minPulse report, Plain h 0x0207 s → pin ≤ 7 → 1 ≤ edges → edges ≤ 3 → 1 ≤ minPulse → minPulse ≤ 1000 → report ≤ 1 →
      exec (.evtInSet h pin edges minPulse report) s = .next (answered h 0x0207 stOk s
        (s.takeNo.setEvtIn pin { s.evtInOf pin with edges := edges, minPulse := minPulse, report := report == 1 }) [])) ∧
    (∀ pin, Plain h 0x0208 s → pin ≤ 7 →
      exec (.evtInRead h pin) s = .next (answered h 0x0208 stOk s (s.takeNo.setEvtIn pin { s.evtInOf pin with fifo := [] })
        (leBytes 1 (s.evtInOf pin).fifo.length ++ (s.evtInOf pin).fifo.flatMap (fun c =>
          timeBytes c.stamp ++ leBytes 2 c.gen ++ leBytes 1 (if c.rising then 1 else 2) ++ leBytes 1 0)))) ∧
    (∀ memory addr bits, Plain h 0x1003 s → memory ≤ 1 → 1 ≤ bits → bits ≤ 2 → addr < (if memory = 0 then storeSize else sramSize) →
      exec (.memInject h memory addr bits) s = .next (answered h 0x1003 stOk s
        (s.takeNo.setMarks memory (spSet 0 (s.marks memory) (addr / 4) bits)) []))

/-- TP_SELECT, TP_STEP, LAUNCH_CANCEL and EVT_OUT_SET: a switch that R65 accepts is made, one that it does not is REFUSED and a jump is reported; a
step is requested with the generation after it in the reply; the timed entries of a tag are dropped as CANCELLED; a pin takes its setting at once,
or after the pulse in progress, or at its launch time. Model: what an EVT_OUT setting does to a pulse in progress is the model's reading (log entry
74). -/
def Obligations.TimeCommandsTakeEffect : Prop :=
  ∀ (h : Hdr) (s : State),
    (∀ d, Plain h 0x0204 s → d ≤ 1 → d ≠ s.time.selected → s.switchOk d = true →
      exec (.tpSelect h d) s = .next (answered h 0x0204 stOk s
        { s.takeNo with time := { s.time with selected := d, home := d, refusing := false } } [])) ∧
    (∀ d, Plain h 0x0204 s → d ≤ 1 → d ≠ s.time.selected → s.switchOk d = false →
      exec (.tpSelect h d) s = .next ((answered h 0x0204 stRefused s s.takeNo []).switchRefused d)) ∧
    (∀ value, Plain h 0x0205 s → value.ns < 1000000000 →
      exec (.tpStep h 0 value) s = .next (answered h 0x0205 stOk s { s.takeNo with timeRegs := { s.timeRegs with nextStep := some .domain } }
        (leBytes 2 ((s.time.tpGen + 1) % 65536)))) ∧
    (∀ value, Plain h 0x0205 s → value.ns < 1000000000 → s.time.tracking = true →
      exec (.tpStep h 1 value) s = .next (answered h 0x0205 stOk s
        { s.takeNo with timeRegs := { s.timeRegs with nextStep := some (.value (unitsOf value)) } } (leBytes 2 ((s.time.tpGen + 1) % 65536)))) ∧
    (∀ value, Plain h 0x0205 s → value.ns < 1000000000 → s.time.tracking = false →
      exec (.tpStep h 1 value) s = .next (answered h 0x0205 stOk s (s.takeNo.stepTp (counterOf (unitsOf value)))
        (leBytes 2 ((s.time.tpGen + 1) % 65536)))) ∧
    (∀ queue tag, Plain h 0x0209 s → queue ≤ 4 → (∃ e ∈ s.cp.launch, e.timed = true ∧ e.queue = queue ∧ e.tag = tag) →
      ∃ t, exec (.launchCancel h queue tag) s = .next (answered h 0x0209 stOk s t
          (leBytes 2 (s.cp.launch.countP (fun e => e.timed && e.queue == queue && e.tag == tag)))) ∧
        t.cp.launch = s.cp.launch.filter (fun e => !(e.timed && e.queue == queue && e.tag == tag)) ∧
        t.cp.events.length = s.cp.events.length + s.cp.launch.countP (fun e => e.timed && e.queue == queue && e.tag == tag)) ∧
    (∀ p : EvtOutP, Plain h 0x0206 s → p.pin ≤ 7 → p.mode ≤ 4 → p.polarity ≤ 1 → p.start.ns < 1000000000 → p.period.ns < 1000000000 → p.head ≤ 3 →
        (p.mode = 0 ∨ (8 ≤ p.width ∧ p.width ≤ 1000000000)) → (p.mode = 3 → rateOk p.rate = true) →
        (∀ x, pulsePeriod p s = some x → nsU p.width < x) →
      ((s.evtOutOf p.pin).pulse = false → exec (.evtOutSet h p) s = .next (answered h 0x0206 stOk s
        (s.takeNo.setEvtOut p.pin { cfg := p, lastStart := some s.tp }) [])) ∧
      ((s.evtOutOf p.pin).pulse = true → exec (.evtOutSet h p) s = .next (answered h 0x0206 stOk s
        (s.takeNo.setEvtOut p.pin { s.evtOutOf p.pin with waiting := some p }) []))) ∧
    (∀ p : EvtOutP, Timed h 0x0206 4 s → p.pin ≤ 7 → p.mode ≤ 4 → p.polarity ≤ 1 → p.start.ns < 1000000000 → p.period.ns < 1000000000 → p.head ≤ 3 →
        (p.mode = 0 ∨ (8 ≤ p.width ∧ p.width ≤ 1000000000)) → (p.mode = 3 → rateOk p.rate = true) →
        (∀ x, pulsePeriod p s = some x → nsU p.width < x) →
      exec (.evtOutSet h p) s = .next (answered h 0x0206 stAccepted s (s.takeNo.enqueue (mkEntry h 4 (.evtOutSet h p) s)) []))

/-- The setting commands of the PORT and FLOW groups act at once and answer OK: quad, port, receive and transmit flow entries and their counters. -/
def Obligations.NetworkSettingsTakeEffectAtOnce : Prop :=
  ∀ (h : Hdr) (s : State),
    (∀ quad mode fec, Plain h 0x0301 s → quad ≤ 7 → mode ≤ 3 → fec ≤ 15 →
      ∃ t, exec (.quadSet h quad mode fec) s = .next (answered h 0x0301 stOk s t []) ∧
        t.quad quad = { mode := mode, fec := fec } ∧
        (s.quad quad = { mode := mode, fec := fec } → t = s.takeNo)) ∧
    (∀ p : PortSetP, Plain h 0x0302 s → p.port ≤ 31 → p.untagged ≤ 1 → p.vidCount ≤ 8 → p.ip4Len ≤ 32 →
        (∀ v ∈ p.vids.take p.vidCount, 1 ≤ v ∧ v ≤ 4094) →
      exec (.portSet h p) s = .next (answered h 0x0302 stOk s (s.takeNo.setPort p.port { s.port p.port with
        mac := p.mac, ip4 := p.ip4, ip4Len := p.ip4Len, ip6 := p.ip6, untagged := p.untagged == 1, vids := p.vids.take p.vidCount }) [])) ∧
    (∀ port clear, Plain h 0x0303 s → port ≤ 31 → clear ≤ 1 →
      exec (.portCounters h port clear) s = .next (answered h 0x0303 stOk s
        (if clear = 1 then s.takeNo.setPort port { s.port port with counters := [] } else s.takeNo)
        ((List.range 15).flatMap (fun k => leBytes 8 (spGet (s.port port).counters 0 k))))) ∧
    (∀ p : FlowSetP, Plain h 0x0401 s → flowOk p s = true → (p.kind = 1 → otherChannels s p.index + p.format.channels ≤ 1024) →
        (p.kind = 0 → videoTooBig p.format = false) → overLine s p.kind p.format p.legA = false →
        (p.legBPresent = 0 ∨ overLine s p.kind p.format p.legB = false) → (p.enable = 0 ∨ keyClash s p.kind p.index p = false) →
      ∃ t, exec (.flowSet h p) s = .next (answered h 0x0401 stOk s t []) ∧ (t.flow p.kind p.index).cfg = some p ∧
        (t.flow p.kind p.index).enabled = (p.enable == 1)) ∧
    (∀ kind index enable c, Plain h 0x0402 s → kind ≤ 2 → index ≤ 63 → enable ≤ 1 → (s.flow kind index).cfg = some c →
        (enable = 0 ∨ keyClash s kind index c = false) →
      ∃ t, exec (.flowEnable h kind index enable) s = .next (answered h 0x0402 stOk s t []) ∧ (t.flow kind index).enabled = (enable == 1) ∧
        (enable = 1 → t = s.takeNo.setFlow kind index { s.flow kind index with enabled := true })) ∧
    (∀ kind index enable c, Plain h 0x0402 s → kind = 3 ∨ kind = 4 → index ≤ 63 → enable ≤ 1 → (s.tx kind index).cfg = some c →
        (enable = 0 ∨ (txAdmits s c = true ∧ (kind = 3 ∨ otherTxChannels s index + (audioShape s c).1 ≤ 1024))) →
      exec (.flowEnable h kind index enable) s = .next (answered h 0x0402 stOk s
        (s.takeNo.setTx kind index { s.tx kind index with enabled := enable == 1, started := false, packet := 0 }) [])) ∧
    (∀ kind index clear, Plain h 0x0403 s → kind ≤ 2 → index ≤ 63 → clear ≤ 1 →
      ∃ t, exec (.flowCounters h kind index clear) s = .next (answered h 0x0403 stOk s t
        ((legCounters kind (s.flow kind index).a ++ legCounters kind (s.flow kind index).b ++ [(s.flow kind index).dup, (s.flow kind index).stale,
          (s.flow kind index).latePkt, (s.flow kind index).noSlot, (s.flow kind index).ancOverflow, (s.flow kind index).complete,
          (s.flow kind index).incomplete]).flatMap (leBytes 8))) ∧
        (clear = 1 → (t.flow kind index).dup = 0 ∧ (t.flow kind index).complete = 0 ∧ (t.flow kind index).incomplete = 0)) ∧
    (∀ kind index clear, Plain h 0x0403 s → kind = 3 ∨ kind = 4 → index ≤ 63 → clear ≤ 1 →
      exec (.flowCounters h kind index clear) s = .next (answered h 0x0403 stOk s
        (s.takeNo.setTx kind index (if clear = 1 then { s.tx kind index with linkDown := 0, repeats := 0, late := 0 } else s.tx kind index))
        ([(s.tx kind index).linkDown, (s.tx kind index).repeats, (s.tx kind index).late].flatMap (leBytes 8)))) ∧
    (∀ p : TxSetP, Plain h 0x0410 s → txOk p s = true → txOverLine s p = false → (p.enable = 0 ∨ txAdmits s p = true) →
        (p.kind = 3 ∨ p.enable = 0 ∨ otherTxChannels s p.index + (audioShape s p).1 ≤ 1024) →
      ∃ t, exec (.txSet h p) s = .next (answered h 0x0410 stOk s t []) ∧
        t.tx p.kind p.index = { s.tx p.kind p.index with cfg := some p, enabled := p.enable == 1, started := false, packet := 0 } ∧
        (p.kind = 3 → t = s.takeNo.setTx 3 p.index { s.tx 3 p.index with cfg := some p, enabled := p.enable == 1, started := false, packet := 0 }))

/-- The commands of mark B of the ROUTE, LAYER and AUDIO groups: on an object without frames they act at once and CMD_APPLIED names no frame; on any
other they wait, for the next composition start or for their launch time. Model: that an idle object is acted on at once and the frame number
0xFFFF_FFFF are the model's (log entries 31, 95 and 167). -/
def Obligations.MatrixCommandsActAtBoundaries : Prop :=
  ∀ (h : Hdr) (s : State),
    (∀ p : RouteSetP, destOk p.dest = true → p.transition ≤ 2 → p.switchWait ≤ 255 → (p.dest.kind = 0 → s.sys.windDown = false) →
        ((p.kind = 0 ∧ p.source = 0) ∨ (p.kind = 1 ∧ p.source ≤ 63) ∨ (p.kind = 2 ∧ p.dest.kind = 0 ∧ p.source / 16 = destHead p.dest)) →
        (p.transition = 0 ∨ (p.transition = 1 ∧ 1 ≤ p.frames ∧ p.frames ≤ 256) ∨ (p.transition = 2 ∧ 2 ≤ p.frames ∧ p.frames ≤ 256)) →
      (Plain h 0x0501 s → s.destIdle p.dest = true → exec (.routeSet h p) s = .next (answered h 0x0501 stAccepted s
        (s.takeNo.routeAtOnce p.dest p (mkEntry h (destQueue p.dest) (.routeSet h p) s)) [])) ∧
      (Plain h 0x0501 s → s.destIdle p.dest = false → exec (.routeSet h p) s = .next (waiting h 0x0501 (destQueue p.dest) (.routeSet h p) s [] [])) ∧
      (Timed h 0x0501 (destQueue p.dest) s → exec (.routeSet h p) s = .next (waiting h 0x0501 (destQueue p.dest) (.routeSet h p) s [] []))) ∧
    (∀ p : OutputSetP, Plain h 0x0502 s → outputOk p true = true → p.lutBuffer = 0 → ratioOk p.crop.w p.crop.h p.width p.height = true →
        s.outputAudioFits p.output p.latency = true →
      ((s.output p.output).cfg = none →
        exec (.outputSet h p) s = .next (appliedNow h 0x0502 4 (.outputSet h p) s (s.takeNo.outputApply p []) 255 [])) ∧
      ((s.output p.output).cfg ≠ none → exec (.outputSet h p) s = .next (waiting h 0x0502 4 (.outputSet h p) s [] []))) ∧
    (∀ p : LayerSetP, Plain h 0x0601 s → p.head ≤ 3 → p.layer ≤ 15 → p.enable ≤ 1 → p.z ≤ 15 → p.dest.w ≤ 32768 → p.dest.h ≤ 32768 →
        -32768 ≤ p.dest.x → p.dest.x ≤ 32767 → -32768 ≤ p.dest.y → p.dest.y ≤ 32767 → p.g ≤ 255 → p.views ≤ 15 → p.blend ≤ 1 → p.lossAction ≤ 1 →
        p.hold ≤ 60000 → p.bypass ≤ 1 → p.m1Mode ≤ 1 → bit p.fill 30 = false → (∀ x ∈ p.m2, -131072 ≤ x ∧ x ≤ 131071) → 1 ≤ p.dest.w → 1 ≤ p.dest.h →
        (p.enable = 1 → ∀ m < 16, m ≠ p.layer → s.askedLayer p.head m ≠ (true, p.z)) → ratioOk p.crop.w p.crop.h p.dest.w p.dest.h = true →
        s.sys.windDown = false →
      ((s.head p.head).idle = true → exec (.layerSet h p) s = .next (appliedNow h 0x0601 p.head (.layerSet h p) s
        (s.takeNo.setLayer (16 * p.head + p.layer) { s.layer (16 * p.head + p.layer) with cfg := layerCfgOf p }) p.head [])) ∧
      ((s.head p.head).idle = false → exec (.layerSet h p) s = .next (waiting h 0x0601 p.head (.layerSet h p) s [] []))) ∧
    (∀ dest axis buffer, Plain h 0x0602 s → destOk dest = true → axis ≤ 1 → (dest.kind = 0 → s.sys.windDown = false) →
      (s.destIdle dest = true → exec (.layerCoef h dest axis 1 buffer) s = .next (appliedNow h 0x0602 (destQueue dest) (.layerCoef h dest axis 1 buffer) s
        (s.takeNo.setDest dest (if axis = 0 then { s.dest dest with coefH := none } else { s.dest dest with coefV := none })) (destField dest) [])) ∧
      (s.destIdle dest = false →
        exec (.layerCoef h dest axis 1 buffer) s = .next (waiting h 0x0602 (destQueue dest) (.layerCoef h dest axis 1 buffer) s [] []))) ∧
    (∀ source flow map, Plain h 0x0C01 s → source ≤ 63 → flow ≤ 63 ∨ flow = 255 → mapOk map = true → (flow = 255 ∨ s.assocFits source flow = true) →
      exec (.audioAssoc h source flow map) s = .next (appliedNow h 0x0C01 4 (.audioAssoc h source flow map) s
        { s.takeNo with assocs := spSet {} s.assocs source (if flow = 255 then {} else { flow := flow, map := map }) } 255 [])) ∧
    (∀ (p : AudioHeadP) (d : Int), Plain h 0x0C02 s → p.head ≤ 3 → p.layer ≤ 15 → -100000000 ≤ p.trim → p.trim ≤ 100000000 → p.tdmEnable ≤ 1 →
        p.tdmFormat ≤ 1 → mapOk p.map = true → s.sys.windDown = false → d = delaySamples (s.videoLatency p.head p.trim) →
        s.delayFits (s.assocOf (s.layer (16 * p.head + p.layer)).route.route).flow d = true →
      ((s.head p.head).idle = true → exec (.audioHead h p) s = .next (appliedNow h 0x0C02 p.head (.audioHead h p) s
        (s.takeNo.audioHeadApply p none) p.head (leInt 4 d))) ∧
      ((s.head p.head).idle = false → exec (.audioHead h p) s = .next (waiting h 0x0C02 p.head (.audioHead h p) s [] (leInt 4 d)))) ∧
    (∀ flow index map, Plain h 0x0C03 s → flow ≤ 63 → index ≤ 63 → mapOk map = true →
      exec (.audioTx h flow 1 index map) s = .next (appliedNow h 0x0C03 4 (.audioTx h flow 1 index map) s
        (s.takeNo.audioTxApply flow 1 index map) 255 (leInt 4 0))) ∧
    (∀ flow index map c d, Plain h 0x0C03 s → flow ≤ 63 → index ≤ 63 → mapOk map = true → (s.output index).cfg = some c → d = delaySamples (nsU c.latency) →
        s.delayFits (s.assocOf (s.output index).route.route).flow d = true →
      exec (.audioTx h flow 0 index map) s = .next (waiting h 0x0C03 4 (.audioTx h flow 0 index map) s [] (leInt 4 d)))

/-- LAYER_PRESENT takes or continues a lease at its acceptance, and its reply carries the lease; on an idle head the present takes effect at once,
on any other it waits. Model: what happens on an idle head is the model's (log entries 95, 98 and 167). -/
def Obligations.PresentsTakeALease : Prop :=
  ∀ (h : Hdr) (s : State) (p : PresentP), p.head ≤ 3 → p.layer ≤ 15 → p.format ≤ 1 → p.ordered ≤ 1 → p.width ≠ 0 → p.height ≠ 0 → 4 * p.width ≤ p.pitch →
      p.base % 4096 = 0 → p.pitch % 64 = 0 → p.base + p.pitch * p.height ≤ 0x7FC000000 → s.sys.windDown = false → s.routedTo p.head p.layer = true →
      ((s.leaseOf p).isSome = true ∨ s.leaseFree.isSome = true) →
    (Plain h 0x0603 s → (s.head p.head).idle = true → exec (.layerPresent h p) s = .next (appliedNow h 0x0603 p.head (.layerPresent h p) s
      ((s.takeNo.presentAccept p).presentApply p none) p.head (leBytes 1 (((s.takeNo.presentAccept p).leaseOf p).getD 0)))) ∧
    (Plain h 0x0603 s → (s.head p.head).idle = false → exec (.layerPresent h p) s = .next (answered h 0x0603 stAccepted s
      ((s.takeNo.presentAccept p).enqueue (mkEntry h p.head (.layerPresent h p) s)) (leBytes 1 (((s.takeNo.presentAccept p).leaseOf p).getD 0)))) ∧
    (Timed h 0x0603 p.head s → exec (.layerPresent h p) s = .next (answered h 0x0603 stAccepted s
      ((s.takeNo.presentAccept p).enqueue (mkEntry h p.head (.layerPresent h p) s)) (leBytes 1 (((s.takeNo.presentAccept p).leaseOf p).getD 0)))) ∧
    (s.leaseOf p = none → ∀ i, s.leaseFree = some i →
      spGet (s.takeNo.presentAccept p).leases {} i = { head := p.head, layer := p.layer, base := p.base, len := p.pitch * p.height })

/-- The commands of mark B of the HEAD, PANEL, LEDGER, VIEW and CHECK groups: on an idle head they act at once and CMD_APPLIED names no frame; on
any other they wait for the boundary that their rules name. Model: the frame number 0xFFFF_FFFF of a command that takes effect on no frame is the
model's (log entry 167). -/
def Obligations.HeadCommandsActAtBoundaries : Prop :=
  ∀ (h : Hdr) (s : State) (n : Nat), n ≤ 3 → s.sys.windDown = false →
    (∀ p : HeadSrP, Plain h 0x0705 s → p.head = n → p.command ≤ 2 → p.mode ≤ 2 → 100 ≤ p.idle → p.idle ≤ 600000 → p.period ≤ 50000 → 60 ≤ p.holdLimit →
        p.holdLimit ≤ 2000 → p.period < 1000 * p.holdLimit → (s.head n).framePeriod ≤ usU p.period →
        (p.command = 1 → (s.head n).state = 3 ∧ p.mode ≠ 0) → (p.command = 2 → (s.head n).state = 4) →
      ((s.head n).stoppable = false ∨ p.command = 2 →
        exec (.headSr h p) s = .next (answered h 0x0705 stAccepted s (s.takeNo.srApply p (mkEntry h n (.headSr h p) s)) [])) ∧
      ((s.head n).stoppable = true → p.command ≠ 2 → exec (.headSr h p) s = .next (waiting h 0x0705 n (.headSr h p) s [] []))) ∧
    (∀ p : HeadPictureP, Plain h 0x0706 s → p.head = n → p.background < 2 ^ 30 → p.lutBuffer = 0 →
      ((s.head n).idle = true → exec (.headPicture h p) s = .next (appliedNow h 0x0706 n (.headPicture h p) s (s.takeNo.modHead n (fun x =>
        { x with picture := { background := p.background, peak := p.peak, tluts := (lutsFrom 0 []).1, eluts := (lutsFrom 0 []).2 } })) n [])) ∧
      ((s.head n).idle = false → exec (.headPicture h p) s = .next (waiting h 0x0706 n (.headPicture h p) s [] []))) ∧
    (∀ p : VcomP, Plain h 0x0901 s → p.head = n → p.vmax ≤ 4095 → p.vmin ≤ p.v0 → p.v0 ≤ p.vmax → p.senseEnable ≤ 1 → p.senseTarget ≤ 4095 →
        1 ≤ p.senseDelay → p.senseDelay ≤ 1000 → 1 ≤ p.senseN → p.senseN ≤ 64 → 1 ≤ p.senseLimit → p.senseLimit ≤ 2047 → -256 ≤ p.trimGain →
        p.trimGain ≤ 256 → 1 ≤ p.trimStep → p.trimStep ≤ 64 →
      ((s.head n).idle = true → exec (.vcomSet h p) s = .next (appliedNow h 0x0901 n (.vcomSet h p) s (s.takeNo.modHead n (fun x =>
        { x with vcom := { x.vcom with cfg := p, dac := if x.vcom.driven then p.v0 else x.vcom.dac } })) n [])) ∧
      ((s.head n).idle = false → exec (.vcomSet h p) s = .next (waiting h 0x0901 n (.vcomSet h p) s [] []))) ∧
    (∀ allowed time code, Plain h 0x0902 s → 500 ≤ time → time ≤ 30000 → code ≤ 1023 → allowedOk allowed = true →
      ((s.head n).idle = true → exec (.ledgerSet h n allowed time code) s = .next (appliedNow h 0x0902 n (.ledgerSet h n allowed time code) s
        (s.takeNo.modHead n (fun x => { x with ledger := { x.ledger with allowed := allowed, warmTime := time, warmCode := code } })) n [])) ∧
      ((s.head n).idle = false → exec (.ledgerSet h n allowed time code) s = .next (waiting h 0x0902 n (.ledgerSet h n allowed time code) s [] []))) ∧
    (Plain h 0x0906 s → (s.head n).cfg ≠ none →
      ((s.head n).idle = true → exec (.ledgerClear h n) s = .next (appliedNow h 0x0906 n (.ledgerClear h n) s
        (s.takeNo.modHead n (fun x => { x with ledger := { x.ledger with clearRows := List.range x.th } })) n [])) ∧
      ((s.head n).idle = false → exec (.ledgerClear h n) s = .next (waiting h 0x0906 n (.ledgerClear h n) s [] []))) ∧
    (s.viewFail n (s.head n).panel.shadow.settings.settle = none →
      (Plain h 0x0808 s → (s.head n).idle = true → exec (.activate h n) s = .next (appliedNow h 0x0808 n (.activate h n) s (s.takeNo.activateNow n) n [])) ∧
      (Plain h 0x0808 s → (s.head n).idle = false → exec (.activate h n) s = .next (waiting h 0x0808 n (.activate h n) s [] [])) ∧
      (Timed h 0x0808 n s → exec (.activate h n) s = .next (waiting h 0x0808 n (.activate h n) s [] []))) ∧
    (∀ base, base % 4096 = 0 → base + muraBytes (s.head n) ≤ 0x7FC000000 → (s.head n).cfg ≠ none → (s.head n).panel.muraRelease = none →
        (∀ e ∈ s.cp.launch, ∀ g b, e.cmd ≠ .muraSwap g n b) →
      (Plain h 0x0809 s → (s.head n).idle = true →
        exec (.muraSwap h n base) s = .next (appliedNow h 0x0809 n (.muraSwap h n base) s (s.takeNo.muraApply n base) n [])) ∧
      (Plain h 0x0809 s → (s.head n).idle = false → exec (.muraSwap h n base) s = .next (waiting h 0x0809 n (.muraSwap h n base) s [] [])) ∧
      (Timed h 0x0809 n s → exec (.muraSwap h n base) s = .next (waiting h 0x0809 n (.muraSwap h n base) s [] []))) ∧
    (∀ p : CheckSetP, p.head = n → p.check ≤ 15 → p.enable ≤ 1 → p.tap ≤ 1 → 1 ≤ p.cw → p.cw ≤ 32768 → 1 ≤ p.ch → p.ch ≤ 32768 → p.e ≤ 8 → p.mode ≤ 1 →
        1 ≤ p.missLimit → p.missLimit ≤ 255 → p.action ≤ 2 → p.view ≤ 3 ∨ p.view = 255 → (s.head n).cfg ≠ none → p.x0 + p.cw ≤ (s.head n).w →
        p.y0 + p.ch ≤ (s.head n).hh →
      (Plain h 0x0B01 s → (s.head n).idle = true →
        exec (.checkSet h p) s = .next (appliedNow h 0x0B01 n (.checkSet h p) s (s.takeNo.setCheck n p.check { (s.head n).check p.check with
          cfg := some p, learn := p.mode == 1, expect := p.expect, count := 0, accFrame := none, accDone := false, parts := [] }) n [])) ∧
      (Plain h 0x0B01 s → (s.head n).idle = false → exec (.checkSet h p) s = .next (waiting h 0x0B01 n (.checkSet h p) s [] [])) ∧
      (Timed h 0x0B01 n s → exec (.checkSet h p) s = .next (waiting h 0x0B01 n (.checkSet h p) s [] [])))

/-- VIEW_SET and VIEW_CLEAR: on an idle head the view set and the scan mode change at once; on a scanning head the timing change waits for a latch
point, and one that waited before it is replaced. Model: how timing changes wait and replace one another is the model's reading (log entry 126). -/
def Obligations.ViewCommandsChangeTheTiming : Prop :=
  ∀ (h : Hdr) (s : State) (n : Nat) (c : HeadConfigP), n ≤ 3 → s.sys.windDown = false → (s.head n).scan.changing = false → (s.head n).cfg = some c →
    (∀ views, c.scanMode ≠ 1 → viewsOk (some c) views = true →
        (s.asIf n (some { c with scanMode := 2 }) views).viewFail n (s.head n).panel.active.settings.settle = none →
        (s.asIf n (some { c with scanMode := 2 }) views).loadOk = true → (s.asIf n (some { c with scanMode := 2 }) views).audioFits n = true →
      (Plain h 0x0A01 s → (s.head n).idle = true → exec (.viewSet h ⟨n, views⟩) s = .next (answered h 0x0A01 stAccepted s
        ((((s.replaceTiming n).takeNo).viewsNow n 2 views).entryApplied (mkEntry h n (.viewSet h ⟨n, views⟩) (s.replaceTiming n)) noFrame n) [])) ∧
      (Plain h 0x0A01 s → (s.head n).idle = false → exec (.viewSet h ⟨n, views⟩) s = .next (answered h 0x0A01 stAccepted s
        ((s.replaceTiming n).takeNo.enqueue (mkEntry h n (.viewSet h ⟨n, views⟩) (s.replaceTiming n))) []))) ∧
    (∀ mode, mode ≤ 1 → (mode = 1 → cfgOk { c with scanMode := 1 } = true) → (s.head n).inViews = true →
        (s.asIf n (some { c with scanMode := mode }) []).timingRefused n = false →
      (Plain h 0x0A02 s → (s.head n).idle = true → exec (.viewClear h n mode) s = .next (answered h 0x0A02 stAccepted s
        ((((s.replaceTiming n).takeNo).viewsNow n mode []).entryApplied (mkEntry h n (.viewClear h n mode) (s.replaceTiming n)) noFrame n) [])) ∧
      (Plain h 0x0A02 s → (s.head n).idle = false → exec (.viewClear h n mode) s = .next (answered h 0x0A02 stAccepted s
        ((s.replaceTiming n).takeNo.enqueue (mkEntry h n (.viewClear h n mode) (s.replaceTiming n))) [])))

/-- HEAD_CONFIG and HEAD_UNCONFIG: an unconfigured head takes its configuration and its allotment at once; a timing change of a head that runs
frames waits, and one that waited before it is replaced; an OFF or PARKED head gives its configuration and its allotment back. Model: how timing
changes wait and replace one another is the model's reading (log entry 126). -/
def Obligations.HeadsAreConfigured : Prop :=
  ∀ (h : Hdr) (s : State),
    (∀ (p : HeadConfigP) (a : Nat × Nat × Nat × Nat), Plain h 0x0701 s → (s.head p.head).cfg = none → cfgOk p = true → s.panelClash p = false →
        s.sys.windDown = false → (s.asIf p.head (some p) (if p.scanMode = 2 then (s.head p.head).views else [])).timingRefused p.head = false →
        (s.pair.enable = true → ∀ n ≤ 3, n ≠ p.head → (s.head n).cfg = none) → s.allotFor p.w p.h = some a →
      exec (.headConfig h p) s = .next (answered h 0x0701 stOk s (s.takeNo.configNow p a) (leBytes 4 a.1 ++ leBytes 2 a.2.2.2)) ∧
      (s.takeNo.configNow p a).head p.head = { s.head p.head with
        cfg := some p, allot := { tileBase := a.1, tiles := a.2.1, ringFirst := a.2.2.1, ringBanks := a.2.2.2, low := lowOf p, crit := critOf p } }) ∧
    (∀ p c : HeadConfigP, (s.head p.head).cfg = some c → (s.head p.head).stoppable = true → (s.head p.head).scan.changing = false → cfgOk p = true →
        c.w = p.w → c.h = p.h → s.panelClash p = false → s.sys.windDown = false →
        (s.asIf p.head (some p) (if p.scanMode = 2 then (s.head p.head).views else [])).timingRefused p.head = false →
        (s.pair.enable = true → ∀ n ≤ 3, n ≠ p.head → (s.head n).cfg = none) → (p.scanMode = 1 → (s.head p.head).inViews = false) →
      (Plain h 0x0701 s ∨ Timed h 0x0701 p.head s) →
      exec (.headConfig h p) s = .next (answered h 0x0701 stAccepted s
        ((s.replaceTiming p.head).takeNo.enqueue (mkEntry h p.head (.headConfig h p) (s.replaceTiming p.head)))
        (leBytes 4 (s.head p.head).allot.tileBase ++ leBytes 2 (s.head p.head).allot.ringBanks))) ∧
    (∀ n, Plain h 0x0702 s → n ≤ 3 → s.sys.windDown = false → (s.head n).power.phase = 0 → (s.head n).cfg ≠ none →
        ((s.head n).state = 0 ∨ (s.head n).state = 1) →
      exec (.headUnconfig h n) s = .next (answered h 0x0702 stOk s (s.takeNo.unconfig n) []))

/-- HEAD_START and HEAD_STOP take effect as they are accepted, or at their launch time; WARMUP_END, PANEL_POWERDOWN, PANEL_WINDUP and DRIVER_RETRAIN
start the process that ends later. Model: how a stop meets the frames ahead is the model's (log entry 127). -/
def Obligations.HeadsStartAndStop : Prop :=
  ∀ (h : Hdr) (s : State) (n : Nat), n ≤ 3 → s.sys.windDown = false →
    ((s.head n).power.phase = 0 → (s.head n).state = 1 → s.startOk n = true →
      (Plain h 0x0703 s → exec (.headStart h n) s = .next (answered h 0x0703 stAccepted s
        ((s.takeNo.startHead n).entryApplied (mkEntry h n (.headStart h n) s) (((s.takeNo.startHead n).head n).scan.firstFrame % 2 ^ 32) n) [])) ∧
      (Timed h 0x0703 n s → exec (.headStart h n) s = .next (waiting h 0x0703 n (.headStart h n) s [] []))) ∧
    ((s.head n).stoppable = true →
      (Plain h 0x0704 s → exec (.headStop h n) s = .next (answered h 0x0704 stAccepted s
        ((s.takeNo.stopHead n).addProc (procOf h 0x0704 n s)) [])) ∧
      (Timed h 0x0704 n s → exec (.headStop h n) s = .next (waiting h 0x0704 n (.headStop h n) s [] []))) ∧
    (Plain h 0x0708 s → (s.head n).state = 2 → (s.head n).ledger.warmEnding = false →
      exec (.warmupEnd h n) s = .next (((answered h 0x0708 stAccepted s s.takeNo []).modHead n (fun x =>
        { x with ledger := { x.ledger with warmEnding := true } })).addProc (procOf h 0x0708 n s))) ∧
    (Plain h 0x0802 s → (s.head n).power.phase = 0 →
      ((s.head n).state = 1 →
        exec (.panelPowerdown h n) s = .next (((answered h 0x0802 stAccepted s s.takeNo []).addProc (procOf h 0x0802 n s)).powerDown n)) ∧
      ((s.head n).state ≠ 0 → (s.head n).state ≠ 1 →
        exec (.panelPowerdown h n) s = .next ((((answered h 0x0802 stAccepted s s.takeNo []).addProc (procOf h 0x0802 n s)).stopHead n).modHead n
          (fun x => { x with power := { x.power with downAfterPark := true } })))) ∧
    (Plain h 0x0801 s → s.standby = false → (s.head n).state = 0 → (s.head n).power.phase = 0 → s.sys.pfail = false → s.sys.pfailClear = true →
        s.clocks.refclkOk = true → ((s.head n).cfg = none ∨ s.layoutOk n (s.head n).w = true) →
      exec (.panelWindup h n) s = .next (((s.takeNo.addRunning (runningOf h 0x0801 n (.panelWindup h n) s)).modHead n (fun x =>
        { x with power := { x.power with phase := 1, claims := 0 } })).batonPins)) ∧
    (∀ d, Plain h 0x0805 s → d ≤ 95 → s.mayTrain d = true →
      exec (.driverRetrain h d) s = .next (((answered h 0x0805 stAccepted s s.takeNo []).linkTrain d false).addProc (procOf h 0x0805 d s)))

/-- The settings of heads and drivers that are stored for a later start, wind-up or activation: each is written at once and answered OK. -/
def Obligations.HeadSettingsAreStored : Prop :=
  ∀ (h : Hdr) (s : State), s.sys.windDown = false →
    (∀ n policy, Plain h 0x0604 s → n ≤ 3 → policy ≤ 1 → exec (.leasePolicy h n policy) s =
      .next (answered h 0x0604 stOk s (s.takeNo.setHead n { s.head n with land := policy == 1 }) [])) ∧
    (∀ p : HeadGateP, Plain h 0x0707 s → p.head ≤ 3 → p.polarity < 2 ^ 19 → 20 ≤ p.gckDelay → p.gckDelay ≤ 5000 → 20 ≤ p.gateGuard → p.gateGuard ≤ 5000 →
        p.flush ≤ 8 → 100 ≤ p.parkHold → p.parkHold ≤ 20000 → p.phases ∈ [2, 4, 8, 16] →
        (s.modHead p.head (fun x => { x with gate := gateOf p, gateNow := gateOf p })).pitchOk p.head = true →
        (s.modHead p.head (fun x => { x with gate := gateOf p, gateNow := gateOf p })).viewFail p.head
          (s.head p.head).panel.active.settings.settle = none →
      exec (.headGate h p) s = .next (answered h 0x0707 stOk s (s.takeNo.setHead p.head { s.head p.head with gate :=
        { phases := p.phases, pol := p.polarity, gckDelay := p.gckDelay, gateGuard := p.gateGuard, flush := p.flush, parkHold := p.parkHold } }) [])) ∧
    (∀ p : PowerSeqP, Plain h 0x0803 s → p.head ≤ 3 → 1 ≤ p.penUsed → p.penUsed ≤ 15 → p.vcomSettle ≤ 20000 → p.penDelay ≤ 50000 → 1 ≤ p.pgTimeout →
        p.pgTimeout ≤ 100 → p.trainDelay ≤ 50000 → 100 ≤ p.wdHold → p.wdHold ≤ 4000 → p.penGap ≤ 300 →
      exec (.powerSeqSet h p) s = .next (answered h 0x0803 stOk s
        (s.takeNo.setHead p.head { s.head p.head with power := { (s.head p.head).power with seq := p } }) [])) ∧
    (∀ p : DriverSetP, Plain h 0x0804 s → p.driver ≤ 95 → p.head ≤ 3 → p.first ≤ 98256 → 240 ≤ p.ch → p.ch ≤ 1920 → 1 ≤ p.lanes → p.lanes ≤ 2 → p.rev ≤ 1 →
        p.first % 48 = 0 → p.ch % 48 = 0 → s.driverOverlap p = false → ((s.head p.head).state = 0 ∨ (s.head p.head).state = 1) →
        ((s.driver p.driver).head > 3 ∨ (s.head (s.driver p.driver).head).state = 0 ∨ (s.head (s.driver p.driver).head).state = 1) →
        (s.driverStore p).pitchOk p.head = true → (s.driverStore p).viewFail p.head (s.head p.head).panel.active.settings.settle = none →
      exec (.driverSet h p) s = .next (answered h 0x0804 stOk s (s.takeNo.setDriver p.driver { s.driver p.driver with
        head := p.head, first := p.first, ch := p.ch, lanes := p.lanes, rev := p.rev == 1, vendor := sliceBytes p.vendor 0 32, config := [] }) [])) ∧
    (∀ p : SettingsP, Plain h 0x0807 s → p.head ≤ 3 → p.gammaBypass ≤ 1 → p.muraEnable ≤ 1 → p.odEnable ≤ 1 → p.depth ≤ 4 → p.restLevel ≤ 16383 →
        p.thermMin ≤ p.thermMax → p.thermMax ≤ 4095 → p.faultBand ≤ 7 → p.thresholds.length = 7 → p.settle.length = 8 → p.resScale ∈ [1, 2, 4, 8] →
        (∀ j < 6, p.thresholds.getD j 0 + 32 ≤ p.thresholds.getD (j + 1) 0) → (∀ x ∈ p.settle, x ≤ 20000) →
      ((s.head p.head).panel.copying = false → exec (.settingsLoad h p) s = .next (answered h 0x0807 stOk s (s.takeNo.modHead p.head (fun x =>
        { x with panel := { x.panel with shadow := { x.panel.shadow with settings := settingsOf p } } })) [])) ∧
      ((s.head p.head).panel.copying = true → s.sys.ready = true →
        exec (.settingsLoad h p) s = .next (s.takeNo.addRunning (runningOf h 0x0807 p.head (.settingsLoad h p) s)))) ∧
    (∀ n table index buffer bs t, n ≤ 3 → buffer + tableBytes table ≤ storeSize → tableOk table index = true → s.storeOn = true →
        s.readMem 0 buffer (tableBytes table) = (bs, false, t) → tableValid table bs = true → Plain h 0x0806 t → t.sys.windDown = false →
        (t.head n).panel.copying = false →
      exec (.tableLoad h n table index buffer) s = .next (answered h 0x0806 stOk t (t.takeNo.tableLoad n table index bs) []))

/-- LEDGER_SNAPSHOT waits for its frame; LEDGER_TABLE_READ writes the rows of a table into the buffer. Model: when LEDGER_SNAPSHOT ends is the
model's (log entry 117). -/
def Obligations.LedgersAreRead : Prop :=
  ∀ (h : Hdr) (s : State) (n : Nat) (c : HeadConfigP), n ≤ 3 → (s.head n).cfg = some c →
    (∀ frame buffer size, Plain h 0x0904 s → buffer + size ≤ storeSize → panelBytes (s.head n).w (s.head n).hh ≤ size → s.snapAhead n frame = true →
      exec (.ledgerSnapshot h n frame buffer size) s =
        .next ((answered h 0x0904 stAccepted s s.takeNo []).addProc { procOf h 0x0904 n s with arg := frame, buffer := buffer })) ∧
    (∀ first rows buffer bs t, Plain h 0x0905 s → rows ≠ 0 → first + rows ≤ (s.head n).th → s.storeOn = true → buffer + 64 * rows ≤ storeSize →
        s.readMem 1 (rowTimeAt n first) (64 * rows) = (bs, false, t) → Plain h 0x0905 t →
      exec (.ledgerTableRead h n 0 first rows buffer) s = .next (answered h 0x0905 stOk t (t.takeNo.guardedWrite buffer bs).2 [])) ∧
    (∀ first rows buffer bs t, Plain h 0x0905 s → rows ≠ 0 → first + rows ≤ (s.head n).th → s.storeOn = true → buffer + 8 * rows ≤ storeSize →
        s.readMem 1 (rowCheckAt n first) (8 * rows) = (bs, false, t) → Plain h 0x0905 t →
      exec (.ledgerTableRead h n 1 first rows buffer) s = .next (answered h 0x0905 stOk t (t.takeNo.guardedWrite buffer bs).2 []))

/-- PAIR_SET, PAIR_HANDOVER and PAIR_REJOIN. Model: when the active takes its standby for HOT, and PAIR_HANDOVER on a standby, are the model's (log
entries 157 and 159). -/
def Obligations.PairCommandsTakeEffect : Prop :=
  ∀ (h : Hdr) (s : State),
    (∀ prefer auto, Plain h 0x0D01 s → prefer ≤ 1 → auto ≤ 1 → s.pair.port ≤ 1 → s.pair.enable = false → headNums.countP (fun n => (s.head n).cfg.isSome) ≤ 1 →
      exec (.pairSet h 1 prefer auto s.pair.port) s = .next (answered h 0x0D01 stOk s
        ({ s.takeNo with pair := { s.pair with enable := true, prefer := prefer, auto := auto == 1, state := 1 } } : State).linkFresh [])) ∧
    (∀ enable prefer auto port, Plain h 0x0D01 s → enable ≤ 1 → prefer ≤ 1 → auto ≤ 1 → port ≤ 1 → s.pair.enable = (enable == 1) →
        (enable = 0 ∨ headNums.countP (fun n => (s.head n).cfg.isSome) ≤ 1) → (port = s.pair.port ∨ ∀ n ∈ headNums, (s.head n).state = 0) →
      exec (.pairSet h enable prefer auto port) s = .next (answered h 0x0D01 stOk s
        { s.takeNo with pair := { s.pair with enable := enable == 1, prefer := prefer, auto := auto == 1, port := port } } [])) ∧
    (∀ prefer auto, Plain h 0x0D01 s → prefer ≤ 1 → auto ≤ 1 → s.pair.port ≤ 1 → s.pair.enable = true →
      ∃ t, exec (.pairSet h 0 prefer auto s.pair.port) s = .next (answered h 0x0D01 stOk s t []) ∧ t.pair.state = 0 ∧ t.pair.enable = false ∧
        t.pair.sent = [] ∧ t.sync.divergent = [] ∧ t.sync.requests = [] ∧ t.sync.release = none) ∧
    (Plain h 0x0D02 s → s.sys.windDown = false → s.sync.release = none → s.sync.overlap = false → s.sync.divergent = [] →
        (s.head s.pairHead).scans = true → s.partnerHot = true ∨ (s.pair.state = 5 ∧ s.pair.linkUp = true) →
      exec (.pairHandover h) s = .next (if s.pair.state = 2 then ((answered h 0x0D02 stAccepted s s.takeNo []).addProc (procOf h 0x0D02 0 s)).handoverStart
        else (answered h 0x0D02 stAccepted s s.takeNo []).addProc (procOf h 0x0D02 0 s))) ∧
    (Plain h 0x0D03 s → s.pair.state = 6 → h.src ≠ fromPair →
      ∃ t, exec (.pairRejoin h) s = .next t ∧ t.pair.state = 3 ∧ t.sync.phaseRun = 0 ∧ t.cp.procs = s.cp.procs ++ [procOf h 0x0D03 0 s])

/-- FUNC_RESET, NVS_WRITE and RECORD_WRITE are accepted now and answered when their work ends. Model: what of a function reset comes at its start is
the model's reading (log entries 48 to 50). -/
def Obligations.LongCommandsAreAnsweredLater : Prop :=
  ∀ (h : Hdr) (s : State),
    (∀ fn, Plain h 0x0103 s → funcKnown fn = true → fn ∉ s.sys.funcBusy → s.sys.windDown = false →
      exec (.funcReset h fn) s = .next ((s.takeNo.funcStart fn).addRunning (runningOf h 0x0103 fn (.funcReset h fn) s))) ∧
    (∀ page offset data, Plain h 0x0E02 s → page ≤ 3071 → offset ≤ 63 → 1 ≤ data.length → data.length ≤ 64 → nvsServed h s = true →
        s.sys.windDown = false →
      exec (.nvsWrite h page offset data) s = .next (nvsTask (s.takeNo.addRunning (runningOf h 0x0E02 page (.nvsWrite h page offset data) s))
        { page := page, offset := offset, data := data, goal := .raw (runningOf h 0x0E02 page (.nvsWrite h page offset data) s) })) ∧
    (∀ id data first rest, Plain h 0x0E04 s → recordSize id ≠ 0 → data.length ≤ recordSize id → 0x10 ≤ id → s.nvs.scanning = false →
        s.sys.windDown = false → copyPages id (makeCopy id (nextCopy s.nvs id).2 data) = first :: rest →
      exec (.recordWrite h id data) s = .next (nvsTask (s.takeNo.addRunning (runningOf h 0x0E04 id (.recordWrite h id data) s))
        { page := recordPage id (nextCopy s.nvs id).1, data := first,
          goal := .recordPage (runningOf h 0x0E04 id (.recordWrite h id data) s) id 0 rest (recordPage id (nextCopy s.nvs id).1) })) ∧
    (∀ id data, recordSize id ≠ 0 → recordSize id < data.length →
      exec (.recordWrite h id data) s = .next (s.reply h 0x0E04 stBadLength noAccept true []))

/-- PD_SET, OP_SET and YOYO_SET: a transition of a power domain or of the operating point starts, a unit enters, changes or leaves yo-yo mode.
Model: OP_SET while ENGCLK is divided, a deque moved at acceptance, and entering yo-yo mode are the model's (log entries 86, 144 and 145). -/
def Obligations.PowerCommandsTakeEffect : Prop :=
  ∀ (h : Hdr) (s : State),
    (∀ d st, Plain h 0x0F01 s → d ≤ 10 → st ≤ 2 → s.seqBusy = false → s.pd d ≠ st → s.pdRefused d st = false →
      exec (.pdSet h d st) s = .next ((answered h 0x0F01 stAccepted s s.takeNo []).pdBegin d st (some (procOf h 0x0F01 d s)))) ∧
    (∀ op, Plain h 0x0F02 s → op ≤ 2 → s.seqBusy = false → (op ≠ s.power.op ∨ s.power.div8 = true) →
      exec (.opSet h op) s = .next ((answered h 0x0F02 stAccepted s s.takeNo []).opBegin op (some (procOf h 0x0F02 0x0F s)))) ∧
    (∀ p : YoyoP, Plain h 0x0F03 s → yoyoOk p s = true → p.enable = 0 → ((s.yoyo p.unit).on = true ∨ (s.yoyo p.unit).stuck = true) →
      exec (.yoyoSet h p) s = .next (answered h 0x0F03 stOk s (s.takeNo.setYoyo p.unit {}) [])) ∧
    (∀ p : YoyoP, Plain h 0x0F03 s → yoyoOk p s = true → p.enable = 1 → (p.unit = thermalUnit → s.pd 9 ≠ 0 ∧ s.pd 10 ≠ 0) →
        (p.unit = stringUnit → s.pair.linkUp = false) →
      ((s.yoyo p.unit).on = true → exec (.yoyoSet h p) s = .next (answered h 0x0F03 stOk s (s.takeNo.setYoyo p.unit { s.yoyo p.unit with
        next := some p, stuck := false, repeats := if (s.yoyo p.unit).stuck then 0 else (s.yoyo p.unit).repeats }) [])) ∧
      ((s.yoyo p.unit).on = false → exec (.yoyoSet h p) s = .next (answered h 0x0F03 stOk s (s.takeNo.yoyoEnter p) [])))

/-- A command that is turned away has no effect but its acceptance number, where it has one, and its reply: a launch time on a command that takes
none, a command before READY, a command of a wind-down, a full launch queue. Model: that a BAD_PARAM takes no acceptance number is the model's (log
entry 25). -/
def Obligations.CommandsAreTurnedAway : Prop :=
  ∀ (h : Hdr) (s : State),
    (h.timed = true → exec (.nop h) s = .next (s.reply h 0x0100 stBadParam noAccept false [])) ∧
    (∀ n, 3 < n → exec (.headStop h n) s = .next (s.reply h 0x0704 stBadParam noAccept false [])) ∧
    (h.timed = false → h.genCheck = true → h.gen ≠ s.time.tpGen → exec (.nop h) s = .next (answered h 0x0100 stRefused s s.takeNo [])) ∧
    (h.timed = false → h.genCheck = false → s.sys.ready = false → exec (.nop h) s = .next (answered h 0x0100 stNotReady s s.takeNo [])) ∧
    (∀ p, Plain h 0x0603 s → p.head ≤ 3 → s.sys.windDown = true → ∃ st, exec (.layerPresent h p) s = .next (rejectCmd h 0x0603 st [] s) ∧
      (st = stBusy ∨ st = stBadParam)) ∧
    (∀ n, Plain h 0x0704 s → n ≤ 3 → s.sys.windDown = true → exec (.headStop h n) s = .next (answered h 0x0704 stBusy s s.takeNo [])) ∧
    (∀ n, Plain h 0x0704 s → n ≤ 3 → s.sys.windDown = false → (s.head n).stoppable = false →
      exec (.headStop h n) s = .next (answered h 0x0704 stIgnored s s.takeNo [])) ∧
    (∀ n, h.timed = true → h.launch.ns < 1000000000 → launchAt h ≤ s.tp + 86400 * uSec → h.genCheck = false → s.sys.ready = true → s.sys.windDown = false →
        n ≤ 3 → (s.head n).stoppable = true → 256 ≤ queueLen s n →
      exec (.headStop h n) s = .next (answered h 0x0704 stNoResource s s.takeNo [])) ∧
    (∀ n, h.timed = true → h.launch.ns < 1000000000 → launchAt h + uSec < s.tp → h.genCheck = false → s.sys.ready = true → s.sys.windDown = false →
        n ≤ 3 → (s.head n).stoppable = true → queueLen s n < 256 →
      exec (.headStop h n) s = .next (answered h 0x0704 stRefused s s.takeNo [])) ∧
    (∀ n, Plain h 0x0704 s → s.standby = true → h.src = fromPair → n ≤ 3 → s.sys.windDown = false → (s.head n).stoppable = false →
      exec (.headStop h n) s = .next s.takeNo)

/-- COMMAND_ACCEPT takes one packet of the first source in turn that has one, and hands the turn on; with no such source it changes nothing. A
command ring's CI moves past the packet's slots. Model: when a ring is read, and the slots of a bad LENGTH, are the model's (log entries 41 and 42). -/
def Obligations.PacketsAreTakenInTurn : Prop :=
  ∀ s : State,
    ((∀ src < 5, s.sourceReady src = false) → exec .commandAccept s = .next s) ∧
    (∀ k bs t, k < 5 → (s.cp.turn + k) % 5 < 4 → s.sourceReady ((s.cp.turn + k) % 5) = true →
        (∀ j < k, s.sourceReady ((s.cp.turn + j) % 5) = false) →
        ({ s with cp := { s.cp with turn := ((s.cp.turn + k) % 5 + 1) % 5 } } : State).readSlots (s.ring ((s.cp.turn + k) % 5))
          (s.ring ((s.cp.turn + k) % 5)).ci (slotsOf (s.nextLength (s.ring ((s.cp.turn + k) % 5)))) = (bs, false, t) →
      exec .commandAccept s = .next ((t.setRing ((s.cp.turn + k) % 5) { s.ring ((s.cp.turn + k) % 5) with
        ci := ((s.ring ((s.cp.turn + k) % 5)).ci + slotsOf (s.nextLength (s.ring ((s.cp.turn + k) % 5)))) % 2 ^ 32,
        last := (s.ring ((s.cp.turn + k) % 5)).ci }).acceptPacket ((s.cp.turn + k) % 5) bs)) ∧
    (∀ k t, k < 5 → (s.cp.turn + k) % 5 = 4 → s.sourceReady 4 = true → (∀ j < k, s.sourceReady ((s.cp.turn + j) % 5) = false) →
        t = ({ s with cp := { s.cp with turn := 0 }, mbx := { s.mbx with taken := true } } : State).acceptPacket 4 s.mbxPacket →
      exec .commandAccept s = .next (if t.owes 4 = true then t else { t with mbx := { t.mbx with state := 0, taken := false } }))

/-- A packet accepted has the effect of the command that it spells, the same that this command has at the front of the queue; one whose form is
wrong is answered with its status and no acceptance number. Model: that a command row is the acceptance of its packet is the model's (log entries 22
and 25). -/
def Obligations.PacketsRunAsCommanded : Prop :=
  ∀ (s : State) (src : Nat) (bs : List Byte),
    (∀ i, readPacket src bs = .inr i → (s.pairActive && pairGroup (opOf bs)) = false → exec i s = .next (s.acceptPacket src bs)) ∧
    (∀ st, readPacket src bs = .inl st → s.acceptPacket src bs = s.reply (hdrOf src bs) (opOf bs) st noAccept (mgtOpcode (opOf bs)) [])

/-- The mailbox and the event queue of the management port: writes and submission while no command is PENDING, reads of the reply, of the oldest
event and of the status, and the TIMEOUT of a command that waits for the command processor. Model: the reply of a TIMEOUT, an EVT_READ of an empty
queue and a SILENT command are the model's (log entries 44 and 45). -/
def Obligations.MailboxWorks : Prop :=
  ∀ s : State,
    (∀ offset data, s.mbx.state = 1 → exec (.mbxWrite offset data) s = .next s) ∧
    (∀ offset data, s.mbx.state ≠ 1 → exec (.mbxWrite offset data) s =
      .next { s with mbx := { s.mbx with state := 0, buf := writeBytes s.mbx.buf offset (data.take (1024 - offset)) } }) ∧
    (s.mbx.state ≠ 1 → exec .mbxSubmit s = .next { s with mbx := { s.mbx with state := 1, taken := false } }) ∧
    (∀ offset count, exec (.mbxRead offset count) s = .next { s with answer := { bytes := sliceBytes s.mbx.reply offset count } }) ∧
    (∀ e rest, s.mbx.events = e :: rest →
      exec .evtRead s = .next { s with mbx := { s.mbx with events := rest }, answer := { bytes := e } }) ∧
    (s.mbx.events = [] → ∃ bs, bs.length = 64 ∧ exec .evtRead s = .next { s with free := s.free + 1, answer := { bytes := bs } }) ∧
    (exec .status s = .next { s with
      mbx := { s.mbx with lost := 0 },
      answer := { bytes := leBytes 1 (s.mbx.state + 4 * b2n (!s.mbx.events.isEmpty) + 8 * s.mbx.lost) } }) ∧
    (s.mbx.state = 1 → s.mbx.taken = false → mgtOpcode (opOf s.mbxPacket) = false →
      exec .mailboxTimeout s = .next { s with
        mbx := { s.mbx with taken := true },
        cp := { s.cp with replies := s.cp.replies ++ [{
          src := 4, opcode := opOf s.mbxPacket, tag := fieldAt s.mbxPacket 4 4, status := stTimeout, mgt := false, acceptNo := noAccept, params := [] }] } }) ∧
    (∀ addr, s.sys.aonReset = false → exec (.mgtAddressMatch addr) s = .next (if addr = 0x58 + s.sys.maddr then
      { s with sys := { s.sys with mgtAwake := true }, answer := {} } else { s with answer := { acked := false } }))

/-- REPLY_WRITE, EVENT_POST and MSI_X_MESSAGE: the oldest reply of a source goes into its reply ring or the mailbox; the oldest event goes into the
event ring, and to the management port where it is routed there, or is counted as lost; a vector due is signalled once its moderation time is over.
Model: the time base of moderation and what waits where the control plane cannot write are the model's (log entries 40, 45 and 46). -/
def Obligations.RepliesEventsAndMessagesGoOut : Prop :=
  ∀ s : State,
    (∀ r ring, s.cp.replies.find? (fun r => r.src == ring) = some r → ring < 4 → s.pdOn 0 = true → (s.ring (ring + 4)).enable = true →
        (s.ring (ring + 4)).used + ceilDiv (replyBytes r).length 64 ≤ (s.ring (ring + 4)).size →
      ∃ t, exec (.replyWrite ring) s = .next (t.advancePi (ring + 4) (ceilDiv (replyBytes r).length 64) ring) ∧
        t = ({ s with cp := { s.cp with replies := s.cp.replies.erase r } } : State).writeSlots (s.ring (ring + 4)) (s.ring (ring + 4)).pi (replyBytes r)) ∧
    (∀ r, s.cp.replies.find? (fun r => r.src == 4) = some r →
      exec (.replyWrite 4) s = .next { s with
        cp := { s.cp with replies := s.cp.replies.erase r },
        mbx := { s.mbx with state := 2, taken := false, reply := replyBytes r } }) ∧
    (∀ e rest, s.cp.events = e :: rest → s.pdOn 0 = true → (spGet s.cp.routes {} e.code).off = true →
      exec .eventPost s = .next { s with cp := { s.cp with events := rest } }) ∧
    (∀ e rest t, s.cp.events = e :: rest → s.pdOn 0 = true → (spGet s.cp.routes {} e.code).off = false → (spGet s.cp.routes {} e.code).mgt = false →
        (s.ring 8).enable = true → (s.ring 8).used < (s.ring 8).size →
        t = ({ s with cp := { s.cp with events := rest, evSeq := inc32 s.cp.evSeq } } : State).writeSlots (s.ring 8) (s.ring 8).pi
          (eventBytes e s.cp.evSeq s.cp.lost) →
      exec .eventPost s = .next (({ t with cp := { t.cp with lost := false } } : State).advancePi 8 1 (spGet s.cp.routes {} e.code).vector)) ∧
    (∀ e rest, s.cp.events = e :: rest → s.pdOn 0 = true → (spGet s.cp.routes {} e.code).off = false → (spGet s.cp.routes {} e.code).mgt = false →
        (s.ring 8).enable = false →
      exec .eventPost s = .next { s with cp := { s.cp with
        events := rest, evSeq := inc32 s.cp.evSeq, lost := true, evLost := inc32 s.cp.evLost } }) ∧
    (∀ v, v ∈ s.cp.msiDue → s.sys.pcieUp = true →
        (spGet s.cp.msiSent 0 v = 0 ∨ spGet s.cp.msiSent 0 v + 800 * spGet s.cp.msiMod 0 v ≤ s.timeRegs.ticks + 1) →
      exec (.msiXMessage v) s = .next { s with cp := { s.cp with
        msiDue := s.cp.msiDue.filter (fun x => x != v), msiSent := spSet 0 s.cp.msiSent v (s.timeRegs.ticks + 1) } })

/-- The timeouts of the transport: a command that waits on the store or a commit is answered TIMEOUT, a held register write is dropped and counted,
a transaction of the bus matrix ends in an error. Model: that a timeout comes as its row, uncounted, is the model's (log entries 38, 39 and 150). -/
def Obligations.WaitsEndInTimeouts : Prop :=
  ∀ s : State,
    (∀ src r, s.cp.running.find? (fun r => r.src == src && (r.waitsStore || ((r.opcode == 0x0E02 || r.opcode == 0x0E04) && s.nvs.commit.isSome))) = some r →
      exec (.commandTimeout src) s = .next (s.finish r stTimeout [])) ∧
    (∀ r, r ∈ s.cp.running → r.src ≠ fromPair →
      s.finish r stTimeout [] = { s with cp := { s.cp with
        running := s.cp.running.filter (fun x => x.acceptNo != r.acceptNo),
        replies := s.cp.replies ++ [{
          src := r.src, opcode := r.opcode, tag := r.tag, status := stTimeout, mgt := mgtOpcode r.opcode, acceptNo := r.acceptNo, params := [] }] } }) ∧
    (∀ off w, s.power.heldWrites.find? (fun w => w.1 == off) = some w →
      exec (.pdWriteDrop off) s = .next { s with power := { s.power with
        heldWrites := s.power.heldWrites.erase w, writeDrop := inc32 s.power.writeDrop } }) ∧
    (∀ p : MatrixP, p.master ≤ 7 → p.master ≠ 5 → s.pdOn 0 = true → ((reachOf s p.master p.addr).target ≠ 3 ∨ s.nvs.commit = none) →
      exec (.matrixTimeout p) s = .next (s.matrixError p 1 (reachOf s p.master p.addr).target)) ∧
    (∀ p : MatrixP, p.master ≤ 7 → p.master ≠ 5 → s.pdOn 0 = true → (reachOf s p.master p.addr).target = 3 → s.nvs.commit ≠ none →
      exec (.matrixTimeout p) s = .next (s.matrixError p 7 3))

/-- The rules of every register access: a PCI Express write that is not one whole aligned register is ignored and counted; a write into a block of
CTL waits while CTL is in retention or in transition and is discarded and counted while CTL is off; any other reaches its block. A management write
reaches its registers one after the other. Model: the count of writes discarded while CTL is off is the model's (log entries 61 to 63). -/
def Obligations.RegisterAccessRules : Prop :=
  ∀ s : State,
    (∀ off v en, ¬(en % 16 = 15 ∧ off % 4 = 0) →
      exec (.registerWrite off v en) s = .next { s with sys := { s.sys with badWrite := inc32 s.sys.badWrite } }) ∧
    (∀ off v en, en % 16 = 15 → off % 4 = 0 → (inCtl off = false ∨ s.pdOn 0 = true) → (inCtl off = false ∨ s.pdShown 0 ≠ 2) →
      exec (.registerWrite off v en) s = .next (blockWrite false off (v % 2 ^ 32) s)) ∧
    (∀ off v en, en % 16 = 15 → off % 4 = 0 → inCtl off = true → s.pdShown 0 = 2 →
      exec (.registerWrite off v en) s = .next { s with power := { s.power with writeDrop := inc32 s.power.writeDrop } }) ∧
    (∀ off v en, en % 16 = 15 → off % 4 = 0 → inCtl off = true → s.pdShown 0 ≠ 2 → s.pdOn 0 = false →
      exec (.registerWrite off v en) s = .next { s with power := { s.power with heldWrites := s.power.heldWrites ++ [(off, v % 2 ^ 32)] } }) ∧
    (∀ off a b c d, exec (.regWrite off [a, b, c, d]) s = .next (writeReg true (off / 4 * 4) (leNat [a, b, c, d]) s)) ∧
    (∀ off, exec (.regRead off 1) s = .next ((readReg true (off / 4 * 4) true s).2.say (leBytes 4 (readReg true (off / 4 * 4) true s).1))) ∧
    (∀ off, exec (.rcRead off true) s = .next ((readReg false (off / 4 * 4) true s).2.say (leBytes 4 (readReg false (off / 4 * 4) true s).1))) ∧
    (∀ p ≤ 7, exec (.rcRead (0x50200 + 4 * p) true) s = .next ((s.setEvtIn p { s.evtInOf p with overflow := 0, glitch := 0 }).say
      (leBytes 4 (regValue false (0x50200 + 4 * p) s)))) ∧
    (∀ n c, n ≤ 3 → c ≤ 15 → exec (.chkFrameRead n c) s = .next (((s.latchCheck n c).say
      (leBytes 4 (regValue false (0x200000 + 0x400 * n + 0x20 * c) (s.latchCheck n c)))))) ∧
    (∀ off, 0x70000 ≤ off → off < 0x80000 → exec (.sramLoRead off) s = .next ((s.latchSram (off - 0x70000)).say
      (leBytes 4 (regValue false off (s.latchSram (off - 0x70000))))))

/-- The ring registers: an index is stored only while its ring is enabled and only where it leaves no more slots than the ring has, else it is
counted; a ring is enabled with cleared indices, and only where all of it lies in the SRAM banks of rings. Model: when the base of a ring is tested
is the model's (log entry 43). -/
def Obligations.RingRegistersWork : Prop :=
  ∀ (s : State), s.pdOn 0 = true → s.pdShown 0 ≠ 2 →
    (∀ r v, r ≤ 3 → v < 2 ^ 32 → (s.ring r).enable = true → diff32 v (s.ring r).ci ≤ (s.ring r).size →
      exec (.doorbell r v) s = .next (s.setRing r { s.ring r with pi := v })) ∧
    (∀ r v, r ≤ 3 → v < 2 ^ 32 → (s.ring r).enable = true → (s.ring r).size < diff32 v (s.ring r).ci →
      exec (.doorbell r v) s = .next { s with cp := { s.cp with badIndex := inc32 s.cp.badIndex } }) ∧
    (∀ r v, r ≤ 3 → v < 2 ^ 32 → (s.ring r).enable = false → exec (.doorbell r v) s = .next s) ∧
    (∀ r v, 4 ≤ r → r ≤ 8 → v < 2 ^ 32 → (s.ring r).enable = true → diff32 (s.ring r).pi v ≤ (s.ring r).size →
      exec (.ringCiWrite r v) s = .next (s.setRing r { s.ring r with ci := v })) ∧
    (∀ r log2, r ≤ 8 → 4 ≤ log2 → log2 ≤ 12 → (s.ring r).enable = false → ringFits (s.ring r).base log2 = true → (r = 8 → s.sys.ready = false) →
      exec (.ringCfgWrite r (2 ^ 31 + log2)) s = .next (s.setRing r { s.ring r with log2 := log2, enable := true, pi := 0, ci := 0, last := 0 })) ∧
    (∀ r log2, r ≤ 8 → 4 ≤ log2 → log2 ≤ 12 → (s.ring r).enable = false → ringFits (s.ring r).base log2 = false →
      exec (.ringCfgWrite r (2 ^ 31 + log2)) s = .next s) ∧
    (∀ t v, t ≤ 7 → v < 2 ^ 31 → exec (.sliceBypass t v) s = .next { s with fab := { s.fab with tgt := spSet ({} : FabTgt) s.fab.tgt t {
      bypass := false, parkX := Nat.xor (bits v 26 24) (parkReset t), prioX := Nat.xor (bits v 23 0) prioReset } } }) ∧
    (∀ t v, t ≤ 7 → v < 2 ^ 31 → s.clocks.fabSel = 0 →
      exec (.sliceBypass t (2 ^ 31 + v)) s = .next { s with fab := { s.fab with sliceIgnored := true } })

/-- The time registers: the action bits of TIME_CTL, the rate registers and the snapshot. Model: the order of SELECT and the step of one TIME_CTL
write is the model's (log entry 64). -/
def Obligations.TimeRegistersWork : Prop :=
  ∀ (s : State),
    (∀ d, d ≤ 1 → d ≠ s.time.selected → s.switchOk d = true → exec (.select (8 * d + 7)) s = .next { s with time := { s.time with
      revert := true, autoSelect := true, acquireAuto := true, selected := d, home := d, refusing := false } }) ∧
    (∀ d, d ≤ 1 → d ≠ s.time.selected → s.switchOk d = false → ((s.domain d).state ≠ 3 ∨ (s.diffFrom d).natAbs ≤ s.jumpUnits) →
      exec (.select (8 * d)) s = .next { s with time := { s.time with
        revert := false, autoSelect := false, acquireAuto := false, selectRefused := true } }) ∧
    (∀ v, bits v 7 5 = 0 → bits v 3 3 = s.time.selected → exec (.stepDomain v) s = .next { s with
      time := { s.time with revert := bit v 2, autoSelect := bit v 1, acquireAuto := bit v 0 },
      timeRegs := { s.timeRegs with nextStep := some .domain } }) ∧
    (∀ v, bits v 4 4 = 0 → bits v 7 6 = 0 → bits v 3 3 = s.time.selected → s.timeRegs.loadNs < 1000000000 → s.time.tracking = true →
      exec (.stepValue v) s = .next { s with
        time := { s.time with revert := bit v 2, autoSelect := bit v 1, acquireAuto := bit v 0 },
        timeRegs := { s.timeRegs with nextStep := some (.value s.loadValue) } }) ∧
    (∀ v, bits v 5 4 = 0 → bits v 7 7 = 0 → bits v 3 3 = s.time.selected → s.timeRegs.loadNs < 1000000000 → exec (.loadA v) s = .next { s with
      time := { s.time with revert := bit v 2, autoSelect := bit v 1, acquireAuto := bit v 0 },
      timeRegs := { s.timeRegs with nextA := some s.loadValue } }) ∧
    (∀ v, bits v 6 4 = 0 → bits v 3 3 = s.time.selected → s.timeRegs.loadNs < 1000000000 → exec (.loadB v) s = .next { s with
      time := { s.time with revert := bit v 2, autoSelect := bit v 1, acquireAuto := bit v 0 },
      timeRegs := { s.timeRegs with nextB := some s.loadValue } }) ∧
    (∀ v, 1000000000 ≤ s.timeRegs.loadNs → exec (.stepValue v) s = .next s ∧ exec (.loadA v) s = .next s ∧ exec (.loadB v) s = .next s) ∧
    (∀ v, (sx 40 (bits v 7 0 * 2 ^ 32 + s.time.rateLoA)).natAbs ≤ 32768000000 → exec (.rateHiWrite 0 v) s = .next { s with time := { s.time with
      rateHiA := bits v 7 0, nextRateA := some (sx 40 (bits v 7 0 * 2 ^ 32 + s.time.rateLoA)) } }) ∧
    (∀ v, (sx 40 (bits v 7 0 * 2 ^ 32 + s.time.rateLoB)).natAbs ≤ 32768000000 → exec (.rateHiWrite 1 v) s = .next { s with time := { s.time with
      rateHiB := bits v 7 0, nextRateB := some (sx 40 (bits v 7 0 * 2 ^ 32 + s.time.rateLoB)) } }) ∧
    (∀ v, 32768000000 < (sx 40 (bits v 7 0 * 2 ^ 32 + s.time.rateLoA)).natAbs → exec (.rateHiWrite 0 v) s = .next s) ∧
    (exec (.tpSnapSecLoRead true) s = .next (({ s with timeRegs := { s.timeRegs with
        mgtSnap := { tp := s.tp, ta := visible s.time.ta, tb := visible s.time.tb, gen := s.time.tpGen } } } : State).say
      (leBytes 4 (s.tp / uSec % 2 ^ 32)))) ∧
    (exec (.tpSnapSecLoRead false) s = .next (({ s with timeRegs := { s.timeRegs with
        snap := { tp := s.tp, ta := visible s.time.ta, tb := visible s.time.tb, gen := s.time.tpGen } } } : State).say
      (leBytes 4 (s.tp / uSec % 2 ^ 32))))

/-- The lane registers and the PRBS blocks: test modes, manual slips, counters. -/
def Obligations.LaneRegistersWork : Prop :=
  ∀ (s : State) (i v : Nat), i < 228 →
    (bits v 10 8 ≤ 2 → (bits v 10 8 = 0 ∨ (s.testBlocked i = false ∧ s.groupTaken i = false ∧ (s.lane i).loopback ≠ 0)) →
      exec (.loopback i v) s = .next (s.setLane i { s.lane i with
        loopback := bits v 10 8, bitslip := decide (i < 36) && bit v 4, rxAdaptOff := decide (i < 36) && !bit v 3,
        rxInv := decide (i < 36) && bit v 2, txInv := bit v 1 })) ∧
    (bits v 10 8 ≠ 0 → bits v 10 8 ≤ 2 → s.testBlocked i = true → exec (.loopback i v) s = .next (s.testIgnored i)) ∧
    (bits v 10 8 = 0 → exec (.bitslipEn i v) s = .next (s.setLane i { s.lane i with
        loopback := 0, bitslip := decide (i < 36) && bit v 4, rxAdaptOff := decide (i < 36) && !bit v 3,
        rxInv := decide (i < 36) && bit v 2, txInv := bit v 1 })) ∧
    (i < 36 → (s.lane i).bitslip = true → 1 ≤ bits v 6 0 → bits v 6 0 ≤ 65 → (s.lane i).blockLock = false → (i < 32 → (s.quad (i / 4)).mode ≠ 3) →
      exec (.laneSlip i v) s = .next (s.setLane i { s.lane i with
        boundary := ((s.lane i).boundary + bits v 6 0) % 66, hunting := true, blockLock := false })) ∧
    (i < 36 → (s.lane i).bitslip = false → exec (.laneSlip i v) s = .next (s.setLane i { s.lane i with slipIgnored := true })) ∧
    (bits v 2 0 ≤ 4 → s.testBlocked i = false → (s.lane i).loopback ≠ 3 → (s.prb i).gen = true →
      exec (.genEn i v) s = .next (s.setPrb i (let p := { s.prb i with
          invOff := !bit v 10, gen := true, chk := bit v 8, pattern := bits v 2 0,
          chkSync := (s.prb i).chkSync && bit v 8 && (s.prb i).chk && (s.prb i).pattern == bits v 2 0 }
        if bit v 15 then { p with err := 0, bits := 0, resync := 0 } else p))) ∧
    (bits v 2 0 ≤ 4 → bit v 9 = false →
      exec (.cntClr i v) s = .next (s.setPrb i { s.prb i with
        invOff := !bit v 10, gen := false, chk := bit v 8, pattern := bits v 2 0,
        chkSync := (s.prb i).chkSync && bit v 8 && (s.prb i).chk && (s.prb i).pattern == bits v 2 0, err := 0, bits := 0, resync := 0 })) ∧
    (chkAttached i s = true → exec (.prbsErrRead i) s = .next ((s.setPrb i { s.prb i with latched := (s.prb i).bits }).say (leBytes 4 (s.prb i).err))) ∧
    ((s.prb i).chk = true → chkAttached i s = true → exec (.chkSync i true) s = .next (s.setPrb i { s.prb i with chkSync := true })) ∧
    ((s.prb i).chk = true → chkAttached i s = true → (s.prb i).chkSync = true →
      exec (.chkSync i false) s = .next (s.setPrb i { s.prb i with chkSync := false, resync := satInc 0xFFFF (s.prb i).resync }))

/-- The system, power, clock, SRAM and head registers: the debug lock, a push, the remap, a function reset, power transitions, wake masks, the
fabric clock, scrubbing, watermarks and polarities. Model: parts of the push and of the debug lock are the model's reading (log entries 9, 56 and
65). -/
def Obligations.ControlRegistersWork : Prop :=
  ∀ (s : State),
    (∀ v, bit v 0 = true → bits v 31 16 = 0x9160 → exec (.blow v) s = .next { s with sys := { s.sys with debugLocked := true } }) ∧
    (∀ v, bit v 0 = false ∨ bits v 31 16 ≠ 0x9160 → exec (.blow v) s = .next s) ∧
    (∀ len, s.sys.pushWait = true → len % 4 = 0 → 516 ≤ len → len ≤ 2097664 →
      exec (.start len) s = .next { s with sys := { s.sys with pushLength := len, announced := len, pushBytes := [] } }) ∧
    (∀ v, s.sys.pushWait = true → s.sys.pushBytes.length < s.sys.announced →
      exec (.sysPushDataWrite v) s = .next { s with sys := { s.sys with pushBytes := s.sys.pushBytes ++ leBytes 4 v } }) ∧
    (∀ len, len < 2 ^ 22 → exec (.go len) s = .next ({ s with sys := { s.sys with pushLength := len } } : State).pushGo) ∧
    (s.sys.accepted = true → s.sys.remap = false → exec .remap s = .next { s with sys := { s.sys with remap := true } }) ∧
    (∀ fn, fn < 65536 → funcKnown fn = true → fn ∉ s.sys.funcBusy → s.sys.windDown = false → exec (.code fn) s = .next (s.funcStart fn)) ∧
    (∀ d st, s.sys.aonReset = false → d ≤ 10 → st ≤ 2 → s.seqBusy = false → s.pd d ≠ st → s.pdRefused d st = false →
      exec (.pdCtl (d + 16 * st)) s = .next (s.pdBegin d st none)) ∧
    (∀ d st, s.sys.aonReset = false → d ≤ 10 → st ≤ 2 → s.seqBusy = false → s.pd d ≠ st → s.pdRefused d st = true →
      exec (.pdCtl (d + 16 * st)) s = .next { s with power := { s.power with pdIgnored := true } }) ∧
    (∀ op, s.sys.aonReset = false → op ≤ 2 → s.seqBusy = false → op ≠ s.power.op → exec (.opCtl op) s = .next (s.opBegin op none)) ∧
    (∀ d v, s.sys.aonReset = false → d ≤ 10 → exec (.wakeMaskWrite d v) s = .next { s with power := { s.power with
      wakeMask := spSet 0 s.power.wakeMask d (v % 32), stuck := spSet 0 s.power.stuck d 0,
      wakeRuns := spClear (8 * d) (8 * d + 8) s.power.wakeRuns } }) ∧
    (∀ v, s.sys.aonReset = false → (v = 1 ∨ v = 2) → exec (.fabSel v) s = .next { s with clocks := { s.clocks with fabSel := v } }) ∧
    (s.sys.aonReset = false → (∀ t < 8, (spGet s.fab.tgt {} t).bypass = false) → exec (.fabSel 0) s = .next { s with clocks := { s.clocks with fabSel := 0 } }) ∧
    (∀ t, s.sys.aonReset = false → t < 8 → (spGet s.fab.tgt {} t).bypass = true → s.clocks.fabSel ≠ 0 →
      exec (.fabSel 0) s = .next { s with fab := { s.fab with sliceIgnored := true } }) ∧
    (∀ sh, 10 ≤ sh → sh ≤ 20 → exec (.sramCtlWrite (256 * sh + 1)) s = .next { s with mem := { s.mem with scrubShift := sh, idle := 1 } }) ∧
    (∀ n low crit, n ≤ 3 → 16 ≤ low → low ≤ 56 → 8 ≤ crit → crit + 8 ≤ low → exec (.headWm n (256 * crit + low)) s =
      .next (s.setHead n { s.head n with allot := { (s.head n).allot with nextWm := some (low, crit) } })) ∧
    (∀ n v, n ≤ 3 → exec (.headGatePol n v) s = .next (s.setHead n { s.head n with gate := { (s.head n).gate with pol := v % 2 ^ 19 } }))

/-- The host windows while CTL is on and the device is ready: a store write is applied unless it meets the tile-record region or the panel state of
a configured head, which discard and count it; a BAR4 write of whole words between 3 and 4 MiB stores exactly its bytes and is counted elsewhere;
reads answer the data, poisoned where a word is uncorrectable, and all-ones beyond the memory, while the store is off or from a bank that is not on.
Model: that a write which meets a protected range is discarded whole, and that unwritten memory reads 0, are the model's (log entries 11 and 148). -/
def Obligations.HostWindowsReachTheMemories : Prop :=
  ∀ s : State, s.sys.ready = true → s.pdOn 0 = true →
    (∀ addr data ok t, s.storeOn = true → addr + data.length ≤ storeSize → meets addr data.length tileRegion (storeSize - tileRegion) = false →
        s.hitsPanel addr data.length = false → s.guardedWrite addr data = (ok, t) →
      exec (.bar2Write addr data) s = .next (if ok then t else (t.captureWord addr true 4 5).dropPosted)) ∧
    (∀ addr data, s.storeOn = true → addr + data.length ≤ storeSize → meets addr data.length tileRegion (storeSize - tileRegion) = true →
      exec (.bar2Write addr data) s = .next { s with mem := { s.mem with tqDrop := inc32 s.mem.tqDrop } }) ∧
    (∀ addr data, s.storeOn = true → addr + data.length ≤ storeSize → meets addr data.length tileRegion (storeSize - tileRegion) = false →
        s.hitsPanel addr data.length = true →
      exec (.bar2Write addr data) s = .next { s with mem := { s.mem with psDrop := inc32 s.mem.psDrop } }) ∧
    (∀ addr len, s.storeOn = true → addr + len ≤ storeSize → addr + len ≤ tileRegion → s.markedIn 0 addr len = [] →
      exec (.bar2Read addr len) s = .next { s with answer := { bytes := readBytes s.mem.store addr len } }) ∧
    (∀ addr len, s.storeOn = false ∨ storeSize < addr + len →
      exec (.bar2Read addr len) s = .next { s with answer := { bytes := List.replicate len 0xFF } }) ∧
    (∀ offset data, 0x300000 ≤ offset → offset + data.length ≤ 0x400000 → offset % 4 = 0 → data.length % 4 = 0 →
      ∃ t, exec (.bar4Write offset data) s = .next t ∧ readBytes t.mem.sram offset data.length = data ∧
        ∀ a, a < offset ∨ offset + data.length ≤ a → spGet t.mem.sram 0 a = spGet s.mem.sram 0 a) ∧
    (∀ offset data, offset < 0x300000 ∨ 0x400000 < offset + data.length →
      exec (.bar4Write offset data) s = .next { s with mem := { s.mem with bar4Drop := inc32 s.mem.bar4Drop } }) ∧
    (∀ offset len, offset + len ≤ sramSize → offset + len ≤ 0x400000 → s.markedIn 1 offset len = [] → s.banksOn offset len = true →
      exec (.bar4Read offset len) s = .next { s with answer := { bytes := readBytes s.mem.sram offset len } }) ∧
    (∀ offset len, offset + len ≤ sramSize → s.banksOn offset len = false → s.fab.errValid = false →
      exec (.bar4Read offset len) s = .next { s with
        fab := { s.fab with errValid := true, errAddr := 0x10000000 + offset, errInfo := 0x215 },
        answer := { bytes := List.replicate len 0xFF } })

/-- The control map while CTL is on: the alias writes set and clear exactly the chosen bits of an SRAM word, a whole-word SRAM write and read of a
master, an access to an unmapped address, a write into the NVS window, and the scrubbers, which correct a single-bit error and go on. The master of
an alias write, which the command does not name, takes a free value (the free counter advances). Model: the free master and the uncounted timing are
the model's (log entries 15 and 39). -/
def Obligations.TheControlMapIsReached : Prop :=
  (∀ (set : Bool) (old value enables b : Nat), b < 32 → bit (aliasWord set old value enables) b =
    (if bit enables (b / 8) = true then (if set then (bit old b || bit value b) else (bit old b && !bit value b)) else bit old b)) ∧
  ∀ s : State, s.pdOn 0 = true →
    (∀ offset value enables, offset < sramSize → s.bankState (bankOf offset) = 0 → spGet s.mem.sramErr 0 (offset / 4) = 0 →
      exec (.bitSetAliasWrite offset value enables) s = .next { s with
        free := s.free + 1,
        mem := { s.mem with
          sram := writeBytes s.mem.sram (4 * (offset / 4)) (leBytes 4 (aliasWord true (leNat (readBytes s.mem.sram (4 * (offset / 4)) 4)) value enables)) },
        answer := {} } ∧
      exec (.bitClearAliasWrite offset value enables) s = .next { s with
        free := s.free + 1,
        mem := { s.mem with
          sram := writeBytes s.mem.sram (4 * (offset / 4)) (leBytes 4 (aliasWord false (leNat (readBytes s.mem.sram (4 * (offset / 4)) 4)) value enables)) },
        answer := {} }) ∧
    (∀ p a, p.master ≤ 7 → p.master ≠ 5 → (p.master = 7 → s.sys.debugLocked = false) → p.len ≤ 64 → p.data.length ≤ 64 →
        p.write = true → p.addr = 0x10000000 + a → a % 4 = 0 → p.data.length % 4 = 0 → a < sramSize → a + p.data.length ≤ sramSize →
        s.banksOn a p.data.length = true →
      ∃ t, exec (.matrixTransaction p) s = .next t ∧ t.answer = {} ∧ readBytes t.mem.sram a p.data.length = p.data ∧
        ∀ b, b < a ∨ a + p.data.length ≤ b → spGet t.mem.sram 0 b = spGet s.mem.sram 0 b) ∧
    (∀ p a, p.master ≤ 7 → p.master ≠ 5 → (p.master = 7 → s.sys.debugLocked = false) → p.len ≤ 64 → p.data.length ≤ 64 →
        p.write = false → p.addr = 0x10000000 + a → a + p.len ≤ 0x400000 → s.banksOn a p.len = true → s.markedIn 1 a p.len = [] →
      exec (.matrixTransaction p) s = .next { s with answer := { bytes := readBytes s.mem.sram a p.len } }) ∧
    (∀ p, p.master ≤ 7 → p.master ≠ 5 → (p.master = 7 → s.sys.debugLocked = false) → p.len ≤ 64 → p.data.length ≤ 64 →
        reachOf s p.master p.addr = .unmapped → s.fab.errValid = false →
      exec (.matrixTransaction p) s = .next { s with
        fab := { s.fab with errValid := true, errAddr := p.addr, errInfo := 4096 * b2n p.write + 0x300 + p.master },
        answer := { error := true } }) ∧
    (∀ master offset data, master ≤ 7 → master ≠ 4 → s.fab.errValid = true →
      exec (.nvsWindowWrite master offset data) s = .next { s with
        nvs := { s.nvs with writeDrop := inc32 s.nvs.writeDrop }, answer := { error := true } }) ∧
    (∀ unit ok t, unit < 512 → s.bankState unit = 0 → s.sys.planesHeld = false →
        s.checkWord 1 (32768 * unit + spGet s.mem.scrubPos 0 unit) = (ok, t) →
      exec (.scrub unit) s = .next { t with mem := { t.mem with
        scrubPos := spSet 0 t.mem.scrubPos unit ((spGet s.mem.scrubPos 0 unit + 1) % 32768) } }) ∧
    (∀ unit, unit < 512 → s.bankState unit = 0 → s.sys.planesHeld = false →
        spGet s.mem.sramErr 0 (32768 * unit + spGet s.mem.scrubPos 0 unit) = 1 →
      ∃ t, exec (.scrub unit) s = .next t ∧ spGet t.mem.sramErr 0 (32768 * unit + spGet s.mem.scrubPos 0 unit) = 0)

/-- AON reset and its release, the record scan, the loss of the supplies, PERST# and its release, the hot reset of the link, and the end of a
function reset: which parts go back to their reset state and which stay. Model: which parts keep their state where the rules do not say is the
model's reading (log entries 47 to 54 and 58). -/
def Obligations.ResetsLeaveTheirState : Prop :=
  ∀ s : State,
    (s.nvs.commit = none → exec .aonReset s = .next { State.reset with
      pending := s.pending,
      nvs := { cells := s.nvs.cells },
      rennex := s.rennex,
      free := s.free,
      sys := { debugLocked := s.sys.debugLocked, pfail := s.sys.pfail, pfailClear := s.sys.pfailClear },
      pair := { batonIn := s.pair.batonIn } }) ∧
    (∀ maddr, s.sys.aonReset = true → exec (.aonResetRelease maddr) s = .next (incCounter { s with
      sys := { s.sys with aonReset := false, maddr := maddr % 8, cause := 1 },
      power := { s.power with op := 2, vid := 24 } } 0)) ∧
    (s.sys.aonReset = false → s.nvs.scanning = true → s.sys.funcBusy.contains 0x62 = false →
      ∃ t, exec .recordScan s = .next t ∧ t.nvs.scanning = false ∧ t.nvs.cells = s.nvs.cells ∧
        (∀ id c, id ∈ recordIds → chooseCopy s.nvs id = some c → inUse t.nvs id = some (c.1, c.2.1)) ∧
        (∀ id, id ∈ recordIds → chooseCopy s.nvs id = none → inUse t.nvs id = none)) ∧
    (s.nvs.commit = none → ∃ t, exec .supplyLoss s = .next t ∧ t.sys.suppliesLost = true ∧ t.sys.perst = true ∧ t.sys.planesHeld = true ∧
      t.mem.store = [] ∧ t.mem.sram = [] ∧ t.mem.aon = s.mem.aon ∧ t.nvs = s.nvs ∧ t.log = s.log ∧ t.heads = [] ∧ t.rings = []) ∧
    (s.sys.aonReset = false → s.sys.perst = false → s.wind = none → s.anyEnable = false →
      ∃ t, exec .perstAssert s = .next t ∧ t.sys.perst = true ∧ t.sys.planesHeld = true ∧ t.sys.ready = false ∧ t.sys.cause = Nat.lor s.sys.cause 2 ∧
        t.heads = [] ∧ t.rings = [] ∧ t.cp.launch = [] ∧ t.time = {} ∧ t.mem.store = s.mem.store ∧ t.nvs = s.nvs ∧ t.log = s.log ∧
        t.mbx = s.mbx ∧ t.pending = s.pending) ∧
    (s.sys.aonReset = false → s.sys.perst = false → s.wind = none → s.anyEnable = true → s.sys.windDown = false →
      ∃ t w, exec .perstAssert s = .next t ∧ t.sys.perst = true ∧ t.sys.windDown = true ∧ t.sys.planesHeld = s.sys.planesHeld ∧
        t.wind = some w ∧ w.cause = 2 ∧ w.fromPerst = true ∧ t.sys.cause = Nat.lor (Nat.lor s.sys.cause 2) 8) ∧
    (∀ bootsel, s.sys.aonReset = false → s.sys.perst = true → s.wind = none →
      ∃ t, exec (.perstRelease bootsel) s = .next t ∧ t.sys.perst = false ∧ t.sys.bootsel = bootsel % 2 ∧ t.sys.planesHeld = false ∧
        t.sys.ready = false ∧ t.clocks.started = false ∧ t.heads = [] ∧ t.nvs = s.nvs ∧ t.log = s.log) ∧
    (s.sys.planesHeld = false → ∃ t, exec .pcieHotReset s = .next t ∧ t.sys.pcieUp = false ∧
      t.sys.cause = Nat.lor s.sys.cause 4 ∧ (∀ r < 9, (t.ring r).enable = false) ∧ t.cp.procs = [] ∧ t.power.heldWrites = [] ∧
      t.cp.msiDue = [] ∧ t.cp.launch.length = s.cp.launch.length ∧ t.mem = s.mem ∧ t.nvs = s.nvs) ∧
    (∀ fn, s.resetting fn = true → s.funcMayEnd fn = true →
      ∃ t, exec (.funcResetDone fn) s = .next t ∧ t.resetting fn = false ∧
        ∀ r ∈ t.cp.running, ¬ (r.opcode = 0x0103 ∧ r.object = fn))

/-- The start-up from the reference clock to READY, and the inputs that break it off: the boot accepts the image with the newer release that passes
its checks, the other where the first fails, and waits for a push where both fail; the loss of a reference clock or of the supply (PFAIL_N) starts a
wind-down; short pulses are only counted. Model: the start-up from the model's reset and the order of the images are the model's (log entries 6, 55
and 59). -/
def Obligations.TheDeviceStartsUp : Prop :=
  ∀ s : State,
    (s.sys.planesHeld = false → s.clocks.refclkOk = true →
      exec .rootPllLock s = .next { s with clocks := { s.clocks with started := true, rootLock := true } }) ∧
    (∀ sfdp a b, s.sys.planesHeld = false → s.clocks.started = true → s.sys.accepted = false → s.sys.pushWait = false →
      (s.sys.bootsel = 1 → exec (.boot sfdp a b) s = .next { s with sys := { s.sys with pushWait := true } }) ∧
      (s.sys.bootsel ≠ 1 → ∃ t, exec (.boot false a b) s = .next t ∧ t.sys.bootFail = 1 ∧ t.sys.pushWait = true ∧ t.sys.accepted = false) ∧
      (s.sys.bootsel ≠ 1 → imageMagic a = true → (imageMagic b = false ∨ imageRelease b ≤ imageRelease a) →
        ∃ t, exec (.boot true a b) s = .next t ∧ t.sys.accepted = (imageCause a == 0 || imageCause b == 0) ∧
          t.sys.pushWait = !(imageCause a == 0 || imageCause b == 0) ∧
          t.sys.release = (if imageCause a = 0 then imageRelease a else if imageCause b = 0 then imageRelease b else s.sys.release) ∧
          t.sys.bootFail = (if imageCause a = 0 ∨ imageCause b = 0 then s.sys.bootFail else imageCause b))) ∧
    (s.sys.remap = true → s.sys.ready = false → exec (.ready true) s = .next { s with
      sys := { s.sys with ready := true },
      rings := [],
      mem := { s.mem with store := [], storeErr := [] } }) ∧
    (s.sys.remap = true → s.sys.ready = false →
      ∃ t, exec (.ready false) s = .next t ∧ t.sys.ready = false ∧ t.sys.bootFail = 8 ∧ t.log.count = s.log.count + 1) ∧
    (s.sys.planesHeld = false → exec .pcieLinkUp s = .next { s with sys := { s.sys with pcieUp := true } }) ∧
    (s.sys.aonReset = false → s.sys.windDown = false →
      (∃ t w, exec .refclkLoss s = .next t ∧ t.clocks.refclkOk = false ∧ t.sys.windDown = true ∧ t.wind = some w ∧ w.cause = 3) ∧
      (∃ t w, exec .pfailN s = .next t ∧ t.sys.pfail = true ∧ t.sys.windDown = true ∧ t.sys.txHeld = true ∧ t.wind = some w ∧ w.cause = 2)) ∧
    (s.sys.aonReset = false → s.sys.windDown = true →
      exec .pfailN s = .next { s with sys := { s.sys with pfail := true, pfailClear := false } }) ∧
    (s.sys.aonReset = false → s.sys.windDown = true →
      exec .pfailNDeassert s = .next { s with sys := { s.sys with pfail := false, pfailClear := true } }) ∧
    (s.sys.aonReset = false → s.sys.windDown = false → s.sys.txHeld = true →
      ∃ t, exec .pfailNDeassert s = .next t ∧ t.sys.pfail = false ∧ t.sys.txHeld = false ∧
        ∀ c < 8, s.pd (c + 1) ≠ 0 → (c + 1, s.pd (c + 1), 0) ∈ t.power.moves) ∧
    (s.sys.aonReset = false →
      exec (.refclkReturn 0) s = .next { s with clocks := { s.clocks with refclkOk := true, rootLock := s.clocks.started } } ∧
      exec (.refclkReturn 1) s = .next { s with clocks := { s.clocks with nref0Ok := true } } ∧
      exec (.refclkReturn 2) s = .next { s with clocks := { s.clocks with nref1Ok := true } }) ∧
    (∀ n ≤ 1, s.sys.aonReset = false →
      ∃ t, exec (.nrefclkLoss n) s = .next t ∧ (if n = 0 then t.clocks.nref0Ok = false else t.clocks.nref1Ok = false) ∧
        (∀ i < 16, (t.lane (16 * n + i)).signal = false ∧ (t.lane (16 * n + i)).cdrLock = false ∧ (t.lane (16 * n + i)).blockLock = false) ∧
        (∀ p, 16 * n ≤ p → p < 16 * n + 16 → s.portExists p = true → (t.port p).up = false)) ∧
    (exec (.glitch .pfail) s = .next { s with power := { s.power with pfailGlitch := inc32 s.power.pfailGlitch } }) ∧
    (∀ head enable, exec (.glitch (.pgood head enable)) s = .next { s with power := { s.power with
      pgoodGlitch := spSet 0 s.power.pgoodGlitch (4 * head + enable) (satInc 255 (spGet s.power.pgoodGlitch 0 (4 * head + enable))) } }) ∧
    (∀ pin ≤ 7, exec (.glitch (.evtIn pin)) s = .next (s.setEvtIn pin { s.evtInOf pin with glitch := satInc 0xFFFF (s.evtInOf pin).glitch })) ∧
    (exec (.glitch .vgood) s = .next { s with power := { s.power with otherGlitch := spSet 0 s.power.otherGlitch 0 (inc32 (spGet s.power.otherGlitch 0 0)) } }) ∧
    (exec (.glitch .batonIn) s = .next { s with power := { s.power with otherGlitch := spSet 0 s.power.otherGlitch 1 (inc32 (spGet s.power.otherGlitch 0 1)) } })

/-- The steps of a wind-down and of a power-down: the panels discharge, their gate outputs are held, the enables drop one by one from the highest,
the shutdown record is committed, and the end is posted with the heads OFF. Model: what WIND_DOWN_DONE names and how the enables of one head drop
alone are the model's reading (log entries 140 to 142). -/
def Obligations.WindDownsTurnThePanelsOff : Prop :=
  ∀ s : State,
    (∀ w, s.wind = some w → ∃ t, exec .windDown s = .next t ∧
      ∀ n ∈ w.heads, (s.head n).power.phase = 9 → (s.head n).power.held = false →
        (t.head n).power.held = true ∧ ((s.head n).state ≠ 1 → (t.head n).pins.gallon = true)) ∧
    (∀ n w, s.wind = some w → (s.head n).power.phase = 9 → (s.head n).power.held = true → (s.head n).state ≠ 1 → (s.head n).pins.dropTop.pen ≠ 0 →
      ∃ t, exec (.wdHoldEnd n) s = .next t ∧ (t.head n).power.phase = 10 ∧ (t.head n).pins = (s.head n).pins.dropTop ∧
        t.wind = some { w with clean := w.clean ++ [n] }) ∧
    (∀ n, (s.head n).power.phase = 7 ∨ (s.head n).power.phase = 10 → (s.head n).pins.dropTop.pen ≠ 0 →
      exec (.penGapEnd n) s = .next (s.setHead n { s.head n with pins := (s.head n).pins.dropTop })) ∧
    (∀ n, (s.head n).power.phase = 7 → (s.head n).pins.dropTop.pen = 0 →
      ∃ t, exec (.penGapEnd n) s = .next t ∧ (t.head n).pins.pen = 0 ∧ (t.head n).pins.driven = false ∧
        ∃ e ∈ t.cp.events, e.code = 0xE081 ∧ e.object = n ∧ e.payload = leBytes 1 (s.head n).power.enable) ∧
    (∀ w, s.wind = some w → w.commits = false → (∀ n ∈ w.heads, (s.head n).power.phase ≠ 9 ∧ (s.head n).power.phase ≠ 10) →
      ∃ t, exec .windDownCommits s = .next t ∧ t.wind = some { w with commits := true } ∧ t.nvs.commit ≠ none) ∧
    (∀ w, s.wind = some w → w.commits = true → s.nvs.commit = none → s.nvs.tasks = [] →
      ∃ t, exec .windDownDone s = .next t ∧ t.wind = none ∧ t.sys.windDown = false ∧
        (w.fromPerst = false → s.cp.launch = [] → (∀ n ∈ w.heads, (t.head n).state = 0) ∧
          ∃ e ∈ t.cp.events, e.code = 0xE083 ∧ e.payload = leBytes 1 w.cause ++ leBytes 1 w.heads.length) ∧
        (w.fromPerst = true → t.sys.planesHeld = s.sys.perst ∧ t.heads = [])) ∧
    (∀ n enable, s.sys.windDown = false → bit (s.head n).pins.pen enable = true → bit (s.head n).power.arrived enable = true → (s.head n).power.phase < 7 →
      ∃ t, exec (.panelPgLost n enable) s = .next t ∧ (t.head n).power.phase = 9 ∧ (t.head n).power.held = true ∧
        ((s.head n).scans = false → (t.head n).power.pgLost = true ∧ (t.head n).power.pgEnable = enable)) ∧
    (∀ n, (s.head n).power.phase = 8 → (s.head n).pins.dropTop.pen ≠ 0 →
      exec (.panelPowerdownDrop n) s = .next (s.setHead n { s.head n with pins := (s.head n).pins.dropTop })) ∧
    (∀ n, (s.head n).power.phase = 8 → (s.head n).pins.dropTop.pen = 0 →
      ∃ t, exec (.panelPowerdownDrop n) s = .next t ∧
        (s.cp.launch = [] → (t.head n).state = 0 ∧ (t.head n).pins.pen = 0 ∧ (t.head n).pins.driven = false))

/-- The steps of a wind-up: the claim test takes the baton and drives the nets, or tries again and at last answers REFUSED; VCOM settles, each
enable in use is asserted in order after the PGOOD of the one before, the drivers train, and the head is PARKED; a PGOOD that does not come drops
the enables again. Model: that the waits end with their rows is the model's (log entries 4 and 142). -/
def Obligations.PanelsAreWoundUp : Prop :=
  ∀ (s : State) (n : Nat), n < 4 →
    ((s.head n).power.phase = 1 → ∃ t, exec (.claimTest n true) s = .next t ∧ (t.head n).power.phase = 2 ∧ (t.head n).pins.driven = true ∧
      (t.head n).vcom.driven = true ∧ (t.head n).vcom.dac = (s.head n).vcom.cfg.v0 ∧ t.pair.baton = true) ∧
    (∀ r, (s.head n).power.phase = 1 → s.pair.prefer = 1 ∨ 4 ≤ (s.head n).power.claims → s.windupRun n = some r →
      ∃ t, exec (.claimTest n false) s = .next t ∧ (t.head n).power.phase = 0 ∧ r ∉ t.cp.running) ∧
    ((s.head n).power.phase = 1 → s.pair.prefer ≠ 1 → (s.head n).power.claims < 4 →
      exec (.claimTest n false) s = .next (s.setHead n { s.head n with
        power := { (s.head n).power with claims := (s.head n).power.claims + 1 } })) ∧
    (∀ e, (s.head n).power.phase = 2 → usedFrom (s.head n).power.seq.penUsed 0 = some e →
      exec (.vcomSettle n) s = .next (s.setHead n { s.head n with
        pins := (s.head n).pins.raise e,
        power := { (s.head n).power with phase := 3, enable := e } })) ∧
    (∀ e, (s.head n).power.phase = 3 → (s.head n).power.enable = e → bit (s.head n).power.arrived e = false →
      exec (.pgood n e) s = .next (s.setHead n { s.head n with
        power := { (s.head n).power with
          arrived := (s.head n).power.arrived + 2 ^ e,
          phase := if usedFrom (s.head n).power.seq.penUsed (e + 1) = none then 5 else 4 } })) ∧
    (∀ e, (s.head n).power.phase = 4 → usedFrom (s.head n).power.seq.penUsed ((s.head n).power.enable + 1) = some e →
      exec (.penDelay n) s = .next (s.setHead n { s.head n with
        pins := (s.head n).pins.raise e,
        power := { (s.head n).power with phase := 3, enable := e } })) ∧
    ((s.head n).power.phase = 5 → ∃ t, exec (.trainDelay n) s = .next t ∧ (t.head n).power.phase = 6 ∧
      ∀ d ∈ s.driversOf n, (t.driver d).link = 1 ∧ (t.driver d).tries = 0) ∧
    ((s.head n).power.phase = 3 → (s.head n).pins.dropTop.pen ≠ 0 →
      exec (.windupFail n) s = .next (s.setHead n { s.head n with
        pins := (s.head n).pins.dropTop,
        power := { (s.head n).power with phase := 7 } })) ∧
    (∀ therm, (s.head n).power.phase = 6 → (∀ d ∈ s.driversOf n, (s.driver d).link = 4 ∨ (s.driver d).link = 5) →
      ∃ t, exec (.windupDone n therm) s = .next t ∧ (t.head n).state = 1 ∧ (t.head n).power.phase = 0 ∧
        ∃ e ∈ t.cp.events, e.code = 0xE080 ∧ e.object = n ∧ e.payload = leBytes 1 ((s.driversOf n).countP (fun d => (s.driver d).link != 4)))

/-- A tick of the time clock, the automatic selection, captures and pulses of the event pins, and a launch entry that falls due. A FREE TP advances
by the nominal 1.25 ns, a TRACKING one by the increment of its domain with a slew of at most SLEW, and at its last increment while the difference
exceeds the jump limit. Model: the length of a tick, the count of AUTO_SELECT and the pulses are the model's (log entries 5, 73 and 74). -/
def Obligations.TimeAdvances : Prop :=
  ∀ s : State,
    (s.sys.planesHeld = false → s.clocks.started = true → s.timeRegs.nextStep = none → s.standby = false → s.pair.state ≠ 3 →
        s.timeRegs.nextA = none → s.timeRegs.nextB = none → s.time.nextRateA = none → s.time.nextRateB = none →
      ∃ t, exec .timeTick s = .next t ∧ t.timeRegs.ticks = s.timeRegs.ticks + 1 ∧
        t.time.ta = s.time.ta + incOf s.time.rateA ∧ t.time.tb = s.time.tb + incOf s.time.rateB ∧
        (s.time.tracking = false → (s.domain s.time.selected).state ≠ 3 → t.time.tp = s.time.tp + 5 * 2 ^ 46 ∧ t.time.tracking = false) ∧
        (s.time.tracking = true → s.time.selected = 0 → ((s.time.tp : Int) - s.time.ta).natAbs ≤ s.jumpUnits →
          t.time.refusing = false ∧ t.time.tp = s.time.tp + (if s.time.ta < s.time.tp
            then incOf s.time.rateA - min (s.time.tp - s.time.ta) (slewStep s.time.slew)
            else incOf s.time.rateA + min (s.time.ta - s.time.tp) (slewStep s.time.slew))) ∧
        (s.time.tracking = true → s.time.selected = 0 → s.jumpUnits < ((s.time.tp : Int) - s.time.ta).natAbs → s.time.refusing = false →
          t.time.tp = s.time.tp + s.time.lastInc ∧ t.time.refusing = true ∧ t.time.jumpRefused = true)) ∧
    (s.sys.planesHeld = false → s.clocks.started = true → s.timeRegs.nextStep = some .domain → s.standby = false → s.time.selected = 0 →
        s.timeRegs.nextA = none → s.time.nextRateA = none →
      ∃ t, exec .timeTick s = .next t ∧ t.time.tracking = true ∧ t.time.tp = s.time.ta + incOf s.time.rateA ∧
        t.time.tpGen = (s.time.tpGen + 1) % 65536 ∧ t.timeRegs.nextStep = none) ∧
    (∀ other ≤ 1, s.time.autoSelect = true → s.time.tracking = true → s.time.selected = 1 - other → s.time.home = 1 - other →
        (s.domain (1 - other)).state ≠ 3 → (s.domain (1 - other)).since + 800000000 ≤ s.timeRegs.ticks →
        (s.domain other).state = 3 → (s.diffFrom other).natAbs ≤ s.jumpUnits →
      exec .autoSelect s = .next { s with time := { s.time with selected := other, refusing := false } }) ∧
    (∀ home ≤ 1, s.time.autoSelect = true → s.time.tracking = true → s.time.revert = true → s.time.home = home → s.time.selected = 1 - home →
        (s.domain home).state = 3 → (s.domain home).since + 800000000 ≤ s.timeRegs.ticks → (s.diffFrom home).natAbs ≤ s.jumpUnits →
      exec .autoSelect s = .next { s with time := { s.time with selected := home, refusing := false } }) ∧
    (∀ pin rising back, pin ≤ 7 → s.sys.planesHeld = false → bit (s.evtInOf pin).edges (if rising then 0 else 1) = true →
        (s.evtInOf pin).fifo.length < 16 → (s.evtInOf pin).report = false →
      exec (.evtCapture pin rising back) s = .next (s.setEvtIn pin { s.evtInOf pin with
        fifo := (s.evtInOf pin).fifo ++ [{ stamp := (s.tp - back) / 16384 * 16384, gen := s.time.tpGen, rising := rising }] })) ∧
    (∀ pin rising back, pin ≤ 7 → s.sys.planesHeld = false → bit (s.evtInOf pin).edges (if rising then 0 else 1) = true →
        16 ≤ (s.evtInOf pin).fifo.length →
      exec (.evtCapture pin rising back) s = .next (s.setEvtIn pin { s.evtInOf pin with overflow := satInc 0xFFFF (s.evtInOf pin).overflow })) ∧
    (∀ pin at_ j, pin ≤ 7 → s.sys.planesHeld = false → s.standby = false → (s.evtOutOf pin).pulse = false →
        s.pulseAt (s.evtOutOf pin).cfg s.tp = some (at_, j) → (∀ l, (s.evtOutOf pin).lastStart = some l → l < at_) →
        pulseCounts (s.evtOutOf pin).cfg j = true →
      exec (.evtOutPulse pin) s = .next (s.setEvtOut pin { s.evtOutOf pin with
        pulse := true, pulseStart := at_, done := (s.evtOutOf pin).done + 1, lastStart := some at_ })) ∧
    (∀ pin, pin ≤ 7 → s.sys.planesHeld = false → s.standby = false → (s.evtOutOf pin).pulse = true →
        (s.evtOutOf pin).pulseStart + nsU (s.evtOutOf pin).cfg.width ≤ s.tp →
      exec (.evtOutPulse pin) s = .next (match (s.evtOutOf pin).waiting with
        | some p => s.setEvtOut pin { cfg := p, lastStart := some s.tp }
        | none => s.setEvtOut pin { s.evtOutOf pin with pulse := false })) ∧
    (∀ e h p, s.cp.launch = [e] → e.queue = 4 → e.timed = true → e.t ≤ s.tp → e.cmd = .evtOutSet h p →
      ∃ t, exec (.launchEntryDue 4) s = .next t ∧ t.cp.launch = [] ∧ t.evtOut = (s.evtOutApply p).evtOut ∧
        t.cp.events.length = s.cp.events.length + b2n (!e.noApplied))

/-- The PTP domains: a grandmaster is taken and the domain becomes UNCALIBRATED; each Sync gives the offset, sixteen small ones in a row lock the
domain and four large ones unlock it; delay answers, metadata and management are kept; the loss of Sync and the end of holdover. The rate and the
step that the servo takes are free values. Model: what a message carries, the servo and the change of state are the model's (log entries 70 to 72). -/
def Obligations.PtpDomainsFollowTheirGrandmaster : Prop :=
  ∀ (s : State) (d : Nat), d ≤ 1 →
    (∀ m, m.kind = 0 → (s.domain d).state = 1 → (s.domain d).gm = none →
      ∃ t, exec (.ptpMessage d m) s = .next t ∧ (t.domain d).gm = some m.announce ∧ (t.domain d).state = 2 ∧
        ∃ e ∈ t.cp.events, e.code = 0xE004 ∧ e.object = d ∧ e.payload = leBytes 1 1 ++ leBytes 1 2 ++ leBytes 8 m.announce.identity) ∧
    (∀ m g, m.kind = 1 → (s.domain d).gm = some g → m.source = g.identity → (s.domain d).state = 2 ∨ (s.domain d).state = 3 →
      ∃ t, exec (.ptpMessage d m) s = .next t ∧ (t.domain d).offset = (m.t2 : Int) - m.t1 - (s.domain d).meanDelay ∧
        (∃ r, (if d = 0 then t.time.nextRateA else t.time.nextRateB) = some r ∧ -32768000000 ≤ r ∧ r ≤ 32768000000) ∧
        t.time.tp = s.time.tp ∧
        ((s.domain d).state = 2 → (t.domain d).state =
          (if ((m.t2 : Int) - m.t1 - (s.domain d).meanDelay).natAbs < 6553600 ∧ 15 ≤ (s.domain d).good then 3 else 2)) ∧
        ((s.domain d).state = 3 → t.time.ta = s.time.ta ∧ t.time.tb = s.time.tb ∧ (t.domain d).state =
          (if 65536000 < ((m.t2 : Int) - m.t1 - (s.domain d).meanDelay).natAbs ∧ 3 ≤ (s.domain d).bad then 2 else 3))) ∧
    (∀ m g, m.kind = 2 → (s.domain d).state ≠ 0 → (s.domain d).gm = some g → m.source = g.identity →
      exec (.ptpMessage d m) s = .next (s.setDomain d { s.domain d with
        meanDelay := ((s.domain d).offset + (s.domain d).meanDelay + ((m.t4 : Int) - m.t3)) / 2 })) ∧
    (∀ m g, m.kind = 3 → (s.domain d).state ≠ 0 → (s.domain d).gm = some g → m.source = g.identity →
      exec (.ptpMessage d m) s = .next (s.setDomain d { s.domain d with metadata := sliceBytes m.metadata 0 20 })) ∧
    (∀ m, m.kind = 4 → (s.domain d).state ≠ 0 →
      exec (.ptpMessage d m) s = .next (s.setDomain d { s.domain d with mgmtSeen := (s.domain d).mgmtSeen + 1 })) ∧
    (∀ m g, 1 ≤ m.kind → m.kind ≤ 3 → (s.domain d).gm = some g → m.source ≠ g.identity → exec (.ptpMessage d m) s = .next s) ∧
    ((s.domain d).state = 3 → ∃ t, exec (.syncLoss d) s = .next t ∧ (t.domain d).state = 4 ∧ (t.domain d).gm = (s.domain d).gm ∧ t.time = s.time) ∧
    ((s.domain d).state = 2 → ∃ t, exec (.syncLoss d) s = .next t ∧ (t.domain d).state = 1 ∧ (t.domain d).gm = none) ∧
    ((s.domain d).state = 4 → ∃ t, exec (.holdoverLimit d) s = .next t ∧ (t.domain d).state = 1 ∧ (t.domain d).gm = none ∧ t.time = s.time) ∧
    (∀ g n, (s.domain d).state ≠ 0 → (s.domain d).gm = some g → s.domainPort d = some n → s.portSends n = true →
      ∃ t, exec (.delayReq d) s = .next t ∧ (t.domain d).delayReqs = (s.domain d).delayReqs + 1 ∧
        (t.port n).ctrlOut.getLast? = some (.delayReq d (s.domain d).unicast))

/-- Frames, ports and legs: a frame on a port that receives is counted and ends in exactly one place, the receive FIFO's drop, a MAC discard,
firmware's queue or the leg that it matches; firmware answers ARP and reports memberships; open frames close when their time has come; ports and
legs go up and down with their events. Model: the order of the tests of a frame is partly the model's reading (log entries 80 to 84 and 91). -/
def Obligations.FramesPortsAndLegsWork : Prop :=
  ∀ s : State,
    (∀ port bytes r, s.portReceives port = true → r = (s.portCount port 11 1).portCount port 12 bytes.length →
      exec (.frameReceive port bytes true) s = .next (r.portCount port 9 1) ∧
      (∀ k, r.macCheck port bytes = .inl k → exec (.frameReceive port bytes false) s = .next (r.portCount port k 1)) ∧
      (∀ m, r.macCheck port bytes = .inr m → m.etherType = 0x0806 → exec (.frameReceive port bytes false) s = .next (r.toFirmware port bytes)) ∧
      (∀ m p dst body, r.macCheck port bytes = .inr m → m.etherType = 0x0800 → ipv4 m.payload = some p → p.proto = 17 → udp p = some (dst, body) →
          dst ≠ 319 → dst ≠ 320 →
        (r.findLeg port m.vid p dst = none → exec (.frameReceive port bytes false) s = .next (r.portCount port 8 1)) ∧
        (∀ kind i leg l c, r.findLeg port m.vid p dst = some (kind, i, leg, l) → leg ≤ 1 → (s.yoyo port).on = false → (s.flow kind i).cfg = some c →
            (parseRtp body).filter (rtpOk c) = none →
          ∃ t, exec (.frameReceive port bytes false) s = .next t ∧ ((t.flow kind i).leg leg).active = true ∧
            ((t.flow kind i).leg leg).packets = add64 ((s.flow kind i).leg leg).packets 1 ∧
            ((t.flow kind i).leg leg).bytes = add64 ((s.flow kind i).leg leg).bytes body.length ∧
            ((t.flow kind i).leg leg).rtpBad = add64 ((s.flow kind i).leg leg).rtpBad 1))) ∧
    (∀ port bs rest a, (s.port port).ctrl = bs :: rest → s.sys.ready = true → arpTarget bs = some a → (s.port port).owns 4 a = true →
        s.portSends port = true →
      ∃ t, exec (.controlFrameHandle port) s = .next t ∧ (t.port port).ctrl = rest ∧ (t.port port).ctrlOut.getLast? = some (.arpReply a)) ∧
    (∀ kind index leg l, kind ≤ 2 → (s.flow kind index).legs.find? (fun x => x.1 == leg) = some (leg, l) → isMulticast l.family l.dst = true →
        s.sys.ready = true → s.portSends l.port = true →
      ∃ t, exec (.membershipReport kind index leg) s = .next t ∧ (t.port l.port).ctrlOut.getLast? =
        some (.membership l.dst (if l.named = 0 then none else some l.src) (s.flow kind index).enabled)) ∧
    (∀ flow c, (s.flow 0 flow).cfg = some c → ∃ t, exec (.frameClose flow) s = .next t ∧
      ∀ j < (s.flow 0 flow).slots.length,
        (slotDue c (s.slot flow j) s.tp = true → (t.slot flow j).state = (if (s.slot flow j).missing = 0 then 2 else 3) ∧ (t.slot flow j).closeTime = s.tp) ∧
        (slotDue c (s.slot flow j) s.tp = false → t.slot flow j = s.slot flow j)) ∧
    (∀ port, (s.port port).up = false → s.portExists port = true → s.portLock port = true → (s.yoyo port).on = false →
      exec (.portUp port) s = .next ((s.setPort port { s.port port with up := true, fault := 0 }).post 0xE010 port 0 (leBytes 1 0))) ∧
    (∀ port, s.portExists port = true → (s.port port).up = true →
      ∃ t, exec (.portDown port) s = .next t ∧ (t.port port).up = false ∧ (t.port port).counters = (s.port port).counters ∧
        ∃ e ∈ t.cp.events, e.code = 0xE011 ∧ e.object = port ∧ e.payload = leBytes 1 1) ∧
    (∀ port fault, (s.port port).up = true → fault ≤ 2 →
      exec (.linkFault port fault) s = .next (s.setPort port { s.port port with fault := fault })) ∧
    (∀ kind index leg, kind ≤ 2 → index < 64 → leg ≤ 1 → (s.flow kind index).enabled = true → ((s.flow kind index).leg leg).active = true →
      ∃ t, exec (.legLost kind index leg) s = .next t ∧ ((t.flow kind index).leg leg).active = false ∧
        (∃ e ∈ t.cp.events, e.code = 0xE013 ∧ e.object = 256 * kind + index ∧ e.payload = leBytes 1 leg) ∧
        (((s.flow kind index).leg (1 - leg)).active = false → (s.flow kind index).lost = false → (t.flow kind index).lost = true ∧
          ∃ e ∈ t.cp.events, e.code = 0xE015 ∧ e.object = 256 * kind + index))

/-- The yo-yo windows of a unit and what it does when its condition holds, and the transmit flows: a packet that is due leaves on its leg, one whose
successor is due already is discarded and counted in TX_LATE, and the flow goes on to the next packet. Model: the windows' actions and the late
packets are partly the model's (log entries 86 to 90). -/
def Obligations.WatchesAndTransmissionWork : Prop :=
  ∀ s : State,
    (∀ unit, (s.yoyo unit).on = true → (s.yoyo unit).window = false →
      exec (.yoyoWindow unit true) s = .next (s.setYoyo unit { s.yoyo unit with
        cfg := (s.yoyo unit).next.getD (s.yoyo unit).cfg, next := none, window := true, acted := false, matched := [], signal := false })) ∧
    (∀ unit, (s.yoyo unit).on = true → (s.yoyo unit).window = true →
      ∃ t, exec (.yoyoWindow unit false) s = .next t ∧ t.yoyo unit = { s.yoyo unit with
        window := false, repeats := if (s.yoyo unit).acted then (s.yoyo unit).repeats else 0 }) ∧
    (∀ unit, unit < 32 → (s.yoyo unit).on = true → (s.yoyo unit).window = true → (s.yoyo unit).acted = false → (s.yoyo unit).stuck = false →
        (s.yoyo unit).cfg.compare = 0 → (s.yoyo unit).cfg.action ≠ 0 → s.portLock unit = true →
      ∃ t, exec (.yoyoCompare unit) s = .next t ∧ t.yoyo unit = { s.yoyo unit with
          acted := true, repeats := (s.yoyo unit).repeats + 1, stuck := decide (1000 ≤ (s.yoyo unit).repeats + 1) } ∧
        (∃ e ∈ t.cp.events, e.code = 0xE010 ∧ e.object = unit) ∧
        (999 ≤ (s.yoyo unit).repeats → ∃ e ∈ t.cp.events, e.code = 0xE0B1 ∧ e.object = 3)) ∧
    (∀ unit, unit < 32 → (s.yoyo unit).on = true → (s.yoyo unit).window = true → (s.yoyo unit).acted = false → (s.yoyo unit).stuck = false →
        (s.yoyo unit).cfg.compare = 0 → (s.yoyo unit).cfg.action = 0 → s.portLock unit = true →
      ∃ t, exec (.yoyoCompare unit) s = .next t ∧ (t.yoyo unit).on = false ∧ (t.yoyo unit).window = false) ∧
    (∀ port k i leg l, port ≤ 31 → (s.yoyo port).on = true → (s.yoyo port).window = true → (s.port port).mac ≠ 0 → s.portLock port = true →
        s.sys.windDown = false → s.sys.txHeld = false →
        (s.portLegs port).filter (fun l => bit (s.yoyo port).cfg.watch (64 * l.1 + l.2.1) && isMulticast l.2.2.2.family l.2.2.2.dst) = [(k, i, leg, l)] →
      ∃ t, exec (.yoyoMembershipReport port) s = .next t ∧ (t.port port).ctrlOut.getLast? =
        some (.membership l.dst (if l.named = 0 then none else some l.src) true)) ∧
    (∀ flow c o l n, flow ≤ 63 → s.txRuns (s.tx 3 flow) = true → (s.tx 3 flow).cfg = some c → (s.output flow).cfg = some o →
        (s.tx 3 flow).started = true → (s.tx 3 flow).packet ≠ 0 → n = framePackets (frameFormat o) (udpLimit c) →
      (launchTime o.rate (nsU c.tro) (s.tx 3 flow).frame (s.tx 3 flow).packet n ≤ s.tp + halfTick →
          s.tp ≤ launchTime o.rate (nsU c.tro) (s.tx 3 flow).frame ((s.tx 3 flow).packet + 1) n + halfTick →
          txLegs c = [l] → s.portSends l.port = true →
        ∃ t body, exec (.txPacketLaunch flow) s = .next t ∧
          t.tx 3 flow = { (s.tx 3 flow).next n with sent := add64 (s.tx 3 flow).sent 1, lastRtp := rtpClock o.rate (s.tx 3 flow).frame % 2 ^ 32 } ∧
          (t.port l.port).sent.getLast? = some (s.mediaFrame (64 + flow) l (rtpPacket (64 + flow)
            (((s.tx 3 flow).seq + Config.txField 5 (64 + flow)) % 2 ^ 32 % 65536) (rtpClock o.rate (s.tx 3 flow).frame % 2 ^ 32)
            ((s.tx 3 flow).packet + 1 == n) body))) ∧
      (launchTime o.rate (nsU c.tro) (s.tx 3 flow).frame (s.tx 3 flow).packet n ≤ s.tp + halfTick →
          launchTime o.rate (nsU c.tro) (s.tx 3 flow).frame ((s.tx 3 flow).packet + 1) n + halfTick < s.tp →
        exec (.txPacketLaunch flow) s = .next (s.setTx 3 flow { (s.tx 3 flow).next n with late := add64 (s.tx 3 flow).late 1 }))) ∧
    (∀ flow c l n dur, flow ≤ 63 → s.txRuns (s.tx 4 flow) = true → (s.tx 4 flow).cfg = some c → (s.tx 4 flow).started = true →
        audioPacket (audioShape s c).2 = (n, dur) →
      (countTime 48000 (s.tx 4 flow).frame + dur ≤ s.tp + halfTick → s.tp ≤ countTime 48000 (s.tx 4 flow).frame + dur + dur →
          txLegs c = [l] → s.portSends l.port = true →
        ∃ t body, exec (.audioTxLaunch flow) s = .next t ∧
          t.tx 4 flow = { s.tx 4 flow with
            frame := (s.tx 4 flow).frame + n, seq := ((s.tx 4 flow).seq + 1) % 65536, sent := add64 (s.tx 4 flow).sent 1,
            lastRtp := (s.tx 4 flow).frame % 2 ^ 32 } ∧
          (t.port l.port).sent.getLast? = some (s.mediaFrame (128 + flow) l (rtpPacket (128 + flow)
            (((s.tx 4 flow).seq + Config.txField 5 (128 + flow)) % 65536) ((s.tx 4 flow).frame % 2 ^ 32) false body))) ∧
      (countTime 48000 (s.tx 4 flow).frame + dur ≤ s.tp + halfTick → countTime 48000 (s.tx 4 flow).frame + dur + dur < s.tp →
        exec (.audioTxLaunch flow) s = .next (s.setTx 4 flow { s.tx 4 flow with
          frame := (s.tx 4 flow).frame + n, seq := ((s.tx 4 flow).seq + 1) % 65536, late := add64 (s.tx 4 flow).late 1 })))

/-- Work items: their release to the deque of their home cluster, the latest start of a P-item, engines that take work from their own deque or steal
it from a victim's, the ends of C-, T- and P-items, skipped rows, and the end of a lease. Model: that items end with their rows, the last tick of a
commit and the theft by the row STEAL are the model's (log entries 37, 38, 104, 110 and 112). -/
def Obligations.WorkItemsRunToTheirEnd : Prop :=
  ∀ s : State,
    (∀ key i c, s.fresh key = true → s.homeOf key = some c → (s.cluster c).deque.length < 64 →
        ((key.kind = .c ∧ i = s.itemC key ∧ (s.head key.owner).scans = true ∧ ((s.head key.owner).shotOf key.frame).isSome = true ∧
            key.row < (s.head key.owner).th ∧ key.run < (s.head key.owner).runs ∧ s.runHolds key = true ∧ s.prevDone key = true ∧
            s.pDone { key with kind := .p } = false) ∨
          (key.kind = .p ∧ i = s.itemP key ∧ s.pendingP key = true ∧
            ((s.head key.owner).composedPicture key.frame = false ∨ s.cDone { key with kind := .c } = true)) ∨
          (key.kind = .t ∧ i = s.itemT key ∧ (s.output key.owner).itemsLeft.any (fun x => x.1 == key.frame) = true ∧
            ∃ o, (s.output key.owner).cfg = some o ∧ key.row < (outputItems o).1 ∧ key.run < (outputItems o).2)) →
      exec (.itemRelease key) s = .next (s.setCluster c { s.cluster c with deque := (s.cluster c).deque ++ [i] })) ∧
    (∀ key, key.kind = .p → s.pendingP key = true →
      (s.runningItem { key with kind := .c } = true →
        ∃ t, exec (.pItemLatestStart key) s = .next t ∧ key ∈ t.tq.dead ∧ (t.head key.owner).settled key.frame key.row = true) ∧
      (s.runningItem { key with kind := .c } = false → s.cDone { key with kind := .c } = true →
        exec (.pItemLatestStart key) s = .next (s.placeItem (s.itemP key)))) ∧
    (∀ cluster i, cluster < 8 → s.hasIdle cluster = true → (s.cluster cluster).deque = [i] → s.tq.held = [] → i.key.kind ≠ .c →
        (i.key.kind = .t → s.tp ≤ i.due) → (i.key.kind = .p → s.tp + s.cycles i.cost ≤ s.dueNow i) →
      ∃ t, exec (.engineFree cluster) s = .next t ∧
        t.cluster cluster = { s.cluster cluster with deque := [], running := (s.cluster cluster).running ++ [{ i with started := s.tp }] }) ∧
    (∀ cluster v i, cluster < 8 → s.hasIdle cluster = true → (s.cluster cluster).deque = [] → s.victims cluster = [v] → s.pickFrom v = some i →
        s.tq.held = [] → i.key.kind ≠ .c →
      ∃ t, exec (.steal cluster) s = .next t ∧
        t.cluster cluster = { s.cluster cluster with
          running := (s.cluster cluster).running ++ [{ i with started := s.tp }], steals := add64 (s.cluster cluster).steals 1 } ∧
        ∀ x ∈ (t.cluster v).deque, x.key ≠ i.key) ∧
    (∀ key, key.kind = .c → s.runningItem key = true →
      ∃ t, exec (.cItemComplete key) s = .next t ∧ t.runningItem key = false ∧ key ∈ t.tq.doneC ∧
        ∀ i ∈ (s.head key.owner).runIndices key.row key.run, (t.tile i).lastComposed = key.frame % 2 ^ 32) ∧
    (∀ key c slot left x, key.kind = .t → s.runningItem key = true → (s.output key.owner).cfg = some c →
        (s.output key.owner).itemsLeft.find? (fun y => y.1 == key.frame) = some (key.frame, slot, left) →
        (spGet s.outShots [] key.owner).find? (fun y => y.frame == key.frame) = some x →
      (left ≤ 1 → ∃ t, exec (.tItemComplete key) s = .next t ∧ (t.output key.owner).done.getLast? = some (key.frame, slot) ∧
        (t.output key.owner).itemsLeft = (s.output key.owner).itemsLeft.filter (fun y => y.1 != key.frame)) ∧
      (1 < left → ∃ t, exec (.tItemComplete key) s = .next t ∧ key ∈ t.tq.doneC ∧ (t.output key.owner).done = (s.output key.owner).done ∧
        (t.output key.owner).itemsLeft.find? (fun y => y.1 == key.frame) = some (key.frame, slot, left - 1))) ∧
    (∀ key l u v, key.kind = .p → s.runningItem key = true → (s.head key.owner).latchedOf key.frame = some l →
        (s.head key.owner).settled key.frame key.row = false →
      (((s.freeEngine key).muraRead key.owner l).checkP key.owner l key.row key.run = (true, u) →
        ∃ t, exec (.pItemComplete key) s = .next t ∧ key ∈ t.tq.dead ∧ (t.head key.owner).settled key.frame key.row = true) ∧
      (((s.freeEngine key).muraRead key.owner l).checkP key.owner l key.row key.run = (false, u) →
          v = { (u.runP key.owner l key.row key.run) with
            tq := { (u.runP key.owner l key.row key.run).tq with
              doneP := (u.runP key.owner l key.row key.run).tq.doneP ++ [key] } } →
        (v.rowComplete key.owner key.frame key.row = false → exec (.pItemComplete key) s = .next v) ∧
        (v.rowComplete key.owner key.frame key.row = true → (v.tp : Int) < v.deadP key.owner key.frame key.row + 81920 → v.standby = false →
          exec (.pItemComplete key) s = .next (v.commitRow key.owner l key.row) ∧
            ((v.commitRow key.owner l key.row).head key.owner).settled key.frame key.row = true))) ∧
    (∀ head frame row, (s.head head).scans = true → ((s.head head).latchedOf frame).isSome = true → row < (s.head head).th →
        (s.head head).settled frame row = false →
      ∃ t, exec (.rowSkipped head frame row) s = .next t ∧ (t.head head).settled frame row = true ∧
        (t.head head).counts.skipped = add64 (s.head head).counts.skipped 1) ∧
    (∀ id l, s.leases.find? (fun x => x.1 == id) = some (id, l) → l.ending = true → s.leaseScanned l = true →
      ∃ t, exec (.leaseReleased id) s = .next t ∧ (∀ x ∈ t.leases, x.1 ≠ id) ∧ ∃ e ∈ t.cp.events, e.code = 0xE023)

/-- Frames of a head from composition to scan-out: the composition start fixes what a frame shows and moves on, the latch point fixes its settings
and its clock, each line start moves scan-out by a line; the hold time of a loss, self-refresh, the repeat frames of a FOLLOW head and the stall
watchdog. Model: that the instants come as rows, and the gate pins between lines, are the model's (log entries 4, 128 and 130). -/
def Obligations.FramesAreComposedLatchedAndScanned : Prop :=
  ∀ (s : State) (n : Nat), n < 4 →
    (∀ m c, m < 16 → s.selectHeld n = false → (s.head n).state = 3 → (s.head n).cfg = some c → c.scanMode = 0 → (s.head n).scan.nextCfg = none →
        s.cp.launch = [] → s.deferredOf n = [] →
      ∃ t, exec (.compositionStart { kind := 0, index := 16 * n + m }) s = .next t ∧
        (t.head n).scan.nextCompose = (s.head n).scan.nextCompose + 1 ∧ ∃ x ∈ (t.head n).shots, x.frame = (s.head n).scan.nextCompose) ∧
    (∀ i c, i < 64 → (s.output i).cfg = some c → (s.output i).route.deferred = none → s.cp.launch = [] →
      ∃ t slot, exec (.compositionStart { kind := 1, index := i }) s = .next t ∧ (t.output i).frame = (s.output i).frame + 1 ∧
        (t.output i).itemsLeft.getLast? = some ((s.output i).frame, slot, (outputItems c).1 * (outputItems c).2)) ∧
    (∀ d, destOk d = true → s.destLossFill d = true → (s.dest d).route.kind = 1 → (s.flow 0 (s.dest d).route.source).lost = true →
      exec (.lossHoldEnd d) s = .next (s.setDest d { s.dest d with lossEnd := true })) ∧
    (∀ c, (s.head n).state = 3 → (s.head n).cfg = some c → c.scanMode = 0 → (s.head n).scan.parking = false → (s.head n).scan.nextCfg = none →
        (s.head n).scan.transition = 0 → s.standby = false → s.cp.launch = [] →
      ∃ t l, exec (.latchPoint n) s = .next t ∧ (t.head n).scan.nextLatch = (s.head n).scan.nextLatch + 1 ∧
        (t.head n).scan.latched.getLast? = some l ∧ l.frame = (s.head n).scan.nextLatch ∧ l.kind = 0 ∧ l.clock = normalClock c l.frame ∧
        l.lines = c.vtotal ∧ l.set = (s.head n).panel.active ∧ l.band = (t.head n).bandNow ∧ l.allowed = (s.head n).ledger.allowed) ∧
    (∀ l, (s.head n).scans = true → (s.head n).scan.parking = false → (s.head n).frameDone = false → (s.head n).latchedOf (s.head n).scan.frame = some l →
        (s.head n).scan.nextCfg = none →
      ((s.head n).hh ≤ (s.head n).scan.line → ∃ t, exec (.lineStart n) s = .next t ∧
        (t.head n).scan.frame = l.frame ∧ (t.head n).scan.line = (s.head n).scan.line + 1 ∧ (t.head n).pins.goe = false ∧
        (t.head n).pins.gck = (if (s.head n).scan.line < (s.head n).hh + (s.head n).gateNow.flush
          then 2 ^ ((s.head n).scan.line % max 1 (s.head n).gateNow.phases) else 0)) ∧
      ((s.head n).scan.line < (s.head n).hh → (l.frame, (s.head n).scan.line / 8) ∈ (s.head n).scan.ready →
        ∃ t, exec (.lineStart n) s = .next t ∧
          (t.head n).scan.frame = l.frame ∧ (t.head n).scan.line = (s.head n).scan.line + 1 ∧ (t.head n).pins.goe = true ∧
          (t.head n).pins.gck = 2 ^ ((s.head n).scan.line % max 1 (s.head n).gateNow.phases))) ∧
    ((s.head n).state = 3 → (s.head n).sr.mode ≠ 0 → s.activeSource n = false →
      exec (.srEnter n) s = .next ((s.setHead n { s.head n with state := 4 }).post 0xE062 n 0 (leBytes 4 (s.head n).scan.nextCompose))) ∧
    ((s.head n).state = 4 →
      exec (.srExit n) s = .next ((s.setHead n { s.head n with state := 3 }).post 0xE063 n 0 (leBytes 4 (s.head n).scan.nextCompose))) ∧
    (∀ c, (s.head n).cfg = some c → c.scanMode = 1 → (s.head n).scans = true → (s.head n).scan.eLast + periodNear c.followMin ≤ s.tp + leadOf c →
      exec (.followRepeat n) s = .next (s.setHead n { (s.head n).plan ((s.head n).scan.eLast + periodNear c.followMin) with
        counts := { (s.head n).counts with followRepeat := add64 (s.head n).counts.followRepeat 1 } })) ∧
    ((s.head n).stoppable = true → s.stalled n = true →
      ∃ t, exec (.headStall n) s = .next t ∧ (t.head n).state = 5 ∧ (t.head n).scan.stopFrame = some (s.head n).scan.nextLatch ∧
        ∃ e ∈ t.cp.events, e.code = 0xE061 ∧ e.object = n ∧ e.payload = leBytes 4 (s.head n).scan.frame)

/-- The end of a warm-up, the balancing frame, the park discharge and its end, the results of the checks, the thermistor, the VCOM loop, and the
release of a mura buffer and of the shadow set. Model: a stop's balancing frame, V0 in a trim, the samples and the frame of a result are partly the
model's (log entries 113, 118, 119, 127 and 131). -/
def Obligations.StopsChecksAndSensorsWork : Prop :=
  ∀ (s : State) (n : Nat), n < 4 →
    (∀ l, (s.head n).state = 2 → (s.head n).ledger.warmLeft = 0 → (s.head n).latchedOf (s.head n).scan.frame = some l → l.kind ≠ 3 →
      ∃ t, exec (.warmupDone n) s = .next t ∧ (t.head n).state = 3 ∧
        ∃ e ∈ t.cp.events, e.code = 0xE056 ∧ e.object = n ∧ e.payload = leBytes 4 (s.head n).ledger.warmCount) ∧
    (∀ l, (s.head n).state = 5 → (s.head n).frameDone = true → (s.head n).scan.parking = false → (s.head n).nextScan = some l → l.kind = 2 →
      ∃ t, exec (.balancingFrame n) s = .next t ∧ (t.head n).scan.frame = l.frame ∧ (t.head n).scan.line = 0 ∧ (t.head n).scan.balance = true) ∧
    (∀ l, (s.head n).state = 5 → (s.head n).scan.balance = true → (s.head n).scan.parking = false → (s.head n).latchedOf (s.head n).scan.frame = some l →
        (s.head n).hh ≤ (s.head n).scan.line →
      ∃ t, exec (.park n) s = .next t ∧ (t.head n).scan.parking = true ∧ (t.head n).pins.gallon = true ∧ (t.head n).pins.goe = true ∧
        (t.head n).pins.gck = 0 ∧ (t.head n).ledger.parkL = s.parkMax n l) ∧
    ((s.head n).state = 5 → (s.head n).scan.parking = true → (s.head n).scan.nextCfg = none → (s.head n).power.downAfterPark = false → s.cp.launch = [] →
      ∃ t, exec (.headParked n) s = .next t ∧ (t.head n).state = 1 ∧ (t.head n).pins.gallon = false ∧ t.nvs.commit ≠ none ∧
        ∃ e ∈ t.cp.events, e.code = 0xE060 ∧ e.object = n ∧ e.payload = leBytes 2 (s.head n).ledger.parkL) ∧
    (∀ i p k, ((s.head n).check i).cfg = some p → p.tap = 1 → ((s.head n).check i).accFrame = some k → ((s.head n).check i).accDone = true →
      (((s.head n).check i).accSkip = true → ∃ t, exec (.checkResult n i) s = .next t ∧ ((t.head n).check i).status = 3 ∧
        ((t.head n).check i).count = ((s.head n).check i).count) ∧
      (((s.head n).check i).accSkip = false → ((s.head n).check i).learn = true ∨ Nat.xor ((s.head n).check i).acc 0xFFFFFFFF = ((s.head n).check i).expect →
        ∃ t, exec (.checkResult n i) s = .next t ∧ ((t.head n).check i).status = 1 ∧ ((t.head n).check i).count = 0 ∧
          ((t.head n).check i).crc = Nat.xor ((s.head n).check i).acc 0xFFFFFFFF ∧ ((t.head n).check i).frame = k % 2 ^ 32) ∧
      (((s.head n).check i).accSkip = false → ((s.head n).check i).learn = false →
          Nat.xor ((s.head n).check i).acc 0xFFFFFFFF ≠ ((s.head n).check i).expect → ((s.head n).check i).count + 1 < p.missLimit →
        ∃ t, exec (.checkResult n i) s = .next t ∧ ((t.head n).check i).status = 2 ∧ ((t.head n).check i).count = ((s.head n).check i).count + 1)) ∧
    (∀ sample, sample < 4096 → (s.head n).state = 1 → s.standby = false →
      ((s.head n).panel.active.settings.thermMin ≤ sample → sample ≤ (s.head n).panel.active.settings.thermMax →
        ∃ t, exec (.thermSample n sample) s = .next t ∧ (t.head n).therm.bad = 0 ∧ (t.head n).therm.fault = false ∧
          (t.head n).therm.samples.getLast? = some (thermTemp (s.head n).panel.active.tables sample) ∧ (t.head n).therm.samples.length ≤ 16) ∧
      (sample < (s.head n).panel.active.settings.thermMin → ∃ t, exec (.thermSample n sample) s = .next t ∧
        (t.head n).therm.samples = (s.head n).therm.samples ∧ (t.head n).therm.bad = min ((s.head n).therm.bad + 1) 16 ∧
        (15 ≤ (s.head n).therm.bad → (t.head n).therm.fault = true))) ∧
    (∀ l samples, (s.head n).latchedOf (s.head n).scan.frame = some l → l.last = true → (s.head n).scans = true →
      (∀ e h p, s.cp.launch = [e] → e.queue = n → e.cmd = .vcomSet h p → (s.head n).vcom.cfg.senseEnable ≠ 1 →
        ∃ t, exec (.trimInstant n samples) s = .next t ∧ t.cp.launch = [] ∧ (t.head n).vcom.cfg = p ∧ (t.head n).vcom.dac = p.v0) ∧
      (∀ c delta, s.cp.launch = [] → c = (s.head n).vcom.cfg → c.senseEnable = 1 → s.standby = false → samples.length = c.senseN → (s.head n).windowFits l = true →
          delta = rdiv ((samples.foldl (· + ·) 0 : Nat) : Int) (max 1 c.senseN) - c.senseTarget → delta.natAbs ≤ c.senseLimit →
          (∀ x ∈ samples, 1 ≤ x ∧ x ≤ 4094) →
        ∃ t, exec (.trimInstant n samples) s = .next t ∧ (t.head n).vcom.delta = delta ∧
          (t.head n).vcom.e = clampI (-2047) 2047 (rdiv (-delta * c.senseScale) 256) ∧
          (t.head n).vcom.dac = (clampI c.vmin c.vmax (((s.head n).vcom.dac : Int) -
            clampI (-(c.trimStep : Int)) c.trimStep (rdiv (delta * c.trimGain) 256))).toNat ∧ (t.head n).vcom.fault = false)) ∧
    (∀ base last, (s.head n).panel.muraRelease = some (base, last) → s.muraBusy n base = false →
      ∃ t, exec (.muraReleased n) s = .next t ∧ (t.head n).panel.muraRelease = none ∧
        ∃ e ∈ t.cp.events, e.code = 0xE040 ∧ e.object = n ∧ e.payload = leBytes 8 base ++ leBytes 4 last) ∧
    ((s.head n).panel.copying = true → s.cp.running = [] →
      ∃ t, exec (.activateCopy n) s = .next t ∧ (t.head n).panel.copying = false ∧ (t.head n).panel.shadow = (s.head n).panel.active)

/-- The driver link on the device's side: training and its retries, the CONFIG packets, the polls and what their REPORTs, their failures and their
absence do, the rate change, and the receivers' lock and eye samples. Model: the limits of failures in a row, the CONFIG that keeps its SEQ and a
REPORT as a row are the model's (log entries 35, 135, 136 and 138). -/
def Obligations.TheDriverLinkWorks : Prop :=
  ∀ (s : State) (d : Nat), d < 96 →
    ((s.driver d).link = 1 ∨ (s.driver d).link = 3 → (s.driver d).tries < 3 →
      ∃ t, exec (.trainTimeout d) s = .next t ∧ (t.driver d).link = 1 ∧ (t.driver d).tries = (s.driver d).tries + 1) ∧
    ((s.driver d).link = 1 ∨ (s.driver d).link = 3 → 3 ≤ (s.driver d).tries →
      ∃ t, exec (.trainTimeout d) s = .next t ∧ (t.driver d).link = 5 ∧ ∃ e ∈ t.cp.events, e.code = 0xE072 ∧ e.object = d) ∧
    ((s.driver d).link = 2 → ∃ t, exec (.configPacket d) s = .next t ∧
      (t.driver d).seq = (if s.configNew d then ((s.driver d).seq + 1) % 65536 else (s.driver d).seq) ∧
      (t.driver d).sent = (s.configTurn d).configBytes d) ∧
    (∀ group, group < 12 → ∃ t, exec (.poll group) s = .next t ∧ (t.driver (8 * group + spGet s.polls 0 group)).polled = true ∧
      t.polls = spSet 0 s.polls group ((spGet s.polls 0 group + 1) % 8)) ∧
    (∀ p, (s.driver d).polled = true → (s.driver d).link = 1 → reportLock p s.pair.port = true →
      ∃ t, exec (.report d p true) s = .next t ∧ (t.driver d).link = 2 ∧ (t.driver d).polled = false ∧ (t.driver d).timeouts = 0 ∧
        (t.driver d).crcErr = add64 (s.driver d).crcErr p.crcErr) ∧
    (∀ p, (s.driver d).polled = true → (s.driver d).link = 2 → p.mismatch = true →
      ∃ t, exec (.report d p true) s = .next t ∧ (t.driver d).link = 5) ∧
    (∀ p, (s.driver d).polled = true → (s.driver d).link = 2 → p.mismatch = false → p.configOk = true → p.seq = (s.driver d).seq → s.configNew d = false →
      ∃ t, exec (.report d p true) s = .next t ∧ (t.driver d).link = (if s.linkRateOf d = 1 then 4 else 3)) ∧
    (∀ p, (s.driver d).polled = true → (s.driver d).link = 3 → (s.driver d).ts2 = true → reportLock p s.pair.port = true →
      ∃ t, exec (.report d p true) s = .next t ∧ (t.driver d).link = 4 ∧ ∃ e ∈ t.cp.events, e.code = 0xE070 ∧ e.object = d) ∧
    (∀ p, (s.driver d).polled = true → (s.driver d).link = 4 → reportLock p s.pair.port = false →
      ∃ t, exec (.report d p true) s = .next t ∧ (t.driver d).link = 1 ∧ ∃ e ∈ t.cp.events, e.code = 0xE071 ∧ e.object = d) ∧
    (∀ p, (s.driver d).polled = true → ∃ t, exec (.report d p false) s = .next t ∧
      (t.driver d).bcCrc = add64 (s.driver d).bcCrc 1 ∧ (t.driver d).polled = false ∧ (t.driver d).link = (s.driver d).link) ∧
    ((s.driver d).polled = true → (s.driver d).head ≠ 255 → (s.driver d).link ≠ 0 →
      ∃ t, exec (.bcTimeout d) s = .next t ∧ (t.driver d).bcTimeout = add64 (s.driver d).bcTimeout 1 ∧ (t.driver d).polled = false ∧
        (t.driver d).link = (if 15 ≤ (s.driver d).timeouts ∧ (s.driver d).link = 4 then 1 else (s.driver d).link)) ∧
    ((s.driver d).link = 3 → ∃ t, exec (.ts2 d) s = .next t ∧ (t.driver d).ts2 = true ∧ (t.driver d).link = 3) ∧
    (∀ lane, lane < 36 → 32 ≤ lane → s.sys.planesHeld = false → (s.lane lane).blockLock = false → (s.yoyo 0x20).on = false →
      ∃ t, exec (.blockLock lane) s = .next t ∧ (t.lane lane).blockLock = true ∧ (t.lane lane).cdrLock = true ∧ (t.lane lane).signal = true) ∧
    (∀ lane h v, lane < 36 → (s.lane lane).blockLock = true →
      ∃ t, exec (.eyeSample lane h v) s = .next t ∧ (t.fom lane).fom = min 255 ((min h 32 * min v 255 + 8) / 16))

/-- The Rennex drivers: what a port receives is held for its LD, an invalid packet is counted, the selected port's LD applies a LINE packet, keeps
the outputs on SKIP and takes every channel to VCOM where nothing fit is held; DISCHARGE, CONFIG and the loss of a port. Model: a packet held with
ROLE 0, the CONFIG kept and the generation tested are the model's (log entries 19 and 137). -/
def Obligations.TheDriversObeyTheirPackets : Prop :=
  ∀ (s : State) (d port : Nat) (k : DlPacket), d < 96 → port ≤ 1 →
    (k.good = true → 1 ≤ k.type → k.type ≤ 3 → ∃ t, exec (.driverPacket d port k) s = .next t ∧ ((t.renn d).port port).held = some k ∧
      ((t.renn d).port port).present = true ∧ (t.renn d).outs = (s.renn d).outs ∧ (k.role = true → (s.renn d).sel = 0 → (t.renn d).sel = port + 1)) ∧
    (k.good = false → ∃ t, exec (.driverPacket d port k) s = .next t ∧ ((t.renn d).port port).held = ((s.renn d).port port).held ∧
      ((t.renn d).port port).invalid = satInc 0xFFFF ((s.renn d).port port).invalid ∧ (t.renn d).sel = (s.renn d).sel) ∧
    ((s.renn d).sel = port + 1 → ((s.renn d).port port).held = some k → k.role = true → k.type = 1 →
      ∃ t, exec (.ld d port) s = .next t ∧ (t.renn d).outs = lineOuts (s.renn d).chUsed k ∧ ((t.renn d).port port).held = none) ∧
    ((s.renn d).sel = port + 1 → ((s.renn d).port port).held = some k → k.role = true → k.type = 2 →
      ∃ t, exec (.ld d port) s = .next t ∧ (t.renn d).outs = (s.renn d).outs ∧ ((t.renn d).port port).held = none) ∧
    ((s.renn d).sel = port + 1 → ((s.renn d).port port).held = none →
      ∃ t, exec (.ld d port) s = .next t ∧ (t.renn d).outs = [] ∧ (t.renn d).missed = satInc 0xFFFF (s.renn d).missed) ∧
    ((s.renn d).sel ≠ port + 1 → exec (.ld d port) s = .next s) ∧
    (k.good = true → k.type = 5 → k.role = true → (k.gen + 16 - (s.renn d).gen % 16) % 16 ≤ 7 →
      ∃ t, exec (.discharge d port k) s = .next t ∧ (t.renn d).outs = []) ∧
    (k.good = true → k.type = 5 → k.role = true → 7 < (k.gen + 16 - (s.renn d).gen % 16) % 16 →
      ∃ t, exec (.discharge d port k) s = .next t ∧ (t.renn d).outs = (s.renn d).outs) ∧
    ((s.renn d).sel = port + 1 → ∃ t, exec (.portAbsent d port) s = .next t ∧ (t.renn d).sel = 0 ∧ (t.renn d).outs = [] ∧
      ((t.renn d).port port).present = false) ∧
    ((s.renn d).sel ≠ port + 1 → ∃ t, exec (.portAbsent d port) s = .next t ∧ (t.renn d).sel = (s.renn d).sel ∧ (t.renn d).outs = (s.renn d).outs ∧
      ((t.renn d).port port).present = false) ∧
    (k.good = true → k.type = 4 → ((s.renn d).port port).seq ≤ fieldAt k.body 8 2 →
      ∃ t, exec (.driverConfig d port k) s = .next t ∧ ((t.renn d).port port).seq = fieldAt k.body 8 2 ∧ (t.renn d).chUsed = fieldAt k.body 2 2 ∧
        (t.renn d).mismatch = !(t.renn d).configOk ∧
        (t.renn d).configOk = (fieldAt k.body 0 2 == (Config.driverBuild d).1 && fieldAt k.body 4 1 == (Config.driverBuild d).2 &&
          fieldAt k.body 5 1 == d % 8)) ∧
    (k.good = true → k.type = 4 → fieldAt k.body 8 2 < ((s.renn d).port port).seq →
      ∃ t, exec (.driverConfig d port k) s = .next t ∧ ((t.renn d).port port).seq = ((s.renn d).port port).seq ∧
        (t.renn d).configOk = (s.renn d).configOk ∧ (t.renn d).chUsed = (s.renn d).chUsed)

/-- Power domains, wakes, operating points, refresh and the NVS: a transition ends with PD_CHANGED and the domain in its new state, a wake starts
one or waits, a change of operating point ends at its target or on failure at the slower point, a commit programs exactly its dirty groups, and a
counter increment starts its commit. Model: the end of a failed change, the wakes in a queue and the base of an increment are the model's (log
entries 144, 145 and 166). -/
def Obligations.PowerAndNvsWorkEnds : Prop :=
  ∀ s : State,
    (∀ m rest, s.power.moves = m :: rest → s.power.heldWrites = [] → s.cp.running = [] →
      ∃ t, exec .pdChanged s = .next t ∧ t.pd m.1 = m.2.2 ∧ t.power.moves = rest ∧
        ∃ e ∈ t.cp.events, e.code = 0xE0B0 ∧ e.object = m.1 ∧ e.payload = leBytes 1 m.2.1 ++ leBytes 1 m.2.2) ∧
    (∀ c, s.power.moves = [] → s.power.change = some c → (c.target = 0 ∨ 9 ≤ c.domain ∨ (s.cluster (c.domain - 1)).running = []) →
        s.power.heldWrites = [] → s.cp.running = [] → s.power.latched = [] →
      ∃ t, exec .pdChanged s = .next t ∧ t.pd c.domain = c.target ∧ t.power.change = none ∧
        ∃ e ∈ t.cp.events, e.code = 0xE0B0 ∧ e.object = c.domain ∧ e.payload = leBytes 1 c.old ++ leBytes 1 c.target) ∧
    (∀ domain source lost, domain ≤ 10 → source ≤ 2 → bit (spGet s.power.wakeMask 0 domain) source = true →
        bit (spGet s.power.stuck 0 domain) source = false → s.pd domain = 1 → s.power.change = none →
      (s.seqBusy = false → exec (.wake domain source lost) s = .next { s with
        power := { s.power with change := some { domain := domain, old := 1, target := 0, proc := none } } }) ∧
      (s.seqBusy = true → exec (.wake domain source lost) s = .next { s with
        power := { s.power with latched := s.power.latched ++ [(domain, source)] } })) ∧
    (∀ c, s.power.opChange = some c →
      (∃ t, exec .vidSettle s = .next t ∧ t.power.op = c.target ∧ t.power.opChange = none ∧ t.power.vgood = true ∧ t.power.div8 = false ∧
        ∃ e ∈ t.cp.events, e.code = 0xE0B0 ∧ e.object = 0x0F ∧ e.payload = leBytes 1 c.old ++ leBytes 1 c.target) ∧
      (∃ t, exec .vgoodTimeout s = .next t ∧ t.power.op = max c.old c.target ∧ t.power.opChange = none ∧ t.power.vid = c.oldVid ∧
        t.log.count = s.log.count + 1)) ∧
    (s.sys.aonReset = false → s.power.opChange = none →
      ∃ t, exec .vgoodLost s = .next t ∧ t.power.vgood = false ∧ t.power.div8 = true ∧ t.log.count = s.log.count + 1) ∧
    (∀ temps cooled, temps.length = 8 → (s.yoyo thermalUnit).on = false →
      ∃ t, exec (.refreshStep temps cooled) s = .next t ∧ t.power.temps = temps ∧
        (∀ hot, hot = max (temps.getD 6 0) (temps.getD 7 0) →
          (1760 < hot → s.power.refresh ≤ 2 → t.power.refresh = 2) ∧
          (hot ≤ 1760 → 1520 < hot → s.power.refresh ≤ 1 → t.power.refresh = 1) ∧
          (hot ≤ 1488 → t.power.refresh = (if cooled = true ∨ s.power.refresh = 0 then 0 else s.power.refresh)))) ∧
    (∀ c, s.nvs.commit = some c →
      ∃ t, exec .nvsCommitEnd s = .next t ∧ (∀ i < 64, spGet t.nvs.cells 0 (64 * s.nvs.page + i) =
          (if (List.range 4).any (fun j => s.nvs.dirty.getD (4 * (i / 4) + j) false) = true then s.nvs.buf.getD i 0
            else spGet s.nvs.cells 0 (64 * s.nvs.page + i))) ∧
        ∀ a, a < 64 * s.nvs.page ∨ 64 * s.nvs.page + 64 ≤ a → spGet t.nvs.cells 0 a = spGet s.nvs.cells 0 a) ∧
    (∀ c, c < 32 → s.nvs.commit = none → s.nvs.tasks = [] → counterValue s.nvs c < 2 ^ 30 - 1 →
      ∃ t, exec (.counterIncrement c) s = .next t ∧ t.nvs.commit ≠ none ∧ t.nvs.cells = s.nvs.cells ∧
        t.nvs.page = 3968 + 4 * c + (counterValue s.nvs c + 1) % 64 / 16)

/-- The link of the redundant pair: it comes up and goes down, HELLO decides the roles, sequenced messages are acknowledged, sent again at most
three times and then take the link down, ECHOs measure the delay, and the messages that only inform are kept. Model: when HELLO, ECHO and TIME are
sent, and what CMD covers, are the model's (log entries 155, 156, 160, 161 and 165). -/
def Obligations.ThePairLinkWorks : Prop :=
  ∀ s : State,
    (s.pair.enable = true → s.pair.linkUp = false → s.pair.helloSeen = true → s.pair.sent.any (fun m => m.mtype == 1) = false →
        (∀ l ∈ [32, 33, 34, 35], (s.lane l).blockLock = true) →
      ∃ t, exec .pairLinkUp s = .next t ∧ t.pair.linkUp = true ∧
        t.pair.state = (if s.pair.state = 1 then (if s.pair.lead then 2 else 3) else s.pair.state) ∧ ∃ e ∈ t.cp.events, e.code = 0xE090) ∧
    (s.pair.enable = true → s.pair.linkUp = true →
      ∃ t, exec .pairLinkDown s = .next t ∧ t.pair.linkUp = false ∧
        t.pair.state = (if s.pair.state = 2 then 1 else if 3 ≤ s.pair.state then 6 else s.pair.state) ∧ ∃ e ∈ t.cp.events, e.code = 0xE091) ∧
    (s.pair.linkUp = true → ∃ t, exec .ebOvf s = .next t ∧ t.pair.linkUp = false ∧
      ∀ l ∈ [32, 33, 34, 35], (t.lane l).ebOvf = true ∧ (t.lane l).blockLock = false) ∧
    (s.pair.enable = true → ∃ t, exec .heartbeat s = .next t ∧ t.pair.beats = inc32 s.pair.beats ∧
      t.pair.outbox.getLast? = some (0x2D, leBytes 1 s.pair.state ++
        leBytes 1 (s.pair.gen % 16 + 16 * b2n s.pair.baton + 32 * b2n s.sys.windDown) ++ leBytes 4 s.pair.beats ++ leBytes 1 0)) ∧
    (∀ q m, s.pair.sent.find? (fun m => m.mseq == q) = some m →
      (m.tries < 3 → (∃ t, exec (.retransmit q) s = .next t ∧ t.pair.outbox.getLast? = some (m.mtype, m.body) ∧
          t.pair.sent.find? (fun m => m.mseq == q) = some { m with tries := m.tries + 1 }) ∧
        exec (.nak q) s = exec (.retransmit q) s) ∧
      (3 ≤ m.tries → ∃ t, exec (.retransmit q) s = .next t ∧ exec (.nak q) s = .next t ∧ t.pair.linkUp = false)) ∧
    (∀ q, exec (.ack q) s = .next { s with
      cp := { s.cp with replies := s.cp.replies ++ (s.pair.sent.filter (fun m => m.mseq == q)).filterMap (fun m => m.reply) },
      pair := { s.pair with sent := s.pair.sent.filter (fun m => m.mseq != q) } }) ∧
    (∀ p, s.pair.enable = true →
      (p.port = s.pair.port → ∃ t, exec (.hello p) s = .next t ∧ t.pair.linkUp = false ∧ ∃ e ∈ t.cp.events, e.code = 0xE093) ∧
      (p.port ≠ s.pair.port → ∃ t, exec (.hello p) s = .next t ∧ t.pair.helloSeen = true ∧ t.pair.partnerGen = p.gen ∧
        t.pair.lead = (s.pair.baton || (!p.baton && (if s.pair.prefer ≠ p.prefer then s.pair.prefer == 0 else decide (Config.uid < p.uid)))))) ∧
    (∀ r a, s.pair.enable = true → (∃ t, exec (.echo false r a) s = .next t ∧
        t.pair.outbox.getLast? = some (0x04, List.replicate 12 0 ++ timeBytes s.tp ++ timeBytes s.tp)) ∧
      (s.pair.linkUp = true → s.pair.echoes.length < 63 → ∃ t, exec (.echo true r a) s = .next t ∧
        t.pair.echoes = s.pair.echoes ++ [(r - a) / 2] ∧ t.pair.echoSent = s.pair.echoSent + 1) ∧
      (s.pair.linkUp = true → s.pair.echoes.length = 63 → ∃ t, exec (.echo true r a) s = .next t ∧
        t.pair.delay = ((s.pair.echoes ++ [(r - a) / 2]).foldl (fun x y => x + y) 0 + 32 * 4096) / (64 * 4096))) ∧
    (s.pair.linkUp = true → s.pair.echoes.length < 64 →
      (s.pair.echoSent < 256 → ∃ t, exec .echoTimeout s = .next t ∧ t.pair.echoSent = s.pair.echoSent + 1) ∧
      (256 ≤ s.pair.echoSent → ∃ t, exec .echoTimeout s = .next t ∧ t.pair.linkUp = false)) ∧
    (∀ tp tBase, s.standby = true → ∃ t, exec (.time tp tBase) s = .next t ∧
      t.sync.tpStamp = some (counterOf (tp + 4096 * s.pair.delay)) ∧ t.pair.tBase = tBase) ∧
    (∀ launch crc packet i, s.standby = true → s.pair.linkUp = true → readPacket fromPair packet = .inr i →
      exec (.cmd launch crc packet) s = .next (if s.ackMsg.cmdCrc i = crc
        then s.ackMsg.runPacket fromPair (s.ackMsg.launchPacket packet i launch) else (s.ackMsg.pairPost 0xE093 0 0).unsync)) ∧
    (∀ launch crc packet st, s.standby = true → s.pair.linkUp = true → readPacket fromPair packet = .inl st →
      ∃ t, exec (.cmd launch crc packet) s = .next t ∧ t.pair.state = 6 ∧ ∃ e ∈ t.cp.events, e.code = 0xE093) ∧
    (∀ cause, s.pair.enable = true → cause ≤ 255 → ∃ t, exec (.windDownMsg cause) s = .next t ∧ t.sync.windDown = true) ∧
    (∀ frame line gen dac, s.standby = true →
      ∃ t, exec (.release frame line gen dac) s = .next t ∧ t.sync.release = some (frame % 2 ^ 32, line, gen, dac))

/-- The lockstep of a standby, hand-over and takeover: PHASE begins and ends it, LATCH and SELECT give what they name, rows are committed, skipped
or found divergent and asked for, the active gives the baton up at the hand-over line and the standby takes it, or takes over where BATON_IN falls.
Model: when lockstep begins, the lines that events name and the pins of the overlap are the model's (log entries 157 to 159 and 162). -/
def Obligations.TheStandbyKeepsInStep : Prop :=
  ∀ (s : State) (n : Nat), n = s.pairHead →
    (∀ (frame line ns : Nat) l own, (s.head n).scan.latched.find? (fun l => l.frame % 16 == frame % 16) = some l →
        own = ((s.head n).lineTime l line).toNat % uSec / 65536 → s.pair.linkUp = true → ns < 1000000000 →
      (s.pair.state = 3 → (s.head n).scans = true → s.inTime = true → ns = own →
        ∃ t, exec (.phase frame line ns) s = .next t ∧ t.pair.state = 4 ∧ t.sync.divergent = List.range (s.head n).th) ∧
      (s.pair.state = 4 ∨ s.pair.state = 5 → ns = own →
        exec (.phase frame line ns) s = .next { s with sync := { s.sync with phaseRun := 0 } }) ∧
      (s.pair.state = 4 ∨ s.pair.state = 5 → ns + 20 < own → own < ns + 500000000 →
        ∃ t, exec (.phase frame line ns) s = .next t ∧ t.sync.phaseErr = inc32 s.sync.phaseErr ∧
          t.pair.state = (if 15 ≤ s.sync.phaseRun then 6 else s.pair.state))) ∧
    (∀ band e dac temp, s.standby = true → s.sync.latchWaited = false →
      ∃ t, exec (.latch ((s.head n).scan.nextLatch % 2 ^ 32) band e dac temp) s = .next t ∧
        t.sync.latchFor = some ((s.head n).scan.nextLatch % 2 ^ 32, band, e, dac, temp)) ∧
    (∀ frame band e dac temp, s.standby = true → frame < 2 ^ 32 → newer32 ((s.head n).scan.nextLatch % 2 ^ 32) frame = true →
        newer32 frame ((s.head n).scan.nextLatch % 2 ^ 32) = false → frame ≠ (s.head n).scan.nextLatch % 2 ^ 32 →
      ∃ t, exec (.latch frame band e dac temp) s = .next t ∧ t.sync.latchLate = add64 s.sync.latchLate 1 ∧ t.sync.latchFor = s.sync.latchFor) ∧
    (∀ c, s.standby = true → s.sync.latchWaited = true → (s.head n).state = 3 → (s.head n).cfg = some c → c.scanMode = 0 →
        (s.head n).scan.parking = false → (s.head n).scan.nextCfg = none → (s.head n).scan.transition = 0 → s.cp.launch = [] →
      ∃ t, exec .latchWaitEnd s = .next t ∧ (t.head n).scan.nextLatch = (s.head n).scan.nextLatch + 1 ∧ t.sync.latchWaited = false ∧
        (t.head n).vcom.dac = (s.head n).vcom.dac) ∧
    (∀ frame names, s.standby = true → s.sync.selectWaited = false →
      ∃ t, exec (.selectMsg frame names) s = .next t ∧ t.sync.selects = some (frame % 2 ^ 32, names)) ∧
    (∀ c, s.standby = true → s.sync.selectWaited = true → (s.head n).state = 3 → (s.head n).cfg = some c → c.scanMode = 0 →
        (s.head n).scan.nextCfg = none → s.cp.launch = [] → s.deferredOf n = [] →
      ∃ t, exec .selectWaitEnd s = .next t ∧ (t.head n).scan.nextCompose = (s.head n).scan.nextCompose + 1 ∧ t.sync.selectWaited = false) ∧
    (∀ frame row crc l, s.standby = true → (s.head n).scan.latched.find? (fun l => l.frame % 2 ^ 32 == frame % 2 ^ 32) = some l →
        (s.head n).settled l.frame row = false → row < (s.head n).th →
      (∃ t, exec (.row frame row 1 crc) s = .next t ∧ (t.head n).settled l.frame row = true ∧ row ∉ t.sync.divergent) ∧
      (s.sync.complete.contains (l.frame, row) = true → ∃ t, exec (.row frame row 0 crc) s = .next t ∧ (t.head n).settled l.frame row = true ∧
        (s.rowCrc n l row = crc → row ∉ t.sync.divergent) ∧
        (s.rowCrc n l row ≠ crc → s.pair.state = 4 ∨ s.pair.state = 5 → row ∈ t.sync.divergent ∧ row ∈ t.sync.requests ∧ t.pair.state = 4))) ∧
    (∀ row l, s.standby = true → s.pair.linkUp = true →
        (s.head n).scan.latched.find? (fun l => !(s.head n).settled l.frame row && decide (Head.dueP l row ≤ s.tp)) = some l → row < (s.head n).th →
      ∃ t, exec (.rowWaitEnd row) s = .next t ∧ (t.head n).settled l.frame row = true) ∧
    (∀ row, s.pairActive = true → ∃ t, exec (.rowReq row) s = .next t ∧ t.pair.asked = true ∧ row ∈ t.sync.requests) ∧
    (∀ p c, s.standby = true → (s.head n).cfg = some c → p.row < (s.head n).th → p.frame = (s.head n).scan.frame % 2 ^ 32 →
        (s.head n).scan.latched.find? (fun l => l.frame % 2 ^ 32 == (p.frame + 1) % 2 ^ 32) = none → c.psBase % 4 = 0 →
      ∃ t, exec (.rowData p) s = .next t ∧ p.row ∉ t.sync.requests ∧
        readBytes t.mem.store (c.psBase + 1024 * (p.row * (s.head n).tw)) (1024 * (s.head n).tw) = sliceBytes p.panel 0 (1024 * (s.head n).tw)) ∧
    (∀ batonIn k y g dac, s.sync.release = some (k, y, g, dac) → s.sync.overlap = false →
      (s.pair.state = 2 → ∃ t, exec (.handover batonIn) s = .next t ∧ t.pair.state = 5 ∧ t.sync.overlap = true ∧ (t.head n).pins.driven = false ∧
        (t.head n).pins.pen = (s.head n).pins.pen) ∧
      (s.pair.state = 5 → (∃ t, exec (.handover false) s = .next t ∧ t.pair.state = 2 ∧ t.pair.gen = (g + 1) % 16 ∧ (t.head n).pins.driven = true ∧
          (t.head n).vcom.dac = dac ∧ t.sync.release = none ∧ ∃ e ∈ t.cp.events, e.code = 0xE096) ∧
        (∃ t, exec (.handover true) s = .next t ∧ t.pair.state = 5 ∧ t.sync.release = none ∧ ∃ e ∈ t.cp.events, e.code = 0xE097))) ∧
    (∀ k y g dac, s.sync.release = some (k, y, g, dac) → s.sync.overlap = true →
      (∃ t, exec (.handoverOverlapEnd true) s = .next t ∧ (t.head n).pins.pen = 0 ∧ (t.head n).vcom.driven = false ∧ t.pair.gen = (g + 1) % 16 ∧
        t.sync.release = none ∧ t.sync.overlap = false) ∧
      (∃ t, exec (.handoverOverlapEnd false) s = .next t ∧ t.pair.state = 2 ∧ t.pair.gen = (g + 2) % 16 ∧ t.sync.redrive = true)) ∧
    (s.standby = true → s.sync.release = none → s.sync.overlap = false →
      (s.sync.windDown = false → s.pair.state = 5 → ∃ t, exec .takeover s = .next t ∧ t.pair.state = 2 ∧ t.pair.gen = (s.pair.gen + 1) % 16 ∧
        (t.head n).pins.driven = true ∧ ∃ e ∈ t.cp.events, e.code = 0xE098) ∧
      (s.sync.windDown = false → s.pair.state = 3 → ∃ t, exec .takeover s = .next t ∧ t.pair.state = 3 ∧ t.pair.batonIn = false ∧
        ∃ e ∈ t.cp.events, e.code = 0xE09A) ∧
      (s.sync.windDown = true → ∃ t, exec .takeover s = .next t ∧ ∃ e ∈ t.cp.events, e.code = 0xE09C))

/-- R654: what each head layer holds after PERST#, until a ROUTE_SET or a LAYER_SET changes it: right after reset and after the release of PERST#. -/
def Obligations.LayersStartAtTheirDefaults : Prop :=
  ∀ (s : State) (bootsel n m : Nat), n ≤ 3 → m ≤ 15 →
    (s = State.reset ∨ ∃ r : State, r.sys.aonReset = false ∧ r.sys.perst = true ∧ r.wind = none ∧ exec (.perstRelease bootsel) r = .next s) →
    (s.layer (16 * n + m)).route.route = { kind := 0, source := 0 } ∧ (s.layer (16 * n + m)).route.switchWait = 8 ∧
    (s.layer (16 * n + m)).cfg.enable = false ∧ layerZ m (s.layer (16 * n + m)).cfg = m ∧
    (s.layer (16 * n + m)).cfg.crop = { x := 0, y := 0, w := 1, h := 1 } ∧ (s.layer (16 * n + m)).cfg.dest = { x := 0, y := 0, w := 1, h := 1 } ∧
    (s.layer (16 * n + m)).cfg.g = 255 ∧ bit (s.layer (16 * n + m)).cfg.fill 31 = true ∧ (s.layer (16 * n + m)).cfg.views = 15 ∧
    (s.layer (16 * n + m)).cfg.blend = false ∧ (s.layer (16 * n + m)).cfg.lossFill = false ∧ (s.layer (16 * n + m)).cfg.hold = 0 ∧
    (s.layer (16 * n + m)).cfg.bypass = false ∧ (s.layer (16 * n + m)).cfg.m1Loaded = false ∧
    (s.layer (16 * n + m)).cfg.m2 = [16384, 0, 0, 0, 16384, 0, 0, 0, 16384] ∧
    (s.layer (16 * n + m)).route.coefH = none ∧ (s.layer (16 * n + m)).route.coefV = none

/-- R508: the mailbox holds one packet; a submission enters it for acceptance and makes it PENDING, its reply makes it DONE, the next write EMPTY; a
write or a submission while it is PENDING is acknowledged and discarded. -/
def Obligations.TheMailboxHoldsOnePacket : Prop :=
  ∀ s : State,
    (∀ offset data, s.mbx.state ≠ 1 → offset + data.length ≤ 1024 →
      ∃ t, exec (.mbxWrite offset data) s = .next t ∧ t.mbx.state = 0 ∧ readBytes t.mbx.buf offset data.length = data ∧ t.mbxPacket.length = 1024 ∧
        ∀ a, a < offset ∨ offset + data.length ≤ a → spGet t.mbx.buf 0 a = spGet s.mbx.buf 0 a) ∧
    (s.mbx.state ≠ 1 → ∃ t, exec .mbxSubmit s = .next t ∧ t.mbx.state = 1 ∧ t.mbxPacket = s.mbxPacket ∧
      t.sourceReady 4 = ((mgtOpcode (opOf s.mbxPacket) || s.cpRuns) && s.fenceOk (fieldAt s.mbxPacket 8 4))) ∧
    (∀ r, s.cp.replies.find? (fun r => r.src == 4) = some r → r.params.length ≤ 1008 →
      ∃ t, exec (.replyWrite 4) s = .next t ∧ t.mbx.state = 2 ∧ t.mbx.reply = replyBytes r ∧ t.mbx.reply.length ≤ 1024) ∧
    (∀ offset data, s.mbx.state = 1 → exec (.mbxWrite offset data) s = .next s) ∧
    (s.mbx.state = 1 → exec .mbxSubmit s = .next s)

/-- R620: a write of SRAM_CTL with SCRUB_SHIFT outside 10 to 20 is ignored; a new IDLE_STATE holds for every free bank, and for each bank as it is
freed afterwards. -/
def Obligations.IdleBanksFollowSramCtl : Prop :=
  (∀ (s : State) (v : Nat), bits v 12 8 < 10 ∨ 20 < bits v 12 8 → exec (.sramCtlWrite v) s = .next s) ∧
  (∀ (s : State) (v : Nat), 10 ≤ bits v 12 8 → bits v 12 8 ≤ 20 → ∃ t, exec (.sramCtlWrite v) s = .next t ∧ t.mem.idle = bits v 0 0 ∧
    (∀ b, t.ringHead b = s.ringHead b) ∧
    ∀ b, 64 ≤ b → b < 512 → s.ringHead b = none → t.bankState b = if bit v 0 = true then 1 else 2) ∧
  (∀ (c : Instr) (s t : State) (b : Nat), exec c s = .next t → 64 ≤ b → b < 512 → (s.ringHead b).isSome = true → t.ringHead b = none →
    s.bankState b = 0 ∧ t.bankState b = if t.mem.idle = 1 then 1 else 2)
end

