-- ==== Sys2Proof/Laws/Commands.lean ====
section
/-! SUPPORT. What the shared forms of a command do with one that passes its tests, and with one that fails them. -/

namespace Sys2Proof.Machine

open Sys2Proof.Safety

/-- A command without a launch time passes the tests where none of its own holds. -/
theorem testCmd_plain {h : Hdr} {op : Nat} {s : State} {t : Bool} {q : Nat} {c : Checks} (p : Plain h op s) (hb : c.bad = false)
    (hn : c.notReady = false) (hy : c.busy = false) (hi : c.ignored = false) (hr : c.noResource = false) (hf : c.refused = false) :
    testCmd h t q (c.served h op s) s = none := by
  obtain ⟨p1, p2, p3, p4⟩ := p
  have g : (h.genCheck && h.gen != s.time.tpGen) = false := by
    cases e : h.genCheck
    · rfl
    · simp [p2 e]
  have n : (!mgtOpcode op && !s.sys.ready) = false := by rcases p3 with e | e <;> simp [e]
  have f : (s.standby && h.src != fromPair && pairGroup op) = false := by
    cases e : s.standby
    · rfl
    · rcases p4 e with e | e <;> simp [e]
  simp [testCmd, Checks.served, launchBad, launchPast, queueFull, p1, g, n, f, hb, hn, hy, hi, hr, hf]

/-- A command with a launch time passes the tests where none of its own holds. -/
theorem testCmd_timed {h : Hdr} {op q : Nat} {s : State} {c : Checks} (p : Timed h op q s) (hb : c.bad = false)
    (hn : c.notReady = false) (hy : c.busy = false) (hi : c.ignored = false) (hr : c.noResource = false) (hf : c.refused = false) :
    testCmd h true q (c.served h op s) s = none := by
  obtain ⟨p0, p5, p6, p7, p8, p2, p3, p4⟩ := p
  have g : (h.genCheck && h.gen != s.time.tpGen) = false := by
    cases e : h.genCheck
    · rfl
    · simp [p2 e]
  have n : (!mgtOpcode op && !s.sys.ready) = false := by rcases p3 with e | e <;> simp [e]
  have f : (s.standby && h.src != fromPair && pairGroup op) = false := by
    cases e : s.standby
    · rfl
    · rcases p4 e with e | e <;> simp [e]
  have b : launchBad h s = false := by simp [launchBad, p0, p5, p6]
  have l : launchPast h s = false := by simp [launchPast, p0, p7]
  have k : queueFull h s q = false := by simp [queueFull, p0, p8]
  simp [testCmd, Checks.served, b, l, k, g, n, f, hb, hn, hy, hi, hr, hf]

/-- An immediate command that passes its tests acts and is answered OK. -/
theorem runNow_plain {h : Hdr} {op : Nat} {s : State} {c : Checks} {eff : State → State × List Byte} (p : Plain h op s) (hb : c.bad = false)
    (hn : c.notReady = false) (hy : c.busy = false) (hi : c.ignored = false) (hr : c.noResource = false) (hf : c.refused = false) :
    runNow h op c s eff = answered h op stOk s (eff s.takeNo).1 (eff s.takeNo).2 := by
  simp [runNow, testCmd_plain p hb hn hy hi hr hf, answered]

/-- A reading command that passes its tests changes nothing but its acceptance and its reply. -/
theorem runRead_plain {h : Hdr} {op : Nat} {s : State} {c : Checks} {out : State → List Byte} (p : Plain h op s) (hb : c.bad = false)
    (hn : c.notReady = false) (hy : c.busy = false) (hi : c.ignored = false) (hr : c.noResource = false) (hf : c.refused = false) :
    runRead h op c s out = answered h op stOk s s.takeNo (out s.takeNo) := by
  simp [runRead, runNow_plain p hb hn hy hi hr hf]

/-- A process command that passes its tests is answered ACCEPTED, and its process starts. -/
theorem runProc_plain {h : Hdr} {op object : Nat} {s : State} {c : Checks} {eff : Proc → State → State} (p : Plain h op s) (hb : c.bad = false)
    (hn : c.notReady = false) (hy : c.busy = false) (hi : c.ignored = false) (hr : c.noResource = false) (hf : c.refused = false) :
    runProc h op object c s eff = eff (procOf h op object s) (answered h op stAccepted s s.takeNo []) := by
  simp [runProc, testCmd_plain p hb hn hy hi hr hf, answered, procOf]

/-- A command that is answered when its work ends passes its tests and starts. -/
theorem runLater_plain {h : Hdr} {op object : Nat} {i : Instr} {s : State} {c : Checks} {eff : Running → State → State} (p : Plain h op s)
    (hb : c.bad = false) (hn : c.notReady = false) (hy : c.busy = false) (hi : c.ignored = false) (hr : c.noResource = false)
    (hf : c.refused = false) : runLater h op object i c s eff = eff (runningOf h op object i s) s.takeNo := by
  simp [runLater, testCmd_plain p hb hn hy hi hr hf, runningOf]

/-- A command of mark B that is not timed and may not take effect at once waits. -/
theorem runBound_waits {h : Hdr} {op q : Nat} {i : Instr} {s : State} {t : Bool} {c : Checks} {detail data : List Byte} {params : State → List Byte}
    {eff : Entry → State → State} (p : Plain h op s) (hb : c.bad = false) (hn : c.notReady = false) (hy : c.busy = false) (hi : c.ignored = false)
    (hr : c.noResource = false) (hf : c.refused = false) :
    runBound h op t q i false c detail params s eff data = waiting h op q i s data (params s.takeNo) := by
  simp [runBound, testCmd_plain p hb hn hy hi hr hf, waiting, answered]

/-- A command of mark B that is not timed and takes effect at once. -/
theorem runBound_now {h : Hdr} {op q : Nat} {i : Instr} {s : State} {t : Bool} {c : Checks} {detail data : List Byte} {params : State → List Byte}
    {eff : Entry → State → State} (p : Plain h op s) (hb : c.bad = false) (hn : c.notReady = false) (hy : c.busy = false) (hi : c.ignored = false)
    (hr : c.noResource = false) (hf : c.refused = false) :
    runBound h op t q i true c detail params s eff data =
      answered h op stAccepted s (eff { mkEntry h q i s with data := data } s.takeNo) (params s.takeNo) := by
  have e := p.1
  simp [runBound, testCmd_plain p hb hn hy hi hr hf, answered, e]

/-- A timed command of mark B waits for its launch time, whatever its object does. -/
theorem runBound_timed {h : Hdr} {op q : Nat} {i : Instr} {s : State} {a : Bool} {c : Checks} {detail data : List Byte} {params : State → List Byte}
    {eff : Entry → State → State} (p : Timed h op q s) (hb : c.bad = false) (hn : c.notReady = false) (hy : c.busy = false) (hi : c.ignored = false)
    (hr : c.noResource = false) (hf : c.refused = false) :
    runBound h op true q i a c detail params s eff data = waiting h op q i s data (params s.takeNo) := by
  have e := p.1
  simp [runBound, testCmd_timed p hb hn hy hi hr hf, waiting, answered, e]

/-- An immediate command that may carry a launch time and carries none acts and is answered OK. -/
theorem runNowT_plain {h : Hdr} {op q : Nat} {i : Instr} {s : State} {c : Checks} {eff : State → State} (p : Plain h op s) (hb : c.bad = false)
    (hn : c.notReady = false) (hy : c.busy = false) (hi : c.ignored = false) (hr : c.noResource = false) (hf : c.refused = false) :
    runNowT h op q i c s eff = answered h op stOk s (eff s.takeNo) [] := by
  simp [runNowT, testCmd_plain p hb hn hy hi hr hf, answered, p.1]

/-- An immediate command with a launch time waits for it. -/
theorem runNowT_timed {h : Hdr} {op q : Nat} {i : Instr} {s : State} {c : Checks} {eff : State → State} (p : Timed h op q s) (hb : c.bad = false)
    (hn : c.notReady = false) (hy : c.busy = false) (hi : c.ignored = false) (hr : c.noResource = false) (hf : c.refused = false) :
    runNowT h op q i c s eff = answered h op stAccepted s (s.takeNo.enqueue (mkEntry h q i s)) [] := by
  simp [runNowT, testCmd_timed p hb hn hy hi hr hf, answered, p.1]

end Sys2Proof.Machine
end

