-- ==== Sys2Proof/Laws/Sparse.lean ====
section
/-! SUPPORT. Laws of the sparse maps that hold every memory and register file: every operation keeps the canonical form, and a
read after a write sees it. -/

namespace Sys2Proof.Laws

open Sys2Proof.Machine

variable {α : Type} [DecidableEq α] {d : α}

/-! ## The canonical form -/

theorem spWfFrom_cons {lo j : Nat} {v : α} {r : Sparse α} :
    spWfFrom d lo ((j, v) :: r) = true ↔ lo ≤ j ∧ v ≠ d ∧ spWfFrom d (j + 1) r = true := by
  simp [spWfFrom, and_assoc]

/-- A lower bound may be lowered. -/
theorem spWfFrom_mono {lo lo' : Nat} {m : Sparse α} (h : lo' ≤ lo) (w : spWfFrom d lo m = true) : spWfFrom d lo' m = true := by
  cases m with
  | nil => rfl
  | cons p r =>
    obtain ⟨j, v⟩ := p
    obtain ⟨a, b, c⟩ := spWfFrom_cons.mp w
    exact spWfFrom_cons.mpr ⟨Nat.le_trans h a, b, c⟩

theorem spWf_of_from {lo : Nat} {m : Sparse α} (w : spWfFrom d lo m = true) : spWf d m = true := spWfFrom_mono (Nat.zero_le lo) w

@[simp] theorem spWf_nil : spWf d ([] : Sparse α) = true := rfl

/-- Entries left out keep the canonical form. -/
theorem filter_wfFrom {lo : Nat} {m : Sparse α} (p : Nat × α → Bool) (w : spWfFrom d lo m = true) :
    spWfFrom d lo (m.filter p) = true := by
  induction m generalizing lo with
  | nil => rfl
  | cons q r ih =>
    obtain ⟨j, u⟩ := q
    obtain ⟨a, b, c⟩ := spWfFrom_cons.mp w
    rw [List.filter_cons]
    split
    · exact spWfFrom_cons.mpr ⟨a, b, ih c⟩
    · exact ih (spWfFrom_mono (by omega) c)

/-- An insertion keeps the canonical form. -/
theorem spInsert_wfFrom {lo k : Nat} {v : α} {m : Sparse α} (w : spWfFrom d lo m = true) (h : lo ≤ k) (hv : v ≠ d) :
    spWfFrom d lo (spInsert m k v) = true := by
  induction m generalizing lo with
  | nil => simp [spInsert, hv, spWfFrom, h]
  | cons p r ih =>
    obtain ⟨j, u⟩ := p
    obtain ⟨a, b, c⟩ := spWfFrom_cons.mp w
    rw [spInsert]
    split
    · rename_i hk
      exact spWfFrom_cons.mpr ⟨h, hv, spWfFrom_cons.mpr ⟨hk, b, c⟩⟩
    · split
      · rename_i _ hk
        exact spWfFrom_cons.mpr ⟨h, hv, by rw [hk]; exact c⟩
      · exact spWfFrom_cons.mpr ⟨a, b, ih c (by omega)⟩

/-- A write keeps the canonical form. -/
theorem spSet_wfFrom {lo k : Nat} {v : α} {m : Sparse α} (w : spWfFrom d lo m = true) (h : lo ≤ k) :
    spWfFrom d lo (spSet d m k v) = true := by
  rw [spSet]
  split
  · exact filter_wfFrom _ w
  · rename_i hv; exact spInsert_wfFrom w h hv

theorem spSet_wf {k : Nat} {v : α} {m : Sparse α} (w : spWf d m = true) : spWf d (spSet d m k v) = true :=
  spSet_wfFrom w (Nat.zero_le k)

theorem filter_wf {m : Sparse α} (p : Nat × α → Bool) (w : spWf d m = true) : spWf d (m.filter p) = true := filter_wfFrom p w

theorem spClear_wf {a b : Nat} {m : Sparse α} (w : spWf d m = true) : spWf d (spClear a b m) = true := filter_wf _ w

/-- Two maps follow one another where the first ends below the start of the second. -/
theorem append_wfFrom {lo hi : Nat} {m n : Sparse α} (w : spWfFrom d lo m = true) (u : spWfFrom d hi n = true) (hlo : lo ≤ hi)
    (below : ∀ p ∈ m, p.1 < hi) : spWfFrom d lo (m ++ n) = true := by
  induction m generalizing lo with
  | nil => exact spWfFrom_mono hlo u
  | cons q r ih =>
    obtain ⟨j, v⟩ := q
    obtain ⟨a, b, c⟩ := spWfFrom_cons.mp w
    have hj : j < hi := below (j, v) (by simp)
    exact spWfFrom_cons.mpr ⟨a, b, ih c hj (fun p hp => below p (by simp [hp]))⟩

/-- The entries from an address upward stay canonical from that address. -/
theorem filter_from_wf {lo a : Nat} {m : Sparse α} (w : spWfFrom d lo m = true) :
    spWfFrom d a (m.filter (fun p => decide (a ≤ p.1))) = true := by
  induction m generalizing lo with
  | nil => rfl
  | cons q r ih =>
    obtain ⟨j, v⟩ := q
    obtain ⟨_, b, c⟩ := spWfFrom_cons.mp w
    rw [List.filter_cons]
    split
    · rename_i h
      have : (r.filter fun p => decide (a ≤ p.1)) = r.filter fun p => decide (a ≤ p.1) := rfl
      exact spWfFrom_cons.mpr ⟨by simpa using h, b, filter_wfFrom _ c⟩
    · exact ih c

theorem byteCells_wf (a : Nat) (bs : List Byte) : spWfFrom (0 : Byte) a (byteCells a bs) = true := by
  induction bs generalizing a with
  | nil => rfl
  | cons b r ih =>
    rw [byteCells]
    split
    · exact spWfFrom_mono (by omega) (ih (a + 1))
    · rename_i h
      exact spWfFrom_cons.mpr ⟨Nat.le_refl a, h, ih (a + 1)⟩

theorem byteCells_lt (a : Nat) (bs : List Byte) : ∀ p ∈ byteCells a bs, p.1 < a + bs.length := by
  induction bs generalizing a with
  | nil => intro p hp; simp [byteCells] at hp
  | cons b r ih =>
    intro p hp
    rw [byteCells] at hp
    rw [List.length_cons]
    split at hp
    · have := ih (a + 1) p hp; omega
    · rcases List.mem_cons.mp hp with rfl | hp
      · simp
      · have := ih (a + 1) p hp; omega

/-- A write of bytes keeps the canonical form. -/
theorem writeBytes_wf {m : Sparse Byte} (a : Nat) (bs : List Byte) (w : spWf 0 m = true) : spWf 0 (writeBytes m a bs) = true := by
  refine append_wfFrom (hi := a) (filter_wf _ w) ?_ (Nat.zero_le a) (fun p hp => ?_)
  · exact append_wfFrom (byteCells_wf a bs) (filter_from_wf w) (Nat.le_add_right a bs.length) (byteCells_lt a bs)
  · simpa using (List.mem_filter.mp hp).2

/-- One round of `mapCells`: the value left at `a`, and the rest. -/
theorem mapCells_succ (f : Nat → α → α) (n a : Nat) (m : Sparse α) :
    ∃ v r, mapCells d f (n + 1) a m = if v = d then mapCells d f n (a + 1) r else (a, v) :: mapCells d f n (a + 1) r := by
  cases m with
  | nil => exact ⟨_, _, rfl⟩
  | cons p r => exact ⟨_, _, rfl⟩

theorem mapCells_wf (f : Nat → α → α) (n a : Nat) (m : Sparse α) : spWfFrom d a (mapCells d f n a m) = true := by
  induction n generalizing a m with
  | zero => rfl
  | succ n ih =>
    obtain ⟨v, r, e⟩ := mapCells_succ (d := d) f n a m
    rw [e]
    split
    · exact spWfFrom_mono (Nat.le_succ a) (ih (a + 1) _)
    · rename_i h
      exact spWfFrom_cons.mpr ⟨Nat.le_refl a, h, ih (a + 1) _⟩

theorem mapCells_lt (f : Nat → α → α) (n a : Nat) (m : Sparse α) : ∀ p ∈ mapCells d f n a m, p.1 < a + n := by
  induction n generalizing a m with
  | zero => intro p hp; simp [mapCells] at hp
  | succ n ih =>
    intro p hp
    obtain ⟨v, r, e⟩ := mapCells_succ (d := d) f n a m
    rw [e] at hp
    split at hp
    · have := ih (a + 1) _ p hp; omega
    · rcases List.mem_cons.mp hp with rfl | hp
      · simp
      · have := ih (a + 1) _ p hp; omega

/-- A change of a range of values keeps the canonical form. -/
theorem spMap_wf (f : Nat → α → α) {m : Sparse α} (a n : Nat) (w : spWf d m = true) : spWf d (spMap d f m a n) = true := by
  refine append_wfFrom (hi := a) (filter_wf _ w) ?_ (Nat.zero_le a) (fun p hp => ?_)
  · exact append_wfFrom (mapCells_wf f n a _) (filter_from_wf w) (Nat.le_add_right a n) (mapCells_lt f n a _)
  · simpa using (List.mem_filter.mp hp).2

/-- Nothing is listed below the lower bound. -/
theorem spWfFrom_ge {lo : Nat} {m : Sparse α} (w : spWfFrom d lo m = true) : ∀ p ∈ m, lo ≤ p.1 := by
  induction m generalizing lo with
  | nil => intro p hp; simp at hp
  | cons q r ih =>
    obtain ⟨j, u⟩ := q
    obtain ⟨a, _, c⟩ := spWfFrom_cons.mp w
    intro p hp
    rcases List.mem_cons.mp hp with rfl | hp
    · exact a
    · have := ih c p hp; omega

/-! ## Reading -/

omit [DecidableEq α] in
/-- A read after an insertion at the same index gives the value inserted. -/
theorem spGet_spInsert_same {k : Nat} {v : α} {m : Sparse α} : spGet (spInsert m k v) d k = v := by
  induction m with
  | nil => simp [spInsert, spGet]
  | cons p r ih =>
    obtain ⟨j, u⟩ := p
    rw [spInsert]
    split
    · simp [spGet]
    · split
      · simp [spGet]
      · rename_i h
        rw [spGet, if_neg h, ih]

omit [DecidableEq α] in
/-- An insertion leaves every other index alone. -/
theorem spGet_spInsert_other {k j : Nat} {v : α} {m : Sparse α} (h : k ≠ j) : spGet (spInsert m j v) d k = spGet m d k := by
  induction m with
  | nil => simp [spInsert, spGet, h]
  | cons p r ih =>
    obtain ⟨i, u⟩ := p
    rw [spInsert]
    split
    · simp [spGet, h]
    · split
      · rename_i _ hj
        simp [spGet, h, ← hj]
      · simp only [spGet, ih]

omit [DecidableEq α] in
/-- What a filter of the indices lets through reads as before, the rest as the default. -/
theorem spGet_filter (f : Nat → Bool) {m : Sparse α} {k : Nat} :
    spGet (m.filter (fun p => f p.1)) d k = if f k = true then spGet m d k else d := by
  induction m with
  | nil => simp [spGet]
  | cons p r ih =>
    obtain ⟨i, u⟩ := p
    rw [List.filter_cons]
    by_cases hi : f i = true
    · rw [if_pos hi, spGet, spGet, ih]
      by_cases hk : k = i
      · simp [hk, hi]
      · simp [hk]
    · rw [if_neg hi, ih, spGet]
      by_cases hk : k = i
      · simp [hk, hi]
      · simp [hk]

/-- A read after a write to the same index gives the value written. -/
@[simp] theorem spGet_spSet_same {k : Nat} {v : α} {m : Sparse α} : spGet (spSet d m k v) d k = v := by
  rw [spSet]
  split
  · rename_i hv
    rw [spGet_filter (fun i => i != k)]
    simp [hv]
  · exact spGet_spInsert_same

/-- A write leaves every other index alone. -/
theorem spGet_spSet_other {k j : Nat} {v : α} {m : Sparse α} (h : k ≠ j) : spGet (spSet d m j v) d k = spGet m d k := by
  rw [spSet]
  split
  · rw [spGet_filter (fun i => i != j)]
    simp [h]
  · exact spGet_spInsert_other h

/-! ## Bytes -/

omit [DecidableEq α] in
/-- Of two maps put together the first that lists an index answers. -/
theorem spGet_append {m n : Sparse α} {k : Nat} (h : ∀ p ∈ m, p.1 ≠ k) : spGet (m ++ n) d k = spGet n d k := by
  induction m with
  | nil => rfl
  | cons p r ih =>
    obtain ⟨j, u⟩ := p
    have : k ≠ j := fun e => h (j, u) (by simp) e.symm
    rw [List.cons_append, spGet, if_neg this, ih (fun q hq => h q (by simp [hq]))]

omit [DecidableEq α] in
/-- An index that no entry lists reads as the default. -/
theorem spGet_absent {m : Sparse α} {k : Nat} (h : ∀ p ∈ m, p.1 ≠ k) : spGet m d k = d := by
  simpa [spGet] using spGet_append (d := d) (n := []) h

theorem byteCells_ge (a : Nat) (bs : List Byte) : ∀ p ∈ byteCells a bs, a ≤ p.1 := by
  induction bs generalizing a with
  | nil => intro p hp; simp [byteCells] at hp
  | cons b r ih =>
    intro p hp
    rw [byteCells] at hp
    split at hp
    · have := ih (a + 1) p hp; omega
    · rcases List.mem_cons.mp hp with rfl | hp
      · simp
      · have := ih (a + 1) p hp; omega

/-- A byte outside those written reads as before. -/
theorem spGet_writeBytes_other {m : Sparse Byte} {a k : Nat} {bs : List Byte} (h : k < a ∨ a + bs.length ≤ k) :
    spGet (writeBytes m a bs) 0 k = spGet m 0 k := by
  rw [writeBytes]
  by_cases hk : k < a
  · have e : ∀ p ∈ byteCells a bs ++ m.filter (fun p => decide (a + bs.length ≤ p.1)), p.1 ≠ k := by
      intro p hp
      rcases List.mem_append.mp hp with hp | hp
      · have := byteCells_ge a bs p hp; omega
      · have := (List.mem_filter.mp hp).2; simp at this; omega
    have f : ∀ l : Sparse Byte, spGet (l.filter (fun p => decide (p.1 < a)) ++
        (byteCells a bs ++ m.filter (fun p => decide (a + bs.length ≤ p.1)))) 0 k = spGet l 0 k := by
      intro l
      induction l with
      | nil => exact spGet_absent e
      | cons p r ih =>
        obtain ⟨j, u⟩ := p
        rw [List.filter_cons]
        by_cases hj : j < a
        · simp only [hj, decide_true, if_true, List.cons_append, spGet]
          rw [ih]
        · have : k ≠ j := by omega
          simp only [hj, decide_false, Bool.false_eq_true, if_false, spGet, this]
          exact ih
    exact f m
  · rw [spGet_append, spGet_append, spGet_filter (fun i => decide (a + bs.length ≤ i)), if_pos (by simp; omega)]
    · intro p hp
      have := byteCells_lt a bs p hp
      omega
    · intro p hp
      have := (List.mem_filter.mp hp).2
      simp at this
      omega

theorem takeBytes_byteCells (a : Nat) (bs : List Byte) (m : Sparse Byte) (h : ∀ p ∈ m, a + bs.length ≤ p.1) :
    takeBytes bs.length a (byteCells a bs ++ m) = bs := by
  induction bs generalizing a with
  | nil => rfl
  | cons b r ih =>
    have i := ih (a + 1) (fun p hp => by have := h p hp; simp at this; omega)
    rw [List.length_cons, byteCells]
    by_cases hb : b = 0
    · rw [if_pos hb]
      have g : ∀ p ∈ byteCells (a + 1) r ++ m, a + 1 ≤ p.1 := by
        intro p hp
        rcases List.mem_append.mp hp with hp | hp
        · exact byteCells_ge _ _ p hp
        · have := h p hp; simp at this; omega
      match e : byteCells (a + 1) r ++ m with
      | [] => rw [e] at i; simp [takeBytes, i, hb]
      | (j, v) :: q =>
        have : j ≠ a := by have := g (j, v) (by rw [e]; simp); simp at this; omega
        rw [e] at i
        simp [takeBytes, this, i, hb]
    · rw [if_neg hb]
      simp [takeBytes, i]

/-- A read after a write to the same bytes gives the bytes written. -/
theorem readBytes_writeBytes (m : Sparse Byte) (a : Nat) (bs : List Byte) : readBytes (writeBytes m a bs) a bs.length = bs := by
  rw [readBytes, writeBytes]
  have e : (m.filter (fun p => decide (p.1 < a)) ++ (byteCells a bs ++ m.filter (fun p => decide (a + bs.length ≤ p.1)))).dropWhile
      (fun p => decide (p.1 < a)) = byteCells a bs ++ m.filter (fun p => decide (a + bs.length ≤ p.1)) := by
    rw [List.dropWhile_append_of_pos (fun p hp => (List.mem_filter.mp hp).2)]
    match h : byteCells a bs ++ m.filter (fun p => decide (a + bs.length ≤ p.1)) with
    | [] => rfl
    | p :: q =>
      have g : a ≤ p.1 := by
        have hp : p ∈ byteCells a bs ++ m.filter (fun p => decide (a + bs.length ≤ p.1)) := by rw [h]; simp
        rcases List.mem_append.mp hp with hp | hp
        · exact byteCells_ge _ _ p hp
        · have := (List.mem_filter.mp hp).2; simp at this; omega
      rw [List.dropWhile_cons, if_neg (by simpa using g)]
  rw [e]
  exact takeBytes_byteCells a bs _ (fun p hp => by simpa using (List.mem_filter.mp hp).2)

theorem takeBytes_eq (n a : Nat) (m : Sparse Byte) (w : spWfFrom 0 a m = true) :
    takeBytes n a m = (List.range n).map (fun i => spGet m 0 (a + i)) := by
  induction n generalizing a m with
  | zero => rfl
  | succ n ih =>
    rw [List.range_succ_eq_map, List.map_cons, List.map_map]
    match m with
    | [] =>
      have i := ih (a + 1) [] rfl
      rw [takeBytes, i]
      rfl
    | (j, v) :: r =>
      rw [takeBytes]
      obtain ⟨x, y, z⟩ := spWfFrom_cons.mp w
      by_cases hj : j = a
      · subst hj
        rw [if_pos rfl, ih (j + 1) r z]
        simp only [Nat.add_zero, spGet, if_true, List.cons.injEq, true_and]
        refine List.map_congr_left (fun i _ => ?_)
        rw [Function.comp, show j + Nat.succ i = j + 1 + i by omega, if_neg (by omega)]
      · rw [if_neg hj, ih (a + 1) ((j, v) :: r) (spWfFrom_cons.mpr ⟨by omega, y, z⟩)]
        have g : spGet ((j, v) :: r) 0 a = 0 := by
          refine spGet_absent (fun p hp => ?_)
          rcases List.mem_cons.mp hp with rfl | hp
          · exact hj
          · have := spWfFrom_ge z p hp; omega
        simp only [Nat.add_zero, g, List.cons.injEq, true_and]
        refine List.map_congr_left (fun i _ => ?_)
        rw [Function.comp, show a + Nat.succ i = a + 1 + i by omega]

end Sys2Proof.Laws
end

