-- ==== Sys2Proof/Laws/Keeps.lean ====
section
/-! SUPPORT. What it is that an operation keeps the queue and the soundness of the machine, and the rules to show it. -/

namespace Sys2Proof.Machine

open Sys2Proof.Laws Sys2Proof.Safety

/-- From `s` to `t` the queue is untouched, and where `s` is sound so is `t`. -/
def Keeps (s t : State) : Prop := t.pending = s.pending ∧ (Sound s → Sound t)

/-- Every next state of an outcome is kept to. -/
def KeepsO (s : State) (o : Host.Outcome State Fault Refusal) : Prop := ∀ t, o = .next t → Keeps s t

theorem keeps_rfl {s : State} : Keeps s s := ⟨rfl, id⟩

theorem keeps_trans {s t u : State} (h : Keeps s t) (g : Keeps t u) : Keeps s u := ⟨g.1.trans h.1, fun i => g.2 (h.2 i)⟩

theorem keepsO_next {s t : State} (h : Keeps s t) : KeepsO s (.next t) := fun _ e => by cases e; exact h

/-- A change of other parts of the state keeps what the parts named here keep. -/
theorem keeps_of {s x t : State} (h : Keeps s x)
    (e : (t.pending, t.mem.store, t.mem.sram, t.mem.aon, t.nvs.cells, t.clocks.fabSel, t.mem.scrubShift, t.time.jumpLimit, t.time.slew, t.mbx.state, t.sys.maddr) =
      (x.pending, x.mem.store, x.mem.sram, x.mem.aon, x.nvs.cells, x.clocks.fabSel, x.mem.scrubShift, x.time.jumpLimit, x.time.slew, x.mbx.state, x.sys.maddr)) :
    Keeps s t := by
  simp only [Prod.mk.injEq] at e
  obtain ⟨e1, e2, e3, e4, e5, e6, e7, e8, e9, e10, e11⟩ := e
  refine ⟨e1.trans h.1, fun i => ?_⟩
  have j := h.2 i
  unfold Sound Memory.wf timeLegal at j ⊢
  rw [e2, e3, e4, e5, e6, e7, e8, e9, e10, e11]
  exact j

/-- The same for a change written out as a whole state. -/
theorem keeps_mk {s x : State} {x_sys x_clocks x_wind x_power x_time x_timeRegs x_domains x_evtIn x_evtOut x_rings x_cp x_mbx x_log x_nvs x_mem x_fab x_lanes x_foms x_prbs x_quads x_ports x_flows x_txs x_layers x_outputs x_outShots x_leases x_assocs x_txAudio x_tq x_heads x_drivers x_polls x_rennex x_pair x_sync x_free x_answer} (h : Keeps s x)
    (e : (x_mem.store, x_mem.sram, x_mem.aon, x_nvs.cells, x_clocks.fabSel, x_mem.scrubShift, x_time.jumpLimit, x_time.slew, x_mbx.state, x_sys.maddr) =
      (x.mem.store, x.mem.sram, x.mem.aon, x.nvs.cells, x.clocks.fabSel, x.mem.scrubShift, x.time.jumpLimit, x.time.slew, x.mbx.state, x.sys.maddr)) :
    Keeps s (State.mk x.pending x_sys x_clocks x_wind x_power x_time x_timeRegs x_domains x_evtIn x_evtOut x_rings x_cp x_mbx x_log x_nvs x_mem x_fab x_lanes x_foms x_prbs x_quads x_ports x_flows x_txs x_layers x_outputs x_outShots x_leases x_assocs x_txAudio x_tq x_heads x_drivers x_polls x_rennex x_pair x_sync x_free x_answer) :=
  keeps_of h (by simpa using e)

/-- A change that leaves the queue alone and the machine sound. -/
theorem keeps_to {s x t : State} (h : Keeps s x) (e : t.pending = x.pending) (i : Sound x → Sound t) : Keeps s t :=
  ⟨e.trans h.1, fun j => i (h.2 j)⟩

theorem keeps_ite {s a b : State} {c : Prop} [Decidable c] (ha : c → Keeps s a) (hb : ¬c → Keeps s b) : Keeps s (if c then a else b) := by
  split <;> rename_i h
  · exact ha h
  · exact hb h

theorem keepsAt_ite {α : Type} {P : α → Prop} {a b : α} {c : Prop} [Decidable c] (ha : c → P a) (hb : ¬c → P b) : P (if c then a else b) := by
  split <;> rename_i h
  · exact ha h
  · exact hb h

theorem keeps_foldl {β : Type} {s : State} {f : State → β → State} {l : List β} {i : State}
    (hf : ∀ a x, Keeps s a → Keeps s (f a x)) (hi : Keeps s i) : Keeps s (l.foldl f i) := by
  induction l generalizing i with
  | nil => exact hi
  | cons x r ih => exact ih (hf i x hi)

theorem keepsAt_foldl {α β : Type} {P : α → Prop} {f : α → β → α} {l : List β} {i : α}
    (hf : ∀ a x, P a → P (f a x)) (hi : P i) : P (l.foldl f i) := by
  induction l generalizing i with
  | nil => exact hi
  | cons x r ih => exact ih (hf i x hi)

theorem wf_parts {m : Mem} (h : Memory.wf m = true) : spWf 0 m.store = true ∧ spWf 0 m.sram = true ∧ spWf 0 m.aon = true := by
  simp only [Memory.wf, Bool.and_eq_true] at h
  exact ⟨h.1.1, h.1.2, h.2⟩

theorem wf_of {m : Mem} (a : spWf 0 m.store = true) (b : spWf 0 m.sram = true) (c : spWf 0 m.aon = true) : Memory.wf m = true := by
  simp only [Memory.wf, Bool.and_eq_true]
  exact ⟨⟨a, b⟩, c⟩

end Sys2Proof.Machine
end

