-- ==== Sys2Proof/Laws/KeepsOps.lean ====
section
/-! SUPPORT. Keeps: the shared operations. One lemma per operation: the queue is untouched and a sound machine stays sound. -/

namespace Sys2Proof.Machine

open Sys2Proof.Laws Sys2Proof.Safety

theorem State.post_keeps {s0 s1 a2 a3 a4 a5} (h_1 : Keeps s0 s1) :
    Keeps s0 (State.post s1 a2 a3 a4 a5) := by
  unfold State.post
  try dsimp only
  exact keeps_mk h_1 rfl

theorem State.applied_keeps {s0 s1 a2 a3 a4 a5 a6 a7} (h_1 : Keeps s0 s1) :
    Keeps s0 (State.applied s1 a2 a3 a4 a5 a6 a7) := by
  unfold State.applied
  try dsimp only
  exact keeps_ite (fun _ => h_1) (fun _ => State.post_keeps h_1)

theorem State.procApplied_keeps {s0 s1 a2 a3 a4} (h_1 : Keeps s0 s1) :
    Keeps s0 (State.procApplied s1 a2 a3 a4) := by
  unfold State.procApplied
  try dsimp only
  exact State.applied_keeps h_1

theorem State.dropped_keeps {s0 s1 a2 a3 a4} (h_1 : Keeps s0 s1) :
    Keeps s0 (State.dropped s1 a2 a3 a4) := by
  unfold State.dropped
  try dsimp only
  exact State.post_keeps h_1

theorem State.endProcs_keeps {s0 s1 a2 a3 a4 a5 a6} (h_1 : Keeps s0 s1) :
    Keeps s0 (State.endProcs s1 a2 a3 a4 a5 a6) := by
  unfold State.endProcs
  try dsimp only
  exact keeps_foldl (fun _ _ h0 => keeps_ite (fun _ => State.procApplied_keeps h0) (fun _ => State.dropped_keeps h0)) (keeps_mk h_1 rfl)

theorem State.unsync_keeps {s0 s1} (h_1 : Keeps s0 s1) :
    Keeps s0 (State.unsync s1) := by
  unfold State.unsync
  try dsimp only
  exact State.endProcs_keeps (keeps_mk h_1 rfl)

theorem State.pairPost_keeps {s0 s1 a2 a3 a4} (h_1 : Keeps s0 s1) :
    Keeps s0 (State.pairPost s1 a2 a3 a4) := by
  unfold State.pairPost
  try dsimp only
  exact State.post_keeps h_1

theorem State.reply_keeps {s0 s1 a2 a3 a4 a5 a6 a7} (h_1 : Keeps s0 s1) :
    Keeps s0 (State.reply s1 a2 a3 a4 a5 a6 a7) := by
  unfold State.reply
  try dsimp only
  exact keeps_ite (fun _ => keeps_ite (fun _ => h_1) (fun _ => State.unsync_keeps (State.pairPost_keeps h_1))) (fun _ => keeps_ite (fun _ =>
      h_1) (fun _ => keeps_mk h_1 rfl))

theorem State.takeNo_keeps {s0 s1} (h_1 : Keeps s0 s1) :
    Keeps s0 (State.takeNo s1) := by
  unfold State.takeNo
  try dsimp only
  exact keeps_mk h_1 rfl

theorem rejectCmd_keeps {s0 a1 a2 a3 a4 s1} (h_1 : Keeps s0 s1) :
    Keeps s0 (rejectCmd a1 a2 a3 a4 s1) := by
  unfold rejectCmd
  try dsimp only
  exact keeps_ite (fun _ => State.reply_keeps h_1) (fun _ => State.reply_keeps (State.takeNo_keeps h_1))

theorem runNow_keeps {s0 a1 a2 a3 s1 a5} (h_1 : Keeps s0 s1) (h_a5 : ∀ y1, Keeps s0 y1 → Keeps s0 (a5 y1).1) :
    Keeps s0 (runNow a1 a2 a3 s1 a5) := by
  unfold runNow
  try dsimp only
  split
  · exact rejectCmd_keeps h_1
  · exact State.reply_keeps (h_a5 _ (State.takeNo_keeps h_1))

theorem runRead_keeps {s0 a1 a2 a3 s1 a5} (h_1 : Keeps s0 s1) :
    Keeps s0 (runRead a1 a2 a3 s1 a5) := by
  unfold runRead
  try dsimp only
  exact runNow_keeps h_1 (fun _ h0 => h0)

theorem runLater_keeps {s0 a1 a2 a3 a4 a5 s1 a7} (h_1 : Keeps s0 s1) (h_a7 : ∀ y1, ∀ y2, Keeps s0 y2 → Keeps s0 (a7 y1 y2)) :
    Keeps s0 (runLater a1 a2 a3 a4 a5 s1 a7) := by
  unfold runLater
  try dsimp only
  split
  · exact rejectCmd_keeps h_1
  · exact h_a7 _ _ (State.takeNo_keeps h_1)

theorem State.addRunning_keeps {s0 s1 a2} (h_1 : Keeps s0 s1) :
    Keeps s0 (State.addRunning s1 a2) := by
  unfold State.addRunning
  try dsimp only
  exact keeps_mk h_1 rfl

theorem State.setHead_keeps {s0 s1 a2 a3} (h_1 : Keeps s0 s1) :
    Keeps s0 (State.setHead s1 a2 a3) := by
  unfold State.setHead
  try dsimp only
  exact keeps_mk h_1 rfl

theorem State.modHead_keeps {s0 s1 a2 a3} (h_1 : Keeps s0 s1) :
    Keeps s0 (State.modHead s1 a2 a3) := by
  unfold State.modHead
  try dsimp only
  exact State.setHead_keeps h_1

theorem State.postSkips_keeps {s0 s1 a2 a3} (h_1 : Keeps s0 s1) :
    Keeps s0 (State.postSkips s1 a2 a3) := by
  unfold State.postSkips
  try dsimp only
  refine keeps_ite (fun _ => h_1) (fun _ => ?_)
  split
  · exact h_1
  · exact State.post_keeps (State.modHead_keeps h_1)

theorem State.sendMsg_keeps {s0 s1 a2 a3} (h_1 : Keeps s0 s1) :
    Keeps s0 (State.sendMsg s1 a2 a3) := by
  unfold State.sendMsg
  try dsimp only
  exact keeps_mk h_1 rfl

/-- The bytes of a memory may be replaced by canonical ones. -/
theorem State.setCells_keeps {s0 s o c} (h : Keeps s0 s) (hc : Sound s → spWf 0 c = true) : Keeps s0 (State.setCells s o c) := by
  refine keeps_to h ?_ (fun i => ?_)
  · unfold State.setCells; split
    · rfl
    · split <;> rfl
  · have hw := hc i
    obtain ⟨m, r⟩ := i
    obtain ⟨a, b, d⟩ := wf_parts m
    unfold State.setCells
    split
    · exact ⟨wf_of hw b d, r⟩
    · split
      · exact ⟨wf_of a hw d, r⟩
      · exact ⟨wf_of a b hw, r⟩

/-- The bytes of a memory of a sound machine are canonical. -/
theorem cells_wf {s : State} (o : Nat) (i : Sound s) : spWf 0 (s.cells o) = true := by
  obtain ⟨a, b, c⟩ := wf_parts i.1
  unfold State.cells
  split
  · exact a
  · split
    · exact b
    · exact c

theorem State.setMarks_keeps {s0 s1 a2 a3} (h_1 : Keeps s0 s1) :
    Keeps s0 (State.setMarks s1 a2 a3) := by
  unfold State.setMarks
  try dsimp only
  exact keeps_ite (fun _ => keeps_mk h_1 rfl) (fun _ => keeps_ite (fun _ => keeps_mk h_1 rfl) (fun _ => keeps_mk h_1 rfl))

theorem State.memCorrected_keeps {s0 s1 a2 a3} (h_1 : Keeps s0 s1) :
    Keeps s0 (State.memCorrected s1 a2 a3) := by
  unfold State.memCorrected
  try dsimp only
  exact keeps_ite (fun _ => keeps_mk h_1 rfl) (fun _ => State.post_keeps (keeps_mk h_1 rfl))

theorem State.memUncorrectable_keeps {s0 s1 a2 a3} (h_1 : Keeps s0 s1) :
    Keeps s0 (State.memUncorrectable s1 a2 a3) := by
  unfold State.memUncorrectable
  try dsimp only
  exact State.post_keeps (keeps_mk h_1 rfl)

theorem State.checkWord_keeps {s0 s1 a2 a3} (h_1 : Keeps s0 s1) :
    Keeps s0 (State.checkWord s1 a2 a3).2 := by
  unfold State.checkWord
  try dsimp only
  split
  · exact h_1
  · exact State.memCorrected_keeps (State.setMarks_keeps h_1)
  · exact State.memUncorrectable_keeps h_1

theorem State.writeWord_keeps {s0 s1 a2 a3 a4} (h_1 : Keeps s0 s1) : Keeps s0 (State.writeWord s1 a2 a3 a4).2 := by
  have put : ∀ s : State, Keeps s0 s → Keeps s0 (s.setCells a2
      (((List.range 4).zip a4).foldl (fun c x => if x.2.1 then spSet 0 c (4 * a3 + x.1) x.2.2 else c) (s.cells a2))) := fun s h =>
    State.setCells_keeps h (fun i => keepsAt_foldl (P := fun c => spWf 0 c = true)
      (fun c x w => keepsAt_ite (P := fun c => spWf 0 c = true) (fun _ => spSet_wf w) (fun _ => w)) (cells_wf a2 i))
  unfold State.writeWord
  dsimp only
  have k := State.checkWord_keeps (a2 := a2) (a3 := a3) h_1
  exact keepsAt_ite (P := fun x : _ × State => Keeps s0 x.2) (fun _ => put _ (State.setMarks_keeps h_1))
    (fun _ => keepsAt_ite (P := fun x : _ × State => Keeps s0 x.2) (fun _ => h_1)
      (fun _ => keepsAt_ite (P := fun x : _ × State => Keeps s0 x.2) (fun _ => k) (fun _ => put _ k)))

theorem State.writePart_keeps {s0 s1 a2 a3 a4} (h_1 : Keeps s0 s1) :
    Keeps s0 (State.writePart s1 a2 a3 a4).2 := by
  unfold State.writePart
  try dsimp only
  exact keepsAt_foldl (P := fun x : _ × State => Keeps s0 x.2) (fun _ _ h0 => State.writeWord_keeps h0) h_1

theorem State.writeWhole_keeps {s0 s1 a2 a3 a4} (h_1 : Keeps s0 s1) : Keeps s0 (State.writeWhole s1 a2 a3 a4) := by
  unfold State.writeWhole
  have e : ∀ x, Sound (State.setMarks s1 a2 x) → Sound s1 := fun x j => by
    unfold State.setMarks at j
    split at j
    · exact j
    · split at j <;> exact j
  exact State.setCells_keeps (State.setMarks_keeps h_1) (fun i => writeBytes_wf _ _ (cells_wf a2 (e _ i)))

theorem State.writeMem_keeps {s0 s1 a2 a3 a4} (h_1 : Keeps s0 s1) :
    Keeps s0 (State.writeMem s1 a2 a3 a4).2 := by
  unfold State.writeMem
  try dsimp only
  exact State.writePart_keeps (keeps_ite (fun _ => State.writePart_keeps h_1) (fun _ => State.writeWhole_keeps (State.writePart_keeps h_1)))

theorem State.breach_keeps {s0 s1 a2 a3 a4 a5} (h_1 : Keeps s0 s1) :
    Keeps s0 (State.breach s1 a2 a3 a4 a5) := by
  unfold State.breach
  try dsimp only
  exact keeps_ite (fun _ => State.setHead_keeps h_1) (fun _ => State.post_keeps (keeps_mk (State.setHead_keeps h_1) rfl))

theorem State.guardedWrite_keeps {s0 s1 a2 a3} (h_1 : Keeps s0 s1) :
    Keeps s0 (State.guardedWrite s1 a2 a3).2 := by
  unfold State.guardedWrite
  try dsimp only
  exact keepsAt_ite (P := fun x : _ × State => Keeps s0 x.2) (fun _ => keeps_foldl (fun _ _ h1 => State.breach_keeps h1) (State.writeMem_keeps
      h_1)) (fun _ => keeps_foldl (fun _ _ h1 => State.modHead_keeps h1) h_1)

theorem State.readMem_keeps {s0 s1 a2 a3 a4} (h_1 : Keeps s0 s1) :
    Keeps s0 (State.readMem s1 a2 a3 a4).2.2 := by
  unfold State.readMem
  try dsimp only
  exact keepsAt_foldl (P := fun x : _ × State => Keeps s0 x.2) (fun _ _ h0 => State.checkWord_keeps h0) h_1

theorem State.getMem_keeps {s0 s1 a2 a3 a4} (h_1 : Keeps s0 s1) :
    Keeps s0 (State.getMem s1 a2 a3 a4).2 := by
  unfold State.getMem
  try dsimp only
  exact State.readMem_keeps h_1

theorem State.snapRow_keeps {s0 s1 a2 a3 a4} (h_1 : Keeps s0 s1) :
    Keeps s0 (State.snapRow s1 a2 a3 a4) := by
  unfold State.snapRow
  try dsimp only
  refine keeps_ite (fun _ => h_1) (fun _ => ?_)
  split
  · exact h_1
  · exact keeps_ite (fun _ => keeps_foldl (fun _ _ h3 => State.procApplied_keeps h3) (keeps_mk (keeps_foldl (fun _ _ h4 =>
        State.guardedWrite_keeps (State.getMem_keeps h4)) h_1) rfl)) (fun _ => keeps_foldl (fun _ _ h3 => State.guardedWrite_keeps
        (State.getMem_keeps h3)) h_1)

theorem State.setCluster_keeps {s0 s1 a2 a3} (h_1 : Keeps s0 s1) :
    Keeps s0 (State.setCluster s1 a2 a3) := by
  unfold State.setCluster
  try dsimp only
  exact keeps_mk h_1 rfl

theorem State.removeItems_keeps {s0 s1 a2} (h_1 : Keeps s0 s1) :
    Keeps s0 (State.removeItems s1 a2) := by
  unfold State.removeItems
  try dsimp only
  exact keeps_foldl (fun _ _ h0 => State.setCluster_keeps h0) (keeps_mk h_1 rfl)

theorem State.putMem_keeps {s0 s1 a2 a3 a4} (h_1 : Keeps s0 s1) :
    Keeps s0 (State.putMem s1 a2 a3 a4) := by
  unfold State.putMem
  try dsimp only
  exact State.writeMem_keeps h_1

theorem State.setFlow_keeps {s0 s1 a2 a3 a4} (h_1 : Keeps s0 s1) :
    Keeps s0 (State.setFlow s1 a2 a3 a4) := by
  unfold State.setFlow
  try dsimp only
  exact keeps_mk h_1 rfl

theorem State.putSlot_keeps {s0 s1 a2 a3 a4} (h_1 : Keeps s0 s1) :
    Keeps s0 (State.putSlot s1 a2 a3 a4) := by
  unfold State.putSlot
  try dsimp only
  split
  · exact State.putMem_keeps (State.setFlow_keeps h_1)
  · exact State.setFlow_keeps h_1

theorem State.releaseHeld_keeps {s0 s1 a2} (h_1 : Keeps s0 s1) :
    Keeps s0 (State.releaseHeld s1 a2) := by
  unfold State.releaseHeld
  try dsimp only
  exact keeps_foldl (fun _ _ h0 => State.putSlot_keeps h0) h_1

theorem State.retire_keeps {s0 s1 a2} (h_1 : Keeps s0 s1) :
    Keeps s0 (State.retire s1 a2) := by
  unfold State.retire
  try dsimp only
  exact keeps_foldl (fun _ _ h0 => keeps_ite (fun _ => h0) (fun _ => State.modHead_keeps (State.releaseHeld_keeps h0))) h_1

theorem State.setTile_keeps {s0 s1 a2 a3} (h_1 : Keeps s0 s1) :
    Keeps s0 (State.setTile s1 a2 a3) := by
  unfold State.setTile
  try dsimp only
  exact keeps_mk h_1 rfl

theorem State.abandonC_keeps {s0 s1 a2} (h_1 : Keeps s0 s1) :
    Keeps s0 (State.abandonC s1 a2) := by
  unfold State.abandonC
  try dsimp only
  exact keeps_ite (fun _ => h_1) (fun _ => State.retire_keeps (State.modHead_keeps (keeps_mk (keeps_foldl (fun _ _ h3 => keeps_ite (fun _ =>
      State.setTile_keeps h3) (fun _ => h3)) (State.removeItems_keeps h_1)) rfl)))

theorem State.skipRow_keeps {s0 s1 a2 a3 a4 a5} (h_1 : Keeps s0 s1) :
    Keeps s0 (State.skipRow s1 a2 a3 a4 a5) := by
  unfold State.skipRow
  try dsimp only
  exact keeps_ite (fun _ => h_1) (fun _ => State.postSkips_keeps (keeps_ite (fun _ => State.sendMsg_keeps (State.snapRow_keeps
      (State.modHead_keeps (keeps_foldl (fun _ _ h6 => State.abandonC_keeps h6) (keeps_mk (State.removeItems_keeps h_1) rfl))))) (fun _ =>
      State.snapRow_keeps (State.modHead_keeps (keeps_foldl (fun _ _ h5 => State.abandonC_keeps h5) (keeps_mk (State.removeItems_keeps h_1)
      rfl))))))

theorem State.resetRows_keeps {s0 s1 a2} (h_1 : Keeps s0 s1) :
    Keeps s0 (State.resetRows s1 a2) := by
  unfold State.resetRows
  try dsimp only
  exact keeps_foldl (fun _ _ h0 => keeps_foldl (fun _ _ h1 => keeps_ite (fun _ => h1) (fun _ => State.skipRow_keeps h1)) h0) h_1

theorem State.dropEntries_keeps {s0 s1 a2 a3} (h_1 : Keeps s0 s1) :
    Keeps s0 (State.dropEntries s1 a2 a3) := by
  unfold State.dropEntries
  try dsimp only
  exact keeps_foldl (fun _ _ h0 => State.dropped_keeps h0) (keeps_mk h_1 rfl)

theorem State.mapTiles_keeps {s0 s1 a2 a3} (h_1 : Keeps s0 s1) :
    Keeps s0 (State.mapTiles s1 a2 a3) := by
  unfold State.mapTiles
  try dsimp only
  exact keeps_mk h_1 rfl

theorem State.dropFrame_keeps {s0 s1 a2 a3} (h_1 : Keeps s0 s1) :
    Keeps s0 (State.dropFrame s1 a2 a3) := by
  unfold State.dropFrame
  try dsimp only
  exact State.retire_keeps (State.mapTiles_keeps (State.removeItems_keeps h_1))

theorem State.dropFrom_keeps {s0 s1 a2 a3} (h_1 : Keeps s0 s1) :
    Keeps s0 (State.dropFrom s1 a2 a3) := by
  unfold State.dropFrom
  try dsimp only
  exact State.modHead_keeps (keeps_foldl (fun _ _ h1 => State.dropFrame_keeps h1) h_1)

theorem State.freeNext_keeps {s0 s1 a2} (h_1 : Keeps s0 s1) :
    Keeps s0 (State.freeNext s1 a2) := by
  unfold State.freeNext
  try dsimp only
  exact State.modHead_keeps h_1

theorem State.stopHead_keeps {s0 s1 a2} (h_1 : Keeps s0 s1) :
    Keeps s0 (State.stopHead s1 a2) := by
  unfold State.stopHead
  try dsimp only
  exact keeps_ite (fun _ => h_1) (fun _ => keeps_ite (fun _ => State.dropEntries_keeps (State.endProcs_keeps (State.dropFrom_keeps
      (State.modHead_keeps h_1)))) (fun _ => State.freeNext_keeps (State.dropEntries_keeps (State.endProcs_keeps (State.dropFrom_keeps
      (State.modHead_keeps h_1))))))

theorem State.sendHello_keeps {s0 s1} (h_1 : Keeps s0 s1) :
    Keeps s0 (State.sendHello s1) := by
  unfold State.sendHello
  try dsimp only
  exact State.sendMsg_keeps h_1

theorem State.linkFresh_keeps {s0 s1} (h_1 : Keeps s0 s1) :
    Keeps s0 (State.linkFresh s1) := by
  unfold State.linkFresh
  try dsimp only
  exact keeps_ite (fun _ => State.sendHello_keeps (keeps_mk h_1 rfl)) (fun _ => keeps_mk h_1 rfl)

theorem State.pairDown_keeps {s0 s1} (h_1 : Keeps s0 s1) :
    Keeps s0 (State.pairDown s1) := by
  unfold State.pairDown
  try dsimp only
  exact keeps_ite (fun _ => State.linkFresh_keeps h_1) (fun _ => keeps_ite (fun _ => State.pairPost_keeps (keeps_ite (fun _ => keeps_mk
      (State.pairPost_keeps (State.linkFresh_keeps h_1)) rfl) (fun _ => keeps_ite (fun _ => State.unsync_keeps (State.pairPost_keeps
      (State.linkFresh_keeps h_1))) (fun _ => State.pairPost_keeps (State.linkFresh_keeps h_1))))) (fun _ => keeps_ite (fun _ => keeps_mk
      (State.pairPost_keeps (State.linkFresh_keeps h_1)) rfl) (fun _ => keeps_ite (fun _ => State.unsync_keeps (State.pairPost_keeps
      (State.linkFresh_keeps h_1))) (fun _ => State.pairPost_keeps (State.linkFresh_keeps h_1)))))

theorem rescan_keeps {s0 s1} (h_1 : Keeps s0 s1) :
    Keeps s0 (rescan s1) := by
  unfold rescan
  try dsimp only
  exact keeps_mk h_1 rfl

theorem State.setDomain_keeps {s0 s1 a2 a3} (h_1 : Keeps s0 s1) :
    Keeps s0 (State.setDomain s1 a2 a3) := by
  unfold State.setDomain
  try dsimp only
  exact keeps_mk h_1 rfl

theorem State.domainState_keeps {s0 s1 a2 a3} (h_1 : Keeps s0 s1) :
    Keeps s0 (State.domainState s1 a2 a3) := by
  unfold State.domainState
  try dsimp only
  exact keeps_ite (fun _ => h_1) (fun _ => State.post_keeps (State.setDomain_keeps h_1))

theorem State.jumpRefused_keeps {s0 s1 a2 a3} (h_1 : Keeps s0 s1) :
    Keeps s0 (State.jumpRefused s1 a2 a3) := by
  unfold State.jumpRefused
  try dsimp only
  exact State.post_keeps (keeps_mk h_1 rfl)

theorem State.switchRefused_keeps {s0 s1 a2} (h_1 : Keeps s0 s1) :
    Keeps s0 (State.switchRefused s1 a2) := by
  unfold State.switchRefused
  try dsimp only
  exact keeps_ite (fun _ => State.jumpRefused_keeps h_1) (fun _ => h_1)

theorem State.takeDomain_keeps {s0 s1 a2 a3} (h_1 : Keeps s0 s1) :
    Keeps s0 (State.takeDomain s1 a2 a3) := by
  unfold State.takeDomain
  try dsimp only
  exact keeps_mk h_1 rfl

theorem State.forceDomain_keeps {s0 s1} (h_1 : Keeps s0 s1) :
    Keeps s0 (State.forceDomain s1) := by
  unfold State.forceDomain
  try dsimp only
  exact keeps_mk h_1 rfl

theorem State.seamEntries_keeps {s0 s1 a2} (h_1 : Keeps s0 s1) :
    Keeps s0 (State.seamEntries s1 a2) := by
  unfold State.seamEntries
  try dsimp only
  exact keeps_mk h_1 rfl

theorem State.setEvtOut_keeps {s0 s1 a2 a3} (h_1 : Keeps s0 s1) :
    Keeps s0 (State.setEvtOut s1 a2 a3) := by
  unfold State.setEvtOut
  try dsimp only
  exact keeps_mk h_1 rfl

theorem State.seamPins_keeps {s0 s1} (h_1 : Keeps s0 s1) :
    Keeps s0 (State.seamPins s1) := by
  unfold State.seamPins
  try dsimp only
  exact keeps_foldl (fun _ _ h0 => keeps_ite (fun _ => h0) (fun _ => State.setEvtOut_keeps h0)) h_1

theorem State.setOutput_keeps {s0 s1 a2 a3} (h_1 : Keeps s0 s1) :
    Keeps s0 (State.setOutput s1 a2 a3) := by
  unfold State.setOutput
  try dsimp only
  exact keeps_mk h_1 rfl

theorem State.seamOutputs_keeps {s0 s1} (h_1 : Keeps s0 s1) :
    Keeps s0 (State.seamOutputs s1) := by
  unfold State.seamOutputs
  try dsimp only
  refine keeps_foldl (fun _ _ h0 => ?_) h_1
  split
  · exact State.setOutput_keeps h0
  · exact h0

theorem State.seamHead_keeps {s0 s1 a2 a3} (h_1 : Keeps s0 s1) :
    Keeps s0 (State.seamHead s1 a2 a3) := by
  unfold State.seamHead
  try dsimp only
  exact keeps_ite (fun _ => h_1) (fun _ => keeps_ite (fun _ => State.modHead_keeps h_1) (fun _ => State.modHead_keeps (keeps_foldl (fun _ _ h3
      => State.dropFrame_keeps h3) (State.modHead_keeps h_1))))

theorem State.setTx_keeps {s0 s1 a2 a3 a4} (h_1 : Keeps s0 s1) :
    Keeps s0 (State.setTx s1 a2 a3 a4) := by
  unfold State.setTx
  try dsimp only
  exact keeps_mk h_1 rfl

theorem State.seamTx_keeps {s0 s1 a2 a3} (h_1 : Keeps s0 s1) :
    Keeps s0 (State.seamTx s1 a2 a3) := by
  unfold State.seamTx
  try dsimp only
  split
  · exact keeps_ite (fun _ => h_1) (fun _ => State.setTx_keeps h_1)
  · exact h_1

theorem State.seamFlows_keeps {s0 s1 a2} (h_1 : Keeps s0 s1) :
    Keeps s0 (State.seamFlows s1 a2) := by
  unfold State.seamFlows
  try dsimp only
  exact keeps_foldl (fun _ _ h0 => State.seamTx_keeps h0) (keeps_foldl (fun _ _ h1 => State.seamHead_keeps h1) h_1)

theorem State.stepTp_keeps {s0 s1 a2} (h_1 : Keeps s0 s1) :
    Keeps s0 (State.stepTp s1 a2) := by
  unfold State.stepTp
  try dsimp only
  exact State.seamEntries_keeps (State.seamPins_keeps (State.seamOutputs_keeps (State.seamFlows_keeps (keeps_mk h_1 rfl))))

theorem State.forceValue_keeps {s0 s1 a2} (h_1 : Keeps s0 s1) :
    Keeps s0 (State.forceValue s1 a2) := by
  unfold State.forceValue
  try dsimp only
  exact keeps_ite (fun _ => keeps_mk h_1 rfl) (fun _ => State.stepTp_keeps h_1)

theorem State.enqueue_keeps {s0 s1 a2} (h_1 : Keeps s0 s1) :
    Keeps s0 (State.enqueue s1 a2) := by
  unfold State.enqueue
  try dsimp only
  exact keeps_mk h_1 rfl

theorem runNowT_keeps {s0 a1 a2 a3 a4 a5 s1 a7} (h_1 : Keeps s0 s1) (h_a7 : ∀ y1, Keeps s0 y1 → Keeps s0 (a7 y1)) :
    Keeps s0 (runNowT a1 a2 a3 a4 a5 s1 a7) := by
  unfold runNowT
  try dsimp only
  split
  · exact rejectCmd_keeps h_1
  · exact keeps_ite (fun _ => State.reply_keeps (State.enqueue_keeps (State.takeNo_keeps h_1))) (fun _ => State.reply_keeps (h_a7 _
        (State.takeNo_keeps h_1)))

theorem State.evtOutApply_keeps {s0 s1 a2} (h_1 : Keeps s0 s1) :
    Keeps s0 (State.evtOutApply s1 a2) := by
  unfold State.evtOutApply
  try dsimp only
  exact keeps_ite (fun _ => State.setEvtOut_keeps h_1) (fun _ => State.setEvtOut_keeps h_1)

theorem State.setEvtIn_keeps {s0 s1 a2 a3} (h_1 : Keeps s0 s1) :
    Keeps s0 (State.setEvtIn s1 a2 a3) := by
  unfold State.setEvtIn
  try dsimp only
  exact keeps_mk h_1 rfl

theorem State.legInactive_keeps {s0 s1 a2 a3 a4} (h_1 : Keeps s0 s1) :
    Keeps s0 (State.legInactive s1 a2 a3 a4) := by
  unfold State.legInactive
  try dsimp only
  exact keeps_ite (fun _ => h_1) (fun _ => keeps_ite (fun _ => State.post_keeps (State.post_keeps (State.setFlow_keeps h_1))) (fun _ =>
      State.post_keeps (State.setFlow_keeps h_1)))

theorem State.legsOffPort_keeps {s0 s1 a2} (h_1 : Keeps s0 s1) :
    Keeps s0 (State.legsOffPort s1 a2) := by
  unfold State.legsOffPort
  try dsimp only
  exact keeps_foldl (fun _ _ h0 => keeps_foldl (fun _ _ h1 => State.legInactive_keeps h1) h0) h_1

theorem State.setPort_keeps {s0 s1 a2 a3} (h_1 : Keeps s0 s1) :
    Keeps s0 (State.setPort s1 a2 a3) := by
  unfold State.setPort
  try dsimp only
  exact keeps_mk h_1 rfl

theorem State.setLane_keeps {s0 s1 a2 a3} (h_1 : Keeps s0 s1) :
    Keeps s0 (State.setLane s1 a2 a3) := by
  unfold State.setLane
  try dsimp only
  exact keeps_mk h_1 rfl

theorem State.portDrop_keeps {s0 s1 a2 a3} (h_1 : Keeps s0 s1) :
    Keeps s0 (State.portDrop s1 a2 a3) := by
  unfold State.portDrop
  try dsimp only
  exact keeps_ite (fun _ => State.post_keeps (State.setPort_keeps (keeps_foldl (fun _ _ h3 => State.setLane_keeps h3) h_1))) (fun _ =>
      State.setPort_keeps (keeps_foldl (fun _ _ h2 => State.setLane_keeps h2) h_1))

theorem State.closeSlot_keeps {s0 s1 a2 a3 a4} (h_1 : Keeps s0 s1) :
    Keeps s0 (State.closeSlot s1 a2 a3 a4) := by
  unfold State.closeSlot
  try dsimp only
  exact keeps_ite (fun _ => h_1) (fun _ => State.putSlot_keeps (State.setFlow_keeps h_1))

theorem State.closeAll_keeps {s0 s1 a2} (h_1 : Keeps s0 s1) :
    Keeps s0 (State.closeAll s1 a2) := by
  unfold State.closeAll
  try dsimp only
  exact keeps_foldl (fun _ _ h0 => State.closeSlot_keeps h0) h_1

theorem runBound_keeps {s0 a1 a2 a3 a4 a5 a6 a7 a8 a9 s1 a11 a12} (h_1 : Keeps s0 s1) (h_a11 : ∀ y1, ∀ y2, Keeps s0 y2 → Keeps s0 (a11 y1 y2)) :
    Keeps s0 (runBound a1 a2 a3 a4 a5 a6 a7 a8 a9 s1 a11 a12) := by
  unfold runBound
  try dsimp only
  split
  · exact rejectCmd_keeps h_1
  · exact keeps_ite (fun _ => State.reply_keeps (h_a11 _ _ (State.takeNo_keeps h_1))) (fun _ => State.reply_keeps (State.enqueue_keeps
        (State.takeNo_keeps h_1)))

theorem State.entryApplied_keeps {s0 s1 a2 a3 a4} (h_1 : Keeps s0 s1) :
    Keeps s0 (State.entryApplied s1 a2 a3 a4) := by
  unfold State.entryApplied
  try dsimp only
  exact State.applied_keeps h_1

theorem State.postSwitched_keeps {s0 s1 a2 a3 a4 a5 a6} (h_1 : Keeps s0 s1) :
    Keeps s0 (State.postSwitched s1 a2 a3 a4 a5 a6) := by
  unfold State.postSwitched
  try dsimp only
  exact State.post_keeps h_1

theorem State.setLayer_keeps {s0 s1 a2 a3} (h_1 : Keeps s0 s1) :
    Keeps s0 (State.setLayer s1 a2 a3) := by
  unfold State.setLayer
  try dsimp only
  exact keeps_mk h_1 rfl

theorem State.setDest_keeps {s0 s1 a2 a3} (h_1 : Keeps s0 s1) :
    Keeps s0 (State.setDest s1 a2 a3) := by
  unfold State.setDest
  try dsimp only
  exact keeps_ite (fun _ => State.setLayer_keeps h_1) (fun _ => State.setOutput_keeps h_1)

theorem State.dropDeferred_keeps {s0 s1 a2 a3} (h_1 : Keeps s0 s1) :
    Keeps s0 (State.dropDeferred s1 a2 a3) := by
  unfold State.dropDeferred
  try dsimp only
  split
  · exact h_1
  · exact State.dropped_keeps (State.setDest_keeps h_1)

theorem State.routeAtOnce_keeps {s0 s1 a2 a3 a4} (h_1 : Keeps s0 s1) :
    Keeps s0 (State.routeAtOnce s1 a2 a3 a4) := by
  unfold State.routeAtOnce
  try dsimp only
  exact State.entryApplied_keeps (State.postSwitched_keeps (State.setDest_keeps (State.dropDeferred_keeps h_1)))

theorem withStore_keeps {s0 a1 a2 a3 s1 a5} (h_1 : Keeps s0 s1) (h_a5 : ∀ y1, Keeps s0 y1 → Keeps s0 (a5 y1)) :
    Keeps s0 (withStore a1 a2 a3 s1 a5) := by
  unfold withStore
  try dsimp only
  exact keeps_ite (fun _ => h_a5 _ h_1) (fun _ => runLater_keeps h_1 (fun _ _ h1 => State.addRunning_keeps h1))

theorem State.logFault_keeps {s0 s1 a2 a3 a4} (h_1 : Keeps s0 s1) :
    Keeps s0 (State.logFault s1 a2 a3 a4) := by
  unfold State.logFault
  try dsimp only
  exact keeps_mk h_1 rfl

theorem State.failCmd_keeps {s0 s1 a2 a3} (h_1 : Keeps s0 s1) :
    Keeps s0 (State.failCmd s1 a2 a3) := by
  unfold State.failCmd
  try dsimp only
  exact rejectCmd_keeps (State.logFault_keeps h_1)

theorem withBuffer_keeps {s0 a1 a2 a3 a4 a5 a6 s1 a8} (h_1 : Keeps s0 s1) (h_a8 : ∀ y1, ∀ y2, Keeps s0 y2 → Keeps s0 (a8 y1 y2)) :
    Keeps s0 (withBuffer a1 a2 a3 a4 a5 a6 s1 a8) := by
  unfold withBuffer
  try dsimp only
  exact keeps_ite (fun _ => h_a8 _ _ h_1) (fun _ => withStore_keeps h_1 (fun _ h1 => keeps_ite (fun _ => State.failCmd_keeps
      (State.readMem_keeps h1)) (fun _ => h_a8 _ _ (State.readMem_keeps h1))))

theorem State.outputApply_keeps {s0 s1 a2 a3} (h_1 : Keeps s0 s1) :
    Keeps s0 (State.outputApply s1 a2 a3) := by
  unfold State.outputApply
  try dsimp only
  exact keeps_ite (fun _ => State.setTx_keeps (State.setOutput_keeps h_1)) (fun _ => State.setOutput_keeps h_1)

theorem State.layerApply_keeps {s0 s1 a2} (h_1 : Keeps s0 s1) :
    Keeps s0 (State.layerApply s1 a2) := by
  unfold State.layerApply
  try dsimp only
  exact State.setLayer_keeps h_1

theorem State.coefApply_keeps {s0 s1 a2 a3 a4 a5} (h_1 : Keeps s0 s1) :
    Keeps s0 (State.coefApply s1 a2 a3 a4 a5) := by
  unfold State.coefApply
  try dsimp only
  exact State.setDest_keeps h_1

theorem State.freeLease_keeps {s0 s1 a2 a3} (h_1 : Keeps s0 s1) :
    Keeps s0 (State.freeLease s1 a2 a3) := by
  unfold State.freeLease
  try dsimp only
  exact State.post_keeps (keeps_mk h_1 rfl)

theorem State.endLease_keeps {s0 s1 a2} (h_1 : Keeps s0 s1) :
    Keeps s0 (State.endLease s1 a2) := by
  unfold State.endLease
  try dsimp only
  split
  · exact h_1
  · exact keeps_ite (fun _ => State.freeLease_keeps h_1) (fun _ => keeps_ite (fun _ => State.freeLease_keeps h_1) (fun _ => keeps_mk h_1 rfl))

theorem State.presentApply_keeps {s0 s1 a2 a3} (h_1 : Keeps s0 s1) :
    Keeps s0 (State.presentApply s1 a2 a3) := by
  unfold State.presentApply
  try dsimp only
  split
  · exact keeps_ite (fun _ => State.setLayer_keeps h_1) (fun _ => State.endLease_keeps (State.setLayer_keeps h_1))
  · exact State.setLayer_keeps h_1

theorem State.presentAccept_keeps {s0 s1 a2} (h_1 : Keeps s0 s1) :
    Keeps s0 (State.presentAccept s1 a2) := by
  unfold State.presentAccept
  try dsimp only
  refine keeps_foldl (fun _ _ h0 => ?_) ?_
  · split
    · split
      · exact keeps_ite (fun _ => h0) (fun _ => State.freeLease_keeps h0)
      · exact h0
    · exact h0
  · split
    · exact keeps_mk (State.dropEntries_keeps h_1) rfl
    · split
      · exact keeps_mk (State.dropEntries_keeps h_1) rfl
      · exact State.dropEntries_keeps h_1

theorem State.assocApply_keeps {s0 s1 a2 a3 a4} (h_1 : Keeps s0 s1) :
    Keeps s0 (State.assocApply s1 a2 a3 a4) := by
  unfold State.assocApply
  try dsimp only
  exact keeps_mk h_1 rfl

theorem State.audioSwitch_keeps {s0 s1 a2 a3 a4} (h_1 : Keeps s0 s1) :
    Keeps s0 (State.audioSwitch s1 a2 a3 a4) := by
  unfold State.audioSwitch
  try dsimp only
  refine keeps_ite (fun _ => ?_) (fun _ => ?_)
  · refine keeps_ite (fun _ => h_1) (fun _ => ?_)
    split
    · exact State.setHead_keeps h_1
    · exact h_1
  · split
    · exact h_1
    · exact keeps_mk h_1 rfl

theorem State.audioHeadApply_keeps {s0 s1 a2 a3} (h_1 : Keeps s0 s1) :
    Keeps s0 (State.audioHeadApply s1 a2 a3) := by
  unfold State.audioHeadApply
  try dsimp only
  split
  · exact keeps_ite (fun _ => State.setHead_keeps h_1) (fun _ => State.audioSwitch_keeps (State.setHead_keeps h_1))
  · exact State.setHead_keeps h_1

theorem State.audioTxApply_keeps {s0 s1 a2 a3 a4 a5} (h_1 : Keeps s0 s1) :
    Keeps s0 (State.audioTxApply s1 a2 a3 a4 a5) := by
  unfold State.audioTxApply
  try dsimp only
  exact keeps_mk h_1 rfl

theorem State.clearBanks_keeps {s0 s1 a2 a3} (h_1 : Keeps s0 s1) : Keeps s0 (State.clearBanks s1 a2 a3) := by
  refine keeps_to h_1 rfl (fun i => ?_)
  obtain ⟨m, r⟩ := i
  obtain ⟨ma, mb, mc⟩ := wf_parts m
  exact ⟨wf_of ma (spClear_wf mb) mc, r⟩

theorem State.takeBanks_keeps {s0 s1 a2 a3} (h_1 : Keeps s0 s1) :
    Keeps s0 (State.takeBanks s1 a2 a3) := by
  unfold State.takeBanks
  try dsimp only
  exact keeps_ite (fun _ => h_1) (fun _ => State.clearBanks_keeps h_1)

theorem State.takeTiles_keeps {s0 s1 a2 a3 a4} (h_1 : Keeps s0 s1) :
    Keeps s0 (State.takeTiles s1 a2 a3 a4) := by
  unfold State.takeTiles
  try dsimp only
  exact keeps_mk h_1 rfl

theorem State.configNow_keeps {s0 s1 a2 a3} (h_1 : Keeps s0 s1) :
    Keeps s0 (State.configNow s1 a2 a3) := by
  unfold State.configNow
  try dsimp only
  exact State.modHead_keeps (State.takeBanks_keeps (State.takeTiles_keeps h_1))

theorem State.replaceTiming_keeps {s0 s1 a2} (h_1 : Keeps s0 s1) :
    Keeps s0 (State.replaceTiming s1 a2) := by
  unfold State.replaceTiming
  try dsimp only
  exact State.freeNext_keeps (State.dropEntries_keeps h_1)

theorem State.dropBanks_keeps {s0 s1 a2 a3} (h_1 : Keeps s0 s1) :
    Keeps s0 (State.dropBanks s1 a2 a3) := by
  unfold State.dropBanks
  try dsimp only
  exact keeps_ite (fun _ => h_1) (fun _ => State.clearBanks_keeps h_1)

theorem State.freeTiles_keeps {s0 s1 a2 a3} (h_1 : Keeps s0 s1) :
    Keeps s0 (State.freeTiles s1 a2 a3) := by
  unfold State.freeTiles
  try dsimp only
  exact keeps_mk h_1 rfl

theorem State.unconfig_keeps {s0 s1 a2} (h_1 : Keeps s0 s1) :
    Keeps s0 (State.unconfig s1 a2) := by
  unfold State.unconfig
  try dsimp only
  exact State.dropBanks_keeps (State.modHead_keeps (State.freeTiles_keeps h_1))

theorem nvsKick_keeps {s0 s1} (h_1 : Keeps s0 s1) :
    Keeps s0 (nvsKick s1) := by
  unfold nvsKick
  try dsimp only
  split
  · exact keeps_mk h_1 rfl
  · exact keeps_mk h_1 rfl
  · exact h_1

theorem nvsTask_keeps {s0 s1 a2} (h_1 : Keeps s0 s1) :
    Keeps s0 (nvsTask s1 a2) := by
  unfold nvsTask
  try dsimp only
  exact nvsKick_keeps (keeps_mk h_1 rfl)

theorem incCounter_keeps {s0 s1 a2} (h_1 : Keeps s0 s1) :
    Keeps s0 (incCounter s1 a2) := by
  unfold incCounter
  try dsimp only
  exact nvsTask_keeps h_1

theorem State.forgetItems_keeps {s0 s1 a2 a3} (h_1 : Keeps s0 s1) :
    Keeps s0 (State.forgetItems s1 a2 a3) := by
  unfold State.forgetItems
  try dsimp only
  exact keeps_mk h_1 rfl

theorem commitShutdown_keeps {s0 s1 a2 a3} (h_1 : Keeps s0 s1) :
    Keeps s0 (commitShutdown s1 a2 a3) := by
  unfold commitShutdown
  try dsimp only
  exact nvsTask_keeps h_1

theorem State.putRows_keeps {s0 s1 a2 a3} (h_1 : Keeps s0 s1) :
    Keeps s0 (State.putRows s1 a2 a3) := by
  unfold State.putRows
  try dsimp only
  exact keeps_foldl (fun _ _ h0 => State.putMem_keeps h0) h_1

theorem State.prepareLedger_keeps {s0 s1 a2} (h_1 : Keeps s0 s1) :
    Keeps s0 (State.prepareLedger s1 a2) := by
  unfold State.prepareLedger
  try dsimp only
  split
  · exact h_1
  · exact State.modHead_keeps (State.mapTiles_keeps (State.putRows_keeps h_1))

theorem State.startHead_keeps {s0 s1 a2} (h_1 : Keeps s0 s1) :
    Keeps s0 (State.startHead s1 a2) := by
  unfold State.startHead
  try dsimp only
  exact keeps_ite (fun _ => State.post_keeps (incCounter_keeps (State.modHead_keeps (State.modHead_keeps (State.forgetItems_keeps
      (commitShutdown_keeps (State.prepareLedger_keeps h_1))))))) (fun _ => State.modHead_keeps (State.modHead_keeps (State.forgetItems_keeps
      (commitShutdown_keeps (State.prepareLedger_keeps h_1)))))

theorem State.addProc_keeps {s0 s1 a2} (h_1 : Keeps s0 s1) :
    Keeps s0 (State.addProc s1 a2) := by
  unfold State.addProc
  try dsimp only
  exact keeps_mk h_1 rfl

theorem State.pictureApply_keeps {s0 s1 a2 a3} (h_1 : Keeps s0 s1) :
    Keeps s0 (State.pictureApply s1 a2 a3) := by
  unfold State.pictureApply
  try dsimp only
  exact State.modHead_keeps h_1

theorem runProc_keeps {s0 a1 a2 a3 a4 s1 a6} (h_1 : Keeps s0 s1) (h_a6 : ∀ y1, ∀ y2, Keeps s0 y2 → Keeps s0 (a6 y1 y2)) :
    Keeps s0 (runProc a1 a2 a3 a4 s1 a6) := by
  unfold runProc
  try dsimp only
  split
  · exact rejectCmd_keeps h_1
  · exact h_a6 _ _ (State.reply_keeps (State.takeNo_keeps h_1))

theorem State.finish_keeps {s0 s1 a2 a3 a4} (h_1 : Keeps s0 s1) :
    Keeps s0 (State.finish s1 a2 a3 a4) := by
  unfold State.finish
  try dsimp only
  exact keeps_ite (fun _ => h_1) (fun _ => State.reply_keeps (keeps_mk h_1 rfl))

theorem State.setDriver_keeps {s0 s1 a2 a3} (h_1 : Keeps s0 s1) :
    Keeps s0 (State.setDriver s1 a2 a3) := by
  unfold State.setDriver
  try dsimp only
  exact keeps_mk h_1 rfl

theorem State.handoverStart_keeps {s0 s1} (h_1 : Keeps s0 s1) :
    Keeps s0 (State.handoverStart s1) := by
  unfold State.handoverStart
  try dsimp only
  exact State.sendMsg_keeps (keeps_mk h_1 rfl)

theorem State.drawNat_keeps {s0 s1} (h_1 : Keeps s0 s1) :
    Keeps s0 (State.drawNat s1).2 := by
  unfold State.drawNat
  try dsimp only
  exact keeps_mk h_1 rfl

theorem State.autoHandover_keeps {s0 s1} (h_1 : Keeps s0 s1) :
    Keeps s0 (State.autoHandover s1) := by
  unfold State.autoHandover
  try dsimp only
  exact keeps_ite (fun _ => keeps_ite (fun _ => State.handoverStart_keeps (State.drawNat_keeps h_1)) (fun _ => State.drawNat_keeps h_1)) (fun _
      => h_1)

theorem State.linkTo_keeps {s0 s1 a2 a3 a4} (h_1 : Keeps s0 s1) :
    Keeps s0 (State.linkTo s1 a2 a3 a4) := by
  unfold State.linkTo
  try dsimp only
  split
  · exact State.endProcs_keeps (State.post_keeps (State.setDriver_keeps (keeps_ite (fun _ => State.autoHandover_keeps (State.post_keeps h_1))
        (fun _ => h_1))))
  · exact State.endProcs_keeps (State.post_keeps (State.setDriver_keeps (keeps_ite (fun _ => State.autoHandover_keeps (State.post_keeps h_1))
        (fun _ => h_1))))
  · exact State.endProcs_keeps (State.setDriver_keeps (keeps_ite (fun _ => State.autoHandover_keeps (State.post_keeps h_1)) (fun _ => h_1)))
  · exact State.setDriver_keeps (keeps_ite (fun _ => State.autoHandover_keeps (State.post_keeps h_1)) (fun _ => h_1))

theorem State.activateNow_keeps {s0 s1 a2} (h_1 : Keeps s0 s1) :
    Keeps s0 (State.activateNow s1 a2) := by
  unfold State.activateNow
  try dsimp only
  exact State.modHead_keeps h_1

theorem State.postMura_keeps {s0 s1 a2 a3 a4} (h_1 : Keeps s0 s1) :
    Keeps s0 (State.postMura s1 a2 a3 a4) := by
  unfold State.postMura
  try dsimp only
  exact State.post_keeps h_1

theorem State.muraApply_keeps {s0 s1 a2 a3} (h_1 : Keeps s0 s1) :
    Keeps s0 (State.muraApply s1 a2 a3) := by
  unfold State.muraApply
  try dsimp only
  exact keeps_ite (fun _ => State.modHead_keeps h_1) (fun _ => State.postMura_keeps (State.modHead_keeps h_1))

theorem State.ledgerApply_keeps {s0 s1 a2 a3 a4 a5} (h_1 : Keeps s0 s1) :
    Keeps s0 (State.ledgerApply s1 a2 a3 a4 a5) := by
  unfold State.ledgerApply
  try dsimp only
  exact State.modHead_keeps h_1

theorem State.clearApply_keeps {s0 s1 a2} (h_1 : Keeps s0 s1) :
    Keeps s0 (State.clearApply s1 a2) := by
  unfold State.clearApply
  try dsimp only
  exact State.modHead_keeps h_1

theorem State.vcomIdle_keeps {s0 s1 a2} (h_1 : Keeps s0 s1) :
    Keeps s0 (State.vcomIdle s1 a2) := by
  unfold State.vcomIdle
  try dsimp only
  exact State.modHead_keeps h_1

theorem State.viewsNow_keeps {s0 s1 a2 a3 a4} (h_1 : Keeps s0 s1) :
    Keeps s0 (State.viewsNow s1 a2 a3 a4) := by
  unfold State.viewsNow
  try dsimp only
  exact State.modHead_keeps h_1

theorem State.linkTrain_keeps {s0 s1 a2 a3} (h_1 : Keeps s0 s1) :
    Keeps s0 (State.linkTrain s1 a2 a3) := by
  unfold State.linkTrain
  try dsimp only
  exact State.setDriver_keeps (State.linkTo_keeps h_1)

theorem State.freshBank_keeps {s0 s1 a2 a3 a4} (h_1 : Keeps s0 s1) :
    Keeps s0 (State.freshBank s1 a2 a3 a4) := by
  unfold State.freshBank
  try dsimp only
  exact keeps_mk h_1 rfl

theorem State.tableLoad_keeps {s0 s1 a2 a3 a4 a5} (h_1 : Keeps s0 s1) :
    Keeps s0 (State.tableLoad s1 a2 a3 a4 a5) := by
  unfold State.tableLoad
  try dsimp only
  exact State.modHead_keeps (State.freshBank_keeps h_1)

theorem execNvsRead_keeps {s0 a1 a2 a3 a4 s1} (h_1 : Keeps s0 s1) :
    KeepsO s0 (execNvsRead a1 a2 a3 a4 s1) := by
  unfold execNvsRead
  try dsimp only
  exact keepsO_next (runRead_keeps h_1)

theorem execNvsWrite_keeps {s0 a1 a2 a3 a4 s1} (h_1 : Keeps s0 s1) :
    KeepsO s0 (execNvsWrite a1 a2 a3 a4 s1) := by
  unfold execNvsWrite
  try dsimp only
  exact keepsO_next (runLater_keeps h_1 (fun _ _ h0 => nvsTask_keeps (State.addRunning_keeps h0)))

theorem execRecordRead_keeps {s0 a1 a2 s1} (h_1 : Keeps s0 s1) :
    KeepsO s0 (execRecordRead a1 a2 s1) := by
  unfold execRecordRead
  try dsimp only
  exact keepsO_next (runRead_keeps h_1)

theorem execRecordWrite_keeps {s0 a1 a2 a3 s1} (h_1 : Keeps s0 s1) :
    KeepsO s0 (execRecordWrite a1 a2 a3 s1) := by
  unfold execRecordWrite
  try dsimp only
  refine keepsO_next ?_
  refine keeps_ite (fun _ => State.reply_keeps h_1) (fun _ => ?_)
  refine runLater_keeps h_1 (fun _ _ h1 => ?_)
  split
  · exact h1
  · exact nvsTask_keeps (State.addRunning_keeps h1)

theorem execCounterRead_keeps {s0 a1 a2 s1} (h_1 : Keeps s0 s1) :
    KeepsO s0 (execCounterRead a1 a2 s1) := by
  unfold execCounterRead
  try dsimp only
  exact keepsO_next (runRead_keeps h_1)

theorem State.moveDeque_keeps {s0 s1 a2} (h_1 : Keeps s0 s1) :
    Keeps s0 (State.moveDeque s1 a2) := by
  unfold State.moveDeque
  try dsimp only
  split
  · exact keeps_mk (State.setCluster_keeps (State.setCluster_keeps h_1)) rfl
  · exact keeps_mk (State.setCluster_keeps h_1) rfl

theorem State.setYoyo_keeps {s0 s1 a2 a3} (h_1 : Keeps s0 s1) :
    Keeps s0 (State.setYoyo s1 a2 a3) := by
  unfold State.setYoyo
  try dsimp only
  exact keeps_mk h_1 rfl

theorem State.setRing_keeps {s0 s1 a2 a3} (h_1 : Keeps s0 s1) :
    Keeps s0 (State.setRing s1 a2 a3) := by
  unfold State.setRing
  try dsimp only
  exact keeps_mk h_1 rfl

theorem dbgLockWrite_keeps {s0 a1 s1} (h_1 : Keeps s0 s1) :
    Keeps s0 (dbgLockWrite a1 s1) := by
  unfold dbgLockWrite
  try dsimp only
  exact keeps_ite (fun _ => keeps_mk h_1 rfl) (fun _ => h_1)

theorem State.bootFailed_keeps {s0 s1 a2 a3} (h_1 : Keeps s0 s1) :
    Keeps s0 (State.bootFailed s1 a2 a3) := by
  unfold State.bootFailed
  try dsimp only
  exact incCounter_keeps (State.logFault_keeps (keeps_mk h_1 rfl))

theorem State.bootAccepted_keeps {s0 s1 a2} (h_1 : Keeps s0 s1) :
    Keeps s0 (State.bootAccepted s1 a2) := by
  unfold State.bootAccepted
  try dsimp only
  exact incCounter_keeps (keeps_mk h_1 rfl)

theorem State.readImage_keeps {s0 s1 a2} (h_1 : Keeps s0 s1) :
    Keeps s0 (State.readImage s1 a2).2 := by
  unfold State.readImage
  try dsimp only
  exact keeps_ite (fun _ => State.putMem_keeps h_1) (fun _ => h_1)

theorem State.tryImage_keeps {s0 s1 a2} (h_1 : Keeps s0 s1) :
    Keeps s0 (State.tryImage s1 a2) := by
  unfold State.tryImage
  try dsimp only
  exact keeps_ite (fun _ => State.bootAccepted_keeps (State.readImage_keeps h_1)) (fun _ => State.bootFailed_keeps (State.readImage_keeps h_1))

theorem State.pushGo_keeps {s0 s1} (h_1 : Keeps s0 s1) :
    Keeps s0 (State.pushGo s1) := by
  unfold State.pushGo
  try dsimp only
  exact keeps_ite (fun _ => h_1) (fun _ => keeps_ite (fun _ => State.bootFailed_keeps h_1) (fun _ => State.tryImage_keeps h_1))

theorem pushCtlWrite_keeps {s0 a1 s1} (h_1 : Keeps s0 s1) :
    Keeps s0 (pushCtlWrite a1 s1) := by
  unfold pushCtlWrite
  try dsimp only
  exact keeps_ite (fun _ => h_1) (fun _ => keeps_ite (fun _ => keeps_mk h_1 rfl) (fun _ => keeps_ite (fun _ => State.pushGo_keeps (keeps_mk h_1
      rfl)) (fun _ => keeps_mk h_1 rfl)))

theorem pushDataWrite_keeps {s0 a1 s1} (h_1 : Keeps s0 s1) :
    Keeps s0 (pushDataWrite a1 s1) := by
  unfold pushDataWrite
  try dsimp only
  exact keeps_ite (fun _ => h_1) (fun _ => keeps_mk h_1 rfl)

theorem State.testIgnored_keeps {s0 s1 a2} (h_1 : Keeps s0 s1) :
    Keeps s0 (State.testIgnored s1 a2) := by
  unfold State.testIgnored
  try dsimp only
  exact State.setLane_keeps h_1

theorem State.enterTest_keeps {s0 s1 a2} (h_1 : Keeps s0 s1) :
    Keeps s0 (State.enterTest s1 a2) := by
  unfold State.enterTest
  try dsimp only
  exact keeps_ite (fun _ => State.legsOffPort_keeps (State.portDrop_keeps h_1)) (fun _ => h_1)

theorem laneCtlWrite_keeps {s0 a1 a2 s1} (h_1 : Keeps s0 s1) :
    Keeps s0 (laneCtlWrite a1 a2 s1) := by
  unfold laneCtlWrite
  try dsimp only
  exact keeps_ite (fun _ => h_1) (fun _ => keeps_ite (fun _ => State.testIgnored_keeps h_1) (fun _ => keeps_ite (fun _ => State.enterTest_keeps
      (State.setLane_keeps h_1)) (fun _ => State.setLane_keeps h_1)))

theorem laneTxWrite_keeps {s0 a1 a2 s1} (h_1 : Keeps s0 s1) :
    Keeps s0 (laneTxWrite a1 a2 s1) := by
  unfold laneTxWrite
  try dsimp only
  exact State.setLane_keeps h_1

theorem laneStatusWrite_keeps {s0 a1 a2 s1} (h_1 : Keeps s0 s1) :
    Keeps s0 (laneStatusWrite a1 a2 s1) := by
  unfold laneStatusWrite
  try dsimp only
  exact State.setLane_keeps h_1

theorem State.setFom_keeps {s0 s1 a2 a3} (h_1 : Keeps s0 s1) :
    Keeps s0 (State.setFom s1 a2 a3) := by
  unfold State.setFom
  try dsimp only
  exact keeps_mk h_1 rfl

theorem laneFomWrite_keeps {s0 a1 a2 s1} (h_1 : Keeps s0 s1) :
    Keeps s0 (laneFomWrite a1 a2 s1) := by
  unfold laneFomWrite
  try dsimp only
  exact State.setFom_keeps h_1

theorem State.setPrb_keeps {s0 s1 a2 a3} (h_1 : Keeps s0 s1) :
    Keeps s0 (State.setPrb s1 a2 a3) := by
  unfold State.setPrb
  try dsimp only
  exact keeps_mk h_1 rfl

theorem prbsCtlWrite_keeps {s0 a1 a2 s1} (h_1 : Keeps s0 s1) :
    Keeps s0 (prbsCtlWrite a1 a2 s1) := by
  unfold prbsCtlWrite
  try dsimp only
  exact keeps_ite (fun _ => h_1) (fun _ => keeps_ite (fun _ => State.testIgnored_keeps h_1) (fun _ => keeps_ite (fun _ => State.enterTest_keeps
      (State.setPrb_keeps h_1)) (fun _ => State.setPrb_keeps h_1)))

theorem laneSlipWrite_keeps {s0 a1 a2 s1} (h_1 : Keeps s0 s1) :
    Keeps s0 (laneSlipWrite a1 a2 s1) := by
  unfold laneSlipWrite
  try dsimp only
  exact keeps_ite (fun _ => h_1) (fun _ => keeps_ite (fun _ => State.setLane_keeps h_1) (fun _ => State.setLane_keeps (keeps_ite (fun _ =>
      State.portDrop_keeps h_1) (fun _ => h_1))))

theorem State.say_keeps {s0 s1 a2} (h_1 : Keeps s0 s1) :
    Keeps s0 (State.say s1 a2) := by
  unfold State.say
  try dsimp only
  exact keeps_mk h_1 rfl

theorem prbsErrRead_keeps {s0 a1 s1} (h_1 : Keeps s0 s1) :
    Keeps s0 (prbsErrRead a1 s1).2 := by
  unfold prbsErrRead
  try dsimp only
  exact State.setPrb_keeps h_1

theorem execLaneSlip_keeps {s0 a1 a2 s1} (h_1 : Keeps s0 s1) :
    KeepsO s0 (execLaneSlip a1 a2 s1) := by
  unfold execLaneSlip
  try dsimp only
  exact keepsO_next (keeps_ite (fun _ => laneSlipWrite_keeps h_1) (fun _ => h_1))

theorem execBitslipEn_keeps {s0 a1 a2 s1} (h_1 : Keeps s0 s1) :
    KeepsO s0 (execBitslipEn a1 a2 s1) := by
  unfold execBitslipEn
  try dsimp only
  exact keepsO_next (laneCtlWrite_keeps h_1)

theorem execLoopback_keeps {s0 a1 a2 s1} (h_1 : Keeps s0 s1) :
    KeepsO s0 (execLoopback a1 a2 s1) := by
  unfold execLoopback
  try dsimp only
  exact keepsO_next (laneCtlWrite_keeps h_1)

theorem execGenEn_keeps {s0 a1 a2 s1} (h_1 : Keeps s0 s1) :
    KeepsO s0 (execGenEn a1 a2 s1) := by
  unfold execGenEn
  try dsimp only
  exact keepsO_next (prbsCtlWrite_keeps h_1)

theorem execCntClr_keeps {s0 a1 a2 s1} (h_1 : Keeps s0 s1) :
    KeepsO s0 (execCntClr a1 a2 s1) := by
  unfold execCntClr
  try dsimp only
  exact keepsO_next (prbsCtlWrite_keeps h_1)

theorem execPrbsErrRead_keeps {s0 a1 s1} (h_1 : Keeps s0 s1) :
    KeepsO s0 (execPrbsErrRead a1 s1) := by
  unfold execPrbsErrRead
  try dsimp only
  exact keepsO_next (keeps_ite (fun _ => State.say_keeps (prbsErrRead_keeps h_1)) (fun _ => h_1))

theorem State.sayError_keeps {s0 s1 a2} (h_1 : Keeps s0 s1) :
    Keeps s0 (State.sayError s1 a2) := by
  unfold State.sayError
  try dsimp only
  exact keeps_mk h_1 rfl

theorem State.laneReset_keeps {s0 s1 a2} (h_1 : Keeps s0 s1) :
    Keeps s0 (State.laneReset s1 a2) := by
  unfold State.laneReset
  try dsimp only
  exact State.setFom_keeps (State.setPrb_keeps (State.setLane_keeps h_1))

theorem State.domainRestart_keeps {s0 s1 a2} (h_1 : Keeps s0 s1) :
    Keeps s0 (State.domainRestart s1 a2) := by
  unfold State.domainRestart
  try dsimp only
  exact State.setDomain_keeps (keeps_ite (fun _ => h_1) (fun _ => State.domainState_keeps h_1))

theorem State.placeItem_keeps {s0 s1 a2} (h_1 : Keeps s0 s1) :
    Keeps s0 (State.placeItem s1 a2) := by
  unfold State.placeItem
  try dsimp only
  split
  · exact keeps_ite (fun _ => State.setCluster_keeps h_1) (fun _ => keeps_mk h_1 rfl)
  · exact keeps_mk h_1 rfl

theorem State.feed_keeps {s0 s1} (h_1 : Keeps s0 s1) :
    Keeps s0 (State.feed s1) := by
  unfold State.feed
  try dsimp only
  exact keeps_foldl (fun _ _ h0 => State.placeItem_keeps h0) (keeps_mk h_1 rfl)

theorem State.abandonP_keeps {s0 s1 a2 a3} (h_1 : Keeps s0 s1) :
    Keeps s0 (State.abandonP s1 a2 a3) := by
  unfold State.abandonP
  try dsimp only
  exact State.skipRow_keeps (State.modHead_keeps (keeps_mk (State.removeItems_keeps h_1) rfl))

theorem scanRecords_keeps {s0 s1 a2} (h_1 : Keeps s0 s1) :
    Keeps s0 (scanRecords s1 a2) := by
  unfold scanRecords
  try dsimp only
  exact keeps_foldl (fun _ _ h0 => incCounter_keeps (keeps_ite (fun _ => keeps_mk h0 rfl) (fun _ => keeps_mk h0 rfl))) (keeps_mk h_1 rfl)

theorem execRecordScan_keeps {s0 s1} (h_1 : Keeps s0 s1) :
    KeepsO s0 (execRecordScan s1) := by
  unfold execRecordScan
  try dsimp only
  exact keepsAt_ite (P := KeepsO s0) (fun _ => keepsO_next h_1) (fun _ => keepsO_next (keeps_mk (scanRecords_keeps h_1) rfl))

theorem State.endLeases_keeps {s0 s1 a2} (h_1 : Keeps s0 s1) :
    Keeps s0 (State.endLeases s1 a2) := by
  unfold State.endLeases
  try dsimp only
  exact keeps_foldl (fun _ _ h0 => State.freeLease_keeps h0) h_1

theorem State.freeEngine_keeps {s0 s1 a2} (h_1 : Keeps s0 s1) :
    Keeps s0 (State.freeEngine s1 a2) := by
  unfold State.freeEngine
  try dsimp only
  exact keeps_foldl (fun _ _ h0 => State.setCluster_keeps h0) h_1

theorem State.abortItems_keeps {s0 s1 a2} (h_1 : Keeps s0 s1) :
    Keeps s0 (State.abortItems s1 a2) := by
  unfold State.abortItems
  try dsimp only
  exact keeps_ite (fun _ => h_1) (fun _ => State.mapTiles_keeps (keeps_foldl (fun _ _ h2 => State.freeEngine_keeps h2) h_1))

theorem State.abortHead_keeps {s0 s1 a2} (h_1 : Keeps s0 s1) :
    Keeps s0 (State.abortHead s1 a2) := by
  unfold State.abortHead
  try dsimp only
  exact State.modHead_keeps (State.forgetItems_keeps (State.endProcs_keeps (State.endProcs_keeps (State.removeItems_keeps (keeps_foldl (fun _ _
      h5 => State.dropFrame_keeps h5) (State.abortItems_keeps h_1))))))

theorem State.haltHead_keeps {s0 s1 a2 a3} (h_1 : Keeps s0 s1) :
    Keeps s0 (State.haltHead s1 a2 a3) := by
  unfold State.haltHead
  try dsimp only
  exact State.modHead_keeps (State.endLeases_keeps (State.abortHead_keeps h_1))

theorem State.sendLink_keeps {s0 s1 a2 a3} (h_1 : Keeps s0 s1) :
    Keeps s0 (State.sendLink s1 a2 a3) := by
  unfold State.sendLink
  try dsimp only
  exact State.setDriver_keeps h_1

theorem State.broadcast_keeps {s0 s1 a2 a3 a4} (h_1 : Keeps s0 s1) :
    Keeps s0 (State.broadcast s1 a2 a3 a4) := by
  unfold State.broadcast
  try dsimp only
  exact keeps_foldl (fun _ _ h0 => State.sendLink_keeps h0) h_1

theorem State.drawInt_keeps {s0 s1} (h_1 : Keeps s0 s1) :
    Keeps s0 (State.drawInt s1).2 := by
  unfold State.drawInt
  try dsimp only
  exact keeps_mk h_1 rfl

theorem State.portCount_keeps {s0 s1 a2 a3 a4} (h_1 : Keeps s0 s1) :
    Keeps s0 (State.portCount s1 a2 a3 a4) := by
  unfold State.portCount
  try dsimp only
  exact State.setPort_keeps h_1

theorem State.legActive_keeps {s0 s1 a2 a3 a4} (h_1 : Keeps s0 s1) :
    Keeps s0 (State.legActive s1 a2 a3 a4) := by
  unfold State.legActive
  try dsimp only
  exact keeps_ite (fun _ => h_1) (fun _ => keeps_ite (fun _ => State.post_keeps (State.post_keeps (State.setFlow_keeps h_1))) (fun _ =>
      State.post_keeps (State.setFlow_keeps h_1)))

theorem State.routeSwitch_keeps {s0 s1 a2 a3 a4 a5 a6 a7} (h_1 : Keeps s0 s1) :
    Keeps s0 (State.routeSwitch s1 a2 a3 a4 a5 a6 a7) := by
  unfold State.routeSwitch
  try dsimp only
  exact State.entryApplied_keeps (keeps_ite (fun _ => State.postSwitched_keeps (keeps_ite (fun _ => State.post_keeps (State.setDest_keeps h_1))
      (fun _ => State.setDest_keeps h_1))) (fun _ => State.audioSwitch_keeps (State.postSwitched_keeps (keeps_ite (fun _ => State.post_keeps
      (State.setDest_keeps h_1)) (fun _ => State.setDest_keeps h_1)))))

theorem State.routeDue_keeps {s0 s1 a2 a3 a4 a5 a6} (h_1 : Keeps s0 s1) :
    Keeps s0 (State.routeDue s1 a2 a3 a4 a5 a6) := by
  unfold State.routeDue
  try dsimp only
  exact keeps_ite (fun _ => State.setDest_keeps h_1) (fun _ => State.routeSwitch_keeps h_1)

theorem State.routeApply_keeps {s0 s1 a2 a3 a4} (h_1 : Keeps s0 s1) :
    Keeps s0 (State.routeApply s1 a2 a3 a4) := by
  unfold State.routeApply
  try dsimp only
  split
  · exact State.routeDue_keeps (State.dropDeferred_keeps h_1)
  · exact State.routeAtOnce_keeps h_1

theorem State.routeRetry_keeps {s0 s1 a2 a3} (h_1 : Keeps s0 s1) :
    Keeps s0 (State.routeRetry s1 a2 a3) := by
  unfold State.routeRetry
  try dsimp only
  split
  · exact State.routeDue_keeps h_1
  · exact h_1

theorem State.holdSlots_keeps {s0 s1 a2} (h_1 : Keeps s0 s1) :
    Keeps s0 (State.holdSlots s1 a2) := by
  unfold State.holdSlots
  try dsimp only
  exact keeps_foldl (fun _ _ h0 => State.putSlot_keeps h0) h_1

theorem State.drawWords_keeps {s0 s1 a2} (h_1 : Keeps s0 s1) :
    Keeps s0 (State.drawWords s1 a2).2 := by
  unfold State.drawWords
  try dsimp only
  exact keepsAt_foldl (P := fun x : _ × State => Keeps s0 x.2) (fun _ _ h0 => State.drawNat_keeps h0) h_1

theorem State.checkReads_keeps {s0 s1 a2} (h_1 : Keeps s0 s1) :
    Keeps s0 (State.checkReads s1 a2).2 := by
  unfold State.checkReads
  try dsimp only
  exact keepsAt_ite (P := fun x : _ × State => Keeps s0 x.2) (fun _ => h_1) (fun _ => keepsAt_foldl (P := fun x : _ × State => Keeps s0 x.2)
      (fun _ _ h1 => State.checkWord_keeps h1) h_1)

theorem State.bandLatch_keeps {s0 s1 a2 a3} (h_1 : Keeps s0 s1) :
    Keeps s0 (State.bandLatch s1 a2 a3) := by
  unfold State.bandLatch
  try dsimp only
  exact keeps_ite (fun _ => State.setHead_keeps h_1) (fun _ => State.post_keeps (State.setHead_keeps h_1))

theorem State.copyEnd_keeps {s0 s1 a2} (h_1 : Keeps s0 s1) :
    Keeps s0 (State.copyEnd s1 a2) := by
  unfold State.copyEnd
  try dsimp only
  exact State.modHead_keeps (State.freshBank_keeps h_1)

theorem State.sendBlock_keeps {s0 s1 a2 a3} (h_1 : Keeps s0 s1) :
    Keeps s0 (State.sendBlock s1 a2 a3) := by
  unfold State.sendBlock
  try dsimp only
  exact keeps_mk h_1 rfl

theorem State.changePoint_keeps {s0 s1 a2} (h_1 : Keeps s0 s1) :
    Keeps s0 (State.changePoint s1 a2) := by
  unfold State.changePoint
  try dsimp only
  split
  · exact h_1
  · exact State.setFom_keeps (State.setLane_keeps h_1)

theorem State.linkTimeout_keeps {s0 s1 a2} (h_1 : Keeps s0 s1) :
    Keeps s0 (State.linkTimeout s1 a2) := by
  unfold State.linkTimeout
  try dsimp only
  exact keeps_ite (fun _ => h_1) (fun _ => keeps_ite (fun _ => State.linkTo_keeps h_1) (fun _ => State.setDriver_keeps (State.linkTo_keeps h_1)))

theorem State.configTurn_keeps {s0 s1 a2} (h_1 : Keeps s0 s1) :
    Keeps s0 (State.configTurn s1 a2) := by
  unfold State.configTurn
  try dsimp only
  exact keeps_ite (fun _ => State.setDriver_keeps h_1) (fun _ => h_1)

theorem State.laneReport_keeps {s0 s1 a2 a3 a4} (h_1 : Keeps s0 s1) :
    Keeps s0 (State.laneReport s1 a2 a3 a4) := by
  unfold State.laneReport
  try dsimp only
  exact State.setFom_keeps h_1

theorem State.setRenn_keeps {s0 s1 a2 a3} (h_1 : Keeps s0 s1) :
    Keeps s0 (State.setRenn s1 a2 a3) := by
  unfold State.setRenn
  try dsimp only
  exact keeps_mk h_1 rfl

theorem execEyeSample_keeps {s0 a1 a2 a3 s1} (h_1 : Keeps s0 s1) :
    KeepsO s0 (execEyeSample a1 a2 a3 s1) := by
  unfold execEyeSample
  try dsimp only
  exact keepsO_next (keeps_ite (fun _ => h_1) (fun _ => State.setFom_keeps h_1))

theorem afterCommit_keeps {s0 s1 a2} (h_1 : Keeps s0 s1) :
    Keeps s0 (afterCommit s1 a2) := by
  unfold afterCommit
  try dsimp only
  split
  · exact State.finish_keeps h_1
  · exact keeps_ite (fun _ => State.finish_keeps h_1) (fun _ => keeps_mk h_1 rfl)
  · exact keeps_ite (fun _ => State.finish_keeps h_1) (fun _ => keeps_ite (fun _ => State.finish_keeps (keeps_mk h_1 rfl)) (fun _ =>
        State.finish_keeps (State.logFault_keeps h_1)))
  · exact keeps_ite (fun _ => keeps_mk h_1 rfl) (fun _ => State.logFault_keeps h_1)
  · exact keeps_mk h_1 rfl

theorem programPage_wf {n : Nvs} (w : spWf 0 n.cells = true) : spWf 0 (programPage n) = true :=
  keepsAt_foldl (P := fun c => spWf 0 c = true)
    (fun _ _ w => keepsAt_ite (P := fun c => spWf 0 c = true) (fun _ => writeBytes_wf _ _ w) (fun _ => w)) w

theorem commitEnd_keeps {s0 s1} (h_1 : Keeps s0 s1) : Keeps s0 (commitEnd s1) := by
  unfold commitEnd
  split
  · exact h_1
  · have k : Keeps s0 { s1 with nvs := { s1.nvs with cells := programPage s1.nvs, commit := none, dirty := List.replicate 64 false } } :=
      keeps_to h_1 rfl (fun i => ⟨i.1, programPage_wf i.2.1, i.2.2⟩)
    exact nvsKick_keeps (afterCommit_keeps (keeps_ite (fun _ => rescan_keeps k) (fun _ => k)))

theorem execNvsCommitEnd_keeps {s0 s1} (h_1 : Keeps s0 s1) :
    KeepsO s0 (execNvsCommitEnd s1) := by
  unfold execNvsCommitEnd
  try dsimp only
  exact keepsO_next (commitEnd_keeps h_1)

theorem execCounterIncrement_keeps {s0 a1 s1} (h_1 : Keeps s0 s1) :
    KeepsO s0 (execCounterIncrement a1 s1) := by
  unfold execCounterIncrement
  try dsimp only
  exact keepsO_next (keeps_ite (fun _ => incCounter_keeps h_1) (fun _ => h_1))

theorem State.ackMsg_keeps {s0 s1} (h_1 : Keeps s0 s1) :
    Keeps s0 (State.ackMsg s1) := by
  unfold State.ackMsg
  try dsimp only
  exact State.sendBlock_keeps (keeps_mk h_1 rfl)

theorem execBlockLock_keeps {s0 a1 s1} (h_1 : Keeps s0 s1) :
    KeepsO s0 (execBlockLock a1 s1) := by
  unfold execBlockLock
  try dsimp only
  exact keepsO_next (keeps_ite (fun _ => h_1) (fun _ => State.setFom_keeps (State.setLane_keeps h_1)))

theorem execChkSync_keeps {s0 a1 a2 s1} (h_1 : Keeps s0 s1) :
    KeepsO s0 (execChkSync a1 a2 s1) := by
  unfold execChkSync
  try dsimp only
  exact keepsO_next (keeps_ite (fun _ => h_1) (fun _ => keeps_ite (fun _ => State.setPrb_keeps h_1) (fun _ => keeps_ite (fun _ =>
      State.setPrb_keeps h_1) (fun _ => h_1))))

end Sys2Proof.Machine
end

