-- ==== Sys2Proof/Laws/KeepsCommands.lean ====
section
/-! SUPPORT. Keeps: the commands of the rings. One lemma per operation: the queue is untouched and a sound machine stays sound. -/

namespace Sys2Proof.Machine

open Sys2Proof.Laws Sys2Proof.Safety

theorem execNop_keeps {s0 a1 s1} (h_1 : Keeps s0 s1) :
    KeepsO s0 (execNop a1 s1) := by
  unfold execNop
  try dsimp only
  exact keepsO_next (runRead_keeps h_1)

theorem execGetInfo_keeps {s0 a1 s1} (h_1 : Keeps s0 s1) :
    KeepsO s0 (execGetInfo a1 s1) := by
  unfold execGetInfo
  try dsimp only
  exact keepsO_next (runRead_keeps h_1)

theorem execEventCtl_keeps {s0 a1 a2 a3 a4 a5 s1} (h_1 : Keeps s0 s1) :
    KeepsO s0 (execEventCtl a1 a2 a3 a4 a5 s1) := by
  unfold execEventCtl
  try dsimp only
  exact keepsO_next (runNow_keeps h_1 (fun _ h0 => keeps_mk h0 rfl))

theorem execLogRead_keeps {s0 a1 a2 a3 s1} (h_1 : Keeps s0 s1) :
    KeepsO s0 (execLogRead a1 a2 a3 s1) := by
  unfold execLogRead
  try dsimp only
  exact keepsO_next (runRead_keeps h_1)

theorem execDomainSet_keeps {s0 a1 a2 s1} (h_1 : Keeps s0 s1) :
    KeepsO s0 (execDomainSet a1 a2 s1) := by
  unfold execDomainSet
  try dsimp only
  exact keepsO_next (runNow_keeps h_1 (fun _ h0 => State.setDomain_keeps (State.domainState_keeps (State.setDomain_keeps h0))))

theorem execDomainStatus_keeps {s0 a1 a2 s1} (h_1 : Keeps s0 s1) :
    KeepsO s0 (execDomainStatus a1 a2 s1) := by
  unfold execDomainStatus
  try dsimp only
  exact keepsO_next (runRead_keeps h_1)

theorem execTpConfig_keeps {s0 a1 a2 s1} (h_1 : Keeps s0 s1) : KeepsO s0 (execTpConfig a1 a2 s1) := by
  unfold execTpConfig
  refine keepsO_next ?_
  unfold runNow
  split
  · exact rejectCmd_keeps h_1
  · rename_i e
    refine State.reply_keeps (keeps_to (State.takeNo_keeps h_1) rfl (fun i => ?_))
    obtain ⟨m, n, f, k, _, r⟩ := i
    refine ⟨m, n, f, k, ?_, r⟩
    unfold testCmd at e
    split at e
    · cases e
    · rename_i g
      simp [Checks.served] at g
      unfold timeLegal
      dsimp only
      omega

theorem execTpSelect_keeps {s0 a1 a2 s1} (h_1 : Keeps s0 s1) :
    KeepsO s0 (execTpSelect a1 a2 s1) := by
  unfold execTpSelect
  try dsimp only
  exact keepsO_next (keeps_ite (fun _ => State.switchRefused_keeps (runNow_keeps h_1 (fun _ h2 => State.takeDomain_keeps h2))) (fun _ =>
      runNow_keeps h_1 (fun _ h1 => State.takeDomain_keeps h1)))

theorem execTpStep_keeps {s0 a1 a2 a3 s1} (h_1 : Keeps s0 s1) :
    KeepsO s0 (execTpStep a1 a2 a3 s1) := by
  unfold execTpStep
  try dsimp only
  exact keepsO_next (runNow_keeps h_1 (fun _ h0 => keeps_ite (fun _ => State.forceDomain_keeps h0) (fun _ => State.forceValue_keeps h0)))

theorem execEvtOutSet_keeps {s0 a1 a2 s1} (h_1 : Keeps s0 s1) :
    KeepsO s0 (execEvtOutSet a1 a2 s1) := by
  unfold execEvtOutSet
  try dsimp only
  exact keepsO_next (runNowT_keeps h_1 (fun _ h0 => State.evtOutApply_keeps h0))

theorem execEvtInSet_keeps {s0 a1 a2 a3 a4 a5 s1} (h_1 : Keeps s0 s1) :
    KeepsO s0 (execEvtInSet a1 a2 a3 a4 a5 s1) := by
  unfold execEvtInSet
  try dsimp only
  exact keepsO_next (runNow_keeps h_1 (fun _ h0 => State.setEvtIn_keeps h0))

theorem execEvtInRead_keeps {s0 a1 a2 s1} (h_1 : Keeps s0 s1) :
    KeepsO s0 (execEvtInRead a1 a2 s1) := by
  unfold execEvtInRead
  try dsimp only
  exact keepsO_next (runNow_keeps h_1 (fun _ h0 => State.setEvtIn_keeps h0))

theorem execLaunchCancel_keeps {s0 a1 a2 a3 s1} (h_1 : Keeps s0 s1) :
    KeepsO s0 (execLaunchCancel a1 a2 a3 s1) := by
  unfold execLaunchCancel
  try dsimp only
  exact keepsO_next (runNow_keeps h_1 (fun _ h0 => State.dropEntries_keeps h0))

theorem quadChange_keeps {s0 a1 a2 a3 s1} (h_1 : Keeps s0 s1) :
    Keeps s0 (quadChange a1 a2 a3 s1) := by
  unfold quadChange
  try dsimp only
  exact keeps_ite (fun _ => h_1) (fun _ => keeps_foldl (fun _ _ h1 => State.setLane_keeps h1) (keeps_mk (keeps_foldl (fun _ _ h2 =>
      State.legsOffPort_keeps (State.portDrop_keeps h2)) h_1) rfl))

theorem execQuadSet_keeps {s0 a1 a2 a3 a4 s1} (h_1 : Keeps s0 s1) :
    KeepsO s0 (execQuadSet a1 a2 a3 a4 s1) := by
  unfold execQuadSet
  try dsimp only
  exact keepsO_next (runNow_keeps h_1 (fun _ h0 => quadChange_keeps h0))

theorem execPortSet_keeps {s0 a1 a2 s1} (h_1 : Keeps s0 s1) :
    KeepsO s0 (execPortSet a1 a2 s1) := by
  unfold execPortSet
  try dsimp only
  exact keepsO_next (runNow_keeps h_1 (fun _ h0 => State.setPort_keeps h0))

theorem execPortCounters_keeps {s0 a1 a2 a3 s1} (h_1 : Keeps s0 s1) :
    KeepsO s0 (execPortCounters a1 a2 a3 s1) := by
  unfold execPortCounters
  try dsimp only
  exact keepsO_next (runNow_keeps h_1 (fun _ h0 => keeps_ite (fun _ => State.setPort_keeps h0) (fun _ => h0)))

theorem execPortStatus_keeps {s0 a1 a2 s1} (h_1 : Keeps s0 s1) :
    KeepsO s0 (execPortStatus a1 a2 s1) := by
  unfold execPortStatus
  try dsimp only
  exact keepsO_next (runRead_keeps h_1)

theorem State.freshSlots_keeps {s0 s1 a2 a3} (h_1 : Keeps s0 s1) :
    Keeps s0 (State.freshSlots s1 a2 a3) := by
  unfold State.freshSlots
  try dsimp only
  exact keeps_foldl (fun _ _ h0 => State.putSlot_keeps h0) (State.setFlow_keeps h_1)

theorem flowWrite_keeps {s0 a1 s1} (h_1 : Keeps s0 s1) :
    Keeps s0 (flowWrite a1 s1) := by
  unfold flowWrite
  try dsimp only
  split
  · exact keeps_ite (fun _ => State.freshSlots_keeps (State.setFlow_keeps h_1)) (fun _ => keeps_ite (fun _ => State.putMem_keeps
        (State.setFlow_keeps h_1)) (fun _ => State.setFlow_keeps h_1))
  · exact keeps_ite (fun _ => keeps_ite (fun _ => State.setFlow_keeps h_1) (fun _ => State.freshSlots_keeps (State.setFlow_keeps
        (State.closeAll_keeps h_1)))) (fun _ => keeps_ite (fun _ => State.putMem_keeps (State.setFlow_keeps h_1)) (fun _ => State.setFlow_keeps
        h_1))

theorem execFlowSet_keeps {s0 a1 a2 s1} (h_1 : Keeps s0 s1) :
    KeepsO s0 (execFlowSet a1 a2 s1) := by
  unfold execFlowSet
  try dsimp only
  exact keepsO_next (runNow_keeps h_1 (fun _ h0 => flowWrite_keeps (keeps_ite (fun _ => keeps_foldl (fun _ _ h3 => State.legInactive_keeps h3)
      h0) (fun _ => h0))))

theorem execFlowEnable_keeps {s0 a1 a2 a3 a4 s1} (h_1 : Keeps s0 s1) :
    KeepsO s0 (execFlowEnable a1 a2 a3 a4 s1) := by
  unfold execFlowEnable
  try dsimp only
  exact keepsO_next (runNow_keeps h_1 (fun _ h0 => keepsAt_ite (P := fun x : State × _ => Keeps s0 x.1) (fun _ => State.setFlow_keeps (keeps_ite
      (fun _ => keeps_foldl (fun _ _ h4 => State.legInactive_keeps h4) h0) (fun _ => h0))) (fun _ => State.setTx_keeps h0)))

theorem execFlowCounters_keeps {s0 a1 a2 a3 a4 s1} (h_1 : Keeps s0 s1) :
    KeepsO s0 (execFlowCounters a1 a2 a3 a4 s1) := by
  unfold execFlowCounters
  try dsimp only
  exact keepsO_next (runNow_keeps h_1 (fun _ h0 => keepsAt_ite (P := fun x : State × _ => Keeps s0 x.1) (fun _ => State.setFlow_keeps h0) (fun _
      => State.setTx_keeps h0)))

theorem execFlowStatus_keeps {s0 a1 a2 a3 s1} (h_1 : Keeps s0 s1) :
    KeepsO s0 (execFlowStatus a1 a2 a3 s1) := by
  unfold execFlowStatus
  try dsimp only
  exact keepsO_next (runRead_keeps h_1)

theorem execTxSet_keeps {s0 a1 a2 s1} (h_1 : Keeps s0 s1) :
    KeepsO s0 (execTxSet a1 a2 s1) := by
  unfold execTxSet
  try dsimp only
  exact keepsO_next (runNow_keeps h_1 (fun _ h0 => keeps_ite (fun _ => keeps_mk (State.setTx_keeps h0) rfl) (fun _ => State.setTx_keeps h0)))

theorem execRouteSet_keeps {s0 a1 a2 s1} (h_1 : Keeps s0 s1) :
    KeepsO s0 (execRouteSet a1 a2 s1) := by
  unfold execRouteSet
  try dsimp only
  exact keepsO_next (runBound_keeps h_1 (fun _ _ h0 => State.routeAtOnce_keeps h0))

theorem execOutputSet_keeps {s0 a1 a2 s1} (h_1 : Keeps s0 s1) :
    KeepsO s0 (execOutputSet a1 a2 s1) := by
  unfold execOutputSet
  try dsimp only
  exact keepsO_next (withBuffer_keeps h_1 (fun _ _ h0 => runBound_keeps h0 (fun _ _ h1 => State.entryApplied_keeps (State.outputApply_keeps h1))))

theorem execRouteStatus_keeps {s0 a1 a2 s1} (h_1 : Keeps s0 s1) :
    KeepsO s0 (execRouteStatus a1 a2 s1) := by
  unfold execRouteStatus
  try dsimp only
  exact keepsO_next (runRead_keeps h_1)

theorem execLayerSet_keeps {s0 a1 a2 s1} (h_1 : Keeps s0 s1) :
    KeepsO s0 (execLayerSet a1 a2 s1) := by
  unfold execLayerSet
  try dsimp only
  exact keepsO_next (runBound_keeps h_1 (fun _ _ h0 => State.entryApplied_keeps (State.layerApply_keeps h0)))

theorem execLayerCoef_keeps {s0 a1 a2 a3 a4 a5 s1} (h_1 : Keeps s0 s1) :
    KeepsO s0 (execLayerCoef a1 a2 a3 a4 a5 s1) := by
  unfold execLayerCoef
  try dsimp only
  exact keepsO_next (withBuffer_keeps h_1 (fun _ _ h0 => runBound_keeps h0 (fun _ _ h1 => State.entryApplied_keeps (State.coefApply_keeps h1))))

theorem execLayerPresent_keeps {s0 a1 a2 s1} (h_1 : Keeps s0 s1) :
    KeepsO s0 (execLayerPresent a1 a2 s1) := by
  unfold execLayerPresent
  try dsimp only
  split
  · exact keepsO_next (rejectCmd_keeps h_1)
  · exact keepsO_next (State.reply_keeps (keeps_ite (fun _ => State.entryApplied_keeps (State.presentApply_keeps (State.presentAccept_keeps
        (State.takeNo_keeps h_1)))) (fun _ => State.enqueue_keeps (State.presentAccept_keeps (State.takeNo_keeps h_1)))))

theorem execLeasePolicy_keeps {s0 a1 a2 a3 s1} (h_1 : Keeps s0 s1) :
    KeepsO s0 (execLeasePolicy a1 a2 a3 s1) := by
  unfold execLeasePolicy
  try dsimp only
  exact keepsO_next (runNow_keeps h_1 (fun _ h0 => State.modHead_keeps h0))

theorem execLeaseStatus_keeps {s0 a1 a2 s1} (h_1 : Keeps s0 s1) :
    KeepsO s0 (execLeaseStatus a1 a2 s1) := by
  unfold execLeaseStatus
  try dsimp only
  exact keepsO_next (runRead_keeps h_1)

theorem execAudioAssoc_keeps {s0 a1 a2 a3 a4 s1} (h_1 : Keeps s0 s1) :
    KeepsO s0 (execAudioAssoc a1 a2 a3 a4 s1) := by
  unfold execAudioAssoc
  try dsimp only
  exact keepsO_next (runBound_keeps h_1 (fun _ _ h0 => State.entryApplied_keeps (State.assocApply_keeps h0)))

theorem execAudioHead_keeps {s0 a1 a2 s1} (h_1 : Keeps s0 s1) :
    KeepsO s0 (execAudioHead a1 a2 s1) := by
  unfold execAudioHead
  try dsimp only
  exact keepsO_next (runBound_keeps h_1 (fun _ _ h0 => State.entryApplied_keeps (State.audioHeadApply_keeps h0)))

theorem execAudioTx_keeps {s0 a1 a2 a3 a4 a5 s1} (h_1 : Keeps s0 s1) :
    KeepsO s0 (execAudioTx a1 a2 a3 a4 a5 s1) := by
  unfold execAudioTx
  try dsimp only
  exact keepsO_next (runBound_keeps h_1 (fun _ _ h0 => State.entryApplied_keeps (State.audioTxApply_keeps h0)))

theorem execAudioStatus_keeps {s0 a1 a2 s1} (h_1 : Keeps s0 s1) :
    KeepsO s0 (execAudioStatus a1 a2 s1) := by
  unfold execAudioStatus
  try dsimp only
  exact keepsO_next (runRead_keeps h_1)

theorem execHeadConfig_keeps {s0 a1 a2 s1} (h_1 : Keeps s0 s1) :
    KeepsO s0 (execHeadConfig a1 a2 s1) := by
  unfold execHeadConfig
  try dsimp only
  refine keepsO_next ?_
  split
  · exact runNow_keeps h_1 (fun _ h1 => State.configNow_keeps h1)
  · exact runBound_keeps (keeps_ite (fun _ => keeps_ite (fun _ => State.modHead_keeps (State.replaceTiming_keeps h_1)) (fun _ =>
        State.replaceTiming_keeps h_1)) (fun _ => h_1)) (fun _ _ h1 => h1)

theorem execHeadUnconfig_keeps {s0 a1 a2 s1} (h_1 : Keeps s0 s1) :
    KeepsO s0 (execHeadUnconfig a1 a2 s1) := by
  unfold execHeadUnconfig
  try dsimp only
  exact keepsO_next (runNow_keeps h_1 (fun _ h0 => State.unconfig_keeps h0))

theorem execHeadStart_keeps {s0 a1 a2 s1} (h_1 : Keeps s0 s1) :
    KeepsO s0 (execHeadStart a1 a2 s1) := by
  unfold execHeadStart
  try dsimp only
  exact keepsO_next (runBound_keeps h_1 (fun _ _ h0 => State.entryApplied_keeps (State.startHead_keeps h0)))

theorem State.stopEntry_keeps {s0 s1 a2 a3} (h_1 : Keeps s0 s1) :
    Keeps s0 (State.stopEntry s1 a2 a3) := by
  unfold State.stopEntry
  try dsimp only
  exact State.addProc_keeps (State.stopHead_keeps h_1)

theorem execHeadStop_keeps {s0 a1 a2 s1} (h_1 : Keeps s0 s1) :
    KeepsO s0 (execHeadStop a1 a2 s1) := by
  unfold execHeadStop
  try dsimp only
  exact keepsO_next (runBound_keeps h_1 (fun _ _ h0 => State.stopEntry_keeps h0))

theorem State.enterSr_keeps {s0 s1 a2} (h_1 : Keeps s0 s1) :
    Keeps s0 (State.enterSr s1 a2) := by
  unfold State.enterSr
  try dsimp only
  exact State.post_keeps (State.setHead_keeps h_1)

theorem State.srSettings_keeps {s0 s1 a2} (h_1 : Keeps s0 s1) :
    Keeps s0 (State.srSettings s1 a2) := by
  unfold State.srSettings
  try dsimp only
  exact State.modHead_keeps h_1

theorem State.exitSr_keeps {s0 s1 a2} (h_1 : Keeps s0 s1) :
    Keeps s0 (State.exitSr s1 a2) := by
  unfold State.exitSr
  try dsimp only
  exact State.post_keeps (State.setHead_keeps h_1)

theorem State.srApply_keeps {s0 s1 a2 a3} (h_1 : Keeps s0 s1) :
    Keeps s0 (State.srApply s1 a2 a3) := by
  unfold State.srApply
  try dsimp only
  exact State.entryApplied_keeps (keeps_ite (fun _ => State.enterSr_keeps (State.srSettings_keeps h_1)) (fun _ => keeps_ite (fun _ =>
      State.exitSr_keeps (State.srSettings_keeps h_1)) (fun _ => State.srSettings_keeps h_1)))

theorem execHeadSr_keeps {s0 a1 a2 s1} (h_1 : Keeps s0 s1) :
    KeepsO s0 (execHeadSr a1 a2 s1) := by
  unfold execHeadSr
  try dsimp only
  exact keepsO_next (runBound_keeps h_1 (fun _ _ h0 => State.srApply_keeps h0))

theorem execHeadPicture_keeps {s0 a1 a2 s1} (h_1 : Keeps s0 s1) :
    KeepsO s0 (execHeadPicture a1 a2 s1) := by
  unfold execHeadPicture
  try dsimp only
  exact keepsO_next (withBuffer_keeps h_1 (fun _ _ h0 => runBound_keeps h0 (fun _ _ h1 => State.entryApplied_keeps (State.pictureApply_keeps h1))))

theorem execHeadGate_keeps {s0 a1 a2 s1} (h_1 : Keeps s0 s1) :
    KeepsO s0 (execHeadGate a1 a2 s1) := by
  unfold execHeadGate
  try dsimp only
  exact keepsO_next (runNow_keeps h_1 (fun _ h0 => State.modHead_keeps h0))

theorem execWarmupEnd_keeps {s0 a1 a2 s1} (h_1 : Keeps s0 s1) :
    KeepsO s0 (execWarmupEnd a1 a2 s1) := by
  unfold execWarmupEnd
  try dsimp only
  exact keepsO_next (runProc_keeps h_1 (fun _ _ h0 => State.addProc_keeps (State.modHead_keeps h0)))

theorem execHeadStatus_keeps {s0 a1 a2 s1} (h_1 : Keeps s0 s1) :
    KeepsO s0 (execHeadStatus a1 a2 s1) := by
  unfold execHeadStatus
  try dsimp only
  exact keepsO_next (runRead_keeps h_1)

theorem State.unqueue_keeps {s0 s1 a2} (h_1 : Keeps s0 s1) :
    Keeps s0 (State.unqueue s1 a2) := by
  unfold State.unqueue
  try dsimp only
  exact keeps_mk h_1 rfl

theorem State.setCheck_keeps {s0 s1 a2 a3 a4} (h_1 : Keeps s0 s1) :
    Keeps s0 (State.setCheck s1 a2 a3 a4) := by
  unfold State.setCheck
  try dsimp only
  exact State.modHead_keeps h_1

theorem State.checkApply_keeps {s0 s1 a2} (h_1 : Keeps s0 s1) :
    Keeps s0 (State.checkApply s1 a2) := by
  unfold State.checkApply
  try dsimp only
  exact State.setCheck_keeps h_1

theorem State.applyIdle_keeps {s0 s1 a2} (h_1 : Keeps s0 s1) :
    Keeps s0 (State.applyIdle s1 a2) := by
  unfold State.applyIdle
  try dsimp only
  split
  · exact State.routeAtOnce_keeps (State.unqueue_keeps h_1)
  · exact State.entryApplied_keeps (State.layerApply_keeps (State.unqueue_keeps h_1))
  · exact State.entryApplied_keeps (State.coefApply_keeps (State.unqueue_keeps h_1))
  · exact State.entryApplied_keeps (State.presentApply_keeps (State.unqueue_keeps h_1))
  · exact State.entryApplied_keeps (State.pictureApply_keeps (State.unqueue_keeps h_1))
  · exact State.entryApplied_keeps (State.audioHeadApply_keeps (State.unqueue_keeps h_1))
  · exact State.entryApplied_keeps (State.checkApply_keeps (State.unqueue_keeps h_1))
  · exact State.srApply_keeps (State.unqueue_keeps h_1)
  · exact keeps_ite (fun _ => State.stopEntry_keeps (State.unqueue_keeps h_1)) (fun _ => State.dropped_keeps (State.unqueue_keeps h_1))
  · exact keeps_ite (fun _ => State.entryApplied_keeps (State.startHead_keeps (State.unqueue_keeps h_1))) (fun _ => State.dropped_keeps
        (State.unqueue_keeps h_1))
  · exact State.entryApplied_keeps (State.activateNow_keeps (State.unqueue_keeps h_1))
  · exact State.entryApplied_keeps (State.muraApply_keeps (State.unqueue_keeps h_1))
  · exact State.entryApplied_keeps (State.ledgerApply_keeps (State.unqueue_keeps h_1))
  · exact State.entryApplied_keeps (State.clearApply_keeps (State.unqueue_keeps h_1))
  · exact State.entryApplied_keeps (State.vcomIdle_keeps (State.unqueue_keeps h_1))
  · exact State.entryApplied_keeps (State.viewsNow_keeps (State.unqueue_keeps h_1))
  · exact State.entryApplied_keeps (State.viewsNow_keeps (State.unqueue_keeps h_1))
  · exact State.entryApplied_keeps (State.outputApply_keeps (State.unqueue_keeps h_1))
  · exact State.entryApplied_keeps (State.audioTxApply_keeps (State.unqueue_keeps h_1))
  · exact State.entryApplied_keeps (State.evtOutApply_keeps (State.unqueue_keeps h_1))
  · exact State.dropped_keeps (State.unqueue_keeps h_1)

theorem State.applyParked_keeps {s0 s1 a2} (h_1 : Keeps s0 s1) :
    Keeps s0 (State.applyParked s1 a2) := by
  unfold State.applyParked
  try dsimp only
  exact keeps_foldl (fun _ _ h0 => State.applyIdle_keeps h0) h_1

theorem execPowerSeqSet_keeps {s0 a1 a2 s1} (h_1 : Keeps s0 s1) :
    KeepsO s0 (execPowerSeqSet a1 a2 s1) := by
  unfold execPowerSeqSet
  try dsimp only
  exact keepsO_next (runNow_keeps h_1 (fun _ h0 => State.modHead_keeps h0))

theorem State.driverStore_keeps {s0 s1 a2} (h_1 : Keeps s0 s1) :
    Keeps s0 (State.driverStore s1 a2) := by
  unfold State.driverStore
  try dsimp only
  exact State.setDriver_keeps h_1

theorem execDriverSet_keeps {s0 a1 a2 s1} (h_1 : Keeps s0 s1) :
    KeepsO s0 (execDriverSet a1 a2 s1) := by
  unfold execDriverSet
  try dsimp only
  exact keepsO_next (runNow_keeps h_1 (fun _ h0 => State.driverStore_keeps h0))

theorem execDriverRetrain_keeps {s0 a1 a2 s1} (h_1 : Keeps s0 s1) :
    KeepsO s0 (execDriverRetrain a1 a2 s1) := by
  unfold execDriverRetrain
  try dsimp only
  exact keepsO_next (runProc_keeps h_1 (fun _ _ h0 => State.addProc_keeps (State.linkTrain_keeps h0)))

theorem afterCopy_keeps {s0 a1 a2 a3 a4 s1 a6} (h_1 : Keeps s0 s1) (h_a6 : ∀ y1, Keeps s0 y1 → Keeps s0 (a6 y1)) :
    Keeps s0 (afterCopy a1 a2 a3 a4 s1 a6) := by
  unfold afterCopy
  try dsimp only
  exact keeps_ite (fun _ => runLater_keeps h_1 (fun _ _ h1 => State.addRunning_keeps h1)) (fun _ => h_a6 _ h_1)

theorem execTableLoad_keeps {s0 a1 a2 a3 a4 a5 s1} (h_1 : Keeps s0 s1) :
    KeepsO s0 (execTableLoad a1 a2 a3 a4 a5 s1) := by
  unfold execTableLoad
  try dsimp only
  exact keepsO_next (withBuffer_keeps h_1 (fun _ _ h0 => keeps_ite (fun _ => runNow_keeps h0 (fun _ h2 => h2)) (fun _ => afterCopy_keeps h0 (fun
      _ h2 => runNow_keeps h2 (fun _ h3 => State.tableLoad_keeps h3)))))

theorem execSettingsLoad_keeps {s0 a1 a2 s1} (h_1 : Keeps s0 s1) :
    KeepsO s0 (execSettingsLoad a1 a2 s1) := by
  unfold execSettingsLoad
  try dsimp only
  exact keepsO_next (keeps_ite (fun _ => runNow_keeps h_1 (fun _ h1 => h1)) (fun _ => afterCopy_keeps h_1 (fun _ h1 => runNow_keeps h1 (fun _ h2
      => State.modHead_keeps h2))))

theorem execActivate_keeps {s0 a1 a2 s1} (h_1 : Keeps s0 s1) :
    KeepsO s0 (execActivate a1 a2 s1) := by
  unfold execActivate
  try dsimp only
  exact keepsO_next (runBound_keeps h_1 (fun _ _ h0 => State.entryApplied_keeps (State.activateNow_keeps h0)))

theorem execMuraSwap_keeps {s0 a1 a2 a3 s1} (h_1 : Keeps s0 s1) :
    KeepsO s0 (execMuraSwap a1 a2 a3 s1) := by
  unfold execMuraSwap
  try dsimp only
  exact keepsO_next (runBound_keeps h_1 (fun _ _ h0 => State.entryApplied_keeps (State.muraApply_keeps h0)))

theorem execPanelStatus_keeps {s0 a1 a2 s1} (h_1 : Keeps s0 s1) :
    KeepsO s0 (execPanelStatus a1 a2 s1) := by
  unfold execPanelStatus
  try dsimp only
  exact keepsO_next (runRead_keeps h_1)

theorem execVcomSet_keeps {s0 a1 a2 s1} (h_1 : Keeps s0 s1) :
    KeepsO s0 (execVcomSet a1 a2 s1) := by
  unfold execVcomSet
  try dsimp only
  exact keepsO_next (runBound_keeps h_1 (fun _ _ h0 => State.entryApplied_keeps (State.vcomIdle_keeps h0)))

theorem execLedgerSet_keeps {s0 a1 a2 a3 a4 a5 s1} (h_1 : Keeps s0 s1) :
    KeepsO s0 (execLedgerSet a1 a2 a3 a4 a5 s1) := by
  unfold execLedgerSet
  try dsimp only
  exact keepsO_next (runBound_keeps h_1 (fun _ _ h0 => State.entryApplied_keeps (State.ledgerApply_keeps h0)))

theorem execLedgerStats_keeps {s0 a1 a2 s1} (h_1 : Keeps s0 s1) :
    KeepsO s0 (execLedgerStats a1 a2 s1) := by
  unfold execLedgerStats
  try dsimp only
  exact keepsO_next (runRead_keeps h_1)

theorem execLedgerSnapshot_keeps {s0 a1 a2 a3 a4 a5 s1} (h_1 : Keeps s0 s1) :
    KeepsO s0 (execLedgerSnapshot a1 a2 a3 a4 a5 s1) := by
  unfold execLedgerSnapshot
  try dsimp only
  exact keepsO_next (runProc_keeps h_1 (fun _ _ h0 => State.addProc_keeps h0))

theorem execLedgerTableRead_keeps {s0 a1 a2 a3 a4 a5 a6 s1} (h_1 : Keeps s0 s1) :
    KeepsO s0 (execLedgerTableRead a1 a2 a3 a4 a5 a6 s1) := by
  unfold execLedgerTableRead
  try dsimp only
  refine keepsO_next ?_
  refine withStore_keeps h_1 (fun _ h0 => ?_)
  split
  · exact runNow_keeps h0 (fun _ h2 => h2)
  · exact keeps_ite (fun _ => State.failCmd_keeps (State.readMem_keeps h0)) (fun _ => runNow_keeps (State.readMem_keeps h0) (fun _ h3 =>
        State.guardedWrite_keeps h3))

theorem execLedgerClear_keeps {s0 a1 a2 s1} (h_1 : Keeps s0 s1) :
    KeepsO s0 (execLedgerClear a1 a2 s1) := by
  unfold execLedgerClear
  try dsimp only
  exact keepsO_next (runBound_keeps h_1 (fun _ _ h0 => State.entryApplied_keeps (State.clearApply_keeps h0)))

theorem runViews_keeps {s0 a1 a2 a3 a4 a5 a6 a7 a8 s1} (h_1 : Keeps s0 s1) :
    Keeps s0 (runViews a1 a2 a3 a4 a5 a6 a7 a8 s1) := by
  unfold runViews
  try dsimp only
  exact runBound_keeps (keeps_ite (fun _ => State.replaceTiming_keeps h_1) (fun _ => h_1)) (fun _ _ h0 => State.entryApplied_keeps
      (State.viewsNow_keeps h0))

theorem execViewSet_keeps {s0 a1 a2 s1} (h_1 : Keeps s0 s1) :
    KeepsO s0 (execViewSet a1 a2 s1) := by
  unfold execViewSet
  try dsimp only
  exact keepsO_next (runViews_keeps h_1)

theorem execViewClear_keeps {s0 a1 a2 a3 s1} (h_1 : Keeps s0 s1) :
    KeepsO s0 (execViewClear a1 a2 a3 s1) := by
  unfold execViewClear
  try dsimp only
  exact keepsO_next (runViews_keeps h_1)

theorem execViewTest_keeps {s0 a1 a2 s1} (h_1 : Keeps s0 s1) :
    KeepsO s0 (execViewTest a1 a2 s1) := by
  unfold execViewTest
  try dsimp only
  refine keepsO_next ?_
  split
  · exact rejectCmd_keeps h_1
  · exact State.reply_keeps (State.takeNo_keeps h_1)

theorem execCheckSet_keeps {s0 a1 a2 s1} (h_1 : Keeps s0 s1) :
    KeepsO s0 (execCheckSet a1 a2 s1) := by
  unfold execCheckSet
  try dsimp only
  exact keepsO_next (runBound_keeps h_1 (fun _ _ h0 => State.entryApplied_keeps (State.checkApply_keeps h0)))

theorem execCheckRead_keeps {s0 a1 a2 a3 s1} (h_1 : Keeps s0 s1) :
    KeepsO s0 (execCheckRead a1 a2 a3 s1) := by
  unfold execCheckRead
  try dsimp only
  exact keepsO_next (runRead_keeps h_1)

theorem execLaunchEntryDue_keeps {s0 a1 s1} (h_1 : Keeps s0 s1) :
    KeepsO s0 (execLaunchEntryDue a1 s1) := by
  unfold execLaunchEntryDue
  try dsimp only
  exact keepsO_next (keeps_ite (fun _ => keeps_foldl (fun _ _ h1 => State.applyIdle_keeps h1) h_1) (fun _ => h_1))

theorem State.applyAt_keeps {s0 s1 a2 a3} (h_1 : Keeps s0 s1) :
    Keeps s0 (State.applyAt s1 a2 a3) := by
  unfold State.applyAt
  try dsimp only
  split
  · exact State.routeApply_keeps (State.unqueue_keeps h_1)
  · exact State.entryApplied_keeps (State.layerApply_keeps (State.unqueue_keeps h_1))
  · exact State.entryApplied_keeps (State.coefApply_keeps (State.unqueue_keeps h_1))
  · exact State.entryApplied_keeps (State.presentApply_keeps (State.unqueue_keeps h_1))
  · exact State.entryApplied_keeps (State.pictureApply_keeps (State.unqueue_keeps h_1))
  · exact State.entryApplied_keeps (State.audioHeadApply_keeps (State.unqueue_keeps h_1))
  · exact State.entryApplied_keeps (State.checkApply_keeps (State.unqueue_keeps h_1))
  · exact State.srApply_keeps (State.unqueue_keeps h_1)
  · exact keeps_ite (fun _ => State.stopEntry_keeps (State.unqueue_keeps h_1)) (fun _ => State.dropped_keeps (State.unqueue_keeps h_1))
  · exact State.entryApplied_keeps (State.outputApply_keeps (State.unqueue_keeps h_1))
  · exact State.entryApplied_keeps (State.audioTxApply_keeps (State.unqueue_keeps h_1))
  · exact State.unqueue_keeps h_1

theorem State.applyOutput_keeps {s0 s1 a2 a3} (h_1 : Keeps s0 s1) :
    Keeps s0 (State.applyOutput s1 a2 a3) := by
  unfold State.applyOutput
  try dsimp only
  exact keeps_foldl (fun _ _ h0 => State.applyAt_keeps h0) h_1

theorem State.assignFrames_keeps {s0 s1 a2 a3 a4 a5} (h_1 : Keeps s0 s1) :
    Keeps s0 (State.assignFrames s1 a2 a3 a4 a5) := by
  unfold State.assignFrames
  try dsimp only
  exact keeps_mk h_1 rfl

theorem State.applyHead_keeps {s0 s1 a2 a3} (h_1 : Keeps s0 s1) :
    Keeps s0 (State.applyHead s1 a2 a3) := by
  unfold State.applyHead
  try dsimp only
  exact keeps_foldl (fun _ _ h0 => State.applyAt_keeps h0) (State.assignFrames_keeps h_1)

end Sys2Proof.Machine
end

