-- ==== Sys2Proof/Laws/KeepsFrames.lean ====
section
/-! SUPPORT. Keeps: composition, tiles, panel rows, latch, scan, drivers. One lemma per operation: the queue is untouched and a sound machine stays sound. -/

namespace Sys2Proof.Machine

open Sys2Proof.Laws Sys2Proof.Safety

theorem State.endOutShot_keeps {s0 s1 a2 a3} (h_1 : Keeps s0 s1) :
    Keeps s0 (State.endOutShot s1 a2 a3) := by
  unfold State.endOutShot
  try dsimp only
  exact keeps_mk (keeps_foldl (fun _ _ h0 => State.releaseHeld_keeps h0) h_1) rfl

theorem State.abandonT_keeps {s0 s1 a2 a3} (h_1 : Keeps s0 s1) :
    Keeps s0 (State.abandonT s1 a2 a3) := by
  unfold State.abandonT
  try dsimp only
  split
  · exact h_1
  · exact State.endOutShot_keeps (keeps_mk (State.setOutput_keeps (State.removeItems_keeps h_1)) rfl)

theorem State.thermTake_keeps {s0 s1 a2 a3} (h_1 : Keeps s0 s1) :
    Keeps s0 (State.thermTake s1 a2 a3) := by
  unfold State.thermTake
  try dsimp only
  exact keeps_ite (fun _ => keeps_ite (fun _ => State.post_keeps (State.setHead_keeps h_1)) (fun _ => State.setHead_keeps h_1)) (fun _ =>
      keeps_ite (fun _ => State.post_keeps (State.setHead_keeps h_1)) (fun _ => State.setHead_keeps h_1))

theorem State.putSample_keeps {s0 s1 a2 a3 a4 a5 a6} (h_1 : Keeps s0 s1) :
    Keeps s0 (State.putSample s1 a2 a3 a4 a5 a6) := by
  unfold State.putSample
  try dsimp only
  exact State.putMem_keeps h_1

theorem State.followPlan_keeps {s0 s1 a2 a3} (h_1 : Keeps s0 s1) :
    Keeps s0 (State.followPlan s1 a2 a3) := by
  unfold State.followPlan
  try dsimp only
  split
  · exact h_1
  · exact keeps_ite (fun _ => h_1) (fun _ => keeps_ite (fun _ => State.setHead_keeps h_1) (fun _ => keeps_ite (fun _ => State.setHead_keeps h_1)
        (fun _ => State.setHead_keeps h_1)))

theorem State.layerFault_keeps {s0 s1 a2 a3 a4} (h_1 : Keeps s0 s1) :
    Keeps s0 (State.layerFault s1 a2 a3 a4) := by
  unfold State.layerFault
  try dsimp only
  refine keeps_ite (fun _ => ?_) (fun _ => keeps_ite (fun _ => h_1) (fun _ => State.post_keeps (State.setDest_keeps h_1)))
  split
  · exact keeps_ite (fun _ => h_1) (fun _ => State.post_keeps (State.setLayer_keeps h_1))
  · exact h_1

theorem State.layerFrame_keeps {s0 s1 a2 a3 a4} (h_1 : Keeps s0 s1) :
    Keeps s0 (State.layerFrame s1 a2 a3 a4).2 := by
  unfold State.layerFrame
  try dsimp only
  split
  · refine keeps_ite (fun _ => ?_) (fun _ => ?_)
    · refine State.layerFault_keeps ?_
      refine keeps_ite (fun _ => ?_) (fun _ => ?_)
      · refine State.layerFault_keeps ?_
        refine State.setDest_keeps ?_
        split
        · exact keepsAt_ite (P := fun x : _ × State => Keeps s0 x.2) (fun _ => keeps_ite (fun _ => keeps_mk (State.setDest_keeps
              (keepsAt_ite (P := fun x : _ × State => Keeps s0 x.2) (fun _ => keeps_ite (fun _ => keeps_mk (State.setDest_keeps h_1) rfl)
              (fun _ => State.setDest_keeps h_1)) (fun _ => h_1))) rfl) (fun _ => State.setDest_keeps (keepsAt_ite (P := fun x : _ × State
              => Keeps s0 x.2) (fun _ => keeps_ite (fun _ => keeps_mk (State.setDest_keeps h_1) rfl) (fun _ => State.setDest_keeps h_1))
              (fun _ => h_1)))) (fun _ => keepsAt_ite (P := fun x : _ × State => Keeps s0 x.2) (fun _ => keeps_ite (fun _ => keeps_mk
              (State.setDest_keeps h_1) rfl) (fun _ => State.setDest_keeps h_1)) (fun _ => h_1))
        · exact keepsAt_ite (P := fun x : _ × State => Keeps s0 x.2) (fun _ => keeps_ite (fun _ => keeps_mk (State.setDest_keeps h_1) rfl)
              (fun _ => State.setDest_keeps h_1)) (fun _ => h_1)
      · refine State.setDest_keeps ?_
        split
        · exact keepsAt_ite (P := fun x : _ × State => Keeps s0 x.2) (fun _ => keeps_ite (fun _ => keeps_mk (State.setDest_keeps
              (keepsAt_ite (P := fun x : _ × State => Keeps s0 x.2) (fun _ => keeps_ite (fun _ => keeps_mk (State.setDest_keeps h_1) rfl)
              (fun _ => State.setDest_keeps h_1)) (fun _ => h_1))) rfl) (fun _ => State.setDest_keeps (keepsAt_ite (P := fun x : _ × State
              => Keeps s0 x.2) (fun _ => keeps_ite (fun _ => keeps_mk (State.setDest_keeps h_1) rfl) (fun _ => State.setDest_keeps h_1))
              (fun _ => h_1)))) (fun _ => keepsAt_ite (P := fun x : _ × State => Keeps s0 x.2) (fun _ => keeps_ite (fun _ => keeps_mk
              (State.setDest_keeps h_1) rfl) (fun _ => State.setDest_keeps h_1)) (fun _ => h_1))
        · exact keepsAt_ite (P := fun x : _ × State => Keeps s0 x.2) (fun _ => keeps_ite (fun _ => keeps_mk (State.setDest_keeps h_1) rfl)
              (fun _ => State.setDest_keeps h_1)) (fun _ => h_1)
    · refine keeps_ite (fun _ => ?_) (fun _ => ?_)
      · refine State.layerFault_keeps ?_
        refine State.setDest_keeps ?_
        split
        · exact keepsAt_ite (P := fun x : _ × State => Keeps s0 x.2) (fun _ => keeps_ite (fun _ => keeps_mk (State.setDest_keeps
              (keepsAt_ite (P := fun x : _ × State => Keeps s0 x.2) (fun _ => keeps_ite (fun _ => keeps_mk (State.setDest_keeps h_1) rfl)
              (fun _ => State.setDest_keeps h_1)) (fun _ => h_1))) rfl) (fun _ => State.setDest_keeps (keepsAt_ite (P := fun x : _ × State
              => Keeps s0 x.2) (fun _ => keeps_ite (fun _ => keeps_mk (State.setDest_keeps h_1) rfl) (fun _ => State.setDest_keeps h_1))
              (fun _ => h_1)))) (fun _ => keepsAt_ite (P := fun x : _ × State => Keeps s0 x.2) (fun _ => keeps_ite (fun _ => keeps_mk
              (State.setDest_keeps h_1) rfl) (fun _ => State.setDest_keeps h_1)) (fun _ => h_1))
        · exact keepsAt_ite (P := fun x : _ × State => Keeps s0 x.2) (fun _ => keeps_ite (fun _ => keeps_mk (State.setDest_keeps h_1) rfl)
              (fun _ => State.setDest_keeps h_1)) (fun _ => h_1)
      · refine State.setDest_keeps ?_
        split
        · exact keepsAt_ite (P := fun x : _ × State => Keeps s0 x.2) (fun _ => keeps_ite (fun _ => keeps_mk (State.setDest_keeps
              (keepsAt_ite (P := fun x : _ × State => Keeps s0 x.2) (fun _ => keeps_ite (fun _ => keeps_mk (State.setDest_keeps h_1) rfl)
              (fun _ => State.setDest_keeps h_1)) (fun _ => h_1))) rfl) (fun _ => State.setDest_keeps (keepsAt_ite (P := fun x : _ × State
              => Keeps s0 x.2) (fun _ => keeps_ite (fun _ => keeps_mk (State.setDest_keeps h_1) rfl) (fun _ => State.setDest_keeps h_1))
              (fun _ => h_1)))) (fun _ => keepsAt_ite (P := fun x : _ × State => Keeps s0 x.2) (fun _ => keeps_ite (fun _ => keeps_mk
              (State.setDest_keeps h_1) rfl) (fun _ => State.setDest_keeps h_1)) (fun _ => h_1))
        · exact keepsAt_ite (P := fun x : _ × State => Keeps s0 x.2) (fun _ => keeps_ite (fun _ => keeps_mk (State.setDest_keeps h_1) rfl)
              (fun _ => State.setDest_keeps h_1)) (fun _ => h_1)
  · refine keeps_ite (fun _ => ?_) (fun _ => ?_)
    · refine State.layerFault_keeps ?_
      refine State.setDest_keeps ?_
      split
      · exact keepsAt_ite (P := fun x : _ × State => Keeps s0 x.2) (fun _ => keeps_ite (fun _ => keeps_mk (State.setDest_keeps (keepsAt_ite
            (P := fun x : _ × State => Keeps s0 x.2) (fun _ => keeps_ite (fun _ => keeps_mk (State.setDest_keeps h_1) rfl) (fun _ =>
            State.setDest_keeps h_1)) (fun _ => h_1))) rfl) (fun _ => State.setDest_keeps (keepsAt_ite (P := fun x : _ × State => Keeps s0
            x.2) (fun _ => keeps_ite (fun _ => keeps_mk (State.setDest_keeps h_1) rfl) (fun _ => State.setDest_keeps h_1)) (fun _ => h_1))))
            (fun _ => keepsAt_ite (P := fun x : _ × State => Keeps s0 x.2) (fun _ => keeps_ite (fun _ => keeps_mk (State.setDest_keeps h_1)
            rfl) (fun _ => State.setDest_keeps h_1)) (fun _ => h_1))
      · exact keepsAt_ite (P := fun x : _ × State => Keeps s0 x.2) (fun _ => keeps_ite (fun _ => keeps_mk (State.setDest_keeps h_1) rfl)
            (fun _ => State.setDest_keeps h_1)) (fun _ => h_1)
    · refine State.setDest_keeps ?_
      split
      · exact keepsAt_ite (P := fun x : _ × State => Keeps s0 x.2) (fun _ => keeps_ite (fun _ => keeps_mk (State.setDest_keeps (keepsAt_ite
            (P := fun x : _ × State => Keeps s0 x.2) (fun _ => keeps_ite (fun _ => keeps_mk (State.setDest_keeps h_1) rfl) (fun _ =>
            State.setDest_keeps h_1)) (fun _ => h_1))) rfl) (fun _ => State.setDest_keeps (keepsAt_ite (P := fun x : _ × State => Keeps s0
            x.2) (fun _ => keeps_ite (fun _ => keeps_mk (State.setDest_keeps h_1) rfl) (fun _ => State.setDest_keeps h_1)) (fun _ => h_1))))
            (fun _ => keepsAt_ite (P := fun x : _ × State => Keeps s0 x.2) (fun _ => keeps_ite (fun _ => keeps_mk (State.setDest_keeps h_1)
            rfl) (fun _ => State.setDest_keeps h_1)) (fun _ => h_1))
      · exact keepsAt_ite (P := fun x : _ × State => Keeps s0 x.2) (fun _ => keeps_ite (fun _ => keeps_mk (State.setDest_keeps h_1) rfl)
            (fun _ => State.setDest_keeps h_1)) (fun _ => h_1)

theorem State.composeOutput_keeps {s0 s1 a2} (h_1 : Keeps s0 s1) :
    Keeps s0 (State.composeOutput s1 a2) := by
  unfold State.composeOutput
  try dsimp only
  refine keeps_ite (fun _ => h_1) (fun _ => ?_)
  split
  · exact State.applyOutput_keeps (State.routeRetry_keeps h_1)
  · exact keeps_ite (fun _ => State.applyOutput_keeps (State.routeRetry_keeps h_1)) (fun _ => keeps_mk (State.setOutput_keeps
        (State.holdSlots_keeps (State.layerFrame_keeps (State.applyOutput_keeps (State.routeRetry_keeps h_1))))) rfl)

theorem State.pruneC_keeps {s0 s1 a2} (h_1 : Keeps s0 s1) :
    Keeps s0 (State.pruneC s1 a2) := by
  unfold State.pruneC
  try dsimp only
  exact State.removeItems_keeps h_1

theorem State.markPresents_keeps {s0 s1 a2 a3} (h_1 : Keeps s0 s1) :
    Keeps s0 (State.markPresents s1 a2 a3) := by
  unfold State.markPresents
  try dsimp only
  refine keeps_foldl (fun _ _ h0 => ?_) h_1
  split
  · exact keeps_ite (fun _ => State.setLayer_keeps h0) (fun _ => h0)
  · exact h0

theorem State.postTiles_keeps {s0 s1 a2 a3 a4} (h_1 : Keeps s0 s1) :
    Keeps s0 (State.postTiles s1 a2 a3 a4) := by
  unfold State.postTiles
  try dsimp only
  exact keeps_foldl (fun _ _ h0 => keeps_foldl (fun _ _ h1 => State.modHead_keeps (State.setTile_keeps h1)) h0) h_1

theorem State.useLeases_keeps {s0 s1 a2 a3 a4} (h_1 : Keeps s0 s1) :
    Keeps s0 (State.useLeases s1 a2 a3 a4) := by
  unfold State.useLeases
  try dsimp only
  exact keeps_mk h_1 rfl

theorem State.composeFrame_keeps {s0 s1 a2 a3} (h_1 : Keeps s0 s1) :
    Keeps s0 (State.composeFrame s1 a2 a3) := by
  unfold State.composeFrame
  try dsimp only
  exact State.retire_keeps (State.pruneC_keeps (State.markPresents_keeps (keeps_foldl (fun _ _ h3 => State.postTiles_keeps (State.modHead_keeps
      (State.useLeases_keeps (State.holdSlots_keeps h3)))) (keeps_ite (fun _ => State.sendMsg_keeps (keepsAt_foldl (P := fun x : _ × State =>
      Keeps s0 x.2) (fun _ _ h6 => State.layerFrame_keeps h6) h_1)) (fun _ => keepsAt_foldl (P := fun x : _ × State => Keeps s0 x.2) (fun _ _ h5
      => State.layerFrame_keeps h5) h_1)))))

theorem State.composeHead_keeps {s0 s1 a2} (h_1 : Keeps s0 s1) :
    Keeps s0 (State.composeHead s1 a2) := by
  unfold State.composeHead
  try dsimp only
  exact keeps_ite (fun _ => h_1) (fun _ => keeps_ite (fun _ => State.applyHead_keeps (keeps_ite (fun _ => keeps_foldl (fun _ _ h4 =>
      State.routeRetry_keeps h4) h_1) (fun _ => h_1))) (fun _ => State.modHead_keeps (keeps_mk (keeps_ite (fun _ => State.composeFrame_keeps
      (State.applyHead_keeps (keeps_ite (fun _ => keeps_foldl (fun _ _ h7 => State.routeRetry_keeps h7) h_1) (fun _ => h_1)))) (fun _ =>
      State.applyHead_keeps (keeps_ite (fun _ => keeps_foldl (fun _ _ h6 => State.routeRetry_keeps h6) h_1) (fun _ => h_1)))) rfl)))

theorem execCompositionStart_keeps {s0 a1 s1} (h_1 : Keeps s0 s1) :
    KeepsO s0 (execCompositionStart a1 s1) := by
  unfold execCompositionStart
  try dsimp only
  exact keepsO_next (keeps_ite (fun _ => h_1) (fun _ => keeps_ite (fun _ => State.composeOutput_keeps h_1) (fun _ => keeps_ite (fun _ =>
      keeps_mk h_1 rfl) (fun _ => State.composeHead_keeps h_1))))

theorem execLossHoldEnd_keeps {s0 a1 s1} (h_1 : Keeps s0 s1) :
    KeepsO s0 (execLossHoldEnd a1 s1) := by
  unfold execLossHoldEnd
  try dsimp only
  exact keepsO_next (keeps_ite (fun _ => State.setDest_keeps h_1) (fun _ => h_1))

theorem execItemRelease_keeps {s0 a1 s1} (h_1 : Keeps s0 s1) :
    KeepsO s0 (execItemRelease a1 s1) := by
  unfold execItemRelease
  try dsimp only
  refine keepsO_next ?_
  split
  · exact keeps_ite (fun _ => State.placeItem_keeps h_1) (fun _ => h_1)
  · exact keeps_ite (fun _ => State.placeItem_keeps h_1) (fun _ => h_1)
  · exact keeps_ite (fun _ => State.placeItem_keeps h_1) (fun _ => h_1)

theorem execPItemLatestStart_keeps {s0 a1 s1} (h_1 : Keeps s0 s1) :
    KeepsO s0 (execPItemLatestStart a1 s1) := by
  unfold execPItemLatestStart
  try dsimp only
  exact keepsO_next (keeps_ite (fun _ => h_1) (fun _ => keeps_ite (fun _ => State.abandonP_keeps h_1) (fun _ => State.placeItem_keeps (keeps_ite
      (fun _ => State.abandonC_keeps h_1) (fun _ => h_1)))))

theorem State.markRunning_keeps {s0 s1 a2} (h_1 : Keeps s0 s1) :
    Keeps s0 (State.markRunning s1 a2) := by
  unfold State.markRunning
  try dsimp only
  exact keeps_ite (fun _ => h_1) (fun _ => keeps_foldl (fun _ _ h1 => State.setTile_keeps h1) h_1)

theorem State.startItem_keeps {s0 s1 a2 a3 a4} (h_1 : Keeps s0 s1) :
    Keeps s0 (State.startItem s1 a2 a3 a4) := by
  unfold State.startItem
  try dsimp only
  exact State.markRunning_keeps (State.setCluster_keeps (State.setCluster_keeps h_1))

theorem State.takeFirst_keeps {s0 s1 a2 a3} (h_1 : Keeps s0 s1) : Keeps s0 (State.takeFirst s1 a2 a3) := by
  induction a3 generalizing s1 with
  | nil => exact h_1
  | cons i r ih =>
    unfold State.takeFirst
    refine keeps_ite (fun _ => ih h_1) (fun _ => ?_)
    split
    · exact keeps_ite (fun _ => ih (State.abandonP_keeps h_1)) (fun _ => State.startItem_keeps h_1)
    · exact keeps_ite (fun _ => ih (State.abandonC_keeps h_1)) (fun _ => State.startItem_keeps h_1)
    · exact keeps_ite (fun _ => ih (State.abandonT_keeps h_1)) (fun _ => State.startItem_keeps h_1)

theorem execEngineFree_keeps {s0 a1 s1} (h_1 : Keeps s0 s1) :
    KeepsO s0 (execEngineFree a1 s1) := by
  unfold execEngineFree
  try dsimp only
  exact keepsO_next (keeps_ite (fun _ => State.feed_keeps (State.takeFirst_keeps h_1)) (fun _ => h_1))

theorem execSteal_keeps {s0 a1 s1} (h_1 : Keeps s0 s1) :
    KeepsO s0 (execSteal a1 s1) := by
  unfold execSteal
  try dsimp only
  refine keepsO_next ?_
  refine keeps_ite (fun _ => h_1) (fun _ => ?_)
  split
  · exact h_1
  · exact keeps_ite (fun _ => State.abandonC_keeps h_1) (fun _ => State.feed_keeps (State.setCluster_keeps (State.startItem_keeps h_1)))

theorem State.dataError_keeps {s0 s1 a2 a3} (h_1 : Keeps s0 s1) :
    Keeps s0 (State.dataError s1 a2 a3) := by
  unfold State.dataError
  try dsimp only
  exact State.post_keeps h_1

theorem State.composeRun_keeps {s0 s1 a2 a3 a4 a5} (h_1 : Keeps s0 s1) :
    Keeps s0 (State.composeRun s1 a2 a3 a4 a5).2 := by
  unfold State.composeRun
  try dsimp only
  exact State.putRows_keeps (State.drawWords_keeps (State.checkReads_keeps h_1))

theorem execCItemComplete_keeps {s0 a1 s1} (h_1 : Keeps s0 s1) :
    KeepsO s0 (execCItemComplete a1 s1) := by
  unfold execCItemComplete
  try dsimp only
  refine keepsO_next ?_
  refine keeps_ite (fun _ => h_1) (fun _ => ?_)
  refine State.retire_keeps ?_
  refine State.modHead_keeps ?_
  refine keeps_mk ?_ rfl
  refine State.freeEngine_keeps ?_
  refine keeps_foldl (fun _ _ h4 => State.setTile_keeps h4) ?_
  refine keeps_ite (fun _ => ?_) (fun _ => ?_)
  · refine State.dataError_keeps ?_
    split
    · exact State.composeRun_keeps h_1
    · exact h_1
  · split
    · exact State.composeRun_keeps h_1
    · exact h_1

theorem State.composeTx_keeps {s0 s1 a2 a3 a4 a5 a6} (h_1 : Keeps s0 s1) :
    Keeps s0 (State.composeTx s1 a2 a3 a4 a5 a6).2 := by
  unfold State.composeTx
  try dsimp only
  exact keeps_foldl (fun _ _ h0 => State.putSample_keeps h0) (State.drawWords_keeps (State.checkReads_keeps h_1))

theorem execTItemComplete_keeps {s0 a1 s1} (h_1 : Keeps s0 s1) :
    KeepsO s0 (execTItemComplete a1 s1) := by
  unfold execTItemComplete
  try dsimp only
  refine keepsO_next ?_
  refine keeps_ite (fun _ => h_1) (fun _ => ?_)
  split
  · exact keeps_ite (fun _ => State.setOutput_keeps (keeps_mk (keeps_ite (fun _ => State.dataError_keeps (State.composeTx_keeps
        (State.freeEngine_keeps h_1))) (fun _ => State.composeTx_keeps (State.freeEngine_keeps h_1))) rfl)) (fun _ => State.endOutShot_keeps
        (keeps_mk (State.setOutput_keeps (keeps_mk (keeps_ite (fun _ => State.dataError_keeps (State.composeTx_keeps (State.freeEngine_keeps
        h_1))) (fun _ => State.composeTx_keeps (State.freeEngine_keeps h_1))) rfl)) rfl))
  · exact State.freeEngine_keeps h_1

theorem State.muraRead_keeps {s0 s1 a2 a3} (h_1 : Keeps s0 s1) :
    Keeps s0 (State.muraRead s1 a2 a3) := by
  unfold State.muraRead
  try dsimp only
  exact keeps_ite (fun _ => h_1) (fun _ => State.modHead_keeps h_1)

theorem State.tableFaults_keeps {s0 s1 a2 a3} (h_1 : Keeps s0 s1) :
    Keeps s0 (State.tableFaults s1 a2 a3).2 := by
  unfold State.tableFaults
  try dsimp only
  exact keepsAt_foldl (P := fun x : _ × State => Keeps s0 x.2) (fun _ _ h0 => keepsAt_ite (P := fun x : _ × State => Keeps s0 x.2) (fun _ =>
      State.modHead_keeps (State.checkWord_keeps h0)) (fun _ => State.checkWord_keeps h0)) h_1

theorem State.rewriteState_keeps {s0 s1 a2 a3 a4} (h_1 : Keeps s0 s1) :
    Keeps s0 (State.rewriteState s1 a2 a3 a4) := by
  unfold State.rewriteState
  try dsimp only
  exact State.post_keeps (State.modHead_keeps (State.putMem_keeps h_1))

theorem State.checkP_keeps {s0 s1 a2 a3 a4 a5} (h_1 : Keeps s0 s1) :
    Keeps s0 (State.checkP s1 a2 a3 a4 a5).2 := by
  unfold State.checkP
  try dsimp only
  exact State.tableFaults_keeps (State.readMem_keeps (keeps_foldl (fun _ _ h2 => State.rewriteState_keeps h2) (State.checkReads_keeps
      (State.checkReads_keeps h_1))))

theorem State.runP_keeps {s0 s1 a2 a3 a4 a5} (h_1 : Keeps s0 s1) :
    Keeps s0 (State.runP s1 a2 a3 a4 a5) := by
  unfold State.runP
  try dsimp only
  exact keeps_mk (State.putRows_keeps h_1) rfl

theorem State.answerRow_keeps {s0 s1 a2 a3 a4 a5 a6 a7} (h_1 : Keeps s0 s1) :
    Keeps s0 (State.answerRow s1 a2 a3 a4 a5 a6 a7) := by
  unfold State.answerRow
  try dsimp only
  exact keeps_ite (fun _ => h_1) (fun _ => State.sendMsg_keeps (keeps_mk h_1 rfl))

theorem State.commitRow_keeps {s0 s1 a2 a3 a4} (h_1 : Keeps s0 s1) : Keeps s0 (State.commitRow s1 a2 a3 a4) := by
  unfold State.commitRow
  extract_lets h k outs base crc states inside a lines b c d sat post e src f g i j
  have ha : Keeps s0 a := State.putRows_keeps h_1
  clear_value a
  have hd : Keeps s0 d := keeps_foldl (fun _ _ h => State.setTile_keeps h) (State.putMem_keeps (State.putMem_keeps ha))
  clear_value d
  have he : Keeps s0 e := State.modHead_keeps hd
  clear_value e
  have hf : Keeps s0 f := keeps_mk he rfl
  clear_value f
  have hg : Keeps s0 g := keeps_ite (fun _ => State.post_keeps hf) (fun _ => hf)
  clear_value g
  have hi : Keeps s0 i := State.snapRow_keeps hg
  clear_value i
  have hj : Keeps s0 j := keeps_ite (fun _ => State.sendMsg_keeps hi) (fun _ => hi)
  clear_value j
  exact State.postSkips_keeps (State.answerRow_keeps hj)

theorem State.finishP_keeps {s0 s1 a2 a3} (h_1 : Keeps s0 s1) :
    Keeps s0 (State.finishP s1 a2 a3) := by
  unfold State.finishP
  try dsimp only
  exact keeps_ite (fun _ => keeps_mk (State.runP_keeps h_1) rfl) (fun _ => keeps_ite (fun _ => State.skipRow_keeps (keeps_mk (State.runP_keeps
      h_1) rfl)) (fun _ => keeps_ite (fun _ => keeps_mk (State.runP_keeps h_1) rfl) (fun _ => State.commitRow_keeps (keeps_mk (State.runP_keeps
      h_1) rfl))))

theorem State.endP_keeps {s0 s1 a2 a3} (h_1 : Keeps s0 s1) :
    Keeps s0 (State.endP s1 a2 a3) := by
  unfold State.endP
  try dsimp only
  exact keeps_ite (fun _ => keeps_mk (State.muraRead_keeps h_1) rfl) (fun _ => keeps_ite (fun _ => State.abandonP_keeps (State.checkP_keeps
      (State.muraRead_keeps h_1))) (fun _ => State.finishP_keeps (State.checkP_keeps (State.muraRead_keeps h_1))))

theorem execPItemComplete_keeps {s0 a1 s1} (h_1 : Keeps s0 s1) :
    KeepsO s0 (execPItemComplete a1 s1) := by
  unfold execPItemComplete
  try dsimp only
  refine keepsO_next ?_
  refine keeps_ite (fun _ => h_1) (fun _ => ?_)
  split
  · exact State.freeEngine_keeps h_1
  · exact State.endP_keeps (State.freeEngine_keeps h_1)

theorem execRowSkipped_keeps {s0 a1 a2 a3 s1} (h_1 : Keeps s0 s1) :
    KeepsO s0 (execRowSkipped a1 a2 a3 s1) := by
  unfold execRowSkipped
  try dsimp only
  exact keepsO_next (keeps_ite (fun _ => State.skipRow_keeps h_1) (fun _ => h_1))

theorem State.bypassFaulty_keeps {s0 s1 a2} (h_1 : Keeps s0 s1) :
    Keeps s0 (State.bypassFaulty s1 a2) := by
  unfold State.bypassFaulty
  try dsimp only
  exact keeps_foldl (fun _ _ h0 => State.post_keeps h0) (State.modHead_keeps h_1)

theorem State.takeGiven_keeps {s0 s1 a2 a3 a4} (h_1 : Keeps s0 s1) :
    Keeps s0 (State.takeGiven s1 a2 a3 a4) := by
  unfold State.takeGiven
  try dsimp only
  exact keeps_ite (fun _ => State.setHead_keeps h_1) (fun _ => State.post_keeps (State.setHead_keeps h_1))

theorem State.latchOne_keeps {s0 s1 a2 a3 a4 a5 a6 a7 a8} (h_1 : Keeps s0 s1) :
    Keeps s0 (State.latchOne s1 a2 a3 a4 a5 a6 a7 a8) := by
  unfold State.latchOne
  try dsimp only
  exact State.setHead_keeps h_1

theorem State.latchFrames_keeps {s0 s1 a2 a3 a4} (h_1 : Keeps s0 s1) :
    Keeps s0 (State.latchFrames s1 a2 a3 a4) := by
  unfold State.latchFrames
  try dsimp only
  refine State.modHead_keeps ?_
  refine keeps_ite (fun _ => ?_) (fun _ => ?_)
  · refine keeps_foldl (fun _ _ h2 => ?_) ?_
    · split
      · exact State.latchOne_keeps h2
      · exact h2
    · refine keeps_ite (fun _ => ?_) (fun _ => ?_)
      · refine State.sendMsg_keeps ?_
        refine State.bypassFaulty_keeps ?_
        split
        · exact State.takeGiven_keeps (State.modHead_keeps h_1)
        · exact State.bandLatch_keeps (State.modHead_keeps h_1)
      · refine State.bypassFaulty_keeps ?_
        split
        · exact State.takeGiven_keeps (State.modHead_keeps h_1)
        · exact State.bandLatch_keeps (State.modHead_keeps h_1)
  · split
    · refine State.modHead_keeps ?_
      refine keeps_ite (fun _ => ?_) (fun _ => ?_)
      · refine State.sendMsg_keeps ?_
        refine State.bypassFaulty_keeps ?_
        split
        · exact State.takeGiven_keeps (State.modHead_keeps h_1)
        · exact State.bandLatch_keeps (State.modHead_keeps h_1)
      · refine State.bypassFaulty_keeps ?_
        split
        · exact State.takeGiven_keeps (State.modHead_keeps h_1)
        · exact State.bandLatch_keeps (State.modHead_keeps h_1)
    · refine keeps_ite (fun _ => ?_) (fun _ => ?_)
      · refine State.sendMsg_keeps ?_
        refine State.bypassFaulty_keeps ?_
        split
        · exact State.takeGiven_keeps (State.modHead_keeps h_1)
        · exact State.bandLatch_keeps (State.modHead_keeps h_1)
      · refine State.bypassFaulty_keeps ?_
        split
        · exact State.takeGiven_keeps (State.modHead_keeps h_1)
        · exact State.bandLatch_keeps (State.modHead_keeps h_1)

theorem State.seamAt_keeps {s0 s1 a2 a3 a4 a5} (h_1 : Keeps s0 s1) :
    Keeps s0 (State.seamAt s1 a2 a3 a4 a5) := by
  unfold State.seamAt
  try dsimp only
  exact State.modHead_keeps (State.forgetItems_keeps (State.dropFrom_keeps h_1))

theorem State.switchRaster_keeps {s0 s1 a2 a3} (h_1 : Keeps s0 s1) :
    Keeps s0 (State.switchRaster s1 a2 a3) := by
  unfold State.switchRaster
  try dsimp only
  split
  · exact State.takeBanks_keeps (State.dropBanks_keeps (State.modHead_keeps (State.putRows_keeps (keeps_foldl (fun _ _ h5 => State.setTile_keeps
        h5) (State.takeTiles_keeps (State.freeTiles_keeps h_1))))))
  · exact State.modHead_keeps h_1

theorem State.rasterNow_keeps {s0 s1 a2} (h_1 : Keeps s0 s1) :
    Keeps s0 (State.rasterNow s1 a2) := by
  unfold State.rasterNow
  try dsimp only
  split
  · exact h_1
  · exact State.seamAt_keeps (State.switchRaster_keeps h_1)

theorem State.applyTiming_keeps {s0 s1 a2 a3 a4} (h_1 : Keeps s0 s1) :
    Keeps s0 (State.applyTiming s1 a2 a3 a4) := by
  unfold State.applyTiming
  try dsimp only
  split
  · refine keeps_ite (fun _ => ?_) (fun _ => ?_)
    · refine keeps_ite (fun _ => ?_) (fun _ => ?_)
      · refine State.rasterNow_keeps ?_
        refine State.entryApplied_keeps ?_
        refine State.modHead_keeps ?_
        split
        · exact State.modHead_keeps (State.unqueue_keeps h_1)
        · exact State.unqueue_keeps h_1
      · refine State.entryApplied_keeps ?_
        refine State.modHead_keeps ?_
        split
        · exact State.modHead_keeps (State.unqueue_keeps h_1)
        · exact State.unqueue_keeps h_1
    · refine State.entryApplied_keeps ?_
      refine State.seamAt_keeps ?_
      refine State.modHead_keeps ?_
      split
      · exact State.modHead_keeps (State.unqueue_keeps h_1)
      · exact State.unqueue_keeps h_1
  · exact State.unqueue_keeps h_1

theorem State.latchEntry_keeps {s0 s1 a2 a3 a4 a5} (h_1 : Keeps s0 s1) :
    Keeps s0 (State.latchEntry s1 a2 a3 a4 a5) := by
  unfold State.latchEntry
  try dsimp only
  refine State.entryApplied_keeps ?_
  split
  · exact keeps_ite (fun _ => State.activateNow_keeps (State.unqueue_keeps h_1)) (fun _ => State.unqueue_keeps h_1)
  · exact State.muraApply_keeps (State.unqueue_keeps h_1)
  · exact State.ledgerApply_keeps (State.unqueue_keeps h_1)
  · exact State.clearApply_keeps (State.unqueue_keeps h_1)
  · exact State.unqueue_keeps h_1

theorem State.latchEntries_keeps {s0 s1 a2 a3} (h_1 : Keeps s0 s1) :
    Keeps s0 (State.latchEntries s1 a2 a3) := by
  unfold State.latchEntries
  try dsimp only
  exact keepsAt_foldl (P := fun x : State × _ => Keeps s0 x.1) (fun _ _ h0 => State.latchEntry_keeps h0) h_1

theorem State.latchHead_keeps {s0 s1 a2 a3} (h_1 : Keeps s0 s1) :
    Keeps s0 (State.latchHead s1 a2 a3) := by
  unfold State.latchHead
  try dsimp only
  refine keeps_ite (fun _ => keeps_mk h_1 rfl) (fun _ => ?_)
  refine keeps_ite (fun _ => keeps_ite (fun _ => State.latchFrames_keeps (keeps_mk h_1 rfl)) (fun _ => keeps_mk h_1 rfl)) (fun _ => ?_)
  refine keeps_ite (fun _ => keeps_mk h_1 rfl) (fun _ => ?_)
  split
  · exact State.applyTiming_keeps (keeps_mk h_1 rfl)
  · exact State.latchFrames_keeps (State.latchEntries_keeps (keeps_mk h_1 rfl))

theorem execLatchPoint_keeps {s0 a1 s1} (h_1 : Keeps s0 s1) :
    KeepsO s0 (execLatchPoint a1 s1) := by
  unfold execLatchPoint
  try dsimp only
  exact keepsO_next (keeps_ite (fun _ => h_1) (fun _ => keeps_ite (fun _ => keeps_mk h_1 rfl) (fun _ => State.latchHead_keeps h_1)))

theorem execMuraReleased_keeps {s0 a1 s1} (h_1 : Keeps s0 s1) :
    KeepsO s0 (execMuraReleased a1 s1) := by
  unfold execMuraReleased
  try dsimp only
  refine keepsO_next ?_
  split
  · exact h_1
  · exact keeps_ite (fun _ => h_1) (fun _ => State.postMura_keeps (State.modHead_keeps h_1))

theorem execThermSample_keeps {s0 a1 a2 s1} (h_1 : Keeps s0 s1) :
    KeepsO s0 (execThermSample a1 a2 s1) := by
  unfold execThermSample
  try dsimp only
  exact keepsO_next (keeps_ite (fun _ => State.thermTake_keeps h_1) (fun _ => h_1))

theorem State.advance_keeps {s0 s1 a2 a3} (h_1 : Keeps s0 s1) :
    Keeps s0 (State.advance s1 a2 a3) := by
  unfold State.advance
  try dsimp only
  exact State.forgetItems_keeps (State.modHead_keeps h_1)

theorem State.driveChecks_keeps {s0 s1 a2 a3 a4 a5 a6} (h_1 : Keeps s0 s1) :
    Keeps s0 (State.driveChecks s1 a2 a3 a4 a5 a6) := by
  unfold State.driveChecks
  try dsimp only
  exact State.modHead_keeps h_1

theorem State.sendLine_keeps {s0 s1 a2 a3 a4 a5 a6} (h_1 : Keeps s0 s1) :
    Keeps s0 (State.sendLine s1 a2 a3 a4 a5 a6) := by
  unfold State.sendLine
  try dsimp only
  exact keeps_foldl (fun _ _ h0 => keeps_ite (fun _ => State.sendLink_keeps h0) (fun _ => h0)) h_1

theorem State.badColumns_keeps {s0 s1 a2 a3 a4} (h_1 : Keeps s0 s1) :
    Keeps s0 (State.badColumns s1 a2 a3 a4).2 := by
  unfold State.badColumns
  try dsimp only
  exact keepsAt_foldl (P := fun x : _ × State => Keeps s0 x.2) (fun _ _ h0 => State.checkWord_keeps h0) h_1

theorem State.activeLine_keeps {s0 s1 a2 a3 a4} (h_1 : Keeps s0 s1) :
    Keeps s0 (State.activeLine s1 a2 a3 a4).1 := by
  unfold State.activeLine
  try dsimp only
  exact keepsAt_ite (P := fun x : State × _ => Keeps s0 x.1) (fun _ => State.sendLine_keeps (State.badColumns_keeps (keeps_ite (fun _ => h_1)
      (fun _ => State.skipRow_keeps h_1)))) (fun _ => State.sendLine_keeps (keeps_ite (fun _ => h_1) (fun _ => State.skipRow_keeps h_1)))

theorem State.sendPhase_keeps {s0 s1 a2 a3} (h_1 : Keeps s0 s1) :
    Keeps s0 (State.sendPhase s1 a2 a3) := by
  unfold State.sendPhase
  try dsimp only
  exact keeps_ite (fun _ => State.sendBlock_keeps h_1) (fun _ => h_1)

theorem State.redriveNets_keeps {s0 s1 a2} (h_1 : Keeps s0 s1) :
    Keeps s0 (State.redriveNets s1 a2) := by
  unfold State.redriveNets
  try dsimp only
  exact keeps_ite (fun _ => State.modHead_keeps (keeps_mk h_1 rfl)) (fun _ => h_1)

theorem State.blankLine_keeps {s0 s1 a2 a3 a4} (h_1 : Keeps s0 s1) :
    Keeps s0 (State.blankLine s1 a2 a3 a4) := by
  unfold State.blankLine
  try dsimp only
  exact keeps_foldl (fun _ _ h0 => keeps_foldl (fun _ _ h1 => State.changePoint_keeps h1) h0) (State.sendLine_keeps h_1)

theorem State.startLine_keeps {s0 s1 a2 a3} (h_1 : Keeps s0 s1) :
    Keeps s0 (State.startLine s1 a2 a3) := by
  unfold State.startLine
  try dsimp only
  refine keeps_ite (fun _ => ?_) (fun _ => ?_)
  · refine State.rasterNow_keeps ?_
    refine State.modHead_keeps ?_
    refine State.driveChecks_keeps ?_
    refine keepsAt_ite (P := fun x : State × _ => Keeps s0 x.1) (fun _ => ?_) (fun _ => ?_)
    · refine State.activeLine_keeps ?_
      split
      · exact State.modHead_keeps (State.sendPhase_keeps (State.redriveNets_keeps h_1))
      · exact State.sendPhase_keeps (State.redriveNets_keeps h_1)
    · refine State.blankLine_keeps ?_
      split
      · exact State.modHead_keeps (State.sendPhase_keeps (State.redriveNets_keeps h_1))
      · exact State.sendPhase_keeps (State.redriveNets_keeps h_1)
  · refine State.modHead_keeps ?_
    refine State.driveChecks_keeps ?_
    refine keepsAt_ite (P := fun x : State × _ => Keeps s0 x.1) (fun _ => ?_) (fun _ => ?_)
    · refine State.activeLine_keeps ?_
      split
      · exact State.modHead_keeps (State.sendPhase_keeps (State.redriveNets_keeps h_1))
      · exact State.sendPhase_keeps (State.redriveNets_keeps h_1)
    · refine State.blankLine_keeps ?_
      split
      · exact State.modHead_keeps (State.sendPhase_keeps (State.redriveNets_keeps h_1))
      · exact State.sendPhase_keeps (State.redriveNets_keeps h_1)

theorem execLineStart_keeps {s0 a1 s1} (h_1 : Keeps s0 s1) :
    KeepsO s0 (execLineStart a1 s1) := by
  unfold execLineStart
  try dsimp only
  refine keepsO_next ?_
  refine keeps_ite (fun _ => h_1) (fun _ => ?_)
  split
  · refine keeps_ite (fun _ => ?_) (fun _ => ?_)
    · refine State.setHead_keeps ?_
      refine keeps_ite (fun _ => ?_) (fun _ => h_1)
      split
      · exact State.advance_keeps h_1
      · exact h_1
    · refine State.startLine_keeps ?_
      refine keeps_ite (fun _ => ?_) (fun _ => h_1)
      split
      · exact State.advance_keeps h_1
      · exact h_1
  · refine State.setHead_keeps ?_
    refine keeps_ite (fun _ => ?_) (fun _ => h_1)
    split
    · exact State.advance_keeps h_1
    · exact h_1

theorem State.postDac_keeps {s0 s1 a2 a3} (h_1 : Keeps s0 s1) :
    Keeps s0 (State.postDac s1 a2 a3) := by
  unfold State.postDac
  try dsimp only
  exact State.post_keeps h_1

theorem State.trim_keeps {s0 s1 a2 a3} (h_1 : Keeps s0 s1) :
    Keeps s0 (State.trim s1 a2 a3) := by
  unfold State.trim
  try dsimp only
  exact keeps_ite (fun _ => State.postDac_keeps (State.modHead_keeps h_1)) (fun _ => State.modHead_keeps h_1)

theorem State.measure_keeps {s0 s1 a2 a3 a4} (h_1 : Keeps s0 s1) :
    Keeps s0 (State.measure s1 a2 a3 a4) := by
  unfold State.measure
  try dsimp only
  exact keeps_ite (fun _ => keeps_ite (fun _ => keeps_ite (fun _ => State.postDac_keeps (State.modHead_keeps h_1)) (fun _ => State.modHead_keeps
      h_1)) (fun _ => State.trim_keeps (keeps_ite (fun _ => State.postDac_keeps (State.modHead_keeps h_1)) (fun _ => State.modHead_keeps h_1))))
      (fun _ => keeps_ite (fun _ => State.postDac_keeps (State.modHead_keeps h_1)) (fun _ => State.modHead_keeps h_1))

theorem State.vcomTrim_keeps {s0 s1 a2 a3} (h_1 : Keeps s0 s1) :
    Keeps s0 (State.vcomTrim s1 a2 a3) := by
  unfold State.vcomTrim
  try dsimp only
  split
  · exact State.entryApplied_keeps (State.modHead_keeps (State.unqueue_keeps h_1))
  · exact State.unqueue_keeps h_1

theorem execTrimInstant_keeps {s0 a1 a2 s1} (h_1 : Keeps s0 s1) :
    KeepsO s0 (execTrimInstant a1 a2 s1) := by
  unfold execTrimInstant
  try dsimp only
  refine keepsO_next ?_
  split
  · exact h_1
  · exact keeps_ite (fun _ => h_1) (fun _ => keeps_foldl (fun _ _ h2 => State.vcomTrim_keeps h2) (keeps_ite (fun _ => h_1) (fun _ => keeps_ite
        (fun _ => State.measure_keeps h_1) (fun _ => State.modHead_keeps h_1))))

theorem execHeadStall_keeps {s0 a1 s1} (h_1 : Keeps s0 s1) :
    KeepsO s0 (execHeadStall a1 s1) := by
  unfold execHeadStall
  try dsimp only
  exact keepsO_next (keeps_ite (fun _ => State.stopHead_keeps (State.post_keeps h_1)) (fun _ => h_1))

theorem execSrEnter_keeps {s0 a1 s1} (h_1 : Keeps s0 s1) :
    KeepsO s0 (execSrEnter a1 s1) := by
  unfold execSrEnter
  try dsimp only
  exact keepsO_next (keeps_ite (fun _ => State.enterSr_keeps h_1) (fun _ => h_1))

theorem execSrExit_keeps {s0 a1 s1} (h_1 : Keeps s0 s1) :
    KeepsO s0 (execSrExit a1 s1) := by
  unfold execSrExit
  try dsimp only
  exact keepsO_next (keeps_ite (fun _ => State.exitSr_keeps h_1) (fun _ => h_1))

theorem execFollowRepeat_keeps {s0 a1 s1} (h_1 : Keeps s0 s1) :
    KeepsO s0 (execFollowRepeat a1 s1) := by
  unfold execFollowRepeat
  try dsimp only
  refine keepsO_next ?_
  split
  · exact keeps_ite (fun _ => State.setHead_keeps h_1) (fun _ => h_1)
  · exact h_1

theorem execWarmupDone_keeps {s0 a1 s1} (h_1 : Keeps s0 s1) :
    KeepsO s0 (execWarmupDone a1 s1) := by
  unfold execWarmupDone
  try dsimp only
  exact keepsO_next (keeps_ite (fun _ => State.endProcs_keeps (State.post_keeps (State.setHead_keeps h_1))) (fun _ => h_1))

theorem execBalancingFrame_keeps {s0 a1 s1} (h_1 : Keeps s0 s1) :
    KeepsO s0 (execBalancingFrame a1 s1) := by
  unfold execBalancingFrame
  try dsimp only
  refine keepsO_next ?_
  refine keeps_ite (fun _ => ?_) (fun _ => h_1)
  split
  · exact keeps_ite (fun _ => State.advance_keeps h_1) (fun _ => h_1)
  · exact h_1

theorem execPark_keeps {s0 a1 s1} (h_1 : Keeps s0 s1) :
    KeepsO s0 (execPark a1 s1) := by
  unfold execPark
  try dsimp only
  refine keepsO_next ?_
  split
  · exact keeps_ite (fun _ => State.modHead_keeps (State.broadcast_keeps h_1)) (fun _ => h_1)
  · exact h_1

theorem State.checkDone_keeps {s0 s1 a2 a3 a4 a5 a6 a7 a8} (h_1 : Keeps s0 s1) :
    Keeps s0 (State.checkDone s1 a2 a3 a4 a5 a6 a7 a8) := by
  unfold State.checkDone
  try dsimp only
  exact keeps_ite (fun _ => State.setCheck_keeps h_1) (fun _ => keeps_ite (fun _ => State.setCheck_keeps h_1) (fun _ => keeps_ite (fun _ =>
      State.setCheck_keeps h_1) (fun _ => keeps_ite (fun _ => State.stopHead_keeps (State.post_keeps (State.setCheck_keeps h_1))) (fun _ =>
      State.post_keeps (State.setCheck_keeps h_1)))))

theorem execCheckResult_keeps {s0 a1 a2 s1} (h_1 : Keeps s0 s1) :
    KeepsO s0 (execCheckResult a1 a2 s1) := by
  unfold execCheckResult
  try dsimp only
  refine keepsO_next ?_
  split
  · exact h_1
  · refine keeps_ite (fun _ => ?_) (fun _ => ?_)
    · split
      · exact keeps_ite (fun _ => h_1) (fun _ => State.checkDone_keeps (State.setCheck_keeps h_1))
      · exact h_1
    · split
      · exact h_1
      · exact State.checkDone_keeps (State.setCheck_keeps h_1)

theorem execLeaseReleased_keeps {s0 a1 s1} (h_1 : Keeps s0 s1) :
    KeepsO s0 (execLeaseReleased a1 s1) := by
  unfold execLeaseReleased
  try dsimp only
  refine keepsO_next ?_
  split
  · exact keeps_ite (fun _ => State.freeLease_keeps h_1) (fun _ => h_1)
  · exact h_1

theorem execTrainTimeout_keeps {s0 a1 s1} (h_1 : Keeps s0 s1) :
    KeepsO s0 (execTrainTimeout a1 s1) := by
  unfold execTrainTimeout
  try dsimp only
  exact keepsO_next (keeps_ite (fun _ => State.linkTimeout_keeps h_1) (fun _ => h_1))

theorem execConfigPacket_keeps {s0 a1 s1} (h_1 : Keeps s0 s1) :
    KeepsO s0 (execConfigPacket a1 s1) := by
  unfold execConfigPacket
  try dsimp only
  exact keepsO_next (keeps_ite (fun _ => State.sendLink_keeps (State.configTurn_keeps h_1)) (fun _ => h_1))

theorem execPoll_keeps {s0 a1 s1} (h_1 : Keeps s0 s1) :
    KeepsO s0 (execPoll a1 s1) := by
  unfold execPoll
  try dsimp only
  exact keepsO_next (keeps_ite (fun _ => keeps_mk (State.setDriver_keeps h_1) rfl) (fun _ => h_1))

theorem State.linkReport_keeps {s0 s1 a2 a3} (h_1 : Keeps s0 s1) :
    Keeps s0 (State.linkReport s1 a2 a3) := by
  unfold State.linkReport
  try dsimp only
  split
  · exact keeps_ite (fun _ => State.linkTo_keeps h_1) (fun _ => h_1)
  · exact keeps_ite (fun _ => State.linkTo_keeps h_1) (fun _ => keeps_ite (fun _ => State.linkTo_keeps h_1) (fun _ => h_1))
  · exact keeps_ite (fun _ => State.linkTo_keeps h_1) (fun _ => h_1)
  · exact keeps_ite (fun _ => State.linkTrain_keeps h_1) (fun _ => keeps_foldl (fun _ _ h2 => State.laneReport_keeps h2) h_1)
  · exact h_1

theorem State.pollFailed_keeps {s0 s1 a2} (h_1 : Keeps s0 s1) :
    Keeps s0 (State.pollFailed s1 a2) := by
  unfold State.pollFailed
  try dsimp only
  exact keeps_ite (fun _ => State.post_keeps (State.setDriver_keeps h_1)) (fun _ => State.setDriver_keeps h_1)

theorem execReport_keeps {s0 a1 a2 a3 s1} (h_1 : Keeps s0 s1) :
    KeepsO s0 (execReport a1 a2 a3 s1) := by
  unfold execReport
  try dsimp only
  exact keepsO_next (keeps_ite (fun _ => h_1) (fun _ => keeps_ite (fun _ => State.linkReport_keeps (State.setDriver_keeps h_1)) (fun _ =>
      State.pollFailed_keeps (State.setDriver_keeps h_1))))

theorem execBcTimeout_keeps {s0 a1 s1} (h_1 : Keeps s0 s1) :
    KeepsO s0 (execBcTimeout a1 s1) := by
  unfold execBcTimeout
  try dsimp only
  exact keepsO_next (keeps_ite (fun _ => h_1) (fun _ => keeps_ite (fun _ => State.setDriver_keeps h_1) (fun _ => keeps_ite (fun _ =>
      State.linkTrain_keeps (State.pollFailed_keeps (State.setDriver_keeps (State.setDriver_keeps h_1)))) (fun _ => State.pollFailed_keeps
      (State.setDriver_keeps (State.setDriver_keeps h_1))))))

theorem execDriverPacket_keeps {s0 a1 a2 a3 s1} (h_1 : Keeps s0 s1) :
    KeepsO s0 (execDriverPacket a1 a2 a3 s1) := by
  unfold execDriverPacket
  try dsimp only
  exact keepsO_next (keeps_ite (fun _ => h_1) (fun _ => keeps_ite (fun _ => State.setRenn_keeps h_1) (fun _ => State.setRenn_keeps h_1)))

theorem execLd_keeps {s0 a1 a2 s1} (h_1 : Keeps s0 s1) :
    KeepsO s0 (execLd a1 a2 s1) := by
  unfold execLd
  try dsimp only
  exact keepsO_next (keeps_ite (fun _ => h_1) (fun _ => State.setRenn_keeps h_1))

theorem execDischarge_keeps {s0 a1 a2 a3 s1} (h_1 : Keeps s0 s1) :
    KeepsO s0 (execDischarge a1 a2 a3 s1) := by
  unfold execDischarge
  try dsimp only
  exact keepsO_next (keeps_ite (fun _ => h_1) (fun _ => State.setRenn_keeps h_1))

theorem execPortAbsent_keeps {s0 a1 a2 s1} (h_1 : Keeps s0 s1) :
    KeepsO s0 (execPortAbsent a1 a2 s1) := by
  unfold execPortAbsent
  try dsimp only
  exact keepsO_next (keeps_ite (fun _ => h_1) (fun _ => State.setRenn_keeps h_1))

theorem execDriverConfig_keeps {s0 a1 a2 a3 s1} (h_1 : Keeps s0 s1) :
    KeepsO s0 (execDriverConfig a1 a2 a3 s1) := by
  unfold execDriverConfig
  try dsimp only
  exact keepsO_next (keeps_ite (fun _ => h_1) (fun _ => keeps_ite (fun _ => State.setRenn_keeps h_1) (fun _ => State.setRenn_keeps h_1)))

theorem execLatch_keeps {s0 a1 a2 a3 a4 a5 s1} (h_1 : Keeps s0 s1) :
    KeepsO s0 (execLatch a1 a2 a3 a4 a5 s1) := by
  unfold execLatch
  try dsimp only
  exact keepsO_next (keeps_ite (fun _ => h_1) (fun _ => keeps_ite (fun _ => keeps_mk (State.ackMsg_keeps h_1) rfl) (fun _ => keeps_ite (fun _ =>
      State.latchHead_keeps (keeps_mk (State.ackMsg_keeps h_1) rfl)) (fun _ => keeps_mk (State.ackMsg_keeps h_1) rfl))))

theorem execLatchWaitEnd_keeps {s0 s1} (h_1 : Keeps s0 s1) :
    KeepsO s0 (execLatchWaitEnd s1) := by
  unfold execLatchWaitEnd
  try dsimp only
  exact keepsO_next (keeps_ite (fun _ => State.latchHead_keeps h_1) (fun _ => h_1))

theorem execSelectMsg_keeps {s0 a1 a2 s1} (h_1 : Keeps s0 s1) :
    KeepsO s0 (execSelectMsg a1 a2 s1) := by
  unfold execSelectMsg
  try dsimp only
  exact keepsO_next (keeps_ite (fun _ => h_1) (fun _ => keeps_ite (fun _ => State.composeHead_keeps (keeps_mk (State.ackMsg_keeps h_1) rfl))
      (fun _ => keeps_mk (State.ackMsg_keeps h_1) rfl)))

theorem execSelectWaitEnd_keeps {s0 s1} (h_1 : Keeps s0 s1) :
    KeepsO s0 (execSelectWaitEnd s1) := by
  unfold execSelectWaitEnd
  try dsimp only
  exact keepsO_next (keeps_ite (fun _ => State.composeHead_keeps h_1) (fun _ => h_1))

theorem execTs2_keeps {s0 a1 s1} (h_1 : Keeps s0 s1) :
    KeepsO s0 (execTs2 a1 s1) := by
  unfold execTs2
  try dsimp only
  exact keepsO_next (keeps_ite (fun _ => State.setRenn_keeps (State.setDriver_keeps h_1)) (fun _ => h_1))

end Sys2Proof.Machine
end

