-- ==== Sys2Proof/Laws/KeepsNet.lean ====
section
/-! SUPPORT. Keeps: audio, time events and the network. One lemma per operation: the queue is untouched and a sound machine stays sound. -/

namespace Sys2Proof.Machine

open Sys2Proof.Laws Sys2Proof.Safety

theorem State.lanesOff_keeps {s0 s1 a2} (h_1 : Keeps s0 s1) :
    Keeps s0 (State.lanesOff s1 a2) := by
  unfold State.lanesOff
  try dsimp only
  exact keeps_foldl (fun _ _ h0 => State.setLane_keeps h0) h_1

theorem State.flowSample_keeps {s0 s1 a2 a3 a4} (h_1 : Keeps s0 s1) :
    Keeps s0 (State.flowSample s1 a2 a3 a4).2.2 := by
  unfold State.flowSample
  try dsimp only
  split
  · exact h_1
  · exact keepsAt_ite (P := fun x : _ × _ × State => Keeps s0 x.2.2) (fun _ => h_1) (fun _ => keepsAt_ite (P := fun x : _ × _ × State => Keeps
        s0 x.2.2) (fun _ => h_1) (fun _ => keepsAt_ite (P := fun x : _ × _ × State => Keeps s0 x.2.2) (fun _ => State.getMem_keeps h_1) (fun _
        => State.getMem_keeps h_1)))

theorem State.assocSample_keeps {s0 s1 a2 a3 a4} (h_1 : Keeps s0 s1) :
    Keeps s0 (State.assocSample s1 a2 a3 a4).2.2 := by
  unfold State.assocSample
  try dsimp only
  exact keepsAt_ite (P := fun x : _ × _ × State => Keeps s0 x.2.2) (fun _ => h_1) (fun _ => State.flowSample_keeps h_1)

theorem State.destSample_keeps {s0 s1 a2 a3 a4 a5 a6} (h_1 : Keeps s0 s1) :
    Keeps s0 (State.destSample s1 a2 a3 a4 a5 a6).2.2 := by
  unfold State.destSample
  try dsimp only
  split
  · exact State.assocSample_keeps h_1
  · exact keepsAt_ite (P := fun x : _ × _ × State => Keeps s0 x.2.2) (fun _ => State.assocSample_keeps h_1) (fun _ => keepsAt_ite (P := fun x :
        _ × _ × State => Keeps s0 x.2.2) (fun _ => State.assocSample_keeps h_1) (fun _ => State.assocSample_keeps (State.assocSample_keeps
        h_1)))

theorem State.mapSamples_keeps {s0 s1 a2 a3 a4 a5 a6} (h_1 : Keeps s0 s1) :
    Keeps s0 (State.mapSamples s1 a2 a3 a4 a5 a6).2.2 := by
  unfold State.mapSamples
  try dsimp only
  exact keepsAt_foldl (P := fun x : _ × _ × State => Keeps s0 x.2.2) (fun _ _ h0 => keepsAt_ite (P := fun x : _ × _ × State => Keeps s0 x.2.2)
      (fun _ => h0) (fun _ => State.destSample_keeps h0)) h_1

theorem State.headSample_keeps {s0 s1 a2 a3} (h_1 : Keeps s0 s1) :
    Keeps s0 (State.headSample s1 a2 a3) := by
  unfold State.headSample
  try dsimp only
  exact State.modHead_keeps (keeps_ite (fun _ => State.setYoyo_keeps (State.mapSamples_keeps h_1)) (fun _ => State.mapSamples_keeps h_1))

theorem State.emitSamples_keeps {s0 s1} (h_1 : Keeps s0 s1) :
    Keeps s0 (State.emitSamples s1) := by
  unfold State.emitSamples
  try dsimp only
  exact keeps_foldl (fun _ _ h0 => keeps_ite (fun _ => h0) (fun _ => State.headSample_keeps h0)) h_1

theorem State.track_keeps {s0 s1 a2} (h_1 : Keeps s0 s1) : Keeps s0 (State.track s1 a2) := by
  unfold State.track
  extract_lets a
  have ha : Keeps s0 a := State.stepTp_keeps h_1
  clear_value a
  exact keeps_mk ha rfl

theorem State.moveTp_keeps {s0 s1 a2 a3} (h_1 : Keeps s0 s1) :
    Keeps s0 (State.moveTp s1 a2 a3) := by
  unfold State.moveTp
  try dsimp only
  exact keeps_mk h_1 rfl

theorem State.tickTracking_keeps {s0 s1} (h_1 : Keeps s0 s1) :
    Keeps s0 (State.tickTracking s1) := by
  unfold State.tickTracking
  try dsimp only
  exact keeps_ite (fun _ => keeps_mk (State.moveTp_keeps h_1) rfl) (fun _ => keeps_mk (State.moveTp_keeps (keeps_ite (fun _ => h_1) (fun _ =>
      State.jumpRefused_keeps h_1))) rfl)

theorem State.tickFree_keeps {s0 s1} (h_1 : Keeps s0 s1) :
    Keeps s0 (State.tickFree s1) := by
  unfold State.tickFree
  try dsimp only
  exact keeps_ite (fun _ => State.moveTp_keeps h_1) (fun _ => keeps_ite (fun _ => State.track_keeps (State.moveTp_keeps h_1)) (fun _ =>
      keeps_ite (fun _ => keeps_mk (State.moveTp_keeps h_1) rfl) (fun _ => State.moveTp_keeps h_1)))

theorem State.tickTp_keeps {s0 s1} (h_1 : Keeps s0 s1) :
    Keeps s0 (State.tickTp s1) := by
  unfold State.tickTp
  try dsimp only
  split
  · split
    · exact State.track_keeps (keeps_mk h_1 rfl)
    · exact State.stepTp_keeps (keeps_mk h_1 rfl)
  · exact keeps_ite (fun _ => keeps_mk (State.track_keeps h_1) rfl) (fun _ => keeps_ite (fun _ => State.tickTracking_keeps h_1) (fun _ =>
        State.tickFree_keeps h_1))

theorem State.tickCounters_keeps {s0 s1} (h_1 : Keeps s0 s1) :
    Keeps s0 (State.tickCounters s1) := by
  unfold State.tickCounters
  try dsimp only
  exact keeps_mk h_1 rfl

theorem execTimeTick_keeps {s0 s1} (h_1 : Keeps s0 s1) :
    KeepsO s0 (execTimeTick s1) := by
  unfold execTimeTick
  try dsimp only
  exact keepsO_next (keeps_ite (fun _ => h_1) (fun _ => State.emitSamples_keeps (State.tickTp_keeps (State.tickCounters_keeps h_1))))

theorem execAutoSelect_keeps {s0 s1} (h_1 : Keeps s0 s1) :
    KeepsO s0 (execAutoSelect s1) := by
  unfold execAutoSelect
  try dsimp only
  exact keepsO_next (keeps_ite (fun _ => State.takeDomain_keeps h_1) (fun _ => h_1))

theorem State.takeGm_keeps {s0 s1 a2 a3} (h_1 : Keeps s0 s1) :
    Keeps s0 (State.takeGm s1 a2 a3) := by
  unfold State.takeGm
  try dsimp only
  exact State.domainState_keeps (State.setDomain_keeps h_1)

theorem State.ptpAnnounce_keeps {s0 s1 a2 a3} (h_1 : Keeps s0 s1) :
    Keeps s0 (State.ptpAnnounce s1 a2 a3) := by
  unfold State.ptpAnnounce
  try dsimp only
  split
  · exact keeps_ite (fun _ => State.takeGm_keeps h_1) (fun _ => h_1)
  · exact keeps_ite (fun _ => keeps_ite (fun _ => State.takeGm_keeps (State.setDomain_keeps h_1)) (fun _ => State.setDomain_keeps h_1)) (fun _
        => keeps_ite (fun _ => State.takeGm_keeps h_1) (fun _ => h_1))

theorem State.setRate_keeps {s0 s1 a2 a3} (h_1 : Keeps s0 s1) :
    Keeps s0 (State.setRate s1 a2 a3) := by
  unfold State.setRate
  try dsimp only
  exact keeps_ite (fun _ => keeps_mk h_1 rfl) (fun _ => keeps_mk h_1 rfl)

theorem State.servoStep_keeps {s0 s1 a2} (h_1 : Keeps s0 s1) :
    Keeps s0 (State.servoStep s1 a2) := by
  unfold State.servoStep
  try dsimp only
  exact keeps_ite (fun _ => keeps_mk (State.drawInt_keeps h_1) rfl) (fun _ => keeps_mk (State.drawInt_keeps h_1) rfl)

theorem State.ptpSync_keeps {s0 s1 a2 a3 a4} (h_1 : Keeps s0 s1) :
    Keeps s0 (State.ptpSync s1 a2 a3 a4) := by
  unfold State.ptpSync
  try dsimp only
  split
  · exact State.domainState_keeps (State.setRate_keeps (State.drawInt_keeps (State.setDomain_keeps h_1)))
  · exact keeps_ite (fun _ => State.domainState_keeps (State.servoStep_keeps (State.setRate_keeps (State.drawInt_keeps (State.setDomain_keeps
        h_1))))) (fun _ => State.servoStep_keeps (State.setRate_keeps (State.drawInt_keeps (State.setDomain_keeps h_1))))
  · exact keeps_ite (fun _ => State.setDomain_keeps (State.domainState_keeps (State.setRate_keeps (State.drawInt_keeps (State.setDomain_keeps
        h_1))))) (fun _ => State.setRate_keeps (State.drawInt_keeps (State.setDomain_keeps h_1)))
  · exact State.setRate_keeps (State.drawInt_keeps (State.setDomain_keeps h_1))

theorem execPtpMessage_keeps {s0 a1 a2 s1} (h_1 : Keeps s0 s1) :
    KeepsO s0 (execPtpMessage a1 a2 s1) := by
  unfold execPtpMessage
  try dsimp only
  refine keepsO_next ?_
  refine keeps_ite (fun _ => h_1) (fun _ => ?_)
  refine keeps_ite (fun _ => State.ptpAnnounce_keeps h_1) (fun _ => ?_)
  refine keeps_ite (fun _ => State.setDomain_keeps h_1) (fun _ => ?_)
  refine keeps_ite (fun _ => h_1) (fun _ => ?_)
  split
  · exact State.ptpSync_keeps h_1
  · exact State.setDomain_keeps h_1
  · exact State.setDomain_keeps h_1
  · exact h_1

theorem State.listen_keeps {s0 s1 a2} (h_1 : Keeps s0 s1) :
    Keeps s0 (State.listen s1 a2) := by
  unfold State.listen
  try dsimp only
  exact State.setDomain_keeps (State.domainState_keeps h_1)

theorem execSyncLoss_keeps {s0 a1 s1} (h_1 : Keeps s0 s1) :
    KeepsO s0 (execSyncLoss a1 s1) := by
  unfold execSyncLoss
  try dsimp only
  refine keepsO_next ?_
  refine keeps_ite (fun _ => h_1) (fun _ => ?_)
  split
  · exact State.domainState_keeps h_1
  · exact State.listen_keeps h_1
  · exact h_1

theorem execHoldoverLimit_keeps {s0 a1 s1} (h_1 : Keeps s0 s1) :
    KeepsO s0 (execHoldoverLimit a1 s1) := by
  unfold execHoldoverLimit
  try dsimp only
  exact keepsO_next (keeps_ite (fun _ => State.listen_keeps h_1) (fun _ => h_1))

theorem execEvtCapture_keeps {s0 a1 a2 a3 s1} (h_1 : Keeps s0 s1) :
    KeepsO s0 (execEvtCapture a1 a2 a3 s1) := by
  unfold execEvtCapture
  try dsimp only
  exact keepsO_next (keeps_ite (fun _ => h_1) (fun _ => keeps_ite (fun _ => State.setEvtIn_keeps h_1) (fun _ => keeps_ite (fun _ =>
      State.post_keeps (State.setEvtIn_keeps h_1)) (fun _ => State.setEvtIn_keeps h_1))))

theorem execEvtOutPulse_keeps {s0 a1 s1} (h_1 : Keeps s0 s1) :
    KeepsO s0 (execEvtOutPulse a1 s1) := by
  unfold execEvtOutPulse
  try dsimp only
  refine keepsO_next ?_
  refine keeps_ite (fun _ => h_1) (fun _ => ?_)
  refine keeps_ite (fun _ => ?_) (fun _ => ?_)
  · refine keeps_ite (fun _ => h_1) (fun _ => ?_)
    split
    · exact State.setEvtOut_keeps h_1
    · exact State.setEvtOut_keeps h_1
  · split
    · exact keeps_ite (fun _ => State.setEvtOut_keeps h_1) (fun _ => h_1)
    · exact h_1

theorem State.toFirmware_keeps {s0 s1 a2 a3} (h_1 : Keeps s0 s1) :
    Keeps s0 (State.toFirmware s1 a2 a3) := by
  unfold State.toFirmware
  try dsimp only
  exact keeps_ite (fun _ => State.setPort_keeps h_1) (fun _ => State.portCount_keeps h_1)

theorem State.legCount_keeps {s0 s1 a2 a3 a4 a5} (h_1 : Keeps s0 s1) :
    Keeps s0 (State.legCount s1 a2 a3 a4 a5) := by
  unfold State.legCount
  try dsimp only
  exact State.setFlow_keeps h_1

theorem State.merge_keeps {s0 s1 a2 a3 a4 a5} (h_1 : Keeps s0 s1) :
    Keeps s0 (State.merge s1 a2 a3 a4 a5).2 := by
  unfold State.merge
  try dsimp only
  exact keepsAt_ite (P := fun x : _ × State => Keeps s0 x.2) (fun _ => State.setFlow_keeps h_1) (fun _ => keepsAt_ite (P := fun x : _ × State =>
      Keeps s0 x.2) (fun _ => State.setFlow_keeps h_1) (fun _ => h_1))

theorem State.putSrd_keeps {s0 s1 a2 a3 a4 a5} (h_1 : Keeps s0 s1) :
    Keeps s0 (State.putSrd s1 a2 a3 a4 a5) := by
  unfold State.putSrd
  try dsimp only
  exact keeps_foldl (fun _ _ h0 => keeps_foldl (fun _ _ h1 => State.putSample_keeps h1) h0) h_1

theorem State.videoWrite_keeps {s0 s1 a2 a3 a4 a5 a6 a7 a8 a9 a10} (h_1 : Keeps s0 s1) :
    Keeps s0 (State.videoWrite s1 a2 a3 a4 a5 a6 a7 a8 a9 a10) := by
  unfold State.videoWrite
  try dsimp only
  exact keeps_ite (fun _ => State.closeSlot_keeps (State.setFlow_keeps (State.putSlot_keeps (keepsAt_foldl (P := fun x : State × _ => Keeps s0
      x.1) (fun _ _ h4 => State.putSrd_keeps h4) h_1)))) (fun _ => State.setFlow_keeps (State.putSlot_keeps (keepsAt_foldl (P := fun x : State ×
      _ => Keeps s0 x.1) (fun _ _ h3 => State.putSrd_keeps h3) h_1)))

theorem State.planFollowers_keeps {s0 s1 a2 a3} (h_1 : Keeps s0 s1) :
    Keeps s0 (State.planFollowers s1 a2 a3) := by
  unfold State.planFollowers
  try dsimp only
  exact keeps_foldl (fun _ _ h0 => keeps_ite (fun _ => State.followPlan_keeps h0) (fun _ => h0)) h_1

theorem State.openIn_keeps {s0 s1 a2 a3 a4 a5 a6 a7} (h_1 : Keeps s0 s1) :
    Keeps s0 (State.openIn s1 a2 a3 a4 a5 a6 a7) := by
  unfold State.openIn
  try dsimp only
  split
  · exact State.setFlow_keeps h_1
  · exact State.planFollowers_keeps (State.putSlot_keeps (State.setFlow_keeps h_1))

theorem State.makeRoom_keeps {s0 s1 a2 a3} (h_1 : Keeps s0 s1) :
    Keeps s0 (State.makeRoom s1 a2 a3) := by
  unfold State.makeRoom
  try dsimp only
  refine keeps_ite (fun _ => ?_) (fun _ => h_1)
  split
  · exact State.closeSlot_keeps h_1
  · exact h_1

theorem State.openFrame_keeps {s0 s1 a2 a3 a4 a5 a6} (h_1 : Keeps s0 s1) :
    Keeps s0 (State.openFrame s1 a2 a3 a4 a5 a6).2 := by
  unfold State.openFrame
  try dsimp only
  exact State.openIn_keeps (State.makeRoom_keeps h_1)

theorem State.videoSlot_keeps {s0 s1 a2 a3 a4 a5 a6} (h_1 : Keeps s0 s1) :
    Keeps s0 (State.videoSlot s1 a2 a3 a4 a5 a6).2 := by
  unfold State.videoSlot
  try dsimp only
  split
  · exact h_1
  · exact keepsAt_ite (P := fun x : _ × State => Keeps s0 x.2) (fun _ => h_1) (fun _ => keepsAt_ite (P := fun x : _ × State => Keeps s0 x.2)
        (fun _ => State.openFrame_keeps h_1) (fun _ => State.setFlow_keeps h_1))

theorem State.video_keeps {s0 s1 a2 a3 a4 a5 a6 a7 a8} (h_1 : Keeps s0 s1) :
    Keeps s0 (State.video s1 a2 a3 a4 a5 a6 a7 a8) := by
  unfold State.video
  try dsimp only
  split
  · exact State.legCount_keeps h_1
  · refine keeps_ite (fun _ => State.legCount_keeps h_1) (fun _ => ?_)
    refine keeps_ite (fun _ => State.merge_keeps h_1) (fun _ => ?_)
    split
    · exact State.videoWrite_keeps (State.videoSlot_keeps (State.merge_keeps h_1))
    · exact State.videoSlot_keeps (State.merge_keeps h_1)

theorem State.audioIn_keeps {s0 s1 a2 a3 a4 a5 a6 a7} (h_1 : Keeps s0 s1) :
    Keeps s0 (State.audioIn s1 a2 a3 a4 a5 a6 a7) := by
  unfold State.audioIn
  try dsimp only
  exact keeps_ite (fun _ => State.legCount_keeps h_1) (fun _ => keeps_ite (fun _ => State.legCount_keeps h_1) (fun _ => keeps_ite (fun _ =>
      State.merge_keeps h_1) (fun _ => State.setFlow_keeps (keeps_foldl (fun _ _ h4 => State.putMem_keeps h4) (State.merge_keeps h_1)))))

theorem State.ancIn_keeps {s0 s1 a2 a3 a4 a5 a6 a7} (h_1 : Keeps s0 s1) :
    Keeps s0 (State.ancIn s1 a2 a3 a4 a5 a6 a7) := by
  unfold State.ancIn
  try dsimp only
  refine keeps_ite (fun _ => State.merge_keeps h_1) (fun _ => ?_)
  split
  · exact State.setFlow_keeps (State.getMem_keeps (State.merge_keeps h_1))
  · exact State.putMem_keeps (State.setFlow_keeps (State.putMem_keeps (keeps_ite (fun _ => State.putMem_keeps (State.getMem_keeps
        (State.merge_keeps h_1))) (fun _ => State.getMem_keeps (State.merge_keeps h_1)))))

theorem State.legPacket_keeps {s0 s1 a2 a3 a4 a5 a6 a7} (h_1 : Keeps s0 s1) :
    Keeps s0 (State.legPacket s1 a2 a3 a4 a5 a6 a7) := by
  unfold State.legPacket
  try dsimp only
  split
  · exact keeps_ite (fun _ => h_1) (fun _ => State.legActive_keeps h_1)
  · split
    · exact State.legCount_keeps (State.legCount_keeps (keeps_ite (fun _ => h_1) (fun _ => State.legActive_keeps h_1)))
    · refine keeps_ite (fun _ => State.legCount_keeps (State.legCount_keeps (keeps_ite (fun _ => h_1) (fun _ => State.legActive_keeps h_1))))
          (fun _ => ?_)
      refine keeps_ite (fun _ => keeps_ite (fun _ => State.setFlow_keeps (State.legCount_keeps (State.legCount_keeps (State.legCount_keeps
          (keeps_ite (fun _ => h_1) (fun _ => State.legActive_keeps h_1)))))) (fun _ => State.legCount_keeps (State.legCount_keeps
          (State.legCount_keeps (keeps_ite (fun _ => h_1) (fun _ => State.legActive_keeps h_1)))))) (fun _ => ?_)
      split
      · exact State.video_keeps (keeps_ite (fun _ => State.setFlow_keeps (State.legCount_keeps (State.legCount_keeps (State.legCount_keeps
            (keeps_ite (fun _ => h_1) (fun _ => State.legActive_keeps h_1)))))) (fun _ => State.legCount_keeps (State.legCount_keeps
            (State.legCount_keeps (keeps_ite (fun _ => h_1) (fun _ => State.legActive_keeps h_1))))))
      · exact State.audioIn_keeps (keeps_ite (fun _ => State.setFlow_keeps (State.legCount_keeps (State.legCount_keeps (State.legCount_keeps
            (keeps_ite (fun _ => h_1) (fun _ => State.legActive_keeps h_1)))))) (fun _ => State.legCount_keeps (State.legCount_keeps
            (State.legCount_keeps (keeps_ite (fun _ => h_1) (fun _ => State.legActive_keeps h_1))))))
      · exact State.ancIn_keeps (keeps_ite (fun _ => State.setFlow_keeps (State.legCount_keeps (State.legCount_keeps (State.legCount_keeps
            (keeps_ite (fun _ => h_1) (fun _ => State.legActive_keeps h_1)))))) (fun _ => State.legCount_keeps (State.legCount_keeps
            (State.legCount_keeps (keeps_ite (fun _ => h_1) (fun _ => State.legActive_keeps h_1))))))

theorem execFrameReceive_keeps {s0 a1 a2 a3 s1} (h_1 : Keeps s0 s1) :
    KeepsO s0 (execFrameReceive a1 a2 a3 s1) := by
  unfold execFrameReceive
  try dsimp only
  refine keepsO_next ?_
  refine keeps_ite (fun _ => h_1) (fun _ => ?_)
  refine keeps_ite (fun _ => State.portCount_keeps (State.portCount_keeps (State.portCount_keeps h_1))) (fun _ => ?_)
  split
  · exact State.portCount_keeps (State.portCount_keeps (State.portCount_keeps h_1))
  · refine keeps_ite (fun _ => State.toFirmware_keeps (State.portCount_keeps (State.portCount_keeps h_1))) (fun _ => ?_)
    split
    · exact State.portCount_keeps (State.portCount_keeps (State.portCount_keeps h_1))
    · refine keeps_ite (fun _ => State.toFirmware_keeps (State.portCount_keeps (State.portCount_keeps h_1))) (fun _ => ?_)
      split
      · exact State.portCount_keeps (State.portCount_keeps (State.portCount_keeps h_1))
      · refine keeps_ite (fun _ => State.toFirmware_keeps (State.portCount_keeps (State.portCount_keeps h_1))) (fun _ => ?_)
        split
        · exact State.portCount_keeps (State.portCount_keeps (State.portCount_keeps h_1))
        · exact State.legPacket_keeps (keeps_ite (fun _ => State.setYoyo_keeps (State.portCount_keeps (State.portCount_keeps h_1))) (fun _
              => State.portCount_keeps (State.portCount_keeps h_1)))

theorem State.sendCtrl_keeps {s0 s1 a2 a3} (h_1 : Keeps s0 s1) :
    Keeps s0 (State.sendCtrl s1 a2 a3) := by
  unfold State.sendCtrl
  try dsimp only
  exact State.setPort_keeps h_1

theorem State.fwSend_keeps {s0 s1 a2 a3} (h_1 : Keeps s0 s1) :
    Keeps s0 (State.fwSend s1 a2 a3) := by
  unfold State.fwSend
  try dsimp only
  exact keeps_ite (fun _ => State.sendCtrl_keeps h_1) (fun _ => h_1)

theorem State.answerEcho_keeps {s0 s1 a2 a3} (h_1 : Keeps s0 s1) :
    Keeps s0 (State.answerEcho s1 a2 a3) := by
  unfold State.answerEcho
  try dsimp only
  exact keeps_ite (fun _ => h_1) (fun _ => State.fwSend_keeps (State.setPort_keeps h_1))

theorem State.answerQuery_keeps {s0 s1 a2 a3 a4} (h_1 : Keeps s0 s1) :
    Keeps s0 (State.answerQuery s1 a2 a3 a4) := by
  unfold State.answerQuery
  try dsimp only
  exact keeps_foldl (fun _ _ h0 => State.fwSend_keeps h0) h_1

theorem State.fwFrame_keeps {s0 s1 a2 a3} (h_1 : Keeps s0 s1) :
    Keeps s0 (State.fwFrame s1 a2 a3) := by
  unfold State.fwFrame
  try dsimp only
  split
  · exact keeps_ite (fun _ => State.fwSend_keeps h_1) (fun _ => h_1)
  · split
    · exact h_1
    · split
      · exact keeps_ite (fun _ => State.answerEcho_keeps h_1) (fun _ => State.portCount_keeps h_1)
      · exact keeps_ite (fun _ => State.answerQuery_keeps h_1) (fun _ => State.portCount_keeps h_1)
      · exact keeps_ite (fun _ => State.answerEcho_keeps h_1) (fun _ => keeps_ite (fun _ => State.answerQuery_keeps h_1) (fun _ => keeps_ite
            (fun _ => keeps_ite (fun _ => State.fwSend_keeps h_1) (fun _ => h_1)) (fun _ => keeps_ite (fun _ => h_1) (fun _ =>
            State.portCount_keeps h_1))))
      · exact h_1

theorem execControlFrameHandle_keeps {s0 a1 s1} (h_1 : Keeps s0 s1) :
    KeepsO s0 (execControlFrameHandle a1 s1) := by
  unfold execControlFrameHandle
  try dsimp only
  refine keepsO_next ?_
  split
  · exact keeps_ite (fun _ => State.fwFrame_keeps (State.setPort_keeps h_1)) (fun _ => h_1)
  · exact h_1

theorem execMembershipReport_keeps {s0 a1 a2 a3 s1} (h_1 : Keeps s0 s1) :
    KeepsO s0 (execMembershipReport a1 a2 a3 s1) := by
  unfold execMembershipReport
  try dsimp only
  refine keepsO_next ?_
  split
  · exact keeps_ite (fun _ => State.fwSend_keeps h_1) (fun _ => h_1)
  · exact h_1

theorem execFrameClose_keeps {s0 a1 s1} (h_1 : Keeps s0 s1) :
    KeepsO s0 (execFrameClose a1 s1) := by
  unfold execFrameClose
  try dsimp only
  refine keepsO_next ?_
  split
  · exact keeps_foldl (fun _ _ h1 => keeps_ite (fun _ => State.closeSlot_keeps h1) (fun _ => h1)) h_1
  · exact h_1

theorem execPortUp_keeps {s0 a1 s1} (h_1 : Keeps s0 s1) :
    KeepsO s0 (execPortUp a1 s1) := by
  unfold execPortUp
  try dsimp only
  exact keepsO_next (keeps_ite (fun _ => h_1) (fun _ => State.post_keeps (State.setPort_keeps h_1)))

theorem execPortDown_keeps {s0 a1 s1} (h_1 : Keeps s0 s1) :
    KeepsO s0 (execPortDown a1 s1) := by
  unfold execPortDown
  try dsimp only
  exact keepsO_next (keeps_ite (fun _ => State.portDrop_keeps h_1) (fun _ => h_1))

theorem execLegLost_keeps {s0 a1 a2 a3 s1} (h_1 : Keeps s0 s1) :
    KeepsO s0 (execLegLost a1 a2 a3 s1) := by
  unfold execLegLost
  try dsimp only
  exact keepsO_next (keeps_ite (fun _ => State.legInactive_keeps h_1) (fun _ => h_1))

theorem State.unitOff_keeps {s0 s1 a2} (h_1 : Keeps s0 s1) :
    Keeps s0 (State.unitOff s1 a2) := by
  unfold State.unitOff
  try dsimp only
  exact keeps_ite (fun _ => State.lanesOff_keeps h_1) (fun _ => keeps_ite (fun _ => State.lanesOff_keeps h_1) (fun _ => h_1))

theorem execYoyoWindow_keeps {s0 a1 a2 s1} (h_1 : Keeps s0 s1) :
    KeepsO s0 (execYoyoWindow a1 a2 s1) := by
  unfold execYoyoWindow
  try dsimp only
  exact keepsO_next (keeps_ite (fun _ => h_1) (fun _ => keeps_ite (fun _ => State.setYoyo_keeps h_1) (fun _ => State.unitOff_keeps
      (State.setYoyo_keeps h_1))))

theorem State.postWatched_keeps {s0 s1 a2} (h_1 : Keeps s0 s1) :
    Keeps s0 (State.postWatched s1 a2) := by
  unfold State.postWatched
  try dsimp only
  exact keeps_foldl (fun _ _ h0 => State.post_keeps h0) h_1

theorem execYoyoCompare_keeps {s0 a1 s1} (h_1 : Keeps s0 s1) :
    KeepsO s0 (execYoyoCompare a1 s1) := by
  unfold execYoyoCompare
  try dsimp only
  exact keepsO_next (keeps_ite (fun _ => h_1) (fun _ => keeps_ite (fun _ => State.post_keeps (keeps_ite (fun _ => State.postWatched_keeps
      (State.setYoyo_keeps h_1)) (fun _ => keeps_ite (fun _ => State.post_keeps (State.setYoyo_keeps h_1)) (fun _ => State.postWatched_keeps
      (State.setYoyo_keeps h_1))))) (fun _ => keeps_ite (fun _ => State.postWatched_keeps (State.setYoyo_keeps h_1)) (fun _ => keeps_ite (fun _
      => State.post_keeps (State.setYoyo_keeps h_1)) (fun _ => State.postWatched_keeps (State.setYoyo_keeps h_1))))))

theorem execYoyoMembershipReport_keeps {s0 a1 s1} (h_1 : Keeps s0 s1) :
    KeepsO s0 (execYoyoMembershipReport a1 s1) := by
  unfold execYoyoMembershipReport
  try dsimp only
  exact keepsO_next (keeps_ite (fun _ => h_1) (fun _ => keeps_foldl (fun _ _ h1 => State.sendCtrl_keeps h1) h_1))

theorem State.txBegin_keeps {s0 s1 a2} (h_1 : Keeps s0 s1) :
    Keeps s0 (State.txBegin s1 a2) := by
  unfold State.txBegin
  try dsimp only
  refine keeps_ite (fun _ => h_1) (fun _ => ?_)
  split
  · exact State.setTx_keeps h_1
  · exact State.setTx_keeps h_1

theorem State.sendFrame_keeps {s0 s1 a2 a3} (h_1 : Keeps s0 s1) :
    Keeps s0 (State.sendFrame s1 a2 a3) := by
  unfold State.sendFrame
  try dsimp only
  exact State.setPort_keeps h_1

theorem State.sendMedia_keeps {s0 s1 a2 a3 a4 a5} (h_1 : Keeps s0 s1) :
    Keeps s0 (State.sendMedia s1 a2 a3 a4 a5) := by
  unfold State.sendMedia
  try dsimp only
  exact keeps_foldl (fun _ _ h0 => keeps_ite (fun _ => State.sendFrame_keeps (State.setTx_keeps h0)) (fun _ => State.setTx_keeps h0)) h_1

theorem State.videoPayload_keeps {s0 s1 a2 a3 a4 a5 a6 a7} (h_1 : Keeps s0 s1) :
    Keeps s0 (State.videoPayload s1 a2 a3 a4 a5 a6 a7).2 := by
  unfold State.videoPayload
  try dsimp only
  exact keeps_foldl (fun _ _ h0 => State.getMem_keeps h0) h_1

theorem State.txVideo_keeps {s0 s1 a2 a3 a4} (h_1 : Keeps s0 s1) :
    Keeps s0 (State.txVideo s1 a2 a3 a4) := by
  unfold State.txVideo
  try dsimp only
  exact keeps_ite (fun _ => h_1) (fun _ => keeps_ite (fun _ => State.txBegin_keeps h_1) (fun _ => keeps_ite (fun _ => State.setTx_keeps
      (State.txBegin_keeps h_1)) (fun _ => State.setTx_keeps (State.sendMedia_keeps (State.videoPayload_keeps (State.txBegin_keeps h_1))))))

theorem execTxPacketLaunch_keeps {s0 a1 s1} (h_1 : Keeps s0 s1) :
    KeepsO s0 (execTxPacketLaunch a1 s1) := by
  unfold execTxPacketLaunch
  try dsimp only
  refine keepsO_next ?_
  refine keeps_ite (fun _ => h_1) (fun _ => ?_)
  split
  · exact State.txVideo_keeps (keeps_ite (fun _ => h_1) (fun _ => State.setTx_keeps h_1))
  · exact h_1

theorem State.txPayload_keeps {s0 s1 a2 a3 a4 a5} (h_1 : Keeps s0 s1) :
    Keeps s0 (State.txPayload s1 a2 a3 a4 a5).2 := by
  unfold State.txPayload
  try dsimp only
  exact keeps_mk (keepsAt_foldl (P := fun x : _ × _ × State => Keeps s0 x.2.2) (fun _ _ h0 => State.mapSamples_keeps h0) h_1) rfl

theorem State.txAudioPacket_keeps {s0 s1 a2 a3} (h_1 : Keeps s0 s1) :
    Keeps s0 (State.txAudioPacket s1 a2 a3) := by
  unfold State.txAudioPacket
  try dsimp only
  exact keeps_ite (fun _ => h_1) (fun _ => keeps_ite (fun _ => State.setTx_keeps h_1) (fun _ => State.setTx_keeps (State.sendMedia_keeps
      (State.txPayload_keeps h_1))))

theorem execAudioTxLaunch_keeps {s0 a1 s1} (h_1 : Keeps s0 s1) :
    KeepsO s0 (execAudioTxLaunch a1 s1) := by
  unfold execAudioTxLaunch
  try dsimp only
  refine keepsO_next ?_
  refine keeps_ite (fun _ => h_1) (fun _ => ?_)
  split
  · exact State.txAudioPacket_keeps (keeps_ite (fun _ => h_1) (fun _ => State.setTx_keeps h_1))
  · exact h_1

theorem execLinkFault_keeps {s0 a1 a2 s1} (h_1 : Keeps s0 s1) :
    KeepsO s0 (execLinkFault a1 a2 s1) := by
  unfold execLinkFault
  try dsimp only
  exact keepsO_next (keeps_ite (fun _ => State.setPort_keeps h_1) (fun _ => h_1))

theorem execDelayReq_keeps {s0 a1 s1} (h_1 : Keeps s0 s1) :
    KeepsO s0 (execDelayReq a1 s1) := by
  unfold execDelayReq
  try dsimp only
  refine keepsO_next ?_
  refine keeps_ite (fun _ => h_1) (fun _ => ?_)
  split
  · exact keeps_ite (fun _ => State.sendCtrl_keeps (State.setDomain_keeps h_1)) (fun _ => h_1)
  · exact h_1

end Sys2Proof.Machine
end

