-- ==== Sys2Proof/Laws/KeepsPower.lean ====
section
/-! SUPPORT. Keeps: power, the power domains, the pair and function resets. One lemma per operation: the queue is untouched and a sound machine stays sound. -/

namespace Sys2Proof.Machine

open Sys2Proof.Laws Sys2Proof.Safety

theorem State.funcStart_keeps {s0 s1 a2} (h_1 : Keeps s0 s1) :
    Keeps s0 (State.funcStart s1 a2) := by
  unfold State.funcStart
  try dsimp only
  exact keeps_ite (fun _ => State.resetRows_keeps (State.stopHead_keeps (keeps_mk h_1 rfl))) (fun _ => keeps_ite (fun _ => State.pairDown_keeps
      (keeps_mk h_1 rfl)) (fun _ => keeps_ite (fun _ => keeps_ite (fun _ => rescan_keeps (keeps_mk h_1 rfl)) (fun _ => keeps_mk h_1 rfl)) (fun _
      => keeps_ite (fun _ => keeps_foldl (fun _ _ h4 => State.modHead_keeps h4) (keeps_mk h_1 rfl)) (fun _ => keeps_mk h_1 rfl))))

theorem execFuncReset_keeps {s0 a1 a2 s1} (h_1 : Keeps s0 s1) :
    KeepsO s0 (execFuncReset a1 a2 s1) := by
  unfold execFuncReset
  try dsimp only
  exact keepsO_next (runLater_keeps h_1 (fun _ _ h0 => State.addRunning_keeps (State.funcStart_keeps h0)))

theorem State.windupAnswer_keeps {s0 s1 a2 a3} (h_1 : Keeps s0 s1) :
    Keeps s0 (State.windupAnswer s1 a2 a3) := by
  unfold State.windupAnswer
  try dsimp only
  split
  · exact keeps_ite (fun _ => State.addProc_keeps (State.finish_keeps h_1)) (fun _ => State.finish_keeps h_1)
  · exact h_1

theorem State.setPhase_keeps {s0 s1 a2 a3} (h_1 : Keeps s0 s1) :
    Keeps s0 (State.setPhase s1 a2 a3) := by
  unfold State.setPhase
  try dsimp only
  exact State.modHead_keeps h_1

theorem State.windupBegin_keeps {s0 s1 a2} (h_1 : Keeps s0 s1) :
    Keeps s0 (State.windupBegin s1 a2) := by
  unfold State.windupBegin
  try dsimp only
  exact incCounter_keeps (keeps_mk (State.modHead_keeps h_1) rfl)

theorem State.batonPins_keeps {s0 s1} (h_1 : Keeps s0 s1) :
    Keeps s0 (State.batonPins s1) := by
  unfold State.batonPins
  try dsimp only
  exact keeps_mk h_1 rfl

theorem execPanelWindup_keeps {s0 a1 a2 s1} (h_1 : Keeps s0 s1) :
    KeepsO s0 (execPanelWindup a1 a2 s1) := by
  unfold execPanelWindup
  try dsimp only
  exact keepsO_next (runLater_keeps h_1 (fun _ _ h0 => keeps_ite (fun _ => State.windupAnswer_keeps (State.setPhase_keeps
      (State.windupBegin_keeps (State.addRunning_keeps h0)))) (fun _ => State.batonPins_keeps (State.modHead_keeps (State.addRunning_keeps
      h0)))))

theorem State.releaseNets_keeps {s0 s1 a2} (h_1 : Keeps s0 s1) :
    Keeps s0 (State.releaseNets s1 a2) := by
  unfold State.releaseNets
  try dsimp only
  exact State.batonPins_keeps (keeps_foldl (fun _ _ h1 => State.linkTo_keeps h1) (State.modHead_keeps h_1))

theorem State.windupFailed_keeps {s0 s1 a2} (h_1 : Keeps s0 s1) :
    Keeps s0 (State.windupFailed s1 a2) := by
  unfold State.windupFailed
  try dsimp only
  exact State.endProcs_keeps (State.post_keeps (State.releaseNets_keeps h_1))

theorem State.headOff_keeps {s0 s1 a2} (h_1 : Keeps s0 s1) :
    Keeps s0 (State.headOff s1 a2) := by
  unfold State.headOff
  try dsimp only
  exact State.applyParked_keeps (State.modHead_keeps h_1)

theorem State.poweredDown_keeps {s0 s1 a2} (h_1 : Keeps s0 s1) :
    Keeps s0 (State.poweredDown s1 a2) := by
  unfold State.poweredDown
  try dsimp only
  exact State.endProcs_keeps (State.headOff_keeps (State.releaseNets_keeps h_1))

theorem State.wdLastDrop_keeps {s0 s1 a2} (h_1 : Keeps s0 s1) :
    Keeps s0 (State.wdLastDrop s1 a2) := by
  unfold State.wdLastDrop
  try dsimp only
  exact keeps_ite (fun _ => State.headOff_keeps (State.post_keeps (keeps_ite (fun _ => State.releaseNets_keeps h_1) (fun _ =>
      commitShutdown_keeps (State.releaseNets_keeps h_1))))) (fun _ => State.releaseNets_keeps h_1)

theorem State.dropEnable_keeps {s0 s1 a2} (h_1 : Keeps s0 s1) :
    Keeps s0 (State.dropEnable s1 a2) := by
  unfold State.dropEnable
  try dsimp only
  refine keeps_ite (fun _ => State.modHead_keeps h_1) (fun _ => ?_)
  split
  · exact State.windupFailed_keeps (State.modHead_keeps h_1)
  · exact State.poweredDown_keeps (State.modHead_keeps h_1)
  · exact State.wdLastDrop_keeps (State.modHead_keeps h_1)
  · exact State.modHead_keeps h_1

theorem State.powerDown_keeps {s0 s1 a2} (h_1 : Keeps s0 s1) :
    Keeps s0 (State.powerDown s1 a2) := by
  unfold State.powerDown
  try dsimp only
  exact State.dropEnable_keeps (State.setPhase_keeps h_1)

theorem execPanelPowerdown_keeps {s0 a1 a2 s1} (h_1 : Keeps s0 s1) :
    KeepsO s0 (execPanelPowerdown a1 a2 s1) := by
  unfold execPanelPowerdown
  try dsimp only
  exact keepsO_next (runProc_keeps h_1 (fun _ _ h0 => keeps_ite (fun _ => State.powerDown_keeps (State.addProc_keeps h0)) (fun _ =>
      State.modHead_keeps (State.stopHead_keeps (State.addProc_keeps h0)))))

theorem execPairSet_keeps {s0 a1 a2 a3 a4 a5 s1} (h_1 : Keeps s0 s1) :
    KeepsO s0 (execPairSet a1 a2 a3 a4 a5 s1) := by
  unfold execPairSet
  try dsimp only
  exact keepsO_next (runNow_keeps h_1 (fun _ h0 => keeps_ite (fun _ => State.linkFresh_keeps (keeps_mk h0 rfl)) (fun _ => keeps_ite (fun _ =>
      State.endProcs_keeps (keeps_mk (State.pairDown_keeps (keeps_mk h0 rfl)) rfl)) (fun _ => keeps_mk h0 rfl))))

theorem execPairHandover_keeps {s0 a1 s1} (h_1 : Keeps s0 s1) :
    KeepsO s0 (execPairHandover a1 s1) := by
  unfold execPairHandover
  try dsimp only
  exact keepsO_next (runProc_keeps h_1 (fun _ _ h0 => keeps_ite (fun _ => State.handoverStart_keeps (State.addProc_keeps h0)) (fun _ =>
      State.addProc_keeps h0)))

theorem execPairRejoin_keeps {s0 a1 s1} (h_1 : Keeps s0 s1) :
    KeepsO s0 (execPairRejoin a1 s1) := by
  unfold execPairRejoin
  try dsimp only
  exact keepsO_next (runProc_keeps h_1 (fun _ _ h0 => State.addProc_keeps (keeps_mk h0 rfl)))

theorem execPairStatus_keeps {s0 a1 s1} (h_1 : Keeps s0 s1) :
    KeepsO s0 (execPairStatus a1 s1) := by
  unfold execPairStatus
  try dsimp only
  exact keepsO_next (runRead_keeps h_1)

theorem State.pdBegin_keeps {s0 s1 a2 a3 a4} (h_1 : Keeps s0 s1) :
    Keeps s0 (State.pdBegin s1 a2 a3 a4) := by
  unfold State.pdBegin
  try dsimp only
  exact keeps_ite (fun _ => State.moveDeque_keeps (keeps_mk h_1 rfl)) (fun _ => keeps_mk h_1 rfl)

theorem execPdSet_keeps {s0 a1 a2 a3 s1} (h_1 : Keeps s0 s1) :
    KeepsO s0 (execPdSet a1 a2 a3 s1) := by
  unfold execPdSet
  try dsimp only
  exact keepsO_next (runProc_keeps h_1 (fun _ _ h0 => State.pdBegin_keeps h0))

theorem State.opBegin_keeps {s0 s1 a2 a3} (h_1 : Keeps s0 s1) :
    Keeps s0 (State.opBegin s1 a2 a3) := by
  unfold State.opBegin
  try dsimp only
  exact keeps_mk h_1 rfl

theorem execOpSet_keeps {s0 a1 a2 s1} (h_1 : Keeps s0 s1) :
    KeepsO s0 (execOpSet a1 a2 s1) := by
  unfold execOpSet
  try dsimp only
  exact keepsO_next (runProc_keeps h_1 (fun _ _ h0 => State.opBegin_keeps h0))

theorem State.yoyoEnter_keeps {s0 s1 a2} (h_1 : Keeps s0 s1) :
    Keeps s0 (State.yoyoEnter s1 a2) := by
  unfold State.yoyoEnter
  try dsimp only
  exact keeps_ite (fun _ => State.portDrop_keeps (State.setYoyo_keeps h_1)) (fun _ => State.setYoyo_keeps h_1)

theorem execYoyoSet_keeps {s0 a1 a2 s1} (h_1 : Keeps s0 s1) :
    KeepsO s0 (execYoyoSet a1 a2 s1) := by
  unfold execYoyoSet
  try dsimp only
  exact keepsO_next (runNow_keeps h_1 (fun _ h0 => keeps_ite (fun _ => State.setYoyo_keeps h0) (fun _ => keeps_ite (fun _ => State.setYoyo_keeps
      h0) (fun _ => State.yoyoEnter_keeps h0))))

theorem execPowerStatus_keeps {s0 a1 s1} (h_1 : Keeps s0 s1) :
    KeepsO s0 (execPowerStatus a1 s1) := by
  unfold execPowerStatus
  try dsimp only
  exact keepsO_next (runRead_keeps h_1)

theorem funcResetWrite_keeps {s0 a1 s1} (h_1 : Keeps s0 s1) :
    Keeps s0 (funcResetWrite a1 s1) := by
  unfold funcResetWrite
  try dsimp only
  exact keeps_ite (fun _ => h_1) (fun _ => State.funcStart_keeps h_1)

theorem State.pdIgnore_keeps {s0 s1} (h_1 : Keeps s0 s1) :
    Keeps s0 (State.pdIgnore s1) := by
  unfold State.pdIgnore
  try dsimp only
  exact keeps_mk h_1 rfl

theorem execPdCtl_keeps {s0 a1 s1} (h_1 : Keeps s0 s1) :
    KeepsO s0 (execPdCtl a1 s1) := by
  unfold execPdCtl
  try dsimp only
  exact keepsO_next (keeps_ite (fun _ => h_1) (fun _ => keeps_ite (fun _ => State.pdIgnore_keeps h_1) (fun _ => keeps_ite (fun _ => h_1) (fun _
      => keeps_ite (fun _ => State.pdIgnore_keeps h_1) (fun _ => State.pdBegin_keeps h_1)))))

theorem execOpCtl_keeps {s0 a1 s1} (h_1 : Keeps s0 s1) :
    KeepsO s0 (execOpCtl a1 s1) := by
  unfold execOpCtl
  try dsimp only
  exact keepsO_next (keeps_ite (fun _ => h_1) (fun _ => keeps_ite (fun _ => State.pdIgnore_keeps h_1) (fun _ => keeps_ite (fun _ => h_1) (fun _
      => State.opBegin_keeps h_1))))

theorem State.setWakeMask_keeps {s0 s1 a2 a3} (h_1 : Keeps s0 s1) :
    Keeps s0 (State.setWakeMask s1 a2 a3) := by
  unfold State.setWakeMask
  try dsimp only
  exact keeps_mk h_1 rfl

theorem execFabSel_keeps {s0 a1 s1} (h_1 : Keeps s0 s1) : KeepsO s0 (execFabSel a1 s1) := by
  unfold execFabSel
  refine keepsO_next (keeps_ite (fun _ => h_1) (fun g => keeps_ite (fun _ => keeps_mk h_1 rfl) (fun _ => keeps_to h_1 rfl (fun i => ?_))))
  have lt : bits a1 1 0 < 4 := by unfold bits; omega
  have ne : bits a1 1 0 ≠ 3 := fun e => g (by simp [e])
  exact ⟨i.1, i.2.1, by show bits a1 1 0 ≤ 2; omega, i.2.2.2⟩

theorem execCode_keeps {s0 a1 s1} (h_1 : Keeps s0 s1) :
    KeepsO s0 (execCode a1 s1) := by
  unfold execCode
  try dsimp only
  exact keepsO_next (funcResetWrite_keeps h_1)

theorem State.resetPort_keeps {s0 s1 a2} (h_1 : Keeps s0 s1) :
    Keeps s0 (State.resetPort s1 a2) := by
  unfold State.resetPort
  try dsimp only
  exact keeps_foldl (fun _ _ h0 => State.laneReset_keeps h0) (State.portDrop_keeps h_1)

theorem State.resetMedia_keeps {s0 s1} (h_1 : Keeps s0 s1) :
    Keeps s0 (State.resetMedia s1) := by
  unfold State.resetMedia
  try dsimp only
  refine keeps_foldl (fun _ _ h0 => ?_) (keeps_foldl (fun _ _ h1 => State.closeAll_keeps h1) h_1)
  split
  · exact h0
  · exact State.setFlow_keeps h0

theorem State.resetDest_keeps {s0 s1 a2} (h_1 : Keeps s0 s1) :
    Keeps s0 (State.resetDest s1 a2) := by
  unfold State.resetDest
  try dsimp only
  exact keeps_ite (fun _ => State.setDest_keeps (State.dropDeferred_keeps h_1)) (fun _ => State.dropDeferred_keeps h_1)

theorem State.resetMatrix_keeps {s0 s1} (h_1 : Keeps s0 s1) :
    Keeps s0 (State.resetMatrix s1) := by
  unfold State.resetMatrix
  try dsimp only
  exact keeps_foldl (fun _ _ h0 => State.resetDest_keeps h0) (State.dropEntries_keeps h_1)

theorem State.loseItem_keeps {s0 s1 a2} (h_1 : Keeps s0 s1) :
    Keeps s0 (State.loseItem s1 a2) := by
  unfold State.loseItem
  try dsimp only
  split
  · exact State.abandonP_keeps h_1
  · exact State.abandonC_keeps h_1
  · exact State.abandonT_keeps h_1

theorem State.resetCluster_keeps {s0 s1 a2} (h_1 : Keeps s0 s1) :
    Keeps s0 (State.resetCluster s1 a2) := by
  unfold State.resetCluster
  try dsimp only
  exact State.feed_keeps (State.moveDeque_keeps (keeps_foldl (fun _ _ h2 => State.loseItem_keeps h2) (State.setCluster_keeps h_1)))

theorem State.resetHead_keeps {s0 s1 a2} (h_1 : Keeps s0 s1) :
    Keeps s0 (State.resetHead s1 a2) := by
  unfold State.resetHead
  try dsimp only
  exact keeps_foldl (fun _ _ h0 => State.resetDest_keeps h0) (State.dropEntries_keeps h_1)

theorem State.resetGroup_keeps {s0 s1 a2} (h_1 : Keeps s0 s1) :
    Keeps s0 (State.resetGroup s1 a2) := by
  unfold State.resetGroup
  try dsimp only
  exact keeps_foldl (fun _ _ h0 => keeps_ite (fun _ => State.linkTrain_keeps (State.linkTo_keeps h0)) (fun _ => State.linkTo_keeps h0))
      (keeps_foldl (fun _ _ h1 => State.laneReset_keeps h1) h_1)

theorem State.resetPair_keeps {s0 s1} (h_1 : Keeps s0 s1) :
    Keeps s0 (State.resetPair s1) := by
  unfold State.resetPair
  try dsimp only
  exact keeps_foldl (fun _ _ h0 => State.laneReset_keeps (State.setLane_keeps h0)) (keeps_ite (fun _ => State.pairDown_keeps h_1) (fun _ => h_1))

theorem State.resetAudio_keeps {s0 s1} (h_1 : Keeps s0 s1) :
    Keeps s0 (State.resetAudio s1) := by
  unfold State.resetAudio
  try dsimp only
  exact keeps_mk (keeps_foldl (fun _ _ h0 => State.modHead_keeps h0) h_1) rfl

theorem State.resetNvs_keeps {s0 s1} (h_1 : Keeps s0 s1) :
    Keeps s0 (State.resetNvs s1) := by
  unfold State.resetNvs
  try dsimp only
  exact scanRecords_keeps h_1

theorem State.resetCommands_keeps {s0 s1} (h_1 : Keeps s0 s1) :
    Keeps s0 (State.resetCommands s1) := by
  unfold State.resetCommands
  try dsimp only
  refine State.post_keeps ?_
  refine keeps_foldl (fun _ _ h1 => ?_) (keeps_mk (keeps_foldl (fun _ _ h2 => State.setRing_keeps h2) h_1) rfl)
  split
  · exact State.setDest_keeps h1
  · exact h1

theorem State.funcEffect_keeps {s0 s1 a2} (h_1 : Keeps s0 s1) :
    Keeps s0 (State.funcEffect s1 a2) := by
  unfold State.funcEffect
  try dsimp only
  exact keeps_ite (fun _ => State.resetPort_keeps h_1) (fun _ => keeps_ite (fun _ => State.resetMedia_keeps h_1) (fun _ => keeps_ite (fun _ =>
      State.domainRestart_keeps (State.domainRestart_keeps h_1)) (fun _ => keeps_ite (fun _ => State.resetMatrix_keeps h_1) (fun _ => keeps_ite
      (fun _ => State.resetCluster_keeps h_1) (fun _ => keeps_ite (fun _ => State.resetHead_keeps h_1) (fun _ => keeps_ite (fun _ =>
      State.resetGroup_keeps h_1) (fun _ => keeps_ite (fun _ => State.resetPair_keeps h_1) (fun _ => keeps_ite (fun _ => State.resetAudio_keeps
      h_1) (fun _ => keeps_ite (fun _ => State.resetNvs_keeps h_1) (fun _ => keeps_ite (fun _ => State.resetCommands_keeps h_1) (fun _ =>
      h_1)))))))))))

theorem execFuncResetDone_keeps {s0 a1 s1} (h_1 : Keeps s0 s1) :
    KeepsO s0 (execFuncResetDone a1 s1) := by
  unfold execFuncResetDone
  try dsimp only
  exact keepsO_next (keeps_ite (fun _ => h_1) (fun _ => keeps_foldl (fun _ _ h1 => State.finish_keeps h1) (State.funcEffect_keeps (keeps_mk h_1
      rfl))))

theorem execWakeMaskWrite_keeps {s0 a1 a2 s1} (h_1 : Keeps s0 s1) :
    KeepsO s0 (execWakeMaskWrite a1 a2 s1) := by
  unfold execWakeMaskWrite
  try dsimp only
  exact keepsO_next (keeps_ite (fun _ => h_1) (fun _ => State.setWakeMask_keeps h_1))

theorem State.enginesOff_keeps {s0 s1 a2} (h_1 : Keeps s0 s1) :
    Keeps s0 (State.enginesOff s1 a2) := by
  unfold State.enginesOff
  try dsimp only
  exact keeps_foldl (fun _ _ h0 => keeps_ite (fun _ => State.abandonT_keeps h0) (fun _ => h0)) (keeps_foldl (fun _ _ h1 =>
      State.setCluster_keeps (State.moveDeque_keeps h1)) (keeps_mk h_1 rfl))

theorem State.nvsDiscard_keeps {s0 s1} (h_1 : Keeps s0 s1) :
    Keeps s0 (State.nvsDiscard s1) := by
  unfold State.nvsDiscard
  try dsimp only
  refine keeps_foldl (fun _ _ h0 => ?_) (keeps_mk h_1 rfl)
  split
  · exact State.finish_keeps h0
  · exact State.finish_keeps h0
  · exact h0

theorem State.sequencerStop_keeps {s0 s1} (h_1 : Keeps s0 s1) :
    Keeps s0 (State.sequencerStop s1) := by
  unfold State.sequencerStop
  try dsimp only
  split
  · split
    · refine State.dropped_keeps ?_
      refine keeps_mk ?_ rfl
      split
      · refine keeps_ite (fun _ => ?_) (fun _ => h_1)
        split
        · exact State.dropped_keeps (keeps_mk h_1 rfl)
        · exact keeps_mk h_1 rfl
      · exact h_1
    · refine keeps_mk ?_ rfl
      split
      · refine keeps_ite (fun _ => ?_) (fun _ => h_1)
        split
        · exact State.dropped_keeps (keeps_mk h_1 rfl)
        · exact keeps_mk h_1 rfl
      · exact h_1
  · split
    · refine keeps_ite (fun _ => ?_) (fun _ => h_1)
      split
      · exact State.dropped_keeps (keeps_mk h_1 rfl)
      · exact keeps_mk h_1 rfl
    · exact h_1

theorem State.wdHead_keeps {s0 s1 a2} (h_1 : Keeps s0 s1) :
    Keeps s0 (State.wdHead s1 a2) := by
  unfold State.wdHead
  try dsimp only
  exact keeps_ite (fun _ => h_1) (fun _ => State.modHead_keeps (keeps_ite (fun _ => State.haltHead_keeps (State.endProcs_keeps
      (State.endProcs_keeps h_1))) (fun _ => State.endProcs_keeps (State.endProcs_keeps h_1))))

theorem State.windStart_keeps {s0 s1 a2 a3} (h_1 : Keeps s0 s1) :
    Keeps s0 (State.windStart s1 a2 a3) := by
  unfold State.windStart
  try dsimp only
  exact keeps_ite (fun _ => h_1) (fun _ => State.enginesOff_keeps (keeps_ite (fun _ => State.sendMsg_keeps (keeps_foldl (fun _ _ h4 =>
      State.wdHead_keeps h4) (keeps_foldl (fun _ _ h5 => State.windupAnswer_keeps (State.batonPins_keeps (State.setPhase_keeps h5)))
      (State.nvsDiscard_keeps (State.sequencerStop_keeps (keeps_mk h_1 rfl)))))) (fun _ => keeps_foldl (fun _ _ h3 => State.wdHead_keeps h3)
      (keeps_foldl (fun _ _ h4 => State.windupAnswer_keeps (State.batonPins_keeps (State.setPhase_keeps h4))) (State.nvsDiscard_keeps
      (State.sequencerStop_keeps (keeps_mk h_1 rfl)))))))

theorem execRefclkLoss_keeps {s0 s1} (h_1 : Keeps s0 s1) :
    KeepsO s0 (execRefclkLoss s1) := by
  unfold execRefclkLoss
  try dsimp only
  exact keepsO_next (keeps_ite (fun _ => h_1) (fun _ => State.windStart_keeps (keeps_mk h_1 rfl)))

theorem execNrefclkLoss_keeps {s0 a1 s1} (h_1 : Keeps s0 s1) :
    KeepsO s0 (execNrefclkLoss a1 s1) := by
  unfold execNrefclkLoss
  try dsimp only
  exact keepsO_next (keeps_ite (fun _ => h_1) (fun _ => State.lanesOff_keeps (keeps_foldl (fun _ _ h2 => State.portDrop_keeps h2) (keeps_ite
      (fun _ => keeps_mk h_1 rfl) (fun _ => keeps_mk h_1 rfl)))))

theorem execPfailN_keeps {s0 s1} (h_1 : Keeps s0 s1) :
    KeepsO s0 (execPfailN s1) := by
  unfold execPfailN
  try dsimp only
  exact keepsO_next (keeps_ite (fun _ => h_1) (fun _ => State.windStart_keeps (keeps_mk h_1 rfl)))

theorem State.windResume_keeps {s0 s1} (h_1 : Keeps s0 s1) :
    Keeps s0 (State.windResume s1) := by
  unfold State.windResume
  try dsimp only
  exact keeps_mk h_1 rfl

theorem execPfailNDeassert_keeps {s0 s1} (h_1 : Keeps s0 s1) :
    KeepsO s0 (execPfailNDeassert s1) := by
  unfold execPfailNDeassert
  try dsimp only
  exact keepsO_next (keeps_ite (fun _ => h_1) (fun _ => keeps_ite (fun _ => keeps_mk h_1 rfl) (fun _ => State.windResume_keeps (keeps_mk h_1 rfl))))

theorem State.otherGlitch_keeps {s0 s1 a2} (h_1 : Keeps s0 s1) :
    Keeps s0 (State.otherGlitch s1 a2) := by
  unfold State.otherGlitch
  try dsimp only
  exact keeps_mk h_1 rfl

theorem execGlitch_keeps {s0 a1 s1} (h_1 : Keeps s0 s1) :
    KeepsO s0 (execGlitch a1 s1) := by
  unfold execGlitch
  try dsimp only
  refine keepsO_next ?_
  split
  · exact keeps_mk h_1 rfl
  · exact keeps_mk h_1 rfl
  · exact keeps_ite (fun _ => h_1) (fun _ => State.setEvtIn_keeps h_1)
  · exact State.otherGlitch_keeps h_1
  · exact State.otherGlitch_keeps h_1

theorem State.wdDischarge_keeps {s0 s1 a2} (h_1 : Keeps s0 s1) :
    Keeps s0 (State.wdDischarge s1 a2) := by
  unfold State.wdDischarge
  try dsimp only
  exact keeps_ite (fun _ => State.modHead_keeps h_1) (fun _ => State.modHead_keeps (State.broadcast_keeps (State.modHead_keeps h_1)))

theorem execWindDown_keeps {s0 s1} (h_1 : Keeps s0 s1) :
    KeepsO s0 (execWindDown s1) := by
  unfold execWindDown
  try dsimp only
  refine keepsO_next ?_
  split
  · exact keeps_foldl (fun _ _ h1 => keeps_ite (fun _ => State.wdDischarge_keeps h1) (fun _ => h1)) h_1
  · exact h_1

theorem execWdHoldEnd_keeps {s0 a1 s1} (h_1 : Keeps s0 s1) :
    KeepsO s0 (execWdHoldEnd a1 s1) := by
  unfold execWdHoldEnd
  try dsimp only
  exact keepsO_next (keeps_ite (fun _ => State.dropEnable_keeps (State.setPhase_keeps (keeps_ite (fun _ => h_1) (fun _ => keeps_mk h_1 rfl))))
      (fun _ => h_1))

theorem execPenGapEnd_keeps {s0 a1 s1} (h_1 : Keeps s0 s1) :
    KeepsO s0 (execPenGapEnd a1 s1) := by
  unfold execPenGapEnd
  try dsimp only
  exact keepsO_next (keeps_ite (fun _ => State.dropEnable_keeps h_1) (fun _ => h_1))

theorem execWindDownCommits_keeps {s0 s1} (h_1 : Keeps s0 s1) :
    KeepsO s0 (execWindDownCommits s1) := by
  unfold execWindDownCommits
  try dsimp only
  refine keepsO_next ?_
  split
  · exact keeps_ite (fun _ => h_1) (fun _ => keeps_ite (fun _ => incCounter_keeps (incCounter_keeps (commitShutdown_keeps (keeps_mk h_1 rfl))))
        (fun _ => incCounter_keeps (commitShutdown_keeps (keeps_mk h_1 rfl))))
  · exact h_1

theorem execPgood_keeps {s0 a1 a2 s1} (h_1 : Keeps s0 s1) :
    KeepsO s0 (execPgood a1 a2 s1) := by
  unfold execPgood
  try dsimp only
  exact keepsO_next (keeps_ite (fun _ => State.setHead_keeps h_1) (fun _ => h_1))

theorem execPanelPgLost_keeps {s0 a1 a2 s1} (h_1 : Keeps s0 s1) :
    KeepsO s0 (execPanelPgLost a1 a2 s1) := by
  unfold execPanelPgLost
  try dsimp only
  exact keepsO_next (keeps_ite (fun _ => h_1) (fun _ => State.wdDischarge_keeps (State.wdHead_keeps (State.modHead_keeps h_1))))

theorem execWindupFail_keeps {s0 a1 s1} (h_1 : Keeps s0 s1) :
    KeepsO s0 (execWindupFail a1 s1) := by
  unfold execWindupFail
  try dsimp only
  exact keepsO_next (keeps_ite (fun _ => State.dropEnable_keeps (State.setPhase_keeps h_1)) (fun _ => h_1))

theorem execClaimTest_keeps {s0 a1 a2 s1} (h_1 : Keeps s0 s1) :
    KeepsO s0 (execClaimTest a1 a2 s1) := by
  unfold execClaimTest
  try dsimp only
  exact keepsO_next (keeps_ite (fun _ => h_1) (fun _ => keeps_ite (fun _ => State.windupAnswer_keeps (State.batonPins_keeps (State.modHead_keeps
      (State.windupBegin_keeps h_1)))) (fun _ => keeps_ite (fun _ => State.windupAnswer_keeps (State.batonPins_keeps (State.setPhase_keeps
      h_1))) (fun _ => State.setHead_keeps h_1))))

theorem State.nextEnable_keeps {s0 s1 a2 a3} (h_1 : Keeps s0 s1) :
    Keeps s0 (State.nextEnable s1 a2 a3) := by
  unfold State.nextEnable
  try dsimp only
  exact State.modHead_keeps h_1

theorem execVcomSettle_keeps {s0 a1 s1} (h_1 : Keeps s0 s1) :
    KeepsO s0 (execVcomSettle a1 s1) := by
  unfold execVcomSettle
  try dsimp only
  exact keepsO_next (keeps_ite (fun _ => State.nextEnable_keeps h_1) (fun _ => h_1))

theorem execPenDelay_keeps {s0 a1 s1} (h_1 : Keeps s0 s1) :
    KeepsO s0 (execPenDelay a1 s1) := by
  unfold execPenDelay
  try dsimp only
  refine keepsO_next ?_
  refine keeps_ite (fun _ => ?_) (fun _ => h_1)
  split
  · exact State.nextEnable_keeps h_1
  · exact State.setPhase_keeps h_1

theorem execTrainDelay_keeps {s0 a1 s1} (h_1 : Keeps s0 s1) :
    KeepsO s0 (execTrainDelay a1 s1) := by
  unfold execTrainDelay
  try dsimp only
  exact keepsO_next (keeps_ite (fun _ => keeps_foldl (fun _ _ h1 => State.linkTrain_keeps h1) (State.setPhase_keeps h_1)) (fun _ => h_1))

theorem execWindupDone_keeps {s0 a1 a2 s1} (h_1 : Keeps s0 s1) :
    KeepsO s0 (execWindupDone a1 a2 s1) := by
  unfold execWindupDone
  try dsimp only
  exact keepsO_next (keeps_ite (fun _ => State.endProcs_keeps (State.post_keeps (keeps_ite (fun _ => State.modHead_keeps h_1) (fun _ =>
      State.thermTake_keeps (State.modHead_keeps h_1))))) (fun _ => h_1))

theorem execPanelPowerdownDrop_keeps {s0 a1 s1} (h_1 : Keeps s0 s1) :
    KeepsO s0 (execPanelPowerdownDrop a1 s1) := by
  unfold execPanelPowerdownDrop
  try dsimp only
  exact keepsO_next (keeps_ite (fun _ => State.dropEnable_keeps h_1) (fun _ => h_1))

theorem execHeadParked_keeps {s0 a1 s1} (h_1 : Keeps s0 s1) :
    KeepsO s0 (execHeadParked a1 s1) := by
  unfold execHeadParked
  try dsimp only
  exact keepsO_next (keeps_ite (fun _ => keeps_ite (fun _ => State.powerDown_keeps (State.modHead_keeps (State.applyParked_keeps
      (State.haltHead_keeps (keeps_ite (fun _ => State.switchRaster_keeps (State.endProcs_keeps (State.post_keeps (incCounter_keeps
      (commitShutdown_keeps (State.modHead_keeps h_1)))))) (fun _ => State.endProcs_keeps (State.post_keeps (incCounter_keeps
      (commitShutdown_keeps (State.modHead_keeps h_1)))))))))) (fun _ => State.applyParked_keeps (State.haltHead_keeps (keeps_ite (fun _ =>
      State.switchRaster_keeps (State.endProcs_keeps (State.post_keeps (incCounter_keeps (commitShutdown_keeps (State.modHead_keeps h_1))))))
      (fun _ => State.endProcs_keeps (State.post_keeps (incCounter_keeps (commitShutdown_keeps (State.modHead_keeps h_1))))))))) (fun _ => h_1))

theorem execEbOvf_keeps {s0 s1} (h_1 : Keeps s0 s1) :
    KeepsO s0 (execEbOvf s1) := by
  unfold execEbOvf
  try dsimp only
  exact keepsO_next (keeps_ite (fun _ => State.pairDown_keeps (keeps_foldl (fun _ _ h2 => State.setLane_keeps h2) h_1)) (fun _ => keeps_foldl
      (fun _ _ h1 => State.setLane_keeps h1) h_1))

theorem execRefreshStep_keeps {s0 a1 a2 s1} (h_1 : Keeps s0 s1) :
    KeepsO s0 (execRefreshStep a1 a2 s1) := by
  unfold execRefreshStep
  try dsimp only
  exact keepsO_next (keeps_ite (fun _ => h_1) (fun _ => keeps_mk h_1 rfl))

theorem State.wakeNext_keeps {s0 s1} (h_1 : Keeps s0 s1) :
    Keeps s0 (State.wakeNext s1) := by
  unfold State.wakeNext
  try dsimp only
  refine keeps_ite (fun _ => h_1) (fun _ => ?_)
  split
  · exact State.pdBegin_keeps (keeps_mk h_1 rfl)
  · exact keeps_mk h_1 rfl

theorem State.levelWake_keeps {s0 s1 a2 a3} (h_1 : Keeps s0 s1) :
    Keeps s0 (State.levelWake s1 a2 a3) := by
  unfold State.levelWake
  try dsimp only
  exact keeps_ite (fun _ => keeps_mk h_1 rfl) (fun _ => State.post_keeps (keeps_mk h_1 rfl))

theorem State.latchWake_keeps {s0 s1 a2 a3} (h_1 : Keeps s0 s1) :
    Keeps s0 (State.latchWake s1 a2 a3) := by
  unfold State.latchWake
  try dsimp only
  exact keeps_mk h_1 rfl

theorem execWake_keeps {s0 a1 a2 a3 s1} (h_1 : Keeps s0 s1) :
    KeepsO s0 (execWake a1 a2 a3 s1) := by
  unfold execWake
  try dsimp only
  refine keepsO_next ?_
  refine keeps_ite (fun _ => h_1) (fun _ => ?_)
  split
  · exact keeps_ite (fun _ => keeps_ite (fun _ => h_1) (fun _ => keeps_ite (fun _ => State.levelWake_keeps (State.latchWake_keeps h_1)) (fun _
        => State.latchWake_keeps h_1))) (fun _ => keeps_ite (fun _ => keeps_ite (fun _ => State.levelWake_keeps (State.latchWake_keeps h_1))
        (fun _ => State.latchWake_keeps h_1)) (fun _ => h_1))
  · exact keeps_ite (fun _ => h_1) (fun _ => keeps_ite (fun _ => keeps_ite (fun _ => State.levelWake_keeps (State.latchWake_keeps h_1)) (fun _
        => State.latchWake_keeps h_1)) (fun _ => keeps_ite (fun _ => State.levelWake_keeps (State.pdBegin_keeps h_1)) (fun _ =>
        State.pdBegin_keeps h_1)))

theorem State.opEnd_keeps {s0 s1 a2 a3 a4} (h_1 : Keeps s0 s1) :
    Keeps s0 (State.opEnd s1 a2 a3 a4) := by
  unfold State.opEnd
  try dsimp only
  split
  · exact keeps_ite (fun _ => State.procApplied_keeps (State.post_keeps (keeps_mk h_1 rfl))) (fun _ => State.dropped_keeps (State.post_keeps
        (keeps_mk h_1 rfl)))
  · exact State.post_keeps (keeps_mk h_1 rfl)

theorem execVidSettle_keeps {s0 s1} (h_1 : Keeps s0 s1) :
    KeepsO s0 (execVidSettle s1) := by
  unfold execVidSettle
  try dsimp only
  refine keepsO_next ?_
  split
  · exact State.wakeNext_keeps (State.opEnd_keeps (keeps_mk h_1 rfl))
  · exact h_1

theorem execVgoodTimeout_keeps {s0 s1} (h_1 : Keeps s0 s1) :
    KeepsO s0 (execVgoodTimeout s1) := by
  unfold execVgoodTimeout
  try dsimp only
  refine keepsO_next ?_
  split
  · exact State.wakeNext_keeps (State.opEnd_keeps (keeps_mk (State.logFault_keeps h_1) rfl))
  · exact h_1

theorem execVgoodLost_keeps {s0 s1} (h_1 : Keeps s0 s1) :
    KeepsO s0 (execVgoodLost s1) := by
  unfold execVgoodLost
  try dsimp only
  exact keepsO_next (keeps_ite (fun _ => h_1) (fun _ => keeps_ite (fun _ => keeps_mk h_1 rfl) (fun _ => State.logFault_keeps (keeps_mk h_1 rfl))))

theorem State.sendTime_keeps {s0 s1} (h_1 : Keeps s0 s1) :
    Keeps s0 (State.sendTime s1) := by
  unfold State.sendTime
  try dsimp only
  exact State.sendMsg_keeps h_1

theorem State.sendEcho_keeps {s0 s1} (h_1 : Keeps s0 s1) :
    Keeps s0 (State.sendEcho s1) := by
  unfold State.sendEcho
  try dsimp only
  exact State.sendBlock_keeps (keeps_mk h_1 rfl)

theorem execPairLinkUp_keeps {s0 s1} (h_1 : Keeps s0 s1) :
    KeepsO s0 (execPairLinkUp s1) := by
  unfold execPairLinkUp
  try dsimp only
  exact keepsO_next (keeps_ite (fun _ => h_1) (fun _ => keeps_ite (fun _ => State.sendTime_keeps (State.sendEcho_keeps (State.pairPost_keeps
      (keeps_mk h_1 rfl)))) (fun _ => State.sendEcho_keeps (State.pairPost_keeps (keeps_mk h_1 rfl)))))

theorem execPairLinkDown_keeps {s0 s1} (h_1 : Keeps s0 s1) :
    KeepsO s0 (execPairLinkDown s1) := by
  unfold execPairLinkDown
  try dsimp only
  exact keepsO_next (keeps_ite (fun _ => State.pairDown_keeps h_1) (fun _ => h_1))

theorem execHeartbeat_keeps {s0 s1} (h_1 : Keeps s0 s1) :
    KeepsO s0 (execHeartbeat s1) := by
  unfold execHeartbeat
  try dsimp only
  exact keepsO_next (keeps_ite (fun _ => h_1) (fun _ => State.sendBlock_keeps (keeps_mk h_1 rfl)))

theorem State.askRow_keeps {s0 s1 a2} (h_1 : Keeps s0 s1) :
    Keeps s0 (State.askRow s1 a2) := by
  unfold State.askRow
  try dsimp only
  exact State.sendMsg_keeps (keeps_mk h_1 rfl)

theorem State.lockstep_keeps {s0 s1} (h_1 : Keeps s0 s1) :
    Keeps s0 (State.lockstep s1) := by
  unfold State.lockstep
  try dsimp only
  exact keeps_foldl (fun _ _ h0 => State.askRow_keeps h0) (keeps_mk h_1 rfl)

theorem execPhase_keeps {s0 a1 a2 a3 s1} (h_1 : Keeps s0 s1) :
    KeepsO s0 (execPhase a1 a2 a3 s1) := by
  unfold execPhase
  try dsimp only
  refine keepsO_next ?_
  split
  · exact h_1
  · exact keeps_ite (fun _ => h_1) (fun _ => keeps_ite (fun _ => keeps_ite (fun _ => State.lockstep_keeps h_1) (fun _ => h_1)) (fun _ =>
        keeps_ite (fun _ => h_1) (fun _ => keeps_ite (fun _ => keeps_mk h_1 rfl) (fun _ => keeps_ite (fun _ => keeps_mk h_1 rfl) (fun _ =>
        State.unsync_keeps (State.pairPost_keeps (keeps_mk h_1 rfl)))))))

theorem State.resend_keeps {s0 s1 a2} (h_1 : Keeps s0 s1) :
    Keeps s0 (State.resend s1 a2) := by
  unfold State.resend
  try dsimp only
  split
  · exact h_1
  · exact keeps_ite (fun _ => State.pairDown_keeps h_1) (fun _ => State.sendBlock_keeps (keeps_mk h_1 rfl))

theorem execRetransmit_keeps {s0 a1 s1} (h_1 : Keeps s0 s1) :
    KeepsO s0 (execRetransmit a1 s1) := by
  unfold execRetransmit
  try dsimp only
  exact keepsO_next (State.resend_keeps h_1)

theorem execHello_keeps {s0 a1 s1} (h_1 : Keeps s0 s1) :
    KeepsO s0 (execHello a1 s1) := by
  unfold execHello
  try dsimp only
  exact keepsO_next (keeps_ite (fun _ => h_1) (fun _ => keeps_ite (fun _ => State.pairDown_keeps (State.pairPost_keeps (State.ackMsg_keeps
      h_1))) (fun _ => keeps_mk (State.ackMsg_keeps h_1) rfl)))

theorem execAck_keeps {s0 a1 s1} (h_1 : Keeps s0 s1) :
    KeepsO s0 (execAck a1 s1) := by
  unfold execAck
  try dsimp only
  exact keepsO_next (keeps_mk h_1 rfl)

theorem execNak_keeps {s0 a1 s1} (h_1 : Keeps s0 s1) :
    KeepsO s0 (execNak a1 s1) := by
  unfold execNak
  try dsimp only
  exact keepsO_next (State.resend_keeps h_1)

theorem execEcho_keeps {s0 a1 a2 a3 s1} (h_1 : Keeps s0 s1) :
    KeepsO s0 (execEcho a1 a2 a3 s1) := by
  unfold execEcho
  try dsimp only
  exact keepsO_next (keeps_ite (fun _ => h_1) (fun _ => keeps_ite (fun _ => State.sendBlock_keeps h_1) (fun _ => keeps_ite (fun _ => h_1) (fun _
      => keeps_ite (fun _ => State.sendEcho_keeps (keeps_mk h_1 rfl)) (fun _ => keeps_mk h_1 rfl)))))

theorem execTime_keeps {s0 a1 a2 s1} (h_1 : Keeps s0 s1) :
    KeepsO s0 (execTime a1 a2 s1) := by
  unfold execTime
  try dsimp only
  exact keepsO_next (keeps_ite (fun _ => h_1) (fun _ => State.modHead_keeps (keeps_mk (State.ackMsg_keeps h_1) rfl)))

theorem State.rowMatches_keeps {s0 s1 a2 a3} (h_1 : Keeps s0 s1) :
    Keeps s0 (State.rowMatches s1 a2 a3) := by
  unfold State.rowMatches
  try dsimp only
  exact keeps_ite (fun _ => State.endProcs_keeps (State.pairPost_keeps (keeps_mk h_1 rfl))) (fun _ => keeps_mk h_1 rfl)

theorem State.rowDiverges_keeps {s0 s1 a2 a3} (h_1 : Keeps s0 s1) :
    Keeps s0 (State.rowDiverges s1 a2 a3) := by
  unfold State.rowDiverges
  try dsimp only
  exact keeps_ite (fun _ => keeps_mk h_1 rfl) (fun _ => keeps_ite (fun _ => State.pairPost_keeps (keeps_mk (keeps_ite (fun _ => keeps_mk h_1
      rfl) (fun _ => State.askRow_keeps (keeps_mk h_1 rfl))) rfl)) (fun _ => keeps_mk (keeps_ite (fun _ => keeps_mk h_1 rfl) (fun _ =>
      State.askRow_keeps (keeps_mk h_1 rfl))) rfl))

theorem execRow_keeps {s0 a1 a2 a3 a4 s1} (h_1 : Keeps s0 s1) :
    KeepsO s0 (execRow a1 a2 a3 a4 s1) := by
  unfold execRow
  try dsimp only
  refine keepsO_next ?_
  refine keeps_ite (fun _ => h_1) (fun _ => ?_)
  split
  · exact State.ackMsg_keeps h_1
  · exact keeps_ite (fun _ => State.ackMsg_keeps h_1) (fun _ => keeps_ite (fun _ => State.rowMatches_keeps (State.skipRow_keeps (keeps_mk
        (State.ackMsg_keeps h_1) rfl))) (fun _ => keeps_ite (fun _ => State.rowDiverges_keeps (State.skipRow_keeps (keeps_mk (State.ackMsg_keeps
        h_1) rfl))) (fun _ => keeps_ite (fun _ => State.rowMatches_keeps (State.commitRow_keeps (keeps_mk (State.ackMsg_keeps h_1) rfl))) (fun _
        => State.rowDiverges_keeps (State.commitRow_keeps (keeps_mk (State.ackMsg_keeps h_1) rfl))))))

theorem execRowWaitEnd_keeps {s0 a1 s1} (h_1 : Keeps s0 s1) :
    KeepsO s0 (execRowWaitEnd a1 s1) := by
  unfold execRowWaitEnd
  try dsimp only
  refine keepsO_next ?_
  refine keeps_ite (fun _ => h_1) (fun _ => ?_)
  split
  · exact h_1
  · exact State.rowDiverges_keeps (State.skipRow_keeps (keeps_mk h_1 rfl))

theorem execRowReq_keeps {s0 a1 s1} (h_1 : Keeps s0 s1) :
    KeepsO s0 (execRowReq a1 s1) := by
  unfold execRowReq
  try dsimp only
  exact keepsO_next (keeps_ite (fun _ => h_1) (fun _ => keeps_mk (State.ackMsg_keeps h_1) rfl))

theorem execRowData_keeps {s0 a1 s1} (h_1 : Keeps s0 s1) :
    KeepsO s0 (execRowData a1 s1) := by
  unfold execRowData
  try dsimp only
  refine keepsO_next ?_
  refine keeps_ite (fun _ => h_1) (fun _ => ?_)
  split
  · exact keeps_mk (State.ackMsg_keeps h_1) rfl
  · exact keeps_ite (fun _ => keeps_mk (State.ackMsg_keeps h_1) rfl) (fun _ => keeps_ite (fun _ => State.askRow_keeps (keeps_mk
        (State.ackMsg_keeps h_1) rfl)) (fun _ => keeps_foldl (fun _ _ h4 => State.setTile_keeps h4) (State.putMem_keeps (State.putMem_keeps
        (State.putMem_keeps (keeps_mk (State.ackMsg_keeps h_1) rfl))))))

theorem execRelease_keeps {s0 a1 a2 a3 a4 s1} (h_1 : Keeps s0 s1) :
    KeepsO s0 (execRelease a1 a2 a3 a4 s1) := by
  unfold execRelease
  try dsimp only
  exact keepsO_next (keeps_ite (fun _ => h_1) (fun _ => keeps_mk (State.ackMsg_keeps h_1) rfl))

theorem execWindDownMsg_keeps {s0 a1 s1} (h_1 : Keeps s0 s1) :
    KeepsO s0 (execWindDownMsg a1 s1) := by
  unfold execWindDownMsg
  try dsimp only
  exact keepsO_next (keeps_ite (fun _ => h_1) (fun _ => keeps_mk (State.ackMsg_keeps h_1) rfl))

theorem State.driveNets_keeps {s0 s1 a2 a3} (h_1 : Keeps s0 s1) :
    Keeps s0 (State.driveNets s1 a2 a3) := by
  unfold State.driveNets
  try dsimp only
  exact State.batonPins_keeps (State.modHead_keeps h_1)

theorem State.restartTx_keeps {s0 s1} (h_1 : Keeps s0 s1) :
    Keeps s0 (State.restartTx s1) := by
  unfold State.restartTx
  try dsimp only
  exact keeps_mk h_1 rfl

theorem State.becomeActive_keeps {s0 s1 a2 a3} (h_1 : Keeps s0 s1) :
    Keeps s0 (State.becomeActive s1 a2 a3) := by
  unfold State.becomeActive
  try dsimp only
  exact State.driveNets_keeps (State.restartTx_keeps (keeps_mk h_1 rfl))

theorem execHandover_keeps {s0 a1 s1} (h_1 : Keeps s0 s1) :
    KeepsO s0 (execHandover a1 s1) := by
  unfold execHandover
  try dsimp only
  refine keepsO_next ?_
  split
  · exact h_1
  · exact keeps_ite (fun _ => keeps_ite (fun _ => h_1) (fun _ => State.batonPins_keeps (keeps_mk (State.modHead_keeps h_1) rfl))) (fun _ =>
        keeps_ite (fun _ => h_1) (fun _ => keeps_ite (fun _ => State.endProcs_keeps (State.pairPost_keeps (keeps_mk h_1 rfl))) (fun _ =>
        State.endProcs_keeps (State.pairPost_keeps (State.becomeActive_keeps h_1)))))

theorem execHandoverOverlapEnd_keeps {s0 a1 s1} (h_1 : Keeps s0 s1) :
    KeepsO s0 (execHandoverOverlapEnd a1 s1) := by
  unfold execHandoverOverlapEnd
  try dsimp only
  refine keepsO_next ?_
  split
  · exact keeps_ite (fun _ => State.endProcs_keeps (State.pairPost_keeps (keeps_mk (State.modHead_keeps (keeps_mk h_1 rfl)) rfl))) (fun _ =>
        State.endProcs_keeps (State.pairPost_keeps (keeps_mk h_1 rfl)))
  · exact h_1

theorem execTakeover_keeps {s0 s1} (h_1 : Keeps s0 s1) :
    KeepsO s0 (execTakeover s1) := by
  unfold execTakeover
  try dsimp only
  exact keepsO_next (keeps_ite (fun _ => h_1) (fun _ => keeps_ite (fun _ => State.pairPost_keeps (State.headOff_keeps (State.releaseNets_keeps
      (keeps_ite (fun _ => State.haltHead_keeps (keeps_mk h_1 rfl)) (fun _ => keeps_mk h_1 rfl))))) (fun _ => keeps_ite (fun _ =>
      State.pairPost_keeps (State.becomeActive_keeps (keeps_mk h_1 rfl))) (fun _ => keeps_ite (fun _ => State.stopHead_keeps
      (State.pairPost_keeps (State.becomeActive_keeps (keeps_mk h_1 rfl)))) (fun _ => State.pairPost_keeps (keeps_mk h_1 rfl))))))

theorem execEchoTimeout_keeps {s0 s1} (h_1 : Keeps s0 s1) :
    KeepsO s0 (execEchoTimeout s1) := by
  unfold execEchoTimeout
  try dsimp only
  exact keepsO_next (keeps_ite (fun _ => h_1) (fun _ => keeps_ite (fun _ => State.pairDown_keeps h_1) (fun _ => State.sendEcho_keeps h_1)))

theorem execPdWriteDrop_keeps {s0 a1 s1} (h_1 : Keeps s0 s1) :
    KeepsO s0 (execPdWriteDrop a1 s1) := by
  unfold execPdWriteDrop
  try dsimp only
  refine keepsO_next ?_
  split
  · exact keeps_mk h_1 rfl
  · exact h_1

theorem execRefclkReturn_keeps {s0 a1 s1} (h_1 : Keeps s0 s1) :
    KeepsO s0 (execRefclkReturn a1 s1) := by
  unfold execRefclkReturn
  try dsimp only
  refine keepsO_next ?_
  refine keeps_ite (fun _ => h_1) (fun _ => ?_)
  split
  · exact keeps_mk h_1 rfl
  · exact keeps_mk h_1 rfl
  · exact keeps_mk h_1 rfl
  · exact h_1

end Sys2Proof.Machine
end

