-- ==== Sys2Proof/Laws/KeepsStep.lean ====
section
/-! SUPPORT. Keeps: registers, boot, the rings and exec as a whole. One lemma per operation: the queue is untouched and a sound machine stays sound. -/

namespace Sys2Proof.Machine

open Sys2Proof.Laws Sys2Proof.Safety

theorem execTileRead_keeps {s0 a1 a2 a3 s1} (h_1 : Keeps s0 s1) :
    KeepsO s0 (execTileRead a1 a2 a3 s1) := by
  unfold execTileRead
  try dsimp only
  exact keepsO_next (runRead_keeps h_1)

theorem execEngineCounters_keeps {s0 a1 a2 s1} (h_1 : Keeps s0 s1) :
    KeepsO s0 (execEngineCounters a1 a2 s1) := by
  unfold execEngineCounters
  try dsimp only
  exact keepsO_next (runRead_keeps h_1)

theorem execMemInject_keeps {s0 a1 a2 a3 a4 s1} (h_1 : Keeps s0 s1) :
    KeepsO s0 (execMemInject a1 a2 a3 a4 s1) := by
  unfold execMemInject
  try dsimp only
  exact keepsO_next (runNow_keeps h_1 (fun _ h0 => State.setMarks_keeps h0))

theorem State.readSlots_keeps {s0 s1 a2 a3 a4} (h_1 : Keeps s0 s1) :
    Keeps s0 (State.readSlots s1 a2 a3 a4).2.2 := by
  unfold State.readSlots
  try dsimp only
  exact keepsAt_foldl (P := fun x : _ × _ × State => Keeps s0 x.2.2) (fun _ _ h0 => State.readMem_keeps h0) h_1

theorem State.badPacket_keeps {s0 s1 a2 a3 a4} (h_1 : Keeps s0 s1) :
    Keeps s0 (State.badPacket s1 a2 a3 a4) := by
  unfold State.badPacket
  try dsimp only
  exact rejectCmd_keeps h_1

theorem nextOr_keeps {s0 s1 a2} (h_1 : Keeps s0 s1) (h_a2 : KeepsO s0 a2) : Keeps s0 (nextOr s1 a2) := by
  unfold nextOr
  split
  · exact h_a2 _ rfl
  · exact h_1

theorem meaningOf_keeps {s0 a1 s1} (h_1 : Keeps s0 s1) :
    KeepsO s0 (meaningOf a1 s1) := by
  unfold meaningOf
  try dsimp only
  split
  · exact execNop_keeps h_1
  · exact execGetInfo_keeps h_1
  · exact execEventCtl_keeps h_1
  · exact execFuncReset_keeps h_1
  · exact execLogRead_keeps h_1
  · exact execDomainSet_keeps h_1
  · exact execDomainStatus_keeps h_1
  · exact execTpConfig_keeps h_1
  · exact execTpSelect_keeps h_1
  · exact execTpStep_keeps h_1
  · exact execEvtOutSet_keeps h_1
  · exact execEvtInSet_keeps h_1
  · exact execEvtInRead_keeps h_1
  · exact execLaunchCancel_keeps h_1
  · exact execQuadSet_keeps h_1
  · exact execPortSet_keeps h_1
  · exact execPortCounters_keeps h_1
  · exact execPortStatus_keeps h_1
  · exact execFlowSet_keeps h_1
  · exact execFlowEnable_keeps h_1
  · exact execFlowCounters_keeps h_1
  · exact execFlowStatus_keeps h_1
  · exact execTxSet_keeps h_1
  · exact execRouteSet_keeps h_1
  · exact execOutputSet_keeps h_1
  · exact execRouteStatus_keeps h_1
  · exact execLayerSet_keeps h_1
  · exact execLayerCoef_keeps h_1
  · exact execLayerPresent_keeps h_1
  · exact execLeasePolicy_keeps h_1
  · exact execLeaseStatus_keeps h_1
  · exact execAudioAssoc_keeps h_1
  · exact execAudioHead_keeps h_1
  · exact execAudioTx_keeps h_1
  · exact execAudioStatus_keeps h_1
  · exact execHeadConfig_keeps h_1
  · exact execHeadUnconfig_keeps h_1
  · exact execHeadStart_keeps h_1
  · exact execHeadStop_keeps h_1
  · exact execHeadSr_keeps h_1
  · exact execHeadPicture_keeps h_1
  · exact execHeadGate_keeps h_1
  · exact execWarmupEnd_keeps h_1
  · exact execHeadStatus_keeps h_1
  · exact execPanelWindup_keeps h_1
  · exact execPanelPowerdown_keeps h_1
  · exact execPowerSeqSet_keeps h_1
  · exact execDriverSet_keeps h_1
  · exact execDriverRetrain_keeps h_1
  · exact execTableLoad_keeps h_1
  · exact execSettingsLoad_keeps h_1
  · exact execActivate_keeps h_1
  · exact execMuraSwap_keeps h_1
  · exact execPanelStatus_keeps h_1
  · exact execVcomSet_keeps h_1
  · exact execLedgerSet_keeps h_1
  · exact execLedgerStats_keeps h_1
  · exact execLedgerSnapshot_keeps h_1
  · exact execLedgerTableRead_keeps h_1
  · exact execLedgerClear_keeps h_1
  · exact execViewSet_keeps h_1
  · exact execViewClear_keeps h_1
  · exact execViewTest_keeps h_1
  · exact execCheckSet_keeps h_1
  · exact execCheckRead_keeps h_1
  · exact execPairSet_keeps h_1
  · exact execPairHandover_keeps h_1
  · exact execPairRejoin_keeps h_1
  · exact execPairStatus_keeps h_1
  · exact execNvsRead_keeps h_1
  · exact execNvsWrite_keeps h_1
  · exact execRecordRead_keeps h_1
  · exact execRecordWrite_keeps h_1
  · exact execCounterRead_keeps h_1
  · exact execPdSet_keeps h_1
  · exact execOpSet_keeps h_1
  · exact execYoyoSet_keeps h_1
  · exact execPowerStatus_keeps h_1
  · exact execTileRead_keeps h_1
  · exact execEngineCounters_keeps h_1
  · exact execMemInject_keeps h_1
  · exact keepsO_next h_1

theorem State.runCommand_keeps {s0 s1 a2} (h_1 : Keeps s0 s1) :
    Keeps s0 (State.runCommand s1 a2) := by
  unfold State.runCommand
  try dsimp only
  exact nextOr_keeps h_1 (meaningOf_keeps h_1)

theorem State.runPacket_keeps {s0 s1 a2 a3} (h_1 : Keeps s0 s1) :
    Keeps s0 (State.runPacket s1 a2 a3) := by
  unfold State.runPacket
  try dsimp only
  split
  · exact State.badPacket_keeps h_1
  · exact State.runCommand_keeps h_1

theorem State.holdReply_keeps {s0 s1 a2} (h_1 : Keeps s0 s1) :
    Keeps s0 (State.holdReply s1 a2) := by
  unfold State.holdReply
  try dsimp only
  split
  · exact keeps_mk h_1 rfl
  · exact keeps_mk h_1 rfl

theorem State.runForward_keeps {s0 s1 a2 a3 a4} (h_1 : Keeps s0 s1) :
    Keeps s0 (State.runForward s1 a2 a3 a4) := by
  unfold State.runForward
  try dsimp only
  split
  · exact keeps_ite (fun _ => State.runPacket_keeps h_1) (fun _ => State.holdReply_keeps (State.sendMsg_keeps (keeps_mk (State.runPacket_keeps
        h_1) rfl)))
  · exact keeps_ite (fun _ => State.runPacket_keeps h_1) (fun _ => State.sendMsg_keeps (State.runPacket_keeps h_1))

theorem State.acceptPacket_keeps {s0 s1 a2 a3} (h_1 : Keeps s0 s1) :
    Keeps s0 (State.acceptPacket s1 a2 a3) := by
  unfold State.acceptPacket
  try dsimp only
  split
  · exact State.badPacket_keeps h_1
  · exact keeps_ite (fun _ => State.runForward_keeps h_1) (fun _ => State.runCommand_keeps h_1)

theorem State.takeFrom_keeps {s0 s1 a2} (h_1 : Keeps s0 s1) : Keeps s0 (State.takeFrom s1 a2) := by
  unfold State.takeFrom
  dsimp only
  refine keeps_ite (fun _ => keeps_ite (fun _ => State.failCmd_keeps (State.setRing_keeps (State.readSlots_keeps (keeps_mk h_1 rfl))))
    (fun _ => State.acceptPacket_keeps (State.setRing_keeps (State.readSlots_keeps (keeps_mk h_1 rfl))))) (fun _ => ?_)
  have k : Keeps s0 (State.acceptPacket ({ s1 with cp := { s1.cp with turn := (a2 + 1) % 5 }, mbx := { s1.mbx with taken := true } } : State) 4
      (State.mbxPacket ({ s1 with cp := { s1.cp with turn := (a2 + 1) % 5 } } : State))) := State.acceptPacket_keeps (keeps_mk h_1 rfl)
  exact keeps_ite (fun _ => k) (fun _ => keeps_to k rfl (fun i => ⟨i.1, i.2.1, i.2.2.1, i.2.2.2.1, i.2.2.2.2.1, Nat.zero_le 2, i.2.2.2.2.2.2⟩))

theorem execCommandAccept_keeps {s0 s1} (h_1 : Keeps s0 s1) :
    KeepsO s0 (execCommandAccept s1) := by
  unfold execCommandAccept
  try dsimp only
  refine keepsO_next ?_
  split
  · exact State.takeFrom_keeps h_1
  · exact h_1

theorem sysWrite_keeps {s0 a1 a2 a3 s1} (h_1 : Keeps s0 s1) :
    Keeps s0 (sysWrite a1 a2 a3 s1) := by
  unfold sysWrite
  try dsimp only
  split
  · exact dbgLockWrite_keeps h_1
  · exact keeps_ite (fun _ => h_1) (fun _ => pushCtlWrite_keeps h_1)
  · exact keeps_ite (fun _ => h_1) (fun _ => pushDataWrite_keeps h_1)
  · exact h_1

theorem State.ringCfg_keeps {s0 s1 a2 a3} (h_1 : Keeps s0 s1) :
    Keeps s0 (State.ringCfg s1 a2 a3) := by
  unfold State.ringCfg
  try dsimp only
  exact keeps_ite (fun _ => h_1) (fun _ => keeps_ite (fun _ => keeps_mk (State.setRing_keeps h_1) rfl) (fun _ => State.setRing_keeps h_1))

theorem State.ringIndex_keeps {s0 s1 a2 a3 a4} (h_1 : Keeps s0 s1) :
    Keeps s0 (State.ringIndex s1 a2 a3 a4) := by
  unfold State.ringIndex
  try dsimp only
  exact keeps_ite (fun _ => h_1) (fun _ => keeps_ite (fun _ => keeps_mk h_1 rfl) (fun _ => State.setRing_keeps h_1))

theorem ringsWrite_keeps {s0 a1 a2 s1} (h_1 : Keeps s0 s1) :
    Keeps s0 (ringsWrite a1 a2 s1) := by
  unfold ringsWrite
  try dsimp only
  refine keeps_ite (fun _ => ?_) (fun _ => keeps_ite (fun _ => keeps_ite (fun _ => h_1) (fun _ => keeps_mk h_1 rfl)) (fun _ => h_1))
  split
  · exact keeps_ite (fun _ => h_1) (fun _ => State.setRing_keeps h_1)
  · exact State.ringCfg_keeps h_1
  · exact keeps_ite (fun _ => State.ringIndex_keeps h_1) (fun _ => h_1)
  · exact keeps_ite (fun _ => h_1) (fun _ => State.ringIndex_keeps h_1)
  · exact h_1

theorem resetWrite_keeps {s0 a1 a2 s1} (h_1 : Keeps s0 s1) :
    Keeps s0 (resetWrite a1 a2 s1) := by
  unfold resetWrite
  try dsimp only
  split
  · exact funcResetWrite_keeps h_1
  · exact keeps_mk h_1 rfl
  · exact h_1

theorem powerWrite_keeps {s0 a1 a2 s1} (h_1 : Keeps s0 s1) :
    Keeps s0 (powerWrite a1 a2 s1) := by
  unfold powerWrite
  try dsimp only
  exact keeps_ite (fun _ => nextOr_keeps h_1 (execPdCtl_keeps h_1)) (fun _ => keeps_ite (fun _ => keeps_mk h_1 rfl) (fun _ => keeps_ite (fun _
      => nextOr_keeps h_1 (execOpCtl_keeps h_1)) (fun _ => keeps_ite (fun _ => State.setWakeMask_keeps h_1) (fun _ => h_1))))

theorem State.selectWrite_keeps {s0 s1 a2} (h_1 : Keeps s0 s1) :
    Keeps s0 (State.selectWrite s1 a2) := by
  unfold State.selectWrite
  try dsimp only
  exact keeps_ite (fun _ => h_1) (fun _ => keeps_ite (fun _ => State.takeDomain_keeps h_1) (fun _ => State.switchRefused_keeps (keeps_mk h_1 rfl)))

theorem timeCtlWrite_keeps {s0 a1 s1} (h_1 : Keeps s0 s1) :
    Keeps s0 (timeCtlWrite a1 s1) := by
  unfold timeCtlWrite
  try dsimp only
  exact keeps_ite (fun _ => h_1) (fun _ => keeps_ite (fun _ => State.forceDomain_keeps (State.selectWrite_keeps (keeps_mk h_1 rfl))) (fun _ =>
      keeps_ite (fun _ => State.forceValue_keeps (State.selectWrite_keeps (keeps_mk h_1 rfl))) (fun _ => keeps_ite (fun _ => keeps_mk
      (State.selectWrite_keeps (keeps_mk h_1 rfl)) rfl) (fun _ => keeps_ite (fun _ => keeps_mk (State.selectWrite_keeps (keeps_mk h_1 rfl)) rfl)
      (fun _ => State.selectWrite_keeps (keeps_mk h_1 rfl))))))

theorem rateHi_keeps {s0 a1 a2 s1} (h_1 : Keeps s0 s1) :
    Keeps s0 (rateHi a1 a2 s1) := by
  unfold rateHi
  try dsimp only
  exact keeps_ite (fun _ => h_1) (fun _ => keeps_ite (fun _ => keeps_mk h_1 rfl) (fun _ => keeps_mk h_1 rfl))

theorem calWrite_keeps {s0 a1 a2 s1} (h_1 : Keeps s0 s1) :
    Keeps s0 (calWrite a1 a2 s1) := by
  unfold calWrite
  try dsimp only
  exact keeps_ite (fun _ => h_1) (fun _ => keeps_ite (fun _ => keeps_mk h_1 rfl) (fun _ => keeps_mk h_1 rfl))

theorem timeWrite_keeps {s0 a1 a2 s1} (h_1 : Keeps s0 s1) : Keeps s0 (timeWrite a1 a2 s1) := by
  have jump : ∀ x, ¬(x < 16 ∨ 1000000 < x) → Keeps s0 { s1 with time := { s1.time with jumpLimit := x } } := fun x g =>
    keeps_to h_1 rfl (fun i => ⟨i.1, i.2.1, i.2.2.1, i.2.2.2.1, by
      have j := i.2.2.2.2.1
      unfold timeLegal at j ⊢
      dsimp only
      omega, i.2.2.2.2.2⟩)
  have slew : ∀ x, ¬(x < 1 ∨ 100 < x) → Keeps s0 { s1 with time := { s1.time with slew := x } } := fun x g =>
    keeps_to h_1 rfl (fun i => ⟨i.1, i.2.1, i.2.2.1, i.2.2.2.1, by
      have j := i.2.2.2.2.1
      unfold timeLegal at j ⊢
      dsimp only
      omega, i.2.2.2.2.2⟩)
  unfold timeWrite
  dsimp only
  refine keeps_ite (fun _ => timeCtlWrite_keeps h_1) (fun _ => keeps_ite (fun _ => keeps_mk h_1 rfl) (fun _ => keeps_ite (fun _ => keeps_ite
      (fun _ => h_1) (jump _))
    (fun _ => keeps_ite (fun _ => keeps_ite (fun _ => h_1) (slew _)) (fun _ => keeps_ite (fun _ => keeps_mk h_1 rfl) (fun _ => keeps_ite (fun
        _ => rateHi_keeps h_1)
    (fun _ => keeps_ite (fun _ => keeps_mk h_1 rfl) (fun _ => keeps_ite (fun _ => rateHi_keeps h_1) (fun _ => keeps_ite (fun _ => keeps_mk h_1 rfl)
    (fun _ => keeps_ite (fun _ => keeps_mk h_1 rfl) (fun _ => keeps_ite (fun _ => keeps_mk h_1 rfl) (fun _ => keeps_ite (fun _ => keeps_mk h_1 rfl)
    (fun _ => keeps_ite (fun _ => calWrite_keeps h_1) (fun _ => h_1)))))))))))))

theorem sramCtl_keeps {s0 a1 s1} (h_1 : Keeps s0 s1) : Keeps s0 (sramCtl a1 s1) := by
  unfold sramCtl
  dsimp only
  refine keeps_ite (fun _ => h_1) (fun g => ?_)
  have k : Keeps s0 { s1 with mem := { s1.mem with scrubShift := bits a1 12 8, idle := bits a1 0 0 } } :=
    keeps_to h_1 rfl (fun i => ⟨i.1, i.2.1, i.2.2.1, by dsimp only; omega, i.2.2.2.2⟩)
  exact keeps_ite (fun _ => keeps_foldl (fun _ _ h => keeps_ite (fun _ => h) (fun _ => State.clearBanks_keeps h)) k) (fun _ => k)

theorem fabTgtWrite_keeps {s0 a1 a2 s1} (h_1 : Keeps s0 s1) :
    Keeps s0 (fabTgtWrite a1 a2 s1) := by
  unfold fabTgtWrite
  try dsimp only
  exact keeps_ite (fun _ => keeps_mk h_1 rfl) (fun _ => keeps_mk h_1 rfl)

theorem fabricWrite_keeps {s0 a1 a2 s1} (h_1 : Keeps s0 s1) :
    Keeps s0 (fabricWrite a1 a2 s1) := by
  unfold fabricWrite
  try dsimp only
  refine keeps_ite (fun _ => fabTgtWrite_keeps h_1) (fun _ => ?_)
  refine keeps_ite (fun _ => keeps_mk h_1 rfl) (fun _ => ?_)
  refine keeps_ite (fun _ => ?_) (fun _ => h_1)
  refine keeps_ite (fun _ => h_1) (fun _ => ?_)
  split
  · exact keeps_mk h_1 rfl
  · exact keeps_mk h_1 rfl
  · exact keeps_mk h_1 rfl
  · exact h_1

theorem laneWrite_keeps {s0 a1 a2 a3 s1} (h_1 : Keeps s0 s1) :
    Keeps s0 (laneWrite a1 a2 a3 s1) := by
  unfold laneWrite
  try dsimp only
  split
  · exact laneCtlWrite_keeps h_1
  · exact laneTxWrite_keeps h_1
  · exact laneStatusWrite_keeps h_1
  · exact laneFomWrite_keeps h_1
  · exact prbsCtlWrite_keeps h_1
  · exact laneSlipWrite_keeps h_1
  · exact h_1

theorem headWmWrite_keeps {s0 a1 a2 s1} (h_1 : Keeps s0 s1) :
    Keeps s0 (headWmWrite a1 a2 s1) := by
  unfold headWmWrite
  try dsimp only
  exact keeps_ite (fun _ => h_1) (fun _ => State.modHead_keeps h_1)

theorem headPolWrite_keeps {s0 a1 a2 s1} (h_1 : Keeps s0 s1) :
    Keeps s0 (headPolWrite a1 a2 s1) := by
  unfold headPolWrite
  try dsimp only
  exact State.modHead_keeps h_1

theorem headWrite_keeps {s0 a1 a2 a3 s1} (h_1 : Keeps s0 s1) :
    Keeps s0 (headWrite a1 a2 a3 s1) := by
  unfold headWrite
  try dsimp only
  split
  · exact headWmWrite_keeps h_1
  · exact headPolWrite_keeps h_1
  · exact h_1

theorem blockWrite_keeps {s0 a1 a2 a3 s1} (h_1 : Keeps s0 s1) :
    Keeps s0 (blockWrite a1 a2 a3 s1) := by
  unfold blockWrite
  try dsimp only
  exact keeps_ite (fun _ => sysWrite_keeps h_1) (fun _ => keeps_ite (fun _ => ringsWrite_keeps h_1) (fun _ => keeps_ite (fun _ =>
      resetWrite_keeps h_1) (fun _ => keeps_ite (fun _ => powerWrite_keeps h_1) (fun _ => keeps_ite (fun _ => keeps_ite (fun _ => nextOr_keeps
      h_1 (execFabSel_keeps h_1)) (fun _ => h_1)) (fun _ => keeps_ite (fun _ => timeWrite_keeps h_1) (fun _ => keeps_ite (fun _ => h_1) (fun _
      => keeps_ite (fun _ => keeps_ite (fun _ => sramCtl_keeps h_1) (fun _ => keeps_ite (fun _ => keeps_mk h_1 rfl) (fun _ => h_1))) (fun _ =>
      keeps_ite (fun _ => fabricWrite_keeps h_1) (fun _ => keeps_ite (fun _ => laneWrite_keeps h_1) (fun _ => keeps_ite (fun _ => h_1) (fun _ =>
      keeps_ite (fun _ => headWrite_keeps h_1) (fun _ => keeps_ite (fun _ => keeps_mk h_1 rfl) (fun _ => h_1)))))))))))))

theorem writeReg_keeps {s0 a1 a2 a3 s1} (h_1 : Keeps s0 s1) :
    Keeps s0 (writeReg a1 a2 a3 s1) := by
  unfold writeReg
  try dsimp only
  exact keeps_ite (fun _ => keeps_mk h_1 rfl) (fun _ => keeps_ite (fun _ => keeps_mk h_1 rfl) (fun _ => blockWrite_keeps h_1))

theorem execRegWrite_keeps {s0 a1 a2 s1} (h_1 : Keeps s0 s1) :
    KeepsO s0 (execRegWrite a1 a2 s1) := by
  unfold execRegWrite
  try dsimp only
  exact keepsO_next (keeps_foldl (fun _ _ h0 => writeReg_keeps h0) h_1)

theorem readAfter_keeps {s0 a1 s1} (h_1 : Keeps s0 s1) :
    Keeps s0 (readAfter a1 s1) := by
  unfold readAfter
  try dsimp only
  exact keeps_ite (fun _ => State.setEvtIn_keeps h_1) (fun _ => keeps_ite (fun _ => State.setFom_keeps h_1) (fun _ => h_1))

theorem State.takeSnap_keeps {s0 s1 a2} (h_1 : Keeps s0 s1) :
    Keeps s0 (State.takeSnap s1 a2) := by
  unfold State.takeSnap
  try dsimp only
  exact keeps_ite (fun _ => keeps_mk h_1 rfl) (fun _ => keeps_mk h_1 rfl)

theorem State.latchSram_keeps {s0 s1 a2} (h_1 : Keeps s0 s1) :
    Keeps s0 (State.latchSram s1 a2) := by
  unfold State.latchSram
  try dsimp only
  split
  · exact keeps_mk h_1 rfl
  · exact keeps_mk h_1 rfl
  · exact h_1

theorem State.latchCheck_keeps {s0 s1 a2 a3} (h_1 : Keeps s0 s1) :
    Keeps s0 (State.latchCheck s1 a2 a3) := by
  unfold State.latchCheck
  try dsimp only
  exact State.setCheck_keeps h_1

theorem readBefore_keeps {s0 a1 a2 s1} (h_1 : Keeps s0 s1) :
    Keeps s0 (readBefore a1 a2 s1) := by
  unfold readBefore
  try dsimp only
  exact keeps_ite (fun _ => State.takeSnap_keeps h_1) (fun _ => keeps_ite (fun _ => State.latchSram_keeps h_1) (fun _ => keeps_ite (fun _ =>
      prbsErrRead_keeps h_1) (fun _ => keeps_ite (fun _ => State.latchCheck_keeps h_1) (fun _ => h_1))))

theorem readReg_keeps {s0 a1 a2 a3 s1} (h_1 : Keeps s0 s1) :
    Keeps s0 (readReg a1 a2 a3 s1).2 := by
  unfold readReg
  try dsimp only
  exact keeps_ite (fun _ => readAfter_keeps (readBefore_keeps h_1)) (fun _ => readBefore_keeps h_1)

theorem readRegs_keeps {s0 a1 a2 a3 s1} (h_1 : Keeps s0 s1) :
    Keeps s0 (readRegs a1 a2 a3 s1).2 := by
  unfold readRegs
  try dsimp only
  exact keepsAt_foldl (P := fun x : _ × State => Keeps s0 x.2) (fun _ _ h0 => readReg_keeps h0) h_1

theorem execRegRead_keeps {s0 a1 a2 s1} (h_1 : Keeps s0 s1) :
    KeepsO s0 (execRegRead a1 a2 s1) := by
  unfold execRegRead
  try dsimp only
  exact keepsO_next (State.say_keeps (readRegs_keeps h_1))

theorem execMbxWrite_keeps {s0 a1 a2 s1} (h_1 : Keeps s0 s1) : KeepsO s0 (execMbxWrite a1 a2 s1) := by
  unfold execMbxWrite
  exact keepsO_next (keeps_ite (fun _ => h_1) (fun _ => keeps_to h_1 rfl
    (fun i => ⟨i.1, i.2.1, i.2.2.1, i.2.2.2.1, i.2.2.2.2.1, Nat.zero_le 2, i.2.2.2.2.2.2⟩)))

theorem execMbxSubmit_keeps {s0 s1} (h_1 : Keeps s0 s1) : KeepsO s0 (execMbxSubmit s1) := by
  unfold execMbxSubmit
  exact keepsO_next (keeps_ite (fun _ => h_1) (fun _ => keeps_to h_1 rfl
    (fun i => ⟨i.1, i.2.1, i.2.2.1, i.2.2.2.1, i.2.2.2.2.1, (by decide : 1 ≤ 2), i.2.2.2.2.2.2⟩)))

theorem execMbxRead_keeps {s0 a1 a2 s1} (h_1 : Keeps s0 s1) :
    KeepsO s0 (execMbxRead a1 a2 s1) := by
  unfold execMbxRead
  try dsimp only
  exact keepsO_next (State.say_keeps h_1)

theorem execEvtRead_keeps {s0 s1} (h_1 : Keeps s0 s1) :
    KeepsO s0 (execEvtRead s1) := by
  unfold execEvtRead
  try dsimp only
  refine keepsO_next ?_
  split
  · exact State.say_keeps (keeps_mk h_1 rfl)
  · exact State.say_keeps (State.drawNat_keeps h_1)

theorem execStatus_keeps {s0 s1} (h_1 : Keeps s0 s1) :
    KeepsO s0 (execStatus s1) := by
  unfold execStatus
  try dsimp only
  exact keepsO_next (State.say_keeps (keeps_mk h_1 rfl))

theorem execMailboxTimeout_keeps {s0 s1} (h_1 : Keeps s0 s1) :
    KeepsO s0 (execMailboxTimeout s1) := by
  unfold execMailboxTimeout
  try dsimp only
  exact keepsO_next (keeps_ite (fun _ => h_1) (fun _ => State.reply_keeps (keeps_mk h_1 rfl)))

theorem execMgtAddressMatch_keeps {s0 a1 s1} (h_1 : Keeps s0 s1) :
    KeepsO s0 (execMgtAddressMatch a1 s1) := by
  unfold execMgtAddressMatch
  try dsimp only
  exact keepsO_next (keeps_ite (fun _ => keeps_mk h_1 rfl) (fun _ => keeps_mk h_1 rfl))

theorem execDoorbell_keeps {s0 a1 a2 s1} (h_1 : Keeps s0 s1) :
    KeepsO s0 (execDoorbell a1 a2 s1) := by
  unfold execDoorbell
  try dsimp only
  exact keepsO_next (keeps_ite (fun _ => h_1) (fun _ => writeReg_keeps h_1))

theorem execRingCiWrite_keeps {s0 a1 a2 s1} (h_1 : Keeps s0 s1) :
    KeepsO s0 (execRingCiWrite a1 a2 s1) := by
  unfold execRingCiWrite
  try dsimp only
  exact keepsO_next (keeps_ite (fun _ => h_1) (fun _ => writeReg_keeps h_1))

theorem execRingCfgWrite_keeps {s0 a1 a2 s1} (h_1 : Keeps s0 s1) :
    KeepsO s0 (execRingCfgWrite a1 a2 s1) := by
  unfold execRingCfgWrite
  try dsimp only
  exact keepsO_next (keeps_ite (fun _ => h_1) (fun _ => writeReg_keeps h_1))

theorem State.signal_keeps {s0 s1 a2} (h_1 : Keeps s0 s1) :
    Keeps s0 (State.signal s1 a2) := by
  unfold State.signal
  try dsimp only
  exact keeps_ite (fun _ => h_1) (fun _ => keeps_mk h_1 rfl)

theorem State.advancePi_keeps {s0 s1 a2 a3 a4} (h_1 : Keeps s0 s1) :
    Keeps s0 (State.advancePi s1 a2 a3 a4) := by
  unfold State.advancePi
  try dsimp only
  exact State.signal_keeps (State.setRing_keeps h_1)

theorem State.writeSlots_keeps {s0 s1 a2 a3 a4} (h_1 : Keeps s0 s1) :
    Keeps s0 (State.writeSlots s1 a2 a3 a4) := by
  unfold State.writeSlots
  try dsimp only
  exact keeps_foldl (fun _ _ h0 => State.putMem_keeps h0) h_1

theorem execReplyWrite_keeps {s0 a1 s1} (h_1 : Keeps s0 s1) : KeepsO s0 (execReplyWrite a1 s1) := by
  unfold execReplyWrite
  dsimp only
  refine keepsO_next ?_
  split
  · exact h_1
  · exact keeps_ite (fun _ => keeps_ite (fun _ => h_1) (fun _ => State.advancePi_keeps (State.writeSlots_keeps (keeps_mk h_1 rfl))))
      (fun _ => keeps_to h_1 rfl (fun i => ⟨i.1, i.2.1, i.2.2.1, i.2.2.2.1, i.2.2.2.2.1, Nat.le_refl 2, i.2.2.2.2.2.2⟩))

theorem State.toMgt_keeps {s0 s1 a2 a3} (h_1 : Keeps s0 s1) :
    Keeps s0 (State.toMgt s1 a2 a3) := by
  unfold State.toMgt
  try dsimp only
  exact keeps_ite (fun _ => keeps_mk h_1 rfl) (fun _ => keeps_mk h_1 rfl)

theorem State.toRing_keeps {s0 s1 a2 a3 a4} (h_1 : Keeps s0 s1) :
    Keeps s0 (State.toRing s1 a2 a3 a4) := by
  unfold State.toRing
  try dsimp only
  exact keeps_ite (fun _ => State.advancePi_keeps (keeps_mk (State.writeSlots_keeps h_1) rfl)) (fun _ => keeps_mk h_1 rfl)

theorem execEventPost_keeps {s0 s1} (h_1 : Keeps s0 s1) :
    KeepsO s0 (execEventPost s1) := by
  unfold execEventPost
  try dsimp only
  refine keepsO_next ?_
  split
  · exact h_1
  · exact keeps_ite (fun _ => h_1) (fun _ => keeps_ite (fun _ => keeps_mk h_1 rfl) (fun _ => keeps_ite (fun _ => State.toMgt_keeps
        (State.toRing_keeps (keeps_mk h_1 rfl))) (fun _ => State.toRing_keeps (keeps_mk h_1 rfl))))

theorem execMsiXMessage_keeps {s0 a1 s1} (h_1 : Keeps s0 s1) :
    KeepsO s0 (execMsiXMessage a1 s1) := by
  unfold execMsiXMessage
  try dsimp only
  exact keepsO_next (keeps_ite (fun _ => h_1) (fun _ => keeps_mk h_1 rfl))

theorem execStepValue_keeps {s0 a1 s1} (h_1 : Keeps s0 s1) :
    KeepsO s0 (execStepValue a1 s1) := by
  unfold execStepValue
  try dsimp only
  exact keepsO_next (timeCtlWrite_keeps h_1)

theorem execStepDomain_keeps {s0 a1 s1} (h_1 : Keeps s0 s1) :
    KeepsO s0 (execStepDomain a1 s1) := by
  unfold execStepDomain
  try dsimp only
  exact keepsO_next (timeCtlWrite_keeps h_1)

theorem execLoadA_keeps {s0 a1 s1} (h_1 : Keeps s0 s1) :
    KeepsO s0 (execLoadA a1 s1) := by
  unfold execLoadA
  try dsimp only
  exact keepsO_next (timeCtlWrite_keeps h_1)

theorem execLoadB_keeps {s0 a1 s1} (h_1 : Keeps s0 s1) :
    KeepsO s0 (execLoadB a1 s1) := by
  unfold execLoadB
  try dsimp only
  exact keepsO_next (timeCtlWrite_keeps h_1)

theorem execSelect_keeps {s0 a1 s1} (h_1 : Keeps s0 s1) :
    KeepsO s0 (execSelect a1 s1) := by
  unfold execSelect
  try dsimp only
  exact keepsO_next (timeCtlWrite_keeps h_1)

theorem execRateHiWrite_keeps {s0 a1 a2 s1} (h_1 : Keeps s0 s1) :
    KeepsO s0 (execRateHiWrite a1 a2 s1) := by
  unfold execRateHiWrite
  try dsimp only
  exact keepsO_next (keeps_ite (fun _ => h_1) (fun _ => rateHi_keeps h_1))

theorem execTpSnapSecLoRead_keeps {s0 a1 s1} (h_1 : Keeps s0 s1) :
    KeepsO s0 (execTpSnapSecLoRead a1 s1) := by
  unfold execTpSnapSecLoRead
  try dsimp only
  exact keepsO_next (State.say_keeps (readReg_keeps h_1))

theorem execRcRead_keeps {s0 a1 a2 s1} (h_1 : Keeps s0 s1) :
    KeepsO s0 (execRcRead a1 a2 s1) := by
  unfold execRcRead
  try dsimp only
  exact keepsO_next (keeps_ite (fun _ => State.say_keeps (readReg_keeps h_1)) (fun _ => State.sayError_keeps (readReg_keeps h_1)))

theorem execChkFrameRead_keeps {s0 a1 a2 s1} (h_1 : Keeps s0 s1) :
    KeepsO s0 (execChkFrameRead a1 a2 s1) := by
  unfold execChkFrameRead
  try dsimp only
  exact keepsO_next (keeps_ite (fun _ => h_1) (fun _ => State.say_keeps (readReg_keeps h_1)))

theorem execSramLoRead_keeps {s0 a1 s1} (h_1 : Keeps s0 s1) :
    KeepsO s0 (execSramLoRead a1 s1) := by
  unfold execSramLoRead
  try dsimp only
  exact keepsO_next (State.say_keeps (readReg_keeps h_1))

theorem execBlow_keeps {s0 a1 s1} (h_1 : Keeps s0 s1) :
    KeepsO s0 (execBlow a1 s1) := by
  unfold execBlow
  try dsimp only
  exact keepsO_next (dbgLockWrite_keeps h_1)

theorem execStart_keeps {s0 a1 s1} (h_1 : Keeps s0 s1) :
    KeepsO s0 (execStart a1 s1) := by
  unfold execStart
  try dsimp only
  exact keepsO_next (pushCtlWrite_keeps h_1)

theorem execGo_keeps {s0 a1 s1} (h_1 : Keeps s0 s1) :
    KeepsO s0 (execGo a1 s1) := by
  unfold execGo
  try dsimp only
  exact keepsO_next (pushCtlWrite_keeps h_1)

theorem execSysPushDataWrite_keeps {s0 a1 s1} (h_1 : Keeps s0 s1) :
    KeepsO s0 (execSysPushDataWrite a1 s1) := by
  unfold execSysPushDataWrite
  try dsimp only
  exact keepsO_next (pushDataWrite_keeps h_1)

theorem execRemap_keeps {s0 s1} (h_1 : Keeps s0 s1) :
    KeepsO s0 (execRemap s1) := by
  unfold execRemap
  try dsimp only
  exact keepsO_next (keeps_ite (fun _ => keeps_mk h_1 rfl) (fun _ => h_1))

theorem execSliceBypass_keeps {s0 a1 a2 s1} (h_1 : Keeps s0 s1) :
    KeepsO s0 (execSliceBypass a1 a2 s1) := by
  unfold execSliceBypass
  try dsimp only
  exact keepsO_next (keeps_ite (fun _ => h_1) (fun _ => writeReg_keeps h_1))

theorem execSramCtlWrite_keeps {s0 a1 s1} (h_1 : Keeps s0 s1) :
    KeepsO s0 (execSramCtlWrite a1 s1) := by
  unfold execSramCtlWrite
  try dsimp only
  exact keepsO_next (sramCtl_keeps h_1)

theorem execHeadWm_keeps {s0 a1 a2 s1} (h_1 : Keeps s0 s1) :
    KeepsO s0 (execHeadWm a1 a2 s1) := by
  unfold execHeadWm
  try dsimp only
  exact keepsO_next (keeps_ite (fun _ => h_1) (fun _ => headWmWrite_keeps h_1))

theorem execHeadGatePol_keeps {s0 a1 a2 s1} (h_1 : Keeps s0 s1) :
    KeepsO s0 (execHeadGatePol a1 a2 s1) := by
  unfold execHeadGatePol
  try dsimp only
  exact keepsO_next (keeps_ite (fun _ => h_1) (fun _ => headPolWrite_keeps h_1))

theorem pcieWrite_keeps {s0 a1 a2 a3 s1} (h_1 : Keeps s0 s1) :
    Keeps s0 (pcieWrite a1 a2 a3 s1) := by
  unfold pcieWrite
  try dsimp only
  exact keeps_ite (fun _ => writeReg_keeps h_1) (fun _ => keeps_mk h_1 rfl)

theorem execRegisterWrite_keeps {s0 a1 a2 a3 s1} (h_1 : Keeps s0 s1) :
    KeepsO s0 (execRegisterWrite a1 a2 a3 s1) := by
  unfold execRegisterWrite
  try dsimp only
  exact keepsO_next (pcieWrite_keeps h_1)

theorem State.windowDrop_keeps {s0 s1} (h_1 : Keeps s0 s1) :
    Keeps s0 (State.windowDrop s1) := by
  unfold State.windowDrop
  try dsimp only
  exact keeps_ite (fun _ => keeps_mk h_1 rfl) (fun _ => h_1)

theorem State.dropPosted_keeps {s0 s1} (h_1 : Keeps s0 s1) :
    Keeps s0 (State.dropPosted s1) := by
  unfold State.dropPosted
  try dsimp only
  exact keeps_mk h_1 rfl

theorem State.capture_keeps {s0 s1 a2 a3 a4 a5 a6} (h_1 : Keeps s0 s1) :
    Keeps s0 (State.capture s1 a2 a3 a4 a5 a6) := by
  unfold State.capture
  try dsimp only
  exact keeps_ite (fun _ => h_1) (fun _ => keeps_mk h_1 rfl)

theorem State.captureWord_keeps {s0 s1 a2 a3 a4 a5} (h_1 : Keeps s0 s1) :
    Keeps s0 (State.captureWord s1 a2 a3 a4 a5) := by
  unfold State.captureWord
  try dsimp only
  exact State.capture_keeps (State.drawNat_keeps h_1)

theorem execBar2Write_keeps {s0 a1 a2 s1} (h_1 : Keeps s0 s1) :
    KeepsO s0 (execBar2Write a1 a2 s1) := by
  unfold execBar2Write
  try dsimp only
  exact keepsO_next (keeps_ite (fun _ => State.windowDrop_keeps h_1) (fun _ => keeps_ite (fun _ => h_1) (fun _ => keeps_ite (fun _ => keeps_mk
      h_1 rfl) (fun _ => keeps_ite (fun _ => keeps_mk h_1 rfl) (fun _ => keeps_ite (fun _ => State.guardedWrite_keeps h_1) (fun _ =>
      State.dropPosted_keeps (State.captureWord_keeps (State.guardedWrite_keeps h_1))))))))

theorem State.sayOnes_keeps {s0 s1 a2} (h_1 : Keeps s0 s1) :
    Keeps s0 (State.sayOnes s1 a2) := by
  unfold State.sayOnes
  try dsimp only
  exact State.say_keeps h_1

theorem State.sayData_keeps {s0 s1 a2 a3} (h_1 : Keeps s0 s1) :
    Keeps s0 (State.sayData s1 a2 a3) := by
  unfold State.sayData
  try dsimp only
  exact keeps_mk h_1 rfl

theorem State.readStore_keeps {s0 s1 a2 a3} (h_1 : Keeps s0 s1) :
    Keeps s0 (State.readStore s1 a2 a3).2.2 := by
  unfold State.readStore
  try dsimp only
  exact keepsAt_ite (P := fun x : _ × _ × State => Keeps s0 x.2.2) (fun _ => h_1) (fun _ => State.readMem_keeps h_1)

theorem execBar2Read_keeps {s0 a1 a2 s1} (h_1 : Keeps s0 s1) :
    KeepsO s0 (execBar2Read a1 a2 s1) := by
  unfold execBar2Read
  try dsimp only
  exact keepsO_next (keeps_ite (fun _ => State.sayOnes_keeps h_1) (fun _ => State.sayData_keeps (State.readStore_keeps h_1)))

theorem execBar4Write_keeps {s0 a1 a2 s1} (h_1 : Keeps s0 s1) :
    KeepsO s0 (execBar4Write a1 a2 s1) := by
  unfold execBar4Write
  try dsimp only
  exact keepsO_next (keeps_ite (fun _ => State.windowDrop_keeps h_1) (fun _ => keeps_ite (fun _ => keeps_mk h_1 rfl) (fun _ => keeps_ite (fun _
      => State.writeMem_keeps h_1) (fun _ => State.dropPosted_keeps (State.captureWord_keeps (State.writeMem_keeps h_1))))))

theorem State.readSram_keeps {s0 s1 a2 a3} (h_1 : Keeps s0 s1) :
    Keeps s0 (State.readSram s1 a2 a3).2.2 := by
  unfold State.readSram
  try dsimp only
  exact State.readMem_keeps h_1

theorem execBar4Read_keeps {s0 a1 a2 s1} (h_1 : Keeps s0 s1) :
    KeepsO s0 (execBar4Read a1 a2 s1) := by
  unfold execBar4Read
  try dsimp only
  exact keepsO_next (keeps_ite (fun _ => State.sayOnes_keeps h_1) (fun _ => keeps_ite (fun _ => State.sayOnes_keeps (State.capture_keeps h_1))
      (fun _ => State.sayData_keeps (State.readSram_keeps h_1))))

theorem State.aliasWrite_keeps {s0 s1 a2 a3 a4 a5} (h_1 : Keeps s0 s1) : Keeps s0 (State.aliasWrite s1 a2 a3 a4 a5).2 := by
  have k := State.checkWord_keeps (a2 := 1) (a3 := a3 / 4) h_1
  unfold State.aliasWrite
  dsimp only
  exact keepsAt_ite (P := fun x : _ × State => Keeps s0 x.2) (fun _ => k)
    (fun _ => State.setCells_keeps k (fun i => writeBytes_wf _ _ (cells_wf 1 i)))

theorem State.aliasBy_keeps {s0 s1 a2 a3 a4 a5 a6 a7} (h_1 : Keeps s0 s1) :
    Keeps s0 (State.aliasBy s1 a2 a3 a4 a5 a6 a7) := by
  unfold State.aliasBy
  try dsimp only
  exact keeps_ite (fun _ => State.sayError_keeps h_1) (fun _ => keeps_ite (fun _ => State.sayError_keeps (State.capture_keeps h_1)) (fun _ =>
      keeps_ite (fun _ => State.say_keeps (State.aliasWrite_keeps h_1)) (fun _ => State.sayError_keeps (State.captureWord_keeps
      (State.aliasWrite_keeps h_1)))))

theorem execBitSetAliasWrite_keeps {s0 a1 a2 a3 s1} (h_1 : Keeps s0 s1) :
    KeepsO s0 (execBitSetAliasWrite a1 a2 a3 s1) := by
  unfold execBitSetAliasWrite
  try dsimp only
  exact keepsO_next (keeps_ite (fun _ => State.sayError_keeps h_1) (fun _ => State.aliasBy_keeps (State.drawNat_keeps h_1)))

theorem execBitClearAliasWrite_keeps {s0 a1 a2 a3 s1} (h_1 : Keeps s0 s1) :
    KeepsO s0 (execBitClearAliasWrite a1 a2 a3 s1) := by
  unfold execBitClearAliasWrite
  try dsimp only
  exact keepsO_next (keeps_ite (fun _ => State.sayError_keeps h_1) (fun _ => State.aliasBy_keeps (State.drawNat_keeps h_1)))

theorem State.matrixError_keeps {s0 s1 a2 a3 a4} (h_1 : Keeps s0 s1) :
    Keeps s0 (State.matrixError s1 a2 a3 a4) := by
  unfold State.matrixError
  try dsimp only
  exact State.sayError_keeps (State.capture_keeps h_1)

theorem execNvsWindowWrite_keeps {s0 a1 a2 a3 s1} (h_1 : Keeps s0 s1) :
    KeepsO s0 (execNvsWindowWrite a1 a2 a3 s1) := by
  unfold execNvsWindowWrite
  try dsimp only
  exact keepsO_next (keeps_ite (fun _ => h_1) (fun _ => State.matrixError_keeps (keeps_mk h_1 rfl)))

theorem State.matrixWord_keeps {s0 s1 a2 a3} (h_1 : Keeps s0 s1) :
    Keeps s0 (State.matrixWord s1 a2 a3) := by
  unfold State.matrixWord
  try dsimp only
  exact State.sayError_keeps (State.captureWord_keeps h_1)

theorem State.matrixRegs_keeps {s0 s1 a2 a3 a4} (h_1 : Keeps s0 s1) :
    Keeps s0 (State.matrixRegs s1 a2 a3 a4) := by
  unfold State.matrixRegs
  try dsimp only
  exact keeps_ite (fun _ => keeps_mk h_1 rfl) (fun _ => keeps_foldl (fun _ _ h1 => keeps_ite (fun _ => keeps_ite (fun _ => keeps_mk h1 rfl) (fun
      _ => h1)) (fun _ => writeReg_keeps h1)) h_1)

theorem State.matrixWrite_keeps {s0 s1 a2 a3} (h_1 : Keeps s0 s1) :
    Keeps s0 (State.matrixWrite s1 a2 a3) := by
  unfold State.matrixWrite
  try dsimp only
  split
  · exact State.say_keeps h_1
  · exact keeps_ite (fun _ => State.matrixError_keeps h_1) (fun _ => keeps_ite (fun _ => State.say_keeps (State.writeMem_keeps h_1)) (fun _ =>
        State.matrixWord_keeps (State.writeMem_keeps h_1)))
  · exact State.aliasBy_keeps h_1
  · exact State.say_keeps (State.matrixRegs_keeps h_1)
  · exact keeps_ite (fun _ => State.say_keeps h_1) (fun _ => State.matrixError_keeps (keeps_mk h_1 rfl))
  · exact keeps_ite (fun _ => State.say_keeps h_1) (fun _ => keeps_ite (fun _ => State.say_keeps (State.writeMem_keeps h_1)) (fun _ =>
        State.matrixWord_keeps (State.writeMem_keeps h_1)))
  · exact State.say_keeps h_1
  · exact keeps_ite (fun _ => State.matrixError_keeps h_1) (fun _ => keeps_ite (fun _ => State.say_keeps (keepsAt_ite (P := fun x : _ × State =>
        Keeps s0 x.2) (fun _ => State.guardedWrite_keeps h_1) (fun _ => State.writeMem_keeps h_1))) (fun _ => State.matrixWord_keeps
        (keepsAt_ite (P := fun x : _ × State => Keeps s0 x.2) (fun _ => State.guardedWrite_keeps h_1) (fun _ => State.writeMem_keeps h_1))))
  · exact State.say_keeps h_1
  · exact State.matrixError_keeps h_1

theorem State.matrixRead_keeps {s0 s1 a2 a3 a4} (h_1 : Keeps s0 s1) :
    Keeps s0 (State.matrixRead s1 a2 a3 a4) := by
  unfold State.matrixRead
  try dsimp only
  split
  · exact State.say_keeps h_1
  · exact keeps_ite (fun _ => State.matrixError_keeps h_1) (fun _ => keeps_ite (fun _ => State.matrixWord_keeps (State.readSram_keeps h_1)) (fun
        _ => State.say_keeps (State.readSram_keeps h_1)))
  · exact keeps_ite (fun _ => State.matrixError_keeps h_1) (fun _ => keeps_ite (fun _ => State.matrixWord_keeps (State.readSram_keeps h_1)) (fun
        _ => State.say_keeps (State.readSram_keeps h_1)))
  · exact State.say_keeps (readRegs_keeps h_1)
  · exact keeps_ite (fun _ => h_1) (fun _ => State.say_keeps h_1)
  · exact keeps_ite (fun _ => State.matrixWord_keeps (State.readMem_keeps h_1)) (fun _ => State.say_keeps (State.readMem_keeps h_1))
  · exact State.say_keeps h_1
  · exact keeps_ite (fun _ => State.matrixError_keeps h_1) (fun _ => keeps_ite (fun _ => State.matrixWord_keeps (State.readStore_keeps h_1))
        (fun _ => State.say_keeps (State.readStore_keeps h_1)))
  · exact State.say_keeps (State.drawNat_keeps h_1)
  · exact State.matrixError_keeps h_1

theorem execMatrixTransaction_keeps {s0 a1 s1} (h_1 : Keeps s0 s1) :
    KeepsO s0 (execMatrixTransaction a1 s1) := by
  unfold execMatrixTransaction
  try dsimp only
  exact keepsO_next (keeps_ite (fun _ => h_1) (fun _ => keeps_ite (fun _ => keeps_ite (fun _ => State.sayError_keeps h_1) (fun _ => h_1)) (fun _
      => keeps_ite (fun _ => keeps_ite (fun _ => State.matrixError_keeps h_1) (fun _ => h_1)) (fun _ => keeps_ite (fun _ =>
      State.matrixWrite_keeps h_1) (fun _ => State.matrixRead_keeps h_1)))))

theorem execMatrixTimeout_keeps {s0 a1 s1} (h_1 : Keeps s0 s1) :
    KeepsO s0 (execMatrixTimeout a1 s1) := by
  unfold execMatrixTimeout
  try dsimp only
  exact keepsO_next (keeps_ite (fun _ => h_1) (fun _ => keeps_ite (fun _ => State.dropPosted_keeps (State.matrixError_keeps h_1)) (fun _ =>
      State.matrixError_keeps h_1)))

theorem execScrub_keeps {s0 a1 s1} (h_1 : Keeps s0 s1) : KeepsO s0 (execScrub a1 s1) := by
  have step : ∀ (p : Sparse Nat) {x : State}, Keeps s0 x → Keeps s0 ({ x with mem := { x.mem with scrubPos := p } } : State) :=
    fun _ _ h => keeps_mk h rfl
  unfold execScrub
  extract_lets u f
  have kf : ∀ n x, Keeps s0 x → Keeps s0 (f x n) := fun n x h => step _ h
  clear_value f
  exact keepsO_next (keeps_ite (fun _ => keeps_ite (fun _ => h_1) (fun _ => kf _ _ (State.checkWord_keeps h_1)))
    (fun _ => keeps_ite (fun _ => keeps_ite (fun _ => h_1)
      (fun _ => kf _ _ (keeps_foldl (fun _ _ h3 => State.checkWord_keeps h3) h_1))) (fun _ => h_1)))

theorem execAonResetRelease_keeps {s0 a1 s1} (h_1 : Keeps s0 s1) : KeepsO s0 (execAonResetRelease a1 s1) := by
  unfold execAonResetRelease
  refine keepsO_next (keeps_ite (fun _ => h_1) (fun _ => incCounter_keeps (keeps_to h_1 rfl (fun i => ?_))))
  exact ⟨i.1, i.2.1, i.2.2.1, i.2.2.2.1, i.2.2.2.2.1, i.2.2.2.2.2.1, Nat.mod_lt _ (by decide)⟩

theorem State.addCause_keeps {s0 s1 a2} (h_1 : Keeps s0 s1) :
    Keeps s0 (State.addCause s1 a2) := by
  unfold State.addCause
  try dsimp only
  exact keeps_mk h_1 rfl

theorem State.planesReset_keeps {s0 s1} (h_1 : Keeps s0 s1) : Keeps s0 (State.planesReset s1) := by
  refine keeps_to h_1 rfl (fun i => ?_)
  obtain ⟨m, n, f, _, _, b, a⟩ := i
  obtain ⟨ma, mb, mc⟩ := wf_parts m
  exact ⟨wf_of ma (spClear_wf mb) mc, n, f, ⟨by show 10 ≤ 14; decide, by show 14 ≤ 20; decide⟩, (by decide : timeLegal {}), b, a⟩

theorem execPerstAssert_keeps {s0 s1} (h_1 : Keeps s0 s1) :
    KeepsO s0 (execPerstAssert s1) := by
  unfold execPerstAssert
  try dsimp only
  refine keepsO_next ?_
  refine keeps_ite (fun _ => h_1) (fun _ => ?_)
  split
  · exact State.addCause_keeps (keeps_mk (State.addCause_keeps (keeps_mk h_1 rfl)) rfl)
  · exact keeps_ite (fun _ => State.windStart_keeps (State.addCause_keeps (State.addCause_keeps (keeps_mk h_1 rfl)))) (fun _ =>
        State.planesReset_keeps (State.addCause_keeps (keeps_mk h_1 rfl)))

theorem State.planesStart_keeps {s0 s1} (h_1 : Keeps s0 s1) :
    Keeps s0 (State.planesStart s1) := by
  unfold State.planesStart
  try dsimp only
  exact keeps_mk h_1 rfl

theorem execPerstRelease_keeps {s0 a1 s1} (h_1 : Keeps s0 s1) :
    KeepsO s0 (execPerstRelease a1 s1) := by
  unfold execPerstRelease
  try dsimp only
  exact keepsO_next (keeps_ite (fun _ => h_1) (fun _ => keeps_ite (fun _ => keeps_mk h_1 rfl) (fun _ => State.planesStart_keeps
      (State.planesReset_keeps (keeps_mk h_1 rfl)))))

theorem execPcieHotReset_keeps {s0 s1} (h_1 : Keeps s0 s1) : KeepsO s0 (execPcieHotReset s1) := by
  unfold execPcieHotReset
  refine keepsO_next (keeps_ite (fun _ => h_1) (fun _ => ?_))
  extract_lets a b c
  have ha : Keeps s0 a := State.resetCommands_keeps h_1
  clear_value a
  have hb : Keeps s0 b := keeps_foldl (fun _ _ h2 => State.setRing_keeps h2) ha
  clear_value b
  exact State.addCause_keeps (keeps_mk hb rfl)

theorem execRootPllLock_keeps {s0 s1} (h_1 : Keeps s0 s1) :
    KeepsO s0 (execRootPllLock s1) := by
  unfold execRootPllLock
  try dsimp only
  exact keepsO_next (keeps_ite (fun _ => h_1) (fun _ => keeps_mk h_1 rfl))

theorem State.bootFlash_keeps {s0 s1 a2 a3} (h_1 : Keeps s0 s1) :
    Keeps s0 (State.bootFlash s1 a2 a3) := by
  unfold State.bootFlash
  try dsimp only
  exact keeps_ite (fun _ => State.bootAccepted_keeps (State.readImage_keeps h_1)) (fun _ => State.tryImage_keeps (State.readImage_keeps h_1))

theorem execBoot_keeps {s0 a1 a2 a3 s1} (h_1 : Keeps s0 s1) :
    KeepsO s0 (execBoot a1 a2 a3 s1) := by
  unfold execBoot
  try dsimp only
  exact keepsO_next (keeps_ite (fun _ => h_1) (fun _ => keeps_ite (fun _ => keeps_mk h_1 rfl) (fun _ => keeps_ite (fun _ =>
      State.bootFailed_keeps h_1) (fun _ => State.bootFlash_keeps h_1))))

theorem execReady_keeps {s0 a1 s1} (h_1 : Keeps s0 s1) : KeepsO s0 (execReady a1 s1) := by
  unfold execReady
  refine keepsO_next (keeps_ite (fun _ => h_1) (fun _ => keeps_ite (fun _ => State.bootFailed_keeps h_1) (fun _ => keeps_to h_1 rfl (fun i => ?_))))
  obtain ⟨m, r⟩ := i
  obtain ⟨ma, mb, mc⟩ := wf_parts m
  exact ⟨wf_of rfl mb mc, r⟩

theorem execWindDownDone_keeps {s0 s1} (h_1 : Keeps s0 s1) :
    KeepsO s0 (execWindDownDone s1) := by
  unfold execWindDownDone
  try dsimp only
  refine keepsO_next ?_
  split
  · exact keeps_ite (fun _ => h_1) (fun _ => keeps_ite (fun _ => keeps_ite (fun _ => State.planesReset_keeps (keeps_ite (fun _ =>
        State.windResume_keeps (keeps_foldl (fun _ _ h7 => State.headOff_keeps h7) (State.post_keeps (keeps_mk h_1 rfl)))) (fun _ => keeps_foldl
        (fun _ _ h6 => State.headOff_keeps h6) (State.post_keeps (keeps_mk h_1 rfl))))) (fun _ => State.planesStart_keeps
        (State.planesReset_keeps (keeps_ite (fun _ => State.windResume_keeps (keeps_foldl (fun _ _ h8 => State.headOff_keeps h8)
        (State.post_keeps (keeps_mk h_1 rfl)))) (fun _ => keeps_foldl (fun _ _ h7 => State.headOff_keeps h7) (State.post_keeps (keeps_mk h_1
        rfl))))))) (fun _ => keeps_ite (fun _ => State.windResume_keeps (keeps_foldl (fun _ _ h5 => State.headOff_keeps h5) (State.post_keeps
        (keeps_mk h_1 rfl)))) (fun _ => keeps_foldl (fun _ _ h4 => State.headOff_keeps h4) (State.post_keeps (keeps_mk h_1 rfl)))))
  · exact h_1

theorem State.resume_keeps {s0 s1 a2} (h_1 : Keeps s0 s1) :
    Keeps s0 (State.resume s1 a2) := by
  unfold State.resume
  try dsimp only
  exact keeps_mk (State.runCommand_keeps (keeps_mk h_1 rfl)) rfl

theorem State.resumeAll_keeps {s0 s1 a2} (h_1 : Keeps s0 s1) :
    Keeps s0 (State.resumeAll s1 a2) := by
  unfold State.resumeAll
  try dsimp only
  exact keeps_foldl (fun _ _ h0 => State.resume_keeps h0) h_1

theorem execActivateCopy_keeps {s0 a1 s1} (h_1 : Keeps s0 s1) :
    KeepsO s0 (execActivateCopy a1 s1) := by
  unfold execActivateCopy
  try dsimp only
  exact keepsO_next (keeps_ite (fun _ => h_1) (fun _ => State.resumeAll_keeps (State.copyEnd_keeps h_1)))

theorem State.clearStack_keeps {s0 s1 a2} (h_1 : Keeps s0 s1) : Keeps s0 (State.clearStack s1 a2) := by
  refine keeps_to h_1 rfl (fun i => ?_)
  obtain ⟨m, r⟩ := i
  obtain ⟨ma, mb, mc⟩ := wf_parts m
  exact ⟨wf_of (filter_wf _ ma) mb mc, r⟩

theorem State.domainArrived_keeps {s0 s1 a2 a3 a4} (h_1 : Keeps s0 s1) :
    Keeps s0 (State.domainArrived s1 a2 a3 a4) := by
  unfold State.domainArrived
  try dsimp only
  exact keeps_ite (fun _ => keeps_ite (fun _ => keeps_foldl (fun _ _ h2 => writeReg_keeps h2) (keeps_mk h_1 rfl)) (fun _ => h_1)) (fun _ =>
      keeps_ite (fun _ => keeps_ite (fun _ => State.feed_keeps h_1) (fun _ => State.moveDeque_keeps h_1)) (fun _ => keeps_ite (fun _ =>
      State.clearStack_keeps h_1) (fun _ => keeps_ite (fun _ => keeps_ite (fun _ => State.resumeAll_keeps (keeps_ite (fun _ =>
      State.setYoyo_keeps h_1) (fun _ => h_1))) (fun _ => keeps_ite (fun _ => State.setYoyo_keeps h_1) (fun _ => h_1))) (fun _ => h_1))))

theorem execPdChanged_keeps {s0 s1} (h_1 : Keeps s0 s1) :
    KeepsO s0 (execPdChanged s1) := by
  unfold execPdChanged
  try dsimp only
  refine keepsO_next ?_
  split
  · exact State.wakeNext_keeps (State.domainArrived_keeps (State.post_keeps (keeps_mk h_1 rfl)))
  · exact h_1
  · refine keeps_ite (fun _ => h_1) (fun _ => ?_)
    refine State.wakeNext_keeps ?_
    refine State.domainArrived_keeps ?_
    split
    · exact State.procApplied_keeps (State.post_keeps (keeps_mk h_1 rfl))
    · exact State.post_keeps (keeps_mk h_1 rfl)

theorem execCmd_keeps {s0 a1 a2 a3 s1} (h_1 : Keeps s0 s1) :
    KeepsO s0 (execCmd a1 a2 a3 s1) := by
  unfold execCmd
  try dsimp only
  refine keepsO_next ?_
  refine keeps_ite (fun _ => h_1) (fun _ => ?_)
  split
  · exact State.unsync_keeps (State.pairPost_keeps (State.ackMsg_keeps h_1))
  · exact keeps_ite (fun _ => State.unsync_keeps (State.pairPost_keeps (State.ackMsg_keeps h_1))) (fun _ => State.runPacket_keeps
        (State.ackMsg_keeps h_1))

theorem execCommandTimeout_keeps {s0 a1 s1} (h_1 : Keeps s0 s1) :
    KeepsO s0 (execCommandTimeout a1 s1) := by
  unfold execCommandTimeout
  try dsimp only
  refine keepsO_next ?_
  split
  · exact State.finish_keeps h_1
  · exact h_1

theorem State.tearPage_keeps {s0 s1} (h_1 : Keeps s0 s1) : Keeps s0 (State.tearPage s1) := by
  unfold State.tearPage
  dsimp only
  refine keeps_ite (fun _ => h_1) (fun _ => keeps_to (State.drawNat_keeps (State.drawNat_keeps h_1)) rfl (fun i => ?_))
  refine ⟨i.1, ?_, i.2.2⟩
  have w : ∀ l : List Nat, spWf 0 (l.foldl (fun c g => writeBytes c (64 * s1.nvs.page + 4 * g) (sliceBytes s1.nvs.buf (4 * g) 4)) s1.nvs.cells)
      = true :=
    fun l => keepsAt_foldl (P := fun c => spWf 0 c = true) (fun _ _ w => writeBytes_wf _ _ w) i.2.1
  dsimp only
  split
  · exact writeBytes_wf _ _ (w _)
  · exact w _

theorem execAonReset_keeps {s0 s1} (h_1 : Keeps s0 s1) : KeepsO s0 (execAonReset s1) := by
  unfold execAonReset
  extract_lets a
  have ha : Keeps s0 a := State.tearPage_keeps h_1
  clear_value a
  exact keepsO_next (keeps_to ha rfl (fun i => ⟨wf_of rfl rfl rfl, i.2.1, Nat.zero_le 2,
    ⟨by show 10 ≤ 14; decide, by show 14 ≤ 20; decide⟩, (by decide : timeLegal {}), Nat.zero_le 2, by show 0 < 8; decide⟩))

theorem execSupplyLoss_keeps {s0 s1} (h_1 : Keeps s0 s1) : KeepsO s0 (execSupplyLoss s1) := by
  unfold execSupplyLoss
  refine keepsO_next ?_
  extract_lets a src b c
  have ha : Keeps s0 a := State.tearPage_keeps h_1
  clear_value a
  have hb : Keeps s0 b := keeps_mk ha rfl
  clear_value b
  have hc : Keeps s0 c := State.planesReset_keeps hb
  clear_value c
  refine keeps_to hc rfl (fun i => ?_)
  obtain ⟨m, r⟩ := i
  obtain ⟨ma, mb, mc⟩ := wf_parts m
  exact ⟨wf_of rfl rfl mc, r⟩

theorem execPcieLinkUp_keeps {s0 s1} (h_1 : Keeps s0 s1) :
    KeepsO s0 (execPcieLinkUp s1) := by
  unfold execPcieLinkUp
  try dsimp only
  exact keepsO_next (keeps_ite (fun _ => h_1) (fun _ => keeps_mk h_1 rfl))

theorem exec_keeps {s0 a1 s1} (h_1 : Keeps s0 s1) :
    KeepsO s0 (exec a1 s1) := by
  unfold exec
  try dsimp only
  split
  · exact execNop_keeps h_1
  · exact execGetInfo_keeps h_1
  · exact execEventCtl_keeps h_1
  · exact execFuncReset_keeps h_1
  · exact execLogRead_keeps h_1
  · exact execDomainSet_keeps h_1
  · exact execDomainStatus_keeps h_1
  · exact execTpConfig_keeps h_1
  · exact execTpSelect_keeps h_1
  · exact execTpStep_keeps h_1
  · exact execEvtOutSet_keeps h_1
  · exact execEvtInSet_keeps h_1
  · exact execEvtInRead_keeps h_1
  · exact execLaunchCancel_keeps h_1
  · exact execQuadSet_keeps h_1
  · exact execPortSet_keeps h_1
  · exact execPortCounters_keeps h_1
  · exact execPortStatus_keeps h_1
  · exact execFlowSet_keeps h_1
  · exact execFlowEnable_keeps h_1
  · exact execFlowCounters_keeps h_1
  · exact execFlowStatus_keeps h_1
  · exact execTxSet_keeps h_1
  · exact execRouteSet_keeps h_1
  · exact execOutputSet_keeps h_1
  · exact execRouteStatus_keeps h_1
  · exact execLayerSet_keeps h_1
  · exact execLayerCoef_keeps h_1
  · exact execLayerPresent_keeps h_1
  · exact execLeasePolicy_keeps h_1
  · exact execLeaseStatus_keeps h_1
  · exact execAudioAssoc_keeps h_1
  · exact execAudioHead_keeps h_1
  · exact execAudioTx_keeps h_1
  · exact execAudioStatus_keeps h_1
  · exact execHeadConfig_keeps h_1
  · exact execHeadUnconfig_keeps h_1
  · exact execHeadStart_keeps h_1
  · exact execHeadStop_keeps h_1
  · exact execHeadSr_keeps h_1
  · exact execHeadPicture_keeps h_1
  · exact execHeadGate_keeps h_1
  · exact execWarmupEnd_keeps h_1
  · exact execHeadStatus_keeps h_1
  · exact execPanelWindup_keeps h_1
  · exact execPanelPowerdown_keeps h_1
  · exact execPowerSeqSet_keeps h_1
  · exact execDriverSet_keeps h_1
  · exact execDriverRetrain_keeps h_1
  · exact execTableLoad_keeps h_1
  · exact execSettingsLoad_keeps h_1
  · exact execActivate_keeps h_1
  · exact execMuraSwap_keeps h_1
  · exact execPanelStatus_keeps h_1
  · exact execVcomSet_keeps h_1
  · exact execLedgerSet_keeps h_1
  · exact execLedgerStats_keeps h_1
  · exact execLedgerSnapshot_keeps h_1
  · exact execLedgerTableRead_keeps h_1
  · exact execLedgerClear_keeps h_1
  · exact execViewSet_keeps h_1
  · exact execViewClear_keeps h_1
  · exact execViewTest_keeps h_1
  · exact execCheckSet_keeps h_1
  · exact execCheckRead_keeps h_1
  · exact execPairSet_keeps h_1
  · exact execPairHandover_keeps h_1
  · exact execPairRejoin_keeps h_1
  · exact execPairStatus_keeps h_1
  · exact execNvsRead_keeps h_1
  · exact execNvsWrite_keeps h_1
  · exact execRecordRead_keeps h_1
  · exact execRecordWrite_keeps h_1
  · exact execCounterRead_keeps h_1
  · exact execPdSet_keeps h_1
  · exact execOpSet_keeps h_1
  · exact execYoyoSet_keeps h_1
  · exact execPowerStatus_keeps h_1
  · exact execTileRead_keeps h_1
  · exact execEngineCounters_keeps h_1
  · exact execMemInject_keeps h_1
  · exact execCommandAccept_keeps h_1
  · exact execRegWrite_keeps h_1
  · exact execRegRead_keeps h_1
  · exact execMbxWrite_keeps h_1
  · exact execMbxSubmit_keeps h_1
  · exact execMbxRead_keeps h_1
  · exact execEvtRead_keeps h_1
  · exact execStatus_keeps h_1
  · exact execMailboxTimeout_keeps h_1
  · exact execMgtAddressMatch_keeps h_1
  · exact execDoorbell_keeps h_1
  · exact execRingCiWrite_keeps h_1
  · exact execRingCfgWrite_keeps h_1
  · exact execReplyWrite_keeps h_1
  · exact execEventPost_keeps h_1
  · exact execMsiXMessage_keeps h_1
  · exact execStepValue_keeps h_1
  · exact execStepDomain_keeps h_1
  · exact execLoadA_keeps h_1
  · exact execLoadB_keeps h_1
  · exact execSelect_keeps h_1
  · exact execRateHiWrite_keeps h_1
  · exact execTpSnapSecLoRead_keeps h_1
  · exact execLaneSlip_keeps h_1
  · exact execBitslipEn_keeps h_1
  · exact execLoopback_keeps h_1
  · exact execGenEn_keeps h_1
  · exact execCntClr_keeps h_1
  · exact execPrbsErrRead_keeps h_1
  · exact execRcRead_keeps h_1
  · exact execChkFrameRead_keeps h_1
  · exact execSramLoRead_keeps h_1
  · exact execBlow_keeps h_1
  · exact execStart_keeps h_1
  · exact execGo_keeps h_1
  · exact execSysPushDataWrite_keeps h_1
  · exact execRemap_keeps h_1
  · exact execCode_keeps h_1
  · exact execFuncResetDone_keeps h_1
  · exact execPdCtl_keeps h_1
  · exact execOpCtl_keeps h_1
  · exact execWakeMaskWrite_keeps h_1
  · exact execFabSel_keeps h_1
  · exact execSliceBypass_keeps h_1
  · exact execSramCtlWrite_keeps h_1
  · exact execHeadWm_keeps h_1
  · exact execHeadGatePol_keeps h_1
  · exact execRegisterWrite_keeps h_1
  · exact execBar2Write_keeps h_1
  · exact execBar2Read_keeps h_1
  · exact execBar4Write_keeps h_1
  · exact execBar4Read_keeps h_1
  · exact execBitSetAliasWrite_keeps h_1
  · exact execBitClearAliasWrite_keeps h_1
  · exact execNvsWindowWrite_keeps h_1
  · exact execMatrixTransaction_keeps h_1
  · exact execMatrixTimeout_keeps h_1
  · exact execScrub_keeps h_1
  · exact execAonResetRelease_keeps h_1
  · exact execRecordScan_keeps h_1
  · exact execPerstAssert_keeps h_1
  · exact execPerstRelease_keeps h_1
  · exact execPcieHotReset_keeps h_1
  · exact execRootPllLock_keeps h_1
  · exact execBoot_keeps h_1
  · exact execReady_keeps h_1
  · exact execRefclkLoss_keeps h_1
  · exact execNrefclkLoss_keeps h_1
  · exact execPfailN_keeps h_1
  · exact execPfailNDeassert_keeps h_1
  · exact execGlitch_keeps h_1
  · exact execWindDown_keeps h_1
  · exact execWdHoldEnd_keeps h_1
  · exact execPenGapEnd_keeps h_1
  · exact execWindDownCommits_keeps h_1
  · exact execWindDownDone_keeps h_1
  · exact execPgood_keeps h_1
  · exact execPanelPgLost_keeps h_1
  · exact execWindupFail_keeps h_1
  · exact execClaimTest_keeps h_1
  · exact execVcomSettle_keeps h_1
  · exact execPenDelay_keeps h_1
  · exact execTrainDelay_keeps h_1
  · exact execWindupDone_keeps h_1
  · exact execPanelPowerdownDrop_keeps h_1
  · exact execTimeTick_keeps h_1
  · exact execAutoSelect_keeps h_1
  · exact execPtpMessage_keeps h_1
  · exact execSyncLoss_keeps h_1
  · exact execHoldoverLimit_keeps h_1
  · exact execEvtCapture_keeps h_1
  · exact execEvtOutPulse_keeps h_1
  · exact execLaunchEntryDue_keeps h_1
  · exact execFrameReceive_keeps h_1
  · exact execControlFrameHandle_keeps h_1
  · exact execMembershipReport_keeps h_1
  · exact execFrameClose_keeps h_1
  · exact execPortUp_keeps h_1
  · exact execPortDown_keeps h_1
  · exact execLegLost_keeps h_1
  · exact execYoyoWindow_keeps h_1
  · exact execYoyoCompare_keeps h_1
  · exact execYoyoMembershipReport_keeps h_1
  · exact execTxPacketLaunch_keeps h_1
  · exact execAudioTxLaunch_keeps h_1
  · exact execCompositionStart_keeps h_1
  · exact execLossHoldEnd_keeps h_1
  · exact execItemRelease_keeps h_1
  · exact execPItemLatestStart_keeps h_1
  · exact execEngineFree_keeps h_1
  · exact execSteal_keeps h_1
  · exact execCItemComplete_keeps h_1
  · exact execTItemComplete_keeps h_1
  · exact execPItemComplete_keeps h_1
  · exact execRowSkipped_keeps h_1
  · exact execLatchPoint_keeps h_1
  · exact execMuraReleased_keeps h_1
  · exact execActivateCopy_keeps h_1
  · exact execThermSample_keeps h_1
  · exact execLineStart_keeps h_1
  · exact execTrimInstant_keeps h_1
  · exact execHeadStall_keeps h_1
  · exact execSrEnter_keeps h_1
  · exact execSrExit_keeps h_1
  · exact execFollowRepeat_keeps h_1
  · exact execWarmupDone_keeps h_1
  · exact execBalancingFrame_keeps h_1
  · exact execPark_keeps h_1
  · exact execHeadParked_keeps h_1
  · exact execCheckResult_keeps h_1
  · exact execLeaseReleased_keeps h_1
  · exact execTrainTimeout_keeps h_1
  · exact execConfigPacket_keeps h_1
  · exact execPoll_keeps h_1
  · exact execReport_keeps h_1
  · exact execBcTimeout_keeps h_1
  · exact execDriverPacket_keeps h_1
  · exact execLd_keeps h_1
  · exact execDischarge_keeps h_1
  · exact execPortAbsent_keeps h_1
  · exact execDriverConfig_keeps h_1
  · exact execEyeSample_keeps h_1
  · exact execEbOvf_keeps h_1
  · exact execRefreshStep_keeps h_1
  · exact execPdChanged_keeps h_1
  · exact execWake_keeps h_1
  · exact execVidSettle_keeps h_1
  · exact execVgoodTimeout_keeps h_1
  · exact execVgoodLost_keeps h_1
  · exact execNvsCommitEnd_keeps h_1
  · exact execCounterIncrement_keeps h_1
  · exact execPairLinkUp_keeps h_1
  · exact execPairLinkDown_keeps h_1
  · exact execHeartbeat_keeps h_1
  · exact execPhase_keeps h_1
  · exact execRetransmit_keeps h_1
  · exact execHello_keeps h_1
  · exact execAck_keeps h_1
  · exact execNak_keeps h_1
  · exact execEcho_keeps h_1
  · exact execTime_keeps h_1
  · exact execCmd_keeps h_1
  · exact execLatch_keeps h_1
  · exact execLatchWaitEnd_keeps h_1
  · exact execSelectMsg_keeps h_1
  · exact execSelectWaitEnd_keeps h_1
  · exact execRow_keeps h_1
  · exact execRowWaitEnd_keeps h_1
  · exact execRowReq_keeps h_1
  · exact execRowData_keeps h_1
  · exact execRelease_keeps h_1
  · exact execWindDownMsg_keeps h_1
  · exact execHandover_keeps h_1
  · exact execHandoverOverlapEnd_keeps h_1
  · exact execTakeover_keeps h_1
  · exact execBlockLock_keeps h_1
  · exact execChkSync_keeps h_1
  · exact execLinkFault_keeps h_1
  · exact execEchoTimeout_keeps h_1
  · exact execDelayReq_keeps h_1
  · exact execPdWriteDrop_keeps h_1
  · exact execCommandTimeout_keeps h_1
  · exact execTs2_keeps h_1
  · exact execAonReset_keeps h_1
  · exact execSupplyLoss_keeps h_1
  · exact execRefclkReturn_keeps h_1
  · exact execPcieLinkUp_keeps h_1

end Sys2Proof.Machine
end

