-- ==== Sys2Proof/Laws/State.lean ====
section
/-! SUPPORT. The small laws of the named updates of the state: what each one writes, that it leaves every other field alone,
and that a read after a write sees it. -/

namespace Sys2Proof.Machine

open Sys2Proof.Laws

variable (s : State)

/-! ## State.setHead -/

@[simp] theorem State.setHead_pending (n : Nat) (h : Head) : (s.setHead n h).pending = s.pending := rfl
@[simp] theorem State.setHead_sys (n : Nat) (h : Head) : (s.setHead n h).sys = s.sys := rfl
@[simp] theorem State.setHead_clocks (n : Nat) (h : Head) : (s.setHead n h).clocks = s.clocks := rfl
@[simp] theorem State.setHead_wind (n : Nat) (h : Head) : (s.setHead n h).wind = s.wind := rfl
@[simp] theorem State.setHead_power (n : Nat) (h : Head) : (s.setHead n h).power = s.power := rfl
@[simp] theorem State.setHead_time (n : Nat) (h : Head) : (s.setHead n h).time = s.time := rfl
@[simp] theorem State.setHead_timeRegs (n : Nat) (h : Head) : (s.setHead n h).timeRegs = s.timeRegs := rfl
@[simp] theorem State.setHead_domains (n : Nat) (h : Head) : (s.setHead n h).domains = s.domains := rfl
@[simp] theorem State.setHead_evtIn (n : Nat) (h : Head) : (s.setHead n h).evtIn = s.evtIn := rfl
@[simp] theorem State.setHead_evtOut (n : Nat) (h : Head) : (s.setHead n h).evtOut = s.evtOut := rfl
@[simp] theorem State.setHead_rings (n : Nat) (h : Head) : (s.setHead n h).rings = s.rings := rfl
@[simp] theorem State.setHead_cp (n : Nat) (h : Head) : (s.setHead n h).cp = s.cp := rfl
@[simp] theorem State.setHead_mbx (n : Nat) (h : Head) : (s.setHead n h).mbx = s.mbx := rfl
@[simp] theorem State.setHead_log (n : Nat) (h : Head) : (s.setHead n h).log = s.log := rfl
@[simp] theorem State.setHead_nvs (n : Nat) (h : Head) : (s.setHead n h).nvs = s.nvs := rfl
@[simp] theorem State.setHead_mem (n : Nat) (h : Head) : (s.setHead n h).mem = s.mem := rfl
@[simp] theorem State.setHead_fab (n : Nat) (h : Head) : (s.setHead n h).fab = s.fab := rfl
@[simp] theorem State.setHead_lanes (n : Nat) (h : Head) : (s.setHead n h).lanes = s.lanes := rfl
@[simp] theorem State.setHead_foms (n : Nat) (h : Head) : (s.setHead n h).foms = s.foms := rfl
@[simp] theorem State.setHead_prbs (n : Nat) (h : Head) : (s.setHead n h).prbs = s.prbs := rfl
@[simp] theorem State.setHead_quads (n : Nat) (h : Head) : (s.setHead n h).quads = s.quads := rfl
@[simp] theorem State.setHead_ports (n : Nat) (h : Head) : (s.setHead n h).ports = s.ports := rfl
@[simp] theorem State.setHead_flows (n : Nat) (h : Head) : (s.setHead n h).flows = s.flows := rfl
@[simp] theorem State.setHead_txs (n : Nat) (h : Head) : (s.setHead n h).txs = s.txs := rfl
@[simp] theorem State.setHead_layers (n : Nat) (h : Head) : (s.setHead n h).layers = s.layers := rfl
@[simp] theorem State.setHead_outputs (n : Nat) (h : Head) : (s.setHead n h).outputs = s.outputs := rfl
@[simp] theorem State.setHead_outShots (n : Nat) (h : Head) : (s.setHead n h).outShots = s.outShots := rfl
@[simp] theorem State.setHead_leases (n : Nat) (h : Head) : (s.setHead n h).leases = s.leases := rfl
@[simp] theorem State.setHead_assocs (n : Nat) (h : Head) : (s.setHead n h).assocs = s.assocs := rfl
@[simp] theorem State.setHead_txAudio (n : Nat) (h : Head) : (s.setHead n h).txAudio = s.txAudio := rfl
@[simp] theorem State.setHead_tq (n : Nat) (h : Head) : (s.setHead n h).tq = s.tq := rfl
theorem State.setHead_heads (n : Nat) (h : Head) : (s.setHead n h).heads = spSet {} s.heads n h := rfl
@[simp] theorem State.setHead_drivers (n : Nat) (h : Head) : (s.setHead n h).drivers = s.drivers := rfl
@[simp] theorem State.setHead_polls (n : Nat) (h : Head) : (s.setHead n h).polls = s.polls := rfl
@[simp] theorem State.setHead_rennex (n : Nat) (h : Head) : (s.setHead n h).rennex = s.rennex := rfl
@[simp] theorem State.setHead_pair (n : Nat) (h : Head) : (s.setHead n h).pair = s.pair := rfl
@[simp] theorem State.setHead_sync (n : Nat) (h : Head) : (s.setHead n h).sync = s.sync := rfl
@[simp] theorem State.setHead_free (n : Nat) (h : Head) : (s.setHead n h).free = s.free := rfl
@[simp] theorem State.setHead_answer (n : Nat) (h : Head) : (s.setHead n h).answer = s.answer := rfl
@[simp] theorem State.setHead_head (n : Nat) (h : Head) : (s.setHead n h).head n = h := spGet_spSet_same
theorem State.setHead_head_other (n : Nat) (h : Head) (m : Nat) (ne : m ≠ n) : (s.setHead n h).head m = s.head m := spGet_spSet_other ne

/-! ## State.setRing -/

@[simp] theorem State.setRing_pending (n : Nat) (h : Ring) : (s.setRing n h).pending = s.pending := rfl
@[simp] theorem State.setRing_sys (n : Nat) (h : Ring) : (s.setRing n h).sys = s.sys := rfl
@[simp] theorem State.setRing_clocks (n : Nat) (h : Ring) : (s.setRing n h).clocks = s.clocks := rfl
@[simp] theorem State.setRing_wind (n : Nat) (h : Ring) : (s.setRing n h).wind = s.wind := rfl
@[simp] theorem State.setRing_power (n : Nat) (h : Ring) : (s.setRing n h).power = s.power := rfl
@[simp] theorem State.setRing_time (n : Nat) (h : Ring) : (s.setRing n h).time = s.time := rfl
@[simp] theorem State.setRing_timeRegs (n : Nat) (h : Ring) : (s.setRing n h).timeRegs = s.timeRegs := rfl
@[simp] theorem State.setRing_domains (n : Nat) (h : Ring) : (s.setRing n h).domains = s.domains := rfl
@[simp] theorem State.setRing_evtIn (n : Nat) (h : Ring) : (s.setRing n h).evtIn = s.evtIn := rfl
@[simp] theorem State.setRing_evtOut (n : Nat) (h : Ring) : (s.setRing n h).evtOut = s.evtOut := rfl
theorem State.setRing_rings (n : Nat) (h : Ring) : (s.setRing n h).rings = spSet {} s.rings n h := rfl
@[simp] theorem State.setRing_cp (n : Nat) (h : Ring) : (s.setRing n h).cp = s.cp := rfl
@[simp] theorem State.setRing_mbx (n : Nat) (h : Ring) : (s.setRing n h).mbx = s.mbx := rfl
@[simp] theorem State.setRing_log (n : Nat) (h : Ring) : (s.setRing n h).log = s.log := rfl
@[simp] theorem State.setRing_nvs (n : Nat) (h : Ring) : (s.setRing n h).nvs = s.nvs := rfl
@[simp] theorem State.setRing_mem (n : Nat) (h : Ring) : (s.setRing n h).mem = s.mem := rfl
@[simp] theorem State.setRing_fab (n : Nat) (h : Ring) : (s.setRing n h).fab = s.fab := rfl
@[simp] theorem State.setRing_lanes (n : Nat) (h : Ring) : (s.setRing n h).lanes = s.lanes := rfl
@[simp] theorem State.setRing_foms (n : Nat) (h : Ring) : (s.setRing n h).foms = s.foms := rfl
@[simp] theorem State.setRing_prbs (n : Nat) (h : Ring) : (s.setRing n h).prbs = s.prbs := rfl
@[simp] theorem State.setRing_quads (n : Nat) (h : Ring) : (s.setRing n h).quads = s.quads := rfl
@[simp] theorem State.setRing_ports (n : Nat) (h : Ring) : (s.setRing n h).ports = s.ports := rfl
@[simp] theorem State.setRing_flows (n : Nat) (h : Ring) : (s.setRing n h).flows = s.flows := rfl
@[simp] theorem State.setRing_txs (n : Nat) (h : Ring) : (s.setRing n h).txs = s.txs := rfl
@[simp] theorem State.setRing_layers (n : Nat) (h : Ring) : (s.setRing n h).layers = s.layers := rfl
@[simp] theorem State.setRing_outputs (n : Nat) (h : Ring) : (s.setRing n h).outputs = s.outputs := rfl
@[simp] theorem State.setRing_outShots (n : Nat) (h : Ring) : (s.setRing n h).outShots = s.outShots := rfl
@[simp] theorem State.setRing_leases (n : Nat) (h : Ring) : (s.setRing n h).leases = s.leases := rfl
@[simp] theorem State.setRing_assocs (n : Nat) (h : Ring) : (s.setRing n h).assocs = s.assocs := rfl
@[simp] theorem State.setRing_txAudio (n : Nat) (h : Ring) : (s.setRing n h).txAudio = s.txAudio := rfl
@[simp] theorem State.setRing_tq (n : Nat) (h : Ring) : (s.setRing n h).tq = s.tq := rfl
@[simp] theorem State.setRing_heads (n : Nat) (h : Ring) : (s.setRing n h).heads = s.heads := rfl
@[simp] theorem State.setRing_drivers (n : Nat) (h : Ring) : (s.setRing n h).drivers = s.drivers := rfl
@[simp] theorem State.setRing_polls (n : Nat) (h : Ring) : (s.setRing n h).polls = s.polls := rfl
@[simp] theorem State.setRing_rennex (n : Nat) (h : Ring) : (s.setRing n h).rennex = s.rennex := rfl
@[simp] theorem State.setRing_pair (n : Nat) (h : Ring) : (s.setRing n h).pair = s.pair := rfl
@[simp] theorem State.setRing_sync (n : Nat) (h : Ring) : (s.setRing n h).sync = s.sync := rfl
@[simp] theorem State.setRing_free (n : Nat) (h : Ring) : (s.setRing n h).free = s.free := rfl
@[simp] theorem State.setRing_answer (n : Nat) (h : Ring) : (s.setRing n h).answer = s.answer := rfl
@[simp] theorem State.setRing_ring (n : Nat) (h : Ring) : (s.setRing n h).ring n = h := spGet_spSet_same
theorem State.setRing_ring_other (n : Nat) (h : Ring) (m : Nat) (ne : m ≠ n) : (s.setRing n h).ring m = s.ring m := spGet_spSet_other ne

/-! ## State.setLane -/

@[simp] theorem State.setLane_pending (n : Nat) (h : Lane) : (s.setLane n h).pending = s.pending := rfl
@[simp] theorem State.setLane_sys (n : Nat) (h : Lane) : (s.setLane n h).sys = s.sys := rfl
@[simp] theorem State.setLane_clocks (n : Nat) (h : Lane) : (s.setLane n h).clocks = s.clocks := rfl
@[simp] theorem State.setLane_wind (n : Nat) (h : Lane) : (s.setLane n h).wind = s.wind := rfl
@[simp] theorem State.setLane_power (n : Nat) (h : Lane) : (s.setLane n h).power = s.power := rfl
@[simp] theorem State.setLane_time (n : Nat) (h : Lane) : (s.setLane n h).time = s.time := rfl
@[simp] theorem State.setLane_timeRegs (n : Nat) (h : Lane) : (s.setLane n h).timeRegs = s.timeRegs := rfl
@[simp] theorem State.setLane_domains (n : Nat) (h : Lane) : (s.setLane n h).domains = s.domains := rfl
@[simp] theorem State.setLane_evtIn (n : Nat) (h : Lane) : (s.setLane n h).evtIn = s.evtIn := rfl
@[simp] theorem State.setLane_evtOut (n : Nat) (h : Lane) : (s.setLane n h).evtOut = s.evtOut := rfl
@[simp] theorem State.setLane_rings (n : Nat) (h : Lane) : (s.setLane n h).rings = s.rings := rfl
@[simp] theorem State.setLane_cp (n : Nat) (h : Lane) : (s.setLane n h).cp = s.cp := rfl
@[simp] theorem State.setLane_mbx (n : Nat) (h : Lane) : (s.setLane n h).mbx = s.mbx := rfl
@[simp] theorem State.setLane_log (n : Nat) (h : Lane) : (s.setLane n h).log = s.log := rfl
@[simp] theorem State.setLane_nvs (n : Nat) (h : Lane) : (s.setLane n h).nvs = s.nvs := rfl
@[simp] theorem State.setLane_mem (n : Nat) (h : Lane) : (s.setLane n h).mem = s.mem := rfl
@[simp] theorem State.setLane_fab (n : Nat) (h : Lane) : (s.setLane n h).fab = s.fab := rfl
theorem State.setLane_lanes (n : Nat) (h : Lane) : (s.setLane n h).lanes = spSet {} s.lanes n h := rfl
@[simp] theorem State.setLane_foms (n : Nat) (h : Lane) : (s.setLane n h).foms = s.foms := rfl
@[simp] theorem State.setLane_prbs (n : Nat) (h : Lane) : (s.setLane n h).prbs = s.prbs := rfl
@[simp] theorem State.setLane_quads (n : Nat) (h : Lane) : (s.setLane n h).quads = s.quads := rfl
@[simp] theorem State.setLane_ports (n : Nat) (h : Lane) : (s.setLane n h).ports = s.ports := rfl
@[simp] theorem State.setLane_flows (n : Nat) (h : Lane) : (s.setLane n h).flows = s.flows := rfl
@[simp] theorem State.setLane_txs (n : Nat) (h : Lane) : (s.setLane n h).txs = s.txs := rfl
@[simp] theorem State.setLane_layers (n : Nat) (h : Lane) : (s.setLane n h).layers = s.layers := rfl
@[simp] theorem State.setLane_outputs (n : Nat) (h : Lane) : (s.setLane n h).outputs = s.outputs := rfl
@[simp] theorem State.setLane_outShots (n : Nat) (h : Lane) : (s.setLane n h).outShots = s.outShots := rfl
@[simp] theorem State.setLane_leases (n : Nat) (h : Lane) : (s.setLane n h).leases = s.leases := rfl
@[simp] theorem State.setLane_assocs (n : Nat) (h : Lane) : (s.setLane n h).assocs = s.assocs := rfl
@[simp] theorem State.setLane_txAudio (n : Nat) (h : Lane) : (s.setLane n h).txAudio = s.txAudio := rfl
@[simp] theorem State.setLane_tq (n : Nat) (h : Lane) : (s.setLane n h).tq = s.tq := rfl
@[simp] theorem State.setLane_heads (n : Nat) (h : Lane) : (s.setLane n h).heads = s.heads := rfl
@[simp] theorem State.setLane_drivers (n : Nat) (h : Lane) : (s.setLane n h).drivers = s.drivers := rfl
@[simp] theorem State.setLane_polls (n : Nat) (h : Lane) : (s.setLane n h).polls = s.polls := rfl
@[simp] theorem State.setLane_rennex (n : Nat) (h : Lane) : (s.setLane n h).rennex = s.rennex := rfl
@[simp] theorem State.setLane_pair (n : Nat) (h : Lane) : (s.setLane n h).pair = s.pair := rfl
@[simp] theorem State.setLane_sync (n : Nat) (h : Lane) : (s.setLane n h).sync = s.sync := rfl
@[simp] theorem State.setLane_free (n : Nat) (h : Lane) : (s.setLane n h).free = s.free := rfl
@[simp] theorem State.setLane_answer (n : Nat) (h : Lane) : (s.setLane n h).answer = s.answer := rfl
@[simp] theorem State.setLane_lane (n : Nat) (h : Lane) : (s.setLane n h).lane n = h := spGet_spSet_same
theorem State.setLane_lane_other (n : Nat) (h : Lane) (m : Nat) (ne : m ≠ n) : (s.setLane n h).lane m = s.lane m := spGet_spSet_other ne

/-! ## State.setFom -/

@[simp] theorem State.setFom_pending (n : Nat) (h : LaneFom) : (s.setFom n h).pending = s.pending := rfl
@[simp] theorem State.setFom_sys (n : Nat) (h : LaneFom) : (s.setFom n h).sys = s.sys := rfl
@[simp] theorem State.setFom_clocks (n : Nat) (h : LaneFom) : (s.setFom n h).clocks = s.clocks := rfl
@[simp] theorem State.setFom_wind (n : Nat) (h : LaneFom) : (s.setFom n h).wind = s.wind := rfl
@[simp] theorem State.setFom_power (n : Nat) (h : LaneFom) : (s.setFom n h).power = s.power := rfl
@[simp] theorem State.setFom_time (n : Nat) (h : LaneFom) : (s.setFom n h).time = s.time := rfl
@[simp] theorem State.setFom_timeRegs (n : Nat) (h : LaneFom) : (s.setFom n h).timeRegs = s.timeRegs := rfl
@[simp] theorem State.setFom_domains (n : Nat) (h : LaneFom) : (s.setFom n h).domains = s.domains := rfl
@[simp] theorem State.setFom_evtIn (n : Nat) (h : LaneFom) : (s.setFom n h).evtIn = s.evtIn := rfl
@[simp] theorem State.setFom_evtOut (n : Nat) (h : LaneFom) : (s.setFom n h).evtOut = s.evtOut := rfl
@[simp] theorem State.setFom_rings (n : Nat) (h : LaneFom) : (s.setFom n h).rings = s.rings := rfl
@[simp] theorem State.setFom_cp (n : Nat) (h : LaneFom) : (s.setFom n h).cp = s.cp := rfl
@[simp] theorem State.setFom_mbx (n : Nat) (h : LaneFom) : (s.setFom n h).mbx = s.mbx := rfl
@[simp] theorem State.setFom_log (n : Nat) (h : LaneFom) : (s.setFom n h).log = s.log := rfl
@[simp] theorem State.setFom_nvs (n : Nat) (h : LaneFom) : (s.setFom n h).nvs = s.nvs := rfl
@[simp] theorem State.setFom_mem (n : Nat) (h : LaneFom) : (s.setFom n h).mem = s.mem := rfl
@[simp] theorem State.setFom_fab (n : Nat) (h : LaneFom) : (s.setFom n h).fab = s.fab := rfl
@[simp] theorem State.setFom_lanes (n : Nat) (h : LaneFom) : (s.setFom n h).lanes = s.lanes := rfl
theorem State.setFom_foms (n : Nat) (h : LaneFom) : (s.setFom n h).foms = spSet {} s.foms n h := rfl
@[simp] theorem State.setFom_prbs (n : Nat) (h : LaneFom) : (s.setFom n h).prbs = s.prbs := rfl
@[simp] theorem State.setFom_quads (n : Nat) (h : LaneFom) : (s.setFom n h).quads = s.quads := rfl
@[simp] theorem State.setFom_ports (n : Nat) (h : LaneFom) : (s.setFom n h).ports = s.ports := rfl
@[simp] theorem State.setFom_flows (n : Nat) (h : LaneFom) : (s.setFom n h).flows = s.flows := rfl
@[simp] theorem State.setFom_txs (n : Nat) (h : LaneFom) : (s.setFom n h).txs = s.txs := rfl
@[simp] theorem State.setFom_layers (n : Nat) (h : LaneFom) : (s.setFom n h).layers = s.layers := rfl
@[simp] theorem State.setFom_outputs (n : Nat) (h : LaneFom) : (s.setFom n h).outputs = s.outputs := rfl
@[simp] theorem State.setFom_outShots (n : Nat) (h : LaneFom) : (s.setFom n h).outShots = s.outShots := rfl
@[simp] theorem State.setFom_leases (n : Nat) (h : LaneFom) : (s.setFom n h).leases = s.leases := rfl
@[simp] theorem State.setFom_assocs (n : Nat) (h : LaneFom) : (s.setFom n h).assocs = s.assocs := rfl
@[simp] theorem State.setFom_txAudio (n : Nat) (h : LaneFom) : (s.setFom n h).txAudio = s.txAudio := rfl
@[simp] theorem State.setFom_tq (n : Nat) (h : LaneFom) : (s.setFom n h).tq = s.tq := rfl
@[simp] theorem State.setFom_heads (n : Nat) (h : LaneFom) : (s.setFom n h).heads = s.heads := rfl
@[simp] theorem State.setFom_drivers (n : Nat) (h : LaneFom) : (s.setFom n h).drivers = s.drivers := rfl
@[simp] theorem State.setFom_polls (n : Nat) (h : LaneFom) : (s.setFom n h).polls = s.polls := rfl
@[simp] theorem State.setFom_rennex (n : Nat) (h : LaneFom) : (s.setFom n h).rennex = s.rennex := rfl
@[simp] theorem State.setFom_pair (n : Nat) (h : LaneFom) : (s.setFom n h).pair = s.pair := rfl
@[simp] theorem State.setFom_sync (n : Nat) (h : LaneFom) : (s.setFom n h).sync = s.sync := rfl
@[simp] theorem State.setFom_free (n : Nat) (h : LaneFom) : (s.setFom n h).free = s.free := rfl
@[simp] theorem State.setFom_answer (n : Nat) (h : LaneFom) : (s.setFom n h).answer = s.answer := rfl
@[simp] theorem State.setFom_fom (n : Nat) (h : LaneFom) : (s.setFom n h).fom n = h := spGet_spSet_same
theorem State.setFom_fom_other (n : Nat) (h : LaneFom) (m : Nat) (ne : m ≠ n) : (s.setFom n h).fom m = s.fom m := spGet_spSet_other ne

/-! ## State.setPrb -/

@[simp] theorem State.setPrb_pending (n : Nat) (h : LanePrbs) : (s.setPrb n h).pending = s.pending := rfl
@[simp] theorem State.setPrb_sys (n : Nat) (h : LanePrbs) : (s.setPrb n h).sys = s.sys := rfl
@[simp] theorem State.setPrb_clocks (n : Nat) (h : LanePrbs) : (s.setPrb n h).clocks = s.clocks := rfl
@[simp] theorem State.setPrb_wind (n : Nat) (h : LanePrbs) : (s.setPrb n h).wind = s.wind := rfl
@[simp] theorem State.setPrb_power (n : Nat) (h : LanePrbs) : (s.setPrb n h).power = s.power := rfl
@[simp] theorem State.setPrb_time (n : Nat) (h : LanePrbs) : (s.setPrb n h).time = s.time := rfl
@[simp] theorem State.setPrb_timeRegs (n : Nat) (h : LanePrbs) : (s.setPrb n h).timeRegs = s.timeRegs := rfl
@[simp] theorem State.setPrb_domains (n : Nat) (h : LanePrbs) : (s.setPrb n h).domains = s.domains := rfl
@[simp] theorem State.setPrb_evtIn (n : Nat) (h : LanePrbs) : (s.setPrb n h).evtIn = s.evtIn := rfl
@[simp] theorem State.setPrb_evtOut (n : Nat) (h : LanePrbs) : (s.setPrb n h).evtOut = s.evtOut := rfl
@[simp] theorem State.setPrb_rings (n : Nat) (h : LanePrbs) : (s.setPrb n h).rings = s.rings := rfl
@[simp] theorem State.setPrb_cp (n : Nat) (h : LanePrbs) : (s.setPrb n h).cp = s.cp := rfl
@[simp] theorem State.setPrb_mbx (n : Nat) (h : LanePrbs) : (s.setPrb n h).mbx = s.mbx := rfl
@[simp] theorem State.setPrb_log (n : Nat) (h : LanePrbs) : (s.setPrb n h).log = s.log := rfl
@[simp] theorem State.setPrb_nvs (n : Nat) (h : LanePrbs) : (s.setPrb n h).nvs = s.nvs := rfl
@[simp] theorem State.setPrb_mem (n : Nat) (h : LanePrbs) : (s.setPrb n h).mem = s.mem := rfl
@[simp] theorem State.setPrb_fab (n : Nat) (h : LanePrbs) : (s.setPrb n h).fab = s.fab := rfl
@[simp] theorem State.setPrb_lanes (n : Nat) (h : LanePrbs) : (s.setPrb n h).lanes = s.lanes := rfl
@[simp] theorem State.setPrb_foms (n : Nat) (h : LanePrbs) : (s.setPrb n h).foms = s.foms := rfl
theorem State.setPrb_prbs (n : Nat) (h : LanePrbs) : (s.setPrb n h).prbs = spSet {} s.prbs n h := rfl
@[simp] theorem State.setPrb_quads (n : Nat) (h : LanePrbs) : (s.setPrb n h).quads = s.quads := rfl
@[simp] theorem State.setPrb_ports (n : Nat) (h : LanePrbs) : (s.setPrb n h).ports = s.ports := rfl
@[simp] theorem State.setPrb_flows (n : Nat) (h : LanePrbs) : (s.setPrb n h).flows = s.flows := rfl
@[simp] theorem State.setPrb_txs (n : Nat) (h : LanePrbs) : (s.setPrb n h).txs = s.txs := rfl
@[simp] theorem State.setPrb_layers (n : Nat) (h : LanePrbs) : (s.setPrb n h).layers = s.layers := rfl
@[simp] theorem State.setPrb_outputs (n : Nat) (h : LanePrbs) : (s.setPrb n h).outputs = s.outputs := rfl
@[simp] theorem State.setPrb_outShots (n : Nat) (h : LanePrbs) : (s.setPrb n h).outShots = s.outShots := rfl
@[simp] theorem State.setPrb_leases (n : Nat) (h : LanePrbs) : (s.setPrb n h).leases = s.leases := rfl
@[simp] theorem State.setPrb_assocs (n : Nat) (h : LanePrbs) : (s.setPrb n h).assocs = s.assocs := rfl
@[simp] theorem State.setPrb_txAudio (n : Nat) (h : LanePrbs) : (s.setPrb n h).txAudio = s.txAudio := rfl
@[simp] theorem State.setPrb_tq (n : Nat) (h : LanePrbs) : (s.setPrb n h).tq = s.tq := rfl
@[simp] theorem State.setPrb_heads (n : Nat) (h : LanePrbs) : (s.setPrb n h).heads = s.heads := rfl
@[simp] theorem State.setPrb_drivers (n : Nat) (h : LanePrbs) : (s.setPrb n h).drivers = s.drivers := rfl
@[simp] theorem State.setPrb_polls (n : Nat) (h : LanePrbs) : (s.setPrb n h).polls = s.polls := rfl
@[simp] theorem State.setPrb_rennex (n : Nat) (h : LanePrbs) : (s.setPrb n h).rennex = s.rennex := rfl
@[simp] theorem State.setPrb_pair (n : Nat) (h : LanePrbs) : (s.setPrb n h).pair = s.pair := rfl
@[simp] theorem State.setPrb_sync (n : Nat) (h : LanePrbs) : (s.setPrb n h).sync = s.sync := rfl
@[simp] theorem State.setPrb_free (n : Nat) (h : LanePrbs) : (s.setPrb n h).free = s.free := rfl
@[simp] theorem State.setPrb_answer (n : Nat) (h : LanePrbs) : (s.setPrb n h).answer = s.answer := rfl
@[simp] theorem State.setPrb_prb (n : Nat) (h : LanePrbs) : (s.setPrb n h).prb n = h := spGet_spSet_same
theorem State.setPrb_prb_other (n : Nat) (h : LanePrbs) (m : Nat) (ne : m ≠ n) : (s.setPrb n h).prb m = s.prb m := spGet_spSet_other ne

/-! ## State.setPort -/

@[simp] theorem State.setPort_pending (n : Nat) (h : Port) : (s.setPort n h).pending = s.pending := rfl
@[simp] theorem State.setPort_sys (n : Nat) (h : Port) : (s.setPort n h).sys = s.sys := rfl
@[simp] theorem State.setPort_clocks (n : Nat) (h : Port) : (s.setPort n h).clocks = s.clocks := rfl
@[simp] theorem State.setPort_wind (n : Nat) (h : Port) : (s.setPort n h).wind = s.wind := rfl
@[simp] theorem State.setPort_power (n : Nat) (h : Port) : (s.setPort n h).power = s.power := rfl
@[simp] theorem State.setPort_time (n : Nat) (h : Port) : (s.setPort n h).time = s.time := rfl
@[simp] theorem State.setPort_timeRegs (n : Nat) (h : Port) : (s.setPort n h).timeRegs = s.timeRegs := rfl
@[simp] theorem State.setPort_domains (n : Nat) (h : Port) : (s.setPort n h).domains = s.domains := rfl
@[simp] theorem State.setPort_evtIn (n : Nat) (h : Port) : (s.setPort n h).evtIn = s.evtIn := rfl
@[simp] theorem State.setPort_evtOut (n : Nat) (h : Port) : (s.setPort n h).evtOut = s.evtOut := rfl
@[simp] theorem State.setPort_rings (n : Nat) (h : Port) : (s.setPort n h).rings = s.rings := rfl
@[simp] theorem State.setPort_cp (n : Nat) (h : Port) : (s.setPort n h).cp = s.cp := rfl
@[simp] theorem State.setPort_mbx (n : Nat) (h : Port) : (s.setPort n h).mbx = s.mbx := rfl
@[simp] theorem State.setPort_log (n : Nat) (h : Port) : (s.setPort n h).log = s.log := rfl
@[simp] theorem State.setPort_nvs (n : Nat) (h : Port) : (s.setPort n h).nvs = s.nvs := rfl
@[simp] theorem State.setPort_mem (n : Nat) (h : Port) : (s.setPort n h).mem = s.mem := rfl
@[simp] theorem State.setPort_fab (n : Nat) (h : Port) : (s.setPort n h).fab = s.fab := rfl
@[simp] theorem State.setPort_lanes (n : Nat) (h : Port) : (s.setPort n h).lanes = s.lanes := rfl
@[simp] theorem State.setPort_foms (n : Nat) (h : Port) : (s.setPort n h).foms = s.foms := rfl
@[simp] theorem State.setPort_prbs (n : Nat) (h : Port) : (s.setPort n h).prbs = s.prbs := rfl
@[simp] theorem State.setPort_quads (n : Nat) (h : Port) : (s.setPort n h).quads = s.quads := rfl
theorem State.setPort_ports (n : Nat) (h : Port) : (s.setPort n h).ports = spSet {} s.ports n h := rfl
@[simp] theorem State.setPort_flows (n : Nat) (h : Port) : (s.setPort n h).flows = s.flows := rfl
@[simp] theorem State.setPort_txs (n : Nat) (h : Port) : (s.setPort n h).txs = s.txs := rfl
@[simp] theorem State.setPort_layers (n : Nat) (h : Port) : (s.setPort n h).layers = s.layers := rfl
@[simp] theorem State.setPort_outputs (n : Nat) (h : Port) : (s.setPort n h).outputs = s.outputs := rfl
@[simp] theorem State.setPort_outShots (n : Nat) (h : Port) : (s.setPort n h).outShots = s.outShots := rfl
@[simp] theorem State.setPort_leases (n : Nat) (h : Port) : (s.setPort n h).leases = s.leases := rfl
@[simp] theorem State.setPort_assocs (n : Nat) (h : Port) : (s.setPort n h).assocs = s.assocs := rfl
@[simp] theorem State.setPort_txAudio (n : Nat) (h : Port) : (s.setPort n h).txAudio = s.txAudio := rfl
@[simp] theorem State.setPort_tq (n : Nat) (h : Port) : (s.setPort n h).tq = s.tq := rfl
@[simp] theorem State.setPort_heads (n : Nat) (h : Port) : (s.setPort n h).heads = s.heads := rfl
@[simp] theorem State.setPort_drivers (n : Nat) (h : Port) : (s.setPort n h).drivers = s.drivers := rfl
@[simp] theorem State.setPort_polls (n : Nat) (h : Port) : (s.setPort n h).polls = s.polls := rfl
@[simp] theorem State.setPort_rennex (n : Nat) (h : Port) : (s.setPort n h).rennex = s.rennex := rfl
@[simp] theorem State.setPort_pair (n : Nat) (h : Port) : (s.setPort n h).pair = s.pair := rfl
@[simp] theorem State.setPort_sync (n : Nat) (h : Port) : (s.setPort n h).sync = s.sync := rfl
@[simp] theorem State.setPort_free (n : Nat) (h : Port) : (s.setPort n h).free = s.free := rfl
@[simp] theorem State.setPort_answer (n : Nat) (h : Port) : (s.setPort n h).answer = s.answer := rfl
@[simp] theorem State.setPort_port (n : Nat) (h : Port) : (s.setPort n h).port n = h := spGet_spSet_same
theorem State.setPort_port_other (n : Nat) (h : Port) (m : Nat) (ne : m ≠ n) : (s.setPort n h).port m = s.port m := spGet_spSet_other ne

/-! ## State.setFlow -/

@[simp] theorem State.setFlow_pending (k n : Nat) (h : RxFlow) : (s.setFlow k n h).pending = s.pending := rfl
@[simp] theorem State.setFlow_sys (k n : Nat) (h : RxFlow) : (s.setFlow k n h).sys = s.sys := rfl
@[simp] theorem State.setFlow_clocks (k n : Nat) (h : RxFlow) : (s.setFlow k n h).clocks = s.clocks := rfl
@[simp] theorem State.setFlow_wind (k n : Nat) (h : RxFlow) : (s.setFlow k n h).wind = s.wind := rfl
@[simp] theorem State.setFlow_power (k n : Nat) (h : RxFlow) : (s.setFlow k n h).power = s.power := rfl
@[simp] theorem State.setFlow_time (k n : Nat) (h : RxFlow) : (s.setFlow k n h).time = s.time := rfl
@[simp] theorem State.setFlow_timeRegs (k n : Nat) (h : RxFlow) : (s.setFlow k n h).timeRegs = s.timeRegs := rfl
@[simp] theorem State.setFlow_domains (k n : Nat) (h : RxFlow) : (s.setFlow k n h).domains = s.domains := rfl
@[simp] theorem State.setFlow_evtIn (k n : Nat) (h : RxFlow) : (s.setFlow k n h).evtIn = s.evtIn := rfl
@[simp] theorem State.setFlow_evtOut (k n : Nat) (h : RxFlow) : (s.setFlow k n h).evtOut = s.evtOut := rfl
@[simp] theorem State.setFlow_rings (k n : Nat) (h : RxFlow) : (s.setFlow k n h).rings = s.rings := rfl
@[simp] theorem State.setFlow_cp (k n : Nat) (h : RxFlow) : (s.setFlow k n h).cp = s.cp := rfl
@[simp] theorem State.setFlow_mbx (k n : Nat) (h : RxFlow) : (s.setFlow k n h).mbx = s.mbx := rfl
@[simp] theorem State.setFlow_log (k n : Nat) (h : RxFlow) : (s.setFlow k n h).log = s.log := rfl
@[simp] theorem State.setFlow_nvs (k n : Nat) (h : RxFlow) : (s.setFlow k n h).nvs = s.nvs := rfl
@[simp] theorem State.setFlow_mem (k n : Nat) (h : RxFlow) : (s.setFlow k n h).mem = s.mem := rfl
@[simp] theorem State.setFlow_fab (k n : Nat) (h : RxFlow) : (s.setFlow k n h).fab = s.fab := rfl
@[simp] theorem State.setFlow_lanes (k n : Nat) (h : RxFlow) : (s.setFlow k n h).lanes = s.lanes := rfl
@[simp] theorem State.setFlow_foms (k n : Nat) (h : RxFlow) : (s.setFlow k n h).foms = s.foms := rfl
@[simp] theorem State.setFlow_prbs (k n : Nat) (h : RxFlow) : (s.setFlow k n h).prbs = s.prbs := rfl
@[simp] theorem State.setFlow_quads (k n : Nat) (h : RxFlow) : (s.setFlow k n h).quads = s.quads := rfl
@[simp] theorem State.setFlow_ports (k n : Nat) (h : RxFlow) : (s.setFlow k n h).ports = s.ports := rfl
theorem State.setFlow_flows (k n : Nat) (h : RxFlow) : (s.setFlow k n h).flows = spSet {} s.flows (64 * k + n) h := rfl
@[simp] theorem State.setFlow_txs (k n : Nat) (h : RxFlow) : (s.setFlow k n h).txs = s.txs := rfl
@[simp] theorem State.setFlow_layers (k n : Nat) (h : RxFlow) : (s.setFlow k n h).layers = s.layers := rfl
@[simp] theorem State.setFlow_outputs (k n : Nat) (h : RxFlow) : (s.setFlow k n h).outputs = s.outputs := rfl
@[simp] theorem State.setFlow_outShots (k n : Nat) (h : RxFlow) : (s.setFlow k n h).outShots = s.outShots := rfl
@[simp] theorem State.setFlow_leases (k n : Nat) (h : RxFlow) : (s.setFlow k n h).leases = s.leases := rfl
@[simp] theorem State.setFlow_assocs (k n : Nat) (h : RxFlow) : (s.setFlow k n h).assocs = s.assocs := rfl
@[simp] theorem State.setFlow_txAudio (k n : Nat) (h : RxFlow) : (s.setFlow k n h).txAudio = s.txAudio := rfl
@[simp] theorem State.setFlow_tq (k n : Nat) (h : RxFlow) : (s.setFlow k n h).tq = s.tq := rfl
@[simp] theorem State.setFlow_heads (k n : Nat) (h : RxFlow) : (s.setFlow k n h).heads = s.heads := rfl
@[simp] theorem State.setFlow_drivers (k n : Nat) (h : RxFlow) : (s.setFlow k n h).drivers = s.drivers := rfl
@[simp] theorem State.setFlow_polls (k n : Nat) (h : RxFlow) : (s.setFlow k n h).polls = s.polls := rfl
@[simp] theorem State.setFlow_rennex (k n : Nat) (h : RxFlow) : (s.setFlow k n h).rennex = s.rennex := rfl
@[simp] theorem State.setFlow_pair (k n : Nat) (h : RxFlow) : (s.setFlow k n h).pair = s.pair := rfl
@[simp] theorem State.setFlow_sync (k n : Nat) (h : RxFlow) : (s.setFlow k n h).sync = s.sync := rfl
@[simp] theorem State.setFlow_free (k n : Nat) (h : RxFlow) : (s.setFlow k n h).free = s.free := rfl
@[simp] theorem State.setFlow_answer (k n : Nat) (h : RxFlow) : (s.setFlow k n h).answer = s.answer := rfl
@[simp] theorem State.setFlow_flow (k n : Nat) (h : RxFlow) : (s.setFlow k n h).flow k n = h := spGet_spSet_same
theorem State.setFlow_flow_other (k n : Nat) (h : RxFlow) (k' m : Nat) (ne : 64 * k' + m ≠ 64 * k + n) : (s.setFlow k n h).flow k' m = s.flow k' m := spGet_spSet_other ne

/-! ## State.setTx -/

@[simp] theorem State.setTx_pending (k n : Nat) (h : TxFlow) : (s.setTx k n h).pending = s.pending := rfl
@[simp] theorem State.setTx_sys (k n : Nat) (h : TxFlow) : (s.setTx k n h).sys = s.sys := rfl
@[simp] theorem State.setTx_clocks (k n : Nat) (h : TxFlow) : (s.setTx k n h).clocks = s.clocks := rfl
@[simp] theorem State.setTx_wind (k n : Nat) (h : TxFlow) : (s.setTx k n h).wind = s.wind := rfl
@[simp] theorem State.setTx_power (k n : Nat) (h : TxFlow) : (s.setTx k n h).power = s.power := rfl
@[simp] theorem State.setTx_time (k n : Nat) (h : TxFlow) : (s.setTx k n h).time = s.time := rfl
@[simp] theorem State.setTx_timeRegs (k n : Nat) (h : TxFlow) : (s.setTx k n h).timeRegs = s.timeRegs := rfl
@[simp] theorem State.setTx_domains (k n : Nat) (h : TxFlow) : (s.setTx k n h).domains = s.domains := rfl
@[simp] theorem State.setTx_evtIn (k n : Nat) (h : TxFlow) : (s.setTx k n h).evtIn = s.evtIn := rfl
@[simp] theorem State.setTx_evtOut (k n : Nat) (h : TxFlow) : (s.setTx k n h).evtOut = s.evtOut := rfl
@[simp] theorem State.setTx_rings (k n : Nat) (h : TxFlow) : (s.setTx k n h).rings = s.rings := rfl
@[simp] theorem State.setTx_cp (k n : Nat) (h : TxFlow) : (s.setTx k n h).cp = s.cp := rfl
@[simp] theorem State.setTx_mbx (k n : Nat) (h : TxFlow) : (s.setTx k n h).mbx = s.mbx := rfl
@[simp] theorem State.setTx_log (k n : Nat) (h : TxFlow) : (s.setTx k n h).log = s.log := rfl
@[simp] theorem State.setTx_nvs (k n : Nat) (h : TxFlow) : (s.setTx k n h).nvs = s.nvs := rfl
@[simp] theorem State.setTx_mem (k n : Nat) (h : TxFlow) : (s.setTx k n h).mem = s.mem := rfl
@[simp] theorem State.setTx_fab (k n : Nat) (h : TxFlow) : (s.setTx k n h).fab = s.fab := rfl
@[simp] theorem State.setTx_lanes (k n : Nat) (h : TxFlow) : (s.setTx k n h).lanes = s.lanes := rfl
@[simp] theorem State.setTx_foms (k n : Nat) (h : TxFlow) : (s.setTx k n h).foms = s.foms := rfl
@[simp] theorem State.setTx_prbs (k n : Nat) (h : TxFlow) : (s.setTx k n h).prbs = s.prbs := rfl
@[simp] theorem State.setTx_quads (k n : Nat) (h : TxFlow) : (s.setTx k n h).quads = s.quads := rfl
@[simp] theorem State.setTx_ports (k n : Nat) (h : TxFlow) : (s.setTx k n h).ports = s.ports := rfl
@[simp] theorem State.setTx_flows (k n : Nat) (h : TxFlow) : (s.setTx k n h).flows = s.flows := rfl
theorem State.setTx_txs (k n : Nat) (h : TxFlow) : (s.setTx k n h).txs = spSet {} s.txs (64 * (k - 3) + n) h := rfl
@[simp] theorem State.setTx_layers (k n : Nat) (h : TxFlow) : (s.setTx k n h).layers = s.layers := rfl
@[simp] theorem State.setTx_outputs (k n : Nat) (h : TxFlow) : (s.setTx k n h).outputs = s.outputs := rfl
@[simp] theorem State.setTx_outShots (k n : Nat) (h : TxFlow) : (s.setTx k n h).outShots = s.outShots := rfl
@[simp] theorem State.setTx_leases (k n : Nat) (h : TxFlow) : (s.setTx k n h).leases = s.leases := rfl
@[simp] theorem State.setTx_assocs (k n : Nat) (h : TxFlow) : (s.setTx k n h).assocs = s.assocs := rfl
@[simp] theorem State.setTx_txAudio (k n : Nat) (h : TxFlow) : (s.setTx k n h).txAudio = s.txAudio := rfl
@[simp] theorem State.setTx_tq (k n : Nat) (h : TxFlow) : (s.setTx k n h).tq = s.tq := rfl
@[simp] theorem State.setTx_heads (k n : Nat) (h : TxFlow) : (s.setTx k n h).heads = s.heads := rfl
@[simp] theorem State.setTx_drivers (k n : Nat) (h : TxFlow) : (s.setTx k n h).drivers = s.drivers := rfl
@[simp] theorem State.setTx_polls (k n : Nat) (h : TxFlow) : (s.setTx k n h).polls = s.polls := rfl
@[simp] theorem State.setTx_rennex (k n : Nat) (h : TxFlow) : (s.setTx k n h).rennex = s.rennex := rfl
@[simp] theorem State.setTx_pair (k n : Nat) (h : TxFlow) : (s.setTx k n h).pair = s.pair := rfl
@[simp] theorem State.setTx_sync (k n : Nat) (h : TxFlow) : (s.setTx k n h).sync = s.sync := rfl
@[simp] theorem State.setTx_free (k n : Nat) (h : TxFlow) : (s.setTx k n h).free = s.free := rfl
@[simp] theorem State.setTx_answer (k n : Nat) (h : TxFlow) : (s.setTx k n h).answer = s.answer := rfl
@[simp] theorem State.setTx_tx (k n : Nat) (h : TxFlow) : (s.setTx k n h).tx k n = h := spGet_spSet_same
theorem State.setTx_tx_other (k n : Nat) (h : TxFlow) (k' m : Nat) (ne : 64 * (k' - 3) + m ≠ 64 * (k - 3) + n) : (s.setTx k n h).tx k' m = s.tx k' m := spGet_spSet_other ne

/-! ## State.setLayer -/

@[simp] theorem State.setLayer_pending (n : Nat) (h : Layer) : (s.setLayer n h).pending = s.pending := rfl
@[simp] theorem State.setLayer_sys (n : Nat) (h : Layer) : (s.setLayer n h).sys = s.sys := rfl
@[simp] theorem State.setLayer_clocks (n : Nat) (h : Layer) : (s.setLayer n h).clocks = s.clocks := rfl
@[simp] theorem State.setLayer_wind (n : Nat) (h : Layer) : (s.setLayer n h).wind = s.wind := rfl
@[simp] theorem State.setLayer_power (n : Nat) (h : Layer) : (s.setLayer n h).power = s.power := rfl
@[simp] theorem State.setLayer_time (n : Nat) (h : Layer) : (s.setLayer n h).time = s.time := rfl
@[simp] theorem State.setLayer_timeRegs (n : Nat) (h : Layer) : (s.setLayer n h).timeRegs = s.timeRegs := rfl
@[simp] theorem State.setLayer_domains (n : Nat) (h : Layer) : (s.setLayer n h).domains = s.domains := rfl
@[simp] theorem State.setLayer_evtIn (n : Nat) (h : Layer) : (s.setLayer n h).evtIn = s.evtIn := rfl
@[simp] theorem State.setLayer_evtOut (n : Nat) (h : Layer) : (s.setLayer n h).evtOut = s.evtOut := rfl
@[simp] theorem State.setLayer_rings (n : Nat) (h : Layer) : (s.setLayer n h).rings = s.rings := rfl
@[simp] theorem State.setLayer_cp (n : Nat) (h : Layer) : (s.setLayer n h).cp = s.cp := rfl
@[simp] theorem State.setLayer_mbx (n : Nat) (h : Layer) : (s.setLayer n h).mbx = s.mbx := rfl
@[simp] theorem State.setLayer_log (n : Nat) (h : Layer) : (s.setLayer n h).log = s.log := rfl
@[simp] theorem State.setLayer_nvs (n : Nat) (h : Layer) : (s.setLayer n h).nvs = s.nvs := rfl
@[simp] theorem State.setLayer_mem (n : Nat) (h : Layer) : (s.setLayer n h).mem = s.mem := rfl
@[simp] theorem State.setLayer_fab (n : Nat) (h : Layer) : (s.setLayer n h).fab = s.fab := rfl
@[simp] theorem State.setLayer_lanes (n : Nat) (h : Layer) : (s.setLayer n h).lanes = s.lanes := rfl
@[simp] theorem State.setLayer_foms (n : Nat) (h : Layer) : (s.setLayer n h).foms = s.foms := rfl
@[simp] theorem State.setLayer_prbs (n : Nat) (h : Layer) : (s.setLayer n h).prbs = s.prbs := rfl
@[simp] theorem State.setLayer_quads (n : Nat) (h : Layer) : (s.setLayer n h).quads = s.quads := rfl
@[simp] theorem State.setLayer_ports (n : Nat) (h : Layer) : (s.setLayer n h).ports = s.ports := rfl
@[simp] theorem State.setLayer_flows (n : Nat) (h : Layer) : (s.setLayer n h).flows = s.flows := rfl
@[simp] theorem State.setLayer_txs (n : Nat) (h : Layer) : (s.setLayer n h).txs = s.txs := rfl
theorem State.setLayer_layers (n : Nat) (h : Layer) : (s.setLayer n h).layers = spSet {} s.layers n h := rfl
@[simp] theorem State.setLayer_outputs (n : Nat) (h : Layer) : (s.setLayer n h).outputs = s.outputs := rfl
@[simp] theorem State.setLayer_outShots (n : Nat) (h : Layer) : (s.setLayer n h).outShots = s.outShots := rfl
@[simp] theorem State.setLayer_leases (n : Nat) (h : Layer) : (s.setLayer n h).leases = s.leases := rfl
@[simp] theorem State.setLayer_assocs (n : Nat) (h : Layer) : (s.setLayer n h).assocs = s.assocs := rfl
@[simp] theorem State.setLayer_txAudio (n : Nat) (h : Layer) : (s.setLayer n h).txAudio = s.txAudio := rfl
@[simp] theorem State.setLayer_tq (n : Nat) (h : Layer) : (s.setLayer n h).tq = s.tq := rfl
@[simp] theorem State.setLayer_heads (n : Nat) (h : Layer) : (s.setLayer n h).heads = s.heads := rfl
@[simp] theorem State.setLayer_drivers (n : Nat) (h : Layer) : (s.setLayer n h).drivers = s.drivers := rfl
@[simp] theorem State.setLayer_polls (n : Nat) (h : Layer) : (s.setLayer n h).polls = s.polls := rfl
@[simp] theorem State.setLayer_rennex (n : Nat) (h : Layer) : (s.setLayer n h).rennex = s.rennex := rfl
@[simp] theorem State.setLayer_pair (n : Nat) (h : Layer) : (s.setLayer n h).pair = s.pair := rfl
@[simp] theorem State.setLayer_sync (n : Nat) (h : Layer) : (s.setLayer n h).sync = s.sync := rfl
@[simp] theorem State.setLayer_free (n : Nat) (h : Layer) : (s.setLayer n h).free = s.free := rfl
@[simp] theorem State.setLayer_answer (n : Nat) (h : Layer) : (s.setLayer n h).answer = s.answer := rfl
@[simp] theorem State.setLayer_layer (n : Nat) (h : Layer) : (s.setLayer n h).layer n = h := spGet_spSet_same
theorem State.setLayer_layer_other (n : Nat) (h : Layer) (m : Nat) (ne : m ≠ n) : (s.setLayer n h).layer m = s.layer m := spGet_spSet_other ne

/-! ## State.setOutput -/

@[simp] theorem State.setOutput_pending (n : Nat) (h : Output) : (s.setOutput n h).pending = s.pending := rfl
@[simp] theorem State.setOutput_sys (n : Nat) (h : Output) : (s.setOutput n h).sys = s.sys := rfl
@[simp] theorem State.setOutput_clocks (n : Nat) (h : Output) : (s.setOutput n h).clocks = s.clocks := rfl
@[simp] theorem State.setOutput_wind (n : Nat) (h : Output) : (s.setOutput n h).wind = s.wind := rfl
@[simp] theorem State.setOutput_power (n : Nat) (h : Output) : (s.setOutput n h).power = s.power := rfl
@[simp] theorem State.setOutput_time (n : Nat) (h : Output) : (s.setOutput n h).time = s.time := rfl
@[simp] theorem State.setOutput_timeRegs (n : Nat) (h : Output) : (s.setOutput n h).timeRegs = s.timeRegs := rfl
@[simp] theorem State.setOutput_domains (n : Nat) (h : Output) : (s.setOutput n h).domains = s.domains := rfl
@[simp] theorem State.setOutput_evtIn (n : Nat) (h : Output) : (s.setOutput n h).evtIn = s.evtIn := rfl
@[simp] theorem State.setOutput_evtOut (n : Nat) (h : Output) : (s.setOutput n h).evtOut = s.evtOut := rfl
@[simp] theorem State.setOutput_rings (n : Nat) (h : Output) : (s.setOutput n h).rings = s.rings := rfl
@[simp] theorem State.setOutput_cp (n : Nat) (h : Output) : (s.setOutput n h).cp = s.cp := rfl
@[simp] theorem State.setOutput_mbx (n : Nat) (h : Output) : (s.setOutput n h).mbx = s.mbx := rfl
@[simp] theorem State.setOutput_log (n : Nat) (h : Output) : (s.setOutput n h).log = s.log := rfl
@[simp] theorem State.setOutput_nvs (n : Nat) (h : Output) : (s.setOutput n h).nvs = s.nvs := rfl
@[simp] theorem State.setOutput_mem (n : Nat) (h : Output) : (s.setOutput n h).mem = s.mem := rfl
@[simp] theorem State.setOutput_fab (n : Nat) (h : Output) : (s.setOutput n h).fab = s.fab := rfl
@[simp] theorem State.setOutput_lanes (n : Nat) (h : Output) : (s.setOutput n h).lanes = s.lanes := rfl
@[simp] theorem State.setOutput_foms (n : Nat) (h : Output) : (s.setOutput n h).foms = s.foms := rfl
@[simp] theorem State.setOutput_prbs (n : Nat) (h : Output) : (s.setOutput n h).prbs = s.prbs := rfl
@[simp] theorem State.setOutput_quads (n : Nat) (h : Output) : (s.setOutput n h).quads = s.quads := rfl
@[simp] theorem State.setOutput_ports (n : Nat) (h : Output) : (s.setOutput n h).ports = s.ports := rfl
@[simp] theorem State.setOutput_flows (n : Nat) (h : Output) : (s.setOutput n h).flows = s.flows := rfl
@[simp] theorem State.setOutput_txs (n : Nat) (h : Output) : (s.setOutput n h).txs = s.txs := rfl
@[simp] theorem State.setOutput_layers (n : Nat) (h : Output) : (s.setOutput n h).layers = s.layers := rfl
theorem State.setOutput_outputs (n : Nat) (h : Output) : (s.setOutput n h).outputs = spSet {} s.outputs n h := rfl
@[simp] theorem State.setOutput_outShots (n : Nat) (h : Output) : (s.setOutput n h).outShots = s.outShots := rfl
@[simp] theorem State.setOutput_leases (n : Nat) (h : Output) : (s.setOutput n h).leases = s.leases := rfl
@[simp] theorem State.setOutput_assocs (n : Nat) (h : Output) : (s.setOutput n h).assocs = s.assocs := rfl
@[simp] theorem State.setOutput_txAudio (n : Nat) (h : Output) : (s.setOutput n h).txAudio = s.txAudio := rfl
@[simp] theorem State.setOutput_tq (n : Nat) (h : Output) : (s.setOutput n h).tq = s.tq := rfl
@[simp] theorem State.setOutput_heads (n : Nat) (h : Output) : (s.setOutput n h).heads = s.heads := rfl
@[simp] theorem State.setOutput_drivers (n : Nat) (h : Output) : (s.setOutput n h).drivers = s.drivers := rfl
@[simp] theorem State.setOutput_polls (n : Nat) (h : Output) : (s.setOutput n h).polls = s.polls := rfl
@[simp] theorem State.setOutput_rennex (n : Nat) (h : Output) : (s.setOutput n h).rennex = s.rennex := rfl
@[simp] theorem State.setOutput_pair (n : Nat) (h : Output) : (s.setOutput n h).pair = s.pair := rfl
@[simp] theorem State.setOutput_sync (n : Nat) (h : Output) : (s.setOutput n h).sync = s.sync := rfl
@[simp] theorem State.setOutput_free (n : Nat) (h : Output) : (s.setOutput n h).free = s.free := rfl
@[simp] theorem State.setOutput_answer (n : Nat) (h : Output) : (s.setOutput n h).answer = s.answer := rfl
@[simp] theorem State.setOutput_output (n : Nat) (h : Output) : (s.setOutput n h).output n = h := spGet_spSet_same
theorem State.setOutput_output_other (n : Nat) (h : Output) (m : Nat) (ne : m ≠ n) : (s.setOutput n h).output m = s.output m := spGet_spSet_other ne

/-! ## State.setTile -/

@[simp] theorem State.setTile_pending (n : Nat) (h : Tile) : (s.setTile n h).pending = s.pending := rfl
@[simp] theorem State.setTile_sys (n : Nat) (h : Tile) : (s.setTile n h).sys = s.sys := rfl
@[simp] theorem State.setTile_clocks (n : Nat) (h : Tile) : (s.setTile n h).clocks = s.clocks := rfl
@[simp] theorem State.setTile_wind (n : Nat) (h : Tile) : (s.setTile n h).wind = s.wind := rfl
@[simp] theorem State.setTile_power (n : Nat) (h : Tile) : (s.setTile n h).power = s.power := rfl
@[simp] theorem State.setTile_time (n : Nat) (h : Tile) : (s.setTile n h).time = s.time := rfl
@[simp] theorem State.setTile_timeRegs (n : Nat) (h : Tile) : (s.setTile n h).timeRegs = s.timeRegs := rfl
@[simp] theorem State.setTile_domains (n : Nat) (h : Tile) : (s.setTile n h).domains = s.domains := rfl
@[simp] theorem State.setTile_evtIn (n : Nat) (h : Tile) : (s.setTile n h).evtIn = s.evtIn := rfl
@[simp] theorem State.setTile_evtOut (n : Nat) (h : Tile) : (s.setTile n h).evtOut = s.evtOut := rfl
@[simp] theorem State.setTile_rings (n : Nat) (h : Tile) : (s.setTile n h).rings = s.rings := rfl
@[simp] theorem State.setTile_cp (n : Nat) (h : Tile) : (s.setTile n h).cp = s.cp := rfl
@[simp] theorem State.setTile_mbx (n : Nat) (h : Tile) : (s.setTile n h).mbx = s.mbx := rfl
@[simp] theorem State.setTile_log (n : Nat) (h : Tile) : (s.setTile n h).log = s.log := rfl
@[simp] theorem State.setTile_nvs (n : Nat) (h : Tile) : (s.setTile n h).nvs = s.nvs := rfl
@[simp] theorem State.setTile_mem (n : Nat) (h : Tile) : (s.setTile n h).mem = s.mem := rfl
@[simp] theorem State.setTile_fab (n : Nat) (h : Tile) : (s.setTile n h).fab = s.fab := rfl
@[simp] theorem State.setTile_lanes (n : Nat) (h : Tile) : (s.setTile n h).lanes = s.lanes := rfl
@[simp] theorem State.setTile_foms (n : Nat) (h : Tile) : (s.setTile n h).foms = s.foms := rfl
@[simp] theorem State.setTile_prbs (n : Nat) (h : Tile) : (s.setTile n h).prbs = s.prbs := rfl
@[simp] theorem State.setTile_quads (n : Nat) (h : Tile) : (s.setTile n h).quads = s.quads := rfl
@[simp] theorem State.setTile_ports (n : Nat) (h : Tile) : (s.setTile n h).ports = s.ports := rfl
@[simp] theorem State.setTile_flows (n : Nat) (h : Tile) : (s.setTile n h).flows = s.flows := rfl
@[simp] theorem State.setTile_txs (n : Nat) (h : Tile) : (s.setTile n h).txs = s.txs := rfl
@[simp] theorem State.setTile_layers (n : Nat) (h : Tile) : (s.setTile n h).layers = s.layers := rfl
@[simp] theorem State.setTile_outputs (n : Nat) (h : Tile) : (s.setTile n h).outputs = s.outputs := rfl
@[simp] theorem State.setTile_outShots (n : Nat) (h : Tile) : (s.setTile n h).outShots = s.outShots := rfl
@[simp] theorem State.setTile_leases (n : Nat) (h : Tile) : (s.setTile n h).leases = s.leases := rfl
@[simp] theorem State.setTile_assocs (n : Nat) (h : Tile) : (s.setTile n h).assocs = s.assocs := rfl
@[simp] theorem State.setTile_txAudio (n : Nat) (h : Tile) : (s.setTile n h).txAudio = s.txAudio := rfl
theorem State.setTile_tq (n : Nat) (h : Tile) : (s.setTile n h).tq = { s.tq with tiles := spSet {} s.tq.tiles n h } := rfl
@[simp] theorem State.setTile_heads (n : Nat) (h : Tile) : (s.setTile n h).heads = s.heads := rfl
@[simp] theorem State.setTile_drivers (n : Nat) (h : Tile) : (s.setTile n h).drivers = s.drivers := rfl
@[simp] theorem State.setTile_polls (n : Nat) (h : Tile) : (s.setTile n h).polls = s.polls := rfl
@[simp] theorem State.setTile_rennex (n : Nat) (h : Tile) : (s.setTile n h).rennex = s.rennex := rfl
@[simp] theorem State.setTile_pair (n : Nat) (h : Tile) : (s.setTile n h).pair = s.pair := rfl
@[simp] theorem State.setTile_sync (n : Nat) (h : Tile) : (s.setTile n h).sync = s.sync := rfl
@[simp] theorem State.setTile_free (n : Nat) (h : Tile) : (s.setTile n h).free = s.free := rfl
@[simp] theorem State.setTile_answer (n : Nat) (h : Tile) : (s.setTile n h).answer = s.answer := rfl
@[simp] theorem State.setTile_tile (n : Nat) (h : Tile) : (s.setTile n h).tile n = h := spGet_spSet_same
theorem State.setTile_tile_other (n : Nat) (h : Tile) (m : Nat) (ne : m ≠ n) : (s.setTile n h).tile m = s.tile m := spGet_spSet_other ne

/-! ## State.setCluster -/

@[simp] theorem State.setCluster_pending (n : Nat) (h : Cluster) : (s.setCluster n h).pending = s.pending := rfl
@[simp] theorem State.setCluster_sys (n : Nat) (h : Cluster) : (s.setCluster n h).sys = s.sys := rfl
@[simp] theorem State.setCluster_clocks (n : Nat) (h : Cluster) : (s.setCluster n h).clocks = s.clocks := rfl
@[simp] theorem State.setCluster_wind (n : Nat) (h : Cluster) : (s.setCluster n h).wind = s.wind := rfl
@[simp] theorem State.setCluster_power (n : Nat) (h : Cluster) : (s.setCluster n h).power = s.power := rfl
@[simp] theorem State.setCluster_time (n : Nat) (h : Cluster) : (s.setCluster n h).time = s.time := rfl
@[simp] theorem State.setCluster_timeRegs (n : Nat) (h : Cluster) : (s.setCluster n h).timeRegs = s.timeRegs := rfl
@[simp] theorem State.setCluster_domains (n : Nat) (h : Cluster) : (s.setCluster n h).domains = s.domains := rfl
@[simp] theorem State.setCluster_evtIn (n : Nat) (h : Cluster) : (s.setCluster n h).evtIn = s.evtIn := rfl
@[simp] theorem State.setCluster_evtOut (n : Nat) (h : Cluster) : (s.setCluster n h).evtOut = s.evtOut := rfl
@[simp] theorem State.setCluster_rings (n : Nat) (h : Cluster) : (s.setCluster n h).rings = s.rings := rfl
@[simp] theorem State.setCluster_cp (n : Nat) (h : Cluster) : (s.setCluster n h).cp = s.cp := rfl
@[simp] theorem State.setCluster_mbx (n : Nat) (h : Cluster) : (s.setCluster n h).mbx = s.mbx := rfl
@[simp] theorem State.setCluster_log (n : Nat) (h : Cluster) : (s.setCluster n h).log = s.log := rfl
@[simp] theorem State.setCluster_nvs (n : Nat) (h : Cluster) : (s.setCluster n h).nvs = s.nvs := rfl
@[simp] theorem State.setCluster_mem (n : Nat) (h : Cluster) : (s.setCluster n h).mem = s.mem := rfl
@[simp] theorem State.setCluster_fab (n : Nat) (h : Cluster) : (s.setCluster n h).fab = s.fab := rfl
@[simp] theorem State.setCluster_lanes (n : Nat) (h : Cluster) : (s.setCluster n h).lanes = s.lanes := rfl
@[simp] theorem State.setCluster_foms (n : Nat) (h : Cluster) : (s.setCluster n h).foms = s.foms := rfl
@[simp] theorem State.setCluster_prbs (n : Nat) (h : Cluster) : (s.setCluster n h).prbs = s.prbs := rfl
@[simp] theorem State.setCluster_quads (n : Nat) (h : Cluster) : (s.setCluster n h).quads = s.quads := rfl
@[simp] theorem State.setCluster_ports (n : Nat) (h : Cluster) : (s.setCluster n h).ports = s.ports := rfl
@[simp] theorem State.setCluster_flows (n : Nat) (h : Cluster) : (s.setCluster n h).flows = s.flows := rfl
@[simp] theorem State.setCluster_txs (n : Nat) (h : Cluster) : (s.setCluster n h).txs = s.txs := rfl
@[simp] theorem State.setCluster_layers (n : Nat) (h : Cluster) : (s.setCluster n h).layers = s.layers := rfl
@[simp] theorem State.setCluster_outputs (n : Nat) (h : Cluster) : (s.setCluster n h).outputs = s.outputs := rfl
@[simp] theorem State.setCluster_outShots (n : Nat) (h : Cluster) : (s.setCluster n h).outShots = s.outShots := rfl
@[simp] theorem State.setCluster_leases (n : Nat) (h : Cluster) : (s.setCluster n h).leases = s.leases := rfl
@[simp] theorem State.setCluster_assocs (n : Nat) (h : Cluster) : (s.setCluster n h).assocs = s.assocs := rfl
@[simp] theorem State.setCluster_txAudio (n : Nat) (h : Cluster) : (s.setCluster n h).txAudio = s.txAudio := rfl
theorem State.setCluster_tq (n : Nat) (h : Cluster) : (s.setCluster n h).tq = { s.tq with clusters := spSet {} s.tq.clusters n h } := rfl
@[simp] theorem State.setCluster_heads (n : Nat) (h : Cluster) : (s.setCluster n h).heads = s.heads := rfl
@[simp] theorem State.setCluster_drivers (n : Nat) (h : Cluster) : (s.setCluster n h).drivers = s.drivers := rfl
@[simp] theorem State.setCluster_polls (n : Nat) (h : Cluster) : (s.setCluster n h).polls = s.polls := rfl
@[simp] theorem State.setCluster_rennex (n : Nat) (h : Cluster) : (s.setCluster n h).rennex = s.rennex := rfl
@[simp] theorem State.setCluster_pair (n : Nat) (h : Cluster) : (s.setCluster n h).pair = s.pair := rfl
@[simp] theorem State.setCluster_sync (n : Nat) (h : Cluster) : (s.setCluster n h).sync = s.sync := rfl
@[simp] theorem State.setCluster_free (n : Nat) (h : Cluster) : (s.setCluster n h).free = s.free := rfl
@[simp] theorem State.setCluster_answer (n : Nat) (h : Cluster) : (s.setCluster n h).answer = s.answer := rfl
@[simp] theorem State.setCluster_cluster (n : Nat) (h : Cluster) : (s.setCluster n h).cluster n = h := spGet_spSet_same
theorem State.setCluster_cluster_other (n : Nat) (h : Cluster) (m : Nat) (ne : m ≠ n) : (s.setCluster n h).cluster m = s.cluster m := spGet_spSet_other ne

/-! ## State.setDriver -/

@[simp] theorem State.setDriver_pending (n : Nat) (h : Driver) : (s.setDriver n h).pending = s.pending := rfl
@[simp] theorem State.setDriver_sys (n : Nat) (h : Driver) : (s.setDriver n h).sys = s.sys := rfl
@[simp] theorem State.setDriver_clocks (n : Nat) (h : Driver) : (s.setDriver n h).clocks = s.clocks := rfl
@[simp] theorem State.setDriver_wind (n : Nat) (h : Driver) : (s.setDriver n h).wind = s.wind := rfl
@[simp] theorem State.setDriver_power (n : Nat) (h : Driver) : (s.setDriver n h).power = s.power := rfl
@[simp] theorem State.setDriver_time (n : Nat) (h : Driver) : (s.setDriver n h).time = s.time := rfl
@[simp] theorem State.setDriver_timeRegs (n : Nat) (h : Driver) : (s.setDriver n h).timeRegs = s.timeRegs := rfl
@[simp] theorem State.setDriver_domains (n : Nat) (h : Driver) : (s.setDriver n h).domains = s.domains := rfl
@[simp] theorem State.setDriver_evtIn (n : Nat) (h : Driver) : (s.setDriver n h).evtIn = s.evtIn := rfl
@[simp] theorem State.setDriver_evtOut (n : Nat) (h : Driver) : (s.setDriver n h).evtOut = s.evtOut := rfl
@[simp] theorem State.setDriver_rings (n : Nat) (h : Driver) : (s.setDriver n h).rings = s.rings := rfl
@[simp] theorem State.setDriver_cp (n : Nat) (h : Driver) : (s.setDriver n h).cp = s.cp := rfl
@[simp] theorem State.setDriver_mbx (n : Nat) (h : Driver) : (s.setDriver n h).mbx = s.mbx := rfl
@[simp] theorem State.setDriver_log (n : Nat) (h : Driver) : (s.setDriver n h).log = s.log := rfl
@[simp] theorem State.setDriver_nvs (n : Nat) (h : Driver) : (s.setDriver n h).nvs = s.nvs := rfl
@[simp] theorem State.setDriver_mem (n : Nat) (h : Driver) : (s.setDriver n h).mem = s.mem := rfl
@[simp] theorem State.setDriver_fab (n : Nat) (h : Driver) : (s.setDriver n h).fab = s.fab := rfl
@[simp] theorem State.setDriver_lanes (n : Nat) (h : Driver) : (s.setDriver n h).lanes = s.lanes := rfl
@[simp] theorem State.setDriver_foms (n : Nat) (h : Driver) : (s.setDriver n h).foms = s.foms := rfl
@[simp] theorem State.setDriver_prbs (n : Nat) (h : Driver) : (s.setDriver n h).prbs = s.prbs := rfl
@[simp] theorem State.setDriver_quads (n : Nat) (h : Driver) : (s.setDriver n h).quads = s.quads := rfl
@[simp] theorem State.setDriver_ports (n : Nat) (h : Driver) : (s.setDriver n h).ports = s.ports := rfl
@[simp] theorem State.setDriver_flows (n : Nat) (h : Driver) : (s.setDriver n h).flows = s.flows := rfl
@[simp] theorem State.setDriver_txs (n : Nat) (h : Driver) : (s.setDriver n h).txs = s.txs := rfl
@[simp] theorem State.setDriver_layers (n : Nat) (h : Driver) : (s.setDriver n h).layers = s.layers := rfl
@[simp] theorem State.setDriver_outputs (n : Nat) (h : Driver) : (s.setDriver n h).outputs = s.outputs := rfl
@[simp] theorem State.setDriver_outShots (n : Nat) (h : Driver) : (s.setDriver n h).outShots = s.outShots := rfl
@[simp] theorem State.setDriver_leases (n : Nat) (h : Driver) : (s.setDriver n h).leases = s.leases := rfl
@[simp] theorem State.setDriver_assocs (n : Nat) (h : Driver) : (s.setDriver n h).assocs = s.assocs := rfl
@[simp] theorem State.setDriver_txAudio (n : Nat) (h : Driver) : (s.setDriver n h).txAudio = s.txAudio := rfl
@[simp] theorem State.setDriver_tq (n : Nat) (h : Driver) : (s.setDriver n h).tq = s.tq := rfl
@[simp] theorem State.setDriver_heads (n : Nat) (h : Driver) : (s.setDriver n h).heads = s.heads := rfl
theorem State.setDriver_drivers (n : Nat) (h : Driver) : (s.setDriver n h).drivers = spSet {} s.drivers n h := rfl
@[simp] theorem State.setDriver_polls (n : Nat) (h : Driver) : (s.setDriver n h).polls = s.polls := rfl
@[simp] theorem State.setDriver_rennex (n : Nat) (h : Driver) : (s.setDriver n h).rennex = s.rennex := rfl
@[simp] theorem State.setDriver_pair (n : Nat) (h : Driver) : (s.setDriver n h).pair = s.pair := rfl
@[simp] theorem State.setDriver_sync (n : Nat) (h : Driver) : (s.setDriver n h).sync = s.sync := rfl
@[simp] theorem State.setDriver_free (n : Nat) (h : Driver) : (s.setDriver n h).free = s.free := rfl
@[simp] theorem State.setDriver_answer (n : Nat) (h : Driver) : (s.setDriver n h).answer = s.answer := rfl
@[simp] theorem State.setDriver_driver (n : Nat) (h : Driver) : (s.setDriver n h).driver n = h := spGet_spSet_same
theorem State.setDriver_driver_other (n : Nat) (h : Driver) (m : Nat) (ne : m ≠ n) : (s.setDriver n h).driver m = s.driver m := spGet_spSet_other ne

/-! ## State.setRenn -/

@[simp] theorem State.setRenn_pending (n : Nat) (h : Rennex) : (s.setRenn n h).pending = s.pending := rfl
@[simp] theorem State.setRenn_sys (n : Nat) (h : Rennex) : (s.setRenn n h).sys = s.sys := rfl
@[simp] theorem State.setRenn_clocks (n : Nat) (h : Rennex) : (s.setRenn n h).clocks = s.clocks := rfl
@[simp] theorem State.setRenn_wind (n : Nat) (h : Rennex) : (s.setRenn n h).wind = s.wind := rfl
@[simp] theorem State.setRenn_power (n : Nat) (h : Rennex) : (s.setRenn n h).power = s.power := rfl
@[simp] theorem State.setRenn_time (n : Nat) (h : Rennex) : (s.setRenn n h).time = s.time := rfl
@[simp] theorem State.setRenn_timeRegs (n : Nat) (h : Rennex) : (s.setRenn n h).timeRegs = s.timeRegs := rfl
@[simp] theorem State.setRenn_domains (n : Nat) (h : Rennex) : (s.setRenn n h).domains = s.domains := rfl
@[simp] theorem State.setRenn_evtIn (n : Nat) (h : Rennex) : (s.setRenn n h).evtIn = s.evtIn := rfl
@[simp] theorem State.setRenn_evtOut (n : Nat) (h : Rennex) : (s.setRenn n h).evtOut = s.evtOut := rfl
@[simp] theorem State.setRenn_rings (n : Nat) (h : Rennex) : (s.setRenn n h).rings = s.rings := rfl
@[simp] theorem State.setRenn_cp (n : Nat) (h : Rennex) : (s.setRenn n h).cp = s.cp := rfl
@[simp] theorem State.setRenn_mbx (n : Nat) (h : Rennex) : (s.setRenn n h).mbx = s.mbx := rfl
@[simp] theorem State.setRenn_log (n : Nat) (h : Rennex) : (s.setRenn n h).log = s.log := rfl
@[simp] theorem State.setRenn_nvs (n : Nat) (h : Rennex) : (s.setRenn n h).nvs = s.nvs := rfl
@[simp] theorem State.setRenn_mem (n : Nat) (h : Rennex) : (s.setRenn n h).mem = s.mem := rfl
@[simp] theorem State.setRenn_fab (n : Nat) (h : Rennex) : (s.setRenn n h).fab = s.fab := rfl
@[simp] theorem State.setRenn_lanes (n : Nat) (h : Rennex) : (s.setRenn n h).lanes = s.lanes := rfl
@[simp] theorem State.setRenn_foms (n : Nat) (h : Rennex) : (s.setRenn n h).foms = s.foms := rfl
@[simp] theorem State.setRenn_prbs (n : Nat) (h : Rennex) : (s.setRenn n h).prbs = s.prbs := rfl
@[simp] theorem State.setRenn_quads (n : Nat) (h : Rennex) : (s.setRenn n h).quads = s.quads := rfl
@[simp] theorem State.setRenn_ports (n : Nat) (h : Rennex) : (s.setRenn n h).ports = s.ports := rfl
@[simp] theorem State.setRenn_flows (n : Nat) (h : Rennex) : (s.setRenn n h).flows = s.flows := rfl
@[simp] theorem State.setRenn_txs (n : Nat) (h : Rennex) : (s.setRenn n h).txs = s.txs := rfl
@[simp] theorem State.setRenn_layers (n : Nat) (h : Rennex) : (s.setRenn n h).layers = s.layers := rfl
@[simp] theorem State.setRenn_outputs (n : Nat) (h : Rennex) : (s.setRenn n h).outputs = s.outputs := rfl
@[simp] theorem State.setRenn_outShots (n : Nat) (h : Rennex) : (s.setRenn n h).outShots = s.outShots := rfl
@[simp] theorem State.setRenn_leases (n : Nat) (h : Rennex) : (s.setRenn n h).leases = s.leases := rfl
@[simp] theorem State.setRenn_assocs (n : Nat) (h : Rennex) : (s.setRenn n h).assocs = s.assocs := rfl
@[simp] theorem State.setRenn_txAudio (n : Nat) (h : Rennex) : (s.setRenn n h).txAudio = s.txAudio := rfl
@[simp] theorem State.setRenn_tq (n : Nat) (h : Rennex) : (s.setRenn n h).tq = s.tq := rfl
@[simp] theorem State.setRenn_heads (n : Nat) (h : Rennex) : (s.setRenn n h).heads = s.heads := rfl
@[simp] theorem State.setRenn_drivers (n : Nat) (h : Rennex) : (s.setRenn n h).drivers = s.drivers := rfl
@[simp] theorem State.setRenn_polls (n : Nat) (h : Rennex) : (s.setRenn n h).polls = s.polls := rfl
theorem State.setRenn_rennex (n : Nat) (h : Rennex) : (s.setRenn n h).rennex = spSet {} s.rennex n h := rfl
@[simp] theorem State.setRenn_pair (n : Nat) (h : Rennex) : (s.setRenn n h).pair = s.pair := rfl
@[simp] theorem State.setRenn_sync (n : Nat) (h : Rennex) : (s.setRenn n h).sync = s.sync := rfl
@[simp] theorem State.setRenn_free (n : Nat) (h : Rennex) : (s.setRenn n h).free = s.free := rfl
@[simp] theorem State.setRenn_answer (n : Nat) (h : Rennex) : (s.setRenn n h).answer = s.answer := rfl
@[simp] theorem State.setRenn_renn (n : Nat) (h : Rennex) : (s.setRenn n h).renn n = h := spGet_spSet_same
theorem State.setRenn_renn_other (n : Nat) (h : Rennex) (m : Nat) (ne : m ≠ n) : (s.setRenn n h).renn m = s.renn m := spGet_spSet_other ne

/-! ## State.setDomain -/

@[simp] theorem State.setDomain_pending (n : Nat) (h : Domain) : (s.setDomain n h).pending = s.pending := rfl
@[simp] theorem State.setDomain_sys (n : Nat) (h : Domain) : (s.setDomain n h).sys = s.sys := rfl
@[simp] theorem State.setDomain_clocks (n : Nat) (h : Domain) : (s.setDomain n h).clocks = s.clocks := rfl
@[simp] theorem State.setDomain_wind (n : Nat) (h : Domain) : (s.setDomain n h).wind = s.wind := rfl
@[simp] theorem State.setDomain_power (n : Nat) (h : Domain) : (s.setDomain n h).power = s.power := rfl
@[simp] theorem State.setDomain_time (n : Nat) (h : Domain) : (s.setDomain n h).time = s.time := rfl
@[simp] theorem State.setDomain_timeRegs (n : Nat) (h : Domain) : (s.setDomain n h).timeRegs = s.timeRegs := rfl
theorem State.setDomain_domains (n : Nat) (h : Domain) : (s.setDomain n h).domains = spSet {} s.domains n h := rfl
@[simp] theorem State.setDomain_evtIn (n : Nat) (h : Domain) : (s.setDomain n h).evtIn = s.evtIn := rfl
@[simp] theorem State.setDomain_evtOut (n : Nat) (h : Domain) : (s.setDomain n h).evtOut = s.evtOut := rfl
@[simp] theorem State.setDomain_rings (n : Nat) (h : Domain) : (s.setDomain n h).rings = s.rings := rfl
@[simp] theorem State.setDomain_cp (n : Nat) (h : Domain) : (s.setDomain n h).cp = s.cp := rfl
@[simp] theorem State.setDomain_mbx (n : Nat) (h : Domain) : (s.setDomain n h).mbx = s.mbx := rfl
@[simp] theorem State.setDomain_log (n : Nat) (h : Domain) : (s.setDomain n h).log = s.log := rfl
@[simp] theorem State.setDomain_nvs (n : Nat) (h : Domain) : (s.setDomain n h).nvs = s.nvs := rfl
@[simp] theorem State.setDomain_mem (n : Nat) (h : Domain) : (s.setDomain n h).mem = s.mem := rfl
@[simp] theorem State.setDomain_fab (n : Nat) (h : Domain) : (s.setDomain n h).fab = s.fab := rfl
@[simp] theorem State.setDomain_lanes (n : Nat) (h : Domain) : (s.setDomain n h).lanes = s.lanes := rfl
@[simp] theorem State.setDomain_foms (n : Nat) (h : Domain) : (s.setDomain n h).foms = s.foms := rfl
@[simp] theorem State.setDomain_prbs (n : Nat) (h : Domain) : (s.setDomain n h).prbs = s.prbs := rfl
@[simp] theorem State.setDomain_quads (n : Nat) (h : Domain) : (s.setDomain n h).quads = s.quads := rfl
@[simp] theorem State.setDomain_ports (n : Nat) (h : Domain) : (s.setDomain n h).ports = s.ports := rfl
@[simp] theorem State.setDomain_flows (n : Nat) (h : Domain) : (s.setDomain n h).flows = s.flows := rfl
@[simp] theorem State.setDomain_txs (n : Nat) (h : Domain) : (s.setDomain n h).txs = s.txs := rfl
@[simp] theorem State.setDomain_layers (n : Nat) (h : Domain) : (s.setDomain n h).layers = s.layers := rfl
@[simp] theorem State.setDomain_outputs (n : Nat) (h : Domain) : (s.setDomain n h).outputs = s.outputs := rfl
@[simp] theorem State.setDomain_outShots (n : Nat) (h : Domain) : (s.setDomain n h).outShots = s.outShots := rfl
@[simp] theorem State.setDomain_leases (n : Nat) (h : Domain) : (s.setDomain n h).leases = s.leases := rfl
@[simp] theorem State.setDomain_assocs (n : Nat) (h : Domain) : (s.setDomain n h).assocs = s.assocs := rfl
@[simp] theorem State.setDomain_txAudio (n : Nat) (h : Domain) : (s.setDomain n h).txAudio = s.txAudio := rfl
@[simp] theorem State.setDomain_tq (n : Nat) (h : Domain) : (s.setDomain n h).tq = s.tq := rfl
@[simp] theorem State.setDomain_heads (n : Nat) (h : Domain) : (s.setDomain n h).heads = s.heads := rfl
@[simp] theorem State.setDomain_drivers (n : Nat) (h : Domain) : (s.setDomain n h).drivers = s.drivers := rfl
@[simp] theorem State.setDomain_polls (n : Nat) (h : Domain) : (s.setDomain n h).polls = s.polls := rfl
@[simp] theorem State.setDomain_rennex (n : Nat) (h : Domain) : (s.setDomain n h).rennex = s.rennex := rfl
@[simp] theorem State.setDomain_pair (n : Nat) (h : Domain) : (s.setDomain n h).pair = s.pair := rfl
@[simp] theorem State.setDomain_sync (n : Nat) (h : Domain) : (s.setDomain n h).sync = s.sync := rfl
@[simp] theorem State.setDomain_free (n : Nat) (h : Domain) : (s.setDomain n h).free = s.free := rfl
@[simp] theorem State.setDomain_answer (n : Nat) (h : Domain) : (s.setDomain n h).answer = s.answer := rfl
@[simp] theorem State.setDomain_domain (n : Nat) (h : Domain) : (s.setDomain n h).domain n = h := spGet_spSet_same
theorem State.setDomain_domain_other (n : Nat) (h : Domain) (m : Nat) (ne : m ≠ n) : (s.setDomain n h).domain m = s.domain m := spGet_spSet_other ne

/-! ## State.modHead -/

@[simp] theorem State.modHead_pending (n : Nat) (f : Head → Head) : (s.modHead n f).pending = s.pending := rfl
@[simp] theorem State.modHead_sys (n : Nat) (f : Head → Head) : (s.modHead n f).sys = s.sys := rfl
@[simp] theorem State.modHead_clocks (n : Nat) (f : Head → Head) : (s.modHead n f).clocks = s.clocks := rfl
@[simp] theorem State.modHead_wind (n : Nat) (f : Head → Head) : (s.modHead n f).wind = s.wind := rfl
@[simp] theorem State.modHead_power (n : Nat) (f : Head → Head) : (s.modHead n f).power = s.power := rfl
@[simp] theorem State.modHead_time (n : Nat) (f : Head → Head) : (s.modHead n f).time = s.time := rfl
@[simp] theorem State.modHead_timeRegs (n : Nat) (f : Head → Head) : (s.modHead n f).timeRegs = s.timeRegs := rfl
@[simp] theorem State.modHead_domains (n : Nat) (f : Head → Head) : (s.modHead n f).domains = s.domains := rfl
@[simp] theorem State.modHead_evtIn (n : Nat) (f : Head → Head) : (s.modHead n f).evtIn = s.evtIn := rfl
@[simp] theorem State.modHead_evtOut (n : Nat) (f : Head → Head) : (s.modHead n f).evtOut = s.evtOut := rfl
@[simp] theorem State.modHead_rings (n : Nat) (f : Head → Head) : (s.modHead n f).rings = s.rings := rfl
@[simp] theorem State.modHead_cp (n : Nat) (f : Head → Head) : (s.modHead n f).cp = s.cp := rfl
@[simp] theorem State.modHead_mbx (n : Nat) (f : Head → Head) : (s.modHead n f).mbx = s.mbx := rfl
@[simp] theorem State.modHead_log (n : Nat) (f : Head → Head) : (s.modHead n f).log = s.log := rfl
@[simp] theorem State.modHead_nvs (n : Nat) (f : Head → Head) : (s.modHead n f).nvs = s.nvs := rfl
@[simp] theorem State.modHead_mem (n : Nat) (f : Head → Head) : (s.modHead n f).mem = s.mem := rfl
@[simp] theorem State.modHead_fab (n : Nat) (f : Head → Head) : (s.modHead n f).fab = s.fab := rfl
@[simp] theorem State.modHead_lanes (n : Nat) (f : Head → Head) : (s.modHead n f).lanes = s.lanes := rfl
@[simp] theorem State.modHead_foms (n : Nat) (f : Head → Head) : (s.modHead n f).foms = s.foms := rfl
@[simp] theorem State.modHead_prbs (n : Nat) (f : Head → Head) : (s.modHead n f).prbs = s.prbs := rfl
@[simp] theorem State.modHead_quads (n : Nat) (f : Head → Head) : (s.modHead n f).quads = s.quads := rfl
@[simp] theorem State.modHead_ports (n : Nat) (f : Head → Head) : (s.modHead n f).ports = s.ports := rfl
@[simp] theorem State.modHead_flows (n : Nat) (f : Head → Head) : (s.modHead n f).flows = s.flows := rfl
@[simp] theorem State.modHead_txs (n : Nat) (f : Head → Head) : (s.modHead n f).txs = s.txs := rfl
@[simp] theorem State.modHead_layers (n : Nat) (f : Head → Head) : (s.modHead n f).layers = s.layers := rfl
@[simp] theorem State.modHead_outputs (n : Nat) (f : Head → Head) : (s.modHead n f).outputs = s.outputs := rfl
@[simp] theorem State.modHead_outShots (n : Nat) (f : Head → Head) : (s.modHead n f).outShots = s.outShots := rfl
@[simp] theorem State.modHead_leases (n : Nat) (f : Head → Head) : (s.modHead n f).leases = s.leases := rfl
@[simp] theorem State.modHead_assocs (n : Nat) (f : Head → Head) : (s.modHead n f).assocs = s.assocs := rfl
@[simp] theorem State.modHead_txAudio (n : Nat) (f : Head → Head) : (s.modHead n f).txAudio = s.txAudio := rfl
@[simp] theorem State.modHead_tq (n : Nat) (f : Head → Head) : (s.modHead n f).tq = s.tq := rfl
theorem State.modHead_heads (n : Nat) (f : Head → Head) : (s.modHead n f).heads = spSet {} s.heads n (f (s.head n)) := rfl
@[simp] theorem State.modHead_drivers (n : Nat) (f : Head → Head) : (s.modHead n f).drivers = s.drivers := rfl
@[simp] theorem State.modHead_polls (n : Nat) (f : Head → Head) : (s.modHead n f).polls = s.polls := rfl
@[simp] theorem State.modHead_rennex (n : Nat) (f : Head → Head) : (s.modHead n f).rennex = s.rennex := rfl
@[simp] theorem State.modHead_pair (n : Nat) (f : Head → Head) : (s.modHead n f).pair = s.pair := rfl
@[simp] theorem State.modHead_sync (n : Nat) (f : Head → Head) : (s.modHead n f).sync = s.sync := rfl
@[simp] theorem State.modHead_free (n : Nat) (f : Head → Head) : (s.modHead n f).free = s.free := rfl
@[simp] theorem State.modHead_answer (n : Nat) (f : Head → Head) : (s.modHead n f).answer = s.answer := rfl
@[simp] theorem State.modHead_head (n : Nat) (f : Head → Head) : (s.modHead n f).head n = f (s.head n) := spGet_spSet_same
theorem State.modHead_head_other (n : Nat) (f : Head → Head) (m : Nat) (ne : m ≠ n) : (s.modHead n f).head m = s.head m := spGet_spSet_other ne

/-! ## State.say -/

@[simp] theorem State.say_pending (b : List Byte) : (s.say b).pending = s.pending := rfl
@[simp] theorem State.say_sys (b : List Byte) : (s.say b).sys = s.sys := rfl
@[simp] theorem State.say_clocks (b : List Byte) : (s.say b).clocks = s.clocks := rfl
@[simp] theorem State.say_wind (b : List Byte) : (s.say b).wind = s.wind := rfl
@[simp] theorem State.say_power (b : List Byte) : (s.say b).power = s.power := rfl
@[simp] theorem State.say_time (b : List Byte) : (s.say b).time = s.time := rfl
@[simp] theorem State.say_timeRegs (b : List Byte) : (s.say b).timeRegs = s.timeRegs := rfl
@[simp] theorem State.say_domains (b : List Byte) : (s.say b).domains = s.domains := rfl
@[simp] theorem State.say_evtIn (b : List Byte) : (s.say b).evtIn = s.evtIn := rfl
@[simp] theorem State.say_evtOut (b : List Byte) : (s.say b).evtOut = s.evtOut := rfl
@[simp] theorem State.say_rings (b : List Byte) : (s.say b).rings = s.rings := rfl
@[simp] theorem State.say_cp (b : List Byte) : (s.say b).cp = s.cp := rfl
@[simp] theorem State.say_mbx (b : List Byte) : (s.say b).mbx = s.mbx := rfl
@[simp] theorem State.say_log (b : List Byte) : (s.say b).log = s.log := rfl
@[simp] theorem State.say_nvs (b : List Byte) : (s.say b).nvs = s.nvs := rfl
@[simp] theorem State.say_mem (b : List Byte) : (s.say b).mem = s.mem := rfl
@[simp] theorem State.say_fab (b : List Byte) : (s.say b).fab = s.fab := rfl
@[simp] theorem State.say_lanes (b : List Byte) : (s.say b).lanes = s.lanes := rfl
@[simp] theorem State.say_foms (b : List Byte) : (s.say b).foms = s.foms := rfl
@[simp] theorem State.say_prbs (b : List Byte) : (s.say b).prbs = s.prbs := rfl
@[simp] theorem State.say_quads (b : List Byte) : (s.say b).quads = s.quads := rfl
@[simp] theorem State.say_ports (b : List Byte) : (s.say b).ports = s.ports := rfl
@[simp] theorem State.say_flows (b : List Byte) : (s.say b).flows = s.flows := rfl
@[simp] theorem State.say_txs (b : List Byte) : (s.say b).txs = s.txs := rfl
@[simp] theorem State.say_layers (b : List Byte) : (s.say b).layers = s.layers := rfl
@[simp] theorem State.say_outputs (b : List Byte) : (s.say b).outputs = s.outputs := rfl
@[simp] theorem State.say_outShots (b : List Byte) : (s.say b).outShots = s.outShots := rfl
@[simp] theorem State.say_leases (b : List Byte) : (s.say b).leases = s.leases := rfl
@[simp] theorem State.say_assocs (b : List Byte) : (s.say b).assocs = s.assocs := rfl
@[simp] theorem State.say_txAudio (b : List Byte) : (s.say b).txAudio = s.txAudio := rfl
@[simp] theorem State.say_tq (b : List Byte) : (s.say b).tq = s.tq := rfl
@[simp] theorem State.say_heads (b : List Byte) : (s.say b).heads = s.heads := rfl
@[simp] theorem State.say_drivers (b : List Byte) : (s.say b).drivers = s.drivers := rfl
@[simp] theorem State.say_polls (b : List Byte) : (s.say b).polls = s.polls := rfl
@[simp] theorem State.say_rennex (b : List Byte) : (s.say b).rennex = s.rennex := rfl
@[simp] theorem State.say_pair (b : List Byte) : (s.say b).pair = s.pair := rfl
@[simp] theorem State.say_sync (b : List Byte) : (s.say b).sync = s.sync := rfl
@[simp] theorem State.say_free (b : List Byte) : (s.say b).free = s.free := rfl
theorem State.say_answer (b : List Byte) : (s.say b).answer = { bytes := b } := rfl

/-! ## State.sayError -/

@[simp] theorem State.sayError_pending (b : List Byte) : (s.sayError b).pending = s.pending := rfl
@[simp] theorem State.sayError_sys (b : List Byte) : (s.sayError b).sys = s.sys := rfl
@[simp] theorem State.sayError_clocks (b : List Byte) : (s.sayError b).clocks = s.clocks := rfl
@[simp] theorem State.sayError_wind (b : List Byte) : (s.sayError b).wind = s.wind := rfl
@[simp] theorem State.sayError_power (b : List Byte) : (s.sayError b).power = s.power := rfl
@[simp] theorem State.sayError_time (b : List Byte) : (s.sayError b).time = s.time := rfl
@[simp] theorem State.sayError_timeRegs (b : List Byte) : (s.sayError b).timeRegs = s.timeRegs := rfl
@[simp] theorem State.sayError_domains (b : List Byte) : (s.sayError b).domains = s.domains := rfl
@[simp] theorem State.sayError_evtIn (b : List Byte) : (s.sayError b).evtIn = s.evtIn := rfl
@[simp] theorem State.sayError_evtOut (b : List Byte) : (s.sayError b).evtOut = s.evtOut := rfl
@[simp] theorem State.sayError_rings (b : List Byte) : (s.sayError b).rings = s.rings := rfl
@[simp] theorem State.sayError_cp (b : List Byte) : (s.sayError b).cp = s.cp := rfl
@[simp] theorem State.sayError_mbx (b : List Byte) : (s.sayError b).mbx = s.mbx := rfl
@[simp] theorem State.sayError_log (b : List Byte) : (s.sayError b).log = s.log := rfl
@[simp] theorem State.sayError_nvs (b : List Byte) : (s.sayError b).nvs = s.nvs := rfl
@[simp] theorem State.sayError_mem (b : List Byte) : (s.sayError b).mem = s.mem := rfl
@[simp] theorem State.sayError_fab (b : List Byte) : (s.sayError b).fab = s.fab := rfl
@[simp] theorem State.sayError_lanes (b : List Byte) : (s.sayError b).lanes = s.lanes := rfl
@[simp] theorem State.sayError_foms (b : List Byte) : (s.sayError b).foms = s.foms := rfl
@[simp] theorem State.sayError_prbs (b : List Byte) : (s.sayError b).prbs = s.prbs := rfl
@[simp] theorem State.sayError_quads (b : List Byte) : (s.sayError b).quads = s.quads := rfl
@[simp] theorem State.sayError_ports (b : List Byte) : (s.sayError b).ports = s.ports := rfl
@[simp] theorem State.sayError_flows (b : List Byte) : (s.sayError b).flows = s.flows := rfl
@[simp] theorem State.sayError_txs (b : List Byte) : (s.sayError b).txs = s.txs := rfl
@[simp] theorem State.sayError_layers (b : List Byte) : (s.sayError b).layers = s.layers := rfl
@[simp] theorem State.sayError_outputs (b : List Byte) : (s.sayError b).outputs = s.outputs := rfl
@[simp] theorem State.sayError_outShots (b : List Byte) : (s.sayError b).outShots = s.outShots := rfl
@[simp] theorem State.sayError_leases (b : List Byte) : (s.sayError b).leases = s.leases := rfl
@[simp] theorem State.sayError_assocs (b : List Byte) : (s.sayError b).assocs = s.assocs := rfl
@[simp] theorem State.sayError_txAudio (b : List Byte) : (s.sayError b).txAudio = s.txAudio := rfl
@[simp] theorem State.sayError_tq (b : List Byte) : (s.sayError b).tq = s.tq := rfl
@[simp] theorem State.sayError_heads (b : List Byte) : (s.sayError b).heads = s.heads := rfl
@[simp] theorem State.sayError_drivers (b : List Byte) : (s.sayError b).drivers = s.drivers := rfl
@[simp] theorem State.sayError_polls (b : List Byte) : (s.sayError b).polls = s.polls := rfl
@[simp] theorem State.sayError_rennex (b : List Byte) : (s.sayError b).rennex = s.rennex := rfl
@[simp] theorem State.sayError_pair (b : List Byte) : (s.sayError b).pair = s.pair := rfl
@[simp] theorem State.sayError_sync (b : List Byte) : (s.sayError b).sync = s.sync := rfl
@[simp] theorem State.sayError_free (b : List Byte) : (s.sayError b).free = s.free := rfl
theorem State.sayError_answer (b : List Byte) : (s.sayError b).answer = { bytes := b, error := true } := rfl

/-! ## State.takeNo -/

@[simp] theorem State.takeNo_pending : (s.takeNo).pending = s.pending := rfl
@[simp] theorem State.takeNo_sys : (s.takeNo).sys = s.sys := rfl
@[simp] theorem State.takeNo_clocks : (s.takeNo).clocks = s.clocks := rfl
@[simp] theorem State.takeNo_wind : (s.takeNo).wind = s.wind := rfl
@[simp] theorem State.takeNo_power : (s.takeNo).power = s.power := rfl
@[simp] theorem State.takeNo_time : (s.takeNo).time = s.time := rfl
@[simp] theorem State.takeNo_timeRegs : (s.takeNo).timeRegs = s.timeRegs := rfl
@[simp] theorem State.takeNo_domains : (s.takeNo).domains = s.domains := rfl
@[simp] theorem State.takeNo_evtIn : (s.takeNo).evtIn = s.evtIn := rfl
@[simp] theorem State.takeNo_evtOut : (s.takeNo).evtOut = s.evtOut := rfl
@[simp] theorem State.takeNo_rings : (s.takeNo).rings = s.rings := rfl
theorem State.takeNo_cp : (s.takeNo).cp = { s.cp with acceptNo := inc32 s.cp.acceptNo } := rfl
@[simp] theorem State.takeNo_mbx : (s.takeNo).mbx = s.mbx := rfl
@[simp] theorem State.takeNo_log : (s.takeNo).log = s.log := rfl
@[simp] theorem State.takeNo_nvs : (s.takeNo).nvs = s.nvs := rfl
@[simp] theorem State.takeNo_mem : (s.takeNo).mem = s.mem := rfl
@[simp] theorem State.takeNo_fab : (s.takeNo).fab = s.fab := rfl
@[simp] theorem State.takeNo_lanes : (s.takeNo).lanes = s.lanes := rfl
@[simp] theorem State.takeNo_foms : (s.takeNo).foms = s.foms := rfl
@[simp] theorem State.takeNo_prbs : (s.takeNo).prbs = s.prbs := rfl
@[simp] theorem State.takeNo_quads : (s.takeNo).quads = s.quads := rfl
@[simp] theorem State.takeNo_ports : (s.takeNo).ports = s.ports := rfl
@[simp] theorem State.takeNo_flows : (s.takeNo).flows = s.flows := rfl
@[simp] theorem State.takeNo_txs : (s.takeNo).txs = s.txs := rfl
@[simp] theorem State.takeNo_layers : (s.takeNo).layers = s.layers := rfl
@[simp] theorem State.takeNo_outputs : (s.takeNo).outputs = s.outputs := rfl
@[simp] theorem State.takeNo_outShots : (s.takeNo).outShots = s.outShots := rfl
@[simp] theorem State.takeNo_leases : (s.takeNo).leases = s.leases := rfl
@[simp] theorem State.takeNo_assocs : (s.takeNo).assocs = s.assocs := rfl
@[simp] theorem State.takeNo_txAudio : (s.takeNo).txAudio = s.txAudio := rfl
@[simp] theorem State.takeNo_tq : (s.takeNo).tq = s.tq := rfl
@[simp] theorem State.takeNo_heads : (s.takeNo).heads = s.heads := rfl
@[simp] theorem State.takeNo_drivers : (s.takeNo).drivers = s.drivers := rfl
@[simp] theorem State.takeNo_polls : (s.takeNo).polls = s.polls := rfl
@[simp] theorem State.takeNo_rennex : (s.takeNo).rennex = s.rennex := rfl
@[simp] theorem State.takeNo_pair : (s.takeNo).pair = s.pair := rfl
@[simp] theorem State.takeNo_sync : (s.takeNo).sync = s.sync := rfl
@[simp] theorem State.takeNo_free : (s.takeNo).free = s.free := rfl
@[simp] theorem State.takeNo_answer : (s.takeNo).answer = s.answer := rfl

/-! ## State.enqueue -/

@[simp] theorem State.enqueue_pending (e : Entry) : (s.enqueue e).pending = s.pending := rfl
@[simp] theorem State.enqueue_sys (e : Entry) : (s.enqueue e).sys = s.sys := rfl
@[simp] theorem State.enqueue_clocks (e : Entry) : (s.enqueue e).clocks = s.clocks := rfl
@[simp] theorem State.enqueue_wind (e : Entry) : (s.enqueue e).wind = s.wind := rfl
@[simp] theorem State.enqueue_power (e : Entry) : (s.enqueue e).power = s.power := rfl
@[simp] theorem State.enqueue_time (e : Entry) : (s.enqueue e).time = s.time := rfl
@[simp] theorem State.enqueue_timeRegs (e : Entry) : (s.enqueue e).timeRegs = s.timeRegs := rfl
@[simp] theorem State.enqueue_domains (e : Entry) : (s.enqueue e).domains = s.domains := rfl
@[simp] theorem State.enqueue_evtIn (e : Entry) : (s.enqueue e).evtIn = s.evtIn := rfl
@[simp] theorem State.enqueue_evtOut (e : Entry) : (s.enqueue e).evtOut = s.evtOut := rfl
@[simp] theorem State.enqueue_rings (e : Entry) : (s.enqueue e).rings = s.rings := rfl
theorem State.enqueue_cp (e : Entry) : (s.enqueue e).cp = { s.cp with launch := s.cp.launch ++ [e] } := rfl
@[simp] theorem State.enqueue_mbx (e : Entry) : (s.enqueue e).mbx = s.mbx := rfl
@[simp] theorem State.enqueue_log (e : Entry) : (s.enqueue e).log = s.log := rfl
@[simp] theorem State.enqueue_nvs (e : Entry) : (s.enqueue e).nvs = s.nvs := rfl
@[simp] theorem State.enqueue_mem (e : Entry) : (s.enqueue e).mem = s.mem := rfl
@[simp] theorem State.enqueue_fab (e : Entry) : (s.enqueue e).fab = s.fab := rfl
@[simp] theorem State.enqueue_lanes (e : Entry) : (s.enqueue e).lanes = s.lanes := rfl
@[simp] theorem State.enqueue_foms (e : Entry) : (s.enqueue e).foms = s.foms := rfl
@[simp] theorem State.enqueue_prbs (e : Entry) : (s.enqueue e).prbs = s.prbs := rfl
@[simp] theorem State.enqueue_quads (e : Entry) : (s.enqueue e).quads = s.quads := rfl
@[simp] theorem State.enqueue_ports (e : Entry) : (s.enqueue e).ports = s.ports := rfl
@[simp] theorem State.enqueue_flows (e : Entry) : (s.enqueue e).flows = s.flows := rfl
@[simp] theorem State.enqueue_txs (e : Entry) : (s.enqueue e).txs = s.txs := rfl
@[simp] theorem State.enqueue_layers (e : Entry) : (s.enqueue e).layers = s.layers := rfl
@[simp] theorem State.enqueue_outputs (e : Entry) : (s.enqueue e).outputs = s.outputs := rfl
@[simp] theorem State.enqueue_outShots (e : Entry) : (s.enqueue e).outShots = s.outShots := rfl
@[simp] theorem State.enqueue_leases (e : Entry) : (s.enqueue e).leases = s.leases := rfl
@[simp] theorem State.enqueue_assocs (e : Entry) : (s.enqueue e).assocs = s.assocs := rfl
@[simp] theorem State.enqueue_txAudio (e : Entry) : (s.enqueue e).txAudio = s.txAudio := rfl
@[simp] theorem State.enqueue_tq (e : Entry) : (s.enqueue e).tq = s.tq := rfl
@[simp] theorem State.enqueue_heads (e : Entry) : (s.enqueue e).heads = s.heads := rfl
@[simp] theorem State.enqueue_drivers (e : Entry) : (s.enqueue e).drivers = s.drivers := rfl
@[simp] theorem State.enqueue_polls (e : Entry) : (s.enqueue e).polls = s.polls := rfl
@[simp] theorem State.enqueue_rennex (e : Entry) : (s.enqueue e).rennex = s.rennex := rfl
@[simp] theorem State.enqueue_pair (e : Entry) : (s.enqueue e).pair = s.pair := rfl
@[simp] theorem State.enqueue_sync (e : Entry) : (s.enqueue e).sync = s.sync := rfl
@[simp] theorem State.enqueue_free (e : Entry) : (s.enqueue e).free = s.free := rfl
@[simp] theorem State.enqueue_answer (e : Entry) : (s.enqueue e).answer = s.answer := rfl

/-! ## State.addProc -/

@[simp] theorem State.addProc_pending (p : Proc) : (s.addProc p).pending = s.pending := rfl
@[simp] theorem State.addProc_sys (p : Proc) : (s.addProc p).sys = s.sys := rfl
@[simp] theorem State.addProc_clocks (p : Proc) : (s.addProc p).clocks = s.clocks := rfl
@[simp] theorem State.addProc_wind (p : Proc) : (s.addProc p).wind = s.wind := rfl
@[simp] theorem State.addProc_power (p : Proc) : (s.addProc p).power = s.power := rfl
@[simp] theorem State.addProc_time (p : Proc) : (s.addProc p).time = s.time := rfl
@[simp] theorem State.addProc_timeRegs (p : Proc) : (s.addProc p).timeRegs = s.timeRegs := rfl
@[simp] theorem State.addProc_domains (p : Proc) : (s.addProc p).domains = s.domains := rfl
@[simp] theorem State.addProc_evtIn (p : Proc) : (s.addProc p).evtIn = s.evtIn := rfl
@[simp] theorem State.addProc_evtOut (p : Proc) : (s.addProc p).evtOut = s.evtOut := rfl
@[simp] theorem State.addProc_rings (p : Proc) : (s.addProc p).rings = s.rings := rfl
theorem State.addProc_cp (p : Proc) : (s.addProc p).cp = { s.cp with procs := s.cp.procs ++ [p] } := rfl
@[simp] theorem State.addProc_mbx (p : Proc) : (s.addProc p).mbx = s.mbx := rfl
@[simp] theorem State.addProc_log (p : Proc) : (s.addProc p).log = s.log := rfl
@[simp] theorem State.addProc_nvs (p : Proc) : (s.addProc p).nvs = s.nvs := rfl
@[simp] theorem State.addProc_mem (p : Proc) : (s.addProc p).mem = s.mem := rfl
@[simp] theorem State.addProc_fab (p : Proc) : (s.addProc p).fab = s.fab := rfl
@[simp] theorem State.addProc_lanes (p : Proc) : (s.addProc p).lanes = s.lanes := rfl
@[simp] theorem State.addProc_foms (p : Proc) : (s.addProc p).foms = s.foms := rfl
@[simp] theorem State.addProc_prbs (p : Proc) : (s.addProc p).prbs = s.prbs := rfl
@[simp] theorem State.addProc_quads (p : Proc) : (s.addProc p).quads = s.quads := rfl
@[simp] theorem State.addProc_ports (p : Proc) : (s.addProc p).ports = s.ports := rfl
@[simp] theorem State.addProc_flows (p : Proc) : (s.addProc p).flows = s.flows := rfl
@[simp] theorem State.addProc_txs (p : Proc) : (s.addProc p).txs = s.txs := rfl
@[simp] theorem State.addProc_layers (p : Proc) : (s.addProc p).layers = s.layers := rfl
@[simp] theorem State.addProc_outputs (p : Proc) : (s.addProc p).outputs = s.outputs := rfl
@[simp] theorem State.addProc_outShots (p : Proc) : (s.addProc p).outShots = s.outShots := rfl
@[simp] theorem State.addProc_leases (p : Proc) : (s.addProc p).leases = s.leases := rfl
@[simp] theorem State.addProc_assocs (p : Proc) : (s.addProc p).assocs = s.assocs := rfl
@[simp] theorem State.addProc_txAudio (p : Proc) : (s.addProc p).txAudio = s.txAudio := rfl
@[simp] theorem State.addProc_tq (p : Proc) : (s.addProc p).tq = s.tq := rfl
@[simp] theorem State.addProc_heads (p : Proc) : (s.addProc p).heads = s.heads := rfl
@[simp] theorem State.addProc_drivers (p : Proc) : (s.addProc p).drivers = s.drivers := rfl
@[simp] theorem State.addProc_polls (p : Proc) : (s.addProc p).polls = s.polls := rfl
@[simp] theorem State.addProc_rennex (p : Proc) : (s.addProc p).rennex = s.rennex := rfl
@[simp] theorem State.addProc_pair (p : Proc) : (s.addProc p).pair = s.pair := rfl
@[simp] theorem State.addProc_sync (p : Proc) : (s.addProc p).sync = s.sync := rfl
@[simp] theorem State.addProc_free (p : Proc) : (s.addProc p).free = s.free := rfl
@[simp] theorem State.addProc_answer (p : Proc) : (s.addProc p).answer = s.answer := rfl

/-! ## State.addRunning -/

@[simp] theorem State.addRunning_pending (r : Running) : (s.addRunning r).pending = s.pending := rfl
@[simp] theorem State.addRunning_sys (r : Running) : (s.addRunning r).sys = s.sys := rfl
@[simp] theorem State.addRunning_clocks (r : Running) : (s.addRunning r).clocks = s.clocks := rfl
@[simp] theorem State.addRunning_wind (r : Running) : (s.addRunning r).wind = s.wind := rfl
@[simp] theorem State.addRunning_power (r : Running) : (s.addRunning r).power = s.power := rfl
@[simp] theorem State.addRunning_time (r : Running) : (s.addRunning r).time = s.time := rfl
@[simp] theorem State.addRunning_timeRegs (r : Running) : (s.addRunning r).timeRegs = s.timeRegs := rfl
@[simp] theorem State.addRunning_domains (r : Running) : (s.addRunning r).domains = s.domains := rfl
@[simp] theorem State.addRunning_evtIn (r : Running) : (s.addRunning r).evtIn = s.evtIn := rfl
@[simp] theorem State.addRunning_evtOut (r : Running) : (s.addRunning r).evtOut = s.evtOut := rfl
@[simp] theorem State.addRunning_rings (r : Running) : (s.addRunning r).rings = s.rings := rfl
theorem State.addRunning_cp (r : Running) : (s.addRunning r).cp = { s.cp with running := s.cp.running ++ [r] } := rfl
@[simp] theorem State.addRunning_mbx (r : Running) : (s.addRunning r).mbx = s.mbx := rfl
@[simp] theorem State.addRunning_log (r : Running) : (s.addRunning r).log = s.log := rfl
@[simp] theorem State.addRunning_nvs (r : Running) : (s.addRunning r).nvs = s.nvs := rfl
@[simp] theorem State.addRunning_mem (r : Running) : (s.addRunning r).mem = s.mem := rfl
@[simp] theorem State.addRunning_fab (r : Running) : (s.addRunning r).fab = s.fab := rfl
@[simp] theorem State.addRunning_lanes (r : Running) : (s.addRunning r).lanes = s.lanes := rfl
@[simp] theorem State.addRunning_foms (r : Running) : (s.addRunning r).foms = s.foms := rfl
@[simp] theorem State.addRunning_prbs (r : Running) : (s.addRunning r).prbs = s.prbs := rfl
@[simp] theorem State.addRunning_quads (r : Running) : (s.addRunning r).quads = s.quads := rfl
@[simp] theorem State.addRunning_ports (r : Running) : (s.addRunning r).ports = s.ports := rfl
@[simp] theorem State.addRunning_flows (r : Running) : (s.addRunning r).flows = s.flows := rfl
@[simp] theorem State.addRunning_txs (r : Running) : (s.addRunning r).txs = s.txs := rfl
@[simp] theorem State.addRunning_layers (r : Running) : (s.addRunning r).layers = s.layers := rfl
@[simp] theorem State.addRunning_outputs (r : Running) : (s.addRunning r).outputs = s.outputs := rfl
@[simp] theorem State.addRunning_outShots (r : Running) : (s.addRunning r).outShots = s.outShots := rfl
@[simp] theorem State.addRunning_leases (r : Running) : (s.addRunning r).leases = s.leases := rfl
@[simp] theorem State.addRunning_assocs (r : Running) : (s.addRunning r).assocs = s.assocs := rfl
@[simp] theorem State.addRunning_txAudio (r : Running) : (s.addRunning r).txAudio = s.txAudio := rfl
@[simp] theorem State.addRunning_tq (r : Running) : (s.addRunning r).tq = s.tq := rfl
@[simp] theorem State.addRunning_heads (r : Running) : (s.addRunning r).heads = s.heads := rfl
@[simp] theorem State.addRunning_drivers (r : Running) : (s.addRunning r).drivers = s.drivers := rfl
@[simp] theorem State.addRunning_polls (r : Running) : (s.addRunning r).polls = s.polls := rfl
@[simp] theorem State.addRunning_rennex (r : Running) : (s.addRunning r).rennex = s.rennex := rfl
@[simp] theorem State.addRunning_pair (r : Running) : (s.addRunning r).pair = s.pair := rfl
@[simp] theorem State.addRunning_sync (r : Running) : (s.addRunning r).sync = s.sync := rfl
@[simp] theorem State.addRunning_free (r : Running) : (s.addRunning r).free = s.free := rfl
@[simp] theorem State.addRunning_answer (r : Running) : (s.addRunning r).answer = s.answer := rfl

/-! ## State.post -/

@[simp] theorem State.post_pending (c o g : Nat) (p : List Byte) : (s.post c o g p).pending = s.pending := rfl
@[simp] theorem State.post_sys (c o g : Nat) (p : List Byte) : (s.post c o g p).sys = s.sys := rfl
@[simp] theorem State.post_clocks (c o g : Nat) (p : List Byte) : (s.post c o g p).clocks = s.clocks := rfl
@[simp] theorem State.post_wind (c o g : Nat) (p : List Byte) : (s.post c o g p).wind = s.wind := rfl
@[simp] theorem State.post_power (c o g : Nat) (p : List Byte) : (s.post c o g p).power = s.power := rfl
@[simp] theorem State.post_time (c o g : Nat) (p : List Byte) : (s.post c o g p).time = s.time := rfl
@[simp] theorem State.post_timeRegs (c o g : Nat) (p : List Byte) : (s.post c o g p).timeRegs = s.timeRegs := rfl
@[simp] theorem State.post_domains (c o g : Nat) (p : List Byte) : (s.post c o g p).domains = s.domains := rfl
@[simp] theorem State.post_evtIn (c o g : Nat) (p : List Byte) : (s.post c o g p).evtIn = s.evtIn := rfl
@[simp] theorem State.post_evtOut (c o g : Nat) (p : List Byte) : (s.post c o g p).evtOut = s.evtOut := rfl
@[simp] theorem State.post_rings (c o g : Nat) (p : List Byte) : (s.post c o g p).rings = s.rings := rfl
theorem State.post_cp (c o g : Nat) (p : List Byte) : (s.post c o g p).cp = { s.cp with events := s.cp.events ++ [{ code := c, object := o, origin := g, payload := p, time := s.tp, gen := s.time.tpGen }] } := rfl
@[simp] theorem State.post_mbx (c o g : Nat) (p : List Byte) : (s.post c o g p).mbx = s.mbx := rfl
@[simp] theorem State.post_log (c o g : Nat) (p : List Byte) : (s.post c o g p).log = s.log := rfl
@[simp] theorem State.post_nvs (c o g : Nat) (p : List Byte) : (s.post c o g p).nvs = s.nvs := rfl
@[simp] theorem State.post_mem (c o g : Nat) (p : List Byte) : (s.post c o g p).mem = s.mem := rfl
@[simp] theorem State.post_fab (c o g : Nat) (p : List Byte) : (s.post c o g p).fab = s.fab := rfl
@[simp] theorem State.post_lanes (c o g : Nat) (p : List Byte) : (s.post c o g p).lanes = s.lanes := rfl
@[simp] theorem State.post_foms (c o g : Nat) (p : List Byte) : (s.post c o g p).foms = s.foms := rfl
@[simp] theorem State.post_prbs (c o g : Nat) (p : List Byte) : (s.post c o g p).prbs = s.prbs := rfl
@[simp] theorem State.post_quads (c o g : Nat) (p : List Byte) : (s.post c o g p).quads = s.quads := rfl
@[simp] theorem State.post_ports (c o g : Nat) (p : List Byte) : (s.post c o g p).ports = s.ports := rfl
@[simp] theorem State.post_flows (c o g : Nat) (p : List Byte) : (s.post c o g p).flows = s.flows := rfl
@[simp] theorem State.post_txs (c o g : Nat) (p : List Byte) : (s.post c o g p).txs = s.txs := rfl
@[simp] theorem State.post_layers (c o g : Nat) (p : List Byte) : (s.post c o g p).layers = s.layers := rfl
@[simp] theorem State.post_outputs (c o g : Nat) (p : List Byte) : (s.post c o g p).outputs = s.outputs := rfl
@[simp] theorem State.post_outShots (c o g : Nat) (p : List Byte) : (s.post c o g p).outShots = s.outShots := rfl
@[simp] theorem State.post_leases (c o g : Nat) (p : List Byte) : (s.post c o g p).leases = s.leases := rfl
@[simp] theorem State.post_assocs (c o g : Nat) (p : List Byte) : (s.post c o g p).assocs = s.assocs := rfl
@[simp] theorem State.post_txAudio (c o g : Nat) (p : List Byte) : (s.post c o g p).txAudio = s.txAudio := rfl
@[simp] theorem State.post_tq (c o g : Nat) (p : List Byte) : (s.post c o g p).tq = s.tq := rfl
@[simp] theorem State.post_heads (c o g : Nat) (p : List Byte) : (s.post c o g p).heads = s.heads := rfl
@[simp] theorem State.post_drivers (c o g : Nat) (p : List Byte) : (s.post c o g p).drivers = s.drivers := rfl
@[simp] theorem State.post_polls (c o g : Nat) (p : List Byte) : (s.post c o g p).polls = s.polls := rfl
@[simp] theorem State.post_rennex (c o g : Nat) (p : List Byte) : (s.post c o g p).rennex = s.rennex := rfl
@[simp] theorem State.post_pair (c o g : Nat) (p : List Byte) : (s.post c o g p).pair = s.pair := rfl
@[simp] theorem State.post_sync (c o g : Nat) (p : List Byte) : (s.post c o g p).sync = s.sync := rfl
@[simp] theorem State.post_free (c o g : Nat) (p : List Byte) : (s.post c o g p).free = s.free := rfl
@[simp] theorem State.post_answer (c o g : Nat) (p : List Byte) : (s.post c o g p).answer = s.answer := rfl

/-! ## State.drawNat -/

@[simp] theorem State.drawNat_pending : s.drawNat.2.pending = s.pending := rfl
@[simp] theorem State.drawNat_sys : s.drawNat.2.sys = s.sys := rfl
@[simp] theorem State.drawNat_clocks : s.drawNat.2.clocks = s.clocks := rfl
@[simp] theorem State.drawNat_wind : s.drawNat.2.wind = s.wind := rfl
@[simp] theorem State.drawNat_power : s.drawNat.2.power = s.power := rfl
@[simp] theorem State.drawNat_time : s.drawNat.2.time = s.time := rfl
@[simp] theorem State.drawNat_timeRegs : s.drawNat.2.timeRegs = s.timeRegs := rfl
@[simp] theorem State.drawNat_domains : s.drawNat.2.domains = s.domains := rfl
@[simp] theorem State.drawNat_evtIn : s.drawNat.2.evtIn = s.evtIn := rfl
@[simp] theorem State.drawNat_evtOut : s.drawNat.2.evtOut = s.evtOut := rfl
@[simp] theorem State.drawNat_rings : s.drawNat.2.rings = s.rings := rfl
@[simp] theorem State.drawNat_cp : s.drawNat.2.cp = s.cp := rfl
@[simp] theorem State.drawNat_mbx : s.drawNat.2.mbx = s.mbx := rfl
@[simp] theorem State.drawNat_log : s.drawNat.2.log = s.log := rfl
@[simp] theorem State.drawNat_nvs : s.drawNat.2.nvs = s.nvs := rfl
@[simp] theorem State.drawNat_mem : s.drawNat.2.mem = s.mem := rfl
@[simp] theorem State.drawNat_fab : s.drawNat.2.fab = s.fab := rfl
@[simp] theorem State.drawNat_lanes : s.drawNat.2.lanes = s.lanes := rfl
@[simp] theorem State.drawNat_foms : s.drawNat.2.foms = s.foms := rfl
@[simp] theorem State.drawNat_prbs : s.drawNat.2.prbs = s.prbs := rfl
@[simp] theorem State.drawNat_quads : s.drawNat.2.quads = s.quads := rfl
@[simp] theorem State.drawNat_ports : s.drawNat.2.ports = s.ports := rfl
@[simp] theorem State.drawNat_flows : s.drawNat.2.flows = s.flows := rfl
@[simp] theorem State.drawNat_txs : s.drawNat.2.txs = s.txs := rfl
@[simp] theorem State.drawNat_layers : s.drawNat.2.layers = s.layers := rfl
@[simp] theorem State.drawNat_outputs : s.drawNat.2.outputs = s.outputs := rfl
@[simp] theorem State.drawNat_outShots : s.drawNat.2.outShots = s.outShots := rfl
@[simp] theorem State.drawNat_leases : s.drawNat.2.leases = s.leases := rfl
@[simp] theorem State.drawNat_assocs : s.drawNat.2.assocs = s.assocs := rfl
@[simp] theorem State.drawNat_txAudio : s.drawNat.2.txAudio = s.txAudio := rfl
@[simp] theorem State.drawNat_tq : s.drawNat.2.tq = s.tq := rfl
@[simp] theorem State.drawNat_heads : s.drawNat.2.heads = s.heads := rfl
@[simp] theorem State.drawNat_drivers : s.drawNat.2.drivers = s.drivers := rfl
@[simp] theorem State.drawNat_polls : s.drawNat.2.polls = s.polls := rfl
@[simp] theorem State.drawNat_rennex : s.drawNat.2.rennex = s.rennex := rfl
@[simp] theorem State.drawNat_pair : s.drawNat.2.pair = s.pair := rfl
@[simp] theorem State.drawNat_sync : s.drawNat.2.sync = s.sync := rfl
theorem State.drawNat_free : s.drawNat.2.free = s.free + 1 := rfl
@[simp] theorem State.drawNat_answer : s.drawNat.2.answer = s.answer := rfl

/-! ## State.drawInt -/

@[simp] theorem State.drawInt_pending : s.drawInt.2.pending = s.pending := rfl
@[simp] theorem State.drawInt_sys : s.drawInt.2.sys = s.sys := rfl
@[simp] theorem State.drawInt_clocks : s.drawInt.2.clocks = s.clocks := rfl
@[simp] theorem State.drawInt_wind : s.drawInt.2.wind = s.wind := rfl
@[simp] theorem State.drawInt_power : s.drawInt.2.power = s.power := rfl
@[simp] theorem State.drawInt_time : s.drawInt.2.time = s.time := rfl
@[simp] theorem State.drawInt_timeRegs : s.drawInt.2.timeRegs = s.timeRegs := rfl
@[simp] theorem State.drawInt_domains : s.drawInt.2.domains = s.domains := rfl
@[simp] theorem State.drawInt_evtIn : s.drawInt.2.evtIn = s.evtIn := rfl
@[simp] theorem State.drawInt_evtOut : s.drawInt.2.evtOut = s.evtOut := rfl
@[simp] theorem State.drawInt_rings : s.drawInt.2.rings = s.rings := rfl
@[simp] theorem State.drawInt_cp : s.drawInt.2.cp = s.cp := rfl
@[simp] theorem State.drawInt_mbx : s.drawInt.2.mbx = s.mbx := rfl
@[simp] theorem State.drawInt_log : s.drawInt.2.log = s.log := rfl
@[simp] theorem State.drawInt_nvs : s.drawInt.2.nvs = s.nvs := rfl
@[simp] theorem State.drawInt_mem : s.drawInt.2.mem = s.mem := rfl
@[simp] theorem State.drawInt_fab : s.drawInt.2.fab = s.fab := rfl
@[simp] theorem State.drawInt_lanes : s.drawInt.2.lanes = s.lanes := rfl
@[simp] theorem State.drawInt_foms : s.drawInt.2.foms = s.foms := rfl
@[simp] theorem State.drawInt_prbs : s.drawInt.2.prbs = s.prbs := rfl
@[simp] theorem State.drawInt_quads : s.drawInt.2.quads = s.quads := rfl
@[simp] theorem State.drawInt_ports : s.drawInt.2.ports = s.ports := rfl
@[simp] theorem State.drawInt_flows : s.drawInt.2.flows = s.flows := rfl
@[simp] theorem State.drawInt_txs : s.drawInt.2.txs = s.txs := rfl
@[simp] theorem State.drawInt_layers : s.drawInt.2.layers = s.layers := rfl
@[simp] theorem State.drawInt_outputs : s.drawInt.2.outputs = s.outputs := rfl
@[simp] theorem State.drawInt_outShots : s.drawInt.2.outShots = s.outShots := rfl
@[simp] theorem State.drawInt_leases : s.drawInt.2.leases = s.leases := rfl
@[simp] theorem State.drawInt_assocs : s.drawInt.2.assocs = s.assocs := rfl
@[simp] theorem State.drawInt_txAudio : s.drawInt.2.txAudio = s.txAudio := rfl
@[simp] theorem State.drawInt_tq : s.drawInt.2.tq = s.tq := rfl
@[simp] theorem State.drawInt_heads : s.drawInt.2.heads = s.heads := rfl
@[simp] theorem State.drawInt_drivers : s.drawInt.2.drivers = s.drivers := rfl
@[simp] theorem State.drawInt_polls : s.drawInt.2.polls = s.polls := rfl
@[simp] theorem State.drawInt_rennex : s.drawInt.2.rennex = s.rennex := rfl
@[simp] theorem State.drawInt_pair : s.drawInt.2.pair = s.pair := rfl
@[simp] theorem State.drawInt_sync : s.drawInt.2.sync = s.sync := rfl
theorem State.drawInt_free : s.drawInt.2.free = s.free + 1 := rfl
@[simp] theorem State.drawInt_answer : s.drawInt.2.answer = s.answer := rfl

end Sys2Proof.Machine
end

