-- ==== Sys2Proof/Laws/Within.lean ====
section
/-! SUPPORT. What it is that an operation changes at most the parts of a mask, and the rules to show it; bit i of a mask is part i of Safety.Part. -/

namespace Sys2Proof.Machine

open Sys2Proof.Laws Sys2Proof.Safety

/-- From `s` to `t` no part changes but those whose bits stand in the mask. -/
def Within (P : Nat) (s t : State) : Prop := ∀ p : Part, P.testBit p.ctorIdx = true ∨ p.same s t

/-- Every next state of an outcome lies within the mask. -/
def WithinO (P : Nat) (s : State) (o : Host.Outcome State Fault Refusal) : Prop := ∀ t, o = .next t → Within P s t

theorem same_rfl (p : Part) (s : State) : p.same s s := by cases p <;> rfl

theorem same_trans {p : Part} {s t u : State} (h : p.same s t) (g : p.same t u) : p.same s u := by
  cases p <;> exact Eq.trans g h

theorem within_rfl {P : Nat} {s : State} : Within P s s := fun p => .inr (same_rfl p s)

theorem withinO_next {P : Nat} {s t : State} (h : Within P s t) : WithinO P s (.next t) := fun _ e => by cases e; exact h

/-- A mask inside a mask inside a mask. -/
theorem land_sub {P M N : Nat} (q : P &&& M = M) (r : M &&& N = N) : P &&& N = N := by
  rw [← r, ← Nat.and_assoc, q]

theorem testBit_sub {P M i : Nat} (q : P &&& M = M) (h : M.testBit i = true) : P.testBit i = true := by
  rw [← q, Nat.testBit_and] at h
  exact (Bool.and_eq_true _ _ ▸ h).1

/-- A mask may grow. -/
theorem within_mono {P M : Nat} {s t : State} (q : P &&& M = M) (h : Within M s t) : Within P s t :=
  fun p => (h p).imp (testBit_sub q) id

/-- Every part stands in the mask or is untouched, part by part. -/
def Untouched (M : Nat) (s t : State) : Prop :=
  (M.testBit 0 = true ∨ Part.same .queue s t) ∧ (M.testBit 1 = true ∨ Part.same .sys s t) ∧ (M.testBit 2 = true ∨ Part.same .clocks s t) ∧
    (M.testBit 3 = true ∨ Part.same .wind s t) ∧ (M.testBit 4 = true ∨ Part.same .power s t) ∧ (M.testBit 5 = true ∨ Part.same .yoyo s t) ∧
    (M.testBit 6 = true ∨ Part.same .time s t) ∧ (M.testBit 7 = true ∨ Part.same .timeRegs s t) ∧ (M.testBit 8 = true ∨ Part.same .domains s t) ∧
    (M.testBit 9 = true ∨ Part.same .evtIn s t) ∧ (M.testBit 10 = true ∨ Part.same .evtOut s t) ∧ (M.testBit 11 = true ∨ Part.same .rings s t) ∧
    (M.testBit 12 = true ∨ Part.same .acceptNo s t) ∧ (M.testBit 13 = true ∨ Part.same .replies s t) ∧
    (M.testBit 14 = true ∨ Part.same .events s t) ∧ (M.testBit 15 = true ∨ Part.same .waiting s t) ∧ (M.testBit 16 = true ∨ Part.same .cp s t) ∧
    (M.testBit 17 = true ∨ Part.same .mbx s t) ∧ (M.testBit 18 = true ∨ Part.same .log s t) ∧ (M.testBit 19 = true ∨ Part.same .nvsCells s t) ∧
    (M.testBit 20 = true ∨ Part.same .nvs s t) ∧ (M.testBit 21 = true ∨ Part.same .store s t) ∧ (M.testBit 22 = true ∨ Part.same .sram s t) ∧
    (M.testBit 23 = true ∨ Part.same .aon s t) ∧ (M.testBit 24 = true ∨ Part.same .memory s t) ∧ (M.testBit 25 = true ∨ Part.same .fab s t) ∧
    (M.testBit 26 = true ∨ Part.same .lanes s t) ∧ (M.testBit 27 = true ∨ Part.same .foms s t) ∧ (M.testBit 28 = true ∨ Part.same .prbs s t) ∧
    (M.testBit 29 = true ∨ Part.same .quads s t) ∧ (M.testBit 30 = true ∨ Part.same .ports s t) ∧ (M.testBit 31 = true ∨ Part.same .flows s t) ∧
    (M.testBit 32 = true ∨ Part.same .txs s t) ∧ (M.testBit 33 = true ∨ Part.same .layers s t) ∧ (M.testBit 34 = true ∨ Part.same .outputs s t) ∧
    (M.testBit 35 = true ∨ Part.same .outShots s t) ∧ (M.testBit 36 = true ∨ Part.same .leases s t) ∧
    (M.testBit 37 = true ∨ Part.same .assocs s t) ∧ (M.testBit 38 = true ∨ Part.same .txAudio s t) ∧ (M.testBit 39 = true ∨ Part.same .tq s t) ∧
    (M.testBit 40 = true ∨ Part.same .heads s t) ∧ (M.testBit 41 = true ∨ Part.same .drivers s t) ∧ (M.testBit 42 = true ∨ Part.same .polls s t) ∧
    (M.testBit 43 = true ∨ Part.same .rennex s t) ∧ (M.testBit 44 = true ∨ Part.same .pair s t) ∧ (M.testBit 45 = true ∨ Part.same .sync s t) ∧
    (M.testBit 46 = true ∨ Part.same .free s t) ∧ (M.testBit 47 = true ∨ Part.same .answer s t)

theorem untouched_part {M : Nat} {s t : State} (h : Untouched M s t) (p : Part) : M.testBit p.ctorIdx = true ∨ p.same s t := by
  obtain ⟨h0, h1, h2, h3, h4, h5, h6, h7, h8, h9, h10, h11, h12, h13, h14, h15, h16, h17, h18, h19, h20, h21, h22, h23, h24, h25, h26, h27, h28, h29, h30, h31, h32, h33, h34, h35, h36, h37, h38, h39, h40, h41, h42, h43, h44, h45, h46, h47⟩ := h
  cases p <;> assumption

/-- A change of the parts of a mask, after what lies within a greater mask. -/
theorem within_mk {P M : Nat} {s x t : State} (q : P &&& M = M) (h : Within P s x) 
    (e : Untouched M x t) : Within P s t := fun p =>
  (untouched_part e p).elim (fun b => .inl (testBit_sub q b)) (fun w => (h p).imp id (fun v => same_trans v w))

theorem within_ite {P : Nat} {s a b : State} {c : Prop} [Decidable c] (ha : c → Within P s a) (hb : ¬c → Within P s b) :
    Within P s (if c then a else b) := by
  split <;> rename_i h
  · exact ha h
  · exact hb h

theorem within_pos {P : Nat} {s a b : State} {c : Prop} [Decidable c] (h : c) (ha : Within P s a) : Within P s (if c then a else b) := by
  rw [if_pos h]; exact ha

theorem within_neg {P : Nat} {s a b : State} {c : Prop} [Decidable c] (h : ¬c) (hb : Within P s b) : Within P s (if c then a else b) := by
  rw [if_neg h]; exact hb

theorem within_foldl {β : Type} {P : Nat} {s : State} {f : State → β → State} {l : List β} {i : State}
    (hf : ∀ a x, Within P s a → Within P s (f a x)) (hi : Within P s i) : Within P s (l.foldl f i) := by
  induction l generalizing i with
  | nil => exact hi
  | cons x r ih => exact ih (hf i x hi)

theorem within_cp_waiting {P s x v_cp} (q : P &&& 32768 = 32768) (h : Within P s x)
    (e1 : (({ v_cp with acceptNo := 0, replies := [], events := [], launch := [], procs := [], running := [] } : CmdProc)) = ({ x.cp with
        acceptNo := 0, replies := [], events := [], launch := [], procs := [], running := [] } : CmdProc))
    (e2 : (v_cp.acceptNo) = x.cp.acceptNo)
    (e3 : (v_cp.replies) = x.cp.replies)
    (e4 : (v_cp.events) = x.cp.events) :
    Within P s ({ x with cp := v_cp } : State) :=
  within_mk q h ⟨.inr rfl, .inr rfl, .inr rfl, .inr rfl, .inr rfl, .inr rfl, .inr rfl, .inr rfl, .inr rfl, .inr rfl, .inr rfl, .inr rfl, .inr
      e2, .inr e3, .inr e4, .inl rfl, .inr e1, .inr rfl, .inr rfl, .inr rfl, .inr rfl, .inr rfl, .inr rfl, .inr rfl, .inr rfl, .inr rfl, .inr
      rfl, .inr rfl, .inr rfl, .inr rfl, .inr rfl, .inr rfl, .inr rfl, .inr rfl, .inr rfl, .inr rfl, .inr rfl, .inr rfl, .inr rfl, .inr rfl,
      .inr rfl, .inr rfl, .inr rfl, .inr rfl, .inr rfl, .inr rfl, .inr rfl, .inr rfl⟩

theorem within_cp_events {P s x v_cp} (q : P &&& 16384 = 16384) (h : Within P s x)
    (e1 : (({ v_cp with acceptNo := 0, replies := [], events := [], launch := [], procs := [], running := [] } : CmdProc)) = ({ x.cp with
        acceptNo := 0, replies := [], events := [], launch := [], procs := [], running := [] } : CmdProc))
    (e2 : (v_cp.acceptNo) = x.cp.acceptNo)
    (e3 : (v_cp.replies) = x.cp.replies)
    (e4 : ((v_cp.launch, v_cp.procs, v_cp.running)) = (x.cp.launch, x.cp.procs, x.cp.running)) :
    Within P s ({ x with cp := v_cp } : State) :=
  within_mk q h ⟨.inr rfl, .inr rfl, .inr rfl, .inr rfl, .inr rfl, .inr rfl, .inr rfl, .inr rfl, .inr rfl, .inr rfl, .inr rfl, .inr rfl, .inr
      e2, .inr e3, .inl rfl, .inr e4, .inr e1, .inr rfl, .inr rfl, .inr rfl, .inr rfl, .inr rfl, .inr rfl, .inr rfl, .inr rfl, .inr rfl, .inr
      rfl, .inr rfl, .inr rfl, .inr rfl, .inr rfl, .inr rfl, .inr rfl, .inr rfl, .inr rfl, .inr rfl, .inr rfl, .inr rfl, .inr rfl, .inr rfl,
      .inr rfl, .inr rfl, .inr rfl, .inr rfl, .inr rfl, .inr rfl, .inr rfl, .inr rfl⟩

theorem within_pair {P s x v_pair} (q : P &&& 17592186044416 = 17592186044416) (h : Within P s x) :
    Within P s ({ x with pair := v_pair } : State) :=
  within_mk q h ⟨.inr rfl, .inr rfl, .inr rfl, .inr rfl, .inr rfl, .inr rfl, .inr rfl, .inr rfl, .inr rfl, .inr rfl, .inr rfl, .inr rfl, .inr
      rfl, .inr rfl, .inr rfl, .inr rfl, .inr rfl, .inr rfl, .inr rfl, .inr rfl, .inr rfl, .inr rfl, .inr rfl, .inr rfl, .inr rfl, .inr rfl,
      .inr rfl, .inr rfl, .inr rfl, .inr rfl, .inr rfl, .inr rfl, .inr rfl, .inr rfl, .inr rfl, .inr rfl, .inr rfl, .inr rfl, .inr rfl, .inr
      rfl, .inr rfl, .inr rfl, .inr rfl, .inr rfl, .inl rfl, .inr rfl, .inr rfl, .inr rfl⟩

theorem within_cp_replies {P s x v_cp} (q : P &&& 8192 = 8192) (h : Within P s x)
    (e1 : (({ v_cp with acceptNo := 0, replies := [], events := [], launch := [], procs := [], running := [] } : CmdProc)) = ({ x.cp with
        acceptNo := 0, replies := [], events := [], launch := [], procs := [], running := [] } : CmdProc))
    (e2 : (v_cp.acceptNo) = x.cp.acceptNo)
    (e3 : (v_cp.events) = x.cp.events)
    (e4 : ((v_cp.launch, v_cp.procs, v_cp.running)) = (x.cp.launch, x.cp.procs, x.cp.running)) :
    Within P s ({ x with cp := v_cp } : State) :=
  within_mk q h ⟨.inr rfl, .inr rfl, .inr rfl, .inr rfl, .inr rfl, .inr rfl, .inr rfl, .inr rfl, .inr rfl, .inr rfl, .inr rfl, .inr rfl, .inr
      e2, .inl rfl, .inr e3, .inr e4, .inr e1, .inr rfl, .inr rfl, .inr rfl, .inr rfl, .inr rfl, .inr rfl, .inr rfl, .inr rfl, .inr rfl, .inr
      rfl, .inr rfl, .inr rfl, .inr rfl, .inr rfl, .inr rfl, .inr rfl, .inr rfl, .inr rfl, .inr rfl, .inr rfl, .inr rfl, .inr rfl, .inr rfl,
      .inr rfl, .inr rfl, .inr rfl, .inr rfl, .inr rfl, .inr rfl, .inr rfl, .inr rfl⟩

theorem within_cp_acceptNo {P s x v_cp} (q : P &&& 4096 = 4096) (h : Within P s x)
    (e1 : (({ v_cp with acceptNo := 0, replies := [], events := [], launch := [], procs := [], running := [] } : CmdProc)) = ({ x.cp with
        acceptNo := 0, replies := [], events := [], launch := [], procs := [], running := [] } : CmdProc))
    (e2 : (v_cp.replies) = x.cp.replies)
    (e3 : (v_cp.events) = x.cp.events)
    (e4 : ((v_cp.launch, v_cp.procs, v_cp.running)) = (x.cp.launch, x.cp.procs, x.cp.running)) :
    Within P s ({ x with cp := v_cp } : State) :=
  within_mk q h ⟨.inr rfl, .inr rfl, .inr rfl, .inr rfl, .inr rfl, .inr rfl, .inr rfl, .inr rfl, .inr rfl, .inr rfl, .inr rfl, .inr rfl, .inl
      rfl, .inr e2, .inr e3, .inr e4, .inr e1, .inr rfl, .inr rfl, .inr rfl, .inr rfl, .inr rfl, .inr rfl, .inr rfl, .inr rfl, .inr rfl, .inr
      rfl, .inr rfl, .inr rfl, .inr rfl, .inr rfl, .inr rfl, .inr rfl, .inr rfl, .inr rfl, .inr rfl, .inr rfl, .inr rfl, .inr rfl, .inr rfl,
      .inr rfl, .inr rfl, .inr rfl, .inr rfl, .inr rfl, .inr rfl, .inr rfl, .inr rfl⟩

theorem within_cp_cp {P s x v_cp} (q : P &&& 65536 = 65536) (h : Within P s x)
    (e1 : (v_cp.acceptNo) = x.cp.acceptNo)
    (e2 : (v_cp.replies) = x.cp.replies)
    (e3 : (v_cp.events) = x.cp.events)
    (e4 : ((v_cp.launch, v_cp.procs, v_cp.running)) = (x.cp.launch, x.cp.procs, x.cp.running)) :
    Within P s ({ x with cp := v_cp } : State) :=
  within_mk q h ⟨.inr rfl, .inr rfl, .inr rfl, .inr rfl, .inr rfl, .inr rfl, .inr rfl, .inr rfl, .inr rfl, .inr rfl, .inr rfl, .inr rfl, .inr
      e1, .inr e2, .inr e3, .inr e4, .inl rfl, .inr rfl, .inr rfl, .inr rfl, .inr rfl, .inr rfl, .inr rfl, .inr rfl, .inr rfl, .inr rfl, .inr
      rfl, .inr rfl, .inr rfl, .inr rfl, .inr rfl, .inr rfl, .inr rfl, .inr rfl, .inr rfl, .inr rfl, .inr rfl, .inr rfl, .inr rfl, .inr rfl,
      .inr rfl, .inr rfl, .inr rfl, .inr rfl, .inr rfl, .inr rfl, .inr rfl, .inr rfl⟩

theorem within_heads {P s x v_heads} (q : P &&& 1099511627776 = 1099511627776) (h : Within P s x) :
    Within P s ({ x with heads := v_heads } : State) :=
  within_mk q h ⟨.inr rfl, .inr rfl, .inr rfl, .inr rfl, .inr rfl, .inr rfl, .inr rfl, .inr rfl, .inr rfl, .inr rfl, .inr rfl, .inr rfl, .inr
      rfl, .inr rfl, .inr rfl, .inr rfl, .inr rfl, .inr rfl, .inr rfl, .inr rfl, .inr rfl, .inr rfl, .inr rfl, .inr rfl, .inr rfl, .inr rfl,
      .inr rfl, .inr rfl, .inr rfl, .inr rfl, .inr rfl, .inr rfl, .inr rfl, .inr rfl, .inr rfl, .inr rfl, .inr rfl, .inr rfl, .inr rfl, .inr
      rfl, .inl rfl, .inr rfl, .inr rfl, .inr rfl, .inr rfl, .inr rfl, .inr rfl, .inr rfl⟩

theorem within_mem_store {P s x v_mem} (q : P &&& 2097152 = 2097152) (h : Within P s x)
    (e1 : ({ v_mem with store := [], sram := [], aon := [] } : Mem) = { x.mem with store := [], sram := [], aon := [] })
    (e2 : (v_mem.sram) = x.mem.sram)
    (e3 : (v_mem.aon) = x.mem.aon) :
    Within P s ({ x with mem := v_mem } : State) :=
  within_mk q h ⟨.inr rfl, .inr rfl, .inr rfl, .inr rfl, .inr rfl, .inr rfl, .inr rfl, .inr rfl, .inr rfl, .inr rfl, .inr rfl, .inr rfl, .inr
      rfl, .inr rfl, .inr rfl, .inr rfl, .inr rfl, .inr rfl, .inr rfl, .inr rfl, .inr rfl, .inl rfl, .inr e2, .inr e3, .inr e1, .inr rfl, .inr
      rfl, .inr rfl, .inr rfl, .inr rfl, .inr rfl, .inr rfl, .inr rfl, .inr rfl, .inr rfl, .inr rfl, .inr rfl, .inr rfl, .inr rfl, .inr rfl,
      .inr rfl, .inr rfl, .inr rfl, .inr rfl, .inr rfl, .inr rfl, .inr rfl, .inr rfl⟩

theorem within_mem_memory {P s x v_mem} (q : P &&& 16777216 = 16777216) (h : Within P s x)
    (e1 : (v_mem.store) = x.mem.store)
    (e2 : (v_mem.sram) = x.mem.sram)
    (e3 : (v_mem.aon) = x.mem.aon) :
    Within P s ({ x with mem := v_mem } : State) :=
  within_mk q h ⟨.inr rfl, .inr rfl, .inr rfl, .inr rfl, .inr rfl, .inr rfl, .inr rfl, .inr rfl, .inr rfl, .inr rfl, .inr rfl, .inr rfl, .inr
      rfl, .inr rfl, .inr rfl, .inr rfl, .inr rfl, .inr rfl, .inr rfl, .inr rfl, .inr rfl, .inr e1, .inr e2, .inr e3, .inl rfl, .inr rfl, .inr
      rfl, .inr rfl, .inr rfl, .inr rfl, .inr rfl, .inr rfl, .inr rfl, .inr rfl, .inr rfl, .inr rfl, .inr rfl, .inr rfl, .inr rfl, .inr rfl,
      .inr rfl, .inr rfl, .inr rfl, .inr rfl, .inr rfl, .inr rfl, .inr rfl, .inr rfl⟩

theorem within_leases {P s x v_leases} (q : P &&& 68719476736 = 68719476736) (h : Within P s x) :
    Within P s ({ x with leases := v_leases } : State) :=
  within_mk q h ⟨.inr rfl, .inr rfl, .inr rfl, .inr rfl, .inr rfl, .inr rfl, .inr rfl, .inr rfl, .inr rfl, .inr rfl, .inr rfl, .inr rfl, .inr
      rfl, .inr rfl, .inr rfl, .inr rfl, .inr rfl, .inr rfl, .inr rfl, .inr rfl, .inr rfl, .inr rfl, .inr rfl, .inr rfl, .inr rfl, .inr rfl,
      .inr rfl, .inr rfl, .inr rfl, .inr rfl, .inr rfl, .inr rfl, .inr rfl, .inr rfl, .inr rfl, .inr rfl, .inl rfl, .inr rfl, .inr rfl, .inr
      rfl, .inr rfl, .inr rfl, .inr rfl, .inr rfl, .inr rfl, .inr rfl, .inr rfl, .inr rfl⟩

theorem within_tq {P s x v_tq} (q : P &&& 549755813888 = 549755813888) (h : Within P s x) :
    Within P s ({ x with tq := v_tq } : State) :=
  within_mk q h ⟨.inr rfl, .inr rfl, .inr rfl, .inr rfl, .inr rfl, .inr rfl, .inr rfl, .inr rfl, .inr rfl, .inr rfl, .inr rfl, .inr rfl, .inr
      rfl, .inr rfl, .inr rfl, .inr rfl, .inr rfl, .inr rfl, .inr rfl, .inr rfl, .inr rfl, .inr rfl, .inr rfl, .inr rfl, .inr rfl, .inr rfl,
      .inr rfl, .inr rfl, .inr rfl, .inr rfl, .inr rfl, .inr rfl, .inr rfl, .inr rfl, .inr rfl, .inr rfl, .inr rfl, .inr rfl, .inr rfl, .inl
      rfl, .inr rfl, .inr rfl, .inr rfl, .inr rfl, .inr rfl, .inr rfl, .inr rfl, .inr rfl⟩

theorem within_flows {P s x v_flows} (q : P &&& 2147483648 = 2147483648) (h : Within P s x) :
    Within P s ({ x with flows := v_flows } : State) :=
  within_mk q h ⟨.inr rfl, .inr rfl, .inr rfl, .inr rfl, .inr rfl, .inr rfl, .inr rfl, .inr rfl, .inr rfl, .inr rfl, .inr rfl, .inr rfl, .inr
      rfl, .inr rfl, .inr rfl, .inr rfl, .inr rfl, .inr rfl, .inr rfl, .inr rfl, .inr rfl, .inr rfl, .inr rfl, .inr rfl, .inr rfl, .inr rfl,
      .inr rfl, .inr rfl, .inr rfl, .inr rfl, .inr rfl, .inl rfl, .inr rfl, .inr rfl, .inr rfl, .inr rfl, .inr rfl, .inr rfl, .inr rfl, .inr
      rfl, .inr rfl, .inr rfl, .inr rfl, .inr rfl, .inr rfl, .inr rfl, .inr rfl, .inr rfl⟩

theorem within_sys {P s x v_sys} (q : P &&& 2 = 2) (h : Within P s x) :
    Within P s ({ x with sys := v_sys } : State) :=
  within_mk q h ⟨.inr rfl, .inl rfl, .inr rfl, .inr rfl, .inr rfl, .inr rfl, .inr rfl, .inr rfl, .inr rfl, .inr rfl, .inr rfl, .inr rfl, .inr
      rfl, .inr rfl, .inr rfl, .inr rfl, .inr rfl, .inr rfl, .inr rfl, .inr rfl, .inr rfl, .inr rfl, .inr rfl, .inr rfl, .inr rfl, .inr rfl,
      .inr rfl, .inr rfl, .inr rfl, .inr rfl, .inr rfl, .inr rfl, .inr rfl, .inr rfl, .inr rfl, .inr rfl, .inr rfl, .inr rfl, .inr rfl, .inr
      rfl, .inr rfl, .inr rfl, .inr rfl, .inr rfl, .inr rfl, .inr rfl, .inr rfl, .inr rfl⟩

theorem within_cp_replies_pair_sync {P s x v_cp v_pair v_sync} (q : P &&& 52776558141440 = 52776558141440) (h : Within P s x)
    (e1 : (({ v_cp with acceptNo := 0, replies := [], events := [], launch := [], procs := [], running := [] } : CmdProc)) = ({ x.cp with
        acceptNo := 0, replies := [], events := [], launch := [], procs := [], running := [] } : CmdProc))
    (e2 : (v_cp.acceptNo) = x.cp.acceptNo)
    (e3 : (v_cp.events) = x.cp.events)
    (e4 : ((v_cp.launch, v_cp.procs, v_cp.running)) = (x.cp.launch, x.cp.procs, x.cp.running)) :
    Within P s ({ x with cp := v_cp, pair := v_pair, sync := v_sync } : State) :=
  within_mk q h ⟨.inr rfl, .inr rfl, .inr rfl, .inr rfl, .inr rfl, .inr rfl, .inr rfl, .inr rfl, .inr rfl, .inr rfl, .inr rfl, .inr rfl, .inr
      e2, .inl rfl, .inr e3, .inr e4, .inr e1, .inr rfl, .inr rfl, .inr rfl, .inr rfl, .inr rfl, .inr rfl, .inr rfl, .inr rfl, .inr rfl, .inr
      rfl, .inr rfl, .inr rfl, .inr rfl, .inr rfl, .inr rfl, .inr rfl, .inr rfl, .inr rfl, .inr rfl, .inr rfl, .inr rfl, .inr rfl, .inr rfl,
      .inr rfl, .inr rfl, .inr rfl, .inr rfl, .inl rfl, .inl rfl, .inr rfl, .inr rfl⟩

theorem within_nvs_nvs {P s x v_nvs} (q : P &&& 1048576 = 1048576) (h : Within P s x)
    (e1 : (v_nvs.cells) = x.nvs.cells) :
    Within P s ({ x with nvs := v_nvs } : State) :=
  within_mk q h ⟨.inr rfl, .inr rfl, .inr rfl, .inr rfl, .inr rfl, .inr rfl, .inr rfl, .inr rfl, .inr rfl, .inr rfl, .inr rfl, .inr rfl, .inr
      rfl, .inr rfl, .inr rfl, .inr rfl, .inr rfl, .inr rfl, .inr rfl, .inr e1, .inl rfl, .inr rfl, .inr rfl, .inr rfl, .inr rfl, .inr rfl, .inr
      rfl, .inr rfl, .inr rfl, .inr rfl, .inr rfl, .inr rfl, .inr rfl, .inr rfl, .inr rfl, .inr rfl, .inr rfl, .inr rfl, .inr rfl, .inr rfl,
      .inr rfl, .inr rfl, .inr rfl, .inr rfl, .inr rfl, .inr rfl, .inr rfl, .inr rfl⟩

theorem within_domains {P s x v_domains} (q : P &&& 256 = 256) (h : Within P s x) :
    Within P s ({ x with domains := v_domains } : State) :=
  within_mk q h ⟨.inr rfl, .inr rfl, .inr rfl, .inr rfl, .inr rfl, .inr rfl, .inr rfl, .inr rfl, .inl rfl, .inr rfl, .inr rfl, .inr rfl, .inr
      rfl, .inr rfl, .inr rfl, .inr rfl, .inr rfl, .inr rfl, .inr rfl, .inr rfl, .inr rfl, .inr rfl, .inr rfl, .inr rfl, .inr rfl, .inr rfl,
      .inr rfl, .inr rfl, .inr rfl, .inr rfl, .inr rfl, .inr rfl, .inr rfl, .inr rfl, .inr rfl, .inr rfl, .inr rfl, .inr rfl, .inr rfl, .inr
      rfl, .inr rfl, .inr rfl, .inr rfl, .inr rfl, .inr rfl, .inr rfl, .inr rfl, .inr rfl⟩

theorem within_time {P s x v_time} (q : P &&& 64 = 64) (h : Within P s x) :
    Within P s ({ x with time := v_time } : State) :=
  within_mk q h ⟨.inr rfl, .inr rfl, .inr rfl, .inr rfl, .inr rfl, .inr rfl, .inl rfl, .inr rfl, .inr rfl, .inr rfl, .inr rfl, .inr rfl, .inr
      rfl, .inr rfl, .inr rfl, .inr rfl, .inr rfl, .inr rfl, .inr rfl, .inr rfl, .inr rfl, .inr rfl, .inr rfl, .inr rfl, .inr rfl, .inr rfl,
      .inr rfl, .inr rfl, .inr rfl, .inr rfl, .inr rfl, .inr rfl, .inr rfl, .inr rfl, .inr rfl, .inr rfl, .inr rfl, .inr rfl, .inr rfl, .inr
      rfl, .inr rfl, .inr rfl, .inr rfl, .inr rfl, .inr rfl, .inr rfl, .inr rfl, .inr rfl⟩

theorem within_timeRegs {P s x v_timeRegs} (q : P &&& 128 = 128) (h : Within P s x) :
    Within P s ({ x with timeRegs := v_timeRegs } : State) :=
  within_mk q h ⟨.inr rfl, .inr rfl, .inr rfl, .inr rfl, .inr rfl, .inr rfl, .inr rfl, .inl rfl, .inr rfl, .inr rfl, .inr rfl, .inr rfl, .inr
      rfl, .inr rfl, .inr rfl, .inr rfl, .inr rfl, .inr rfl, .inr rfl, .inr rfl, .inr rfl, .inr rfl, .inr rfl, .inr rfl, .inr rfl, .inr rfl,
      .inr rfl, .inr rfl, .inr rfl, .inr rfl, .inr rfl, .inr rfl, .inr rfl, .inr rfl, .inr rfl, .inr rfl, .inr rfl, .inr rfl, .inr rfl, .inr
      rfl, .inr rfl, .inr rfl, .inr rfl, .inr rfl, .inr rfl, .inr rfl, .inr rfl, .inr rfl⟩

theorem within_evtOut {P s x v_evtOut} (q : P &&& 1024 = 1024) (h : Within P s x) :
    Within P s ({ x with evtOut := v_evtOut } : State) :=
  within_mk q h ⟨.inr rfl, .inr rfl, .inr rfl, .inr rfl, .inr rfl, .inr rfl, .inr rfl, .inr rfl, .inr rfl, .inr rfl, .inl rfl, .inr rfl, .inr
      rfl, .inr rfl, .inr rfl, .inr rfl, .inr rfl, .inr rfl, .inr rfl, .inr rfl, .inr rfl, .inr rfl, .inr rfl, .inr rfl, .inr rfl, .inr rfl,
      .inr rfl, .inr rfl, .inr rfl, .inr rfl, .inr rfl, .inr rfl, .inr rfl, .inr rfl, .inr rfl, .inr rfl, .inr rfl, .inr rfl, .inr rfl, .inr
      rfl, .inr rfl, .inr rfl, .inr rfl, .inr rfl, .inr rfl, .inr rfl, .inr rfl, .inr rfl⟩

theorem within_outputs {P s x v_outputs} (q : P &&& 17179869184 = 17179869184) (h : Within P s x) :
    Within P s ({ x with outputs := v_outputs } : State) :=
  within_mk q h ⟨.inr rfl, .inr rfl, .inr rfl, .inr rfl, .inr rfl, .inr rfl, .inr rfl, .inr rfl, .inr rfl, .inr rfl, .inr rfl, .inr rfl, .inr
      rfl, .inr rfl, .inr rfl, .inr rfl, .inr rfl, .inr rfl, .inr rfl, .inr rfl, .inr rfl, .inr rfl, .inr rfl, .inr rfl, .inr rfl, .inr rfl,
      .inr rfl, .inr rfl, .inr rfl, .inr rfl, .inr rfl, .inr rfl, .inr rfl, .inr rfl, .inl rfl, .inr rfl, .inr rfl, .inr rfl, .inr rfl, .inr
      rfl, .inr rfl, .inr rfl, .inr rfl, .inr rfl, .inr rfl, .inr rfl, .inr rfl, .inr rfl⟩

theorem within_txs {P s x v_txs} (q : P &&& 4294967296 = 4294967296) (h : Within P s x) :
    Within P s ({ x with txs := v_txs } : State) :=
  within_mk q h ⟨.inr rfl, .inr rfl, .inr rfl, .inr rfl, .inr rfl, .inr rfl, .inr rfl, .inr rfl, .inr rfl, .inr rfl, .inr rfl, .inr rfl, .inr
      rfl, .inr rfl, .inr rfl, .inr rfl, .inr rfl, .inr rfl, .inr rfl, .inr rfl, .inr rfl, .inr rfl, .inr rfl, .inr rfl, .inr rfl, .inr rfl,
      .inr rfl, .inr rfl, .inr rfl, .inr rfl, .inr rfl, .inr rfl, .inl rfl, .inr rfl, .inr rfl, .inr rfl, .inr rfl, .inr rfl, .inr rfl, .inr
      rfl, .inr rfl, .inr rfl, .inr rfl, .inr rfl, .inr rfl, .inr rfl, .inr rfl, .inr rfl⟩

theorem within_evtIn {P s x v_evtIn} (q : P &&& 512 = 512) (h : Within P s x) :
    Within P s ({ x with evtIn := v_evtIn } : State) :=
  within_mk q h ⟨.inr rfl, .inr rfl, .inr rfl, .inr rfl, .inr rfl, .inr rfl, .inr rfl, .inr rfl, .inr rfl, .inl rfl, .inr rfl, .inr rfl, .inr
      rfl, .inr rfl, .inr rfl, .inr rfl, .inr rfl, .inr rfl, .inr rfl, .inr rfl, .inr rfl, .inr rfl, .inr rfl, .inr rfl, .inr rfl, .inr rfl,
      .inr rfl, .inr rfl, .inr rfl, .inr rfl, .inr rfl, .inr rfl, .inr rfl, .inr rfl, .inr rfl, .inr rfl, .inr rfl, .inr rfl, .inr rfl, .inr
      rfl, .inr rfl, .inr rfl, .inr rfl, .inr rfl, .inr rfl, .inr rfl, .inr rfl, .inr rfl⟩

theorem within_quads {P s x v_quads} (q : P &&& 536870912 = 536870912) (h : Within P s x) :
    Within P s ({ x with quads := v_quads } : State) :=
  within_mk q h ⟨.inr rfl, .inr rfl, .inr rfl, .inr rfl, .inr rfl, .inr rfl, .inr rfl, .inr rfl, .inr rfl, .inr rfl, .inr rfl, .inr rfl, .inr
      rfl, .inr rfl, .inr rfl, .inr rfl, .inr rfl, .inr rfl, .inr rfl, .inr rfl, .inr rfl, .inr rfl, .inr rfl, .inr rfl, .inr rfl, .inr rfl,
      .inr rfl, .inr rfl, .inr rfl, .inl rfl, .inr rfl, .inr rfl, .inr rfl, .inr rfl, .inr rfl, .inr rfl, .inr rfl, .inr rfl, .inr rfl, .inr
      rfl, .inr rfl, .inr rfl, .inr rfl, .inr rfl, .inr rfl, .inr rfl, .inr rfl, .inr rfl⟩

theorem within_ports {P s x v_ports} (q : P &&& 1073741824 = 1073741824) (h : Within P s x) :
    Within P s ({ x with ports := v_ports } : State) :=
  within_mk q h ⟨.inr rfl, .inr rfl, .inr rfl, .inr rfl, .inr rfl, .inr rfl, .inr rfl, .inr rfl, .inr rfl, .inr rfl, .inr rfl, .inr rfl, .inr
      rfl, .inr rfl, .inr rfl, .inr rfl, .inr rfl, .inr rfl, .inr rfl, .inr rfl, .inr rfl, .inr rfl, .inr rfl, .inr rfl, .inr rfl, .inr rfl,
      .inr rfl, .inr rfl, .inr rfl, .inr rfl, .inl rfl, .inr rfl, .inr rfl, .inr rfl, .inr rfl, .inr rfl, .inr rfl, .inr rfl, .inr rfl, .inr
      rfl, .inr rfl, .inr rfl, .inr rfl, .inr rfl, .inr rfl, .inr rfl, .inr rfl, .inr rfl⟩

theorem within_lanes {P s x v_lanes} (q : P &&& 67108864 = 67108864) (h : Within P s x) :
    Within P s ({ x with lanes := v_lanes } : State) :=
  within_mk q h ⟨.inr rfl, .inr rfl, .inr rfl, .inr rfl, .inr rfl, .inr rfl, .inr rfl, .inr rfl, .inr rfl, .inr rfl, .inr rfl, .inr rfl, .inr
      rfl, .inr rfl, .inr rfl, .inr rfl, .inr rfl, .inr rfl, .inr rfl, .inr rfl, .inr rfl, .inr rfl, .inr rfl, .inr rfl, .inr rfl, .inr rfl,
      .inl rfl, .inr rfl, .inr rfl, .inr rfl, .inr rfl, .inr rfl, .inr rfl, .inr rfl, .inr rfl, .inr rfl, .inr rfl, .inr rfl, .inr rfl, .inr
      rfl, .inr rfl, .inr rfl, .inr rfl, .inr rfl, .inr rfl, .inr rfl, .inr rfl, .inr rfl⟩

theorem within_txAudio {P s x v_txAudio} (q : P &&& 274877906944 = 274877906944) (h : Within P s x) :
    Within P s ({ x with txAudio := v_txAudio } : State) :=
  within_mk q h ⟨.inr rfl, .inr rfl, .inr rfl, .inr rfl, .inr rfl, .inr rfl, .inr rfl, .inr rfl, .inr rfl, .inr rfl, .inr rfl, .inr rfl, .inr
      rfl, .inr rfl, .inr rfl, .inr rfl, .inr rfl, .inr rfl, .inr rfl, .inr rfl, .inr rfl, .inr rfl, .inr rfl, .inr rfl, .inr rfl, .inr rfl,
      .inr rfl, .inr rfl, .inr rfl, .inr rfl, .inr rfl, .inr rfl, .inr rfl, .inr rfl, .inr rfl, .inr rfl, .inr rfl, .inr rfl, .inl rfl, .inr
      rfl, .inr rfl, .inr rfl, .inr rfl, .inr rfl, .inr rfl, .inr rfl, .inr rfl, .inr rfl⟩

theorem within_layers {P s x v_layers} (q : P &&& 8589934592 = 8589934592) (h : Within P s x) :
    Within P s ({ x with layers := v_layers } : State) :=
  within_mk q h ⟨.inr rfl, .inr rfl, .inr rfl, .inr rfl, .inr rfl, .inr rfl, .inr rfl, .inr rfl, .inr rfl, .inr rfl, .inr rfl, .inr rfl, .inr
      rfl, .inr rfl, .inr rfl, .inr rfl, .inr rfl, .inr rfl, .inr rfl, .inr rfl, .inr rfl, .inr rfl, .inr rfl, .inr rfl, .inr rfl, .inr rfl,
      .inr rfl, .inr rfl, .inr rfl, .inr rfl, .inr rfl, .inr rfl, .inr rfl, .inl rfl, .inr rfl, .inr rfl, .inr rfl, .inr rfl, .inr rfl, .inr
      rfl, .inr rfl, .inr rfl, .inr rfl, .inr rfl, .inr rfl, .inr rfl, .inr rfl, .inr rfl⟩

theorem within_log {P s x v_log} (q : P &&& 262144 = 262144) (h : Within P s x) :
    Within P s ({ x with log := v_log } : State) :=
  within_mk q h ⟨.inr rfl, .inr rfl, .inr rfl, .inr rfl, .inr rfl, .inr rfl, .inr rfl, .inr rfl, .inr rfl, .inr rfl, .inr rfl, .inr rfl, .inr
      rfl, .inr rfl, .inr rfl, .inr rfl, .inr rfl, .inr rfl, .inl rfl, .inr rfl, .inr rfl, .inr rfl, .inr rfl, .inr rfl, .inr rfl, .inr rfl,
      .inr rfl, .inr rfl, .inr rfl, .inr rfl, .inr rfl, .inr rfl, .inr rfl, .inr rfl, .inr rfl, .inr rfl, .inr rfl, .inr rfl, .inr rfl, .inr
      rfl, .inr rfl, .inr rfl, .inr rfl, .inr rfl, .inr rfl, .inr rfl, .inr rfl, .inr rfl⟩

theorem within_assocs {P s x v_assocs} (q : P &&& 137438953472 = 137438953472) (h : Within P s x) :
    Within P s ({ x with assocs := v_assocs } : State) :=
  within_mk q h ⟨.inr rfl, .inr rfl, .inr rfl, .inr rfl, .inr rfl, .inr rfl, .inr rfl, .inr rfl, .inr rfl, .inr rfl, .inr rfl, .inr rfl, .inr
      rfl, .inr rfl, .inr rfl, .inr rfl, .inr rfl, .inr rfl, .inr rfl, .inr rfl, .inr rfl, .inr rfl, .inr rfl, .inr rfl, .inr rfl, .inr rfl,
      .inr rfl, .inr rfl, .inr rfl, .inr rfl, .inr rfl, .inr rfl, .inr rfl, .inr rfl, .inr rfl, .inr rfl, .inr rfl, .inl rfl, .inr rfl, .inr
      rfl, .inr rfl, .inr rfl, .inr rfl, .inr rfl, .inr rfl, .inr rfl, .inr rfl, .inr rfl⟩

theorem within_mem_memory_sram {P s x v_mem} (q : P &&& 20971520 = 20971520) (h : Within P s x)
    (e1 : (v_mem.store) = x.mem.store)
    (e2 : (v_mem.aon) = x.mem.aon) :
    Within P s ({ x with mem := v_mem } : State) :=
  within_mk q h ⟨.inr rfl, .inr rfl, .inr rfl, .inr rfl, .inr rfl, .inr rfl, .inr rfl, .inr rfl, .inr rfl, .inr rfl, .inr rfl, .inr rfl, .inr
      rfl, .inr rfl, .inr rfl, .inr rfl, .inr rfl, .inr rfl, .inr rfl, .inr rfl, .inr rfl, .inr e1, .inl rfl, .inr e2, .inl rfl, .inr rfl, .inr
      rfl, .inr rfl, .inr rfl, .inr rfl, .inr rfl, .inr rfl, .inr rfl, .inr rfl, .inr rfl, .inr rfl, .inr rfl, .inr rfl, .inr rfl, .inr rfl,
      .inr rfl, .inr rfl, .inr rfl, .inr rfl, .inr rfl, .inr rfl, .inr rfl, .inr rfl⟩

theorem within_drivers {P s x v_drivers} (q : P &&& 2199023255552 = 2199023255552) (h : Within P s x) :
    Within P s ({ x with drivers := v_drivers } : State) :=
  within_mk q h ⟨.inr rfl, .inr rfl, .inr rfl, .inr rfl, .inr rfl, .inr rfl, .inr rfl, .inr rfl, .inr rfl, .inr rfl, .inr rfl, .inr rfl, .inr
      rfl, .inr rfl, .inr rfl, .inr rfl, .inr rfl, .inr rfl, .inr rfl, .inr rfl, .inr rfl, .inr rfl, .inr rfl, .inr rfl, .inr rfl, .inr rfl,
      .inr rfl, .inr rfl, .inr rfl, .inr rfl, .inr rfl, .inr rfl, .inr rfl, .inr rfl, .inr rfl, .inr rfl, .inr rfl, .inr rfl, .inr rfl, .inr
      rfl, .inr rfl, .inl rfl, .inr rfl, .inr rfl, .inr rfl, .inr rfl, .inr rfl, .inr rfl⟩

theorem within_sync {P s x v_sync} (q : P &&& 35184372088832 = 35184372088832) (h : Within P s x) :
    Within P s ({ x with sync := v_sync } : State) :=
  within_mk q h ⟨.inr rfl, .inr rfl, .inr rfl, .inr rfl, .inr rfl, .inr rfl, .inr rfl, .inr rfl, .inr rfl, .inr rfl, .inr rfl, .inr rfl, .inr
      rfl, .inr rfl, .inr rfl, .inr rfl, .inr rfl, .inr rfl, .inr rfl, .inr rfl, .inr rfl, .inr rfl, .inr rfl, .inr rfl, .inr rfl, .inr rfl,
      .inr rfl, .inr rfl, .inr rfl, .inr rfl, .inr rfl, .inr rfl, .inr rfl, .inr rfl, .inr rfl, .inr rfl, .inr rfl, .inr rfl, .inr rfl, .inr
      rfl, .inr rfl, .inr rfl, .inr rfl, .inr rfl, .inr rfl, .inl rfl, .inr rfl, .inr rfl⟩

theorem within_free {P s x v_free} (q : P &&& 70368744177664 = 70368744177664) (h : Within P s x) :
    Within P s ({ x with free := v_free } : State) :=
  within_mk q h ⟨.inr rfl, .inr rfl, .inr rfl, .inr rfl, .inr rfl, .inr rfl, .inr rfl, .inr rfl, .inr rfl, .inr rfl, .inr rfl, .inr rfl, .inr
      rfl, .inr rfl, .inr rfl, .inr rfl, .inr rfl, .inr rfl, .inr rfl, .inr rfl, .inr rfl, .inr rfl, .inr rfl, .inr rfl, .inr rfl, .inr rfl,
      .inr rfl, .inr rfl, .inr rfl, .inr rfl, .inr rfl, .inr rfl, .inr rfl, .inr rfl, .inr rfl, .inr rfl, .inr rfl, .inr rfl, .inr rfl, .inr
      rfl, .inr rfl, .inr rfl, .inr rfl, .inr rfl, .inr rfl, .inr rfl, .inl rfl, .inr rfl⟩

theorem within_pair_sync {P s x v_pair v_sync} (q : P &&& 52776558133248 = 52776558133248) (h : Within P s x) :
    Within P s ({ x with pair := v_pair, sync := v_sync } : State) :=
  within_mk q h ⟨.inr rfl, .inr rfl, .inr rfl, .inr rfl, .inr rfl, .inr rfl, .inr rfl, .inr rfl, .inr rfl, .inr rfl, .inr rfl, .inr rfl, .inr
      rfl, .inr rfl, .inr rfl, .inr rfl, .inr rfl, .inr rfl, .inr rfl, .inr rfl, .inr rfl, .inr rfl, .inr rfl, .inr rfl, .inr rfl, .inr rfl,
      .inr rfl, .inr rfl, .inr rfl, .inr rfl, .inr rfl, .inr rfl, .inr rfl, .inr rfl, .inr rfl, .inr rfl, .inr rfl, .inr rfl, .inr rfl, .inr
      rfl, .inr rfl, .inr rfl, .inr rfl, .inr rfl, .inl rfl, .inl rfl, .inr rfl, .inr rfl⟩

theorem within_power_power {P s x v_power} (q : P &&& 16 = 16) (h : Within P s x)
    (e1 : (v_power.yoyo) = x.power.yoyo) :
    Within P s ({ x with power := v_power } : State) :=
  within_mk q h ⟨.inr rfl, .inr rfl, .inr rfl, .inr rfl, .inl rfl, .inr e1, .inr rfl, .inr rfl, .inr rfl, .inr rfl, .inr rfl, .inr rfl, .inr
      rfl, .inr rfl, .inr rfl, .inr rfl, .inr rfl, .inr rfl, .inr rfl, .inr rfl, .inr rfl, .inr rfl, .inr rfl, .inr rfl, .inr rfl, .inr rfl,
      .inr rfl, .inr rfl, .inr rfl, .inr rfl, .inr rfl, .inr rfl, .inr rfl, .inr rfl, .inr rfl, .inr rfl, .inr rfl, .inr rfl, .inr rfl, .inr
      rfl, .inr rfl, .inr rfl, .inr rfl, .inr rfl, .inr rfl, .inr rfl, .inr rfl, .inr rfl⟩

theorem within_power_yoyo {P s x v_power} (q : P &&& 32 = 32) (h : Within P s x)
    (e1 : ({ v_power with yoyo := [] } : Power) = { x.power with yoyo := [] }) :
    Within P s ({ x with power := v_power } : State) :=
  within_mk q h ⟨.inr rfl, .inr rfl, .inr rfl, .inr rfl, .inr e1, .inl rfl, .inr rfl, .inr rfl, .inr rfl, .inr rfl, .inr rfl, .inr rfl, .inr
      rfl, .inr rfl, .inr rfl, .inr rfl, .inr rfl, .inr rfl, .inr rfl, .inr rfl, .inr rfl, .inr rfl, .inr rfl, .inr rfl, .inr rfl, .inr rfl,
      .inr rfl, .inr rfl, .inr rfl, .inr rfl, .inr rfl, .inr rfl, .inr rfl, .inr rfl, .inr rfl, .inr rfl, .inr rfl, .inr rfl, .inr rfl, .inr
      rfl, .inr rfl, .inr rfl, .inr rfl, .inr rfl, .inr rfl, .inr rfl, .inr rfl, .inr rfl⟩

theorem within_rings {P s x v_rings} (q : P &&& 2048 = 2048) (h : Within P s x) :
    Within P s ({ x with rings := v_rings } : State) :=
  within_mk q h ⟨.inr rfl, .inr rfl, .inr rfl, .inr rfl, .inr rfl, .inr rfl, .inr rfl, .inr rfl, .inr rfl, .inr rfl, .inr rfl, .inl rfl, .inr
      rfl, .inr rfl, .inr rfl, .inr rfl, .inr rfl, .inr rfl, .inr rfl, .inr rfl, .inr rfl, .inr rfl, .inr rfl, .inr rfl, .inr rfl, .inr rfl,
      .inr rfl, .inr rfl, .inr rfl, .inr rfl, .inr rfl, .inr rfl, .inr rfl, .inr rfl, .inr rfl, .inr rfl, .inr rfl, .inr rfl, .inr rfl, .inr
      rfl, .inr rfl, .inr rfl, .inr rfl, .inr rfl, .inr rfl, .inr rfl, .inr rfl, .inr rfl⟩

theorem within_cp_cp_mbx {P s x v_cp v_mbx} (q : P &&& 196608 = 196608) (h : Within P s x)
    (e1 : (v_cp.acceptNo) = x.cp.acceptNo)
    (e2 : (v_cp.replies) = x.cp.replies)
    (e3 : (v_cp.events) = x.cp.events)
    (e4 : ((v_cp.launch, v_cp.procs, v_cp.running)) = (x.cp.launch, x.cp.procs, x.cp.running)) :
    Within P s ({ x with cp := v_cp, mbx := v_mbx } : State) :=
  within_mk q h ⟨.inr rfl, .inr rfl, .inr rfl, .inr rfl, .inr rfl, .inr rfl, .inr rfl, .inr rfl, .inr rfl, .inr rfl, .inr rfl, .inr rfl, .inr
      e1, .inr e2, .inr e3, .inr e4, .inl rfl, .inl rfl, .inr rfl, .inr rfl, .inr rfl, .inr rfl, .inr rfl, .inr rfl, .inr rfl, .inr rfl, .inr
      rfl, .inr rfl, .inr rfl, .inr rfl, .inr rfl, .inr rfl, .inr rfl, .inr rfl, .inr rfl, .inr rfl, .inr rfl, .inr rfl, .inr rfl, .inr rfl,
      .inr rfl, .inr rfl, .inr rfl, .inr rfl, .inr rfl, .inr rfl, .inr rfl, .inr rfl⟩

theorem within_mbx {P s x v_mbx} (q : P &&& 131072 = 131072) (h : Within P s x) :
    Within P s ({ x with mbx := v_mbx } : State) :=
  within_mk q h ⟨.inr rfl, .inr rfl, .inr rfl, .inr rfl, .inr rfl, .inr rfl, .inr rfl, .inr rfl, .inr rfl, .inr rfl, .inr rfl, .inr rfl, .inr
      rfl, .inr rfl, .inr rfl, .inr rfl, .inr rfl, .inl rfl, .inr rfl, .inr rfl, .inr rfl, .inr rfl, .inr rfl, .inr rfl, .inr rfl, .inr rfl,
      .inr rfl, .inr rfl, .inr rfl, .inr rfl, .inr rfl, .inr rfl, .inr rfl, .inr rfl, .inr rfl, .inr rfl, .inr rfl, .inr rfl, .inr rfl, .inr
      rfl, .inr rfl, .inr rfl, .inr rfl, .inr rfl, .inr rfl, .inr rfl, .inr rfl, .inr rfl⟩

theorem within_mem_sram {P s x v_mem} (q : P &&& 4194304 = 4194304) (h : Within P s x)
    (e1 : ({ v_mem with store := [], sram := [], aon := [] } : Mem) = { x.mem with store := [], sram := [], aon := [] })
    (e2 : (v_mem.store) = x.mem.store)
    (e3 : (v_mem.aon) = x.mem.aon) :
    Within P s ({ x with mem := v_mem } : State) :=
  within_mk q h ⟨.inr rfl, .inr rfl, .inr rfl, .inr rfl, .inr rfl, .inr rfl, .inr rfl, .inr rfl, .inr rfl, .inr rfl, .inr rfl, .inr rfl, .inr
      rfl, .inr rfl, .inr rfl, .inr rfl, .inr rfl, .inr rfl, .inr rfl, .inr rfl, .inr rfl, .inr e2, .inl rfl, .inr e3, .inr e1, .inr rfl, .inr
      rfl, .inr rfl, .inr rfl, .inr rfl, .inr rfl, .inr rfl, .inr rfl, .inr rfl, .inr rfl, .inr rfl, .inr rfl, .inr rfl, .inr rfl, .inr rfl,
      .inr rfl, .inr rfl, .inr rfl, .inr rfl, .inr rfl, .inr rfl, .inr rfl, .inr rfl⟩

theorem within_cp_cp_events {P s x v_cp} (q : P &&& 81920 = 81920) (h : Within P s x)
    (e1 : (v_cp.acceptNo) = x.cp.acceptNo)
    (e2 : (v_cp.replies) = x.cp.replies)
    (e3 : ((v_cp.launch, v_cp.procs, v_cp.running)) = (x.cp.launch, x.cp.procs, x.cp.running)) :
    Within P s ({ x with cp := v_cp } : State) :=
  within_mk q h ⟨.inr rfl, .inr rfl, .inr rfl, .inr rfl, .inr rfl, .inr rfl, .inr rfl, .inr rfl, .inr rfl, .inr rfl, .inr rfl, .inr rfl, .inr
      e1, .inr e2, .inl rfl, .inr e3, .inl rfl, .inr rfl, .inr rfl, .inr rfl, .inr rfl, .inr rfl, .inr rfl, .inr rfl, .inr rfl, .inr rfl, .inr
      rfl, .inr rfl, .inr rfl, .inr rfl, .inr rfl, .inr rfl, .inr rfl, .inr rfl, .inr rfl, .inr rfl, .inr rfl, .inr rfl, .inr rfl, .inr rfl,
      .inr rfl, .inr rfl, .inr rfl, .inr rfl, .inr rfl, .inr rfl, .inr rfl, .inr rfl⟩

theorem within_fab {P s x v_fab} (q : P &&& 33554432 = 33554432) (h : Within P s x) :
    Within P s ({ x with fab := v_fab } : State) :=
  within_mk q h ⟨.inr rfl, .inr rfl, .inr rfl, .inr rfl, .inr rfl, .inr rfl, .inr rfl, .inr rfl, .inr rfl, .inr rfl, .inr rfl, .inr rfl, .inr
      rfl, .inr rfl, .inr rfl, .inr rfl, .inr rfl, .inr rfl, .inr rfl, .inr rfl, .inr rfl, .inr rfl, .inr rfl, .inr rfl, .inr rfl, .inl rfl,
      .inr rfl, .inr rfl, .inr rfl, .inr rfl, .inr rfl, .inr rfl, .inr rfl, .inr rfl, .inr rfl, .inr rfl, .inr rfl, .inr rfl, .inr rfl, .inr
      rfl, .inr rfl, .inr rfl, .inr rfl, .inr rfl, .inr rfl, .inr rfl, .inr rfl, .inr rfl⟩

theorem within_clocks {P s x v_clocks} (q : P &&& 4 = 4) (h : Within P s x) :
    Within P s ({ x with clocks := v_clocks } : State) :=
  within_mk q h ⟨.inr rfl, .inr rfl, .inl rfl, .inr rfl, .inr rfl, .inr rfl, .inr rfl, .inr rfl, .inr rfl, .inr rfl, .inr rfl, .inr rfl, .inr
      rfl, .inr rfl, .inr rfl, .inr rfl, .inr rfl, .inr rfl, .inr rfl, .inr rfl, .inr rfl, .inr rfl, .inr rfl, .inr rfl, .inr rfl, .inr rfl,
      .inr rfl, .inr rfl, .inr rfl, .inr rfl, .inr rfl, .inr rfl, .inr rfl, .inr rfl, .inr rfl, .inr rfl, .inr rfl, .inr rfl, .inr rfl, .inr
      rfl, .inr rfl, .inr rfl, .inr rfl, .inr rfl, .inr rfl, .inr rfl, .inr rfl, .inr rfl⟩

theorem within_foms {P s x v_foms} (q : P &&& 134217728 = 134217728) (h : Within P s x) :
    Within P s ({ x with foms := v_foms } : State) :=
  within_mk q h ⟨.inr rfl, .inr rfl, .inr rfl, .inr rfl, .inr rfl, .inr rfl, .inr rfl, .inr rfl, .inr rfl, .inr rfl, .inr rfl, .inr rfl, .inr
      rfl, .inr rfl, .inr rfl, .inr rfl, .inr rfl, .inr rfl, .inr rfl, .inr rfl, .inr rfl, .inr rfl, .inr rfl, .inr rfl, .inr rfl, .inr rfl,
      .inr rfl, .inl rfl, .inr rfl, .inr rfl, .inr rfl, .inr rfl, .inr rfl, .inr rfl, .inr rfl, .inr rfl, .inr rfl, .inr rfl, .inr rfl, .inr
      rfl, .inr rfl, .inr rfl, .inr rfl, .inr rfl, .inr rfl, .inr rfl, .inr rfl, .inr rfl⟩

theorem within_prbs {P s x v_prbs} (q : P &&& 268435456 = 268435456) (h : Within P s x) :
    Within P s ({ x with prbs := v_prbs } : State) :=
  within_mk q h ⟨.inr rfl, .inr rfl, .inr rfl, .inr rfl, .inr rfl, .inr rfl, .inr rfl, .inr rfl, .inr rfl, .inr rfl, .inr rfl, .inr rfl, .inr
      rfl, .inr rfl, .inr rfl, .inr rfl, .inr rfl, .inr rfl, .inr rfl, .inr rfl, .inr rfl, .inr rfl, .inr rfl, .inr rfl, .inr rfl, .inr rfl,
      .inr rfl, .inr rfl, .inl rfl, .inr rfl, .inr rfl, .inr rfl, .inr rfl, .inr rfl, .inr rfl, .inr rfl, .inr rfl, .inr rfl, .inr rfl, .inr
      rfl, .inr rfl, .inr rfl, .inr rfl, .inr rfl, .inr rfl, .inr rfl, .inr rfl, .inr rfl⟩

theorem within_answer {P s x v_answer} (q : P &&& 140737488355328 = 140737488355328) (h : Within P s x) :
    Within P s ({ x with answer := v_answer } : State) :=
  within_mk q h ⟨.inr rfl, .inr rfl, .inr rfl, .inr rfl, .inr rfl, .inr rfl, .inr rfl, .inr rfl, .inr rfl, .inr rfl, .inr rfl, .inr rfl, .inr
      rfl, .inr rfl, .inr rfl, .inr rfl, .inr rfl, .inr rfl, .inr rfl, .inr rfl, .inr rfl, .inr rfl, .inr rfl, .inr rfl, .inr rfl, .inr rfl,
      .inr rfl, .inr rfl, .inr rfl, .inr rfl, .inr rfl, .inr rfl, .inr rfl, .inr rfl, .inr rfl, .inr rfl, .inr rfl, .inr rfl, .inr rfl, .inr
      rfl, .inr rfl, .inr rfl, .inr rfl, .inr rfl, .inr rfl, .inr rfl, .inr rfl, .inl rfl⟩

theorem within_sys_answer {P s x v_sys v_answer} (q : P &&& 140737488355330 = 140737488355330) (h : Within P s x) :
    Within P s ({ x with sys := v_sys, answer := v_answer } : State) :=
  within_mk q h ⟨.inr rfl, .inl rfl, .inr rfl, .inr rfl, .inr rfl, .inr rfl, .inr rfl, .inr rfl, .inr rfl, .inr rfl, .inr rfl, .inr rfl, .inr
      rfl, .inr rfl, .inr rfl, .inr rfl, .inr rfl, .inr rfl, .inr rfl, .inr rfl, .inr rfl, .inr rfl, .inr rfl, .inr rfl, .inr rfl, .inr rfl,
      .inr rfl, .inr rfl, .inr rfl, .inr rfl, .inr rfl, .inr rfl, .inr rfl, .inr rfl, .inr rfl, .inr rfl, .inr rfl, .inr rfl, .inr rfl, .inr
      rfl, .inr rfl, .inr rfl, .inr rfl, .inr rfl, .inr rfl, .inr rfl, .inr rfl, .inl rfl⟩

theorem within_cp_replies_mbx {P s x v_cp v_mbx} (q : P &&& 139264 = 139264) (h : Within P s x)
    (e1 : (({ v_cp with acceptNo := 0, replies := [], events := [], launch := [], procs := [], running := [] } : CmdProc)) = ({ x.cp with
        acceptNo := 0, replies := [], events := [], launch := [], procs := [], running := [] } : CmdProc))
    (e2 : (v_cp.acceptNo) = x.cp.acceptNo)
    (e3 : (v_cp.events) = x.cp.events)
    (e4 : ((v_cp.launch, v_cp.procs, v_cp.running)) = (x.cp.launch, x.cp.procs, x.cp.running)) :
    Within P s ({ x with cp := v_cp, mbx := v_mbx } : State) :=
  within_mk q h ⟨.inr rfl, .inr rfl, .inr rfl, .inr rfl, .inr rfl, .inr rfl, .inr rfl, .inr rfl, .inr rfl, .inr rfl, .inr rfl, .inr rfl, .inr
      e2, .inl rfl, .inr e3, .inr e4, .inr e1, .inl rfl, .inr rfl, .inr rfl, .inr rfl, .inr rfl, .inr rfl, .inr rfl, .inr rfl, .inr rfl, .inr
      rfl, .inr rfl, .inr rfl, .inr rfl, .inr rfl, .inr rfl, .inr rfl, .inr rfl, .inr rfl, .inr rfl, .inr rfl, .inr rfl, .inr rfl, .inr rfl,
      .inr rfl, .inr rfl, .inr rfl, .inr rfl, .inr rfl, .inr rfl, .inr rfl, .inr rfl⟩

theorem within_outShots {P s x v_outShots} (q : P &&& 34359738368 = 34359738368) (h : Within P s x) :
    Within P s ({ x with outShots := v_outShots } : State) :=
  within_mk q h ⟨.inr rfl, .inr rfl, .inr rfl, .inr rfl, .inr rfl, .inr rfl, .inr rfl, .inr rfl, .inr rfl, .inr rfl, .inr rfl, .inr rfl, .inr
      rfl, .inr rfl, .inr rfl, .inr rfl, .inr rfl, .inr rfl, .inr rfl, .inr rfl, .inr rfl, .inr rfl, .inr rfl, .inr rfl, .inr rfl, .inr rfl,
      .inr rfl, .inr rfl, .inr rfl, .inr rfl, .inr rfl, .inr rfl, .inr rfl, .inr rfl, .inr rfl, .inl rfl, .inr rfl, .inr rfl, .inr rfl, .inr
      rfl, .inr rfl, .inr rfl, .inr rfl, .inr rfl, .inr rfl, .inr rfl, .inr rfl, .inr rfl⟩

theorem within_power_power_cp_replies_events_waiting {P s x v_power v_cp} (q : P &&& 57360 = 57360) (h : Within P s x)
    (e1 : (v_power.yoyo) = x.power.yoyo)
    (e2 : (({ v_cp with acceptNo := 0, replies := [], events := [], launch := [], procs := [], running := [] } : CmdProc)) = ({ x.cp with
        acceptNo := 0, replies := [], events := [], launch := [], procs := [], running := [] } : CmdProc))
    (e3 : (v_cp.acceptNo) = x.cp.acceptNo) :
    Within P s ({ x with power := v_power, cp := v_cp } : State) :=
  within_mk q h ⟨.inr rfl, .inr rfl, .inr rfl, .inr rfl, .inl rfl, .inr e1, .inr rfl, .inr rfl, .inr rfl, .inr rfl, .inr rfl, .inr rfl, .inr e3,
      .inl rfl, .inl rfl, .inl rfl, .inr e2, .inr rfl, .inr rfl, .inr rfl, .inr rfl, .inr rfl, .inr rfl, .inr rfl, .inr rfl, .inr rfl, .inr rfl,
      .inr rfl, .inr rfl, .inr rfl, .inr rfl, .inr rfl, .inr rfl, .inr rfl, .inr rfl, .inr rfl, .inr rfl, .inr rfl, .inr rfl, .inr rfl, .inr
      rfl, .inr rfl, .inr rfl, .inr rfl, .inr rfl, .inr rfl, .inr rfl, .inr rfl⟩

theorem within_mem_aon {P s x v_mem} (q : P &&& 8388608 = 8388608) (h : Within P s x)
    (e1 : ({ v_mem with store := [], sram := [], aon := [] } : Mem) = { x.mem with store := [], sram := [], aon := [] })
    (e2 : (v_mem.store) = x.mem.store)
    (e3 : (v_mem.sram) = x.mem.sram) :
    Within P s ({ x with mem := v_mem } : State) :=
  within_mk q h ⟨.inr rfl, .inr rfl, .inr rfl, .inr rfl, .inr rfl, .inr rfl, .inr rfl, .inr rfl, .inr rfl, .inr rfl, .inr rfl, .inr rfl, .inr
      rfl, .inr rfl, .inr rfl, .inr rfl, .inr rfl, .inr rfl, .inr rfl, .inr rfl, .inr rfl, .inr e2, .inr e3, .inl rfl, .inr e1, .inr rfl, .inr
      rfl, .inr rfl, .inr rfl, .inr rfl, .inr rfl, .inr rfl, .inr rfl, .inr rfl, .inr rfl, .inr rfl, .inr rfl, .inr rfl, .inr rfl, .inr rfl,
      .inr rfl, .inr rfl, .inr rfl, .inr rfl, .inr rfl, .inr rfl, .inr rfl, .inr rfl⟩

theorem within_sys_power_power {P s x v_sys v_power} (q : P &&& 18 = 18) (h : Within P s x)
    (e1 : (v_power.yoyo) = x.power.yoyo) :
    Within P s ({ x with sys := v_sys, power := v_power } : State) :=
  within_mk q h ⟨.inr rfl, .inl rfl, .inr rfl, .inr rfl, .inl rfl, .inr e1, .inr rfl, .inr rfl, .inr rfl, .inr rfl, .inr rfl, .inr rfl, .inr
      rfl, .inr rfl, .inr rfl, .inr rfl, .inr rfl, .inr rfl, .inr rfl, .inr rfl, .inr rfl, .inr rfl, .inr rfl, .inr rfl, .inr rfl, .inr rfl,
      .inr rfl, .inr rfl, .inr rfl, .inr rfl, .inr rfl, .inr rfl, .inr rfl, .inr rfl, .inr rfl, .inr rfl, .inr rfl, .inr rfl, .inr rfl, .inr
      rfl, .inr rfl, .inr rfl, .inr rfl, .inr rfl, .inr rfl, .inr rfl, .inr rfl, .inr rfl⟩

theorem within_wind {P s x v_wind} (q : P &&& 8 = 8) (h : Within P s x) :
    Within P s ({ x with wind := v_wind } : State) :=
  within_mk q h ⟨.inr rfl, .inr rfl, .inr rfl, .inl rfl, .inr rfl, .inr rfl, .inr rfl, .inr rfl, .inr rfl, .inr rfl, .inr rfl, .inr rfl, .inr
      rfl, .inr rfl, .inr rfl, .inr rfl, .inr rfl, .inr rfl, .inr rfl, .inr rfl, .inr rfl, .inr rfl, .inr rfl, .inr rfl, .inr rfl, .inr rfl,
      .inr rfl, .inr rfl, .inr rfl, .inr rfl, .inr rfl, .inr rfl, .inr rfl, .inr rfl, .inr rfl, .inr rfl, .inr rfl, .inr rfl, .inr rfl, .inr
      rfl, .inr rfl, .inr rfl, .inr rfl, .inr rfl, .inr rfl, .inr rfl, .inr rfl, .inr rfl⟩

theorem within_sys_wind {P s x v_sys v_wind} (q : P &&& 10 = 10) (h : Within P s x) :
    Within P s ({ x with sys := v_sys, wind := v_wind } : State) :=
  within_mk q h ⟨.inr rfl, .inl rfl, .inr rfl, .inl rfl, .inr rfl, .inr rfl, .inr rfl, .inr rfl, .inr rfl, .inr rfl, .inr rfl, .inr rfl, .inr
      rfl, .inr rfl, .inr rfl, .inr rfl, .inr rfl, .inr rfl, .inr rfl, .inr rfl, .inr rfl, .inr rfl, .inr rfl, .inr rfl, .inr rfl, .inr rfl,
      .inr rfl, .inr rfl, .inr rfl, .inr rfl, .inr rfl, .inr rfl, .inr rfl, .inr rfl, .inr rfl, .inr rfl, .inr rfl, .inr rfl, .inr rfl, .inr
      rfl, .inr rfl, .inr rfl, .inr rfl, .inr rfl, .inr rfl, .inr rfl, .inr rfl, .inr rfl⟩

theorem
    within_sys_clocks_wind_power_power_yoyo_time_timeRegs_domains_evtIn_evtOut_rings_cp_cp_acceptNo_replies_events_waiting_mem_memory_sram_fab_lanes_foms_prbs_quads_ports_flows_txs_layers_outputs_outShots_leases_assocs_txAudio_tq_heads_drivers_polls_pair_sync
    {P s x v_sys v_clocks v_wind v_power v_time v_timeRegs v_domains v_evtIn v_evtOut v_rings v_cp v_mem v_fab v_lanes v_foms v_prbs v_quads
    v_ports v_flows v_txs v_layers v_outputs v_outShots v_leases v_assocs v_txAudio v_tq v_heads v_drivers v_polls v_pair v_sync} (q : P &&&
    61572638703614 = 61572638703614) (h : Within P s x)
    (e1 : (v_mem.store) = x.mem.store)
    (e2 : (v_mem.aon) = x.mem.aon) :
    Within P s ({ x with sys := v_sys, clocks := v_clocks, wind := v_wind, power := v_power, time := v_time, timeRegs := v_timeRegs, domains := v_domains, evtIn := v_evtIn, evtOut := v_evtOut, rings := v_rings, cp := v_cp, mem := v_mem, fab := v_fab, lanes := v_lanes, foms := v_foms, prbs := v_prbs, quads := v_quads, ports := v_ports, flows := v_flows, txs := v_txs, layers := v_layers, outputs := v_outputs, outShots := v_outShots, leases := v_leases, assocs := v_assocs, txAudio := v_txAudio, tq := v_tq, heads := v_heads, drivers := v_drivers, polls := v_polls, pair := v_pair, sync := v_sync } : State) :=
  within_mk q h ⟨.inr rfl, .inl rfl, .inl rfl, .inl rfl, .inl rfl, .inl rfl, .inl rfl, .inl rfl, .inl rfl, .inl rfl, .inl rfl, .inl rfl, .inl
      rfl, .inl rfl, .inl rfl, .inl rfl, .inl rfl, .inr rfl, .inr rfl, .inr rfl, .inr rfl, .inr e1, .inl rfl, .inr e2, .inl rfl, .inl rfl, .inl
      rfl, .inl rfl, .inl rfl, .inl rfl, .inl rfl, .inl rfl, .inl rfl, .inl rfl, .inl rfl, .inl rfl, .inl rfl, .inl rfl, .inl rfl, .inl rfl,
      .inl rfl, .inl rfl, .inl rfl, .inr rfl, .inl rfl, .inl rfl, .inr rfl, .inr rfl⟩

theorem within_sys_rings_mem_memory_store {P s x v_sys v_rings v_mem} (q : P &&& 18876418 = 18876418) (h : Within P s x)
    (e1 : (v_mem.sram) = x.mem.sram)
    (e2 : (v_mem.aon) = x.mem.aon) :
    Within P s ({ x with sys := v_sys, rings := v_rings, mem := v_mem } : State) :=
  within_mk q h ⟨.inr rfl, .inl rfl, .inr rfl, .inr rfl, .inr rfl, .inr rfl, .inr rfl, .inr rfl, .inr rfl, .inr rfl, .inr rfl, .inl rfl, .inr
      rfl, .inr rfl, .inr rfl, .inr rfl, .inr rfl, .inr rfl, .inr rfl, .inr rfl, .inr rfl, .inl rfl, .inr e1, .inr e2, .inl rfl, .inr rfl, .inr
      rfl, .inr rfl, .inr rfl, .inr rfl, .inr rfl, .inr rfl, .inr rfl, .inr rfl, .inr rfl, .inr rfl, .inr rfl, .inr rfl, .inr rfl, .inr rfl,
      .inr rfl, .inr rfl, .inr rfl, .inr rfl, .inr rfl, .inr rfl, .inr rfl, .inr rfl⟩

theorem within_time_timeRegs_sync {P s x v_time v_timeRegs v_sync} (q : P &&& 35184372089024 = 35184372089024) (h : Within P s x) :
    Within P s ({ x with time := v_time, timeRegs := v_timeRegs, sync := v_sync } : State) :=
  within_mk q h ⟨.inr rfl, .inr rfl, .inr rfl, .inr rfl, .inr rfl, .inr rfl, .inl rfl, .inl rfl, .inr rfl, .inr rfl, .inr rfl, .inr rfl, .inr
      rfl, .inr rfl, .inr rfl, .inr rfl, .inr rfl, .inr rfl, .inr rfl, .inr rfl, .inr rfl, .inr rfl, .inr rfl, .inr rfl, .inr rfl, .inr rfl,
      .inr rfl, .inr rfl, .inr rfl, .inr rfl, .inr rfl, .inr rfl, .inr rfl, .inr rfl, .inr rfl, .inr rfl, .inr rfl, .inr rfl, .inr rfl, .inr
      rfl, .inr rfl, .inr rfl, .inr rfl, .inr rfl, .inr rfl, .inl rfl, .inr rfl, .inr rfl⟩

theorem within_tq_sync {P s x v_tq v_sync} (q : P &&& 35734127902720 = 35734127902720) (h : Within P s x) :
    Within P s ({ x with tq := v_tq, sync := v_sync } : State) :=
  within_mk q h ⟨.inr rfl, .inr rfl, .inr rfl, .inr rfl, .inr rfl, .inr rfl, .inr rfl, .inr rfl, .inr rfl, .inr rfl, .inr rfl, .inr rfl, .inr
      rfl, .inr rfl, .inr rfl, .inr rfl, .inr rfl, .inr rfl, .inr rfl, .inr rfl, .inr rfl, .inr rfl, .inr rfl, .inr rfl, .inr rfl, .inr rfl,
      .inr rfl, .inr rfl, .inr rfl, .inr rfl, .inr rfl, .inr rfl, .inr rfl, .inr rfl, .inr rfl, .inr rfl, .inr rfl, .inr rfl, .inr rfl, .inl
      rfl, .inr rfl, .inr rfl, .inr rfl, .inr rfl, .inr rfl, .inl rfl, .inr rfl, .inr rfl⟩

theorem within_cp_acceptNo_waiting {P s x v_cp} (q : P &&& 36864 = 36864) (h : Within P s x)
    (e1 : (({ v_cp with acceptNo := 0, replies := [], events := [], launch := [], procs := [], running := [] } : CmdProc)) = ({ x.cp with
        acceptNo := 0, replies := [], events := [], launch := [], procs := [], running := [] } : CmdProc))
    (e2 : (v_cp.replies) = x.cp.replies)
    (e3 : (v_cp.events) = x.cp.events) :
    Within P s ({ x with cp := v_cp } : State) :=
  within_mk q h ⟨.inr rfl, .inr rfl, .inr rfl, .inr rfl, .inr rfl, .inr rfl, .inr rfl, .inr rfl, .inr rfl, .inr rfl, .inr rfl, .inr rfl, .inl
      rfl, .inr e2, .inr e3, .inl rfl, .inr e1, .inr rfl, .inr rfl, .inr rfl, .inr rfl, .inr rfl, .inr rfl, .inr rfl, .inr rfl, .inr rfl, .inr
      rfl, .inr rfl, .inr rfl, .inr rfl, .inr rfl, .inr rfl, .inr rfl, .inr rfl, .inr rfl, .inr rfl, .inr rfl, .inr rfl, .inr rfl, .inr rfl,
      .inr rfl, .inr rfl, .inr rfl, .inr rfl, .inr rfl, .inr rfl, .inr rfl, .inr rfl⟩

theorem within_polls {P s x v_polls} (q : P &&& 4398046511104 = 4398046511104) (h : Within P s x) :
    Within P s ({ x with polls := v_polls } : State) :=
  within_mk q h ⟨.inr rfl, .inr rfl, .inr rfl, .inr rfl, .inr rfl, .inr rfl, .inr rfl, .inr rfl, .inr rfl, .inr rfl, .inr rfl, .inr rfl, .inr
      rfl, .inr rfl, .inr rfl, .inr rfl, .inr rfl, .inr rfl, .inr rfl, .inr rfl, .inr rfl, .inr rfl, .inr rfl, .inr rfl, .inr rfl, .inr rfl,
      .inr rfl, .inr rfl, .inr rfl, .inr rfl, .inr rfl, .inr rfl, .inr rfl, .inr rfl, .inr rfl, .inr rfl, .inr rfl, .inr rfl, .inr rfl, .inr
      rfl, .inr rfl, .inr rfl, .inl rfl, .inr rfl, .inr rfl, .inr rfl, .inr rfl, .inr rfl⟩

theorem within_rennex {P s x v_rennex} (q : P &&& 8796093022208 = 8796093022208) (h : Within P s x) :
    Within P s ({ x with rennex := v_rennex } : State) :=
  within_mk q h ⟨.inr rfl, .inr rfl, .inr rfl, .inr rfl, .inr rfl, .inr rfl, .inr rfl, .inr rfl, .inr rfl, .inr rfl, .inr rfl, .inr rfl, .inr
      rfl, .inr rfl, .inr rfl, .inr rfl, .inr rfl, .inr rfl, .inr rfl, .inr rfl, .inr rfl, .inr rfl, .inr rfl, .inr rfl, .inr rfl, .inr rfl,
      .inr rfl, .inr rfl, .inr rfl, .inr rfl, .inr rfl, .inr rfl, .inr rfl, .inr rfl, .inr rfl, .inr rfl, .inr rfl, .inr rfl, .inr rfl, .inr
      rfl, .inr rfl, .inr rfl, .inr rfl, .inl rfl, .inr rfl, .inr rfl, .inr rfl, .inr rfl⟩

theorem within_mem_memory_store {P s x v_mem} (q : P &&& 18874368 = 18874368) (h : Within P s x)
    (e1 : (v_mem.sram) = x.mem.sram)
    (e2 : (v_mem.aon) = x.mem.aon) :
    Within P s ({ x with mem := v_mem } : State) :=
  within_mk q h ⟨.inr rfl, .inr rfl, .inr rfl, .inr rfl, .inr rfl, .inr rfl, .inr rfl, .inr rfl, .inr rfl, .inr rfl, .inr rfl, .inr rfl, .inr
      rfl, .inr rfl, .inr rfl, .inr rfl, .inr rfl, .inr rfl, .inr rfl, .inr rfl, .inr rfl, .inl rfl, .inr e1, .inr e2, .inl rfl, .inr rfl, .inr
      rfl, .inr rfl, .inr rfl, .inr rfl, .inr rfl, .inr rfl, .inr rfl, .inr rfl, .inr rfl, .inr rfl, .inr rfl, .inr rfl, .inr rfl, .inr rfl,
      .inr rfl, .inr rfl, .inr rfl, .inr rfl, .inr rfl, .inr rfl, .inr rfl, .inr rfl⟩

theorem within_nvs_nvs_nvsCells {P s x v_nvs} (q : P &&& 1572864 = 1572864) (h : Within P s x) :
    Within P s ({ x with nvs := v_nvs } : State) :=
  within_mk q h ⟨.inr rfl, .inr rfl, .inr rfl, .inr rfl, .inr rfl, .inr rfl, .inr rfl, .inr rfl, .inr rfl, .inr rfl, .inr rfl, .inr rfl, .inr
      rfl, .inr rfl, .inr rfl, .inr rfl, .inr rfl, .inr rfl, .inr rfl, .inl rfl, .inl rfl, .inr rfl, .inr rfl, .inr rfl, .inr rfl, .inr rfl,
      .inr rfl, .inr rfl, .inr rfl, .inr rfl, .inr rfl, .inr rfl, .inr rfl, .inr rfl, .inr rfl, .inr rfl, .inr rfl, .inr rfl, .inr rfl, .inr
      rfl, .inr rfl, .inr rfl, .inr rfl, .inr rfl, .inr rfl, .inr rfl, .inr rfl, .inr rfl⟩

theorem within_cp_replies_pair {P s x v_cp v_pair} (q : P &&& 17592186052608 = 17592186052608) (h : Within P s x)
    (e1 : (({ v_cp with acceptNo := 0, replies := [], events := [], launch := [], procs := [], running := [] } : CmdProc)) = ({ x.cp with
        acceptNo := 0, replies := [], events := [], launch := [], procs := [], running := [] } : CmdProc))
    (e2 : (v_cp.acceptNo) = x.cp.acceptNo)
    (e3 : (v_cp.events) = x.cp.events)
    (e4 : ((v_cp.launch, v_cp.procs, v_cp.running)) = (x.cp.launch, x.cp.procs, x.cp.running)) :
    Within P s ({ x with cp := v_cp, pair := v_pair } : State) :=
  within_mk q h ⟨.inr rfl, .inr rfl, .inr rfl, .inr rfl, .inr rfl, .inr rfl, .inr rfl, .inr rfl, .inr rfl, .inr rfl, .inr rfl, .inr rfl, .inr
      e2, .inl rfl, .inr e3, .inr e4, .inr e1, .inr rfl, .inr rfl, .inr rfl, .inr rfl, .inr rfl, .inr rfl, .inr rfl, .inr rfl, .inr rfl, .inr
      rfl, .inr rfl, .inr rfl, .inr rfl, .inr rfl, .inr rfl, .inr rfl, .inr rfl, .inr rfl, .inr rfl, .inr rfl, .inr rfl, .inr rfl, .inr rfl,
      .inr rfl, .inr rfl, .inr rfl, .inr rfl, .inl rfl, .inr rfl, .inr rfl, .inr rfl⟩

theorem
    within_sys_clocks_wind_power_power_yoyo_time_timeRegs_domains_evtIn_evtOut_rings_cp_cp_acceptNo_replies_events_waiting_mbx_log_nvs_nvs_mem_memory_store_sram_aon_fab_lanes_foms_prbs_quads_ports_flows_txs_layers_outputs_outShots_leases_assocs_txAudio_tq_heads_drivers_polls_pair_sync_answer
    {P s x v_sys v_clocks v_wind v_power v_time v_timeRegs v_domains v_evtIn v_evtOut v_rings v_cp v_mbx v_log v_nvs v_mem v_fab v_lanes v_foms
    v_prbs v_quads v_ports v_flows v_txs v_layers v_outputs v_outShots v_leases v_assocs v_txAudio v_tq v_heads v_drivers v_polls v_pair v_sync
    v_answer} (q : P &&& 202310138986494 = 202310138986494) (h : Within P s x)
    (e1 : (v_nvs.cells) = x.nvs.cells) :
    Within P s ({ x with sys := v_sys, clocks := v_clocks, wind := v_wind, power := v_power, time := v_time, timeRegs := v_timeRegs, domains := v_domains, evtIn := v_evtIn, evtOut := v_evtOut, rings := v_rings, cp := v_cp, mbx := v_mbx, log := v_log, nvs := v_nvs, mem := v_mem, fab := v_fab, lanes := v_lanes, foms := v_foms, prbs := v_prbs, quads := v_quads, ports := v_ports, flows := v_flows, txs := v_txs, layers := v_layers, outputs := v_outputs, outShots := v_outShots, leases := v_leases, assocs := v_assocs, txAudio := v_txAudio, tq := v_tq, heads := v_heads, drivers := v_drivers, polls := v_polls, pair := v_pair, sync := v_sync, answer := v_answer } : State) :=
  within_mk q h ⟨.inr rfl, .inl rfl, .inl rfl, .inl rfl, .inl rfl, .inl rfl, .inl rfl, .inl rfl, .inl rfl, .inl rfl, .inl rfl, .inl rfl, .inl
      rfl, .inl rfl, .inl rfl, .inl rfl, .inl rfl, .inl rfl, .inl rfl, .inr e1, .inl rfl, .inl rfl, .inl rfl, .inl rfl, .inl rfl, .inl rfl, .inl
      rfl, .inl rfl, .inl rfl, .inl rfl, .inl rfl, .inl rfl, .inl rfl, .inl rfl, .inl rfl, .inl rfl, .inl rfl, .inl rfl, .inl rfl, .inl rfl,
      .inl rfl, .inl rfl, .inl rfl, .inr rfl, .inl rfl, .inl rfl, .inr rfl, .inl rfl⟩

theorem within_mem_memory_store_sram {P s x v_mem} (q : P &&& 23068672 = 23068672) (h : Within P s x)
    (e1 : (v_mem.aon) = x.mem.aon) :
    Within P s ({ x with mem := v_mem } : State) :=
  within_mk q h ⟨.inr rfl, .inr rfl, .inr rfl, .inr rfl, .inr rfl, .inr rfl, .inr rfl, .inr rfl, .inr rfl, .inr rfl, .inr rfl, .inr rfl, .inr
      rfl, .inr rfl, .inr rfl, .inr rfl, .inr rfl, .inr rfl, .inr rfl, .inr rfl, .inr rfl, .inl rfl, .inl rfl, .inr e1, .inl rfl, .inr rfl, .inr
      rfl, .inr rfl, .inr rfl, .inr rfl, .inr rfl, .inr rfl, .inr rfl, .inr rfl, .inr rfl, .inr rfl, .inr rfl, .inr rfl, .inr rfl, .inr rfl,
      .inr rfl, .inr rfl, .inr rfl, .inr rfl, .inr rfl, .inr rfl, .inr rfl, .inr rfl⟩

theorem within_sys_power_power_cp_cp {P s x v_sys v_power v_cp} (q : P &&& 65554 = 65554) (h : Within P s x)
    (e1 : (v_power.yoyo) = x.power.yoyo)
    (e2 : (v_cp.acceptNo) = x.cp.acceptNo)
    (e3 : (v_cp.replies) = x.cp.replies)
    (e4 : (v_cp.events) = x.cp.events)
    (e5 : ((v_cp.launch, v_cp.procs, v_cp.running)) = (x.cp.launch, x.cp.procs, x.cp.running)) :
    Within P s ({ x with sys := v_sys, power := v_power, cp := v_cp } : State) :=
  within_mk q h ⟨.inr rfl, .inl rfl, .inr rfl, .inr rfl, .inl rfl, .inr e1, .inr rfl, .inr rfl, .inr rfl, .inr rfl, .inr rfl, .inr rfl, .inr e2,
      .inr e3, .inr e4, .inr e5, .inl rfl, .inr rfl, .inr rfl, .inr rfl, .inr rfl, .inr rfl, .inr rfl, .inr rfl, .inr rfl, .inr rfl, .inr rfl,
      .inr rfl, .inr rfl, .inr rfl, .inr rfl, .inr rfl, .inr rfl, .inr rfl, .inr rfl, .inr rfl, .inr rfl, .inr rfl, .inr rfl, .inr rfl, .inr
      rfl, .inr rfl, .inr rfl, .inr rfl, .inr rfl, .inr rfl, .inr rfl, .inr rfl⟩

/-- A part that the mask leaves out is the same. -/
theorem within_same {P : Nat} {s t : State} (h : Within P s t) (p : Part) (e : P.testBit p.ctorIdx = false) : p.same s t :=
  (h p).resolve_left (by simp [e])

/-- What stays within a mask stays within every list of parts that holds the mask's. -/
theorem frame_of {M : Nat} {l : List Part} {s t : State} (h : Within M s t) (e : ∀ p : Part, M.testBit p.ctorIdx = true → p ∈ l) : Frame l s t := by
  intro p hp
  exact (h p).resolve_left (fun k => hp (e p k))

end Sys2Proof.Machine
end

