-- ==== Sys2Proof/Laws/WithinOps.lean ====
section
/-! SUPPORT. Within: the shared operations. One lemma per operation: the parts of the state that it may change. -/

namespace Sys2Proof.Machine

open Sys2Proof.Laws Sys2Proof.Safety

theorem State.post_within {P s0 s1 a2 a3 a4 a5} (q : P &&& 16384 = 16384) (h_1 : Within P s0 s1) :
    Within P s0 (State.post s1 a2 a3 a4 a5) := by
  unfold State.post
  try dsimp only
  exact within_cp_events (land_sub q rfl) h_1 rfl rfl rfl rfl

theorem State.applied_within {P s0 s1 a2 a3 a4 a5 a6 a7} (q : P &&& 16384 = 16384) (h_1 : Within P s0 s1) :
    Within P s0 (State.applied s1 a2 a3 a4 a5 a6 a7) := by
  unfold State.applied
  try dsimp only
  exact within_ite (fun _ => h_1) (fun _ => State.post_within (land_sub q rfl) h_1)

theorem State.procApplied_within {P s0 s1 a2 a3 a4} (q : P &&& 16384 = 16384) (h_1 : Within P s0 s1) :
    Within P s0 (State.procApplied s1 a2 a3 a4) := by
  unfold State.procApplied
  try dsimp only
  exact State.applied_within (land_sub q rfl) h_1

theorem State.dropped_within {P s0 s1 a2 a3 a4} (q : P &&& 16384 = 16384) (h_1 : Within P s0 s1) :
    Within P s0 (State.dropped s1 a2 a3 a4) := by
  unfold State.dropped
  try dsimp only
  exact State.post_within (land_sub q rfl) h_1

theorem State.endProcs_within {P s0 s1 a2 a3 a4 a5 a6} (q : P &&& 49152 = 49152) (h_1 : Within P s0 s1) :
    Within P s0 (State.endProcs s1 a2 a3 a4 a5 a6) := by
  unfold State.endProcs
  try dsimp only
  exact within_foldl (fun _ _ h0 => within_ite (fun _ => State.procApplied_within (land_sub q rfl) h0) (fun _ => State.dropped_within (land_sub
      q rfl) h0)) (within_cp_waiting (land_sub q rfl) h_1 rfl rfl rfl rfl)

theorem State.unsync_within {P s0 s1} (q : P &&& 17592186093568 = 17592186093568) (h_1 : Within P s0 s1) :
    Within P s0 (State.unsync s1) := by
  unfold State.unsync
  try dsimp only
  exact State.endProcs_within (land_sub q rfl) (within_pair (land_sub q rfl) h_1)

theorem State.pairPost_within {P s0 s1 a2 a3 a4} (q : P &&& 16384 = 16384) (h_1 : Within P s0 s1) :
    Within P s0 (State.pairPost s1 a2 a3 a4) := by
  unfold State.pairPost
  try dsimp only
  exact State.post_within (land_sub q rfl) h_1

theorem State.reply_within {P s0 s1 a2 a3 a4 a5 a6 a7} (q : P &&& 17592186101760 = 17592186101760) (h_1 : Within P s0 s1) :
    Within P s0 (State.reply s1 a2 a3 a4 a5 a6 a7) := by
  unfold State.reply
  try dsimp only
  exact within_ite (fun _ => within_ite (fun _ => h_1) (fun _ => State.unsync_within (land_sub q rfl) (State.pairPost_within (land_sub q rfl)
      h_1))) (fun _ => within_ite (fun _ => h_1) (fun _ => within_cp_replies (land_sub q rfl) h_1 rfl rfl rfl rfl))

theorem State.takeNo_within {P s0 s1} (q : P &&& 4096 = 4096) (h_1 : Within P s0 s1) :
    Within P s0 (State.takeNo s1) := by
  unfold State.takeNo
  try dsimp only
  exact within_cp_acceptNo (land_sub q rfl) h_1 rfl rfl rfl rfl

theorem rejectCmd_within {P s0 a1 a2 a3 a4 s1} (q : P &&& 17592186105856 = 17592186105856) (h_1 : Within P s0 s1) :
    Within P s0 (rejectCmd a1 a2 a3 a4 s1) := by
  unfold rejectCmd
  try dsimp only
  exact within_ite (fun _ => State.reply_within (land_sub q rfl) h_1) (fun _ => State.reply_within (land_sub q rfl) (State.takeNo_within
      (land_sub q rfl) h_1))

theorem runNow_within {P s0 a1 a2 a3 s1 a5} (q : P &&& 17592186105856 = 17592186105856) (h_1 : Within P s0 s1) (h_a5 : ∀ y1, Within P s0 y1 →
    Within P s0 (a5 y1).1) :
    Within P s0 (runNow a1 a2 a3 s1 a5) := by
  unfold runNow
  try dsimp only
  split
  · exact rejectCmd_within (land_sub q rfl) h_1
  · exact State.reply_within (land_sub q rfl) (h_a5 _ (State.takeNo_within (land_sub q rfl) h_1))

theorem runRead_within {P s0 a1 a2 a3 s1 a5} (q : P &&& 17592186105856 = 17592186105856) (h_1 : Within P s0 s1) :
    Within P s0 (runRead a1 a2 a3 s1 a5) := by
  unfold runRead
  try dsimp only
  exact runNow_within (land_sub q rfl) h_1 (fun _ h0 => h0)

theorem runLater_within {P s0 a1 a2 a3 a4 a5 s1 a7} (q : P &&& 17592186105856 = 17592186105856) (h_1 : Within P s0 s1) (h_a7 : ∀ y1, ∀ y2, Within
    P s0 y2 → Within P s0 (a7 y1 y2)) :
    Within P s0 (runLater a1 a2 a3 a4 a5 s1 a7) := by
  unfold runLater
  try dsimp only
  split
  · exact rejectCmd_within (land_sub q rfl) h_1
  · exact h_a7 _ _ (State.takeNo_within (land_sub q rfl) h_1)

theorem State.addRunning_within {P s0 s1 a2} (q : P &&& 32768 = 32768) (h_1 : Within P s0 s1) :
    Within P s0 (State.addRunning s1 a2) := by
  unfold State.addRunning
  try dsimp only
  exact within_cp_waiting (land_sub q rfl) h_1 rfl rfl rfl rfl

theorem State.setHead_within {P s0 s1 a2 a3} (q : P &&& 1099511627776 = 1099511627776) (h_1 : Within P s0 s1) :
    Within P s0 (State.setHead s1 a2 a3) := by
  unfold State.setHead
  try dsimp only
  exact within_heads (land_sub q rfl) h_1

theorem State.modHead_within {P s0 s1 a2 a3} (q : P &&& 1099511627776 = 1099511627776) (h_1 : Within P s0 s1) :
    Within P s0 (State.modHead s1 a2 a3) := by
  unfold State.modHead
  try dsimp only
  exact State.setHead_within (land_sub q rfl) h_1

theorem State.postSkips_within {P s0 s1 a2 a3} (q : P &&& 1099511644160 = 1099511644160) (h_1 : Within P s0 s1) :
    Within P s0 (State.postSkips s1 a2 a3) := by
  unfold State.postSkips
  try dsimp only
  refine within_ite (fun _ => h_1) (fun _ => ?_)
  split
  · exact h_1
  · exact State.post_within (land_sub q rfl) (State.modHead_within (land_sub q rfl) h_1)

theorem State.sendMsg_within {P s0 s1 a2 a3} (q : P &&& 17592186044416 = 17592186044416) (h_1 : Within P s0 s1) :
    Within P s0 (State.sendMsg s1 a2 a3) := by
  unfold State.sendMsg
  try dsimp only
  exact within_pair (land_sub q rfl) h_1

theorem State.setCells_within0 {P s0 s1 a3} (q : P &&& 2097152 = 2097152) (h_1 : Within P s0 s1) :
    Within P s0 (State.setCells s1 0 a3) := by
  unfold State.setCells
  try dsimp only
  exact within_pos rfl (within_mem_store (land_sub q rfl) h_1 rfl rfl rfl)

theorem State.setMarks_within {P s0 s1 a2 a3} (q : P &&& 16777216 = 16777216) (h_1 : Within P s0 s1) :
    Within P s0 (State.setMarks s1 a2 a3) := by
  unfold State.setMarks
  try dsimp only
  exact within_ite (fun _ => within_mem_memory (land_sub q rfl) h_1 rfl rfl rfl) (fun _ => within_ite (fun _ => within_mem_memory (land_sub q
      rfl) h_1 rfl rfl rfl) (fun _ => within_mem_memory (land_sub q rfl) h_1 rfl rfl rfl))

theorem State.memCorrected_within {P s0 s1 a2 a3} (q : P &&& 16793600 = 16793600) (h_1 : Within P s0 s1) :
    Within P s0 (State.memCorrected s1 a2 a3) := by
  unfold State.memCorrected
  try dsimp only
  exact within_ite (fun _ => within_mem_memory (land_sub q rfl) h_1 rfl rfl rfl) (fun _ => State.post_within (land_sub q rfl) (within_mem_memory
      (land_sub q rfl) h_1 rfl rfl rfl))

theorem State.memUncorrectable_within {P s0 s1 a2 a3} (q : P &&& 16793600 = 16793600) (h_1 : Within P s0 s1) :
    Within P s0 (State.memUncorrectable s1 a2 a3) := by
  unfold State.memUncorrectable
  try dsimp only
  exact State.post_within (land_sub q rfl) (within_mem_memory (land_sub q rfl) h_1 rfl rfl rfl)

theorem State.checkWord_within {P s0 s1 a2 a3} (q : P &&& 16793600 = 16793600) (h_1 : Within P s0 s1) :
    Within P s0 (State.checkWord s1 a2 a3).2 := by
  unfold State.checkWord
  try dsimp only
  split
  · exact h_1
  · exact State.memCorrected_within (land_sub q rfl) (State.setMarks_within (land_sub q rfl) h_1)
  · exact State.memUncorrectable_within (land_sub q rfl) h_1

theorem State.writeWord_within0 {P s0 s1 a3 a4} (q : P &&& 18890752 = 18890752) (h_1 : Within P s0 s1) :
    Within P s0 (State.writeWord s1 0 a3 a4).2 := by
  unfold State.writeWord
  try dsimp only
  exact keepsAt_ite (P := fun x : _ × State => Within P s0 x.2) (fun _ => State.setCells_within0 (land_sub q rfl) (State.setMarks_within
      (land_sub q rfl) h_1)) (fun _ => keepsAt_ite (P := fun x : _ × State => Within P s0 x.2) (fun _ => h_1) (fun _ => keepsAt_ite (P := fun x
      : _ × State => Within P s0 x.2) (fun _ => State.checkWord_within (land_sub q rfl) h_1) (fun _ => State.setCells_within0 (land_sub q rfl)
      (State.checkWord_within (land_sub q rfl) h_1))))

theorem State.writePart_within0 {P s0 s1 a3 a4} (q : P &&& 18890752 = 18890752) (h_1 : Within P s0 s1) :
    Within P s0 (State.writePart s1 0 a3 a4).2 := by
  unfold State.writePart
  try dsimp only
  exact keepsAt_foldl (P := fun x : _ × State => Within P s0 x.2) (fun _ _ h0 => State.writeWord_within0 (land_sub q rfl) h0) h_1

theorem State.writeWhole_within0 {P s0 s1 a3 a4} (q : P &&& 18874368 = 18874368) (h_1 : Within P s0 s1) :
    Within P s0 (State.writeWhole s1 0 a3 a4) := by
  unfold State.writeWhole
  try dsimp only
  exact State.setCells_within0 (land_sub q rfl) (State.setMarks_within (land_sub q rfl) h_1)

theorem State.writeMem_within0 {P s0 s1 a3 a4} (q : P &&& 18890752 = 18890752) (h_1 : Within P s0 s1) :
    Within P s0 (State.writeMem s1 0 a3 a4).2 := by
  unfold State.writeMem
  try dsimp only
  exact State.writePart_within0 (land_sub q rfl) (within_ite (fun _ => State.writePart_within0 (land_sub q rfl) h_1) (fun _ =>
      State.writeWhole_within0 (land_sub q rfl) (State.writePart_within0 (land_sub q rfl) h_1)))

theorem State.breach_within {P s0 s1 a2 a3 a4 a5} (q : P &&& 1168231120896 = 1168231120896) (h_1 : Within P s0 s1) :
    Within P s0 (State.breach s1 a2 a3 a4 a5) := by
  unfold State.breach
  try dsimp only
  exact within_ite (fun _ => State.setHead_within (land_sub q rfl) h_1) (fun _ => State.post_within (land_sub q rfl) (within_leases (land_sub q
      rfl) (State.setHead_within (land_sub q rfl) h_1)))

theorem State.guardedWrite_within {P s0 s1 a2 a3} (q : P &&& 1168249995264 = 1168249995264) (h_1 : Within P s0 s1) :
    Within P s0 (State.guardedWrite s1 a2 a3).2 := by
  unfold State.guardedWrite
  try dsimp only
  exact keepsAt_ite (P := fun x : _ × State => Within P s0 x.2) (fun _ => within_foldl (fun _ _ h1 => State.breach_within (land_sub q rfl) h1)
      (State.writeMem_within0 (land_sub q rfl) h_1)) (fun _ => within_foldl (fun _ _ h1 => State.modHead_within (land_sub q rfl) h1) h_1)

theorem State.readMem_within {P s0 s1 a2 a3 a4} (q : P &&& 16793600 = 16793600) (h_1 : Within P s0 s1) :
    Within P s0 (State.readMem s1 a2 a3 a4).2.2 := by
  unfold State.readMem
  try dsimp only
  exact keepsAt_foldl (P := fun x : _ × State => Within P s0 x.2) (fun _ _ h0 => State.checkWord_within (land_sub q rfl) h0) h_1

theorem State.getMem_within {P s0 s1 a2 a3 a4} (q : P &&& 16793600 = 16793600) (h_1 : Within P s0 s1) :
    Within P s0 (State.getMem s1 a2 a3 a4).2 := by
  unfold State.getMem
  try dsimp only
  exact State.readMem_within (land_sub q rfl) h_1

theorem State.snapRow_within {P s0 s1 a2 a3 a4} (q : P &&& 1168250028032 = 1168250028032) (h_1 : Within P s0 s1) :
    Within P s0 (State.snapRow s1 a2 a3 a4) := by
  unfold State.snapRow
  try dsimp only
  refine within_ite (fun _ => h_1) (fun _ => ?_)
  split
  · exact h_1
  · exact within_ite (fun _ => within_foldl (fun _ _ h3 => State.procApplied_within (land_sub q rfl) h3) (within_cp_waiting (land_sub q rfl)
        (within_foldl (fun _ _ h4 => State.guardedWrite_within (land_sub q rfl) (State.getMem_within (land_sub q rfl) h4)) h_1) rfl rfl rfl
        rfl)) (fun _ => within_foldl (fun _ _ h3 => State.guardedWrite_within (land_sub q rfl) (State.getMem_within (land_sub q rfl) h3)) h_1)

theorem State.setCluster_within {P s0 s1 a2 a3} (q : P &&& 549755813888 = 549755813888) (h_1 : Within P s0 s1) :
    Within P s0 (State.setCluster s1 a2 a3) := by
  unfold State.setCluster
  try dsimp only
  exact within_tq (land_sub q rfl) h_1

theorem State.removeItems_within {P s0 s1 a2} (q : P &&& 549755813888 = 549755813888) (h_1 : Within P s0 s1) :
    Within P s0 (State.removeItems s1 a2) := by
  unfold State.removeItems
  try dsimp only
  exact within_foldl (fun _ _ h0 => State.setCluster_within (land_sub q rfl) h0) (within_tq (land_sub q rfl) h_1)

theorem State.putMem_within0 {P s0 s1 a3 a4} (q : P &&& 18890752 = 18890752) (h_1 : Within P s0 s1) :
    Within P s0 (State.putMem s1 0 a3 a4) := by
  unfold State.putMem
  try dsimp only
  exact State.writeMem_within0 (land_sub q rfl) h_1

theorem State.setFlow_within {P s0 s1 a2 a3 a4} (q : P &&& 2147483648 = 2147483648) (h_1 : Within P s0 s1) :
    Within P s0 (State.setFlow s1 a2 a3 a4) := by
  unfold State.setFlow
  try dsimp only
  exact within_flows (land_sub q rfl) h_1

theorem State.putSlot_within {P s0 s1 a2 a3 a4} (q : P &&& 2166374400 = 2166374400) (h_1 : Within P s0 s1) :
    Within P s0 (State.putSlot s1 a2 a3 a4) := by
  unfold State.putSlot
  try dsimp only
  split
  · exact State.putMem_within0 (land_sub q rfl) (State.setFlow_within (land_sub q rfl) h_1)
  · exact State.setFlow_within (land_sub q rfl) h_1

theorem State.releaseHeld_within {P s0 s1 a2} (q : P &&& 2166374400 = 2166374400) (h_1 : Within P s0 s1) :
    Within P s0 (State.releaseHeld s1 a2) := by
  unfold State.releaseHeld
  try dsimp only
  exact within_foldl (fun _ _ h0 => State.putSlot_within (land_sub q rfl) h0) h_1

theorem State.retire_within {P s0 s1 a2} (q : P &&& 1101678002176 = 1101678002176) (h_1 : Within P s0 s1) :
    Within P s0 (State.retire s1 a2) := by
  unfold State.retire
  try dsimp only
  exact within_foldl (fun _ _ h0 => within_ite (fun _ => h0) (fun _ => State.modHead_within (land_sub q rfl) (State.releaseHeld_within (land_sub
      q rfl) h0))) h_1

theorem State.setTile_within {P s0 s1 a2 a3} (q : P &&& 549755813888 = 549755813888) (h_1 : Within P s0 s1) :
    Within P s0 (State.setTile s1 a2 a3) := by
  unfold State.setTile
  try dsimp only
  exact within_tq (land_sub q rfl) h_1

theorem State.abandonC_within {P s0 s1 a2} (q : P &&& 1651433816064 = 1651433816064) (h_1 : Within P s0 s1) :
    Within P s0 (State.abandonC s1 a2) := by
  unfold State.abandonC
  try dsimp only
  exact within_ite (fun _ => h_1) (fun _ => State.retire_within (land_sub q rfl) (State.modHead_within (land_sub q rfl) (within_tq (land_sub q
      rfl) (within_foldl (fun _ _ h3 => within_ite (fun _ => State.setTile_within (land_sub q rfl) h3) (fun _ => h3)) (State.removeItems_within
      (land_sub q rfl) h_1)))))

theorem State.skipRow_within {P s0 s1 a2 a3 a4 a5} (q : P &&& 19312339369984 = 19312339369984) (h_1 : Within P s0 s1) :
    Within P s0 (State.skipRow s1 a2 a3 a4 a5) := by
  unfold State.skipRow
  try dsimp only
  exact within_ite (fun _ => h_1) (fun _ => State.postSkips_within (land_sub q rfl) (within_ite (fun _ => State.sendMsg_within (land_sub q rfl)
      (State.snapRow_within (land_sub q rfl) (State.modHead_within (land_sub q rfl) (within_foldl (fun _ _ h6 => State.abandonC_within (land_sub
      q rfl) h6) (within_tq (land_sub q rfl) (State.removeItems_within (land_sub q rfl) h_1)))))) (fun _ => State.snapRow_within (land_sub q
      rfl) (State.modHead_within (land_sub q rfl) (within_foldl (fun _ _ h5 => State.abandonC_within (land_sub q rfl) h5) (within_tq (land_sub q
      rfl) (State.removeItems_within (land_sub q rfl) h_1)))))))

theorem State.resetRows_within {P s0 s1 a2} (q : P &&& 19312339369984 = 19312339369984) (h_1 : Within P s0 s1) :
    Within P s0 (State.resetRows s1 a2) := by
  unfold State.resetRows
  try dsimp only
  exact within_foldl (fun _ _ h0 => within_foldl (fun _ _ h1 => within_ite (fun _ => h1) (fun _ => State.skipRow_within (land_sub q rfl) h1)) h0) h_1

theorem State.dropEntries_within {P s0 s1 a2 a3} (q : P &&& 49152 = 49152) (h_1 : Within P s0 s1) :
    Within P s0 (State.dropEntries s1 a2 a3) := by
  unfold State.dropEntries
  try dsimp only
  exact within_foldl (fun _ _ h0 => State.dropped_within (land_sub q rfl) h0) (within_cp_waiting (land_sub q rfl) h_1 rfl rfl rfl rfl)

theorem State.mapTiles_within {P s0 s1 a2 a3} (q : P &&& 549755813888 = 549755813888) (h_1 : Within P s0 s1) :
    Within P s0 (State.mapTiles s1 a2 a3) := by
  unfold State.mapTiles
  try dsimp only
  exact within_tq (land_sub q rfl) h_1

theorem State.dropFrame_within {P s0 s1 a2 a3} (q : P &&& 1651433816064 = 1651433816064) (h_1 : Within P s0 s1) :
    Within P s0 (State.dropFrame s1 a2 a3) := by
  unfold State.dropFrame
  try dsimp only
  exact State.retire_within (land_sub q rfl) (State.mapTiles_within (land_sub q rfl) (State.removeItems_within (land_sub q rfl) h_1))

theorem State.dropFrom_within {P s0 s1 a2 a3} (q : P &&& 1651433816064 = 1651433816064) (h_1 : Within P s0 s1) :
    Within P s0 (State.dropFrom s1 a2 a3) := by
  unfold State.dropFrom
  try dsimp only
  exact State.modHead_within (land_sub q rfl) (within_foldl (fun _ _ h1 => State.dropFrame_within (land_sub q rfl) h1) h_1)

theorem State.freeNext_within {P s0 s1 a2} (q : P &&& 1099511627776 = 1099511627776) (h_1 : Within P s0 s1) :
    Within P s0 (State.freeNext s1 a2) := by
  unfold State.freeNext
  try dsimp only
  exact State.modHead_within (land_sub q rfl) h_1

theorem State.stopHead_within {P s0 s1 a2} (q : P &&& 1651433848832 = 1651433848832) (h_1 : Within P s0 s1) :
    Within P s0 (State.stopHead s1 a2) := by
  unfold State.stopHead
  try dsimp only
  exact within_ite (fun _ => h_1) (fun _ => within_ite (fun _ => State.dropEntries_within (land_sub q rfl) (State.endProcs_within (land_sub q
      rfl) (State.dropFrom_within (land_sub q rfl) (State.modHead_within (land_sub q rfl) h_1)))) (fun _ => State.freeNext_within (land_sub q
      rfl) (State.dropEntries_within (land_sub q rfl) (State.endProcs_within (land_sub q rfl) (State.dropFrom_within (land_sub q rfl)
      (State.modHead_within (land_sub q rfl) h_1))))))

theorem State.sendHello_within {P s0 s1} (q : P &&& 17592186044416 = 17592186044416) (h_1 : Within P s0 s1) :
    Within P s0 (State.sendHello s1) := by
  unfold State.sendHello
  try dsimp only
  exact State.sendMsg_within (land_sub q rfl) h_1

theorem State.linkFresh_within {P s0 s1} (q : P &&& 52776558141440 = 52776558141440) (h_1 : Within P s0 s1) :
    Within P s0 (State.linkFresh s1) := by
  unfold State.linkFresh
  try dsimp only
  exact within_ite (fun _ => State.sendHello_within (land_sub q rfl) (within_cp_replies_pair_sync (land_sub q rfl) h_1 rfl rfl rfl rfl)) (fun _
      => within_cp_replies_pair_sync (land_sub q rfl) h_1 rfl rfl rfl rfl)

theorem State.pairDown_within {P s0 s1} (q : P &&& 52776558190592 = 52776558190592) (h_1 : Within P s0 s1) :
    Within P s0 (State.pairDown s1) := by
  unfold State.pairDown
  try dsimp only
  exact within_ite (fun _ => State.linkFresh_within (land_sub q rfl) h_1) (fun _ => within_ite (fun _ => State.pairPost_within (land_sub q rfl)
      (within_ite (fun _ => within_pair (land_sub q rfl) (State.pairPost_within (land_sub q rfl) (State.linkFresh_within (land_sub q rfl) h_1)))
      (fun _ => within_ite (fun _ => State.unsync_within (land_sub q rfl) (State.pairPost_within (land_sub q rfl) (State.linkFresh_within
      (land_sub q rfl) h_1))) (fun _ => State.pairPost_within (land_sub q rfl) (State.linkFresh_within (land_sub q rfl) h_1))))) (fun _ =>
      within_ite (fun _ => within_pair (land_sub q rfl) (State.pairPost_within (land_sub q rfl) (State.linkFresh_within (land_sub q rfl) h_1)))
      (fun _ => within_ite (fun _ => State.unsync_within (land_sub q rfl) (State.pairPost_within (land_sub q rfl) (State.linkFresh_within
      (land_sub q rfl) h_1))) (fun _ => State.pairPost_within (land_sub q rfl) (State.linkFresh_within (land_sub q rfl) h_1)))))

theorem rescan_within {P s0 s1} (q : P &&& 1048576 = 1048576) (h_1 : Within P s0 s1) :
    Within P s0 (rescan s1) := by
  unfold rescan
  try dsimp only
  exact within_nvs_nvs (land_sub q rfl) h_1 rfl

theorem State.setDomain_within {P s0 s1 a2 a3} (q : P &&& 256 = 256) (h_1 : Within P s0 s1) :
    Within P s0 (State.setDomain s1 a2 a3) := by
  unfold State.setDomain
  try dsimp only
  exact within_domains (land_sub q rfl) h_1

theorem State.domainState_within {P s0 s1 a2 a3} (q : P &&& 16640 = 16640) (h_1 : Within P s0 s1) :
    Within P s0 (State.domainState s1 a2 a3) := by
  unfold State.domainState
  try dsimp only
  exact within_ite (fun _ => h_1) (fun _ => State.post_within (land_sub q rfl) (State.setDomain_within (land_sub q rfl) h_1))

theorem State.jumpRefused_within {P s0 s1 a2 a3} (q : P &&& 16448 = 16448) (h_1 : Within P s0 s1) :
    Within P s0 (State.jumpRefused s1 a2 a3) := by
  unfold State.jumpRefused
  try dsimp only
  exact State.post_within (land_sub q rfl) (within_time (land_sub q rfl) h_1)

theorem State.switchRefused_within {P s0 s1 a2} (q : P &&& 16448 = 16448) (h_1 : Within P s0 s1) :
    Within P s0 (State.switchRefused s1 a2) := by
  unfold State.switchRefused
  try dsimp only
  exact within_ite (fun _ => State.jumpRefused_within (land_sub q rfl) h_1) (fun _ => h_1)

theorem State.takeDomain_within {P s0 s1 a2 a3} (q : P &&& 64 = 64) (h_1 : Within P s0 s1) :
    Within P s0 (State.takeDomain s1 a2 a3) := by
  unfold State.takeDomain
  try dsimp only
  exact within_time (land_sub q rfl) h_1

theorem State.forceDomain_within {P s0 s1} (q : P &&& 128 = 128) (h_1 : Within P s0 s1) :
    Within P s0 (State.forceDomain s1) := by
  unfold State.forceDomain
  try dsimp only
  exact within_timeRegs (land_sub q rfl) h_1

theorem State.seamEntries_within {P s0 s1 a2} (q : P &&& 32768 = 32768) (h_1 : Within P s0 s1) :
    Within P s0 (State.seamEntries s1 a2) := by
  unfold State.seamEntries
  try dsimp only
  exact within_cp_waiting (land_sub q rfl) h_1 rfl rfl rfl rfl

theorem State.setEvtOut_within {P s0 s1 a2 a3} (q : P &&& 1024 = 1024) (h_1 : Within P s0 s1) :
    Within P s0 (State.setEvtOut s1 a2 a3) := by
  unfold State.setEvtOut
  try dsimp only
  exact within_evtOut (land_sub q rfl) h_1

theorem State.seamPins_within {P s0 s1} (q : P &&& 1024 = 1024) (h_1 : Within P s0 s1) :
    Within P s0 (State.seamPins s1) := by
  unfold State.seamPins
  try dsimp only
  exact within_foldl (fun _ _ h0 => within_ite (fun _ => h0) (fun _ => State.setEvtOut_within (land_sub q rfl) h0)) h_1

theorem State.setOutput_within {P s0 s1 a2 a3} (q : P &&& 17179869184 = 17179869184) (h_1 : Within P s0 s1) :
    Within P s0 (State.setOutput s1 a2 a3) := by
  unfold State.setOutput
  try dsimp only
  exact within_outputs (land_sub q rfl) h_1

theorem State.seamOutputs_within {P s0 s1} (q : P &&& 17179869184 = 17179869184) (h_1 : Within P s0 s1) :
    Within P s0 (State.seamOutputs s1) := by
  unfold State.seamOutputs
  try dsimp only
  refine within_foldl (fun _ _ h0 => ?_) h_1
  split
  · exact State.setOutput_within (land_sub q rfl) h0
  · exact h0

theorem State.seamHead_within {P s0 s1 a2 a3} (q : P &&& 1651433816064 = 1651433816064) (h_1 : Within P s0 s1) :
    Within P s0 (State.seamHead s1 a2 a3) := by
  unfold State.seamHead
  try dsimp only
  exact within_ite (fun _ => h_1) (fun _ => within_ite (fun _ => State.modHead_within (land_sub q rfl) h_1) (fun _ => State.modHead_within
      (land_sub q rfl) (within_foldl (fun _ _ h3 => State.dropFrame_within (land_sub q rfl) h3) (State.modHead_within (land_sub q rfl) h_1))))

theorem State.setTx_within {P s0 s1 a2 a3 a4} (q : P &&& 4294967296 = 4294967296) (h_1 : Within P s0 s1) :
    Within P s0 (State.setTx s1 a2 a3 a4) := by
  unfold State.setTx
  try dsimp only
  exact within_txs (land_sub q rfl) h_1

theorem State.seamTx_within {P s0 s1 a2 a3} (q : P &&& 4294967296 = 4294967296) (h_1 : Within P s0 s1) :
    Within P s0 (State.seamTx s1 a2 a3) := by
  unfold State.seamTx
  try dsimp only
  split
  · exact within_ite (fun _ => h_1) (fun _ => State.setTx_within (land_sub q rfl) h_1)
  · exact h_1

theorem State.seamFlows_within {P s0 s1 a2} (q : P &&& 1655728783360 = 1655728783360) (h_1 : Within P s0 s1) :
    Within P s0 (State.seamFlows s1 a2) := by
  unfold State.seamFlows
  try dsimp only
  exact within_foldl (fun _ _ h0 => State.seamTx_within (land_sub q rfl) h0) (within_foldl (fun _ _ h1 => State.seamHead_within (land_sub q rfl)
      h1) h_1)

theorem State.stepTp_within {P s0 s1 a2} (q : P &&& 1672908686400 = 1672908686400) (h_1 : Within P s0 s1) :
    Within P s0 (State.stepTp s1 a2) := by
  unfold State.stepTp
  try dsimp only
  exact State.seamEntries_within (land_sub q rfl) (State.seamPins_within (land_sub q rfl) (State.seamOutputs_within (land_sub q rfl)
      (State.seamFlows_within (land_sub q rfl) (within_time (land_sub q rfl) h_1))))

theorem State.forceValue_within {P s0 s1 a2} (q : P &&& 1672908686528 = 1672908686528) (h_1 : Within P s0 s1) :
    Within P s0 (State.forceValue s1 a2) := by
  unfold State.forceValue
  try dsimp only
  exact within_ite (fun _ => within_timeRegs (land_sub q rfl) h_1) (fun _ => State.stepTp_within (land_sub q rfl) h_1)

theorem State.enqueue_within {P s0 s1 a2} (q : P &&& 32768 = 32768) (h_1 : Within P s0 s1) :
    Within P s0 (State.enqueue s1 a2) := by
  unfold State.enqueue
  try dsimp only
  exact within_cp_waiting (land_sub q rfl) h_1 rfl rfl rfl rfl

theorem runNowT_within {P s0 a1 a2 a3 a4 a5 s1 a7} (q : P &&& 17592186105856 = 17592186105856) (h_1 : Within P s0 s1) (h_a7 : ∀ y1, Within P s0 y1
    → Within P s0 (a7 y1)) :
    Within P s0 (runNowT a1 a2 a3 a4 a5 s1 a7) := by
  unfold runNowT
  try dsimp only
  split
  · exact rejectCmd_within (land_sub q rfl) h_1
  · exact within_ite (fun _ => State.reply_within (land_sub q rfl) (State.enqueue_within (land_sub q rfl) (State.takeNo_within (land_sub q rfl)
        h_1))) (fun _ => State.reply_within (land_sub q rfl) (h_a7 _ (State.takeNo_within (land_sub q rfl) h_1)))

theorem State.evtOutApply_within {P s0 s1 a2} (q : P &&& 1024 = 1024) (h_1 : Within P s0 s1) :
    Within P s0 (State.evtOutApply s1 a2) := by
  unfold State.evtOutApply
  try dsimp only
  exact within_ite (fun _ => State.setEvtOut_within (land_sub q rfl) h_1) (fun _ => State.setEvtOut_within (land_sub q rfl) h_1)

theorem State.setEvtIn_within {P s0 s1 a2 a3} (q : P &&& 512 = 512) (h_1 : Within P s0 s1) :
    Within P s0 (State.setEvtIn s1 a2 a3) := by
  unfold State.setEvtIn
  try dsimp only
  exact within_evtIn (land_sub q rfl) h_1

theorem State.legInactive_within {P s0 s1 a2 a3 a4} (q : P &&& 2147500032 = 2147500032) (h_1 : Within P s0 s1) :
    Within P s0 (State.legInactive s1 a2 a3 a4) := by
  unfold State.legInactive
  try dsimp only
  exact within_ite (fun _ => h_1) (fun _ => within_ite (fun _ => State.post_within (land_sub q rfl) (State.post_within (land_sub q rfl)
      (State.setFlow_within (land_sub q rfl) h_1))) (fun _ => State.post_within (land_sub q rfl) (State.setFlow_within (land_sub q rfl) h_1)))

theorem State.legsOffPort_within {P s0 s1 a2} (q : P &&& 2147500032 = 2147500032) (h_1 : Within P s0 s1) :
    Within P s0 (State.legsOffPort s1 a2) := by
  unfold State.legsOffPort
  try dsimp only
  exact within_foldl (fun _ _ h0 => within_foldl (fun _ _ h1 => State.legInactive_within (land_sub q rfl) h1) h0) h_1

theorem State.setPort_within {P s0 s1 a2 a3} (q : P &&& 1073741824 = 1073741824) (h_1 : Within P s0 s1) :
    Within P s0 (State.setPort s1 a2 a3) := by
  unfold State.setPort
  try dsimp only
  exact within_ports (land_sub q rfl) h_1

theorem State.setLane_within {P s0 s1 a2 a3} (q : P &&& 67108864 = 67108864) (h_1 : Within P s0 s1) :
    Within P s0 (State.setLane s1 a2 a3) := by
  unfold State.setLane
  try dsimp only
  exact within_lanes (land_sub q rfl) h_1

theorem State.portDrop_within {P s0 s1 a2 a3} (q : P &&& 1140867072 = 1140867072) (h_1 : Within P s0 s1) :
    Within P s0 (State.portDrop s1 a2 a3) := by
  unfold State.portDrop
  try dsimp only
  exact within_ite (fun _ => State.post_within (land_sub q rfl) (State.setPort_within (land_sub q rfl) (within_foldl (fun _ _ h3 =>
      State.setLane_within (land_sub q rfl) h3) h_1))) (fun _ => State.setPort_within (land_sub q rfl) (within_foldl (fun _ _ h2 =>
      State.setLane_within (land_sub q rfl) h2) h_1))

theorem State.closeSlot_within {P s0 s1 a2 a3 a4} (q : P &&& 2166374400 = 2166374400) (h_1 : Within P s0 s1) :
    Within P s0 (State.closeSlot s1 a2 a3 a4) := by
  unfold State.closeSlot
  try dsimp only
  exact within_ite (fun _ => h_1) (fun _ => State.putSlot_within (land_sub q rfl) (State.setFlow_within (land_sub q rfl) h_1))

theorem State.closeAll_within {P s0 s1 a2} (q : P &&& 2166374400 = 2166374400) (h_1 : Within P s0 s1) :
    Within P s0 (State.closeAll s1 a2) := by
  unfold State.closeAll
  try dsimp only
  exact within_foldl (fun _ _ h0 => State.closeSlot_within (land_sub q rfl) h0) h_1

theorem runBound_within {P s0 a1 a2 a3 a4 a5 a6 a7 a8 a9 s1 a11 a12} (q : P &&& 17592186105856 = 17592186105856) (h_1 : Within P s0 s1) (h_a11 : ∀
    y1, ∀ y2, Within P s0 y2 → Within P s0 (a11 y1 y2)) :
    Within P s0 (runBound a1 a2 a3 a4 a5 a6 a7 a8 a9 s1 a11 a12) := by
  unfold runBound
  try dsimp only
  split
  · exact rejectCmd_within (land_sub q rfl) h_1
  · exact within_ite (fun _ => State.reply_within (land_sub q rfl) (h_a11 _ _ (State.takeNo_within (land_sub q rfl) h_1))) (fun _ =>
        State.reply_within (land_sub q rfl) (State.enqueue_within (land_sub q rfl) (State.takeNo_within (land_sub q rfl) h_1)))

theorem State.entryApplied_within {P s0 s1 a2 a3 a4} (q : P &&& 16384 = 16384) (h_1 : Within P s0 s1) :
    Within P s0 (State.entryApplied s1 a2 a3 a4) := by
  unfold State.entryApplied
  try dsimp only
  exact State.applied_within (land_sub q rfl) h_1

theorem State.postSwitched_within {P s0 s1 a2 a3 a4 a5 a6} (q : P &&& 16384 = 16384) (h_1 : Within P s0 s1) :
    Within P s0 (State.postSwitched s1 a2 a3 a4 a5 a6) := by
  unfold State.postSwitched
  try dsimp only
  exact State.post_within (land_sub q rfl) h_1

theorem State.setLayer_within {P s0 s1 a2 a3} (q : P &&& 8589934592 = 8589934592) (h_1 : Within P s0 s1) :
    Within P s0 (State.setLayer s1 a2 a3) := by
  unfold State.setLayer
  try dsimp only
  exact within_layers (land_sub q rfl) h_1

theorem State.setDest_within {P s0 s1 a2 a3} (q : P &&& 25769803776 = 25769803776) (h_1 : Within P s0 s1) :
    Within P s0 (State.setDest s1 a2 a3) := by
  unfold State.setDest
  try dsimp only
  exact within_ite (fun _ => State.setLayer_within (land_sub q rfl) h_1) (fun _ => State.setOutput_within (land_sub q rfl) h_1)

theorem State.dropDeferred_within {P s0 s1 a2 a3} (q : P &&& 25769820160 = 25769820160) (h_1 : Within P s0 s1) :
    Within P s0 (State.dropDeferred s1 a2 a3) := by
  unfold State.dropDeferred
  try dsimp only
  split
  · exact h_1
  · exact State.dropped_within (land_sub q rfl) (State.setDest_within (land_sub q rfl) h_1)

theorem State.routeAtOnce_within {P s0 s1 a2 a3 a4} (q : P &&& 25769820160 = 25769820160) (h_1 : Within P s0 s1) :
    Within P s0 (State.routeAtOnce s1 a2 a3 a4) := by
  unfold State.routeAtOnce
  try dsimp only
  exact State.entryApplied_within (land_sub q rfl) (State.postSwitched_within (land_sub q rfl) (State.setDest_within (land_sub q rfl)
      (State.dropDeferred_within (land_sub q rfl) h_1)))

theorem withStore_within {P s0 a1 a2 a3 s1 a5} (q : P &&& 17592186105856 = 17592186105856) (h_1 : Within P s0 s1) (h_a5 : ∀ y1, Within P s0 y1 →
    Within P s0 (a5 y1)) :
    Within P s0 (withStore a1 a2 a3 s1 a5) := by
  unfold withStore
  try dsimp only
  exact within_ite (fun _ => h_a5 _ h_1) (fun _ => runLater_within (land_sub q rfl) h_1 (fun _ _ h1 => State.addRunning_within (land_sub q rfl) h1))

theorem State.logFault_within {P s0 s1 a2 a3 a4} (q : P &&& 262144 = 262144) (h_1 : Within P s0 s1) :
    Within P s0 (State.logFault s1 a2 a3 a4) := by
  unfold State.logFault
  try dsimp only
  exact within_log (land_sub q rfl) h_1

theorem State.failCmd_within {P s0 s1 a2 a3} (q : P &&& 17592186368000 = 17592186368000) (h_1 : Within P s0 s1) :
    Within P s0 (State.failCmd s1 a2 a3) := by
  unfold State.failCmd
  try dsimp only
  exact rejectCmd_within (land_sub q rfl) (State.logFault_within (land_sub q rfl) h_1)

theorem withBuffer_within {P s0 a1 a2 a3 a4 a5 a6 s1 a8} (q : P &&& 17592203145216 = 17592203145216) (h_1 : Within P s0 s1) (h_a8 : ∀ y1, ∀ y2,
    Within P s0 y2 → Within P s0 (a8 y1 y2)) :
    Within P s0 (withBuffer a1 a2 a3 a4 a5 a6 s1 a8) := by
  unfold withBuffer
  try dsimp only
  exact within_ite (fun _ => h_a8 _ _ h_1) (fun _ => withStore_within (land_sub q rfl) h_1 (fun _ h1 => within_ite (fun _ =>
      State.failCmd_within (land_sub q rfl) (State.readMem_within (land_sub q rfl) h1)) (fun _ => h_a8 _ _ (State.readMem_within (land_sub q
      rfl) h1))))

theorem State.outputApply_within {P s0 s1 a2 a3} (q : P &&& 21474836480 = 21474836480) (h_1 : Within P s0 s1) :
    Within P s0 (State.outputApply s1 a2 a3) := by
  unfold State.outputApply
  try dsimp only
  exact within_ite (fun _ => State.setTx_within (land_sub q rfl) (State.setOutput_within (land_sub q rfl) h_1)) (fun _ => State.setOutput_within
      (land_sub q rfl) h_1)

theorem State.layerApply_within {P s0 s1 a2} (q : P &&& 8589934592 = 8589934592) (h_1 : Within P s0 s1) :
    Within P s0 (State.layerApply s1 a2) := by
  unfold State.layerApply
  try dsimp only
  exact State.setLayer_within (land_sub q rfl) h_1

theorem State.coefApply_within {P s0 s1 a2 a3 a4 a5} (q : P &&& 25769803776 = 25769803776) (h_1 : Within P s0 s1) :
    Within P s0 (State.coefApply s1 a2 a3 a4 a5) := by
  unfold State.coefApply
  try dsimp only
  exact State.setDest_within (land_sub q rfl) h_1

theorem State.freeLease_within {P s0 s1 a2 a3} (q : P &&& 68719493120 = 68719493120) (h_1 : Within P s0 s1) :
    Within P s0 (State.freeLease s1 a2 a3) := by
  unfold State.freeLease
  try dsimp only
  exact State.post_within (land_sub q rfl) (within_leases (land_sub q rfl) h_1)

theorem State.endLease_within {P s0 s1 a2} (q : P &&& 68719493120 = 68719493120) (h_1 : Within P s0 s1) :
    Within P s0 (State.endLease s1 a2) := by
  unfold State.endLease
  try dsimp only
  split
  · exact h_1
  · exact within_ite (fun _ => State.freeLease_within (land_sub q rfl) h_1) (fun _ => within_ite (fun _ => State.freeLease_within (land_sub q
        rfl) h_1) (fun _ => within_leases (land_sub q rfl) h_1))

theorem State.presentApply_within {P s0 s1 a2 a3} (q : P &&& 77309427712 = 77309427712) (h_1 : Within P s0 s1) :
    Within P s0 (State.presentApply s1 a2 a3) := by
  unfold State.presentApply
  try dsimp only
  split
  · exact within_ite (fun _ => State.setLayer_within (land_sub q rfl) h_1) (fun _ => State.endLease_within (land_sub q rfl)
        (State.setLayer_within (land_sub q rfl) h_1))
  · exact State.setLayer_within (land_sub q rfl) h_1

theorem State.presentAccept_within {P s0 s1 a2} (q : P &&& 68719525888 = 68719525888) (h_1 : Within P s0 s1) :
    Within P s0 (State.presentAccept s1 a2) := by
  unfold State.presentAccept
  try dsimp only
  refine within_foldl (fun _ _ h0 => ?_) ?_
  · split
    · split
      · exact within_ite (fun _ => h0) (fun _ => State.freeLease_within (land_sub q rfl) h0)
      · exact h0
    · exact h0
  · split
    · exact within_leases (land_sub q rfl) (State.dropEntries_within (land_sub q rfl) h_1)
    · split
      · exact within_leases (land_sub q rfl) (State.dropEntries_within (land_sub q rfl) h_1)
      · exact State.dropEntries_within (land_sub q rfl) h_1

theorem State.assocApply_within {P s0 s1 a2 a3 a4} (q : P &&& 137438953472 = 137438953472) (h_1 : Within P s0 s1) :
    Within P s0 (State.assocApply s1 a2 a3 a4) := by
  unfold State.assocApply
  try dsimp only
  exact within_assocs (land_sub q rfl) h_1

theorem State.audioSwitch_within {P s0 s1 a2 a3 a4} (q : P &&& 1374389534720 = 1374389534720) (h_1 : Within P s0 s1) :
    Within P s0 (State.audioSwitch s1 a2 a3 a4) := by
  unfold State.audioSwitch
  try dsimp only
  refine within_ite (fun _ => ?_) (fun _ => ?_)
  · refine within_ite (fun _ => h_1) (fun _ => ?_)
    split
    · exact State.setHead_within (land_sub q rfl) h_1
    · exact h_1
  · split
    · exact h_1
    · exact within_txAudio (land_sub q rfl) h_1

theorem State.audioHeadApply_within {P s0 s1 a2 a3} (q : P &&& 1374389534720 = 1374389534720) (h_1 : Within P s0 s1) :
    Within P s0 (State.audioHeadApply s1 a2 a3) := by
  unfold State.audioHeadApply
  try dsimp only
  split
  · exact within_ite (fun _ => State.setHead_within (land_sub q rfl) h_1) (fun _ => State.audioSwitch_within (land_sub q rfl)
        (State.setHead_within (land_sub q rfl) h_1))
  · exact State.setHead_within (land_sub q rfl) h_1

theorem State.audioTxApply_within {P s0 s1 a2 a3 a4 a5} (q : P &&& 274877906944 = 274877906944) (h_1 : Within P s0 s1) :
    Within P s0 (State.audioTxApply s1 a2 a3 a4 a5) := by
  unfold State.audioTxApply
  try dsimp only
  exact within_txAudio (land_sub q rfl) h_1

theorem State.clearBanks_within {P s0 s1 a2 a3} (q : P &&& 20971520 = 20971520) (h_1 : Within P s0 s1) :
    Within P s0 (State.clearBanks s1 a2 a3) := by
  unfold State.clearBanks
  try dsimp only
  exact within_mem_memory_sram (land_sub q rfl) h_1 rfl rfl

theorem State.takeBanks_within {P s0 s1 a2 a3} (q : P &&& 20971520 = 20971520) (h_1 : Within P s0 s1) :
    Within P s0 (State.takeBanks s1 a2 a3) := by
  unfold State.takeBanks
  try dsimp only
  exact within_ite (fun _ => h_1) (fun _ => State.clearBanks_within (land_sub q rfl) h_1)

theorem State.takeTiles_within {P s0 s1 a2 a3 a4} (q : P &&& 549755813888 = 549755813888) (h_1 : Within P s0 s1) :
    Within P s0 (State.takeTiles s1 a2 a3 a4) := by
  unfold State.takeTiles
  try dsimp only
  exact within_tq (land_sub q rfl) h_1

theorem State.configNow_within {P s0 s1 a2 a3} (q : P &&& 1649288413184 = 1649288413184) (h_1 : Within P s0 s1) :
    Within P s0 (State.configNow s1 a2 a3) := by
  unfold State.configNow
  try dsimp only
  exact State.modHead_within (land_sub q rfl) (State.takeBanks_within (land_sub q rfl) (State.takeTiles_within (land_sub q rfl) h_1))

theorem State.replaceTiming_within {P s0 s1 a2} (q : P &&& 1099511676928 = 1099511676928) (h_1 : Within P s0 s1) :
    Within P s0 (State.replaceTiming s1 a2) := by
  unfold State.replaceTiming
  try dsimp only
  exact State.freeNext_within (land_sub q rfl) (State.dropEntries_within (land_sub q rfl) h_1)

theorem State.dropBanks_within {P s0 s1 a2 a3} (q : P &&& 20971520 = 20971520) (h_1 : Within P s0 s1) :
    Within P s0 (State.dropBanks s1 a2 a3) := by
  unfold State.dropBanks
  try dsimp only
  exact within_ite (fun _ => h_1) (fun _ => State.clearBanks_within (land_sub q rfl) h_1)

theorem State.freeTiles_within {P s0 s1 a2 a3} (q : P &&& 549755813888 = 549755813888) (h_1 : Within P s0 s1) :
    Within P s0 (State.freeTiles s1 a2 a3) := by
  unfold State.freeTiles
  try dsimp only
  exact within_tq (land_sub q rfl) h_1

theorem State.unconfig_within {P s0 s1 a2} (q : P &&& 1649288413184 = 1649288413184) (h_1 : Within P s0 s1) :
    Within P s0 (State.unconfig s1 a2) := by
  unfold State.unconfig
  try dsimp only
  exact State.dropBanks_within (land_sub q rfl) (State.modHead_within (land_sub q rfl) (State.freeTiles_within (land_sub q rfl) h_1))

theorem nvsKick_within {P s0 s1} (q : P &&& 1048576 = 1048576) (h_1 : Within P s0 s1) :
    Within P s0 (nvsKick s1) := by
  unfold nvsKick
  try dsimp only
  split
  · exact within_nvs_nvs (land_sub q rfl) h_1 rfl
  · exact within_nvs_nvs (land_sub q rfl) h_1 rfl
  · exact h_1

theorem nvsTask_within {P s0 s1 a2} (q : P &&& 1048576 = 1048576) (h_1 : Within P s0 s1) :
    Within P s0 (nvsTask s1 a2) := by
  unfold nvsTask
  try dsimp only
  exact nvsKick_within (land_sub q rfl) (within_nvs_nvs (land_sub q rfl) h_1 rfl)

theorem incCounter_within {P s0 s1 a2} (q : P &&& 1048576 = 1048576) (h_1 : Within P s0 s1) :
    Within P s0 (incCounter s1 a2) := by
  unfold incCounter
  try dsimp only
  exact nvsTask_within (land_sub q rfl) h_1

theorem State.forgetItems_within {P s0 s1 a2 a3} (q : P &&& 549755813888 = 549755813888) (h_1 : Within P s0 s1) :
    Within P s0 (State.forgetItems s1 a2 a3) := by
  unfold State.forgetItems
  try dsimp only
  exact within_tq (land_sub q rfl) h_1

theorem commitShutdown_within {P s0 s1 a2 a3} (q : P &&& 1048576 = 1048576) (h_1 : Within P s0 s1) :
    Within P s0 (commitShutdown s1 a2 a3) := by
  unfold commitShutdown
  try dsimp only
  exact nvsTask_within (land_sub q rfl) h_1

theorem State.putRows_within0 {P s0 s1 a3} (q : P &&& 18890752 = 18890752) (h_1 : Within P s0 s1) :
    Within P s0 (State.putRows s1 0 a3) := by
  unfold State.putRows
  try dsimp only
  exact within_foldl (fun _ _ h0 => State.putMem_within0 (land_sub q rfl) h0) h_1

theorem State.prepareLedger_within {P s0 s1 a2} (q : P &&& 1649286332416 = 1649286332416) (h_1 : Within P s0 s1) :
    Within P s0 (State.prepareLedger s1 a2) := by
  unfold State.prepareLedger
  try dsimp only
  split
  · exact h_1
  · exact State.modHead_within (land_sub q rfl) (State.mapTiles_within (land_sub q rfl) (State.putRows_within0 (land_sub q rfl) h_1))

theorem State.startHead_within {P s0 s1 a2} (q : P &&& 1649287380992 = 1649287380992) (h_1 : Within P s0 s1) :
    Within P s0 (State.startHead s1 a2) := by
  unfold State.startHead
  try dsimp only
  exact within_ite (fun _ => State.post_within (land_sub q rfl) (incCounter_within (land_sub q rfl) (State.modHead_within (land_sub q rfl)
      (State.modHead_within (land_sub q rfl) (State.forgetItems_within (land_sub q rfl) (commitShutdown_within (land_sub q rfl)
      (State.prepareLedger_within (land_sub q rfl) h_1))))))) (fun _ => State.modHead_within (land_sub q rfl) (State.modHead_within (land_sub q
      rfl) (State.forgetItems_within (land_sub q rfl) (commitShutdown_within (land_sub q rfl) (State.prepareLedger_within (land_sub q rfl)
      h_1)))))

theorem State.addProc_within {P s0 s1 a2} (q : P &&& 32768 = 32768) (h_1 : Within P s0 s1) :
    Within P s0 (State.addProc s1 a2) := by
  unfold State.addProc
  try dsimp only
  exact within_cp_waiting (land_sub q rfl) h_1 rfl rfl rfl rfl

theorem State.pictureApply_within {P s0 s1 a2 a3} (q : P &&& 1099511627776 = 1099511627776) (h_1 : Within P s0 s1) :
    Within P s0 (State.pictureApply s1 a2 a3) := by
  unfold State.pictureApply
  try dsimp only
  exact State.modHead_within (land_sub q rfl) h_1

theorem runProc_within {P s0 a1 a2 a3 a4 s1 a6} (q : P &&& 17592186105856 = 17592186105856) (h_1 : Within P s0 s1) (h_a6 : ∀ y1, ∀ y2, Within P s0
    y2 → Within P s0 (a6 y1 y2)) :
    Within P s0 (runProc a1 a2 a3 a4 s1 a6) := by
  unfold runProc
  try dsimp only
  split
  · exact rejectCmd_within (land_sub q rfl) h_1
  · exact h_a6 _ _ (State.reply_within (land_sub q rfl) (State.takeNo_within (land_sub q rfl) h_1))

theorem State.finish_within {P s0 s1 a2 a3 a4} (q : P &&& 17592186101760 = 17592186101760) (h_1 : Within P s0 s1) :
    Within P s0 (State.finish s1 a2 a3 a4) := by
  unfold State.finish
  try dsimp only
  exact within_ite (fun _ => h_1) (fun _ => State.reply_within (land_sub q rfl) (within_cp_waiting (land_sub q rfl) h_1 rfl rfl rfl rfl))

theorem State.setDriver_within {P s0 s1 a2 a3} (q : P &&& 2199023255552 = 2199023255552) (h_1 : Within P s0 s1) :
    Within P s0 (State.setDriver s1 a2 a3) := by
  unfold State.setDriver
  try dsimp only
  exact within_drivers (land_sub q rfl) h_1

theorem State.handoverStart_within {P s0 s1} (q : P &&& 52776558133248 = 52776558133248) (h_1 : Within P s0 s1) :
    Within P s0 (State.handoverStart s1) := by
  unfold State.handoverStart
  try dsimp only
  exact State.sendMsg_within (land_sub q rfl) (within_sync (land_sub q rfl) h_1)

theorem State.drawNat_within {P s0 s1} (q : P &&& 70368744177664 = 70368744177664) (h_1 : Within P s0 s1) :
    Within P s0 (State.drawNat s1).2 := by
  unfold State.drawNat
  try dsimp only
  exact within_free (land_sub q rfl) h_1

theorem State.autoHandover_within {P s0 s1} (q : P &&& 123145302310912 = 123145302310912) (h_1 : Within P s0 s1) :
    Within P s0 (State.autoHandover s1) := by
  unfold State.autoHandover
  try dsimp only
  exact within_ite (fun _ => within_ite (fun _ => State.handoverStart_within (land_sub q rfl) (State.drawNat_within (land_sub q rfl) h_1)) (fun
      _ => State.drawNat_within (land_sub q rfl) h_1)) (fun _ => h_1)

theorem State.linkTo_within {P s0 s1 a2 a3 a4} (q : P &&& 125344325615616 = 125344325615616) (h_1 : Within P s0 s1) :
    Within P s0 (State.linkTo s1 a2 a3 a4) := by
  unfold State.linkTo
  try dsimp only
  split
  · exact State.endProcs_within (land_sub q rfl) (State.post_within (land_sub q rfl) (State.setDriver_within (land_sub q rfl) (within_ite (fun _
        => State.autoHandover_within (land_sub q rfl) (State.post_within (land_sub q rfl) h_1)) (fun _ => h_1))))
  · exact State.endProcs_within (land_sub q rfl) (State.post_within (land_sub q rfl) (State.setDriver_within (land_sub q rfl) (within_ite (fun _
        => State.autoHandover_within (land_sub q rfl) (State.post_within (land_sub q rfl) h_1)) (fun _ => h_1))))
  · exact State.endProcs_within (land_sub q rfl) (State.setDriver_within (land_sub q rfl) (within_ite (fun _ => State.autoHandover_within
        (land_sub q rfl) (State.post_within (land_sub q rfl) h_1)) (fun _ => h_1)))
  · exact State.setDriver_within (land_sub q rfl) (within_ite (fun _ => State.autoHandover_within (land_sub q rfl) (State.post_within (land_sub
        q rfl) h_1)) (fun _ => h_1))

theorem State.activateNow_within {P s0 s1 a2} (q : P &&& 1099511627776 = 1099511627776) (h_1 : Within P s0 s1) :
    Within P s0 (State.activateNow s1 a2) := by
  unfold State.activateNow
  try dsimp only
  exact State.modHead_within (land_sub q rfl) h_1

theorem State.postMura_within {P s0 s1 a2 a3 a4} (q : P &&& 16384 = 16384) (h_1 : Within P s0 s1) :
    Within P s0 (State.postMura s1 a2 a3 a4) := by
  unfold State.postMura
  try dsimp only
  exact State.post_within (land_sub q rfl) h_1

theorem State.muraApply_within {P s0 s1 a2 a3} (q : P &&& 1099511644160 = 1099511644160) (h_1 : Within P s0 s1) :
    Within P s0 (State.muraApply s1 a2 a3) := by
  unfold State.muraApply
  try dsimp only
  exact within_ite (fun _ => State.modHead_within (land_sub q rfl) h_1) (fun _ => State.postMura_within (land_sub q rfl) (State.modHead_within
      (land_sub q rfl) h_1))

theorem State.ledgerApply_within {P s0 s1 a2 a3 a4 a5} (q : P &&& 1099511627776 = 1099511627776) (h_1 : Within P s0 s1) :
    Within P s0 (State.ledgerApply s1 a2 a3 a4 a5) := by
  unfold State.ledgerApply
  try dsimp only
  exact State.modHead_within (land_sub q rfl) h_1

theorem State.clearApply_within {P s0 s1 a2} (q : P &&& 1099511627776 = 1099511627776) (h_1 : Within P s0 s1) :
    Within P s0 (State.clearApply s1 a2) := by
  unfold State.clearApply
  try dsimp only
  exact State.modHead_within (land_sub q rfl) h_1

theorem State.vcomIdle_within {P s0 s1 a2} (q : P &&& 1099511627776 = 1099511627776) (h_1 : Within P s0 s1) :
    Within P s0 (State.vcomIdle s1 a2) := by
  unfold State.vcomIdle
  try dsimp only
  exact State.modHead_within (land_sub q rfl) h_1

theorem State.viewsNow_within {P s0 s1 a2 a3 a4} (q : P &&& 1099511627776 = 1099511627776) (h_1 : Within P s0 s1) :
    Within P s0 (State.viewsNow s1 a2 a3 a4) := by
  unfold State.viewsNow
  try dsimp only
  exact State.modHead_within (land_sub q rfl) h_1

theorem State.linkTrain_within {P s0 s1 a2 a3} (q : P &&& 125344325615616 = 125344325615616) (h_1 : Within P s0 s1) :
    Within P s0 (State.linkTrain s1 a2 a3) := by
  unfold State.linkTrain
  try dsimp only
  exact State.setDriver_within (land_sub q rfl) (State.linkTo_within (land_sub q rfl) h_1)

theorem State.freshBank_within {P s0 s1 a2 a3 a4} (q : P &&& 16777216 = 16777216) (h_1 : Within P s0 s1) :
    Within P s0 (State.freshBank s1 a2 a3 a4) := by
  unfold State.freshBank
  try dsimp only
  exact within_mem_memory (land_sub q rfl) h_1 rfl rfl rfl

theorem State.tableLoad_within {P s0 s1 a2 a3 a4 a5} (q : P &&& 1099528404992 = 1099528404992) (h_1 : Within P s0 s1) :
    Within P s0 (State.tableLoad s1 a2 a3 a4 a5) := by
  unfold State.tableLoad
  try dsimp only
  exact State.modHead_within (land_sub q rfl) (State.freshBank_within (land_sub q rfl) h_1)

theorem execNvsRead_within {P s0 a1 a2 a3 a4 s1} (q : P &&& 17592186105856 = 17592186105856) (h_1 : Within P s0 s1) :
    WithinO P s0 (execNvsRead a1 a2 a3 a4 s1) := by
  unfold execNvsRead
  try dsimp only
  exact withinO_next (runRead_within (land_sub q rfl) h_1)

theorem execNvsWrite_within {P s0 a1 a2 a3 a4 s1} (q : P &&& 17592187154432 = 17592187154432) (h_1 : Within P s0 s1) :
    WithinO P s0 (execNvsWrite a1 a2 a3 a4 s1) := by
  unfold execNvsWrite
  try dsimp only
  exact withinO_next (runLater_within (land_sub q rfl) h_1 (fun _ _ h0 => nvsTask_within (land_sub q rfl) (State.addRunning_within (land_sub q
      rfl) h0)))

theorem execRecordRead_within {P s0 a1 a2 s1} (q : P &&& 17592186105856 = 17592186105856) (h_1 : Within P s0 s1) :
    WithinO P s0 (execRecordRead a1 a2 s1) := by
  unfold execRecordRead
  try dsimp only
  exact withinO_next (runRead_within (land_sub q rfl) h_1)

theorem execRecordWrite_within {P s0 a1 a2 a3 s1} (q : P &&& 17592187154432 = 17592187154432) (h_1 : Within P s0 s1) :
    WithinO P s0 (execRecordWrite a1 a2 a3 s1) := by
  unfold execRecordWrite
  try dsimp only
  refine withinO_next ?_
  refine within_ite (fun _ => State.reply_within (land_sub q rfl) h_1) (fun _ => ?_)
  refine runLater_within (land_sub q rfl) h_1 (fun _ _ h1 => ?_)
  split
  · exact h1
  · exact nvsTask_within (land_sub q rfl) (State.addRunning_within (land_sub q rfl) h1)

theorem execCounterRead_within {P s0 a1 a2 s1} (q : P &&& 17592186105856 = 17592186105856) (h_1 : Within P s0 s1) :
    WithinO P s0 (execCounterRead a1 a2 s1) := by
  unfold execCounterRead
  try dsimp only
  exact withinO_next (runRead_within (land_sub q rfl) h_1)

theorem State.moveDeque_within {P s0 s1 a2} (q : P &&& 549755813888 = 549755813888) (h_1 : Within P s0 s1) :
    Within P s0 (State.moveDeque s1 a2) := by
  unfold State.moveDeque
  try dsimp only
  split
  · exact within_tq (land_sub q rfl) (State.setCluster_within (land_sub q rfl) (State.setCluster_within (land_sub q rfl) h_1))
  · exact within_tq (land_sub q rfl) (State.setCluster_within (land_sub q rfl) h_1)

theorem State.setYoyo_within {P s0 s1 a2 a3} (q : P &&& 32 = 32) (h_1 : Within P s0 s1) :
    Within P s0 (State.setYoyo s1 a2 a3) := by
  unfold State.setYoyo
  try dsimp only
  exact within_power_yoyo (land_sub q rfl) h_1 rfl

theorem State.setRing_within {P s0 s1 a2 a3} (q : P &&& 2048 = 2048) (h_1 : Within P s0 s1) :
    Within P s0 (State.setRing s1 a2 a3) := by
  unfold State.setRing
  try dsimp only
  exact within_rings (land_sub q rfl) h_1

theorem dbgLockWrite_within {P s0 a1 s1} (q : P &&& 2 = 2) (h_1 : Within P s0 s1) :
    Within P s0 (dbgLockWrite a1 s1) := by
  unfold dbgLockWrite
  try dsimp only
  exact within_ite (fun _ => within_sys (land_sub q rfl) h_1) (fun _ => h_1)

theorem State.bootFailed_within {P s0 s1 a2 a3} (q : P &&& 1310722 = 1310722) (h_1 : Within P s0 s1) :
    Within P s0 (State.bootFailed s1 a2 a3) := by
  unfold State.bootFailed
  try dsimp only
  exact incCounter_within (land_sub q rfl) (State.logFault_within (land_sub q rfl) (within_sys (land_sub q rfl) h_1))

theorem State.bootAccepted_within {P s0 s1 a2} (q : P &&& 1048578 = 1048578) (h_1 : Within P s0 s1) :
    Within P s0 (State.bootAccepted s1 a2) := by
  unfold State.bootAccepted
  try dsimp only
  exact incCounter_within (land_sub q rfl) (within_sys (land_sub q rfl) h_1)

theorem State.setCells_within1 {P s0 s1 a3} (q : P &&& 4194304 = 4194304) (h_1 : Within P s0 s1) :
    Within P s0 (State.setCells s1 1 a3) := by
  unfold State.setCells
  try dsimp only
  exact within_neg (by decide) (within_pos rfl (within_mem_sram (land_sub q rfl) h_1 rfl rfl rfl))

theorem State.writeWord_within1 {P s0 s1 a3 a4} (q : P &&& 20987904 = 20987904) (h_1 : Within P s0 s1) :
    Within P s0 (State.writeWord s1 1 a3 a4).2 := by
  unfold State.writeWord
  try dsimp only
  exact keepsAt_ite (P := fun x : _ × State => Within P s0 x.2) (fun _ => State.setCells_within1 (land_sub q rfl) (State.setMarks_within
      (land_sub q rfl) h_1)) (fun _ => keepsAt_ite (P := fun x : _ × State => Within P s0 x.2) (fun _ => h_1) (fun _ => keepsAt_ite (P := fun x
      : _ × State => Within P s0 x.2) (fun _ => State.checkWord_within (land_sub q rfl) h_1) (fun _ => State.setCells_within1 (land_sub q rfl)
      (State.checkWord_within (land_sub q rfl) h_1))))

theorem State.writePart_within1 {P s0 s1 a3 a4} (q : P &&& 20987904 = 20987904) (h_1 : Within P s0 s1) :
    Within P s0 (State.writePart s1 1 a3 a4).2 := by
  unfold State.writePart
  try dsimp only
  exact keepsAt_foldl (P := fun x : _ × State => Within P s0 x.2) (fun _ _ h0 => State.writeWord_within1 (land_sub q rfl) h0) h_1

theorem State.writeWhole_within1 {P s0 s1 a3 a4} (q : P &&& 20971520 = 20971520) (h_1 : Within P s0 s1) :
    Within P s0 (State.writeWhole s1 1 a3 a4) := by
  unfold State.writeWhole
  try dsimp only
  exact State.setCells_within1 (land_sub q rfl) (State.setMarks_within (land_sub q rfl) h_1)

theorem State.writeMem_within1 {P s0 s1 a3 a4} (q : P &&& 20987904 = 20987904) (h_1 : Within P s0 s1) :
    Within P s0 (State.writeMem s1 1 a3 a4).2 := by
  unfold State.writeMem
  try dsimp only
  exact State.writePart_within1 (land_sub q rfl) (within_ite (fun _ => State.writePart_within1 (land_sub q rfl) h_1) (fun _ =>
      State.writeWhole_within1 (land_sub q rfl) (State.writePart_within1 (land_sub q rfl) h_1)))

theorem State.putMem_within1 {P s0 s1 a3 a4} (q : P &&& 20987904 = 20987904) (h_1 : Within P s0 s1) :
    Within P s0 (State.putMem s1 1 a3 a4) := by
  unfold State.putMem
  try dsimp only
  exact State.writeMem_within1 (land_sub q rfl) h_1

theorem State.readImage_within {P s0 s1 a2} (q : P &&& 20987904 = 20987904) (h_1 : Within P s0 s1) :
    Within P s0 (State.readImage s1 a2).2 := by
  unfold State.readImage
  try dsimp only
  exact within_ite (fun _ => State.putMem_within1 (land_sub q rfl) h_1) (fun _ => h_1)

theorem State.tryImage_within {P s0 s1 a2} (q : P &&& 22298626 = 22298626) (h_1 : Within P s0 s1) :
    Within P s0 (State.tryImage s1 a2) := by
  unfold State.tryImage
  try dsimp only
  exact within_ite (fun _ => State.bootAccepted_within (land_sub q rfl) (State.readImage_within (land_sub q rfl) h_1)) (fun _ =>
      State.bootFailed_within (land_sub q rfl) (State.readImage_within (land_sub q rfl) h_1))

theorem State.pushGo_within {P s0 s1} (q : P &&& 22298626 = 22298626) (h_1 : Within P s0 s1) :
    Within P s0 (State.pushGo s1) := by
  unfold State.pushGo
  try dsimp only
  exact within_ite (fun _ => h_1) (fun _ => within_ite (fun _ => State.bootFailed_within (land_sub q rfl) h_1) (fun _ => State.tryImage_within
      (land_sub q rfl) h_1))

theorem pushCtlWrite_within {P s0 a1 s1} (q : P &&& 22298626 = 22298626) (h_1 : Within P s0 s1) :
    Within P s0 (pushCtlWrite a1 s1) := by
  unfold pushCtlWrite
  try dsimp only
  exact within_ite (fun _ => h_1) (fun _ => within_ite (fun _ => within_sys (land_sub q rfl) h_1) (fun _ => within_ite (fun _ =>
      State.pushGo_within (land_sub q rfl) (within_sys (land_sub q rfl) h_1)) (fun _ => within_sys (land_sub q rfl) h_1)))

theorem pushDataWrite_within {P s0 a1 s1} (q : P &&& 2 = 2) (h_1 : Within P s0 s1) :
    Within P s0 (pushDataWrite a1 s1) := by
  unfold pushDataWrite
  try dsimp only
  exact within_ite (fun _ => h_1) (fun _ => within_sys (land_sub q rfl) h_1)

theorem State.testIgnored_within {P s0 s1 a2} (q : P &&& 67108864 = 67108864) (h_1 : Within P s0 s1) :
    Within P s0 (State.testIgnored s1 a2) := by
  unfold State.testIgnored
  try dsimp only
  exact State.setLane_within (land_sub q rfl) h_1

theorem State.enterTest_within {P s0 s1 a2} (q : P &&& 3288350720 = 3288350720) (h_1 : Within P s0 s1) :
    Within P s0 (State.enterTest s1 a2) := by
  unfold State.enterTest
  try dsimp only
  exact within_ite (fun _ => State.legsOffPort_within (land_sub q rfl) (State.portDrop_within (land_sub q rfl) h_1)) (fun _ => h_1)

theorem laneCtlWrite_within {P s0 a1 a2 s1} (q : P &&& 3288350720 = 3288350720) (h_1 : Within P s0 s1) :
    Within P s0 (laneCtlWrite a1 a2 s1) := by
  unfold laneCtlWrite
  try dsimp only
  exact within_ite (fun _ => h_1) (fun _ => within_ite (fun _ => State.testIgnored_within (land_sub q rfl) h_1) (fun _ => within_ite (fun _ =>
      State.enterTest_within (land_sub q rfl) (State.setLane_within (land_sub q rfl) h_1)) (fun _ => State.setLane_within (land_sub q rfl)
      h_1)))

theorem laneTxWrite_within {P s0 a1 a2 s1} (q : P &&& 67108864 = 67108864) (h_1 : Within P s0 s1) :
    Within P s0 (laneTxWrite a1 a2 s1) := by
  unfold laneTxWrite
  try dsimp only
  exact State.setLane_within (land_sub q rfl) h_1

theorem laneStatusWrite_within {P s0 a1 a2 s1} (q : P &&& 67108864 = 67108864) (h_1 : Within P s0 s1) :
    Within P s0 (laneStatusWrite a1 a2 s1) := by
  unfold laneStatusWrite
  try dsimp only
  exact State.setLane_within (land_sub q rfl) h_1

theorem State.setFom_within {P s0 s1 a2 a3} (q : P &&& 134217728 = 134217728) (h_1 : Within P s0 s1) :
    Within P s0 (State.setFom s1 a2 a3) := by
  unfold State.setFom
  try dsimp only
  exact within_foms (land_sub q rfl) h_1

theorem laneFomWrite_within {P s0 a1 a2 s1} (q : P &&& 134217728 = 134217728) (h_1 : Within P s0 s1) :
    Within P s0 (laneFomWrite a1 a2 s1) := by
  unfold laneFomWrite
  try dsimp only
  exact State.setFom_within (land_sub q rfl) h_1

theorem State.setPrb_within {P s0 s1 a2 a3} (q : P &&& 268435456 = 268435456) (h_1 : Within P s0 s1) :
    Within P s0 (State.setPrb s1 a2 a3) := by
  unfold State.setPrb
  try dsimp only
  exact within_prbs (land_sub q rfl) h_1

theorem prbsCtlWrite_within {P s0 a1 a2 s1} (q : P &&& 3556786176 = 3556786176) (h_1 : Within P s0 s1) :
    Within P s0 (prbsCtlWrite a1 a2 s1) := by
  unfold prbsCtlWrite
  try dsimp only
  exact within_ite (fun _ => h_1) (fun _ => within_ite (fun _ => State.testIgnored_within (land_sub q rfl) h_1) (fun _ => within_ite (fun _ =>
      State.enterTest_within (land_sub q rfl) (State.setPrb_within (land_sub q rfl) h_1)) (fun _ => State.setPrb_within (land_sub q rfl) h_1)))

theorem laneSlipWrite_within {P s0 a1 a2 s1} (q : P &&& 1140867072 = 1140867072) (h_1 : Within P s0 s1) :
    Within P s0 (laneSlipWrite a1 a2 s1) := by
  unfold laneSlipWrite
  try dsimp only
  exact within_ite (fun _ => h_1) (fun _ => within_ite (fun _ => State.setLane_within (land_sub q rfl) h_1) (fun _ => State.setLane_within
      (land_sub q rfl) (within_ite (fun _ => State.portDrop_within (land_sub q rfl) h_1) (fun _ => h_1))))

theorem State.say_within {P s0 s1 a2} (q : P &&& 140737488355328 = 140737488355328) (h_1 : Within P s0 s1) :
    Within P s0 (State.say s1 a2) := by
  unfold State.say
  try dsimp only
  exact within_answer (land_sub q rfl) h_1

theorem prbsErrRead_within {P s0 a1 s1} (q : P &&& 268435456 = 268435456) (h_1 : Within P s0 s1) :
    Within P s0 (prbsErrRead a1 s1).2 := by
  unfold prbsErrRead
  try dsimp only
  exact State.setPrb_within (land_sub q rfl) h_1

theorem execLaneSlip_within {P s0 a1 a2 s1} (q : P &&& 1140867072 = 1140867072) (h_1 : Within P s0 s1) :
    WithinO P s0 (execLaneSlip a1 a2 s1) := by
  unfold execLaneSlip
  try dsimp only
  exact withinO_next (within_ite (fun _ => laneSlipWrite_within (land_sub q rfl) h_1) (fun _ => h_1))

theorem execBitslipEn_within {P s0 a1 a2 s1} (q : P &&& 3288350720 = 3288350720) (h_1 : Within P s0 s1) :
    WithinO P s0 (execBitslipEn a1 a2 s1) := by
  unfold execBitslipEn
  try dsimp only
  exact withinO_next (laneCtlWrite_within (land_sub q rfl) h_1)

theorem execLoopback_within {P s0 a1 a2 s1} (q : P &&& 3288350720 = 3288350720) (h_1 : Within P s0 s1) :
    WithinO P s0 (execLoopback a1 a2 s1) := by
  unfold execLoopback
  try dsimp only
  exact withinO_next (laneCtlWrite_within (land_sub q rfl) h_1)

theorem execGenEn_within {P s0 a1 a2 s1} (q : P &&& 3556786176 = 3556786176) (h_1 : Within P s0 s1) :
    WithinO P s0 (execGenEn a1 a2 s1) := by
  unfold execGenEn
  try dsimp only
  exact withinO_next (prbsCtlWrite_within (land_sub q rfl) h_1)

theorem execCntClr_within {P s0 a1 a2 s1} (q : P &&& 3556786176 = 3556786176) (h_1 : Within P s0 s1) :
    WithinO P s0 (execCntClr a1 a2 s1) := by
  unfold execCntClr
  try dsimp only
  exact withinO_next (prbsCtlWrite_within (land_sub q rfl) h_1)

theorem execPrbsErrRead_within {P s0 a1 s1} (q : P &&& 140737756790784 = 140737756790784) (h_1 : Within P s0 s1) :
    WithinO P s0 (execPrbsErrRead a1 s1) := by
  unfold execPrbsErrRead
  try dsimp only
  exact withinO_next (within_ite (fun _ => State.say_within (land_sub q rfl) (prbsErrRead_within (land_sub q rfl) h_1)) (fun _ => h_1))

theorem State.sayError_within {P s0 s1 a2} (q : P &&& 140737488355328 = 140737488355328) (h_1 : Within P s0 s1) :
    Within P s0 (State.sayError s1 a2) := by
  unfold State.sayError
  try dsimp only
  exact within_answer (land_sub q rfl) h_1

theorem State.laneReset_within {P s0 s1 a2} (q : P &&& 469762048 = 469762048) (h_1 : Within P s0 s1) :
    Within P s0 (State.laneReset s1 a2) := by
  unfold State.laneReset
  try dsimp only
  exact State.setFom_within (land_sub q rfl) (State.setPrb_within (land_sub q rfl) (State.setLane_within (land_sub q rfl) h_1))

theorem State.domainRestart_within {P s0 s1 a2} (q : P &&& 16640 = 16640) (h_1 : Within P s0 s1) :
    Within P s0 (State.domainRestart s1 a2) := by
  unfold State.domainRestart
  try dsimp only
  exact State.setDomain_within (land_sub q rfl) (within_ite (fun _ => h_1) (fun _ => State.domainState_within (land_sub q rfl) h_1))

theorem State.placeItem_within {P s0 s1 a2} (q : P &&& 549755813888 = 549755813888) (h_1 : Within P s0 s1) :
    Within P s0 (State.placeItem s1 a2) := by
  unfold State.placeItem
  try dsimp only
  split
  · exact within_ite (fun _ => State.setCluster_within (land_sub q rfl) h_1) (fun _ => within_tq (land_sub q rfl) h_1)
  · exact within_tq (land_sub q rfl) h_1

theorem State.feed_within {P s0 s1} (q : P &&& 549755813888 = 549755813888) (h_1 : Within P s0 s1) :
    Within P s0 (State.feed s1) := by
  unfold State.feed
  try dsimp only
  exact within_foldl (fun _ _ h0 => State.placeItem_within (land_sub q rfl) h0) (within_tq (land_sub q rfl) h_1)

theorem State.abandonP_within {P s0 s1 a2 a3} (q : P &&& 19312339369984 = 19312339369984) (h_1 : Within P s0 s1) :
    Within P s0 (State.abandonP s1 a2 a3) := by
  unfold State.abandonP
  try dsimp only
  exact State.skipRow_within (land_sub q rfl) (State.modHead_within (land_sub q rfl) (within_tq (land_sub q rfl) (State.removeItems_within
      (land_sub q rfl) h_1)))

theorem scanRecords_within {P s0 s1 a2} (q : P &&& 1130496 = 1130496) (h_1 : Within P s0 s1) :
    Within P s0 (scanRecords s1 a2) := by
  unfold scanRecords
  try dsimp only
  exact within_foldl (fun _ _ h0 => incCounter_within (land_sub q rfl) (within_ite (fun _ => within_cp_cp (land_sub q rfl) h0 rfl rfl rfl rfl)
      (fun _ => within_cp_events (land_sub q rfl) h0 rfl rfl rfl rfl))) (within_nvs_nvs (land_sub q rfl) h_1 rfl)

theorem State.setCells_within2 {P s0 s1 a3} (q : P &&& 8388608 = 8388608) (h_1 : Within P s0 s1) :
    Within P s0 (State.setCells s1 2 a3) := by
  unfold State.setCells
  try dsimp only
  exact within_neg (by decide) (within_neg (by decide) (within_mem_aon (land_sub q rfl) h_1 rfl rfl rfl))

theorem State.writeWord_within2 {P s0 s1 a3 a4} (q : P &&& 25182208 = 25182208) (h_1 : Within P s0 s1) :
    Within P s0 (State.writeWord s1 2 a3 a4).2 := by
  unfold State.writeWord
  try dsimp only
  exact keepsAt_ite (P := fun x : _ × State => Within P s0 x.2) (fun _ => State.setCells_within2 (land_sub q rfl) (State.setMarks_within
      (land_sub q rfl) h_1)) (fun _ => keepsAt_ite (P := fun x : _ × State => Within P s0 x.2) (fun _ => h_1) (fun _ => keepsAt_ite (P := fun x
      : _ × State => Within P s0 x.2) (fun _ => State.checkWord_within (land_sub q rfl) h_1) (fun _ => State.setCells_within2 (land_sub q rfl)
      (State.checkWord_within (land_sub q rfl) h_1))))

theorem State.writePart_within2 {P s0 s1 a3 a4} (q : P &&& 25182208 = 25182208) (h_1 : Within P s0 s1) :
    Within P s0 (State.writePart s1 2 a3 a4).2 := by
  unfold State.writePart
  try dsimp only
  exact keepsAt_foldl (P := fun x : _ × State => Within P s0 x.2) (fun _ _ h0 => State.writeWord_within2 (land_sub q rfl) h0) h_1

theorem State.writeWhole_within2 {P s0 s1 a3 a4} (q : P &&& 25165824 = 25165824) (h_1 : Within P s0 s1) :
    Within P s0 (State.writeWhole s1 2 a3 a4) := by
  unfold State.writeWhole
  try dsimp only
  exact State.setCells_within2 (land_sub q rfl) (State.setMarks_within (land_sub q rfl) h_1)

theorem State.writeMem_within2 {P s0 s1 a3 a4} (q : P &&& 25182208 = 25182208) (h_1 : Within P s0 s1) :
    Within P s0 (State.writeMem s1 2 a3 a4).2 := by
  unfold State.writeMem
  try dsimp only
  exact State.writePart_within2 (land_sub q rfl) (within_ite (fun _ => State.writePart_within2 (land_sub q rfl) h_1) (fun _ =>
      State.writeWhole_within2 (land_sub q rfl) (State.writePart_within2 (land_sub q rfl) h_1)))

theorem execRecordScan_within {P s0 s1} (q : P &&& 1130496 = 1130496) (h_1 : Within P s0 s1) :
    WithinO P s0 (execRecordScan s1) := by
  unfold execRecordScan
  try dsimp only
  exact keepsAt_ite (P := WithinO P s0) (fun _ => withinO_next h_1) (fun _ => withinO_next (within_nvs_nvs (land_sub q rfl) (scanRecords_within
      (land_sub q rfl) h_1) rfl))

theorem State.endLeases_within {P s0 s1 a2} (q : P &&& 68719493120 = 68719493120) (h_1 : Within P s0 s1) :
    Within P s0 (State.endLeases s1 a2) := by
  unfold State.endLeases
  try dsimp only
  exact within_foldl (fun _ _ h0 => State.freeLease_within (land_sub q rfl) h0) h_1

theorem State.freeEngine_within {P s0 s1 a2} (q : P &&& 549755813888 = 549755813888) (h_1 : Within P s0 s1) :
    Within P s0 (State.freeEngine s1 a2) := by
  unfold State.freeEngine
  try dsimp only
  exact within_foldl (fun _ _ h0 => State.setCluster_within (land_sub q rfl) h0) h_1

theorem State.abortItems_within {P s0 s1 a2} (q : P &&& 549755813888 = 549755813888) (h_1 : Within P s0 s1) :
    Within P s0 (State.abortItems s1 a2) := by
  unfold State.abortItems
  try dsimp only
  exact within_ite (fun _ => h_1) (fun _ => State.mapTiles_within (land_sub q rfl) (within_foldl (fun _ _ h2 => State.freeEngine_within
      (land_sub q rfl) h2) h_1))

theorem State.abortHead_within {P s0 s1 a2} (q : P &&& 1651433848832 = 1651433848832) (h_1 : Within P s0 s1) :
    Within P s0 (State.abortHead s1 a2) := by
  unfold State.abortHead
  try dsimp only
  exact State.modHead_within (land_sub q rfl) (State.forgetItems_within (land_sub q rfl) (State.endProcs_within (land_sub q rfl)
      (State.endProcs_within (land_sub q rfl) (State.removeItems_within (land_sub q rfl) (within_foldl (fun _ _ h5 => State.dropFrame_within
      (land_sub q rfl) h5) (State.abortItems_within (land_sub q rfl) h_1))))))

theorem State.haltHead_within {P s0 s1 a2 a3} (q : P &&& 1720153325568 = 1720153325568) (h_1 : Within P s0 s1) :
    Within P s0 (State.haltHead s1 a2 a3) := by
  unfold State.haltHead
  try dsimp only
  exact State.modHead_within (land_sub q rfl) (State.endLeases_within (land_sub q rfl) (State.abortHead_within (land_sub q rfl) h_1))

theorem State.sendLink_within {P s0 s1 a2 a3} (q : P &&& 2199023255552 = 2199023255552) (h_1 : Within P s0 s1) :
    Within P s0 (State.sendLink s1 a2 a3) := by
  unfold State.sendLink
  try dsimp only
  exact State.setDriver_within (land_sub q rfl) h_1

theorem State.broadcast_within {P s0 s1 a2 a3 a4} (q : P &&& 2199023255552 = 2199023255552) (h_1 : Within P s0 s1) :
    Within P s0 (State.broadcast s1 a2 a3 a4) := by
  unfold State.broadcast
  try dsimp only
  exact within_foldl (fun _ _ h0 => State.sendLink_within (land_sub q rfl) h0) h_1

theorem State.drawInt_within {P s0 s1} (q : P &&& 70368744177664 = 70368744177664) (h_1 : Within P s0 s1) :
    Within P s0 (State.drawInt s1).2 := by
  unfold State.drawInt
  try dsimp only
  exact within_free (land_sub q rfl) h_1

theorem State.portCount_within {P s0 s1 a2 a3 a4} (q : P &&& 1073741824 = 1073741824) (h_1 : Within P s0 s1) :
    Within P s0 (State.portCount s1 a2 a3 a4) := by
  unfold State.portCount
  try dsimp only
  exact State.setPort_within (land_sub q rfl) h_1

theorem State.legActive_within {P s0 s1 a2 a3 a4} (q : P &&& 2147500032 = 2147500032) (h_1 : Within P s0 s1) :
    Within P s0 (State.legActive s1 a2 a3 a4) := by
  unfold State.legActive
  try dsimp only
  exact within_ite (fun _ => h_1) (fun _ => within_ite (fun _ => State.post_within (land_sub q rfl) (State.post_within (land_sub q rfl)
      (State.setFlow_within (land_sub q rfl) h_1))) (fun _ => State.post_within (land_sub q rfl) (State.setFlow_within (land_sub q rfl) h_1)))

theorem State.routeSwitch_within {P s0 s1 a2 a3 a4 a5 a6 a7} (q : P &&& 1400159354880 = 1400159354880) (h_1 : Within P s0 s1) :
    Within P s0 (State.routeSwitch s1 a2 a3 a4 a5 a6 a7) := by
  unfold State.routeSwitch
  try dsimp only
  exact State.entryApplied_within (land_sub q rfl) (within_ite (fun _ => State.postSwitched_within (land_sub q rfl) (within_ite (fun _ =>
      State.post_within (land_sub q rfl) (State.setDest_within (land_sub q rfl) h_1)) (fun _ => State.setDest_within (land_sub q rfl) h_1)))
      (fun _ => State.audioSwitch_within (land_sub q rfl) (State.postSwitched_within (land_sub q rfl) (within_ite (fun _ => State.post_within
      (land_sub q rfl) (State.setDest_within (land_sub q rfl) h_1)) (fun _ => State.setDest_within (land_sub q rfl) h_1)))))

theorem State.routeDue_within {P s0 s1 a2 a3 a4 a5 a6} (q : P &&& 1400159354880 = 1400159354880) (h_1 : Within P s0 s1) :
    Within P s0 (State.routeDue s1 a2 a3 a4 a5 a6) := by
  unfold State.routeDue
  try dsimp only
  exact within_ite (fun _ => State.setDest_within (land_sub q rfl) h_1) (fun _ => State.routeSwitch_within (land_sub q rfl) h_1)

theorem State.routeApply_within {P s0 s1 a2 a3 a4} (q : P &&& 1400159354880 = 1400159354880) (h_1 : Within P s0 s1) :
    Within P s0 (State.routeApply s1 a2 a3 a4) := by
  unfold State.routeApply
  try dsimp only
  split
  · exact State.routeDue_within (land_sub q rfl) (State.dropDeferred_within (land_sub q rfl) h_1)
  · exact State.routeAtOnce_within (land_sub q rfl) h_1

theorem State.routeRetry_within {P s0 s1 a2 a3} (q : P &&& 1400159354880 = 1400159354880) (h_1 : Within P s0 s1) :
    Within P s0 (State.routeRetry s1 a2 a3) := by
  unfold State.routeRetry
  try dsimp only
  split
  · exact State.routeDue_within (land_sub q rfl) h_1
  · exact h_1

theorem State.holdSlots_within {P s0 s1 a2} (q : P &&& 2166374400 = 2166374400) (h_1 : Within P s0 s1) :
    Within P s0 (State.holdSlots s1 a2) := by
  unfold State.holdSlots
  try dsimp only
  exact within_foldl (fun _ _ h0 => State.putSlot_within (land_sub q rfl) h0) h_1

theorem State.drawWords_within {P s0 s1 a2} (q : P &&& 70368744177664 = 70368744177664) (h_1 : Within P s0 s1) :
    Within P s0 (State.drawWords s1 a2).2 := by
  unfold State.drawWords
  try dsimp only
  exact keepsAt_foldl (P := fun x : _ × State => Within P s0 x.2) (fun _ _ h0 => State.drawNat_within (land_sub q rfl) h0) h_1

theorem State.checkReads_within {P s0 s1 a2} (q : P &&& 16793600 = 16793600) (h_1 : Within P s0 s1) :
    Within P s0 (State.checkReads s1 a2).2 := by
  unfold State.checkReads
  try dsimp only
  exact keepsAt_ite (P := fun x : _ × State => Within P s0 x.2) (fun _ => h_1) (fun _ => keepsAt_foldl (P := fun x : _ × State => Within P s0
      x.2) (fun _ _ h1 => State.checkWord_within (land_sub q rfl) h1) h_1)

theorem State.putRows_within1 {P s0 s1 a3} (q : P &&& 20987904 = 20987904) (h_1 : Within P s0 s1) :
    Within P s0 (State.putRows s1 1 a3) := by
  unfold State.putRows
  try dsimp only
  exact within_foldl (fun _ _ h0 => State.putMem_within1 (land_sub q rfl) h0) h_1

theorem State.bandLatch_within {P s0 s1 a2 a3} (q : P &&& 1099511644160 = 1099511644160) (h_1 : Within P s0 s1) :
    Within P s0 (State.bandLatch s1 a2 a3) := by
  unfold State.bandLatch
  try dsimp only
  exact within_ite (fun _ => State.setHead_within (land_sub q rfl) h_1) (fun _ => State.post_within (land_sub q rfl) (State.setHead_within
      (land_sub q rfl) h_1))

theorem State.copyEnd_within {P s0 s1 a2} (q : P &&& 1099528404992 = 1099528404992) (h_1 : Within P s0 s1) :
    Within P s0 (State.copyEnd s1 a2) := by
  unfold State.copyEnd
  try dsimp only
  exact State.modHead_within (land_sub q rfl) (State.freshBank_within (land_sub q rfl) h_1)

theorem State.sendBlock_within {P s0 s1 a2 a3} (q : P &&& 17592186044416 = 17592186044416) (h_1 : Within P s0 s1) :
    Within P s0 (State.sendBlock s1 a2 a3) := by
  unfold State.sendBlock
  try dsimp only
  exact within_pair (land_sub q rfl) h_1

theorem State.changePoint_within {P s0 s1 a2} (q : P &&& 201326592 = 201326592) (h_1 : Within P s0 s1) :
    Within P s0 (State.changePoint s1 a2) := by
  unfold State.changePoint
  try dsimp only
  split
  · exact h_1
  · exact State.setFom_within (land_sub q rfl) (State.setLane_within (land_sub q rfl) h_1)

theorem State.linkTimeout_within {P s0 s1 a2} (q : P &&& 125344325615616 = 125344325615616) (h_1 : Within P s0 s1) :
    Within P s0 (State.linkTimeout s1 a2) := by
  unfold State.linkTimeout
  try dsimp only
  exact within_ite (fun _ => h_1) (fun _ => within_ite (fun _ => State.linkTo_within (land_sub q rfl) h_1) (fun _ => State.setDriver_within
      (land_sub q rfl) (State.linkTo_within (land_sub q rfl) h_1)))

theorem State.configTurn_within {P s0 s1 a2} (q : P &&& 2199023255552 = 2199023255552) (h_1 : Within P s0 s1) :
    Within P s0 (State.configTurn s1 a2) := by
  unfold State.configTurn
  try dsimp only
  exact within_ite (fun _ => State.setDriver_within (land_sub q rfl) h_1) (fun _ => h_1)

theorem State.laneReport_within {P s0 s1 a2 a3 a4} (q : P &&& 134217728 = 134217728) (h_1 : Within P s0 s1) :
    Within P s0 (State.laneReport s1 a2 a3 a4) := by
  unfold State.laneReport
  try dsimp only
  exact State.setFom_within (land_sub q rfl) h_1

theorem State.setRenn_within {P s0 s1 a2 a3} (q : P &&& 8796093022208 = 8796093022208) (h_1 : Within P s0 s1) :
    Within P s0 (State.setRenn s1 a2 a3) := by
  unfold State.setRenn
  try dsimp only
  exact within_rennex (land_sub q rfl) h_1

theorem execEyeSample_within {P s0 a1 a2 a3 s1} (q : P &&& 134217728 = 134217728) (h_1 : Within P s0 s1) :
    WithinO P s0 (execEyeSample a1 a2 a3 s1) := by
  unfold execEyeSample
  try dsimp only
  exact withinO_next (within_ite (fun _ => h_1) (fun _ => State.setFom_within (land_sub q rfl) h_1))

theorem afterCommit_within {P s0 s1 a2} (q : P &&& 17592187412480 = 17592187412480) (h_1 : Within P s0 s1) :
    Within P s0 (afterCommit s1 a2) := by
  unfold afterCommit
  try dsimp only
  split
  · exact State.finish_within (land_sub q rfl) h_1
  · exact within_ite (fun _ => State.finish_within (land_sub q rfl) h_1) (fun _ => within_nvs_nvs (land_sub q rfl) h_1 rfl)
  · exact within_ite (fun _ => State.finish_within (land_sub q rfl) h_1) (fun _ => within_ite (fun _ => State.finish_within (land_sub q rfl)
        (within_nvs_nvs (land_sub q rfl) h_1 rfl)) (fun _ => State.finish_within (land_sub q rfl) (State.logFault_within (land_sub q rfl) h_1)))
  · exact within_ite (fun _ => within_nvs_nvs (land_sub q rfl) h_1 rfl) (fun _ => State.logFault_within (land_sub q rfl) h_1)
  · exact within_nvs_nvs (land_sub q rfl) h_1 rfl

theorem commitEnd_within {P s0 s1} (q : P &&& 17592187936768 = 17592187936768) (h_1 : Within P s0 s1) :
    Within P s0 (commitEnd s1) := by
  unfold commitEnd
  try dsimp only
  split
  · exact h_1
  · exact nvsKick_within (land_sub q rfl) (afterCommit_within (land_sub q rfl) (within_ite (fun _ => rescan_within (land_sub q rfl)
        (within_nvs_nvs_nvsCells (land_sub q rfl) h_1)) (fun _ => within_nvs_nvs_nvsCells (land_sub q rfl) h_1)))

theorem execNvsCommitEnd_within {P s0 s1} (q : P &&& 17592187936768 = 17592187936768) (h_1 : Within P s0 s1) :
    WithinO P s0 (execNvsCommitEnd s1) := by
  unfold execNvsCommitEnd
  try dsimp only
  exact withinO_next (commitEnd_within (land_sub q rfl) h_1)

theorem execCounterIncrement_within {P s0 a1 s1} (q : P &&& 1048576 = 1048576) (h_1 : Within P s0 s1) :
    WithinO P s0 (execCounterIncrement a1 s1) := by
  unfold execCounterIncrement
  try dsimp only
  exact withinO_next (within_ite (fun _ => incCounter_within (land_sub q rfl) h_1) (fun _ => h_1))

theorem State.ackMsg_within {P s0 s1} (q : P &&& 17592186044416 = 17592186044416) (h_1 : Within P s0 s1) :
    Within P s0 (State.ackMsg s1) := by
  unfold State.ackMsg
  try dsimp only
  exact State.sendBlock_within (land_sub q rfl) (within_pair (land_sub q rfl) h_1)

theorem execBlockLock_within {P s0 a1 s1} (q : P &&& 201326592 = 201326592) (h_1 : Within P s0 s1) :
    WithinO P s0 (execBlockLock a1 s1) := by
  unfold execBlockLock
  try dsimp only
  exact withinO_next (within_ite (fun _ => h_1) (fun _ => State.setFom_within (land_sub q rfl) (State.setLane_within (land_sub q rfl) h_1)))

theorem execChkSync_within {P s0 a1 a2 s1} (q : P &&& 268435456 = 268435456) (h_1 : Within P s0 s1) :
    WithinO P s0 (execChkSync a1 a2 s1) := by
  unfold execChkSync
  try dsimp only
  exact withinO_next (within_ite (fun _ => h_1) (fun _ => within_ite (fun _ => State.setPrb_within (land_sub q rfl) h_1) (fun _ => within_ite
      (fun _ => State.setPrb_within (land_sub q rfl) h_1) (fun _ => h_1))))

end Sys2Proof.Machine
end

