-- ==== Sys2Proof/Laws/WithinCommands.lean ====
section
/-! SUPPORT. Within: the commands of the rings. One lemma per operation: the parts of the state that it may change. -/

namespace Sys2Proof.Machine

open Sys2Proof.Laws Sys2Proof.Safety

theorem execNop_within {P s0 a1 s1} (q : P &&& 17592186105856 = 17592186105856) (h_1 : Within P s0 s1) :
    WithinO P s0 (execNop a1 s1) := by
  unfold execNop
  try dsimp only
  exact withinO_next (runRead_within (land_sub q rfl) h_1)

theorem execGetInfo_within {P s0 a1 s1} (q : P &&& 17592186105856 = 17592186105856) (h_1 : Within P s0 s1) :
    WithinO P s0 (execGetInfo a1 s1) := by
  unfold execGetInfo
  try dsimp only
  exact withinO_next (runRead_within (land_sub q rfl) h_1)

theorem execEventCtl_within {P s0 a1 a2 a3 a4 a5 s1} (q : P &&& 17592186171392 = 17592186171392) (h_1 : Within P s0 s1) :
    WithinO P s0 (execEventCtl a1 a2 a3 a4 a5 s1) := by
  unfold execEventCtl
  try dsimp only
  exact withinO_next (runNow_within (land_sub q rfl) h_1 (fun _ h0 => within_cp_cp (land_sub q rfl) h0 rfl rfl rfl rfl))

theorem execLogRead_within {P s0 a1 a2 a3 s1} (q : P &&& 17592186105856 = 17592186105856) (h_1 : Within P s0 s1) :
    WithinO P s0 (execLogRead a1 a2 a3 s1) := by
  unfold execLogRead
  try dsimp only
  exact withinO_next (runRead_within (land_sub q rfl) h_1)

theorem execDomainSet_within {P s0 a1 a2 s1} (q : P &&& 17592186106112 = 17592186106112) (h_1 : Within P s0 s1) :
    WithinO P s0 (execDomainSet a1 a2 s1) := by
  unfold execDomainSet
  try dsimp only
  exact withinO_next (runNow_within (land_sub q rfl) h_1 (fun _ h0 => State.setDomain_within (land_sub q rfl) (State.domainState_within
      (land_sub q rfl) (State.setDomain_within (land_sub q rfl) h0))))

theorem execDomainStatus_within {P s0 a1 a2 s1} (q : P &&& 17592186105856 = 17592186105856) (h_1 : Within P s0 s1) :
    WithinO P s0 (execDomainStatus a1 a2 s1) := by
  unfold execDomainStatus
  try dsimp only
  exact withinO_next (runRead_within (land_sub q rfl) h_1)

theorem execTpConfig_within {P s0 a1 a2 s1} (q : P &&& 17592186105920 = 17592186105920) (h_1 : Within P s0 s1) :
    WithinO P s0 (execTpConfig a1 a2 s1) := by
  unfold execTpConfig
  try dsimp only
  exact withinO_next (runNow_within (land_sub q rfl) h_1 (fun _ h0 => within_time (land_sub q rfl) h0))

theorem execTpSelect_within {P s0 a1 a2 s1} (q : P &&& 17592186105920 = 17592186105920) (h_1 : Within P s0 s1) :
    WithinO P s0 (execTpSelect a1 a2 s1) := by
  unfold execTpSelect
  try dsimp only
  exact withinO_next (within_ite (fun _ => State.switchRefused_within (land_sub q rfl) (runNow_within (land_sub q rfl) h_1 (fun _ h2 =>
      State.takeDomain_within (land_sub q rfl) h2))) (fun _ => runNow_within (land_sub q rfl) h_1 (fun _ h1 => State.takeDomain_within (land_sub
      q rfl) h1)))

theorem execTpStep_within {P s0 a1 a2 a3 s1} (q : P &&& 19265094743232 = 19265094743232) (h_1 : Within P s0 s1) :
    WithinO P s0 (execTpStep a1 a2 a3 s1) := by
  unfold execTpStep
  try dsimp only
  exact withinO_next (runNow_within (land_sub q rfl) h_1 (fun _ h0 => within_ite (fun _ => State.forceDomain_within (land_sub q rfl) h0) (fun _
      => State.forceValue_within (land_sub q rfl) h0)))

theorem execEvtOutSet_within {P s0 a1 a2 s1} (q : P &&& 17592186106880 = 17592186106880) (h_1 : Within P s0 s1) :
    WithinO P s0 (execEvtOutSet a1 a2 s1) := by
  unfold execEvtOutSet
  try dsimp only
  exact withinO_next (runNowT_within (land_sub q rfl) h_1 (fun _ h0 => State.evtOutApply_within (land_sub q rfl) h0))

theorem execEvtInSet_within {P s0 a1 a2 a3 a4 a5 s1} (q : P &&& 17592186106368 = 17592186106368) (h_1 : Within P s0 s1) :
    WithinO P s0 (execEvtInSet a1 a2 a3 a4 a5 s1) := by
  unfold execEvtInSet
  try dsimp only
  exact withinO_next (runNow_within (land_sub q rfl) h_1 (fun _ h0 => State.setEvtIn_within (land_sub q rfl) h0))

theorem execEvtInRead_within {P s0 a1 a2 s1} (q : P &&& 17592186106368 = 17592186106368) (h_1 : Within P s0 s1) :
    WithinO P s0 (execEvtInRead a1 a2 s1) := by
  unfold execEvtInRead
  try dsimp only
  exact withinO_next (runNow_within (land_sub q rfl) h_1 (fun _ h0 => State.setEvtIn_within (land_sub q rfl) h0))

theorem execLaunchCancel_within {P s0 a1 a2 a3 s1} (q : P &&& 17592186105856 = 17592186105856) (h_1 : Within P s0 s1) :
    WithinO P s0 (execLaunchCancel a1 a2 a3 s1) := by
  unfold execLaunchCancel
  try dsimp only
  exact withinO_next (runNow_within (land_sub q rfl) h_1 (fun _ h0 => State.dropEntries_within (land_sub q rfl) h0))

theorem quadChange_within {P s0 a1 a2 a3 s1} (q : P &&& 3825221632 = 3825221632) (h_1 : Within P s0 s1) :
    Within P s0 (quadChange a1 a2 a3 s1) := by
  unfold quadChange
  try dsimp only
  exact within_ite (fun _ => h_1) (fun _ => within_foldl (fun _ _ h1 => State.setLane_within (land_sub q rfl) h1) (within_quads (land_sub q rfl)
      (within_foldl (fun _ _ h2 => State.legsOffPort_within (land_sub q rfl) (State.portDrop_within (land_sub q rfl) h2)) h_1)))

theorem execQuadSet_within {P s0 a1 a2 a3 a4 s1} (q : P &&& 17596011311104 = 17596011311104) (h_1 : Within P s0 s1) :
    WithinO P s0 (execQuadSet a1 a2 a3 a4 s1) := by
  unfold execQuadSet
  try dsimp only
  exact withinO_next (runNow_within (land_sub q rfl) h_1 (fun _ h0 => quadChange_within (land_sub q rfl) h0))

theorem execPortSet_within {P s0 a1 a2 s1} (q : P &&& 17593259847680 = 17593259847680) (h_1 : Within P s0 s1) :
    WithinO P s0 (execPortSet a1 a2 s1) := by
  unfold execPortSet
  try dsimp only
  exact withinO_next (runNow_within (land_sub q rfl) h_1 (fun _ h0 => State.setPort_within (land_sub q rfl) h0))

theorem execPortCounters_within {P s0 a1 a2 a3 s1} (q : P &&& 17593259847680 = 17593259847680) (h_1 : Within P s0 s1) :
    WithinO P s0 (execPortCounters a1 a2 a3 s1) := by
  unfold execPortCounters
  try dsimp only
  exact withinO_next (runNow_within (land_sub q rfl) h_1 (fun _ h0 => within_ite (fun _ => State.setPort_within (land_sub q rfl) h0) (fun _ => h0)))

theorem execPortStatus_within {P s0 a1 a2 s1} (q : P &&& 17592186105856 = 17592186105856) (h_1 : Within P s0 s1) :
    WithinO P s0 (execPortStatus a1 a2 s1) := by
  unfold execPortStatus
  try dsimp only
  exact withinO_next (runRead_within (land_sub q rfl) h_1)

theorem State.freshSlots_within {P s0 s1 a2 a3} (q : P &&& 2166374400 = 2166374400) (h_1 : Within P s0 s1) :
    Within P s0 (State.freshSlots s1 a2 a3) := by
  unfold State.freshSlots
  try dsimp only
  exact within_foldl (fun _ _ h0 => State.putSlot_within (land_sub q rfl) h0) (State.setFlow_within (land_sub q rfl) h_1)

theorem flowWrite_within {P s0 a1 s1} (q : P &&& 2166374400 = 2166374400) (h_1 : Within P s0 s1) :
    Within P s0 (flowWrite a1 s1) := by
  unfold flowWrite
  try dsimp only
  split
  · exact within_ite (fun _ => State.freshSlots_within (land_sub q rfl) (State.setFlow_within (land_sub q rfl) h_1)) (fun _ => within_ite (fun _
        => State.putMem_within0 (land_sub q rfl) (State.setFlow_within (land_sub q rfl) h_1)) (fun _ => State.setFlow_within (land_sub q rfl)
        h_1))
  · exact within_ite (fun _ => within_ite (fun _ => State.setFlow_within (land_sub q rfl) h_1) (fun _ => State.freshSlots_within (land_sub q
        rfl) (State.setFlow_within (land_sub q rfl) (State.closeAll_within (land_sub q rfl) h_1)))) (fun _ => within_ite (fun _ =>
        State.putMem_within0 (land_sub q rfl) (State.setFlow_within (land_sub q rfl) h_1)) (fun _ => State.setFlow_within (land_sub q rfl) h_1))

theorem execFlowSet_within {P s0 a1 a2 s1} (q : P &&& 17594352463872 = 17594352463872) (h_1 : Within P s0 s1) :
    WithinO P s0 (execFlowSet a1 a2 s1) := by
  unfold execFlowSet
  try dsimp only
  exact withinO_next (runNow_within (land_sub q rfl) h_1 (fun _ h0 => flowWrite_within (land_sub q rfl) (within_ite (fun _ => within_foldl (fun
      _ _ h3 => State.legInactive_within (land_sub q rfl) h3) h0) (fun _ => h0))))

theorem execFlowEnable_within {P s0 a1 a2 a3 a4 s1} (q : P &&& 17598628556800 = 17598628556800) (h_1 : Within P s0 s1) :
    WithinO P s0 (execFlowEnable a1 a2 a3 a4 s1) := by
  unfold execFlowEnable
  try dsimp only
  exact withinO_next (runNow_within (land_sub q rfl) h_1 (fun _ h0 => keepsAt_ite (P := fun x : State × _ => Within P s0 x.1) (fun _ =>
      State.setFlow_within (land_sub q rfl) (within_ite (fun _ => within_foldl (fun _ _ h4 => State.legInactive_within (land_sub q rfl) h4) h0)
      (fun _ => h0))) (fun _ => State.setTx_within (land_sub q rfl) h0)))

theorem execFlowCounters_within {P s0 a1 a2 a3 a4 s1} (q : P &&& 17598628556800 = 17598628556800) (h_1 : Within P s0 s1) :
    WithinO P s0 (execFlowCounters a1 a2 a3 a4 s1) := by
  unfold execFlowCounters
  try dsimp only
  exact withinO_next (runNow_within (land_sub q rfl) h_1 (fun _ h0 => keepsAt_ite (P := fun x : State × _ => Within P s0 x.1) (fun _ =>
      State.setFlow_within (land_sub q rfl) h0) (fun _ => State.setTx_within (land_sub q rfl) h0)))

theorem execFlowStatus_within {P s0 a1 a2 a3 s1} (q : P &&& 17592186105856 = 17592186105856) (h_1 : Within P s0 s1) :
    WithinO P s0 (execFlowStatus a1 a2 a3 s1) := by
  unfold execFlowStatus
  try dsimp only
  exact withinO_next (runRead_within (land_sub q rfl) h_1)

theorem execTxSet_within {P s0 a1 a2 s1} (q : P &&& 17871358980096 = 17871358980096) (h_1 : Within P s0 s1) :
    WithinO P s0 (execTxSet a1 a2 s1) := by
  unfold execTxSet
  try dsimp only
  exact withinO_next (runNow_within (land_sub q rfl) h_1 (fun _ h0 => within_ite (fun _ => within_txAudio (land_sub q rfl) (State.setTx_within
      (land_sub q rfl) h0)) (fun _ => State.setTx_within (land_sub q rfl) h0)))

theorem execRouteSet_within {P s0 a1 a2 s1} (q : P &&& 17617955909632 = 17617955909632) (h_1 : Within P s0 s1) :
    WithinO P s0 (execRouteSet a1 a2 s1) := by
  unfold execRouteSet
  try dsimp only
  exact withinO_next (runBound_within (land_sub q rfl) h_1 (fun _ _ h0 => State.routeAtOnce_within (land_sub q rfl) h0))

theorem execOutputSet_within {P s0 a1 a2 s1} (q : P &&& 17613677981696 = 17613677981696) (h_1 : Within P s0 s1) :
    WithinO P s0 (execOutputSet a1 a2 s1) := by
  unfold execOutputSet
  try dsimp only
  exact withinO_next (withBuffer_within (land_sub q rfl) h_1 (fun _ _ h0 => runBound_within (land_sub q rfl) h0 (fun _ _ h1 =>
      State.entryApplied_within (land_sub q rfl) (State.outputApply_within (land_sub q rfl) h1))))

theorem execRouteStatus_within {P s0 a1 a2 s1} (q : P &&& 17592186105856 = 17592186105856) (h_1 : Within P s0 s1) :
    WithinO P s0 (execRouteStatus a1 a2 s1) := by
  unfold execRouteStatus
  try dsimp only
  exact withinO_next (runRead_within (land_sub q rfl) h_1)

theorem execLayerSet_within {P s0 a1 a2 s1} (q : P &&& 17600776040448 = 17600776040448) (h_1 : Within P s0 s1) :
    WithinO P s0 (execLayerSet a1 a2 s1) := by
  unfold execLayerSet
  try dsimp only
  exact withinO_next (runBound_within (land_sub q rfl) h_1 (fun _ _ h0 => State.entryApplied_within (land_sub q rfl) (State.layerApply_within
      (land_sub q rfl) h0)))

theorem execLayerCoef_within {P s0 a1 a2 a3 a4 a5 s1} (q : P &&& 17617972948992 = 17617972948992) (h_1 : Within P s0 s1) :
    WithinO P s0 (execLayerCoef a1 a2 a3 a4 a5 s1) := by
  unfold execLayerCoef
  try dsimp only
  exact withinO_next (withBuffer_within (land_sub q rfl) h_1 (fun _ _ h0 => runBound_within (land_sub q rfl) h0 (fun _ _ h1 =>
      State.entryApplied_within (land_sub q rfl) (State.coefApply_within (land_sub q rfl) h1))))

theorem execLayerPresent_within {P s0 a1 a2 s1} (q : P &&& 17669495517184 = 17669495517184) (h_1 : Within P s0 s1) :
    WithinO P s0 (execLayerPresent a1 a2 s1) := by
  unfold execLayerPresent
  try dsimp only
  split
  · exact withinO_next (rejectCmd_within (land_sub q rfl) h_1)
  · exact withinO_next (State.reply_within (land_sub q rfl) (within_ite (fun _ => State.entryApplied_within (land_sub q rfl)
        (State.presentApply_within (land_sub q rfl) (State.presentAccept_within (land_sub q rfl) (State.takeNo_within (land_sub q rfl) h_1))))
        (fun _ => State.enqueue_within (land_sub q rfl) (State.presentAccept_within (land_sub q rfl) (State.takeNo_within (land_sub q rfl)
        h_1)))))

theorem execLeasePolicy_within {P s0 a1 a2 a3 s1} (q : P &&& 18691697733632 = 18691697733632) (h_1 : Within P s0 s1) :
    WithinO P s0 (execLeasePolicy a1 a2 a3 s1) := by
  unfold execLeasePolicy
  try dsimp only
  exact withinO_next (runNow_within (land_sub q rfl) h_1 (fun _ h0 => State.modHead_within (land_sub q rfl) h0))

theorem execLeaseStatus_within {P s0 a1 a2 s1} (q : P &&& 17592186105856 = 17592186105856) (h_1 : Within P s0 s1) :
    WithinO P s0 (execLeaseStatus a1 a2 s1) := by
  unfold execLeaseStatus
  try dsimp only
  exact withinO_next (runRead_within (land_sub q rfl) h_1)

theorem execAudioAssoc_within {P s0 a1 a2 a3 a4 s1} (q : P &&& 17729625059328 = 17729625059328) (h_1 : Within P s0 s1) :
    WithinO P s0 (execAudioAssoc a1 a2 a3 a4 s1) := by
  unfold execAudioAssoc
  try dsimp only
  exact withinO_next (runBound_within (land_sub q rfl) h_1 (fun _ _ h0 => State.entryApplied_within (land_sub q rfl) (State.assocApply_within
      (land_sub q rfl) h0)))

theorem execAudioHead_within {P s0 a1 a2 s1} (q : P &&& 18966575640576 = 18966575640576) (h_1 : Within P s0 s1) :
    WithinO P s0 (execAudioHead a1 a2 s1) := by
  unfold execAudioHead
  try dsimp only
  exact withinO_next (runBound_within (land_sub q rfl) h_1 (fun _ _ h0 => State.entryApplied_within (land_sub q rfl)
      (State.audioHeadApply_within (land_sub q rfl) h0)))

theorem execAudioTx_within {P s0 a1 a2 a3 a4 a5 s1} (q : P &&& 17867064012800 = 17867064012800) (h_1 : Within P s0 s1) :
    WithinO P s0 (execAudioTx a1 a2 a3 a4 a5 s1) := by
  unfold execAudioTx
  try dsimp only
  exact withinO_next (runBound_within (land_sub q rfl) h_1 (fun _ _ h0 => State.entryApplied_within (land_sub q rfl) (State.audioTxApply_within
      (land_sub q rfl) h0)))

theorem execAudioStatus_within {P s0 a1 a2 s1} (q : P &&& 17592186105856 = 17592186105856) (h_1 : Within P s0 s1) :
    WithinO P s0 (execAudioStatus a1 a2 s1) := by
  unfold execAudioStatus
  try dsimp only
  exact withinO_next (runRead_within (land_sub q rfl) h_1)

theorem execHeadConfig_within {P s0 a1 a2 s1} (q : P &&& 19241474519040 = 19241474519040) (h_1 : Within P s0 s1) :
    WithinO P s0 (execHeadConfig a1 a2 s1) := by
  unfold execHeadConfig
  try dsimp only
  refine withinO_next ?_
  split
  · exact runNow_within (land_sub q rfl) h_1 (fun _ h1 => State.configNow_within (land_sub q rfl) h1)
  · exact runBound_within (land_sub q rfl) (within_ite (fun _ => within_ite (fun _ => State.modHead_within (land_sub q rfl)
        (State.replaceTiming_within (land_sub q rfl) h_1)) (fun _ => State.replaceTiming_within (land_sub q rfl) h_1)) (fun _ => h_1)) (fun _ _
        h1 => h1)

theorem execHeadUnconfig_within {P s0 a1 a2 s1} (q : P &&& 19241474519040 = 19241474519040) (h_1 : Within P s0 s1) :
    WithinO P s0 (execHeadUnconfig a1 a2 s1) := by
  unfold execHeadUnconfig
  try dsimp only
  exact withinO_next (runNow_within (land_sub q rfl) h_1 (fun _ h0 => State.unconfig_within (land_sub q rfl) h0))

theorem execHeadStart_within {P s0 a1 a2 s1} (q : P &&& 19241473470464 = 19241473470464) (h_1 : Within P s0 s1) :
    WithinO P s0 (execHeadStart a1 a2 s1) := by
  unfold execHeadStart
  try dsimp only
  exact withinO_next (runBound_within (land_sub q rfl) h_1 (fun _ _ h0 => State.entryApplied_within (land_sub q rfl) (State.startHead_within
      (land_sub q rfl) h0)))

theorem State.stopEntry_within {P s0 s1 a2 a3} (q : P &&& 1651433848832 = 1651433848832) (h_1 : Within P s0 s1) :
    Within P s0 (State.stopEntry s1 a2 a3) := by
  unfold State.stopEntry
  try dsimp only
  exact State.addProc_within (land_sub q rfl) (State.stopHead_within (land_sub q rfl) h_1)

theorem execHeadStop_within {P s0 a1 a2 s1} (q : P &&& 19243619905536 = 19243619905536) (h_1 : Within P s0 s1) :
    WithinO P s0 (execHeadStop a1 a2 s1) := by
  unfold execHeadStop
  try dsimp only
  exact withinO_next (runBound_within (land_sub q rfl) h_1 (fun _ _ h0 => State.stopEntry_within (land_sub q rfl) h0))

theorem State.enterSr_within {P s0 s1 a2} (q : P &&& 1099511644160 = 1099511644160) (h_1 : Within P s0 s1) :
    Within P s0 (State.enterSr s1 a2) := by
  unfold State.enterSr
  try dsimp only
  exact State.post_within (land_sub q rfl) (State.setHead_within (land_sub q rfl) h_1)

theorem State.srSettings_within {P s0 s1 a2} (q : P &&& 1099511627776 = 1099511627776) (h_1 : Within P s0 s1) :
    Within P s0 (State.srSettings s1 a2) := by
  unfold State.srSettings
  try dsimp only
  exact State.modHead_within (land_sub q rfl) h_1

theorem State.exitSr_within {P s0 s1 a2} (q : P &&& 1099511644160 = 1099511644160) (h_1 : Within P s0 s1) :
    Within P s0 (State.exitSr s1 a2) := by
  unfold State.exitSr
  try dsimp only
  exact State.post_within (land_sub q rfl) (State.setHead_within (land_sub q rfl) h_1)

theorem State.srApply_within {P s0 s1 a2 a3} (q : P &&& 1099511644160 = 1099511644160) (h_1 : Within P s0 s1) :
    Within P s0 (State.srApply s1 a2 a3) := by
  unfold State.srApply
  try dsimp only
  exact State.entryApplied_within (land_sub q rfl) (within_ite (fun _ => State.enterSr_within (land_sub q rfl) (State.srSettings_within
      (land_sub q rfl) h_1)) (fun _ => within_ite (fun _ => State.exitSr_within (land_sub q rfl) (State.srSettings_within (land_sub q rfl) h_1))
      (fun _ => State.srSettings_within (land_sub q rfl) h_1)))

theorem execHeadSr_within {P s0 a1 a2 s1} (q : P &&& 18691697733632 = 18691697733632) (h_1 : Within P s0 s1) :
    WithinO P s0 (execHeadSr a1 a2 s1) := by
  unfold execHeadSr
  try dsimp only
  exact withinO_next (runBound_within (land_sub q rfl) h_1 (fun _ _ h0 => State.srApply_within (land_sub q rfl) h0))

theorem execHeadPicture_within {P s0 a1 a2 s1} (q : P &&& 18691714772992 = 18691714772992) (h_1 : Within P s0 s1) :
    WithinO P s0 (execHeadPicture a1 a2 s1) := by
  unfold execHeadPicture
  try dsimp only
  exact withinO_next (withBuffer_within (land_sub q rfl) h_1 (fun _ _ h0 => runBound_within (land_sub q rfl) h0 (fun _ _ h1 =>
      State.entryApplied_within (land_sub q rfl) (State.pictureApply_within (land_sub q rfl) h1))))

theorem execHeadGate_within {P s0 a1 a2 s1} (q : P &&& 18691697733632 = 18691697733632) (h_1 : Within P s0 s1) :
    WithinO P s0 (execHeadGate a1 a2 s1) := by
  unfold execHeadGate
  try dsimp only
  exact withinO_next (runNow_within (land_sub q rfl) h_1 (fun _ h0 => State.modHead_within (land_sub q rfl) h0))

theorem execWarmupEnd_within {P s0 a1 a2 s1} (q : P &&& 18691697733632 = 18691697733632) (h_1 : Within P s0 s1) :
    WithinO P s0 (execWarmupEnd a1 a2 s1) := by
  unfold execWarmupEnd
  try dsimp only
  exact withinO_next (runProc_within (land_sub q rfl) h_1 (fun _ _ h0 => State.addProc_within (land_sub q rfl) (State.modHead_within (land_sub q
      rfl) h0)))

theorem execHeadStatus_within {P s0 a1 a2 s1} (q : P &&& 17592186105856 = 17592186105856) (h_1 : Within P s0 s1) :
    WithinO P s0 (execHeadStatus a1 a2 s1) := by
  unfold execHeadStatus
  try dsimp only
  exact withinO_next (runRead_within (land_sub q rfl) h_1)

theorem State.unqueue_within {P s0 s1 a2} (q : P &&& 32768 = 32768) (h_1 : Within P s0 s1) :
    Within P s0 (State.unqueue s1 a2) := by
  unfold State.unqueue
  try dsimp only
  exact within_cp_waiting (land_sub q rfl) h_1 rfl rfl rfl rfl

theorem State.setCheck_within {P s0 s1 a2 a3 a4} (q : P &&& 1099511627776 = 1099511627776) (h_1 : Within P s0 s1) :
    Within P s0 (State.setCheck s1 a2 a3 a4) := by
  unfold State.setCheck
  try dsimp only
  exact State.modHead_within (land_sub q rfl) h_1

theorem State.checkApply_within {P s0 s1 a2} (q : P &&& 1099511627776 = 1099511627776) (h_1 : Within P s0 s1) :
    Within P s0 (State.checkApply s1 a2) := by
  unfold State.checkApply
  try dsimp only
  exact State.setCheck_within (land_sub q rfl) h_1

theorem State.applyIdle_within {P s0 s1 a2} (q : P &&& 2025097053184 = 2025097053184) (h_1 : Within P s0 s1) :
    Within P s0 (State.applyIdle s1 a2) := by
  unfold State.applyIdle
  try dsimp only
  split
  · exact State.routeAtOnce_within (land_sub q rfl) (State.unqueue_within (land_sub q rfl) h_1)
  · exact State.entryApplied_within (land_sub q rfl) (State.layerApply_within (land_sub q rfl) (State.unqueue_within (land_sub q rfl) h_1))
  · exact State.entryApplied_within (land_sub q rfl) (State.coefApply_within (land_sub q rfl) (State.unqueue_within (land_sub q rfl) h_1))
  · exact State.entryApplied_within (land_sub q rfl) (State.presentApply_within (land_sub q rfl) (State.unqueue_within (land_sub q rfl) h_1))
  · exact State.entryApplied_within (land_sub q rfl) (State.pictureApply_within (land_sub q rfl) (State.unqueue_within (land_sub q rfl) h_1))
  · exact State.entryApplied_within (land_sub q rfl) (State.audioHeadApply_within (land_sub q rfl) (State.unqueue_within (land_sub q rfl) h_1))
  · exact State.entryApplied_within (land_sub q rfl) (State.checkApply_within (land_sub q rfl) (State.unqueue_within (land_sub q rfl) h_1))
  · exact State.srApply_within (land_sub q rfl) (State.unqueue_within (land_sub q rfl) h_1)
  · exact within_ite (fun _ => State.stopEntry_within (land_sub q rfl) (State.unqueue_within (land_sub q rfl) h_1)) (fun _ =>
        State.dropped_within (land_sub q rfl) (State.unqueue_within (land_sub q rfl) h_1))
  · exact within_ite (fun _ => State.entryApplied_within (land_sub q rfl) (State.startHead_within (land_sub q rfl) (State.unqueue_within
        (land_sub q rfl) h_1))) (fun _ => State.dropped_within (land_sub q rfl) (State.unqueue_within (land_sub q rfl) h_1))
  · exact State.entryApplied_within (land_sub q rfl) (State.activateNow_within (land_sub q rfl) (State.unqueue_within (land_sub q rfl) h_1))
  · exact State.entryApplied_within (land_sub q rfl) (State.muraApply_within (land_sub q rfl) (State.unqueue_within (land_sub q rfl) h_1))
  · exact State.entryApplied_within (land_sub q rfl) (State.ledgerApply_within (land_sub q rfl) (State.unqueue_within (land_sub q rfl) h_1))
  · exact State.entryApplied_within (land_sub q rfl) (State.clearApply_within (land_sub q rfl) (State.unqueue_within (land_sub q rfl) h_1))
  · exact State.entryApplied_within (land_sub q rfl) (State.vcomIdle_within (land_sub q rfl) (State.unqueue_within (land_sub q rfl) h_1))
  · exact State.entryApplied_within (land_sub q rfl) (State.viewsNow_within (land_sub q rfl) (State.unqueue_within (land_sub q rfl) h_1))
  · exact State.entryApplied_within (land_sub q rfl) (State.viewsNow_within (land_sub q rfl) (State.unqueue_within (land_sub q rfl) h_1))
  · exact State.entryApplied_within (land_sub q rfl) (State.outputApply_within (land_sub q rfl) (State.unqueue_within (land_sub q rfl) h_1))
  · exact State.entryApplied_within (land_sub q rfl) (State.audioTxApply_within (land_sub q rfl) (State.unqueue_within (land_sub q rfl) h_1))
  · exact State.entryApplied_within (land_sub q rfl) (State.evtOutApply_within (land_sub q rfl) (State.unqueue_within (land_sub q rfl) h_1))
  · exact State.dropped_within (land_sub q rfl) (State.unqueue_within (land_sub q rfl) h_1)

theorem State.applyParked_within {P s0 s1 a2} (q : P &&& 2025097053184 = 2025097053184) (h_1 : Within P s0 s1) :
    Within P s0 (State.applyParked s1 a2) := by
  unfold State.applyParked
  try dsimp only
  exact within_foldl (fun _ _ h0 => State.applyIdle_within (land_sub q rfl) h0) h_1

theorem execPowerSeqSet_within {P s0 a1 a2 s1} (q : P &&& 18691697733632 = 18691697733632) (h_1 : Within P s0 s1) :
    WithinO P s0 (execPowerSeqSet a1 a2 s1) := by
  unfold execPowerSeqSet
  try dsimp only
  exact withinO_next (runNow_within (land_sub q rfl) h_1 (fun _ h0 => State.modHead_within (land_sub q rfl) h0))

theorem State.driverStore_within {P s0 s1 a2} (q : P &&& 2199023255552 = 2199023255552) (h_1 : Within P s0 s1) :
    Within P s0 (State.driverStore s1 a2) := by
  unfold State.driverStore
  try dsimp only
  exact State.setDriver_within (land_sub q rfl) h_1

theorem execDriverSet_within {P s0 a1 a2 s1} (q : P &&& 19791209361408 = 19791209361408) (h_1 : Within P s0 s1) :
    WithinO P s0 (execDriverSet a1 a2 s1) := by
  unfold execDriverSet
  try dsimp only
  exact withinO_next (runNow_within (land_sub q rfl) h_1 (fun _ h0 => State.driverStore_within (land_sub q rfl) h0))

theorem execDriverRetrain_within {P s0 a1 a2 s1} (q : P &&& 125344325627904 = 125344325627904) (h_1 : Within P s0 s1) :
    WithinO P s0 (execDriverRetrain a1 a2 s1) := by
  unfold execDriverRetrain
  try dsimp only
  exact withinO_next (runProc_within (land_sub q rfl) h_1 (fun _ _ h0 => State.addProc_within (land_sub q rfl) (State.linkTrain_within (land_sub
      q rfl) h0)))

theorem afterCopy_within {P s0 a1 a2 a3 a4 s1 a6} (q : P &&& 17592186105856 = 17592186105856) (h_1 : Within P s0 s1) (h_a6 : ∀ y1, Within P s0 y1
    → Within P s0 (a6 y1)) :
    Within P s0 (afterCopy a1 a2 a3 a4 s1 a6) := by
  unfold afterCopy
  try dsimp only
  exact within_ite (fun _ => runLater_within (land_sub q rfl) h_1 (fun _ _ h1 => State.addRunning_within (land_sub q rfl) h1)) (fun _ => h_a6 _ h_1)

theorem execTableLoad_within {P s0 a1 a2 a3 a4 a5 s1} (q : P &&& 18691714772992 = 18691714772992) (h_1 : Within P s0 s1) :
    WithinO P s0 (execTableLoad a1 a2 a3 a4 a5 s1) := by
  unfold execTableLoad
  try dsimp only
  exact withinO_next (withBuffer_within (land_sub q rfl) h_1 (fun _ _ h0 => within_ite (fun _ => runNow_within (land_sub q rfl) h0 (fun _ h2 =>
      h2)) (fun _ => afterCopy_within (land_sub q rfl) h0 (fun _ h2 => runNow_within (land_sub q rfl) h2 (fun _ h3 => State.tableLoad_within
      (land_sub q rfl) h3)))))

theorem execSettingsLoad_within {P s0 a1 a2 s1} (q : P &&& 18691697733632 = 18691697733632) (h_1 : Within P s0 s1) :
    WithinO P s0 (execSettingsLoad a1 a2 s1) := by
  unfold execSettingsLoad
  try dsimp only
  exact withinO_next (within_ite (fun _ => runNow_within (land_sub q rfl) h_1 (fun _ h1 => h1)) (fun _ => afterCopy_within (land_sub q rfl) h_1
      (fun _ h1 => runNow_within (land_sub q rfl) h1 (fun _ h2 => State.modHead_within (land_sub q rfl) h2))))

theorem execActivate_within {P s0 a1 a2 s1} (q : P &&& 18691697733632 = 18691697733632) (h_1 : Within P s0 s1) :
    WithinO P s0 (execActivate a1 a2 s1) := by
  unfold execActivate
  try dsimp only
  exact withinO_next (runBound_within (land_sub q rfl) h_1 (fun _ _ h0 => State.entryApplied_within (land_sub q rfl) (State.activateNow_within
      (land_sub q rfl) h0)))

theorem execMuraSwap_within {P s0 a1 a2 a3 s1} (q : P &&& 18691697733632 = 18691697733632) (h_1 : Within P s0 s1) :
    WithinO P s0 (execMuraSwap a1 a2 a3 s1) := by
  unfold execMuraSwap
  try dsimp only
  exact withinO_next (runBound_within (land_sub q rfl) h_1 (fun _ _ h0 => State.entryApplied_within (land_sub q rfl) (State.muraApply_within
      (land_sub q rfl) h0)))

theorem execPanelStatus_within {P s0 a1 a2 s1} (q : P &&& 17592186105856 = 17592186105856) (h_1 : Within P s0 s1) :
    WithinO P s0 (execPanelStatus a1 a2 s1) := by
  unfold execPanelStatus
  try dsimp only
  exact withinO_next (runRead_within (land_sub q rfl) h_1)

theorem execVcomSet_within {P s0 a1 a2 s1} (q : P &&& 18691697733632 = 18691697733632) (h_1 : Within P s0 s1) :
    WithinO P s0 (execVcomSet a1 a2 s1) := by
  unfold execVcomSet
  try dsimp only
  exact withinO_next (runBound_within (land_sub q rfl) h_1 (fun _ _ h0 => State.entryApplied_within (land_sub q rfl) (State.vcomIdle_within
      (land_sub q rfl) h0)))

theorem execLedgerSet_within {P s0 a1 a2 a3 a4 a5 s1} (q : P &&& 18691697733632 = 18691697733632) (h_1 : Within P s0 s1) :
    WithinO P s0 (execLedgerSet a1 a2 a3 a4 a5 s1) := by
  unfold execLedgerSet
  try dsimp only
  exact withinO_next (runBound_within (land_sub q rfl) h_1 (fun _ _ h0 => State.entryApplied_within (land_sub q rfl) (State.ledgerApply_within
      (land_sub q rfl) h0)))

theorem execLedgerStats_within {P s0 a1 a2 s1} (q : P &&& 17592186105856 = 17592186105856) (h_1 : Within P s0 s1) :
    WithinO P s0 (execLedgerStats a1 a2 s1) := by
  unfold execLedgerStats
  try dsimp only
  exact withinO_next (runRead_within (land_sub q rfl) h_1)

theorem execLedgerSnapshot_within {P s0 a1 a2 a3 a4 a5 s1} (q : P &&& 17592186105856 = 17592186105856) (h_1 : Within P s0 s1) :
    WithinO P s0 (execLedgerSnapshot a1 a2 a3 a4 a5 s1) := by
  unfold execLedgerSnapshot
  try dsimp only
  exact withinO_next (runProc_within (land_sub q rfl) h_1 (fun _ _ h0 => State.addProc_within (land_sub q rfl) h0))

theorem execLedgerTableRead_within {P s0 a1 a2 a3 a4 a5 a6 s1} (q : P &&& 18760436346880 = 18760436346880) (h_1 : Within P s0 s1) :
    WithinO P s0 (execLedgerTableRead a1 a2 a3 a4 a5 a6 s1) := by
  unfold execLedgerTableRead
  try dsimp only
  refine withinO_next ?_
  refine withStore_within (land_sub q rfl) h_1 (fun _ h0 => ?_)
  split
  · exact runNow_within (land_sub q rfl) h0 (fun _ h2 => h2)
  · exact within_ite (fun _ => State.failCmd_within (land_sub q rfl) (State.readMem_within (land_sub q rfl) h0)) (fun _ => runNow_within
        (land_sub q rfl) (State.readMem_within (land_sub q rfl) h0) (fun _ h3 => State.guardedWrite_within (land_sub q rfl) h3))

theorem execLedgerClear_within {P s0 a1 a2 s1} (q : P &&& 18691697733632 = 18691697733632) (h_1 : Within P s0 s1) :
    WithinO P s0 (execLedgerClear a1 a2 s1) := by
  unfold execLedgerClear
  try dsimp only
  exact withinO_next (runBound_within (land_sub q rfl) h_1 (fun _ _ h0 => State.entryApplied_within (land_sub q rfl) (State.clearApply_within
      (land_sub q rfl) h0)))

theorem runViews_within {P s0 a1 a2 a3 a4 a5 a6 a7 a8 s1} (q : P &&& 18691697733632 = 18691697733632) (h_1 : Within P s0 s1) :
    Within P s0 (runViews a1 a2 a3 a4 a5 a6 a7 a8 s1) := by
  unfold runViews
  try dsimp only
  exact runBound_within (land_sub q rfl) (within_ite (fun _ => State.replaceTiming_within (land_sub q rfl) h_1) (fun _ => h_1)) (fun _ _ h0 =>
      State.entryApplied_within (land_sub q rfl) (State.viewsNow_within (land_sub q rfl) h0))

theorem execViewSet_within {P s0 a1 a2 s1} (q : P &&& 18691697733632 = 18691697733632) (h_1 : Within P s0 s1) :
    WithinO P s0 (execViewSet a1 a2 s1) := by
  unfold execViewSet
  try dsimp only
  exact withinO_next (runViews_within (land_sub q rfl) h_1)

theorem execViewClear_within {P s0 a1 a2 a3 s1} (q : P &&& 18691697733632 = 18691697733632) (h_1 : Within P s0 s1) :
    WithinO P s0 (execViewClear a1 a2 a3 s1) := by
  unfold execViewClear
  try dsimp only
  exact withinO_next (runViews_within (land_sub q rfl) h_1)

theorem execViewTest_within {P s0 a1 a2 s1} (q : P &&& 17592186105856 = 17592186105856) (h_1 : Within P s0 s1) :
    WithinO P s0 (execViewTest a1 a2 s1) := by
  unfold execViewTest
  try dsimp only
  refine withinO_next ?_
  split
  · exact rejectCmd_within (land_sub q rfl) h_1
  · exact State.reply_within (land_sub q rfl) (State.takeNo_within (land_sub q rfl) h_1)

theorem execCheckSet_within {P s0 a1 a2 s1} (q : P &&& 18691697733632 = 18691697733632) (h_1 : Within P s0 s1) :
    WithinO P s0 (execCheckSet a1 a2 s1) := by
  unfold execCheckSet
  try dsimp only
  exact withinO_next (runBound_within (land_sub q rfl) h_1 (fun _ _ h0 => State.entryApplied_within (land_sub q rfl) (State.checkApply_within
      (land_sub q rfl) h0)))

theorem execCheckRead_within {P s0 a1 a2 a3 s1} (q : P &&& 17592186105856 = 17592186105856) (h_1 : Within P s0 s1) :
    WithinO P s0 (execCheckRead a1 a2 a3 s1) := by
  unfold execCheckRead
  try dsimp only
  exact withinO_next (runRead_within (land_sub q rfl) h_1)

theorem execLaunchEntryDue_within {P s0 a1 s1} (q : P &&& 2025097053184 = 2025097053184) (h_1 : Within P s0 s1) :
    WithinO P s0 (execLaunchEntryDue a1 s1) := by
  unfold execLaunchEntryDue
  try dsimp only
  exact withinO_next (within_ite (fun _ => within_foldl (fun _ _ h1 => State.applyIdle_within (land_sub q rfl) h1) h_1) (fun _ => h_1))

theorem State.applyAt_within {P s0 s1 a2 a3} (q : P &&& 2025096003584 = 2025096003584) (h_1 : Within P s0 s1) :
    Within P s0 (State.applyAt s1 a2 a3) := by
  unfold State.applyAt
  try dsimp only
  split
  · exact State.routeApply_within (land_sub q rfl) (State.unqueue_within (land_sub q rfl) h_1)
  · exact State.entryApplied_within (land_sub q rfl) (State.layerApply_within (land_sub q rfl) (State.unqueue_within (land_sub q rfl) h_1))
  · exact State.entryApplied_within (land_sub q rfl) (State.coefApply_within (land_sub q rfl) (State.unqueue_within (land_sub q rfl) h_1))
  · exact State.entryApplied_within (land_sub q rfl) (State.presentApply_within (land_sub q rfl) (State.unqueue_within (land_sub q rfl) h_1))
  · exact State.entryApplied_within (land_sub q rfl) (State.pictureApply_within (land_sub q rfl) (State.unqueue_within (land_sub q rfl) h_1))
  · exact State.entryApplied_within (land_sub q rfl) (State.audioHeadApply_within (land_sub q rfl) (State.unqueue_within (land_sub q rfl) h_1))
  · exact State.entryApplied_within (land_sub q rfl) (State.checkApply_within (land_sub q rfl) (State.unqueue_within (land_sub q rfl) h_1))
  · exact State.srApply_within (land_sub q rfl) (State.unqueue_within (land_sub q rfl) h_1)
  · exact within_ite (fun _ => State.stopEntry_within (land_sub q rfl) (State.unqueue_within (land_sub q rfl) h_1)) (fun _ =>
        State.dropped_within (land_sub q rfl) (State.unqueue_within (land_sub q rfl) h_1))
  · exact State.entryApplied_within (land_sub q rfl) (State.outputApply_within (land_sub q rfl) (State.unqueue_within (land_sub q rfl) h_1))
  · exact State.entryApplied_within (land_sub q rfl) (State.audioTxApply_within (land_sub q rfl) (State.unqueue_within (land_sub q rfl) h_1))
  · exact State.unqueue_within (land_sub q rfl) h_1

theorem State.applyOutput_within {P s0 s1 a2 a3} (q : P &&& 2025096003584 = 2025096003584) (h_1 : Within P s0 s1) :
    Within P s0 (State.applyOutput s1 a2 a3) := by
  unfold State.applyOutput
  try dsimp only
  exact within_foldl (fun _ _ h0 => State.applyAt_within (land_sub q rfl) h0) h_1

theorem State.assignFrames_within {P s0 s1 a2 a3 a4 a5} (q : P &&& 32768 = 32768) (h_1 : Within P s0 s1) :
    Within P s0 (State.assignFrames s1 a2 a3 a4 a5) := by
  unfold State.assignFrames
  try dsimp only
  exact within_cp_waiting (land_sub q rfl) h_1 rfl rfl rfl rfl

theorem State.applyHead_within {P s0 s1 a2 a3} (q : P &&& 2025096003584 = 2025096003584) (h_1 : Within P s0 s1) :
    Within P s0 (State.applyHead s1 a2 a3) := by
  unfold State.applyHead
  try dsimp only
  exact within_foldl (fun _ _ h0 => State.applyAt_within (land_sub q rfl) h0) (State.assignFrames_within (land_sub q rfl) h_1)

end Sys2Proof.Machine
end

