-- ==== Sys2Proof/Laws/WithinFrames.lean ====
section
/-! SUPPORT. Within: composition, tiles, panel rows, latch, scan, drivers. One lemma per operation: the parts of the state that it may change. -/

namespace Sys2Proof.Machine

open Sys2Proof.Laws Sys2Proof.Safety

theorem State.endOutShot_within {P s0 s1 a2 a3} (q : P &&& 36526112768 = 36526112768) (h_1 : Within P s0 s1) :
    Within P s0 (State.endOutShot s1 a2 a3) := by
  unfold State.endOutShot
  try dsimp only
  exact within_outShots (land_sub q rfl) (within_foldl (fun _ _ h0 => State.releaseHeld_within (land_sub q rfl) h0) h_1)

theorem State.abandonT_within {P s0 s1 a2 a3} (q : P &&& 603461795840 = 603461795840) (h_1 : Within P s0 s1) :
    Within P s0 (State.abandonT s1 a2 a3) := by
  unfold State.abandonT
  try dsimp only
  split
  · exact h_1
  · exact State.endOutShot_within (land_sub q rfl) (within_tq (land_sub q rfl) (State.setOutput_within (land_sub q rfl)
        (State.removeItems_within (land_sub q rfl) h_1)))

theorem State.thermTake_within {P s0 s1 a2 a3} (q : P &&& 1099511644160 = 1099511644160) (h_1 : Within P s0 s1) :
    Within P s0 (State.thermTake s1 a2 a3) := by
  unfold State.thermTake
  try dsimp only
  exact within_ite (fun _ => within_ite (fun _ => State.post_within (land_sub q rfl) (State.setHead_within (land_sub q rfl) h_1)) (fun _ =>
      State.setHead_within (land_sub q rfl) h_1)) (fun _ => within_ite (fun _ => State.post_within (land_sub q rfl) (State.setHead_within
      (land_sub q rfl) h_1)) (fun _ => State.setHead_within (land_sub q rfl) h_1))

theorem State.putSample_within {P s0 s1 a2 a3 a4 a5 a6} (q : P &&& 18890752 = 18890752) (h_1 : Within P s0 s1) :
    Within P s0 (State.putSample s1 a2 a3 a4 a5 a6) := by
  unfold State.putSample
  try dsimp only
  exact State.putMem_within0 (land_sub q rfl) h_1

theorem State.followPlan_within {P s0 s1 a2 a3} (q : P &&& 1099511627776 = 1099511627776) (h_1 : Within P s0 s1) :
    Within P s0 (State.followPlan s1 a2 a3) := by
  unfold State.followPlan
  try dsimp only
  split
  · exact h_1
  · exact within_ite (fun _ => h_1) (fun _ => within_ite (fun _ => State.setHead_within (land_sub q rfl) h_1) (fun _ => within_ite (fun _ =>
        State.setHead_within (land_sub q rfl) h_1) (fun _ => State.setHead_within (land_sub q rfl) h_1)))

theorem State.layerFault_within {P s0 s1 a2 a3 a4} (q : P &&& 25769820160 = 25769820160) (h_1 : Within P s0 s1) :
    Within P s0 (State.layerFault s1 a2 a3 a4) := by
  unfold State.layerFault
  try dsimp only
  refine within_ite (fun _ => ?_) (fun _ => within_ite (fun _ => h_1) (fun _ => State.post_within (land_sub q rfl) (State.setDest_within
      (land_sub q rfl) h_1)))
  split
  · exact within_ite (fun _ => h_1) (fun _ => State.post_within (land_sub q rfl) (State.setLayer_within (land_sub q rfl) h_1))
  · exact h_1

theorem State.layerFrame_within {P s0 s1 a2 a3 a4} (q : P &&& 35210141908992 = 35210141908992) (h_1 : Within P s0 s1) :
    Within P s0 (State.layerFrame s1 a2 a3 a4).2 := by
  unfold State.layerFrame
  try dsimp only
  split
  · refine within_ite (fun _ => ?_) (fun _ => ?_)
    · refine State.layerFault_within (land_sub q rfl) ?_
      refine within_ite (fun _ => ?_) (fun _ => ?_)
      · refine State.layerFault_within (land_sub q rfl) ?_
        refine State.setDest_within (land_sub q rfl) ?_
        split
        · exact keepsAt_ite (P := fun x : _ × State => Within P s0 x.2) (fun _ => within_ite (fun _ => within_sync (land_sub q rfl)
              (State.setDest_within (land_sub q rfl) (keepsAt_ite (P := fun x : _ × State => Within P s0 x.2) (fun _ => within_ite (fun _
              => within_sync (land_sub q rfl) (State.setDest_within (land_sub q rfl) h_1)) (fun _ => State.setDest_within (land_sub q rfl)
              h_1)) (fun _ => h_1)))) (fun _ => State.setDest_within (land_sub q rfl) (keepsAt_ite (P := fun x : _ × State => Within P s0
              x.2) (fun _ => within_ite (fun _ => within_sync (land_sub q rfl) (State.setDest_within (land_sub q rfl) h_1)) (fun _ =>
              State.setDest_within (land_sub q rfl) h_1)) (fun _ => h_1)))) (fun _ => keepsAt_ite (P := fun x : _ × State => Within P s0
              x.2) (fun _ => within_ite (fun _ => within_sync (land_sub q rfl) (State.setDest_within (land_sub q rfl) h_1)) (fun _ =>
              State.setDest_within (land_sub q rfl) h_1)) (fun _ => h_1))
        · exact keepsAt_ite (P := fun x : _ × State => Within P s0 x.2) (fun _ => within_ite (fun _ => within_sync (land_sub q rfl)
              (State.setDest_within (land_sub q rfl) h_1)) (fun _ => State.setDest_within (land_sub q rfl) h_1)) (fun _ => h_1)
      · refine State.setDest_within (land_sub q rfl) ?_
        split
        · exact keepsAt_ite (P := fun x : _ × State => Within P s0 x.2) (fun _ => within_ite (fun _ => within_sync (land_sub q rfl)
              (State.setDest_within (land_sub q rfl) (keepsAt_ite (P := fun x : _ × State => Within P s0 x.2) (fun _ => within_ite (fun _
              => within_sync (land_sub q rfl) (State.setDest_within (land_sub q rfl) h_1)) (fun _ => State.setDest_within (land_sub q rfl)
              h_1)) (fun _ => h_1)))) (fun _ => State.setDest_within (land_sub q rfl) (keepsAt_ite (P := fun x : _ × State => Within P s0
              x.2) (fun _ => within_ite (fun _ => within_sync (land_sub q rfl) (State.setDest_within (land_sub q rfl) h_1)) (fun _ =>
              State.setDest_within (land_sub q rfl) h_1)) (fun _ => h_1)))) (fun _ => keepsAt_ite (P := fun x : _ × State => Within P s0
              x.2) (fun _ => within_ite (fun _ => within_sync (land_sub q rfl) (State.setDest_within (land_sub q rfl) h_1)) (fun _ =>
              State.setDest_within (land_sub q rfl) h_1)) (fun _ => h_1))
        · exact keepsAt_ite (P := fun x : _ × State => Within P s0 x.2) (fun _ => within_ite (fun _ => within_sync (land_sub q rfl)
              (State.setDest_within (land_sub q rfl) h_1)) (fun _ => State.setDest_within (land_sub q rfl) h_1)) (fun _ => h_1)
    · refine within_ite (fun _ => ?_) (fun _ => ?_)
      · refine State.layerFault_within (land_sub q rfl) ?_
        refine State.setDest_within (land_sub q rfl) ?_
        split
        · exact keepsAt_ite (P := fun x : _ × State => Within P s0 x.2) (fun _ => within_ite (fun _ => within_sync (land_sub q rfl)
              (State.setDest_within (land_sub q rfl) (keepsAt_ite (P := fun x : _ × State => Within P s0 x.2) (fun _ => within_ite (fun _
              => within_sync (land_sub q rfl) (State.setDest_within (land_sub q rfl) h_1)) (fun _ => State.setDest_within (land_sub q rfl)
              h_1)) (fun _ => h_1)))) (fun _ => State.setDest_within (land_sub q rfl) (keepsAt_ite (P := fun x : _ × State => Within P s0
              x.2) (fun _ => within_ite (fun _ => within_sync (land_sub q rfl) (State.setDest_within (land_sub q rfl) h_1)) (fun _ =>
              State.setDest_within (land_sub q rfl) h_1)) (fun _ => h_1)))) (fun _ => keepsAt_ite (P := fun x : _ × State => Within P s0
              x.2) (fun _ => within_ite (fun _ => within_sync (land_sub q rfl) (State.setDest_within (land_sub q rfl) h_1)) (fun _ =>
              State.setDest_within (land_sub q rfl) h_1)) (fun _ => h_1))
        · exact keepsAt_ite (P := fun x : _ × State => Within P s0 x.2) (fun _ => within_ite (fun _ => within_sync (land_sub q rfl)
              (State.setDest_within (land_sub q rfl) h_1)) (fun _ => State.setDest_within (land_sub q rfl) h_1)) (fun _ => h_1)
      · refine State.setDest_within (land_sub q rfl) ?_
        split
        · exact keepsAt_ite (P := fun x : _ × State => Within P s0 x.2) (fun _ => within_ite (fun _ => within_sync (land_sub q rfl)
              (State.setDest_within (land_sub q rfl) (keepsAt_ite (P := fun x : _ × State => Within P s0 x.2) (fun _ => within_ite (fun _
              => within_sync (land_sub q rfl) (State.setDest_within (land_sub q rfl) h_1)) (fun _ => State.setDest_within (land_sub q rfl)
              h_1)) (fun _ => h_1)))) (fun _ => State.setDest_within (land_sub q rfl) (keepsAt_ite (P := fun x : _ × State => Within P s0
              x.2) (fun _ => within_ite (fun _ => within_sync (land_sub q rfl) (State.setDest_within (land_sub q rfl) h_1)) (fun _ =>
              State.setDest_within (land_sub q rfl) h_1)) (fun _ => h_1)))) (fun _ => keepsAt_ite (P := fun x : _ × State => Within P s0
              x.2) (fun _ => within_ite (fun _ => within_sync (land_sub q rfl) (State.setDest_within (land_sub q rfl) h_1)) (fun _ =>
              State.setDest_within (land_sub q rfl) h_1)) (fun _ => h_1))
        · exact keepsAt_ite (P := fun x : _ × State => Within P s0 x.2) (fun _ => within_ite (fun _ => within_sync (land_sub q rfl)
              (State.setDest_within (land_sub q rfl) h_1)) (fun _ => State.setDest_within (land_sub q rfl) h_1)) (fun _ => h_1)
  · refine within_ite (fun _ => ?_) (fun _ => ?_)
    · refine State.layerFault_within (land_sub q rfl) ?_
      refine State.setDest_within (land_sub q rfl) ?_
      split
      · exact keepsAt_ite (P := fun x : _ × State => Within P s0 x.2) (fun _ => within_ite (fun _ => within_sync (land_sub q rfl)
            (State.setDest_within (land_sub q rfl) (keepsAt_ite (P := fun x : _ × State => Within P s0 x.2) (fun _ => within_ite (fun _ =>
            within_sync (land_sub q rfl) (State.setDest_within (land_sub q rfl) h_1)) (fun _ => State.setDest_within (land_sub q rfl) h_1))
            (fun _ => h_1)))) (fun _ => State.setDest_within (land_sub q rfl) (keepsAt_ite (P := fun x : _ × State => Within P s0 x.2) (fun
            _ => within_ite (fun _ => within_sync (land_sub q rfl) (State.setDest_within (land_sub q rfl) h_1)) (fun _ =>
            State.setDest_within (land_sub q rfl) h_1)) (fun _ => h_1)))) (fun _ => keepsAt_ite (P := fun x : _ × State => Within P s0 x.2)
            (fun _ => within_ite (fun _ => within_sync (land_sub q rfl) (State.setDest_within (land_sub q rfl) h_1)) (fun _ =>
            State.setDest_within (land_sub q rfl) h_1)) (fun _ => h_1))
      · exact keepsAt_ite (P := fun x : _ × State => Within P s0 x.2) (fun _ => within_ite (fun _ => within_sync (land_sub q rfl)
            (State.setDest_within (land_sub q rfl) h_1)) (fun _ => State.setDest_within (land_sub q rfl) h_1)) (fun _ => h_1)
    · refine State.setDest_within (land_sub q rfl) ?_
      split
      · exact keepsAt_ite (P := fun x : _ × State => Within P s0 x.2) (fun _ => within_ite (fun _ => within_sync (land_sub q rfl)
            (State.setDest_within (land_sub q rfl) (keepsAt_ite (P := fun x : _ × State => Within P s0 x.2) (fun _ => within_ite (fun _ =>
            within_sync (land_sub q rfl) (State.setDest_within (land_sub q rfl) h_1)) (fun _ => State.setDest_within (land_sub q rfl) h_1))
            (fun _ => h_1)))) (fun _ => State.setDest_within (land_sub q rfl) (keepsAt_ite (P := fun x : _ × State => Within P s0 x.2) (fun
            _ => within_ite (fun _ => within_sync (land_sub q rfl) (State.setDest_within (land_sub q rfl) h_1)) (fun _ =>
            State.setDest_within (land_sub q rfl) h_1)) (fun _ => h_1)))) (fun _ => keepsAt_ite (P := fun x : _ × State => Within P s0 x.2)
            (fun _ => within_ite (fun _ => within_sync (land_sub q rfl) (State.setDest_within (land_sub q rfl) h_1)) (fun _ =>
            State.setDest_within (land_sub q rfl) h_1)) (fun _ => h_1))
      · exact keepsAt_ite (P := fun x : _ × State => Within P s0 x.2) (fun _ => within_ite (fun _ => within_sync (land_sub q rfl)
            (State.setDest_within (land_sub q rfl) h_1)) (fun _ => State.setDest_within (land_sub q rfl) h_1)) (fun _ => h_1)

theorem State.composeOutput_within {P s0 s1 a2} (q : P &&& 37243827830784 = 37243827830784) (h_1 : Within P s0 s1) :
    Within P s0 (State.composeOutput s1 a2) := by
  unfold State.composeOutput
  try dsimp only
  refine within_ite (fun _ => h_1) (fun _ => ?_)
  split
  · exact State.applyOutput_within (land_sub q rfl) (State.routeRetry_within (land_sub q rfl) h_1)
  · exact within_ite (fun _ => State.applyOutput_within (land_sub q rfl) (State.routeRetry_within (land_sub q rfl) h_1)) (fun _ =>
        within_outShots (land_sub q rfl) (State.setOutput_within (land_sub q rfl) (State.holdSlots_within (land_sub q rfl)
        (State.layerFrame_within (land_sub q rfl) (State.applyOutput_within (land_sub q rfl) (State.routeRetry_within (land_sub q rfl) h_1))))))

theorem State.pruneC_within {P s0 s1 a2} (q : P &&& 549755813888 = 549755813888) (h_1 : Within P s0 s1) :
    Within P s0 (State.pruneC s1 a2) := by
  unfold State.pruneC
  try dsimp only
  exact State.removeItems_within (land_sub q rfl) h_1

theorem State.markPresents_within {P s0 s1 a2 a3} (q : P &&& 8589934592 = 8589934592) (h_1 : Within P s0 s1) :
    Within P s0 (State.markPresents s1 a2 a3) := by
  unfold State.markPresents
  try dsimp only
  refine within_foldl (fun _ _ h0 => ?_) h_1
  split
  · exact within_ite (fun _ => State.setLayer_within (land_sub q rfl) h0) (fun _ => h0)
  · exact h0

theorem State.postTiles_within {P s0 s1 a2 a3 a4} (q : P &&& 1649267441664 = 1649267441664) (h_1 : Within P s0 s1) :
    Within P s0 (State.postTiles s1 a2 a3 a4) := by
  unfold State.postTiles
  try dsimp only
  exact within_foldl (fun _ _ h0 => within_foldl (fun _ _ h1 => State.modHead_within (land_sub q rfl) (State.setTile_within (land_sub q rfl)
      h1)) h0) h_1

theorem State.useLeases_within {P s0 s1 a2 a3 a4} (q : P &&& 68719476736 = 68719476736) (h_1 : Within P s0 s1) :
    Within P s0 (State.useLeases s1 a2 a3 a4) := by
  unfold State.useLeases
  try dsimp only
  exact within_leases (land_sub q rfl) h_1

theorem State.composeFrame_within {P s0 s1 a2 a3} (q : P &&& 54522481229824 = 54522481229824) (h_1 : Within P s0 s1) :
    Within P s0 (State.composeFrame s1 a2 a3) := by
  unfold State.composeFrame
  try dsimp only
  exact State.retire_within (land_sub q rfl) (State.pruneC_within (land_sub q rfl) (State.markPresents_within (land_sub q rfl) (within_foldl
      (fun _ _ h3 => State.postTiles_within (land_sub q rfl) (State.modHead_within (land_sub q rfl) (State.useLeases_within (land_sub q rfl)
      (State.holdSlots_within (land_sub q rfl) h3)))) (within_ite (fun _ => State.sendMsg_within (land_sub q rfl) (keepsAt_foldl (P := fun x : _
      × State => Within P s0 x.2) (fun _ _ h6 => State.layerFrame_within (land_sub q rfl) h6) h_1)) (fun _ => keepsAt_foldl (P := fun x : _ ×
      State => Within P s0 x.2) (fun _ _ h5 => State.layerFrame_within (land_sub q rfl) h5) h_1)))))

theorem State.composeHead_within {P s0 s1 a2} (q : P &&& 54801654136832 = 54801654136832) (h_1 : Within P s0 s1) :
    Within P s0 (State.composeHead s1 a2) := by
  unfold State.composeHead
  try dsimp only
  exact within_ite (fun _ => h_1) (fun _ => within_ite (fun _ => State.applyHead_within (land_sub q rfl) (within_ite (fun _ => within_foldl (fun
      _ _ h4 => State.routeRetry_within (land_sub q rfl) h4) h_1) (fun _ => h_1))) (fun _ => State.modHead_within (land_sub q rfl) (within_sync
      (land_sub q rfl) (within_ite (fun _ => State.composeFrame_within (land_sub q rfl) (State.applyHead_within (land_sub q rfl) (within_ite
      (fun _ => within_foldl (fun _ _ h7 => State.routeRetry_within (land_sub q rfl) h7) h_1) (fun _ => h_1)))) (fun _ => State.applyHead_within
      (land_sub q rfl) (within_ite (fun _ => within_foldl (fun _ _ h6 => State.routeRetry_within (land_sub q rfl) h6) h_1) (fun _ => h_1)))))))

theorem execCompositionStart_within {P s0 a1 s1} (q : P &&& 54836013875200 = 54836013875200) (h_1 : Within P s0 s1) :
    WithinO P s0 (execCompositionStart a1 s1) := by
  unfold execCompositionStart
  try dsimp only
  exact withinO_next (within_ite (fun _ => h_1) (fun _ => within_ite (fun _ => State.composeOutput_within (land_sub q rfl) h_1) (fun _ =>
      within_ite (fun _ => within_sync (land_sub q rfl) h_1) (fun _ => State.composeHead_within (land_sub q rfl) h_1))))

theorem execLossHoldEnd_within {P s0 a1 s1} (q : P &&& 25769803776 = 25769803776) (h_1 : Within P s0 s1) :
    WithinO P s0 (execLossHoldEnd a1 s1) := by
  unfold execLossHoldEnd
  try dsimp only
  exact withinO_next (within_ite (fun _ => State.setDest_within (land_sub q rfl) h_1) (fun _ => h_1))

theorem execItemRelease_within {P s0 a1 s1} (q : P &&& 549755813888 = 549755813888) (h_1 : Within P s0 s1) :
    WithinO P s0 (execItemRelease a1 s1) := by
  unfold execItemRelease
  try dsimp only
  refine withinO_next ?_
  split
  · exact within_ite (fun _ => State.placeItem_within (land_sub q rfl) h_1) (fun _ => h_1)
  · exact within_ite (fun _ => State.placeItem_within (land_sub q rfl) h_1) (fun _ => h_1)
  · exact within_ite (fun _ => State.placeItem_within (land_sub q rfl) h_1) (fun _ => h_1)

theorem execPItemLatestStart_within {P s0 a1 s1} (q : P &&& 19312339369984 = 19312339369984) (h_1 : Within P s0 s1) :
    WithinO P s0 (execPItemLatestStart a1 s1) := by
  unfold execPItemLatestStart
  try dsimp only
  exact withinO_next (within_ite (fun _ => h_1) (fun _ => within_ite (fun _ => State.abandonP_within (land_sub q rfl) h_1) (fun _ =>
      State.placeItem_within (land_sub q rfl) (within_ite (fun _ => State.abandonC_within (land_sub q rfl) h_1) (fun _ => h_1)))))

theorem State.markRunning_within {P s0 s1 a2} (q : P &&& 549755813888 = 549755813888) (h_1 : Within P s0 s1) :
    Within P s0 (State.markRunning s1 a2) := by
  unfold State.markRunning
  try dsimp only
  exact within_ite (fun _ => h_1) (fun _ => within_foldl (fun _ _ h1 => State.setTile_within (land_sub q rfl) h1) h_1)

theorem State.startItem_within {P s0 s1 a2 a3 a4} (q : P &&& 549755813888 = 549755813888) (h_1 : Within P s0 s1) :
    Within P s0 (State.startItem s1 a2 a3 a4) := by
  unfold State.startItem
  try dsimp only
  exact State.markRunning_within (land_sub q rfl) (State.setCluster_within (land_sub q rfl) (State.setCluster_within (land_sub q rfl) h_1))

theorem State.takeFirst_within {P s0 s1 a2 a3} (q : P &&& 19363878977536 = 19363878977536) (h_1 : Within P s0 s1) : Within P s0 (State.takeFirst
    s1 a2 a3) := by
  induction a3 generalizing s1 with
  | nil => exact h_1
  | cons i r ih =>
    unfold State.takeFirst
    refine within_ite (fun _ => ih h_1) (fun _ => ?_)
    split
    · exact within_ite (fun _ => ih (State.abandonP_within (land_sub q rfl) h_1)) (fun _ => State.startItem_within (land_sub q rfl) h_1)
    · exact within_ite (fun _ => ih (State.abandonC_within (land_sub q rfl) h_1)) (fun _ => State.startItem_within (land_sub q rfl) h_1)
    · exact within_ite (fun _ => ih (State.abandonT_within (land_sub q rfl) h_1)) (fun _ => State.startItem_within (land_sub q rfl) h_1)

theorem execEngineFree_within {P s0 a1 s1} (q : P &&& 19363878977536 = 19363878977536) (h_1 : Within P s0 s1) :
    WithinO P s0 (execEngineFree a1 s1) := by
  unfold execEngineFree
  try dsimp only
  exact withinO_next (within_ite (fun _ => State.feed_within (land_sub q rfl) (State.takeFirst_within (land_sub q rfl) h_1)) (fun _ => h_1))

theorem execSteal_within {P s0 a1 s1} (q : P &&& 1651433816064 = 1651433816064) (h_1 : Within P s0 s1) :
    WithinO P s0 (execSteal a1 s1) := by
  unfold execSteal
  try dsimp only
  refine withinO_next ?_
  refine within_ite (fun _ => h_1) (fun _ => ?_)
  split
  · exact h_1
  · exact within_ite (fun _ => State.abandonC_within (land_sub q rfl) h_1) (fun _ => State.feed_within (land_sub q rfl) (State.setCluster_within
        (land_sub q rfl) (State.startItem_within (land_sub q rfl) h_1)))

theorem State.dataError_within {P s0 s1 a2 a3} (q : P &&& 16384 = 16384) (h_1 : Within P s0 s1) :
    Within P s0 (State.dataError s1 a2 a3) := by
  unfold State.dataError
  try dsimp only
  exact State.post_within (land_sub q rfl) h_1

theorem State.composeRun_within {P s0 s1 a2 a3 a4 a5} (q : P &&& 70368763068416 = 70368763068416) (h_1 : Within P s0 s1) :
    Within P s0 (State.composeRun s1 a2 a3 a4 a5).2 := by
  unfold State.composeRun
  try dsimp only
  exact State.putRows_within0 (land_sub q rfl) (State.drawWords_within (land_sub q rfl) (State.checkReads_within (land_sub q rfl) h_1))

theorem execCItemComplete_within {P s0 a1 s1} (q : P &&& 72020177993728 = 72020177993728) (h_1 : Within P s0 s1) :
    WithinO P s0 (execCItemComplete a1 s1) := by
  unfold execCItemComplete
  try dsimp only
  refine withinO_next ?_
  refine within_ite (fun _ => h_1) (fun _ => ?_)
  refine State.retire_within (land_sub q rfl) ?_
  refine State.modHead_within (land_sub q rfl) ?_
  refine within_tq (land_sub q rfl) ?_
  refine State.freeEngine_within (land_sub q rfl) ?_
  refine within_foldl (fun _ _ h4 => State.setTile_within (land_sub q rfl) h4) ?_
  refine within_ite (fun _ => ?_) (fun _ => ?_)
  · refine State.dataError_within (land_sub q rfl) ?_
    split
    · exact State.composeRun_within (land_sub q rfl) h_1
    · exact h_1
  · split
    · exact State.composeRun_within (land_sub q rfl) h_1
    · exact h_1

theorem State.composeTx_within {P s0 s1 a2 a3 a4 a5 a6} (q : P &&& 70368763068416 = 70368763068416) (h_1 : Within P s0 s1) :
    Within P s0 (State.composeTx s1 a2 a3 a4 a5 a6).2 := by
  unfold State.composeTx
  try dsimp only
  exact within_foldl (fun _ _ h0 => State.putSample_within (land_sub q rfl) h0) (State.drawWords_within (land_sub q rfl)
      (State.checkReads_within (land_sub q rfl) h_1))

theorem execTItemComplete_within {P s0 a1 s1} (q : P &&& 70972205973504 = 70972205973504) (h_1 : Within P s0 s1) :
    WithinO P s0 (execTItemComplete a1 s1) := by
  unfold execTItemComplete
  try dsimp only
  refine withinO_next ?_
  refine within_ite (fun _ => h_1) (fun _ => ?_)
  split
  · exact within_ite (fun _ => State.setOutput_within (land_sub q rfl) (within_tq (land_sub q rfl) (within_ite (fun _ => State.dataError_within
        (land_sub q rfl) (State.composeTx_within (land_sub q rfl) (State.freeEngine_within (land_sub q rfl) h_1))) (fun _ =>
        State.composeTx_within (land_sub q rfl) (State.freeEngine_within (land_sub q rfl) h_1))))) (fun _ => State.endOutShot_within (land_sub q
        rfl) (within_tq (land_sub q rfl) (State.setOutput_within (land_sub q rfl) (within_tq (land_sub q rfl) (within_ite (fun _ =>
        State.dataError_within (land_sub q rfl) (State.composeTx_within (land_sub q rfl) (State.freeEngine_within (land_sub q rfl) h_1))) (fun _
        => State.composeTx_within (land_sub q rfl) (State.freeEngine_within (land_sub q rfl) h_1)))))))
  · exact State.freeEngine_within (land_sub q rfl) h_1

theorem State.muraRead_within {P s0 s1 a2 a3} (q : P &&& 1099511627776 = 1099511627776) (h_1 : Within P s0 s1) :
    Within P s0 (State.muraRead s1 a2 a3) := by
  unfold State.muraRead
  try dsimp only
  exact within_ite (fun _ => h_1) (fun _ => State.modHead_within (land_sub q rfl) h_1)

theorem State.tableFaults_within {P s0 s1 a2 a3} (q : P &&& 1099528421376 = 1099528421376) (h_1 : Within P s0 s1) :
    Within P s0 (State.tableFaults s1 a2 a3).2 := by
  unfold State.tableFaults
  try dsimp only
  exact keepsAt_foldl (P := fun x : _ × State => Within P s0 x.2) (fun _ _ h0 => keepsAt_ite (P := fun x : _ × State => Within P s0 x.2) (fun _
      => State.modHead_within (land_sub q rfl) (State.checkWord_within (land_sub q rfl) h0)) (fun _ => State.checkWord_within (land_sub q rfl)
      h0)) h_1

theorem State.rewriteState_within {P s0 s1 a2 a3 a4} (q : P &&& 1099530518528 = 1099530518528) (h_1 : Within P s0 s1) :
    Within P s0 (State.rewriteState s1 a2 a3 a4) := by
  unfold State.rewriteState
  try dsimp only
  exact State.post_within (land_sub q rfl) (State.modHead_within (land_sub q rfl) (State.putMem_within0 (land_sub q rfl) h_1))

theorem State.checkP_within {P s0 s1 a2 a3 a4 a5} (q : P &&& 1099530518528 = 1099530518528) (h_1 : Within P s0 s1) :
    Within P s0 (State.checkP s1 a2 a3 a4 a5).2 := by
  unfold State.checkP
  try dsimp only
  exact State.tableFaults_within (land_sub q rfl) (State.readMem_within (land_sub q rfl) (within_foldl (fun _ _ h2 => State.rewriteState_within
      (land_sub q rfl) h2) (State.checkReads_within (land_sub q rfl) (State.checkReads_within (land_sub q rfl) h_1))))

theorem State.runP_within {P s0 s1 a2 a3 a4 a5} (q : P &&& 549776801792 = 549776801792) (h_1 : Within P s0 s1) :
    Within P s0 (State.runP s1 a2 a3 a4 a5) := by
  unfold State.runP
  try dsimp only
  exact within_tq (land_sub q rfl) (State.putRows_within1 (land_sub q rfl) h_1)

theorem State.answerRow_within {P s0 s1 a2 a3 a4 a5 a6 a7} (q : P &&& 52776558133248 = 52776558133248) (h_1 : Within P s0 s1) :
    Within P s0 (State.answerRow s1 a2 a3 a4 a5 a6 a7) := by
  unfold State.answerRow
  try dsimp only
  exact within_ite (fun _ => h_1) (fun _ => State.sendMsg_within (land_sub q rfl) (within_sync (land_sub q rfl) h_1))

theorem State.commitRow_within {P s0 s1 a2 a3 a4} (q : P &&& 54494568169472 = 54494568169472) (h_1 : Within P s0 s1) :
    Within P s0 (State.commitRow s1 a2 a3 a4) := by
  unfold State.commitRow
  try dsimp only
  exact State.postSkips_within (land_sub q rfl) (State.answerRow_within (land_sub q rfl) (within_ite (fun _ => State.sendMsg_within (land_sub q
      rfl) (State.snapRow_within (land_sub q rfl) (within_ite (fun _ => State.post_within (land_sub q rfl) (within_tq (land_sub q rfl)
      (State.modHead_within (land_sub q rfl) (within_foldl (fun _ _ h8 => State.setTile_within (land_sub q rfl) h8) (State.putMem_within1
      (land_sub q rfl) (State.putMem_within1 (land_sub q rfl) (State.putRows_within0 (land_sub q rfl) h_1))))))) (fun _ => within_tq (land_sub q
      rfl) (State.modHead_within (land_sub q rfl) (within_foldl (fun _ _ h7 => State.setTile_within (land_sub q rfl) h7) (State.putMem_within1
      (land_sub q rfl) (State.putMem_within1 (land_sub q rfl) (State.putRows_within0 (land_sub q rfl) h_1))))))))) (fun _ =>
      State.snapRow_within (land_sub q rfl) (within_ite (fun _ => State.post_within (land_sub q rfl) (within_tq (land_sub q rfl)
      (State.modHead_within (land_sub q rfl) (within_foldl (fun _ _ h7 => State.setTile_within (land_sub q rfl) h7) (State.putMem_within1
      (land_sub q rfl) (State.putMem_within1 (land_sub q rfl) (State.putRows_within0 (land_sub q rfl) h_1))))))) (fun _ => within_tq (land_sub q
      rfl) (State.modHead_within (land_sub q rfl) (within_foldl (fun _ _ h6 => State.setTile_within (land_sub q rfl) h6) (State.putMem_within1
      (land_sub q rfl) (State.putMem_within1 (land_sub q rfl) (State.putRows_within0 (land_sub q rfl) h_1))))))))))

theorem State.finishP_within {P s0 s1 a2 a3} (q : P &&& 54496715653120 = 54496715653120) (h_1 : Within P s0 s1) :
    Within P s0 (State.finishP s1 a2 a3) := by
  unfold State.finishP
  try dsimp only
  exact within_ite (fun _ => within_tq (land_sub q rfl) (State.runP_within (land_sub q rfl) h_1)) (fun _ => within_ite (fun _ =>
      State.skipRow_within (land_sub q rfl) (within_tq (land_sub q rfl) (State.runP_within (land_sub q rfl) h_1))) (fun _ => within_ite (fun _
      => within_tq_sync (land_sub q rfl) (State.runP_within (land_sub q rfl) h_1)) (fun _ => State.commitRow_within (land_sub q rfl) (within_tq
      (land_sub q rfl) (State.runP_within (land_sub q rfl) h_1)))))

theorem State.endP_within {P s0 s1 a2 a3} (q : P &&& 54496715653120 = 54496715653120) (h_1 : Within P s0 s1) :
    Within P s0 (State.endP s1 a2 a3) := by
  unfold State.endP
  try dsimp only
  exact within_ite (fun _ => within_tq (land_sub q rfl) (State.muraRead_within (land_sub q rfl) h_1)) (fun _ => within_ite (fun _ =>
      State.abandonP_within (land_sub q rfl) (State.checkP_within (land_sub q rfl) (State.muraRead_within (land_sub q rfl) h_1))) (fun _ =>
      State.finishP_within (land_sub q rfl) (State.checkP_within (land_sub q rfl) (State.muraRead_within (land_sub q rfl) h_1))))

theorem execPItemComplete_within {P s0 a1 s1} (q : P &&& 54496715653120 = 54496715653120) (h_1 : Within P s0 s1) :
    WithinO P s0 (execPItemComplete a1 s1) := by
  unfold execPItemComplete
  try dsimp only
  refine withinO_next ?_
  refine within_ite (fun _ => h_1) (fun _ => ?_)
  split
  · exact State.freeEngine_within (land_sub q rfl) h_1
  · exact State.endP_within (land_sub q rfl) (State.freeEngine_within (land_sub q rfl) h_1)

theorem execRowSkipped_within {P s0 a1 a2 a3 s1} (q : P &&& 19312339369984 = 19312339369984) (h_1 : Within P s0 s1) :
    WithinO P s0 (execRowSkipped a1 a2 a3 s1) := by
  unfold execRowSkipped
  try dsimp only
  exact withinO_next (within_ite (fun _ => State.skipRow_within (land_sub q rfl) h_1) (fun _ => h_1))

theorem State.bypassFaulty_within {P s0 s1 a2} (q : P &&& 1099511644160 = 1099511644160) (h_1 : Within P s0 s1) :
    Within P s0 (State.bypassFaulty s1 a2) := by
  unfold State.bypassFaulty
  try dsimp only
  exact within_foldl (fun _ _ h0 => State.post_within (land_sub q rfl) h0) (State.modHead_within (land_sub q rfl) h_1)

theorem State.takeGiven_within {P s0 s1 a2 a3 a4} (q : P &&& 1099511644160 = 1099511644160) (h_1 : Within P s0 s1) :
    Within P s0 (State.takeGiven s1 a2 a3 a4) := by
  unfold State.takeGiven
  try dsimp only
  exact within_ite (fun _ => State.setHead_within (land_sub q rfl) h_1) (fun _ => State.post_within (land_sub q rfl) (State.setHead_within
      (land_sub q rfl) h_1))

theorem State.latchOne_within {P s0 s1 a2 a3 a4 a5 a6 a7 a8} (q : P &&& 1099511627776 = 1099511627776) (h_1 : Within P s0 s1) :
    Within P s0 (State.latchOne s1 a2 a3 a4 a5 a6 a7 a8) := by
  unfold State.latchOne
  try dsimp only
  exact State.setHead_within (land_sub q rfl) h_1

theorem State.latchFrames_within {P s0 s1 a2 a3 a4} (q : P &&& 18691697688576 = 18691697688576) (h_1 : Within P s0 s1) :
    Within P s0 (State.latchFrames s1 a2 a3 a4) := by
  unfold State.latchFrames
  try dsimp only
  refine State.modHead_within (land_sub q rfl) ?_
  refine within_ite (fun _ => ?_) (fun _ => ?_)
  · refine within_foldl (fun _ _ h2 => ?_) ?_
    · split
      · exact State.latchOne_within (land_sub q rfl) h2
      · exact h2
    · refine within_ite (fun _ => ?_) (fun _ => ?_)
      · refine State.sendMsg_within (land_sub q rfl) ?_
        refine State.bypassFaulty_within (land_sub q rfl) ?_
        split
        · exact State.takeGiven_within (land_sub q rfl) (State.modHead_within (land_sub q rfl) h_1)
        · exact State.bandLatch_within (land_sub q rfl) (State.modHead_within (land_sub q rfl) h_1)
      · refine State.bypassFaulty_within (land_sub q rfl) ?_
        split
        · exact State.takeGiven_within (land_sub q rfl) (State.modHead_within (land_sub q rfl) h_1)
        · exact State.bandLatch_within (land_sub q rfl) (State.modHead_within (land_sub q rfl) h_1)
  · split
    · refine State.modHead_within (land_sub q rfl) ?_
      refine within_ite (fun _ => ?_) (fun _ => ?_)
      · refine State.sendMsg_within (land_sub q rfl) ?_
        refine State.bypassFaulty_within (land_sub q rfl) ?_
        split
        · exact State.takeGiven_within (land_sub q rfl) (State.modHead_within (land_sub q rfl) h_1)
        · exact State.bandLatch_within (land_sub q rfl) (State.modHead_within (land_sub q rfl) h_1)
      · refine State.bypassFaulty_within (land_sub q rfl) ?_
        split
        · exact State.takeGiven_within (land_sub q rfl) (State.modHead_within (land_sub q rfl) h_1)
        · exact State.bandLatch_within (land_sub q rfl) (State.modHead_within (land_sub q rfl) h_1)
    · refine within_ite (fun _ => ?_) (fun _ => ?_)
      · refine State.sendMsg_within (land_sub q rfl) ?_
        refine State.bypassFaulty_within (land_sub q rfl) ?_
        split
        · exact State.takeGiven_within (land_sub q rfl) (State.modHead_within (land_sub q rfl) h_1)
        · exact State.bandLatch_within (land_sub q rfl) (State.modHead_within (land_sub q rfl) h_1)
      · refine State.bypassFaulty_within (land_sub q rfl) ?_
        split
        · exact State.takeGiven_within (land_sub q rfl) (State.modHead_within (land_sub q rfl) h_1)
        · exact State.bandLatch_within (land_sub q rfl) (State.modHead_within (land_sub q rfl) h_1)

theorem State.seamAt_within {P s0 s1 a2 a3 a4 a5} (q : P &&& 1651433816064 = 1651433816064) (h_1 : Within P s0 s1) :
    Within P s0 (State.seamAt s1 a2 a3 a4 a5) := by
  unfold State.seamAt
  try dsimp only
  exact State.modHead_within (land_sub q rfl) (State.forgetItems_within (land_sub q rfl) (State.dropFrom_within (land_sub q rfl) h_1))

theorem State.switchRaster_within {P s0 s1 a2 a3} (q : P &&& 1649290526720 = 1649290526720) (h_1 : Within P s0 s1) :
    Within P s0 (State.switchRaster s1 a2 a3) := by
  unfold State.switchRaster
  try dsimp only
  split
  · exact State.takeBanks_within (land_sub q rfl) (State.dropBanks_within (land_sub q rfl) (State.modHead_within (land_sub q rfl)
        (State.putRows_within0 (land_sub q rfl) (within_foldl (fun _ _ h5 => State.setTile_within (land_sub q rfl) h5) (State.takeTiles_within
        (land_sub q rfl) (State.freeTiles_within (land_sub q rfl) h_1))))))
  · exact State.modHead_within (land_sub q rfl) h_1

theorem State.rasterNow_within {P s0 s1 a2} (q : P &&& 1651438010368 = 1651438010368) (h_1 : Within P s0 s1) :
    Within P s0 (State.rasterNow s1 a2) := by
  unfold State.rasterNow
  try dsimp only
  split
  · exact h_1
  · exact State.seamAt_within (land_sub q rfl) (State.switchRaster_within (land_sub q rfl) h_1)

theorem State.applyTiming_within {P s0 s1 a2 a3 a4} (q : P &&& 1651438043136 = 1651438043136) (h_1 : Within P s0 s1) :
    Within P s0 (State.applyTiming s1 a2 a3 a4) := by
  unfold State.applyTiming
  try dsimp only
  split
  · refine within_ite (fun _ => ?_) (fun _ => ?_)
    · refine within_ite (fun _ => ?_) (fun _ => ?_)
      · refine State.rasterNow_within (land_sub q rfl) ?_
        refine State.entryApplied_within (land_sub q rfl) ?_
        refine State.modHead_within (land_sub q rfl) ?_
        split
        · exact State.modHead_within (land_sub q rfl) (State.unqueue_within (land_sub q rfl) h_1)
        · exact State.unqueue_within (land_sub q rfl) h_1
      · refine State.entryApplied_within (land_sub q rfl) ?_
        refine State.modHead_within (land_sub q rfl) ?_
        split
        · exact State.modHead_within (land_sub q rfl) (State.unqueue_within (land_sub q rfl) h_1)
        · exact State.unqueue_within (land_sub q rfl) h_1
    · refine State.entryApplied_within (land_sub q rfl) ?_
      refine State.seamAt_within (land_sub q rfl) ?_
      refine State.modHead_within (land_sub q rfl) ?_
      split
      · exact State.modHead_within (land_sub q rfl) (State.unqueue_within (land_sub q rfl) h_1)
      · exact State.unqueue_within (land_sub q rfl) h_1
  · exact State.unqueue_within (land_sub q rfl) h_1

theorem State.latchEntry_within {P s0 s1 a2 a3 a4 a5} (q : P &&& 1099511676928 = 1099511676928) (h_1 : Within P s0 s1) :
    Within P s0 (State.latchEntry s1 a2 a3 a4 a5) := by
  unfold State.latchEntry
  try dsimp only
  refine State.entryApplied_within (land_sub q rfl) ?_
  split
  · exact within_ite (fun _ => State.activateNow_within (land_sub q rfl) (State.unqueue_within (land_sub q rfl) h_1)) (fun _ =>
        State.unqueue_within (land_sub q rfl) h_1)
  · exact State.muraApply_within (land_sub q rfl) (State.unqueue_within (land_sub q rfl) h_1)
  · exact State.ledgerApply_within (land_sub q rfl) (State.unqueue_within (land_sub q rfl) h_1)
  · exact State.clearApply_within (land_sub q rfl) (State.unqueue_within (land_sub q rfl) h_1)
  · exact State.unqueue_within (land_sub q rfl) h_1

theorem State.latchEntries_within {P s0 s1 a2 a3} (q : P &&& 1099511676928 = 1099511676928) (h_1 : Within P s0 s1) :
    Within P s0 (State.latchEntries s1 a2 a3) := by
  unfold State.latchEntries
  try dsimp only
  exact keepsAt_foldl (P := fun x : State × _ => Within P s0 x.1) (fun _ _ h0 => State.latchEntry_within (land_sub q rfl) h0) h_1

theorem State.latchHead_within {P s0 s1 a2 a3} (q : P &&& 54427996176384 = 54427996176384) (h_1 : Within P s0 s1) :
    Within P s0 (State.latchHead s1 a2 a3) := by
  unfold State.latchHead
  try dsimp only
  refine within_ite (fun _ => within_sync (land_sub q rfl) h_1) (fun _ => ?_)
  refine within_ite (fun _ => within_ite (fun _ => State.latchFrames_within (land_sub q rfl) (within_sync (land_sub q rfl) h_1)) (fun _ =>
      within_sync (land_sub q rfl) h_1)) (fun _ => ?_)
  refine within_ite (fun _ => within_sync (land_sub q rfl) h_1) (fun _ => ?_)
  split
  · exact State.applyTiming_within (land_sub q rfl) (within_sync (land_sub q rfl) h_1)
  · exact State.latchFrames_within (land_sub q rfl) (State.latchEntries_within (land_sub q rfl) (within_sync (land_sub q rfl) h_1))

theorem execLatchPoint_within {P s0 a1 s1} (q : P &&& 54427996176384 = 54427996176384) (h_1 : Within P s0 s1) :
    WithinO P s0 (execLatchPoint a1 s1) := by
  unfold execLatchPoint
  try dsimp only
  exact withinO_next (within_ite (fun _ => h_1) (fun _ => within_ite (fun _ => within_sync (land_sub q rfl) h_1) (fun _ =>
      State.latchHead_within (land_sub q rfl) h_1)))

theorem execMuraReleased_within {P s0 a1 s1} (q : P &&& 1099511644160 = 1099511644160) (h_1 : Within P s0 s1) :
    WithinO P s0 (execMuraReleased a1 s1) := by
  unfold execMuraReleased
  try dsimp only
  refine withinO_next ?_
  split
  · exact h_1
  · exact within_ite (fun _ => h_1) (fun _ => State.postMura_within (land_sub q rfl) (State.modHead_within (land_sub q rfl) h_1))

theorem execThermSample_within {P s0 a1 a2 s1} (q : P &&& 1099511644160 = 1099511644160) (h_1 : Within P s0 s1) :
    WithinO P s0 (execThermSample a1 a2 s1) := by
  unfold execThermSample
  try dsimp only
  exact withinO_next (within_ite (fun _ => State.thermTake_within (land_sub q rfl) h_1) (fun _ => h_1))

theorem State.advance_within {P s0 s1 a2 a3} (q : P &&& 1649267441664 = 1649267441664) (h_1 : Within P s0 s1) :
    Within P s0 (State.advance s1 a2 a3) := by
  unfold State.advance
  try dsimp only
  exact State.forgetItems_within (land_sub q rfl) (State.modHead_within (land_sub q rfl) h_1)

theorem State.driveChecks_within {P s0 s1 a2 a3 a4 a5 a6} (q : P &&& 1099511627776 = 1099511627776) (h_1 : Within P s0 s1) :
    Within P s0 (State.driveChecks s1 a2 a3 a4 a5 a6) := by
  unfold State.driveChecks
  try dsimp only
  exact State.modHead_within (land_sub q rfl) h_1

theorem State.badColumns_within {P s0 s1 a2 a3 a4} (q : P &&& 16793600 = 16793600) (h_1 : Within P s0 s1) :
    Within P s0 (State.badColumns s1 a2 a3 a4).2 := by
  unfold State.badColumns
  try dsimp only
  exact keepsAt_foldl (P := fun x : _ × State => Within P s0 x.2) (fun _ _ h0 => State.checkWord_within (land_sub q rfl) h0) h_1

theorem State.sendLine_within {P s0 s1 a2 a3 a4 a5 a6} (q : P &&& 2199023255552 = 2199023255552) (h_1 : Within P s0 s1) :
    Within P s0 (State.sendLine s1 a2 a3 a4 a5 a6) := by
  unfold State.sendLine
  try dsimp only
  exact within_foldl (fun _ _ h0 => within_ite (fun _ => State.sendLink_within (land_sub q rfl) h0) (fun _ => h0)) h_1

theorem State.activeLine_within {P s0 s1 a2 a3 a4} (q : P &&& 21511362625536 = 21511362625536) (h_1 : Within P s0 s1) : Within P s0
    (State.activeLine s1 a2 a3 a4).1 := by
  unfold State.activeLine
  extract_lets a
  have ha : Within P s0 a := within_ite (fun _ => h_1) (fun _ => State.skipRow_within (land_sub q rfl) h_1)
  clear_value a
  refine keepsAt_ite (P := fun x : State × _ => Within P s0 x.1) (fun _ => ?_) (fun _ => State.sendLine_within (land_sub q rfl) ha)
  exact State.sendLine_within (land_sub q rfl) (State.badColumns_within (land_sub q rfl) ha)

theorem State.sendPhase_within {P s0 s1 a2 a3} (q : P &&& 17592186044416 = 17592186044416) (h_1 : Within P s0 s1) :
    Within P s0 (State.sendPhase s1 a2 a3) := by
  unfold State.sendPhase
  try dsimp only
  exact within_ite (fun _ => State.sendBlock_within (land_sub q rfl) h_1) (fun _ => h_1)

theorem State.redriveNets_within {P s0 s1 a2} (q : P &&& 53876069761024 = 53876069761024) (h_1 : Within P s0 s1) :
    Within P s0 (State.redriveNets s1 a2) := by
  unfold State.redriveNets
  try dsimp only
  exact within_ite (fun _ => State.modHead_within (land_sub q rfl) (within_pair_sync (land_sub q rfl) h_1)) (fun _ => h_1)

theorem State.blankLine_within {P s0 s1 a2 a3 a4} (q : P &&& 2199224582144 = 2199224582144) (h_1 : Within P s0 s1) :
    Within P s0 (State.blankLine s1 a2 a3 a4) := by
  unfold State.blankLine
  try dsimp only
  exact within_foldl (fun _ _ h0 => within_foldl (fun _ _ h1 => State.changePoint_within (land_sub q rfl) h1) h0) (State.sendLine_within
      (land_sub q rfl) h_1)

theorem State.startLine_within {P s0 s1 a2 a3} (q : P &&& 56695940235264 = 56695940235264) (h_1 : Within P s0 s1) :
    Within P s0 (State.startLine s1 a2 a3) := by
  unfold State.startLine
  try dsimp only
  refine within_ite (fun _ => ?_) (fun _ => ?_)
  · refine State.rasterNow_within (land_sub q rfl) ?_
    refine State.modHead_within (land_sub q rfl) ?_
    refine State.driveChecks_within (land_sub q rfl) ?_
    refine keepsAt_ite (P := fun x : State × _ => Within P s0 x.1) (fun _ => ?_) (fun _ => ?_)
    · refine State.activeLine_within (land_sub q rfl) ?_
      split
      · exact State.modHead_within (land_sub q rfl) (State.sendPhase_within (land_sub q rfl) (State.redriveNets_within (land_sub q rfl) h_1))
      · exact State.sendPhase_within (land_sub q rfl) (State.redriveNets_within (land_sub q rfl) h_1)
    · refine State.blankLine_within (land_sub q rfl) ?_
      split
      · exact State.modHead_within (land_sub q rfl) (State.sendPhase_within (land_sub q rfl) (State.redriveNets_within (land_sub q rfl) h_1))
      · exact State.sendPhase_within (land_sub q rfl) (State.redriveNets_within (land_sub q rfl) h_1)
  · refine State.modHead_within (land_sub q rfl) ?_
    refine State.driveChecks_within (land_sub q rfl) ?_
    refine keepsAt_ite (P := fun x : State × _ => Within P s0 x.1) (fun _ => ?_) (fun _ => ?_)
    · refine State.activeLine_within (land_sub q rfl) ?_
      split
      · exact State.modHead_within (land_sub q rfl) (State.sendPhase_within (land_sub q rfl) (State.redriveNets_within (land_sub q rfl) h_1))
      · exact State.sendPhase_within (land_sub q rfl) (State.redriveNets_within (land_sub q rfl) h_1)
    · refine State.blankLine_within (land_sub q rfl) ?_
      split
      · exact State.modHead_within (land_sub q rfl) (State.sendPhase_within (land_sub q rfl) (State.redriveNets_within (land_sub q rfl) h_1))
      · exact State.sendPhase_within (land_sub q rfl) (State.redriveNets_within (land_sub q rfl) h_1)

theorem execLineStart_within {P s0 a1 s1} (q : P &&& 56695940235264 = 56695940235264) (h_1 : Within P s0 s1) :
    WithinO P s0 (execLineStart a1 s1) := by
  unfold execLineStart
  try dsimp only
  refine withinO_next ?_
  refine within_ite (fun _ => h_1) (fun _ => ?_)
  split
  · refine within_ite (fun _ => ?_) (fun _ => ?_)
    · refine State.setHead_within (land_sub q rfl) ?_
      refine within_ite (fun _ => ?_) (fun _ => h_1)
      split
      · exact State.advance_within (land_sub q rfl) h_1
      · exact h_1
    · refine State.startLine_within (land_sub q rfl) ?_
      refine within_ite (fun _ => ?_) (fun _ => h_1)
      split
      · exact State.advance_within (land_sub q rfl) h_1
      · exact h_1
  · refine State.setHead_within (land_sub q rfl) ?_
    refine within_ite (fun _ => ?_) (fun _ => h_1)
    split
    · exact State.advance_within (land_sub q rfl) h_1
    · exact h_1

theorem State.postDac_within {P s0 s1 a2 a3} (q : P &&& 16384 = 16384) (h_1 : Within P s0 s1) :
    Within P s0 (State.postDac s1 a2 a3) := by
  unfold State.postDac
  try dsimp only
  exact State.post_within (land_sub q rfl) h_1

theorem State.trim_within {P s0 s1 a2 a3} (q : P &&& 1099511644160 = 1099511644160) (h_1 : Within P s0 s1) :
    Within P s0 (State.trim s1 a2 a3) := by
  unfold State.trim
  try dsimp only
  exact within_ite (fun _ => State.postDac_within (land_sub q rfl) (State.modHead_within (land_sub q rfl) h_1)) (fun _ => State.modHead_within
      (land_sub q rfl) h_1)

theorem State.measure_within {P s0 s1 a2 a3 a4} (q : P &&& 1099511644160 = 1099511644160) (h_1 : Within P s0 s1) :
    Within P s0 (State.measure s1 a2 a3 a4) := by
  unfold State.measure
  try dsimp only
  exact within_ite (fun _ => within_ite (fun _ => within_ite (fun _ => State.postDac_within (land_sub q rfl) (State.modHead_within (land_sub q
      rfl) h_1)) (fun _ => State.modHead_within (land_sub q rfl) h_1)) (fun _ => State.trim_within (land_sub q rfl) (within_ite (fun _ =>
      State.postDac_within (land_sub q rfl) (State.modHead_within (land_sub q rfl) h_1)) (fun _ => State.modHead_within (land_sub q rfl) h_1))))
      (fun _ => within_ite (fun _ => State.postDac_within (land_sub q rfl) (State.modHead_within (land_sub q rfl) h_1)) (fun _ =>
      State.modHead_within (land_sub q rfl) h_1))

theorem State.vcomTrim_within {P s0 s1 a2 a3} (q : P &&& 1099511676928 = 1099511676928) (h_1 : Within P s0 s1) :
    Within P s0 (State.vcomTrim s1 a2 a3) := by
  unfold State.vcomTrim
  try dsimp only
  split
  · exact State.entryApplied_within (land_sub q rfl) (State.modHead_within (land_sub q rfl) (State.unqueue_within (land_sub q rfl) h_1))
  · exact State.unqueue_within (land_sub q rfl) h_1

theorem execTrimInstant_within {P s0 a1 a2 s1} (q : P &&& 1099511676928 = 1099511676928) (h_1 : Within P s0 s1) :
    WithinO P s0 (execTrimInstant a1 a2 s1) := by
  unfold execTrimInstant
  try dsimp only
  refine withinO_next ?_
  split
  · exact h_1
  · exact within_ite (fun _ => h_1) (fun _ => within_foldl (fun _ _ h2 => State.vcomTrim_within (land_sub q rfl) h2) (within_ite (fun _ => h_1)
        (fun _ => within_ite (fun _ => State.measure_within (land_sub q rfl) h_1) (fun _ => State.modHead_within (land_sub q rfl) h_1))))

theorem execHeadStall_within {P s0 a1 s1} (q : P &&& 1651433848832 = 1651433848832) (h_1 : Within P s0 s1) :
    WithinO P s0 (execHeadStall a1 s1) := by
  unfold execHeadStall
  try dsimp only
  exact withinO_next (within_ite (fun _ => State.stopHead_within (land_sub q rfl) (State.post_within (land_sub q rfl) h_1)) (fun _ => h_1))

theorem execSrEnter_within {P s0 a1 s1} (q : P &&& 1099511644160 = 1099511644160) (h_1 : Within P s0 s1) :
    WithinO P s0 (execSrEnter a1 s1) := by
  unfold execSrEnter
  try dsimp only
  exact withinO_next (within_ite (fun _ => State.enterSr_within (land_sub q rfl) h_1) (fun _ => h_1))

theorem execSrExit_within {P s0 a1 s1} (q : P &&& 1099511644160 = 1099511644160) (h_1 : Within P s0 s1) :
    WithinO P s0 (execSrExit a1 s1) := by
  unfold execSrExit
  try dsimp only
  exact withinO_next (within_ite (fun _ => State.exitSr_within (land_sub q rfl) h_1) (fun _ => h_1))

theorem execFollowRepeat_within {P s0 a1 s1} (q : P &&& 1099511627776 = 1099511627776) (h_1 : Within P s0 s1) :
    WithinO P s0 (execFollowRepeat a1 s1) := by
  unfold execFollowRepeat
  try dsimp only
  refine withinO_next ?_
  split
  · exact within_ite (fun _ => State.setHead_within (land_sub q rfl) h_1) (fun _ => h_1)
  · exact h_1

theorem execWarmupDone_within {P s0 a1 s1} (q : P &&& 1099511676928 = 1099511676928) (h_1 : Within P s0 s1) :
    WithinO P s0 (execWarmupDone a1 s1) := by
  unfold execWarmupDone
  try dsimp only
  exact withinO_next (within_ite (fun _ => State.endProcs_within (land_sub q rfl) (State.post_within (land_sub q rfl) (State.setHead_within
      (land_sub q rfl) h_1))) (fun _ => h_1))

theorem execBalancingFrame_within {P s0 a1 s1} (q : P &&& 1649267441664 = 1649267441664) (h_1 : Within P s0 s1) :
    WithinO P s0 (execBalancingFrame a1 s1) := by
  unfold execBalancingFrame
  try dsimp only
  refine withinO_next ?_
  refine within_ite (fun _ => ?_) (fun _ => h_1)
  split
  · exact within_ite (fun _ => State.advance_within (land_sub q rfl) h_1) (fun _ => h_1)
  · exact h_1

theorem execPark_within {P s0 a1 s1} (q : P &&& 3298534883328 = 3298534883328) (h_1 : Within P s0 s1) :
    WithinO P s0 (execPark a1 s1) := by
  unfold execPark
  try dsimp only
  refine withinO_next ?_
  split
  · exact within_ite (fun _ => State.modHead_within (land_sub q rfl) (State.broadcast_within (land_sub q rfl) h_1)) (fun _ => h_1)
  · exact h_1

theorem State.checkDone_within {P s0 s1 a2 a3 a4 a5 a6 a7 a8} (q : P &&& 1651433848832 = 1651433848832) (h_1 : Within P s0 s1) :
    Within P s0 (State.checkDone s1 a2 a3 a4 a5 a6 a7 a8) := by
  unfold State.checkDone
  try dsimp only
  exact within_ite (fun _ => State.setCheck_within (land_sub q rfl) h_1) (fun _ => within_ite (fun _ => State.setCheck_within (land_sub q rfl)
      h_1) (fun _ => within_ite (fun _ => State.setCheck_within (land_sub q rfl) h_1) (fun _ => within_ite (fun _ => State.stopHead_within
      (land_sub q rfl) (State.post_within (land_sub q rfl) (State.setCheck_within (land_sub q rfl) h_1))) (fun _ => State.post_within (land_sub
      q rfl) (State.setCheck_within (land_sub q rfl) h_1)))))

theorem execCheckResult_within {P s0 a1 a2 s1} (q : P &&& 1651433848832 = 1651433848832) (h_1 : Within P s0 s1) :
    WithinO P s0 (execCheckResult a1 a2 s1) := by
  unfold execCheckResult
  try dsimp only
  refine withinO_next ?_
  split
  · exact h_1
  · refine within_ite (fun _ => ?_) (fun _ => ?_)
    · split
      · exact within_ite (fun _ => h_1) (fun _ => State.checkDone_within (land_sub q rfl) (State.setCheck_within (land_sub q rfl) h_1))
      · exact h_1
    · split
      · exact h_1
      · exact State.checkDone_within (land_sub q rfl) (State.setCheck_within (land_sub q rfl) h_1)

theorem execLeaseReleased_within {P s0 a1 s1} (q : P &&& 68719493120 = 68719493120) (h_1 : Within P s0 s1) :
    WithinO P s0 (execLeaseReleased a1 s1) := by
  unfold execLeaseReleased
  try dsimp only
  refine withinO_next ?_
  split
  · exact within_ite (fun _ => State.freeLease_within (land_sub q rfl) h_1) (fun _ => h_1)
  · exact h_1

theorem execTrainTimeout_within {P s0 a1 s1} (q : P &&& 125344325615616 = 125344325615616) (h_1 : Within P s0 s1) :
    WithinO P s0 (execTrainTimeout a1 s1) := by
  unfold execTrainTimeout
  try dsimp only
  exact withinO_next (within_ite (fun _ => State.linkTimeout_within (land_sub q rfl) h_1) (fun _ => h_1))

theorem execConfigPacket_within {P s0 a1 s1} (q : P &&& 2199023255552 = 2199023255552) (h_1 : Within P s0 s1) :
    WithinO P s0 (execConfigPacket a1 s1) := by
  unfold execConfigPacket
  try dsimp only
  exact withinO_next (within_ite (fun _ => State.sendLink_within (land_sub q rfl) (State.configTurn_within (land_sub q rfl) h_1)) (fun _ => h_1))

theorem execPoll_within {P s0 a1 s1} (q : P &&& 6597069766656 = 6597069766656) (h_1 : Within P s0 s1) :
    WithinO P s0 (execPoll a1 s1) := by
  unfold execPoll
  try dsimp only
  exact withinO_next (within_ite (fun _ => within_polls (land_sub q rfl) (State.setDriver_within (land_sub q rfl) h_1)) (fun _ => h_1))

theorem State.linkReport_within {P s0 s1 a2 a3} (q : P &&& 125344459833344 = 125344459833344) (h_1 : Within P s0 s1) :
    Within P s0 (State.linkReport s1 a2 a3) := by
  unfold State.linkReport
  try dsimp only
  split
  · exact within_ite (fun _ => State.linkTo_within (land_sub q rfl) h_1) (fun _ => h_1)
  · exact within_ite (fun _ => State.linkTo_within (land_sub q rfl) h_1) (fun _ => within_ite (fun _ => State.linkTo_within (land_sub q rfl)
        h_1) (fun _ => h_1))
  · exact within_ite (fun _ => State.linkTo_within (land_sub q rfl) h_1) (fun _ => h_1)
  · exact within_ite (fun _ => State.linkTrain_within (land_sub q rfl) h_1) (fun _ => within_foldl (fun _ _ h2 => State.laneReport_within
        (land_sub q rfl) h2) h_1)
  · exact h_1

theorem State.pollFailed_within {P s0 s1 a2} (q : P &&& 2199023271936 = 2199023271936) (h_1 : Within P s0 s1) :
    Within P s0 (State.pollFailed s1 a2) := by
  unfold State.pollFailed
  try dsimp only
  exact within_ite (fun _ => State.post_within (land_sub q rfl) (State.setDriver_within (land_sub q rfl) h_1)) (fun _ => State.setDriver_within
      (land_sub q rfl) h_1)

theorem execReport_within {P s0 a1 a2 a3 s1} (q : P &&& 125344459833344 = 125344459833344) (h_1 : Within P s0 s1) :
    WithinO P s0 (execReport a1 a2 a3 s1) := by
  unfold execReport
  try dsimp only
  exact withinO_next (within_ite (fun _ => h_1) (fun _ => within_ite (fun _ => State.linkReport_within (land_sub q rfl) (State.setDriver_within
      (land_sub q rfl) h_1)) (fun _ => State.pollFailed_within (land_sub q rfl) (State.setDriver_within (land_sub q rfl) h_1))))

theorem execBcTimeout_within {P s0 a1 s1} (q : P &&& 125344325615616 = 125344325615616) (h_1 : Within P s0 s1) :
    WithinO P s0 (execBcTimeout a1 s1) := by
  unfold execBcTimeout
  try dsimp only
  exact withinO_next (within_ite (fun _ => h_1) (fun _ => within_ite (fun _ => State.setDriver_within (land_sub q rfl) h_1) (fun _ => within_ite
      (fun _ => State.linkTrain_within (land_sub q rfl) (State.pollFailed_within (land_sub q rfl) (State.setDriver_within (land_sub q rfl)
      (State.setDriver_within (land_sub q rfl) h_1)))) (fun _ => State.pollFailed_within (land_sub q rfl) (State.setDriver_within (land_sub q
      rfl) (State.setDriver_within (land_sub q rfl) h_1))))))

theorem execDriverPacket_within {P s0 a1 a2 a3 s1} (q : P &&& 8796093022208 = 8796093022208) (h_1 : Within P s0 s1) :
    WithinO P s0 (execDriverPacket a1 a2 a3 s1) := by
  unfold execDriverPacket
  try dsimp only
  exact withinO_next (within_ite (fun _ => h_1) (fun _ => within_ite (fun _ => State.setRenn_within (land_sub q rfl) h_1) (fun _ =>
      State.setRenn_within (land_sub q rfl) h_1)))

theorem execLd_within {P s0 a1 a2 s1} (q : P &&& 8796093022208 = 8796093022208) (h_1 : Within P s0 s1) :
    WithinO P s0 (execLd a1 a2 s1) := by
  unfold execLd
  try dsimp only
  exact withinO_next (within_ite (fun _ => h_1) (fun _ => State.setRenn_within (land_sub q rfl) h_1))

theorem execDischarge_within {P s0 a1 a2 a3 s1} (q : P &&& 8796093022208 = 8796093022208) (h_1 : Within P s0 s1) :
    WithinO P s0 (execDischarge a1 a2 a3 s1) := by
  unfold execDischarge
  try dsimp only
  exact withinO_next (within_ite (fun _ => h_1) (fun _ => State.setRenn_within (land_sub q rfl) h_1))

theorem execPortAbsent_within {P s0 a1 a2 s1} (q : P &&& 8796093022208 = 8796093022208) (h_1 : Within P s0 s1) :
    WithinO P s0 (execPortAbsent a1 a2 s1) := by
  unfold execPortAbsent
  try dsimp only
  exact withinO_next (within_ite (fun _ => h_1) (fun _ => State.setRenn_within (land_sub q rfl) h_1))

theorem execDriverConfig_within {P s0 a1 a2 a3 s1} (q : P &&& 8796093022208 = 8796093022208) (h_1 : Within P s0 s1) :
    WithinO P s0 (execDriverConfig a1 a2 a3 s1) := by
  unfold execDriverConfig
  try dsimp only
  exact withinO_next (within_ite (fun _ => h_1) (fun _ => within_ite (fun _ => State.setRenn_within (land_sub q rfl) h_1) (fun _ =>
      State.setRenn_within (land_sub q rfl) h_1)))

theorem execLatch_within {P s0 a1 a2 a3 a4 a5 s1} (q : P &&& 54427996176384 = 54427996176384) (h_1 : Within P s0 s1) :
    WithinO P s0 (execLatch a1 a2 a3 a4 a5 s1) := by
  unfold execLatch
  try dsimp only
  exact withinO_next (within_ite (fun _ => h_1) (fun _ => within_ite (fun _ => within_sync (land_sub q rfl) (State.ackMsg_within (land_sub q
      rfl) h_1)) (fun _ => within_ite (fun _ => State.latchHead_within (land_sub q rfl) (within_sync (land_sub q rfl) (State.ackMsg_within
      (land_sub q rfl) h_1))) (fun _ => within_sync (land_sub q rfl) (State.ackMsg_within (land_sub q rfl) h_1)))))

theorem execLatchWaitEnd_within {P s0 s1} (q : P &&& 54427996176384 = 54427996176384) (h_1 : Within P s0 s1) :
    WithinO P s0 (execLatchWaitEnd s1) := by
  unfold execLatchWaitEnd
  try dsimp only
  exact withinO_next (within_ite (fun _ => State.latchHead_within (land_sub q rfl) h_1) (fun _ => h_1))

theorem execSelectMsg_within {P s0 a1 a2 s1} (q : P &&& 54801654136832 = 54801654136832) (h_1 : Within P s0 s1) :
    WithinO P s0 (execSelectMsg a1 a2 s1) := by
  unfold execSelectMsg
  try dsimp only
  exact withinO_next (within_ite (fun _ => h_1) (fun _ => within_ite (fun _ => State.composeHead_within (land_sub q rfl) (within_sync (land_sub
      q rfl) (State.ackMsg_within (land_sub q rfl) h_1))) (fun _ => within_sync (land_sub q rfl) (State.ackMsg_within (land_sub q rfl) h_1))))

theorem execSelectWaitEnd_within {P s0 s1} (q : P &&& 54801654136832 = 54801654136832) (h_1 : Within P s0 s1) :
    WithinO P s0 (execSelectWaitEnd s1) := by
  unfold execSelectWaitEnd
  try dsimp only
  exact withinO_next (within_ite (fun _ => State.composeHead_within (land_sub q rfl) h_1) (fun _ => h_1))

theorem execTs2_within {P s0 a1 s1} (q : P &&& 10995116277760 = 10995116277760) (h_1 : Within P s0 s1) :
    WithinO P s0 (execTs2 a1 s1) := by
  unfold execTs2
  try dsimp only
  exact withinO_next (within_ite (fun _ => State.setRenn_within (land_sub q rfl) (State.setDriver_within (land_sub q rfl) h_1)) (fun _ => h_1))

end Sys2Proof.Machine
end

