-- ==== Sys2Proof/Laws/WithinNet.lean ====
section
/-! SUPPORT. Within: audio, time events and the network. One lemma per operation: the parts of the state that it may change. -/

namespace Sys2Proof.Machine

open Sys2Proof.Laws Sys2Proof.Safety

theorem State.lanesOff_within {P s0 s1 a2} (q : P &&& 67108864 = 67108864) (h_1 : Within P s0 s1) :
    Within P s0 (State.lanesOff s1 a2) := by
  unfold State.lanesOff
  try dsimp only
  exact within_foldl (fun _ _ h0 => State.setLane_within (land_sub q rfl) h0) h_1

theorem State.flowSample_within {P s0 s1 a2 a3 a4} (q : P &&& 16793600 = 16793600) (h_1 : Within P s0 s1) :
    Within P s0 (State.flowSample s1 a2 a3 a4).2.2 := by
  unfold State.flowSample
  try dsimp only
  split
  · exact h_1
  · exact keepsAt_ite (P := fun x : _ × _ × State => Within P s0 x.2.2) (fun _ => h_1) (fun _ => keepsAt_ite (P := fun x : _ × _ × State =>
        Within P s0 x.2.2) (fun _ => h_1) (fun _ => keepsAt_ite (P := fun x : _ × _ × State => Within P s0 x.2.2) (fun _ => State.getMem_within
        (land_sub q rfl) h_1) (fun _ => State.getMem_within (land_sub q rfl) h_1)))

theorem State.assocSample_within {P s0 s1 a2 a3 a4} (q : P &&& 16793600 = 16793600) (h_1 : Within P s0 s1) :
    Within P s0 (State.assocSample s1 a2 a3 a4).2.2 := by
  unfold State.assocSample
  try dsimp only
  exact keepsAt_ite (P := fun x : _ × _ × State => Within P s0 x.2.2) (fun _ => h_1) (fun _ => State.flowSample_within (land_sub q rfl) h_1)

theorem State.destSample_within {P s0 s1 a2 a3 a4 a5 a6} (q : P &&& 16793600 = 16793600) (h_1 : Within P s0 s1) :
    Within P s0 (State.destSample s1 a2 a3 a4 a5 a6).2.2 := by
  unfold State.destSample
  try dsimp only
  split
  · exact State.assocSample_within (land_sub q rfl) h_1
  · exact keepsAt_ite (P := fun x : _ × _ × State => Within P s0 x.2.2) (fun _ => State.assocSample_within (land_sub q rfl) h_1) (fun _ =>
        keepsAt_ite (P := fun x : _ × _ × State => Within P s0 x.2.2) (fun _ => State.assocSample_within (land_sub q rfl) h_1) (fun _ =>
        State.assocSample_within (land_sub q rfl) (State.assocSample_within (land_sub q rfl) h_1)))

theorem State.mapSamples_within {P s0 s1 a2 a3 a4 a5 a6} (q : P &&& 16793600 = 16793600) (h_1 : Within P s0 s1) :
    Within P s0 (State.mapSamples s1 a2 a3 a4 a5 a6).2.2 := by
  unfold State.mapSamples
  try dsimp only
  exact keepsAt_foldl (P := fun x : _ × _ × State => Within P s0 x.2.2) (fun _ _ h0 => keepsAt_ite (P := fun x : _ × _ × State => Within P s0
      x.2.2) (fun _ => h0) (fun _ => State.destSample_within (land_sub q rfl) h0)) h_1

theorem State.headSample_within {P s0 s1 a2 a3} (q : P &&& 1099528421408 = 1099528421408) (h_1 : Within P s0 s1) :
    Within P s0 (State.headSample s1 a2 a3) := by
  unfold State.headSample
  try dsimp only
  exact State.modHead_within (land_sub q rfl) (within_ite (fun _ => State.setYoyo_within (land_sub q rfl) (State.mapSamples_within (land_sub q
      rfl) h_1)) (fun _ => State.mapSamples_within (land_sub q rfl) h_1))

theorem State.emitSamples_within {P s0 s1} (q : P &&& 1099528421408 = 1099528421408) (h_1 : Within P s0 s1) :
    Within P s0 (State.emitSamples s1) := by
  unfold State.emitSamples
  try dsimp only
  exact within_foldl (fun _ _ h0 => within_ite (fun _ => h0) (fun _ => State.headSample_within (land_sub q rfl) h0)) h_1

theorem State.track_within {P s0 s1 a2} (q : P &&& 1672908686400 = 1672908686400) (h_1 : Within P s0 s1) :
    Within P s0 (State.track s1 a2) := by
  unfold State.track
  try dsimp only
  exact within_time (land_sub q rfl) (State.stepTp_within (land_sub q rfl) h_1)

theorem State.moveTp_within {P s0 s1 a2 a3} (q : P &&& 64 = 64) (h_1 : Within P s0 s1) :
    Within P s0 (State.moveTp s1 a2 a3) := by
  unfold State.moveTp
  try dsimp only
  exact within_time (land_sub q rfl) h_1

theorem State.tickTracking_within {P s0 s1} (q : P &&& 16448 = 16448) (h_1 : Within P s0 s1) :
    Within P s0 (State.tickTracking s1) := by
  unfold State.tickTracking
  try dsimp only
  exact within_ite (fun _ => within_time (land_sub q rfl) (State.moveTp_within (land_sub q rfl) h_1)) (fun _ => within_time (land_sub q rfl)
      (State.moveTp_within (land_sub q rfl) (within_ite (fun _ => h_1) (fun _ => State.jumpRefused_within (land_sub q rfl) h_1))))

theorem State.tickFree_within {P s0 s1} (q : P &&& 1672908686400 = 1672908686400) (h_1 : Within P s0 s1) :
    Within P s0 (State.tickFree s1) := by
  unfold State.tickFree
  try dsimp only
  exact within_ite (fun _ => State.moveTp_within (land_sub q rfl) h_1) (fun _ => within_ite (fun _ => State.track_within (land_sub q rfl)
      (State.moveTp_within (land_sub q rfl) h_1)) (fun _ => within_ite (fun _ => within_time (land_sub q rfl) (State.moveTp_within (land_sub q
      rfl) h_1)) (fun _ => State.moveTp_within (land_sub q rfl) h_1)))

theorem State.tickTp_within {P s0 s1} (q : P &&& 36857280775360 = 36857280775360) (h_1 : Within P s0 s1) :
    Within P s0 (State.tickTp s1) := by
  unfold State.tickTp
  try dsimp only
  split
  · split
    · exact State.track_within (land_sub q rfl) (within_timeRegs (land_sub q rfl) h_1)
    · exact State.stepTp_within (land_sub q rfl) (within_timeRegs (land_sub q rfl) h_1)
  · exact within_ite (fun _ => within_sync (land_sub q rfl) (State.track_within (land_sub q rfl) h_1)) (fun _ => within_ite (fun _ =>
        State.tickTracking_within (land_sub q rfl) h_1) (fun _ => State.tickFree_within (land_sub q rfl) h_1))

theorem State.tickCounters_within {P s0 s1} (q : P &&& 35184372089024 = 35184372089024) (h_1 : Within P s0 s1) :
    Within P s0 (State.tickCounters s1) := by
  unfold State.tickCounters
  try dsimp only
  exact within_time_timeRegs_sync (land_sub q rfl) h_1

theorem execTimeTick_within {P s0 s1} (q : P &&& 36857280775392 = 36857280775392) (h_1 : Within P s0 s1) :
    WithinO P s0 (execTimeTick s1) := by
  unfold execTimeTick
  try dsimp only
  exact withinO_next (within_ite (fun _ => h_1) (fun _ => State.emitSamples_within (land_sub q rfl) (State.tickTp_within (land_sub q rfl)
      (State.tickCounters_within (land_sub q rfl) h_1))))

theorem execAutoSelect_within {P s0 s1} (q : P &&& 64 = 64) (h_1 : Within P s0 s1) :
    WithinO P s0 (execAutoSelect s1) := by
  unfold execAutoSelect
  try dsimp only
  exact withinO_next (within_ite (fun _ => State.takeDomain_within (land_sub q rfl) h_1) (fun _ => h_1))

theorem State.takeGm_within {P s0 s1 a2 a3} (q : P &&& 16640 = 16640) (h_1 : Within P s0 s1) :
    Within P s0 (State.takeGm s1 a2 a3) := by
  unfold State.takeGm
  try dsimp only
  exact State.domainState_within (land_sub q rfl) (State.setDomain_within (land_sub q rfl) h_1)

theorem State.ptpAnnounce_within {P s0 s1 a2 a3} (q : P &&& 16640 = 16640) (h_1 : Within P s0 s1) :
    Within P s0 (State.ptpAnnounce s1 a2 a3) := by
  unfold State.ptpAnnounce
  try dsimp only
  split
  · exact within_ite (fun _ => State.takeGm_within (land_sub q rfl) h_1) (fun _ => h_1)
  · exact within_ite (fun _ => within_ite (fun _ => State.takeGm_within (land_sub q rfl) (State.setDomain_within (land_sub q rfl) h_1)) (fun _
        => State.setDomain_within (land_sub q rfl) h_1)) (fun _ => within_ite (fun _ => State.takeGm_within (land_sub q rfl) h_1) (fun _ =>
        h_1))

theorem State.setRate_within {P s0 s1 a2 a3} (q : P &&& 64 = 64) (h_1 : Within P s0 s1) :
    Within P s0 (State.setRate s1 a2 a3) := by
  unfold State.setRate
  try dsimp only
  exact within_ite (fun _ => within_time (land_sub q rfl) h_1) (fun _ => within_time (land_sub q rfl) h_1)

theorem State.servoStep_within {P s0 s1 a2} (q : P &&& 70368744177728 = 70368744177728) (h_1 : Within P s0 s1) :
    Within P s0 (State.servoStep s1 a2) := by
  unfold State.servoStep
  try dsimp only
  exact within_ite (fun _ => within_time (land_sub q rfl) (State.drawInt_within (land_sub q rfl) h_1)) (fun _ => within_time (land_sub q rfl)
      (State.drawInt_within (land_sub q rfl) h_1))

theorem State.ptpSync_within {P s0 s1 a2 a3 a4} (q : P &&& 70368744194368 = 70368744194368) (h_1 : Within P s0 s1) :
    Within P s0 (State.ptpSync s1 a2 a3 a4) := by
  unfold State.ptpSync
  try dsimp only
  split
  · exact State.domainState_within (land_sub q rfl) (State.setRate_within (land_sub q rfl) (State.drawInt_within (land_sub q rfl)
        (State.setDomain_within (land_sub q rfl) h_1)))
  · exact within_ite (fun _ => State.domainState_within (land_sub q rfl) (State.servoStep_within (land_sub q rfl) (State.setRate_within
        (land_sub q rfl) (State.drawInt_within (land_sub q rfl) (State.setDomain_within (land_sub q rfl) h_1))))) (fun _ =>
        State.servoStep_within (land_sub q rfl) (State.setRate_within (land_sub q rfl) (State.drawInt_within (land_sub q rfl)
        (State.setDomain_within (land_sub q rfl) h_1))))
  · exact within_ite (fun _ => State.setDomain_within (land_sub q rfl) (State.domainState_within (land_sub q rfl) (State.setRate_within
        (land_sub q rfl) (State.drawInt_within (land_sub q rfl) (State.setDomain_within (land_sub q rfl) h_1))))) (fun _ => State.setRate_within
        (land_sub q rfl) (State.drawInt_within (land_sub q rfl) (State.setDomain_within (land_sub q rfl) h_1)))
  · exact State.setRate_within (land_sub q rfl) (State.drawInt_within (land_sub q rfl) (State.setDomain_within (land_sub q rfl) h_1))

theorem execPtpMessage_within {P s0 a1 a2 s1} (q : P &&& 70368744194368 = 70368744194368) (h_1 : Within P s0 s1) :
    WithinO P s0 (execPtpMessage a1 a2 s1) := by
  unfold execPtpMessage
  try dsimp only
  refine withinO_next ?_
  refine within_ite (fun _ => h_1) (fun _ => ?_)
  refine within_ite (fun _ => State.ptpAnnounce_within (land_sub q rfl) h_1) (fun _ => ?_)
  refine within_ite (fun _ => State.setDomain_within (land_sub q rfl) h_1) (fun _ => ?_)
  refine within_ite (fun _ => h_1) (fun _ => ?_)
  split
  · exact State.ptpSync_within (land_sub q rfl) h_1
  · exact State.setDomain_within (land_sub q rfl) h_1
  · exact State.setDomain_within (land_sub q rfl) h_1
  · exact h_1

theorem State.listen_within {P s0 s1 a2} (q : P &&& 16640 = 16640) (h_1 : Within P s0 s1) :
    Within P s0 (State.listen s1 a2) := by
  unfold State.listen
  try dsimp only
  exact State.setDomain_within (land_sub q rfl) (State.domainState_within (land_sub q rfl) h_1)

theorem execSyncLoss_within {P s0 a1 s1} (q : P &&& 16640 = 16640) (h_1 : Within P s0 s1) :
    WithinO P s0 (execSyncLoss a1 s1) := by
  unfold execSyncLoss
  try dsimp only
  refine withinO_next ?_
  refine within_ite (fun _ => h_1) (fun _ => ?_)
  split
  · exact State.domainState_within (land_sub q rfl) h_1
  · exact State.listen_within (land_sub q rfl) h_1
  · exact h_1

theorem execHoldoverLimit_within {P s0 a1 s1} (q : P &&& 16640 = 16640) (h_1 : Within P s0 s1) :
    WithinO P s0 (execHoldoverLimit a1 s1) := by
  unfold execHoldoverLimit
  try dsimp only
  exact withinO_next (within_ite (fun _ => State.listen_within (land_sub q rfl) h_1) (fun _ => h_1))

theorem execEvtCapture_within {P s0 a1 a2 a3 s1} (q : P &&& 16896 = 16896) (h_1 : Within P s0 s1) :
    WithinO P s0 (execEvtCapture a1 a2 a3 s1) := by
  unfold execEvtCapture
  try dsimp only
  exact withinO_next (within_ite (fun _ => h_1) (fun _ => within_ite (fun _ => State.setEvtIn_within (land_sub q rfl) h_1) (fun _ => within_ite
      (fun _ => State.post_within (land_sub q rfl) (State.setEvtIn_within (land_sub q rfl) h_1)) (fun _ => State.setEvtIn_within (land_sub q
      rfl) h_1))))

theorem execEvtOutPulse_within {P s0 a1 s1} (q : P &&& 1024 = 1024) (h_1 : Within P s0 s1) :
    WithinO P s0 (execEvtOutPulse a1 s1) := by
  unfold execEvtOutPulse
  try dsimp only
  refine withinO_next ?_
  refine within_ite (fun _ => h_1) (fun _ => ?_)
  refine within_ite (fun _ => ?_) (fun _ => ?_)
  · refine within_ite (fun _ => h_1) (fun _ => ?_)
    split
    · exact State.setEvtOut_within (land_sub q rfl) h_1
    · exact State.setEvtOut_within (land_sub q rfl) h_1
  · split
    · exact within_ite (fun _ => State.setEvtOut_within (land_sub q rfl) h_1) (fun _ => h_1)
    · exact h_1

theorem State.toFirmware_within {P s0 s1 a2 a3} (q : P &&& 1073741824 = 1073741824) (h_1 : Within P s0 s1) :
    Within P s0 (State.toFirmware s1 a2 a3) := by
  unfold State.toFirmware
  try dsimp only
  exact within_ite (fun _ => State.setPort_within (land_sub q rfl) h_1) (fun _ => State.portCount_within (land_sub q rfl) h_1)

theorem State.legCount_within {P s0 s1 a2 a3 a4 a5} (q : P &&& 2147483648 = 2147483648) (h_1 : Within P s0 s1) :
    Within P s0 (State.legCount s1 a2 a3 a4 a5) := by
  unfold State.legCount
  try dsimp only
  exact State.setFlow_within (land_sub q rfl) h_1

theorem State.merge_within {P s0 s1 a2 a3 a4 a5} (q : P &&& 2147483648 = 2147483648) (h_1 : Within P s0 s1) :
    Within P s0 (State.merge s1 a2 a3 a4 a5).2 := by
  unfold State.merge
  try dsimp only
  exact keepsAt_ite (P := fun x : _ × State => Within P s0 x.2) (fun _ => State.setFlow_within (land_sub q rfl) h_1) (fun _ => keepsAt_ite (P :=
      fun x : _ × State => Within P s0 x.2) (fun _ => State.setFlow_within (land_sub q rfl) h_1) (fun _ => h_1))

theorem State.putSrd_within {P s0 s1 a2 a3 a4 a5} (q : P &&& 18890752 = 18890752) (h_1 : Within P s0 s1) :
    Within P s0 (State.putSrd s1 a2 a3 a4 a5) := by
  unfold State.putSrd
  try dsimp only
  exact within_foldl (fun _ _ h0 => within_foldl (fun _ _ h1 => State.putSample_within (land_sub q rfl) h1) h0) h_1

theorem State.videoWrite_within {P s0 s1 a2 a3 a4 a5 a6 a7 a8 a9 a10} (q : P &&& 2166374400 = 2166374400) (h_1 : Within P s0 s1) :
    Within P s0 (State.videoWrite s1 a2 a3 a4 a5 a6 a7 a8 a9 a10) := by
  unfold State.videoWrite
  try dsimp only
  exact within_ite (fun _ => State.closeSlot_within (land_sub q rfl) (State.setFlow_within (land_sub q rfl) (State.putSlot_within (land_sub q
      rfl) (keepsAt_foldl (P := fun x : State × _ => Within P s0 x.1) (fun _ _ h4 => State.putSrd_within (land_sub q rfl) h4) h_1)))) (fun _ =>
      State.setFlow_within (land_sub q rfl) (State.putSlot_within (land_sub q rfl) (keepsAt_foldl (P := fun x : State × _ => Within P s0 x.1)
      (fun _ _ h3 => State.putSrd_within (land_sub q rfl) h3) h_1)))

theorem State.planFollowers_within {P s0 s1 a2 a3} (q : P &&& 1099511627776 = 1099511627776) (h_1 : Within P s0 s1) :
    Within P s0 (State.planFollowers s1 a2 a3) := by
  unfold State.planFollowers
  try dsimp only
  exact within_foldl (fun _ _ h0 => within_ite (fun _ => State.followPlan_within (land_sub q rfl) h0) (fun _ => h0)) h_1

theorem State.openIn_within {P s0 s1 a2 a3 a4 a5 a6 a7} (q : P &&& 1101678002176 = 1101678002176) (h_1 : Within P s0 s1) :
    Within P s0 (State.openIn s1 a2 a3 a4 a5 a6 a7) := by
  unfold State.openIn
  try dsimp only
  split
  · exact State.setFlow_within (land_sub q rfl) h_1
  · exact State.planFollowers_within (land_sub q rfl) (State.putSlot_within (land_sub q rfl) (State.setFlow_within (land_sub q rfl) h_1))

theorem State.makeRoom_within {P s0 s1 a2 a3} (q : P &&& 2166374400 = 2166374400) (h_1 : Within P s0 s1) :
    Within P s0 (State.makeRoom s1 a2 a3) := by
  unfold State.makeRoom
  try dsimp only
  refine within_ite (fun _ => ?_) (fun _ => h_1)
  split
  · exact State.closeSlot_within (land_sub q rfl) h_1
  · exact h_1

theorem State.openFrame_within {P s0 s1 a2 a3 a4 a5 a6} (q : P &&& 1101678002176 = 1101678002176) (h_1 : Within P s0 s1) :
    Within P s0 (State.openFrame s1 a2 a3 a4 a5 a6).2 := by
  unfold State.openFrame
  try dsimp only
  exact State.openIn_within (land_sub q rfl) (State.makeRoom_within (land_sub q rfl) h_1)

theorem State.videoSlot_within {P s0 s1 a2 a3 a4 a5 a6} (q : P &&& 1101678002176 = 1101678002176) (h_1 : Within P s0 s1) :
    Within P s0 (State.videoSlot s1 a2 a3 a4 a5 a6).2 := by
  unfold State.videoSlot
  try dsimp only
  split
  · exact h_1
  · exact keepsAt_ite (P := fun x : _ × State => Within P s0 x.2) (fun _ => h_1) (fun _ => keepsAt_ite (P := fun x : _ × State => Within P s0
        x.2) (fun _ => State.openFrame_within (land_sub q rfl) h_1) (fun _ => State.setFlow_within (land_sub q rfl) h_1))

theorem State.video_within {P s0 s1 a2 a3 a4 a5 a6 a7 a8} (q : P &&& 1101678002176 = 1101678002176) (h_1 : Within P s0 s1) :
    Within P s0 (State.video s1 a2 a3 a4 a5 a6 a7 a8) := by
  unfold State.video
  try dsimp only
  split
  · exact State.legCount_within (land_sub q rfl) h_1
  · refine within_ite (fun _ => State.legCount_within (land_sub q rfl) h_1) (fun _ => ?_)
    refine within_ite (fun _ => State.merge_within (land_sub q rfl) h_1) (fun _ => ?_)
    split
    · exact State.videoWrite_within (land_sub q rfl) (State.videoSlot_within (land_sub q rfl) (State.merge_within (land_sub q rfl) h_1))
    · exact State.videoSlot_within (land_sub q rfl) (State.merge_within (land_sub q rfl) h_1)

theorem State.audioIn_within {P s0 s1 a2 a3 a4 a5 a6 a7} (q : P &&& 2166374400 = 2166374400) (h_1 : Within P s0 s1) :
    Within P s0 (State.audioIn s1 a2 a3 a4 a5 a6 a7) := by
  unfold State.audioIn
  try dsimp only
  exact within_ite (fun _ => State.legCount_within (land_sub q rfl) h_1) (fun _ => within_ite (fun _ => State.legCount_within (land_sub q rfl)
      h_1) (fun _ => within_ite (fun _ => State.merge_within (land_sub q rfl) h_1) (fun _ => State.setFlow_within (land_sub q rfl) (within_foldl
      (fun _ _ h4 => State.putMem_within0 (land_sub q rfl) h4) (State.merge_within (land_sub q rfl) h_1)))))

theorem State.ancIn_within {P s0 s1 a2 a3 a4 a5 a6 a7} (q : P &&& 2166374400 = 2166374400) (h_1 : Within P s0 s1) :
    Within P s0 (State.ancIn s1 a2 a3 a4 a5 a6 a7) := by
  unfold State.ancIn
  try dsimp only
  refine within_ite (fun _ => State.merge_within (land_sub q rfl) h_1) (fun _ => ?_)
  split
  · exact State.setFlow_within (land_sub q rfl) (State.getMem_within (land_sub q rfl) (State.merge_within (land_sub q rfl) h_1))
  · exact State.putMem_within0 (land_sub q rfl) (State.setFlow_within (land_sub q rfl) (State.putMem_within0 (land_sub q rfl) (within_ite (fun _
        => State.putMem_within0 (land_sub q rfl) (State.getMem_within (land_sub q rfl) (State.merge_within (land_sub q rfl) h_1))) (fun _ =>
        State.getMem_within (land_sub q rfl) (State.merge_within (land_sub q rfl) h_1)))))

theorem State.legPacket_within {P s0 s1 a2 a3 a4 a5 a6 a7} (q : P &&& 1101678002176 = 1101678002176) (h_1 : Within P s0 s1) :
    Within P s0 (State.legPacket s1 a2 a3 a4 a5 a6 a7) := by
  unfold State.legPacket
  try dsimp only
  split
  · exact within_ite (fun _ => h_1) (fun _ => State.legActive_within (land_sub q rfl) h_1)
  · split
    · exact State.legCount_within (land_sub q rfl) (State.legCount_within (land_sub q rfl) (within_ite (fun _ => h_1) (fun _ =>
          State.legActive_within (land_sub q rfl) h_1)))
    · refine within_ite (fun _ => State.legCount_within (land_sub q rfl) (State.legCount_within (land_sub q rfl) (within_ite (fun _ => h_1)
          (fun _ => State.legActive_within (land_sub q rfl) h_1)))) (fun _ => ?_)
      refine within_ite (fun _ => within_ite (fun _ => State.setFlow_within (land_sub q rfl) (State.legCount_within (land_sub q rfl)
          (State.legCount_within (land_sub q rfl) (State.legCount_within (land_sub q rfl) (within_ite (fun _ => h_1) (fun _ =>
          State.legActive_within (land_sub q rfl) h_1)))))) (fun _ => State.legCount_within (land_sub q rfl) (State.legCount_within
          (land_sub q rfl) (State.legCount_within (land_sub q rfl) (within_ite (fun _ => h_1) (fun _ => State.legActive_within (land_sub q
          rfl) h_1)))))) (fun _ => ?_)
      split
      · exact State.video_within (land_sub q rfl) (within_ite (fun _ => State.setFlow_within (land_sub q rfl) (State.legCount_within
            (land_sub q rfl) (State.legCount_within (land_sub q rfl) (State.legCount_within (land_sub q rfl) (within_ite (fun _ => h_1) (fun
            _ => State.legActive_within (land_sub q rfl) h_1)))))) (fun _ => State.legCount_within (land_sub q rfl) (State.legCount_within
            (land_sub q rfl) (State.legCount_within (land_sub q rfl) (within_ite (fun _ => h_1) (fun _ => State.legActive_within (land_sub q
            rfl) h_1))))))
      · exact State.audioIn_within (land_sub q rfl) (within_ite (fun _ => State.setFlow_within (land_sub q rfl) (State.legCount_within
            (land_sub q rfl) (State.legCount_within (land_sub q rfl) (State.legCount_within (land_sub q rfl) (within_ite (fun _ => h_1) (fun
            _ => State.legActive_within (land_sub q rfl) h_1)))))) (fun _ => State.legCount_within (land_sub q rfl) (State.legCount_within
            (land_sub q rfl) (State.legCount_within (land_sub q rfl) (within_ite (fun _ => h_1) (fun _ => State.legActive_within (land_sub q
            rfl) h_1))))))
      · exact State.ancIn_within (land_sub q rfl) (within_ite (fun _ => State.setFlow_within (land_sub q rfl) (State.legCount_within
            (land_sub q rfl) (State.legCount_within (land_sub q rfl) (State.legCount_within (land_sub q rfl) (within_ite (fun _ => h_1) (fun
            _ => State.legActive_within (land_sub q rfl) h_1)))))) (fun _ => State.legCount_within (land_sub q rfl) (State.legCount_within
            (land_sub q rfl) (State.legCount_within (land_sub q rfl) (within_ite (fun _ => h_1) (fun _ => State.legActive_within (land_sub q
            rfl) h_1))))))

theorem execFrameReceive_within {P s0 a1 a2 a3 s1} (q : P &&& 1102751744032 = 1102751744032) (h_1 : Within P s0 s1) :
    WithinO P s0 (execFrameReceive a1 a2 a3 s1) := by
  unfold execFrameReceive
  try dsimp only
  refine withinO_next ?_
  refine within_ite (fun _ => h_1) (fun _ => ?_)
  refine within_ite (fun _ => State.portCount_within (land_sub q rfl) (State.portCount_within (land_sub q rfl) (State.portCount_within (land_sub
      q rfl) h_1))) (fun _ => ?_)
  split
  · exact State.portCount_within (land_sub q rfl) (State.portCount_within (land_sub q rfl) (State.portCount_within (land_sub q rfl) h_1))
  · refine within_ite (fun _ => State.toFirmware_within (land_sub q rfl) (State.portCount_within (land_sub q rfl) (State.portCount_within
        (land_sub q rfl) h_1))) (fun _ => ?_)
    split
    · exact State.portCount_within (land_sub q rfl) (State.portCount_within (land_sub q rfl) (State.portCount_within (land_sub q rfl) h_1))
    · refine within_ite (fun _ => State.toFirmware_within (land_sub q rfl) (State.portCount_within (land_sub q rfl) (State.portCount_within
          (land_sub q rfl) h_1))) (fun _ => ?_)
      split
      · exact State.portCount_within (land_sub q rfl) (State.portCount_within (land_sub q rfl) (State.portCount_within (land_sub q rfl) h_1))
      · refine within_ite (fun _ => State.toFirmware_within (land_sub q rfl) (State.portCount_within (land_sub q rfl)
            (State.portCount_within (land_sub q rfl) h_1))) (fun _ => ?_)
        split
        · exact State.portCount_within (land_sub q rfl) (State.portCount_within (land_sub q rfl) (State.portCount_within (land_sub q rfl) h_1))
        · exact State.legPacket_within (land_sub q rfl) (within_ite (fun _ => State.setYoyo_within (land_sub q rfl)
              (State.portCount_within (land_sub q rfl) (State.portCount_within (land_sub q rfl) h_1))) (fun _ => State.portCount_within
              (land_sub q rfl) (State.portCount_within (land_sub q rfl) h_1)))

theorem State.sendCtrl_within {P s0 s1 a2 a3} (q : P &&& 1073741824 = 1073741824) (h_1 : Within P s0 s1) :
    Within P s0 (State.sendCtrl s1 a2 a3) := by
  unfold State.sendCtrl
  try dsimp only
  exact State.setPort_within (land_sub q rfl) h_1

theorem State.fwSend_within {P s0 s1 a2 a3} (q : P &&& 1073741824 = 1073741824) (h_1 : Within P s0 s1) :
    Within P s0 (State.fwSend s1 a2 a3) := by
  unfold State.fwSend
  try dsimp only
  exact within_ite (fun _ => State.sendCtrl_within (land_sub q rfl) h_1) (fun _ => h_1)

theorem State.answerEcho_within {P s0 s1 a2 a3} (q : P &&& 1073741824 = 1073741824) (h_1 : Within P s0 s1) :
    Within P s0 (State.answerEcho s1 a2 a3) := by
  unfold State.answerEcho
  try dsimp only
  exact within_ite (fun _ => h_1) (fun _ => State.fwSend_within (land_sub q rfl) (State.setPort_within (land_sub q rfl) h_1))

theorem State.answerQuery_within {P s0 s1 a2 a3 a4} (q : P &&& 1073741824 = 1073741824) (h_1 : Within P s0 s1) :
    Within P s0 (State.answerQuery s1 a2 a3 a4) := by
  unfold State.answerQuery
  try dsimp only
  exact within_foldl (fun _ _ h0 => State.fwSend_within (land_sub q rfl) h0) h_1

theorem State.fwFrame_within {P s0 s1 a2 a3} (q : P &&& 1073741824 = 1073741824) (h_1 : Within P s0 s1) :
    Within P s0 (State.fwFrame s1 a2 a3) := by
  unfold State.fwFrame
  try dsimp only
  split
  · exact within_ite (fun _ => State.fwSend_within (land_sub q rfl) h_1) (fun _ => h_1)
  · split
    · exact h_1
    · split
      · exact within_ite (fun _ => State.answerEcho_within (land_sub q rfl) h_1) (fun _ => State.portCount_within (land_sub q rfl) h_1)
      · exact within_ite (fun _ => State.answerQuery_within (land_sub q rfl) h_1) (fun _ => State.portCount_within (land_sub q rfl) h_1)
      · exact within_ite (fun _ => State.answerEcho_within (land_sub q rfl) h_1) (fun _ => within_ite (fun _ => State.answerQuery_within
            (land_sub q rfl) h_1) (fun _ => within_ite (fun _ => within_ite (fun _ => State.fwSend_within (land_sub q rfl) h_1) (fun _ =>
            h_1)) (fun _ => within_ite (fun _ => h_1) (fun _ => State.portCount_within (land_sub q rfl) h_1))))
      · exact h_1

theorem execControlFrameHandle_within {P s0 a1 s1} (q : P &&& 1073741824 = 1073741824) (h_1 : Within P s0 s1) :
    WithinO P s0 (execControlFrameHandle a1 s1) := by
  unfold execControlFrameHandle
  try dsimp only
  refine withinO_next ?_
  split
  · exact within_ite (fun _ => State.fwFrame_within (land_sub q rfl) (State.setPort_within (land_sub q rfl) h_1)) (fun _ => h_1)
  · exact h_1

theorem execMembershipReport_within {P s0 a1 a2 a3 s1} (q : P &&& 1073741824 = 1073741824) (h_1 : Within P s0 s1) :
    WithinO P s0 (execMembershipReport a1 a2 a3 s1) := by
  unfold execMembershipReport
  try dsimp only
  refine withinO_next ?_
  split
  · exact within_ite (fun _ => State.fwSend_within (land_sub q rfl) h_1) (fun _ => h_1)
  · exact h_1

theorem execFrameClose_within {P s0 a1 s1} (q : P &&& 2166374400 = 2166374400) (h_1 : Within P s0 s1) :
    WithinO P s0 (execFrameClose a1 s1) := by
  unfold execFrameClose
  try dsimp only
  refine withinO_next ?_
  split
  · exact within_foldl (fun _ _ h1 => within_ite (fun _ => State.closeSlot_within (land_sub q rfl) h1) (fun _ => h1)) h_1
  · exact h_1

theorem execPortUp_within {P s0 a1 s1} (q : P &&& 1073758208 = 1073758208) (h_1 : Within P s0 s1) :
    WithinO P s0 (execPortUp a1 s1) := by
  unfold execPortUp
  try dsimp only
  exact withinO_next (within_ite (fun _ => h_1) (fun _ => State.post_within (land_sub q rfl) (State.setPort_within (land_sub q rfl) h_1)))

theorem execPortDown_within {P s0 a1 s1} (q : P &&& 1140867072 = 1140867072) (h_1 : Within P s0 s1) :
    WithinO P s0 (execPortDown a1 s1) := by
  unfold execPortDown
  try dsimp only
  exact withinO_next (within_ite (fun _ => State.portDrop_within (land_sub q rfl) h_1) (fun _ => h_1))

theorem execLegLost_within {P s0 a1 a2 a3 s1} (q : P &&& 2147500032 = 2147500032) (h_1 : Within P s0 s1) :
    WithinO P s0 (execLegLost a1 a2 a3 s1) := by
  unfold execLegLost
  try dsimp only
  exact withinO_next (within_ite (fun _ => State.legInactive_within (land_sub q rfl) h_1) (fun _ => h_1))

theorem State.unitOff_within {P s0 s1 a2} (q : P &&& 67108864 = 67108864) (h_1 : Within P s0 s1) :
    Within P s0 (State.unitOff s1 a2) := by
  unfold State.unitOff
  try dsimp only
  exact within_ite (fun _ => State.lanesOff_within (land_sub q rfl) h_1) (fun _ => within_ite (fun _ => State.lanesOff_within (land_sub q rfl)
      h_1) (fun _ => h_1))

theorem execYoyoWindow_within {P s0 a1 a2 s1} (q : P &&& 67108896 = 67108896) (h_1 : Within P s0 s1) :
    WithinO P s0 (execYoyoWindow a1 a2 s1) := by
  unfold execYoyoWindow
  try dsimp only
  exact withinO_next (within_ite (fun _ => h_1) (fun _ => within_ite (fun _ => State.setYoyo_within (land_sub q rfl) h_1) (fun _ =>
      State.unitOff_within (land_sub q rfl) (State.setYoyo_within (land_sub q rfl) h_1))))

theorem State.postWatched_within {P s0 s1 a2} (q : P &&& 16384 = 16384) (h_1 : Within P s0 s1) :
    Within P s0 (State.postWatched s1 a2) := by
  unfold State.postWatched
  try dsimp only
  exact within_foldl (fun _ _ h0 => State.post_within (land_sub q rfl) h0) h_1

theorem execYoyoCompare_within {P s0 a1 s1} (q : P &&& 16416 = 16416) (h_1 : Within P s0 s1) :
    WithinO P s0 (execYoyoCompare a1 s1) := by
  unfold execYoyoCompare
  try dsimp only
  exact withinO_next (within_ite (fun _ => h_1) (fun _ => within_ite (fun _ => State.post_within (land_sub q rfl) (within_ite (fun _ =>
      State.postWatched_within (land_sub q rfl) (State.setYoyo_within (land_sub q rfl) h_1)) (fun _ => within_ite (fun _ => State.post_within
      (land_sub q rfl) (State.setYoyo_within (land_sub q rfl) h_1)) (fun _ => State.postWatched_within (land_sub q rfl) (State.setYoyo_within
      (land_sub q rfl) h_1))))) (fun _ => within_ite (fun _ => State.postWatched_within (land_sub q rfl) (State.setYoyo_within (land_sub q rfl)
      h_1)) (fun _ => within_ite (fun _ => State.post_within (land_sub q rfl) (State.setYoyo_within (land_sub q rfl) h_1)) (fun _ =>
      State.postWatched_within (land_sub q rfl) (State.setYoyo_within (land_sub q rfl) h_1))))))

theorem execYoyoMembershipReport_within {P s0 a1 s1} (q : P &&& 1073741824 = 1073741824) (h_1 : Within P s0 s1) :
    WithinO P s0 (execYoyoMembershipReport a1 s1) := by
  unfold execYoyoMembershipReport
  try dsimp only
  exact withinO_next (within_ite (fun _ => h_1) (fun _ => within_foldl (fun _ _ h1 => State.sendCtrl_within (land_sub q rfl) h1) h_1))

theorem State.txBegin_within {P s0 s1 a2} (q : P &&& 4294967296 = 4294967296) (h_1 : Within P s0 s1) :
    Within P s0 (State.txBegin s1 a2) := by
  unfold State.txBegin
  try dsimp only
  refine within_ite (fun _ => h_1) (fun _ => ?_)
  split
  · exact State.setTx_within (land_sub q rfl) h_1
  · exact State.setTx_within (land_sub q rfl) h_1

theorem State.sendFrame_within {P s0 s1 a2 a3} (q : P &&& 1073741824 = 1073741824) (h_1 : Within P s0 s1) :
    Within P s0 (State.sendFrame s1 a2 a3) := by
  unfold State.sendFrame
  try dsimp only
  exact State.setPort_within (land_sub q rfl) h_1

theorem State.sendMedia_within {P s0 s1 a2 a3 a4 a5} (q : P &&& 5368709120 = 5368709120) (h_1 : Within P s0 s1) :
    Within P s0 (State.sendMedia s1 a2 a3 a4 a5) := by
  unfold State.sendMedia
  try dsimp only
  exact within_foldl (fun _ _ h0 => within_ite (fun _ => State.sendFrame_within (land_sub q rfl) (State.setTx_within (land_sub q rfl) h0)) (fun
      _ => State.setTx_within (land_sub q rfl) h0)) h_1

theorem State.videoPayload_within {P s0 s1 a2 a3 a4 a5 a6 a7} (q : P &&& 16793600 = 16793600) (h_1 : Within P s0 s1) :
    Within P s0 (State.videoPayload s1 a2 a3 a4 a5 a6 a7).2 := by
  unfold State.videoPayload
  try dsimp only
  exact within_foldl (fun _ _ h0 => State.getMem_within (land_sub q rfl) h0) h_1

theorem State.txVideo_within {P s0 s1 a2 a3 a4} (q : P &&& 5385502720 = 5385502720) (h_1 : Within P s0 s1) :
    Within P s0 (State.txVideo s1 a2 a3 a4) := by
  unfold State.txVideo
  try dsimp only
  exact within_ite (fun _ => h_1) (fun _ => within_ite (fun _ => State.txBegin_within (land_sub q rfl) h_1) (fun _ => within_ite (fun _ =>
      State.setTx_within (land_sub q rfl) (State.txBegin_within (land_sub q rfl) h_1)) (fun _ => State.setTx_within (land_sub q rfl)
      (State.sendMedia_within (land_sub q rfl) (State.videoPayload_within (land_sub q rfl) (State.txBegin_within (land_sub q rfl) h_1))))))

theorem execTxPacketLaunch_within {P s0 a1 s1} (q : P &&& 5385502720 = 5385502720) (h_1 : Within P s0 s1) :
    WithinO P s0 (execTxPacketLaunch a1 s1) := by
  unfold execTxPacketLaunch
  try dsimp only
  refine withinO_next ?_
  refine within_ite (fun _ => h_1) (fun _ => ?_)
  split
  · exact State.txVideo_within (land_sub q rfl) (within_ite (fun _ => h_1) (fun _ => State.setTx_within (land_sub q rfl) h_1))
  · exact h_1

theorem State.txPayload_within {P s0 s1 a2 a3 a4 a5} (q : P &&& 274894700544 = 274894700544) (h_1 : Within P s0 s1) :
    Within P s0 (State.txPayload s1 a2 a3 a4 a5).2 := by
  unfold State.txPayload
  try dsimp only
  exact within_txAudio (land_sub q rfl) (keepsAt_foldl (P := fun x : _ × _ × State => Within P s0 x.2.2) (fun _ _ h0 => State.mapSamples_within
      (land_sub q rfl) h0) h_1)

theorem State.txAudioPacket_within {P s0 s1 a2 a3} (q : P &&& 280263409664 = 280263409664) (h_1 : Within P s0 s1) :
    Within P s0 (State.txAudioPacket s1 a2 a3) := by
  unfold State.txAudioPacket
  try dsimp only
  exact within_ite (fun _ => h_1) (fun _ => within_ite (fun _ => State.setTx_within (land_sub q rfl) h_1) (fun _ => State.setTx_within (land_sub
      q rfl) (State.sendMedia_within (land_sub q rfl) (State.txPayload_within (land_sub q rfl) h_1))))

theorem execAudioTxLaunch_within {P s0 a1 s1} (q : P &&& 280263409664 = 280263409664) (h_1 : Within P s0 s1) :
    WithinO P s0 (execAudioTxLaunch a1 s1) := by
  unfold execAudioTxLaunch
  try dsimp only
  refine withinO_next ?_
  refine within_ite (fun _ => h_1) (fun _ => ?_)
  split
  · exact State.txAudioPacket_within (land_sub q rfl) (within_ite (fun _ => h_1) (fun _ => State.setTx_within (land_sub q rfl) h_1))
  · exact h_1

theorem execLinkFault_within {P s0 a1 a2 s1} (q : P &&& 1073741824 = 1073741824) (h_1 : Within P s0 s1) :
    WithinO P s0 (execLinkFault a1 a2 s1) := by
  unfold execLinkFault
  try dsimp only
  exact withinO_next (within_ite (fun _ => State.setPort_within (land_sub q rfl) h_1) (fun _ => h_1))

theorem execDelayReq_within {P s0 a1 s1} (q : P &&& 1073742080 = 1073742080) (h_1 : Within P s0 s1) :
    WithinO P s0 (execDelayReq a1 s1) := by
  unfold execDelayReq
  try dsimp only
  refine withinO_next ?_
  refine within_ite (fun _ => h_1) (fun _ => ?_)
  split
  · exact within_ite (fun _ => State.sendCtrl_within (land_sub q rfl) (State.setDomain_within (land_sub q rfl) h_1)) (fun _ => h_1)
  · exact h_1

end Sys2Proof.Machine
end

