-- ==== Sys2Proof/Laws/WithinPower.lean ====
section
/-! SUPPORT. Within: power, the power domains, the pair and function resets. One lemma per operation: the parts of the state that it may change. -/

namespace Sys2Proof.Machine

open Sys2Proof.Laws Sys2Proof.Safety

theorem State.funcStart_within {P s0 s1 a2} (q : P &&& 54496712515586 = 54496712515586) (h_1 : Within P s0 s1) :
    Within P s0 (State.funcStart s1 a2) := by
  unfold State.funcStart
  try dsimp only
  exact within_ite (fun _ => State.resetRows_within (land_sub q rfl) (State.stopHead_within (land_sub q rfl) (within_sys (land_sub q rfl) h_1)))
      (fun _ => within_ite (fun _ => State.pairDown_within (land_sub q rfl) (within_sys (land_sub q rfl) h_1)) (fun _ => within_ite (fun _ =>
      within_ite (fun _ => rescan_within (land_sub q rfl) (within_sys (land_sub q rfl) h_1)) (fun _ => within_sys (land_sub q rfl) h_1)) (fun _
      => within_ite (fun _ => within_foldl (fun _ _ h4 => State.modHead_within (land_sub q rfl) h4) (within_sys (land_sub q rfl) h_1)) (fun _ =>
      within_sys (land_sub q rfl) h_1))))

theorem execFuncReset_within {P s0 a1 a2 s1} (q : P &&& 54496712519682 = 54496712519682) (h_1 : Within P s0 s1) :
    WithinO P s0 (execFuncReset a1 a2 s1) := by
  unfold execFuncReset
  try dsimp only
  exact withinO_next (runLater_within (land_sub q rfl) h_1 (fun _ _ h0 => State.addRunning_within (land_sub q rfl) (State.funcStart_within
      (land_sub q rfl) h0)))

theorem State.windupAnswer_within {P s0 s1 a2 a3} (q : P &&& 17592186101760 = 17592186101760) (h_1 : Within P s0 s1) :
    Within P s0 (State.windupAnswer s1 a2 a3) := by
  unfold State.windupAnswer
  try dsimp only
  split
  · exact within_ite (fun _ => State.addProc_within (land_sub q rfl) (State.finish_within (land_sub q rfl) h_1)) (fun _ => State.finish_within
        (land_sub q rfl) h_1)
  · exact h_1

theorem State.setPhase_within {P s0 s1 a2 a3} (q : P &&& 1099511627776 = 1099511627776) (h_1 : Within P s0 s1) :
    Within P s0 (State.setPhase s1 a2 a3) := by
  unfold State.setPhase
  try dsimp only
  exact State.modHead_within (land_sub q rfl) h_1

theorem State.windupBegin_within {P s0 s1 a2} (q : P &&& 1099512676352 = 1099512676352) (h_1 : Within P s0 s1) :
    Within P s0 (State.windupBegin s1 a2) := by
  unfold State.windupBegin
  try dsimp only
  exact incCounter_within (land_sub q rfl) (within_nvs_nvs (land_sub q rfl) (State.modHead_within (land_sub q rfl) h_1) rfl)

theorem State.batonPins_within {P s0 s1} (q : P &&& 17592186044416 = 17592186044416) (h_1 : Within P s0 s1) :
    Within P s0 (State.batonPins s1) := by
  unfold State.batonPins
  try dsimp only
  exact within_pair (land_sub q rfl) h_1

theorem execPanelWindup_within {P s0 a1 a2 s1} (q : P &&& 18691698782208 = 18691698782208) (h_1 : Within P s0 s1) :
    WithinO P s0 (execPanelWindup a1 a2 s1) := by
  unfold execPanelWindup
  try dsimp only
  exact withinO_next (runLater_within (land_sub q rfl) h_1 (fun _ _ h0 => within_ite (fun _ => State.windupAnswer_within (land_sub q rfl)
      (State.setPhase_within (land_sub q rfl) (State.windupBegin_within (land_sub q rfl) (State.addRunning_within (land_sub q rfl) h0)))) (fun _
      => State.batonPins_within (land_sub q rfl) (State.modHead_within (land_sub q rfl) (State.addRunning_within (land_sub q rfl) h0)))))

theorem State.releaseNets_within {P s0 s1 a2} (q : P &&& 126443837243392 = 126443837243392) (h_1 : Within P s0 s1) :
    Within P s0 (State.releaseNets s1 a2) := by
  unfold State.releaseNets
  try dsimp only
  exact State.batonPins_within (land_sub q rfl) (within_foldl (fun _ _ h1 => State.linkTo_within (land_sub q rfl) h1) (State.modHead_within
      (land_sub q rfl) h_1))

theorem State.windupFailed_within {P s0 s1 a2} (q : P &&& 126443837243392 = 126443837243392) (h_1 : Within P s0 s1) :
    Within P s0 (State.windupFailed s1 a2) := by
  unfold State.windupFailed
  try dsimp only
  exact State.endProcs_within (land_sub q rfl) (State.post_within (land_sub q rfl) (State.releaseNets_within (land_sub q rfl) h_1))

theorem State.headOff_within {P s0 s1 a2} (q : P &&& 2025097053184 = 2025097053184) (h_1 : Within P s0 s1) :
    Within P s0 (State.headOff s1 a2) := by
  unfold State.headOff
  try dsimp only
  exact State.applyParked_within (land_sub q rfl) (State.modHead_within (land_sub q rfl) h_1)

theorem State.poweredDown_within {P s0 s1 a2} (q : P &&& 127369422619648 = 127369422619648) (h_1 : Within P s0 s1) :
    Within P s0 (State.poweredDown s1 a2) := by
  unfold State.poweredDown
  try dsimp only
  exact State.endProcs_within (land_sub q rfl) (State.headOff_within (land_sub q rfl) (State.releaseNets_within (land_sub q rfl) h_1))

theorem State.wdLastDrop_within {P s0 s1 a2} (q : P &&& 127369422619648 = 127369422619648) (h_1 : Within P s0 s1) :
    Within P s0 (State.wdLastDrop s1 a2) := by
  unfold State.wdLastDrop
  try dsimp only
  exact within_ite (fun _ => State.headOff_within (land_sub q rfl) (State.post_within (land_sub q rfl) (within_ite (fun _ =>
      State.releaseNets_within (land_sub q rfl) h_1) (fun _ => commitShutdown_within (land_sub q rfl) (State.releaseNets_within (land_sub q rfl)
      h_1))))) (fun _ => State.releaseNets_within (land_sub q rfl) h_1)

theorem State.dropEnable_within {P s0 s1 a2} (q : P &&& 127369422619648 = 127369422619648) (h_1 : Within P s0 s1) :
    Within P s0 (State.dropEnable s1 a2) := by
  unfold State.dropEnable
  try dsimp only
  refine within_ite (fun _ => State.modHead_within (land_sub q rfl) h_1) (fun _ => ?_)
  split
  · exact State.windupFailed_within (land_sub q rfl) (State.modHead_within (land_sub q rfl) h_1)
  · exact State.poweredDown_within (land_sub q rfl) (State.modHead_within (land_sub q rfl) h_1)
  · exact State.wdLastDrop_within (land_sub q rfl) (State.modHead_within (land_sub q rfl) h_1)
  · exact State.modHead_within (land_sub q rfl) h_1

theorem State.powerDown_within {P s0 s1 a2} (q : P &&& 127369422619648 = 127369422619648) (h_1 : Within P s0 s1) :
    Within P s0 (State.powerDown s1 a2) := by
  unfold State.powerDown
  try dsimp only
  exact State.dropEnable_within (land_sub q rfl) (State.setPhase_within (land_sub q rfl) h_1)

theorem execPanelPowerdown_within {P s0 a1 a2 s1} (q : P &&& 127369422631936 = 127369422631936) (h_1 : Within P s0 s1) :
    WithinO P s0 (execPanelPowerdown a1 a2 s1) := by
  unfold execPanelPowerdown
  try dsimp only
  exact withinO_next (runProc_within (land_sub q rfl) h_1 (fun _ _ h0 => within_ite (fun _ => State.powerDown_within (land_sub q rfl)
      (State.addProc_within (land_sub q rfl) h0)) (fun _ => State.modHead_within (land_sub q rfl) (State.stopHead_within (land_sub q rfl)
      (State.addProc_within (land_sub q rfl) h0)))))

theorem execPairSet_within {P s0 a1 a2 a3 a4 a5 s1} (q : P &&& 52776558194688 = 52776558194688) (h_1 : Within P s0 s1) :
    WithinO P s0 (execPairSet a1 a2 a3 a4 a5 s1) := by
  unfold execPairSet
  try dsimp only
  exact withinO_next (runNow_within (land_sub q rfl) h_1 (fun _ h0 => within_ite (fun _ => State.linkFresh_within (land_sub q rfl) (within_pair
      (land_sub q rfl) h0)) (fun _ => within_ite (fun _ => State.endProcs_within (land_sub q rfl) (within_pair_sync (land_sub q rfl)
      (State.pairDown_within (land_sub q rfl) (within_pair (land_sub q rfl) h0)))) (fun _ => within_pair (land_sub q rfl) h0))))

theorem execPairHandover_within {P s0 a1 s1} (q : P &&& 52776558194688 = 52776558194688) (h_1 : Within P s0 s1) :
    WithinO P s0 (execPairHandover a1 s1) := by
  unfold execPairHandover
  try dsimp only
  exact withinO_next (runProc_within (land_sub q rfl) h_1 (fun _ _ h0 => within_ite (fun _ => State.handoverStart_within (land_sub q rfl)
      (State.addProc_within (land_sub q rfl) h0)) (fun _ => State.addProc_within (land_sub q rfl) h0)))

theorem execPairRejoin_within {P s0 a1 s1} (q : P &&& 52776558194688 = 52776558194688) (h_1 : Within P s0 s1) :
    WithinO P s0 (execPairRejoin a1 s1) := by
  unfold execPairRejoin
  try dsimp only
  exact withinO_next (runProc_within (land_sub q rfl) h_1 (fun _ _ h0 => State.addProc_within (land_sub q rfl) (within_pair_sync (land_sub q
      rfl) h0)))

theorem execPairStatus_within {P s0 a1 s1} (q : P &&& 17592186105856 = 17592186105856) (h_1 : Within P s0 s1) :
    WithinO P s0 (execPairStatus a1 s1) := by
  unfold execPairStatus
  try dsimp only
  exact withinO_next (runRead_within (land_sub q rfl) h_1)

theorem State.pdBegin_within {P s0 s1 a2 a3 a4} (q : P &&& 549755813904 = 549755813904) (h_1 : Within P s0 s1) :
    Within P s0 (State.pdBegin s1 a2 a3 a4) := by
  unfold State.pdBegin
  try dsimp only
  exact within_ite (fun _ => State.moveDeque_within (land_sub q rfl) (within_power_power (land_sub q rfl) h_1 rfl)) (fun _ => within_power_power
      (land_sub q rfl) h_1 rfl)

theorem execPdSet_within {P s0 a1 a2 a3 s1} (q : P &&& 18141941919760 = 18141941919760) (h_1 : Within P s0 s1) :
    WithinO P s0 (execPdSet a1 a2 a3 s1) := by
  unfold execPdSet
  try dsimp only
  exact withinO_next (runProc_within (land_sub q rfl) h_1 (fun _ _ h0 => State.pdBegin_within (land_sub q rfl) h0))

theorem State.opBegin_within {P s0 s1 a2 a3} (q : P &&& 16 = 16) (h_1 : Within P s0 s1) :
    Within P s0 (State.opBegin s1 a2 a3) := by
  unfold State.opBegin
  try dsimp only
  exact within_power_power (land_sub q rfl) h_1 rfl

theorem execOpSet_within {P s0 a1 a2 s1} (q : P &&& 17592186105872 = 17592186105872) (h_1 : Within P s0 s1) :
    WithinO P s0 (execOpSet a1 a2 s1) := by
  unfold execOpSet
  try dsimp only
  exact withinO_next (runProc_within (land_sub q rfl) h_1 (fun _ _ h0 => State.opBegin_within (land_sub q rfl) h0))

theorem State.yoyoEnter_within {P s0 s1 a2} (q : P &&& 1140867104 = 1140867104) (h_1 : Within P s0 s1) :
    Within P s0 (State.yoyoEnter s1 a2) := by
  unfold State.yoyoEnter
  try dsimp only
  exact within_ite (fun _ => State.portDrop_within (land_sub q rfl) (State.setYoyo_within (land_sub q rfl) h_1)) (fun _ => State.setYoyo_within
      (land_sub q rfl) h_1)

theorem execYoyoSet_within {P s0 a1 a2 s1} (q : P &&& 17593326956576 = 17593326956576) (h_1 : Within P s0 s1) :
    WithinO P s0 (execYoyoSet a1 a2 s1) := by
  unfold execYoyoSet
  try dsimp only
  exact withinO_next (runNow_within (land_sub q rfl) h_1 (fun _ h0 => within_ite (fun _ => State.setYoyo_within (land_sub q rfl) h0) (fun _ =>
      within_ite (fun _ => State.setYoyo_within (land_sub q rfl) h0) (fun _ => State.yoyoEnter_within (land_sub q rfl) h0))))

theorem execPowerStatus_within {P s0 a1 s1} (q : P &&& 17592186105856 = 17592186105856) (h_1 : Within P s0 s1) :
    WithinO P s0 (execPowerStatus a1 s1) := by
  unfold execPowerStatus
  try dsimp only
  exact withinO_next (runRead_within (land_sub q rfl) h_1)

theorem funcResetWrite_within {P s0 a1 s1} (q : P &&& 54496712515586 = 54496712515586) (h_1 : Within P s0 s1) :
    Within P s0 (funcResetWrite a1 s1) := by
  unfold funcResetWrite
  try dsimp only
  exact within_ite (fun _ => h_1) (fun _ => State.funcStart_within (land_sub q rfl) h_1)

theorem State.pdIgnore_within {P s0 s1} (q : P &&& 16 = 16) (h_1 : Within P s0 s1) :
    Within P s0 (State.pdIgnore s1) := by
  unfold State.pdIgnore
  try dsimp only
  exact within_power_power (land_sub q rfl) h_1 rfl

theorem execPdCtl_within {P s0 a1 s1} (q : P &&& 549755813904 = 549755813904) (h_1 : Within P s0 s1) :
    WithinO P s0 (execPdCtl a1 s1) := by
  unfold execPdCtl
  try dsimp only
  exact withinO_next (within_ite (fun _ => h_1) (fun _ => within_ite (fun _ => State.pdIgnore_within (land_sub q rfl) h_1) (fun _ => within_ite
      (fun _ => h_1) (fun _ => within_ite (fun _ => State.pdIgnore_within (land_sub q rfl) h_1) (fun _ => State.pdBegin_within (land_sub q rfl)
      h_1)))))

theorem execOpCtl_within {P s0 a1 s1} (q : P &&& 16 = 16) (h_1 : Within P s0 s1) :
    WithinO P s0 (execOpCtl a1 s1) := by
  unfold execOpCtl
  try dsimp only
  exact withinO_next (within_ite (fun _ => h_1) (fun _ => within_ite (fun _ => State.pdIgnore_within (land_sub q rfl) h_1) (fun _ => within_ite
      (fun _ => h_1) (fun _ => State.opBegin_within (land_sub q rfl) h_1))))

theorem State.setWakeMask_within {P s0 s1 a2 a3} (q : P &&& 16 = 16) (h_1 : Within P s0 s1) :
    Within P s0 (State.setWakeMask s1 a2 a3) := by
  unfold State.setWakeMask
  try dsimp only
  exact within_power_power (land_sub q rfl) h_1 rfl

theorem execFabSel_within {P s0 a1 s1} (q : P &&& 33554436 = 33554436) (h_1 : Within P s0 s1) :
    WithinO P s0 (execFabSel a1 s1) := by
  unfold execFabSel
  try dsimp only
  exact withinO_next (within_ite (fun _ => h_1) (fun _ => within_ite (fun _ => within_fab (land_sub q rfl) h_1) (fun _ => within_clocks
      (land_sub q rfl) h_1)))

theorem execCode_within {P s0 a1 s1} (q : P &&& 54496712515586 = 54496712515586) (h_1 : Within P s0 s1) :
    WithinO P s0 (execCode a1 s1) := by
  unfold execCode
  try dsimp only
  exact withinO_next (funcResetWrite_within (land_sub q rfl) h_1)

theorem State.resetPort_within {P s0 s1 a2} (q : P &&& 1543520256 = 1543520256) (h_1 : Within P s0 s1) :
    Within P s0 (State.resetPort s1 a2) := by
  unfold State.resetPort
  try dsimp only
  exact within_foldl (fun _ _ h0 => State.laneReset_within (land_sub q rfl) h0) (State.portDrop_within (land_sub q rfl) h_1)

theorem State.resetMedia_within {P s0 s1} (q : P &&& 2166374400 = 2166374400) (h_1 : Within P s0 s1) :
    Within P s0 (State.resetMedia s1) := by
  unfold State.resetMedia
  try dsimp only
  refine within_foldl (fun _ _ h0 => ?_) (within_foldl (fun _ _ h1 => State.closeAll_within (land_sub q rfl) h1) h_1)
  split
  · exact h0
  · exact State.setFlow_within (land_sub q rfl) h0

theorem State.resetDest_within {P s0 s1 a2} (q : P &&& 25769820160 = 25769820160) (h_1 : Within P s0 s1) :
    Within P s0 (State.resetDest s1 a2) := by
  unfold State.resetDest
  try dsimp only
  exact within_ite (fun _ => State.setDest_within (land_sub q rfl) (State.dropDeferred_within (land_sub q rfl) h_1)) (fun _ =>
      State.dropDeferred_within (land_sub q rfl) h_1)

theorem State.resetMatrix_within {P s0 s1} (q : P &&& 25769852928 = 25769852928) (h_1 : Within P s0 s1) :
    Within P s0 (State.resetMatrix s1) := by
  unfold State.resetMatrix
  try dsimp only
  exact within_foldl (fun _ _ h0 => State.resetDest_within (land_sub q rfl) h0) (State.dropEntries_within (land_sub q rfl) h_1)

theorem State.loseItem_within {P s0 s1 a2} (q : P &&& 19363878977536 = 19363878977536) (h_1 : Within P s0 s1) :
    Within P s0 (State.loseItem s1 a2) := by
  unfold State.loseItem
  try dsimp only
  split
  · exact State.abandonP_within (land_sub q rfl) h_1
  · exact State.abandonC_within (land_sub q rfl) h_1
  · exact State.abandonT_within (land_sub q rfl) h_1

theorem State.resetCluster_within {P s0 s1 a2} (q : P &&& 19363878977536 = 19363878977536) (h_1 : Within P s0 s1) :
    Within P s0 (State.resetCluster s1 a2) := by
  unfold State.resetCluster
  try dsimp only
  exact State.feed_within (land_sub q rfl) (State.moveDeque_within (land_sub q rfl) (within_foldl (fun _ _ h2 => State.loseItem_within (land_sub
      q rfl) h2) (State.setCluster_within (land_sub q rfl) h_1)))

theorem State.resetHead_within {P s0 s1 a2} (q : P &&& 25769852928 = 25769852928) (h_1 : Within P s0 s1) :
    Within P s0 (State.resetHead s1 a2) := by
  unfold State.resetHead
  try dsimp only
  exact within_foldl (fun _ _ h0 => State.resetDest_within (land_sub q rfl) h0) (State.dropEntries_within (land_sub q rfl) h_1)

theorem State.resetGroup_within {P s0 s1 a2} (q : P &&& 125344795377664 = 125344795377664) (h_1 : Within P s0 s1) :
    Within P s0 (State.resetGroup s1 a2) := by
  unfold State.resetGroup
  try dsimp only
  exact within_foldl (fun _ _ h0 => within_ite (fun _ => State.linkTrain_within (land_sub q rfl) (State.linkTo_within (land_sub q rfl) h0)) (fun
      _ => State.linkTo_within (land_sub q rfl) h0)) (within_foldl (fun _ _ h1 => State.laneReset_within (land_sub q rfl) h1) h_1)

theorem State.resetPair_within {P s0 s1} (q : P &&& 52777027952640 = 52777027952640) (h_1 : Within P s0 s1) :
    Within P s0 (State.resetPair s1) := by
  unfold State.resetPair
  try dsimp only
  exact within_foldl (fun _ _ h0 => State.laneReset_within (land_sub q rfl) (State.setLane_within (land_sub q rfl) h0)) (within_ite (fun _ =>
      State.pairDown_within (land_sub q rfl) h_1) (fun _ => h_1))

theorem State.resetAudio_within {P s0 s1} (q : P &&& 1374389534720 = 1374389534720) (h_1 : Within P s0 s1) :
    Within P s0 (State.resetAudio s1) := by
  unfold State.resetAudio
  try dsimp only
  exact within_txAudio (land_sub q rfl) (within_foldl (fun _ _ h0 => State.modHead_within (land_sub q rfl) h0) h_1)

theorem State.resetNvs_within {P s0 s1} (q : P &&& 1130496 = 1130496) (h_1 : Within P s0 s1) :
    Within P s0 (State.resetNvs s1) := by
  unfold State.resetNvs
  try dsimp only
  exact scanRecords_within (land_sub q rfl) h_1

theorem State.resetCommands_within {P s0 s1} (q : P &&& 25769863184 = 25769863184) (h_1 : Within P s0 s1) :
    Within P s0 (State.resetCommands s1) := by
  unfold State.resetCommands
  try dsimp only
  refine State.post_within (land_sub q rfl) ?_
  refine within_foldl (fun _ _ h1 => ?_) (within_power_power_cp_replies_events_waiting (land_sub q rfl) (within_foldl (fun _ _ h2 =>
      State.setRing_within (land_sub q rfl) h2) h_1) rfl rfl rfl)
  split
  · exact State.setDest_within (land_sub q rfl) h1
  · exact h1

theorem State.funcEffect_within {P s0 s1 a2} (q : P &&& 127401030969616 = 127401030969616) (h_1 : Within P s0 s1) :
    Within P s0 (State.funcEffect s1 a2) := by
  unfold State.funcEffect
  try dsimp only
  exact within_ite (fun _ => State.resetPort_within (land_sub q rfl) h_1) (fun _ => within_ite (fun _ => State.resetMedia_within (land_sub q
      rfl) h_1) (fun _ => within_ite (fun _ => State.domainRestart_within (land_sub q rfl) (State.domainRestart_within (land_sub q rfl) h_1))
      (fun _ => within_ite (fun _ => State.resetMatrix_within (land_sub q rfl) h_1) (fun _ => within_ite (fun _ => State.resetCluster_within
      (land_sub q rfl) h_1) (fun _ => within_ite (fun _ => State.resetHead_within (land_sub q rfl) h_1) (fun _ => within_ite (fun _ =>
      State.resetGroup_within (land_sub q rfl) h_1) (fun _ => within_ite (fun _ => State.resetPair_within (land_sub q rfl) h_1) (fun _ =>
      within_ite (fun _ => State.resetAudio_within (land_sub q rfl) h_1) (fun _ => within_ite (fun _ => State.resetNvs_within (land_sub q rfl)
      h_1) (fun _ => within_ite (fun _ => State.resetCommands_within (land_sub q rfl) h_1) (fun _ => h_1)))))))))))

theorem execFuncResetDone_within {P s0 a1 s1} (q : P &&& 127401030969618 = 127401030969618) (h_1 : Within P s0 s1) :
    WithinO P s0 (execFuncResetDone a1 s1) := by
  unfold execFuncResetDone
  try dsimp only
  exact withinO_next (within_ite (fun _ => h_1) (fun _ => within_foldl (fun _ _ h1 => State.finish_within (land_sub q rfl) h1)
      (State.funcEffect_within (land_sub q rfl) (within_sys (land_sub q rfl) h_1))))

theorem execWakeMaskWrite_within {P s0 a1 a2 s1} (q : P &&& 16 = 16) (h_1 : Within P s0 s1) :
    WithinO P s0 (execWakeMaskWrite a1 a2 s1) := by
  unfold execWakeMaskWrite
  try dsimp only
  exact withinO_next (within_ite (fun _ => h_1) (fun _ => State.setWakeMask_within (land_sub q rfl) h_1))

theorem State.enginesOff_within {P s0 s1 a2} (q : P &&& 603461795856 = 603461795856) (h_1 : Within P s0 s1) :
    Within P s0 (State.enginesOff s1 a2) := by
  unfold State.enginesOff
  try dsimp only
  exact within_foldl (fun _ _ h0 => within_ite (fun _ => State.abandonT_within (land_sub q rfl) h0) (fun _ => h0)) (within_foldl (fun _ _ h1 =>
      State.setCluster_within (land_sub q rfl) (State.moveDeque_within (land_sub q rfl) h1)) (within_power_power (land_sub q rfl) h_1 rfl))

theorem State.nvsDiscard_within {P s0 s1} (q : P &&& 17592187150336 = 17592187150336) (h_1 : Within P s0 s1) :
    Within P s0 (State.nvsDiscard s1) := by
  unfold State.nvsDiscard
  try dsimp only
  refine within_foldl (fun _ _ h0 => ?_) (within_nvs_nvs (land_sub q rfl) h_1 rfl)
  split
  · exact State.finish_within (land_sub q rfl) h0
  · exact State.finish_within (land_sub q rfl) h0
  · exact h0

theorem State.sequencerStop_within {P s0 s1} (q : P &&& 16400 = 16400) (h_1 : Within P s0 s1) :
    Within P s0 (State.sequencerStop s1) := by
  unfold State.sequencerStop
  try dsimp only
  split
  · split
    · refine State.dropped_within (land_sub q rfl) ?_
      refine within_power_power (land_sub q rfl) ?_ rfl
      split
      · refine within_ite (fun _ => ?_) (fun _ => h_1)
        split
        · exact State.dropped_within (land_sub q rfl) (within_power_power (land_sub q rfl) h_1 rfl)
        · exact within_power_power (land_sub q rfl) h_1 rfl
      · exact h_1
    · refine within_power_power (land_sub q rfl) ?_ rfl
      split
      · refine within_ite (fun _ => ?_) (fun _ => h_1)
        split
        · exact State.dropped_within (land_sub q rfl) (within_power_power (land_sub q rfl) h_1 rfl)
        · exact within_power_power (land_sub q rfl) h_1 rfl
      · exact h_1
  · split
    · refine within_ite (fun _ => ?_) (fun _ => h_1)
      split
      · exact State.dropped_within (land_sub q rfl) (within_power_power (land_sub q rfl) h_1 rfl)
      · exact within_power_power (land_sub q rfl) h_1 rfl
    · exact h_1

theorem State.wdHead_within {P s0 s1 a2} (q : P &&& 1720153325568 = 1720153325568) (h_1 : Within P s0 s1) :
    Within P s0 (State.wdHead s1 a2) := by
  unfold State.wdHead
  try dsimp only
  exact within_ite (fun _ => h_1) (fun _ => State.modHead_within (land_sub q rfl) (within_ite (fun _ => State.haltHead_within (land_sub q rfl)
      (State.endProcs_within (land_sub q rfl) (State.endProcs_within (land_sub q rfl) h_1))) (fun _ => State.endProcs_within (land_sub q rfl)
      (State.endProcs_within (land_sub q rfl) h_1))))

theorem State.windStart_within {P s0 s1 a2 a3} (q : P &&& 19363880034330 = 19363880034330) (h_1 : Within P s0 s1) :
    Within P s0 (State.windStart s1 a2 a3) := by
  unfold State.windStart
  try dsimp only
  exact within_ite (fun _ => h_1) (fun _ => State.enginesOff_within (land_sub q rfl) (within_ite (fun _ => State.sendMsg_within (land_sub q rfl)
      (within_foldl (fun _ _ h4 => State.wdHead_within (land_sub q rfl) h4) (within_foldl (fun _ _ h5 => State.windupAnswer_within (land_sub q
      rfl) (State.batonPins_within (land_sub q rfl) (State.setPhase_within (land_sub q rfl) h5))) (State.nvsDiscard_within (land_sub q rfl)
      (State.sequencerStop_within (land_sub q rfl) (within_sys_wind (land_sub q rfl) h_1)))))) (fun _ => within_foldl (fun _ _ h3 =>
      State.wdHead_within (land_sub q rfl) h3) (within_foldl (fun _ _ h4 => State.windupAnswer_within (land_sub q rfl) (State.batonPins_within
      (land_sub q rfl) (State.setPhase_within (land_sub q rfl) h4))) (State.nvsDiscard_within (land_sub q rfl) (State.sequencerStop_within
      (land_sub q rfl) (within_sys_wind (land_sub q rfl) h_1)))))))

theorem execRefclkLoss_within {P s0 s1} (q : P &&& 19363880034334 = 19363880034334) (h_1 : Within P s0 s1) :
    WithinO P s0 (execRefclkLoss s1) := by
  unfold execRefclkLoss
  try dsimp only
  exact withinO_next (within_ite (fun _ => h_1) (fun _ => State.windStart_within (land_sub q rfl) (within_clocks (land_sub q rfl) h_1)))

theorem execNrefclkLoss_within {P s0 a1 s1} (q : P &&& 1140867076 = 1140867076) (h_1 : Within P s0 s1) :
    WithinO P s0 (execNrefclkLoss a1 s1) := by
  unfold execNrefclkLoss
  try dsimp only
  exact withinO_next (within_ite (fun _ => h_1) (fun _ => State.lanesOff_within (land_sub q rfl) (within_foldl (fun _ _ h2 =>
      State.portDrop_within (land_sub q rfl) h2) (within_ite (fun _ => within_clocks (land_sub q rfl) h_1) (fun _ => within_clocks (land_sub q
      rfl) h_1)))))

theorem execPfailN_within {P s0 s1} (q : P &&& 19363880034330 = 19363880034330) (h_1 : Within P s0 s1) :
    WithinO P s0 (execPfailN s1) := by
  unfold execPfailN
  try dsimp only
  exact withinO_next (within_ite (fun _ => h_1) (fun _ => State.windStart_within (land_sub q rfl) (within_sys (land_sub q rfl) h_1)))

theorem State.windResume_within {P s0 s1} (q : P &&& 18 = 18) (h_1 : Within P s0 s1) :
    Within P s0 (State.windResume s1) := by
  unfold State.windResume
  try dsimp only
  exact within_sys_power_power (land_sub q rfl) h_1 rfl

theorem execPfailNDeassert_within {P s0 s1} (q : P &&& 18 = 18) (h_1 : Within P s0 s1) :
    WithinO P s0 (execPfailNDeassert s1) := by
  unfold execPfailNDeassert
  try dsimp only
  exact withinO_next (within_ite (fun _ => h_1) (fun _ => within_ite (fun _ => within_sys (land_sub q rfl) h_1) (fun _ =>
      State.windResume_within (land_sub q rfl) (within_sys (land_sub q rfl) h_1))))

theorem State.otherGlitch_within {P s0 s1 a2} (q : P &&& 16 = 16) (h_1 : Within P s0 s1) :
    Within P s0 (State.otherGlitch s1 a2) := by
  unfold State.otherGlitch
  try dsimp only
  exact within_power_power (land_sub q rfl) h_1 rfl

theorem execGlitch_within {P s0 a1 s1} (q : P &&& 528 = 528) (h_1 : Within P s0 s1) :
    WithinO P s0 (execGlitch a1 s1) := by
  unfold execGlitch
  try dsimp only
  refine withinO_next ?_
  split
  · exact within_power_power (land_sub q rfl) h_1 rfl
  · exact within_power_power (land_sub q rfl) h_1 rfl
  · exact within_ite (fun _ => h_1) (fun _ => State.setEvtIn_within (land_sub q rfl) h_1)
  · exact State.otherGlitch_within (land_sub q rfl) h_1
  · exact State.otherGlitch_within (land_sub q rfl) h_1

theorem State.wdDischarge_within {P s0 s1 a2} (q : P &&& 3298534883328 = 3298534883328) (h_1 : Within P s0 s1) :
    Within P s0 (State.wdDischarge s1 a2) := by
  unfold State.wdDischarge
  try dsimp only
  exact within_ite (fun _ => State.modHead_within (land_sub q rfl) h_1) (fun _ => State.modHead_within (land_sub q rfl) (State.broadcast_within
      (land_sub q rfl) (State.modHead_within (land_sub q rfl) h_1)))

theorem execWindDown_within {P s0 s1} (q : P &&& 3298534883328 = 3298534883328) (h_1 : Within P s0 s1) :
    WithinO P s0 (execWindDown s1) := by
  unfold execWindDown
  try dsimp only
  refine withinO_next ?_
  split
  · exact within_foldl (fun _ _ h1 => within_ite (fun _ => State.wdDischarge_within (land_sub q rfl) h1) (fun _ => h1)) h_1
  · exact h_1

theorem execWdHoldEnd_within {P s0 a1 s1} (q : P &&& 127369422619656 = 127369422619656) (h_1 : Within P s0 s1) :
    WithinO P s0 (execWdHoldEnd a1 s1) := by
  unfold execWdHoldEnd
  try dsimp only
  exact withinO_next (within_ite (fun _ => State.dropEnable_within (land_sub q rfl) (State.setPhase_within (land_sub q rfl) (within_ite (fun _
      => h_1) (fun _ => within_wind (land_sub q rfl) h_1)))) (fun _ => h_1))

theorem execPenGapEnd_within {P s0 a1 s1} (q : P &&& 127369422619648 = 127369422619648) (h_1 : Within P s0 s1) :
    WithinO P s0 (execPenGapEnd a1 s1) := by
  unfold execPenGapEnd
  try dsimp only
  exact withinO_next (within_ite (fun _ => State.dropEnable_within (land_sub q rfl) h_1) (fun _ => h_1))

theorem execWindDownCommits_within {P s0 s1} (q : P &&& 1048584 = 1048584) (h_1 : Within P s0 s1) :
    WithinO P s0 (execWindDownCommits s1) := by
  unfold execWindDownCommits
  try dsimp only
  refine withinO_next ?_
  split
  · exact within_ite (fun _ => h_1) (fun _ => within_ite (fun _ => incCounter_within (land_sub q rfl) (incCounter_within (land_sub q rfl)
        (commitShutdown_within (land_sub q rfl) (within_wind (land_sub q rfl) h_1)))) (fun _ => incCounter_within (land_sub q rfl)
        (commitShutdown_within (land_sub q rfl) (within_wind (land_sub q rfl) h_1))))
  · exact h_1

theorem execPgood_within {P s0 a1 a2 s1} (q : P &&& 1099511627776 = 1099511627776) (h_1 : Within P s0 s1) :
    WithinO P s0 (execPgood a1 a2 s1) := by
  unfold execPgood
  try dsimp only
  exact withinO_next (within_ite (fun _ => State.setHead_within (land_sub q rfl) h_1) (fun _ => h_1))

theorem execPanelPgLost_within {P s0 a1 a2 s1} (q : P &&& 3919176581120 = 3919176581120) (h_1 : Within P s0 s1) :
    WithinO P s0 (execPanelPgLost a1 a2 s1) := by
  unfold execPanelPgLost
  try dsimp only
  exact withinO_next (within_ite (fun _ => h_1) (fun _ => State.wdDischarge_within (land_sub q rfl) (State.wdHead_within (land_sub q rfl)
      (State.modHead_within (land_sub q rfl) h_1))))

theorem execWindupFail_within {P s0 a1 s1} (q : P &&& 127369422619648 = 127369422619648) (h_1 : Within P s0 s1) :
    WithinO P s0 (execWindupFail a1 s1) := by
  unfold execWindupFail
  try dsimp only
  exact withinO_next (within_ite (fun _ => State.dropEnable_within (land_sub q rfl) (State.setPhase_within (land_sub q rfl) h_1)) (fun _ => h_1))

theorem execClaimTest_within {P s0 a1 a2 s1} (q : P &&& 18691698778112 = 18691698778112) (h_1 : Within P s0 s1) :
    WithinO P s0 (execClaimTest a1 a2 s1) := by
  unfold execClaimTest
  try dsimp only
  exact withinO_next (within_ite (fun _ => h_1) (fun _ => within_ite (fun _ => State.windupAnswer_within (land_sub q rfl)
      (State.batonPins_within (land_sub q rfl) (State.modHead_within (land_sub q rfl) (State.windupBegin_within (land_sub q rfl) h_1)))) (fun _
      => within_ite (fun _ => State.windupAnswer_within (land_sub q rfl) (State.batonPins_within (land_sub q rfl) (State.setPhase_within
      (land_sub q rfl) h_1))) (fun _ => State.setHead_within (land_sub q rfl) h_1))))

theorem State.nextEnable_within {P s0 s1 a2 a3} (q : P &&& 1099511627776 = 1099511627776) (h_1 : Within P s0 s1) :
    Within P s0 (State.nextEnable s1 a2 a3) := by
  unfold State.nextEnable
  try dsimp only
  exact State.modHead_within (land_sub q rfl) h_1

theorem execVcomSettle_within {P s0 a1 s1} (q : P &&& 1099511627776 = 1099511627776) (h_1 : Within P s0 s1) :
    WithinO P s0 (execVcomSettle a1 s1) := by
  unfold execVcomSettle
  try dsimp only
  exact withinO_next (within_ite (fun _ => State.nextEnable_within (land_sub q rfl) h_1) (fun _ => h_1))

theorem execPenDelay_within {P s0 a1 s1} (q : P &&& 1099511627776 = 1099511627776) (h_1 : Within P s0 s1) :
    WithinO P s0 (execPenDelay a1 s1) := by
  unfold execPenDelay
  try dsimp only
  refine withinO_next ?_
  refine within_ite (fun _ => ?_) (fun _ => h_1)
  split
  · exact State.nextEnable_within (land_sub q rfl) h_1
  · exact State.setPhase_within (land_sub q rfl) h_1

theorem execTrainDelay_within {P s0 a1 s1} (q : P &&& 126443837243392 = 126443837243392) (h_1 : Within P s0 s1) :
    WithinO P s0 (execTrainDelay a1 s1) := by
  unfold execTrainDelay
  try dsimp only
  exact withinO_next (within_ite (fun _ => within_foldl (fun _ _ h1 => State.linkTrain_within (land_sub q rfl) h1) (State.setPhase_within
      (land_sub q rfl) h_1)) (fun _ => h_1))

theorem execWindupDone_within {P s0 a1 a2 s1} (q : P &&& 1099511676928 = 1099511676928) (h_1 : Within P s0 s1) :
    WithinO P s0 (execWindupDone a1 a2 s1) := by
  unfold execWindupDone
  try dsimp only
  exact withinO_next (within_ite (fun _ => State.endProcs_within (land_sub q rfl) (State.post_within (land_sub q rfl) (within_ite (fun _ =>
      State.modHead_within (land_sub q rfl) h_1) (fun _ => State.thermTake_within (land_sub q rfl) (State.modHead_within (land_sub q rfl)
      h_1))))) (fun _ => h_1))

theorem execPanelPowerdownDrop_within {P s0 a1 s1} (q : P &&& 127369422619648 = 127369422619648) (h_1 : Within P s0 s1) :
    WithinO P s0 (execPanelPowerdownDrop a1 s1) := by
  unfold execPanelPowerdownDrop
  try dsimp only
  exact withinO_next (within_ite (fun _ => State.dropEnable_within (land_sub q rfl) h_1) (fun _ => h_1))

theorem execHeadParked_within {P s0 a1 s1} (q : P &&& 127369426813952 = 127369426813952) (h_1 : Within P s0 s1) :
    WithinO P s0 (execHeadParked a1 s1) := by
  unfold execHeadParked
  try dsimp only
  exact withinO_next (within_ite (fun _ => within_ite (fun _ => State.powerDown_within (land_sub q rfl) (State.modHead_within (land_sub q rfl)
      (State.applyParked_within (land_sub q rfl) (State.haltHead_within (land_sub q rfl) (within_ite (fun _ => State.switchRaster_within
      (land_sub q rfl) (State.endProcs_within (land_sub q rfl) (State.post_within (land_sub q rfl) (incCounter_within (land_sub q rfl)
      (commitShutdown_within (land_sub q rfl) (State.modHead_within (land_sub q rfl) h_1)))))) (fun _ => State.endProcs_within (land_sub q rfl)
      (State.post_within (land_sub q rfl) (incCounter_within (land_sub q rfl) (commitShutdown_within (land_sub q rfl) (State.modHead_within
      (land_sub q rfl) h_1)))))))))) (fun _ => State.applyParked_within (land_sub q rfl) (State.haltHead_within (land_sub q rfl) (within_ite
      (fun _ => State.switchRaster_within (land_sub q rfl) (State.endProcs_within (land_sub q rfl) (State.post_within (land_sub q rfl)
      (incCounter_within (land_sub q rfl) (commitShutdown_within (land_sub q rfl) (State.modHead_within (land_sub q rfl) h_1)))))) (fun _ =>
      State.endProcs_within (land_sub q rfl) (State.post_within (land_sub q rfl) (incCounter_within (land_sub q rfl) (commitShutdown_within
      (land_sub q rfl) (State.modHead_within (land_sub q rfl) h_1))))))))) (fun _ => h_1))

theorem execEbOvf_within {P s0 s1} (q : P &&& 52776625299456 = 52776625299456) (h_1 : Within P s0 s1) :
    WithinO P s0 (execEbOvf s1) := by
  unfold execEbOvf
  try dsimp only
  exact withinO_next (within_ite (fun _ => State.pairDown_within (land_sub q rfl) (within_foldl (fun _ _ h2 => State.setLane_within (land_sub q
      rfl) h2) h_1)) (fun _ => within_foldl (fun _ _ h1 => State.setLane_within (land_sub q rfl) h1) h_1))

theorem execRefreshStep_within {P s0 a1 a2 s1} (q : P &&& 16 = 16) (h_1 : Within P s0 s1) :
    WithinO P s0 (execRefreshStep a1 a2 s1) := by
  unfold execRefreshStep
  try dsimp only
  exact withinO_next (within_ite (fun _ => h_1) (fun _ => within_power_power (land_sub q rfl) h_1 rfl))

theorem State.wakeNext_within {P s0 s1} (q : P &&& 549755813904 = 549755813904) (h_1 : Within P s0 s1) :
    Within P s0 (State.wakeNext s1) := by
  unfold State.wakeNext
  try dsimp only
  refine within_ite (fun _ => h_1) (fun _ => ?_)
  split
  · exact State.pdBegin_within (land_sub q rfl) (within_power_power (land_sub q rfl) h_1 rfl)
  · exact within_power_power (land_sub q rfl) h_1 rfl

theorem State.levelWake_within {P s0 s1 a2 a3} (q : P &&& 16400 = 16400) (h_1 : Within P s0 s1) :
    Within P s0 (State.levelWake s1 a2 a3) := by
  unfold State.levelWake
  try dsimp only
  exact within_ite (fun _ => within_power_power (land_sub q rfl) h_1 rfl) (fun _ => State.post_within (land_sub q rfl) (within_power_power
      (land_sub q rfl) h_1 rfl))

theorem State.latchWake_within {P s0 s1 a2 a3} (q : P &&& 16 = 16) (h_1 : Within P s0 s1) :
    Within P s0 (State.latchWake s1 a2 a3) := by
  unfold State.latchWake
  try dsimp only
  exact within_power_power (land_sub q rfl) h_1 rfl

theorem execWake_within {P s0 a1 a2 a3 s1} (q : P &&& 549755830288 = 549755830288) (h_1 : Within P s0 s1) :
    WithinO P s0 (execWake a1 a2 a3 s1) := by
  unfold execWake
  try dsimp only
  refine withinO_next ?_
  refine within_ite (fun _ => h_1) (fun _ => ?_)
  split
  · exact within_ite (fun _ => within_ite (fun _ => h_1) (fun _ => within_ite (fun _ => State.levelWake_within (land_sub q rfl)
        (State.latchWake_within (land_sub q rfl) h_1)) (fun _ => State.latchWake_within (land_sub q rfl) h_1))) (fun _ => within_ite (fun _ =>
        within_ite (fun _ => State.levelWake_within (land_sub q rfl) (State.latchWake_within (land_sub q rfl) h_1)) (fun _ =>
        State.latchWake_within (land_sub q rfl) h_1)) (fun _ => h_1))
  · exact within_ite (fun _ => h_1) (fun _ => within_ite (fun _ => within_ite (fun _ => State.levelWake_within (land_sub q rfl)
        (State.latchWake_within (land_sub q rfl) h_1)) (fun _ => State.latchWake_within (land_sub q rfl) h_1)) (fun _ => within_ite (fun _ =>
        State.levelWake_within (land_sub q rfl) (State.pdBegin_within (land_sub q rfl) h_1)) (fun _ => State.pdBegin_within (land_sub q rfl)
        h_1)))

theorem State.opEnd_within {P s0 s1 a2 a3 a4} (q : P &&& 16400 = 16400) (h_1 : Within P s0 s1) :
    Within P s0 (State.opEnd s1 a2 a3 a4) := by
  unfold State.opEnd
  try dsimp only
  split
  · exact within_ite (fun _ => State.procApplied_within (land_sub q rfl) (State.post_within (land_sub q rfl) (within_power_power (land_sub q
        rfl) h_1 rfl))) (fun _ => State.dropped_within (land_sub q rfl) (State.post_within (land_sub q rfl) (within_power_power (land_sub q rfl)
        h_1 rfl)))
  · exact State.post_within (land_sub q rfl) (within_power_power (land_sub q rfl) h_1 rfl)

theorem execVidSettle_within {P s0 s1} (q : P &&& 549755830288 = 549755830288) (h_1 : Within P s0 s1) :
    WithinO P s0 (execVidSettle s1) := by
  unfold execVidSettle
  try dsimp only
  refine withinO_next ?_
  split
  · exact State.wakeNext_within (land_sub q rfl) (State.opEnd_within (land_sub q rfl) (within_power_power (land_sub q rfl) h_1 rfl))
  · exact h_1

theorem execVgoodTimeout_within {P s0 s1} (q : P &&& 549756092432 = 549756092432) (h_1 : Within P s0 s1) :
    WithinO P s0 (execVgoodTimeout s1) := by
  unfold execVgoodTimeout
  try dsimp only
  refine withinO_next ?_
  split
  · exact State.wakeNext_within (land_sub q rfl) (State.opEnd_within (land_sub q rfl) (within_power_power (land_sub q rfl)
        (State.logFault_within (land_sub q rfl) h_1) rfl))
  · exact h_1

theorem execVgoodLost_within {P s0 s1} (q : P &&& 262160 = 262160) (h_1 : Within P s0 s1) :
    WithinO P s0 (execVgoodLost s1) := by
  unfold execVgoodLost
  try dsimp only
  exact withinO_next (within_ite (fun _ => h_1) (fun _ => within_ite (fun _ => within_power_power (land_sub q rfl) h_1 rfl) (fun _ =>
      State.logFault_within (land_sub q rfl) (within_power_power (land_sub q rfl) h_1 rfl))))

theorem State.sendTime_within {P s0 s1} (q : P &&& 17592186044416 = 17592186044416) (h_1 : Within P s0 s1) :
    Within P s0 (State.sendTime s1) := by
  unfold State.sendTime
  try dsimp only
  exact State.sendMsg_within (land_sub q rfl) h_1

theorem State.sendEcho_within {P s0 s1} (q : P &&& 17592186044416 = 17592186044416) (h_1 : Within P s0 s1) :
    Within P s0 (State.sendEcho s1) := by
  unfold State.sendEcho
  try dsimp only
  exact State.sendBlock_within (land_sub q rfl) (within_pair (land_sub q rfl) h_1)

theorem execPairLinkUp_within {P s0 s1} (q : P &&& 52776558149632 = 52776558149632) (h_1 : Within P s0 s1) :
    WithinO P s0 (execPairLinkUp s1) := by
  unfold execPairLinkUp
  try dsimp only
  exact withinO_next (within_ite (fun _ => h_1) (fun _ => within_ite (fun _ => State.sendTime_within (land_sub q rfl) (State.sendEcho_within
      (land_sub q rfl) (State.pairPost_within (land_sub q rfl) (within_pair_sync (land_sub q rfl) h_1)))) (fun _ => State.sendEcho_within
      (land_sub q rfl) (State.pairPost_within (land_sub q rfl) (within_pair_sync (land_sub q rfl) h_1)))))

theorem execPairLinkDown_within {P s0 s1} (q : P &&& 52776558190592 = 52776558190592) (h_1 : Within P s0 s1) :
    WithinO P s0 (execPairLinkDown s1) := by
  unfold execPairLinkDown
  try dsimp only
  exact withinO_next (within_ite (fun _ => State.pairDown_within (land_sub q rfl) h_1) (fun _ => h_1))

theorem execHeartbeat_within {P s0 s1} (q : P &&& 17592186044416 = 17592186044416) (h_1 : Within P s0 s1) :
    WithinO P s0 (execHeartbeat s1) := by
  unfold execHeartbeat
  try dsimp only
  exact withinO_next (within_ite (fun _ => h_1) (fun _ => State.sendBlock_within (land_sub q rfl) (within_pair (land_sub q rfl) h_1)))

theorem State.askRow_within {P s0 s1 a2} (q : P &&& 52776558133248 = 52776558133248) (h_1 : Within P s0 s1) :
    Within P s0 (State.askRow s1 a2) := by
  unfold State.askRow
  try dsimp only
  exact State.sendMsg_within (land_sub q rfl) (within_sync (land_sub q rfl) h_1)

theorem State.lockstep_within {P s0 s1} (q : P &&& 52776558133248 = 52776558133248) (h_1 : Within P s0 s1) :
    Within P s0 (State.lockstep s1) := by
  unfold State.lockstep
  try dsimp only
  exact within_foldl (fun _ _ h0 => State.askRow_within (land_sub q rfl) h0) (within_pair_sync (land_sub q rfl) h_1)

theorem execPhase_within {P s0 a1 a2 a3 s1} (q : P &&& 52776558182400 = 52776558182400) (h_1 : Within P s0 s1) :
    WithinO P s0 (execPhase a1 a2 a3 s1) := by
  unfold execPhase
  try dsimp only
  refine withinO_next ?_
  split
  · exact h_1
  · exact within_ite (fun _ => h_1) (fun _ => within_ite (fun _ => within_ite (fun _ => State.lockstep_within (land_sub q rfl) h_1) (fun _ =>
        h_1)) (fun _ => within_ite (fun _ => h_1) (fun _ => within_ite (fun _ => within_sync (land_sub q rfl) h_1) (fun _ => within_ite (fun _
        => within_sync (land_sub q rfl) h_1) (fun _ => State.unsync_within (land_sub q rfl) (State.pairPost_within (land_sub q rfl) (within_sync
        (land_sub q rfl) h_1)))))))

theorem State.resend_within {P s0 s1 a2} (q : P &&& 52776558190592 = 52776558190592) (h_1 : Within P s0 s1) :
    Within P s0 (State.resend s1 a2) := by
  unfold State.resend
  try dsimp only
  split
  · exact h_1
  · exact within_ite (fun _ => State.pairDown_within (land_sub q rfl) h_1) (fun _ => State.sendBlock_within (land_sub q rfl) (within_pair
        (land_sub q rfl) h_1))

theorem execRetransmit_within {P s0 a1 s1} (q : P &&& 52776558190592 = 52776558190592) (h_1 : Within P s0 s1) :
    WithinO P s0 (execRetransmit a1 s1) := by
  unfold execRetransmit
  try dsimp only
  exact withinO_next (State.resend_within (land_sub q rfl) h_1)

theorem execHello_within {P s0 a1 s1} (q : P &&& 52776558190592 = 52776558190592) (h_1 : Within P s0 s1) :
    WithinO P s0 (execHello a1 s1) := by
  unfold execHello
  try dsimp only
  exact withinO_next (within_ite (fun _ => h_1) (fun _ => within_ite (fun _ => State.pairDown_within (land_sub q rfl) (State.pairPost_within
      (land_sub q rfl) (State.ackMsg_within (land_sub q rfl) h_1))) (fun _ => within_pair (land_sub q rfl) (State.ackMsg_within (land_sub q rfl)
      h_1))))

theorem execAck_within {P s0 a1 s1} (q : P &&& 17592186052608 = 17592186052608) (h_1 : Within P s0 s1) :
    WithinO P s0 (execAck a1 s1) := by
  unfold execAck
  try dsimp only
  exact withinO_next (within_cp_replies_pair (land_sub q rfl) h_1 rfl rfl rfl rfl)

theorem execNak_within {P s0 a1 s1} (q : P &&& 52776558190592 = 52776558190592) (h_1 : Within P s0 s1) :
    WithinO P s0 (execNak a1 s1) := by
  unfold execNak
  try dsimp only
  exact withinO_next (State.resend_within (land_sub q rfl) h_1)

theorem execEcho_within {P s0 a1 a2 a3 s1} (q : P &&& 17592186044416 = 17592186044416) (h_1 : Within P s0 s1) :
    WithinO P s0 (execEcho a1 a2 a3 s1) := by
  unfold execEcho
  try dsimp only
  exact withinO_next (within_ite (fun _ => h_1) (fun _ => within_ite (fun _ => State.sendBlock_within (land_sub q rfl) h_1) (fun _ => within_ite
      (fun _ => h_1) (fun _ => within_ite (fun _ => State.sendEcho_within (land_sub q rfl) (within_pair (land_sub q rfl) h_1)) (fun _ =>
      within_pair (land_sub q rfl) h_1)))))

theorem execTime_within {P s0 a1 a2 s1} (q : P &&& 53876069761024 = 53876069761024) (h_1 : Within P s0 s1) :
    WithinO P s0 (execTime a1 a2 s1) := by
  unfold execTime
  try dsimp only
  exact withinO_next (within_ite (fun _ => h_1) (fun _ => State.modHead_within (land_sub q rfl) (within_pair_sync (land_sub q rfl)
      (State.ackMsg_within (land_sub q rfl) h_1))))

theorem State.rowMatches_within {P s0 s1 a2 a3} (q : P &&& 52776558182400 = 52776558182400) (h_1 : Within P s0 s1) :
    Within P s0 (State.rowMatches s1 a2 a3) := by
  unfold State.rowMatches
  try dsimp only
  exact within_ite (fun _ => State.endProcs_within (land_sub q rfl) (State.pairPost_within (land_sub q rfl) (within_pair_sync (land_sub q rfl)
      h_1))) (fun _ => within_sync (land_sub q rfl) h_1)

theorem State.rowDiverges_within {P s0 s1 a2 a3} (q : P &&& 52776558149632 = 52776558149632) (h_1 : Within P s0 s1) :
    Within P s0 (State.rowDiverges s1 a2 a3) := by
  unfold State.rowDiverges
  try dsimp only
  exact within_ite (fun _ => within_sync (land_sub q rfl) h_1) (fun _ => within_ite (fun _ => State.pairPost_within (land_sub q rfl)
      (within_sync (land_sub q rfl) (within_ite (fun _ => within_pair_sync (land_sub q rfl) h_1) (fun _ => State.askRow_within (land_sub q rfl)
      (within_pair_sync (land_sub q rfl) h_1))))) (fun _ => within_sync (land_sub q rfl) (within_ite (fun _ => within_pair_sync (land_sub q rfl)
      h_1) (fun _ => State.askRow_within (land_sub q rfl) (within_pair_sync (land_sub q rfl) h_1)))))

theorem execRow_within {P s0 a1 a2 a3 a4 s1} (q : P &&& 54496715653120 = 54496715653120) (h_1 : Within P s0 s1) :
    WithinO P s0 (execRow a1 a2 a3 a4 s1) := by
  unfold execRow
  try dsimp only
  refine withinO_next ?_
  refine within_ite (fun _ => h_1) (fun _ => ?_)
  split
  · exact State.ackMsg_within (land_sub q rfl) h_1
  · exact within_ite (fun _ => State.ackMsg_within (land_sub q rfl) h_1) (fun _ => within_ite (fun _ => State.rowMatches_within (land_sub q rfl)
        (State.skipRow_within (land_sub q rfl) (within_sync (land_sub q rfl) (State.ackMsg_within (land_sub q rfl) h_1)))) (fun _ => within_ite
        (fun _ => State.rowDiverges_within (land_sub q rfl) (State.skipRow_within (land_sub q rfl) (within_sync (land_sub q rfl)
        (State.ackMsg_within (land_sub q rfl) h_1)))) (fun _ => within_ite (fun _ => State.rowMatches_within (land_sub q rfl)
        (State.commitRow_within (land_sub q rfl) (within_sync (land_sub q rfl) (State.ackMsg_within (land_sub q rfl) h_1)))) (fun _ =>
        State.rowDiverges_within (land_sub q rfl) (State.commitRow_within (land_sub q rfl) (within_sync (land_sub q rfl) (State.ackMsg_within
        (land_sub q rfl) h_1)))))))

theorem execRowWaitEnd_within {P s0 a1 s1} (q : P &&& 54496711458816 = 54496711458816) (h_1 : Within P s0 s1) :
    WithinO P s0 (execRowWaitEnd a1 s1) := by
  unfold execRowWaitEnd
  try dsimp only
  refine withinO_next ?_
  refine within_ite (fun _ => h_1) (fun _ => ?_)
  split
  · exact h_1
  · exact State.rowDiverges_within (land_sub q rfl) (State.skipRow_within (land_sub q rfl) (within_sync (land_sub q rfl) h_1))

theorem execRowReq_within {P s0 a1 s1} (q : P &&& 52776558133248 = 52776558133248) (h_1 : Within P s0 s1) :
    WithinO P s0 (execRowReq a1 s1) := by
  unfold execRowReq
  try dsimp only
  exact withinO_next (within_ite (fun _ => h_1) (fun _ => within_pair_sync (land_sub q rfl) (State.ackMsg_within (land_sub q rfl) h_1)))

theorem execRowData_within {P s0 a1 s1} (q : P &&& 53326337032192 = 53326337032192) (h_1 : Within P s0 s1) :
    WithinO P s0 (execRowData a1 s1) := by
  unfold execRowData
  try dsimp only
  refine withinO_next ?_
  refine within_ite (fun _ => h_1) (fun _ => ?_)
  split
  · exact within_sync (land_sub q rfl) (State.ackMsg_within (land_sub q rfl) h_1)
  · exact within_ite (fun _ => within_sync (land_sub q rfl) (State.ackMsg_within (land_sub q rfl) h_1)) (fun _ => within_ite (fun _ =>
        State.askRow_within (land_sub q rfl) (within_sync (land_sub q rfl) (State.ackMsg_within (land_sub q rfl) h_1))) (fun _ => within_foldl
        (fun _ _ h4 => State.setTile_within (land_sub q rfl) h4) (State.putMem_within1 (land_sub q rfl) (State.putMem_within1 (land_sub q rfl)
        (State.putMem_within0 (land_sub q rfl) (within_sync (land_sub q rfl) (State.ackMsg_within (land_sub q rfl) h_1)))))))

theorem execRelease_within {P s0 a1 a2 a3 a4 s1} (q : P &&& 52776558133248 = 52776558133248) (h_1 : Within P s0 s1) :
    WithinO P s0 (execRelease a1 a2 a3 a4 s1) := by
  unfold execRelease
  try dsimp only
  exact withinO_next (within_ite (fun _ => h_1) (fun _ => within_sync (land_sub q rfl) (State.ackMsg_within (land_sub q rfl) h_1)))

theorem execWindDownMsg_within {P s0 a1 s1} (q : P &&& 52776558133248 = 52776558133248) (h_1 : Within P s0 s1) :
    WithinO P s0 (execWindDownMsg a1 s1) := by
  unfold execWindDownMsg
  try dsimp only
  exact withinO_next (within_ite (fun _ => h_1) (fun _ => within_sync (land_sub q rfl) (State.ackMsg_within (land_sub q rfl) h_1)))

theorem State.driveNets_within {P s0 s1 a2 a3} (q : P &&& 18691697672192 = 18691697672192) (h_1 : Within P s0 s1) :
    Within P s0 (State.driveNets s1 a2 a3) := by
  unfold State.driveNets
  try dsimp only
  exact State.batonPins_within (land_sub q rfl) (State.modHead_within (land_sub q rfl) h_1)

theorem State.restartTx_within {P s0 s1} (q : P &&& 4294967296 = 4294967296) (h_1 : Within P s0 s1) :
    Within P s0 (State.restartTx s1) := by
  unfold State.restartTx
  try dsimp only
  exact within_txs (land_sub q rfl) h_1

theorem State.becomeActive_within {P s0 s1 a2 a3} (q : P &&& 53880364728320 = 53880364728320) (h_1 : Within P s0 s1) :
    Within P s0 (State.becomeActive s1 a2 a3) := by
  unfold State.becomeActive
  try dsimp only
  exact State.driveNets_within (land_sub q rfl) (State.restartTx_within (land_sub q rfl) (within_pair_sync (land_sub q rfl) h_1))

theorem execHandover_within {P s0 a1 s1} (q : P &&& 53880364777472 = 53880364777472) (h_1 : Within P s0 s1) :
    WithinO P s0 (execHandover a1 s1) := by
  unfold execHandover
  try dsimp only
  refine withinO_next ?_
  split
  · exact h_1
  · exact within_ite (fun _ => within_ite (fun _ => h_1) (fun _ => State.batonPins_within (land_sub q rfl) (within_pair_sync (land_sub q rfl)
        (State.modHead_within (land_sub q rfl) h_1)))) (fun _ => within_ite (fun _ => h_1) (fun _ => within_ite (fun _ => State.endProcs_within
        (land_sub q rfl) (State.pairPost_within (land_sub q rfl) (within_pair_sync (land_sub q rfl) h_1))) (fun _ => State.endProcs_within
        (land_sub q rfl) (State.pairPost_within (land_sub q rfl) (State.becomeActive_within (land_sub q rfl) h_1)))))

theorem execHandoverOverlapEnd_within {P s0 a1 s1} (q : P &&& 53876069810176 = 53876069810176) (h_1 : Within P s0 s1) :
    WithinO P s0 (execHandoverOverlapEnd a1 s1) := by
  unfold execHandoverOverlapEnd
  try dsimp only
  refine withinO_next ?_
  split
  · exact within_ite (fun _ => State.endProcs_within (land_sub q rfl) (State.pairPost_within (land_sub q rfl) (within_pair (land_sub q rfl)
        (State.modHead_within (land_sub q rfl) (within_pair_sync (land_sub q rfl) h_1))))) (fun _ => State.endProcs_within (land_sub q rfl)
        (State.pairPost_within (land_sub q rfl) (within_pair_sync (land_sub q rfl) h_1)))
  · exact h_1

theorem execTakeover_within {P s0 s1} (q : P &&& 127369422619648 = 127369422619648) (h_1 : Within P s0 s1) :
    WithinO P s0 (execTakeover s1) := by
  unfold execTakeover
  try dsimp only
  exact withinO_next (within_ite (fun _ => h_1) (fun _ => within_ite (fun _ => State.pairPost_within (land_sub q rfl) (State.headOff_within
      (land_sub q rfl) (State.releaseNets_within (land_sub q rfl) (within_ite (fun _ => State.haltHead_within (land_sub q rfl) (within_pair
      (land_sub q rfl) h_1)) (fun _ => within_pair (land_sub q rfl) h_1))))) (fun _ => within_ite (fun _ => State.pairPost_within (land_sub q
      rfl) (State.becomeActive_within (land_sub q rfl) (within_pair (land_sub q rfl) h_1))) (fun _ => within_ite (fun _ => State.stopHead_within
      (land_sub q rfl) (State.pairPost_within (land_sub q rfl) (State.becomeActive_within (land_sub q rfl) (within_pair (land_sub q rfl) h_1))))
      (fun _ => State.pairPost_within (land_sub q rfl) (within_pair (land_sub q rfl) h_1))))))

theorem execEchoTimeout_within {P s0 s1} (q : P &&& 52776558190592 = 52776558190592) (h_1 : Within P s0 s1) :
    WithinO P s0 (execEchoTimeout s1) := by
  unfold execEchoTimeout
  try dsimp only
  exact withinO_next (within_ite (fun _ => h_1) (fun _ => within_ite (fun _ => State.pairDown_within (land_sub q rfl) h_1) (fun _ =>
      State.sendEcho_within (land_sub q rfl) h_1)))

theorem execPdWriteDrop_within {P s0 a1 s1} (q : P &&& 16 = 16) (h_1 : Within P s0 s1) :
    WithinO P s0 (execPdWriteDrop a1 s1) := by
  unfold execPdWriteDrop
  try dsimp only
  refine withinO_next ?_
  split
  · exact within_power_power (land_sub q rfl) h_1 rfl
  · exact h_1

theorem execRefclkReturn_within {P s0 a1 s1} (q : P &&& 4 = 4) (h_1 : Within P s0 s1) :
    WithinO P s0 (execRefclkReturn a1 s1) := by
  unfold execRefclkReturn
  try dsimp only
  refine withinO_next ?_
  refine within_ite (fun _ => h_1) (fun _ => ?_)
  split
  · exact within_clocks (land_sub q rfl) h_1
  · exact within_clocks (land_sub q rfl) h_1
  · exact within_clocks (land_sub q rfl) h_1
  · exact h_1

end Sys2Proof.Machine
end

