-- ==== Sys2Proof/Laws/WithinStep.lean ====
section
/-! SUPPORT. Within: registers, boot, the rings and every command. One lemma per operation: the parts of the state that it may change. -/

namespace Sys2Proof.Machine

open Sys2Proof.Laws Sys2Proof.Safety

theorem execTileRead_within {P s0 a1 a2 a3 s1} (q : P &&& 17592186105856 = 17592186105856) (h_1 : Within P s0 s1) :
    WithinO P s0 (execTileRead a1 a2 a3 s1) := by
  unfold execTileRead
  try dsimp only
  exact withinO_next (runRead_within (land_sub q rfl) h_1)

theorem execEngineCounters_within {P s0 a1 a2 s1} (q : P &&& 17592186105856 = 17592186105856) (h_1 : Within P s0 s1) :
    WithinO P s0 (execEngineCounters a1 a2 s1) := by
  unfold execEngineCounters
  try dsimp only
  exact withinO_next (runRead_within (land_sub q rfl) h_1)

theorem execMemInject_within {P s0 a1 a2 a3 a4 s1} (q : P &&& 17592202883072 = 17592202883072) (h_1 : Within P s0 s1) :
    WithinO P s0 (execMemInject a1 a2 a3 a4 s1) := by
  unfold execMemInject
  try dsimp only
  exact withinO_next (runNow_within (land_sub q rfl) h_1 (fun _ h0 => State.setMarks_within (land_sub q rfl) h0))

theorem State.readSlots_within {P s0 s1 a2 a3 a4} (q : P &&& 16793600 = 16793600) (h_1 : Within P s0 s1) :
    Within P s0 (State.readSlots s1 a2 a3 a4).2.2 := by
  unfold State.readSlots
  try dsimp only
  exact keepsAt_foldl (P := fun x : _ × _ × State => Within P s0 x.2.2) (fun _ _ h0 => State.readMem_within (land_sub q rfl) h0) h_1

theorem State.badPacket_within {P s0 s1 a2 a3 a4} (q : P &&& 17592186105856 = 17592186105856) (h_1 : Within P s0 s1) :
    Within P s0 (State.badPacket s1 a2 a3 a4) := by
  unfold State.badPacket
  try dsimp only
  exact rejectCmd_within (land_sub q rfl) h_1

theorem nextOr_within {P s0 s1 a2} (_q : P &&& 0 = 0) (h_1 : Within P s0 s1) (h_a2 : WithinO P s0 a2) : Within P s0 (nextOr s1 a2) := by
  unfold nextOr
  split
  · exact h_a2 _ rfl
  · exact h_1

theorem meaningOf_within {P s0 a1 s1} (q : P &&& 127508543830002 = 127508543830002) (h_1 : Within P s0 s1) :
    WithinO P s0 (meaningOf a1 s1) := by
  unfold meaningOf
  try dsimp only
  split
  · exact execNop_within (land_sub q rfl) h_1
  · exact execGetInfo_within (land_sub q rfl) h_1
  · exact execEventCtl_within (land_sub q rfl) h_1
  · exact execFuncReset_within (land_sub q rfl) h_1
  · exact execLogRead_within (land_sub q rfl) h_1
  · exact execDomainSet_within (land_sub q rfl) h_1
  · exact execDomainStatus_within (land_sub q rfl) h_1
  · exact execTpConfig_within (land_sub q rfl) h_1
  · exact execTpSelect_within (land_sub q rfl) h_1
  · exact execTpStep_within (land_sub q rfl) h_1
  · exact execEvtOutSet_within (land_sub q rfl) h_1
  · exact execEvtInSet_within (land_sub q rfl) h_1
  · exact execEvtInRead_within (land_sub q rfl) h_1
  · exact execLaunchCancel_within (land_sub q rfl) h_1
  · exact execQuadSet_within (land_sub q rfl) h_1
  · exact execPortSet_within (land_sub q rfl) h_1
  · exact execPortCounters_within (land_sub q rfl) h_1
  · exact execPortStatus_within (land_sub q rfl) h_1
  · exact execFlowSet_within (land_sub q rfl) h_1
  · exact execFlowEnable_within (land_sub q rfl) h_1
  · exact execFlowCounters_within (land_sub q rfl) h_1
  · exact execFlowStatus_within (land_sub q rfl) h_1
  · exact execTxSet_within (land_sub q rfl) h_1
  · exact execRouteSet_within (land_sub q rfl) h_1
  · exact execOutputSet_within (land_sub q rfl) h_1
  · exact execRouteStatus_within (land_sub q rfl) h_1
  · exact execLayerSet_within (land_sub q rfl) h_1
  · exact execLayerCoef_within (land_sub q rfl) h_1
  · exact execLayerPresent_within (land_sub q rfl) h_1
  · exact execLeasePolicy_within (land_sub q rfl) h_1
  · exact execLeaseStatus_within (land_sub q rfl) h_1
  · exact execAudioAssoc_within (land_sub q rfl) h_1
  · exact execAudioHead_within (land_sub q rfl) h_1
  · exact execAudioTx_within (land_sub q rfl) h_1
  · exact execAudioStatus_within (land_sub q rfl) h_1
  · exact execHeadConfig_within (land_sub q rfl) h_1
  · exact execHeadUnconfig_within (land_sub q rfl) h_1
  · exact execHeadStart_within (land_sub q rfl) h_1
  · exact execHeadStop_within (land_sub q rfl) h_1
  · exact execHeadSr_within (land_sub q rfl) h_1
  · exact execHeadPicture_within (land_sub q rfl) h_1
  · exact execHeadGate_within (land_sub q rfl) h_1
  · exact execWarmupEnd_within (land_sub q rfl) h_1
  · exact execHeadStatus_within (land_sub q rfl) h_1
  · exact execPanelWindup_within (land_sub q rfl) h_1
  · exact execPanelPowerdown_within (land_sub q rfl) h_1
  · exact execPowerSeqSet_within (land_sub q rfl) h_1
  · exact execDriverSet_within (land_sub q rfl) h_1
  · exact execDriverRetrain_within (land_sub q rfl) h_1
  · exact execTableLoad_within (land_sub q rfl) h_1
  · exact execSettingsLoad_within (land_sub q rfl) h_1
  · exact execActivate_within (land_sub q rfl) h_1
  · exact execMuraSwap_within (land_sub q rfl) h_1
  · exact execPanelStatus_within (land_sub q rfl) h_1
  · exact execVcomSet_within (land_sub q rfl) h_1
  · exact execLedgerSet_within (land_sub q rfl) h_1
  · exact execLedgerStats_within (land_sub q rfl) h_1
  · exact execLedgerSnapshot_within (land_sub q rfl) h_1
  · exact execLedgerTableRead_within (land_sub q rfl) h_1
  · exact execLedgerClear_within (land_sub q rfl) h_1
  · exact execViewSet_within (land_sub q rfl) h_1
  · exact execViewClear_within (land_sub q rfl) h_1
  · exact execViewTest_within (land_sub q rfl) h_1
  · exact execCheckSet_within (land_sub q rfl) h_1
  · exact execCheckRead_within (land_sub q rfl) h_1
  · exact execPairSet_within (land_sub q rfl) h_1
  · exact execPairHandover_within (land_sub q rfl) h_1
  · exact execPairRejoin_within (land_sub q rfl) h_1
  · exact execPairStatus_within (land_sub q rfl) h_1
  · exact execNvsRead_within (land_sub q rfl) h_1
  · exact execNvsWrite_within (land_sub q rfl) h_1
  · exact execRecordRead_within (land_sub q rfl) h_1
  · exact execRecordWrite_within (land_sub q rfl) h_1
  · exact execCounterRead_within (land_sub q rfl) h_1
  · exact execPdSet_within (land_sub q rfl) h_1
  · exact execOpSet_within (land_sub q rfl) h_1
  · exact execYoyoSet_within (land_sub q rfl) h_1
  · exact execPowerStatus_within (land_sub q rfl) h_1
  · exact execTileRead_within (land_sub q rfl) h_1
  · exact execEngineCounters_within (land_sub q rfl) h_1
  · exact execMemInject_within (land_sub q rfl) h_1
  · exact withinO_next h_1

theorem State.runCommand_within {P s0 s1 a2} (q : P &&& 127508543830002 = 127508543830002) (h_1 : Within P s0 s1) :
    Within P s0 (State.runCommand s1 a2) := by
  unfold State.runCommand
  try dsimp only
  exact nextOr_within (land_sub q rfl) h_1 (meaningOf_within (land_sub q rfl) h_1)

theorem State.runPacket_within {P s0 s1 a2 a3} (q : P &&& 127508543830002 = 127508543830002) (h_1 : Within P s0 s1) :
    Within P s0 (State.runPacket s1 a2 a3) := by
  unfold State.runPacket
  try dsimp only
  split
  · exact State.badPacket_within (land_sub q rfl) h_1
  · exact State.runCommand_within (land_sub q rfl) h_1

theorem State.holdReply_within {P s0 s1 a2} (q : P &&& 17592186052608 = 17592186052608) (h_1 : Within P s0 s1) :
    Within P s0 (State.holdReply s1 a2) := by
  unfold State.holdReply
  try dsimp only
  split
  · exact within_pair (land_sub q rfl) h_1
  · exact within_cp_replies (land_sub q rfl) h_1 rfl rfl rfl rfl

theorem State.runForward_within {P s0 s1 a2 a3 a4} (q : P &&& 127508543830002 = 127508543830002) (h_1 : Within P s0 s1) :
    Within P s0 (State.runForward s1 a2 a3 a4) := by
  unfold State.runForward
  try dsimp only
  split
  · exact within_ite (fun _ => State.runPacket_within (land_sub q rfl) h_1) (fun _ => State.holdReply_within (land_sub q rfl)
        (State.sendMsg_within (land_sub q rfl) (within_cp_replies (land_sub q rfl) (State.runPacket_within (land_sub q rfl) h_1) rfl rfl rfl
        rfl)))
  · exact within_ite (fun _ => State.runPacket_within (land_sub q rfl) h_1) (fun _ => State.sendMsg_within (land_sub q rfl)
        (State.runPacket_within (land_sub q rfl) h_1))

theorem State.acceptPacket_within {P s0 s1 a2 a3} (q : P &&& 127508543830002 = 127508543830002) (h_1 : Within P s0 s1) :
    Within P s0 (State.acceptPacket s1 a2 a3) := by
  unfold State.acceptPacket
  try dsimp only
  split
  · exact State.badPacket_within (land_sub q rfl) h_1
  · exact within_ite (fun _ => State.runForward_within (land_sub q rfl) h_1) (fun _ => State.runCommand_within (land_sub q rfl) h_1)

theorem State.takeFrom_within {P s0 s1 a2} (q : P &&& 127508543963122 = 127508543963122) (h_1 : Within P s0 s1) :
    Within P s0 (State.takeFrom s1 a2) := by
  unfold State.takeFrom
  try dsimp only
  exact within_ite (fun _ => within_ite (fun _ => State.failCmd_within (land_sub q rfl) (State.setRing_within (land_sub q rfl)
      (State.readSlots_within (land_sub q rfl) (within_cp_cp (land_sub q rfl) h_1 rfl rfl rfl rfl)))) (fun _ => State.acceptPacket_within
      (land_sub q rfl) (State.setRing_within (land_sub q rfl) (State.readSlots_within (land_sub q rfl) (within_cp_cp (land_sub q rfl) h_1 rfl
      rfl rfl rfl))))) (fun _ => within_ite (fun _ => State.acceptPacket_within (land_sub q rfl) (within_cp_cp_mbx (land_sub q rfl) h_1 rfl rfl
      rfl rfl)) (fun _ => within_mbx (land_sub q rfl) (State.acceptPacket_within (land_sub q rfl) (within_cp_cp_mbx (land_sub q rfl) h_1 rfl rfl
      rfl rfl))))

theorem execCommandAccept_within {P s0 s1} (q : P &&& 127508543963122 = 127508543963122) (h_1 : Within P s0 s1) :
    WithinO P s0 (execCommandAccept s1) := by
  unfold execCommandAccept
  try dsimp only
  refine withinO_next ?_
  split
  · exact State.takeFrom_within (land_sub q rfl) h_1
  · exact h_1

theorem sysWrite_within {P s0 a1 a2 a3 s1} (q : P &&& 22298626 = 22298626) (h_1 : Within P s0 s1) :
    Within P s0 (sysWrite a1 a2 a3 s1) := by
  unfold sysWrite
  try dsimp only
  split
  · exact dbgLockWrite_within (land_sub q rfl) h_1
  · exact within_ite (fun _ => h_1) (fun _ => pushCtlWrite_within (land_sub q rfl) h_1)
  · exact within_ite (fun _ => h_1) (fun _ => pushDataWrite_within (land_sub q rfl) h_1)
  · exact h_1

theorem State.ringCfg_within {P s0 s1 a2 a3} (q : P &&& 83968 = 83968) (h_1 : Within P s0 s1) :
    Within P s0 (State.ringCfg s1 a2 a3) := by
  unfold State.ringCfg
  try dsimp only
  exact within_ite (fun _ => h_1) (fun _ => within_ite (fun _ => within_cp_cp_events (land_sub q rfl) (State.setRing_within (land_sub q rfl)
      h_1) rfl rfl rfl) (fun _ => State.setRing_within (land_sub q rfl) h_1))

theorem State.ringIndex_within {P s0 s1 a2 a3 a4} (q : P &&& 67584 = 67584) (h_1 : Within P s0 s1) :
    Within P s0 (State.ringIndex s1 a2 a3 a4) := by
  unfold State.ringIndex
  try dsimp only
  exact within_ite (fun _ => h_1) (fun _ => within_ite (fun _ => within_cp_cp (land_sub q rfl) h_1 rfl rfl rfl rfl) (fun _ =>
      State.setRing_within (land_sub q rfl) h_1))

theorem ringsWrite_within {P s0 a1 a2 s1} (q : P &&& 83968 = 83968) (h_1 : Within P s0 s1) :
    Within P s0 (ringsWrite a1 a2 s1) := by
  unfold ringsWrite
  try dsimp only
  refine within_ite (fun _ => ?_) (fun _ => within_ite (fun _ => within_ite (fun _ => h_1) (fun _ => within_cp_cp (land_sub q rfl) h_1 rfl rfl
      rfl rfl)) (fun _ => h_1))
  split
  · exact within_ite (fun _ => h_1) (fun _ => State.setRing_within (land_sub q rfl) h_1)
  · exact State.ringCfg_within (land_sub q rfl) h_1
  · exact within_ite (fun _ => State.ringIndex_within (land_sub q rfl) h_1) (fun _ => h_1)
  · exact within_ite (fun _ => h_1) (fun _ => State.ringIndex_within (land_sub q rfl) h_1)
  · exact h_1

theorem resetWrite_within {P s0 a1 a2 s1} (q : P &&& 54496712515586 = 54496712515586) (h_1 : Within P s0 s1) :
    Within P s0 (resetWrite a1 a2 s1) := by
  unfold resetWrite
  try dsimp only
  split
  · exact funcResetWrite_within (land_sub q rfl) h_1
  · exact within_sys (land_sub q rfl) h_1
  · exact h_1

theorem powerWrite_within {P s0 a1 a2 s1} (q : P &&& 549755813904 = 549755813904) (h_1 : Within P s0 s1) :
    Within P s0 (powerWrite a1 a2 s1) := by
  unfold powerWrite
  try dsimp only
  exact within_ite (fun _ => nextOr_within (land_sub q rfl) h_1 (execPdCtl_within (land_sub q rfl) h_1)) (fun _ => within_ite (fun _ =>
      within_power_power (land_sub q rfl) h_1 rfl) (fun _ => within_ite (fun _ => nextOr_within (land_sub q rfl) h_1 (execOpCtl_within (land_sub
      q rfl) h_1)) (fun _ => within_ite (fun _ => State.setWakeMask_within (land_sub q rfl) h_1) (fun _ => h_1))))

theorem State.selectWrite_within {P s0 s1 a2} (q : P &&& 16448 = 16448) (h_1 : Within P s0 s1) :
    Within P s0 (State.selectWrite s1 a2) := by
  unfold State.selectWrite
  try dsimp only
  exact within_ite (fun _ => h_1) (fun _ => within_ite (fun _ => State.takeDomain_within (land_sub q rfl) h_1) (fun _ =>
      State.switchRefused_within (land_sub q rfl) (within_time (land_sub q rfl) h_1)))

theorem timeCtlWrite_within {P s0 a1 s1} (q : P &&& 1672908686528 = 1672908686528) (h_1 : Within P s0 s1) :
    Within P s0 (timeCtlWrite a1 s1) := by
  unfold timeCtlWrite
  try dsimp only
  exact within_ite (fun _ => h_1) (fun _ => within_ite (fun _ => State.forceDomain_within (land_sub q rfl) (State.selectWrite_within (land_sub q
      rfl) (within_time (land_sub q rfl) h_1))) (fun _ => within_ite (fun _ => State.forceValue_within (land_sub q rfl)
      (State.selectWrite_within (land_sub q rfl) (within_time (land_sub q rfl) h_1))) (fun _ => within_ite (fun _ => within_timeRegs (land_sub q
      rfl) (State.selectWrite_within (land_sub q rfl) (within_time (land_sub q rfl) h_1))) (fun _ => within_ite (fun _ => within_timeRegs
      (land_sub q rfl) (State.selectWrite_within (land_sub q rfl) (within_time (land_sub q rfl) h_1))) (fun _ => State.selectWrite_within
      (land_sub q rfl) (within_time (land_sub q rfl) h_1))))))

theorem rateHi_within {P s0 a1 a2 s1} (q : P &&& 64 = 64) (h_1 : Within P s0 s1) :
    Within P s0 (rateHi a1 a2 s1) := by
  unfold rateHi
  try dsimp only
  exact within_ite (fun _ => h_1) (fun _ => within_ite (fun _ => within_time (land_sub q rfl) h_1) (fun _ => within_time (land_sub q rfl) h_1))

theorem calWrite_within {P s0 a1 a2 s1} (q : P &&& 128 = 128) (h_1 : Within P s0 s1) :
    Within P s0 (calWrite a1 a2 s1) := by
  unfold calWrite
  try dsimp only
  exact within_ite (fun _ => h_1) (fun _ => within_ite (fun _ => within_timeRegs (land_sub q rfl) h_1) (fun _ => within_timeRegs (land_sub q
      rfl) h_1))

theorem timeWrite_within {P s0 a1 a2 s1} (q : P &&& 1672908686528 = 1672908686528) (h_1 : Within P s0 s1) :
    Within P s0 (timeWrite a1 a2 s1) := by
  unfold timeWrite
  try dsimp only
  exact within_ite (fun _ => timeCtlWrite_within (land_sub q rfl) h_1) (fun _ => within_ite (fun _ => within_time (land_sub q rfl) h_1) (fun _
      => within_ite (fun _ => within_ite (fun _ => h_1) (fun _ => within_time (land_sub q rfl) h_1)) (fun _ => within_ite (fun _ => within_ite
      (fun _ => h_1) (fun _ => within_time (land_sub q rfl) h_1)) (fun _ => within_ite (fun _ => within_time (land_sub q rfl) h_1) (fun _ =>
      within_ite (fun _ => rateHi_within (land_sub q rfl) h_1) (fun _ => within_ite (fun _ => within_time (land_sub q rfl) h_1) (fun _ =>
      within_ite (fun _ => rateHi_within (land_sub q rfl) h_1) (fun _ => within_ite (fun _ => within_timeRegs (land_sub q rfl) h_1) (fun _ =>
      within_ite (fun _ => within_timeRegs (land_sub q rfl) h_1) (fun _ => within_ite (fun _ => within_timeRegs (land_sub q rfl) h_1) (fun _ =>
      within_ite (fun _ => within_timeRegs (land_sub q rfl) h_1) (fun _ => within_ite (fun _ => calWrite_within (land_sub q rfl) h_1) (fun _ =>
      h_1)))))))))))))

theorem sramCtl_within {P s0 a1 s1} (q : P &&& 20971520 = 20971520) (h_1 : Within P s0 s1) :
    Within P s0 (sramCtl a1 s1) := by
  unfold sramCtl
  try dsimp only
  exact within_ite (fun _ => h_1) (fun _ => within_ite (fun _ => within_foldl (fun _ _ h2 => within_ite (fun _ => h2) (fun _ =>
      State.clearBanks_within (land_sub q rfl) h2)) (within_mem_memory (land_sub q rfl) h_1 rfl rfl rfl)) (fun _ => within_mem_memory (land_sub
      q rfl) h_1 rfl rfl rfl))

theorem fabTgtWrite_within {P s0 a1 a2 s1} (q : P &&& 33554432 = 33554432) (h_1 : Within P s0 s1) :
    Within P s0 (fabTgtWrite a1 a2 s1) := by
  unfold fabTgtWrite
  try dsimp only
  exact within_ite (fun _ => within_fab (land_sub q rfl) h_1) (fun _ => within_fab (land_sub q rfl) h_1)

theorem fabricWrite_within {P s0 a1 a2 s1} (q : P &&& 33554432 = 33554432) (h_1 : Within P s0 s1) :
    Within P s0 (fabricWrite a1 a2 s1) := by
  unfold fabricWrite
  try dsimp only
  refine within_ite (fun _ => fabTgtWrite_within (land_sub q rfl) h_1) (fun _ => ?_)
  refine within_ite (fun _ => within_fab (land_sub q rfl) h_1) (fun _ => ?_)
  refine within_ite (fun _ => ?_) (fun _ => h_1)
  refine within_ite (fun _ => h_1) (fun _ => ?_)
  split
  · exact within_fab (land_sub q rfl) h_1
  · exact within_fab (land_sub q rfl) h_1
  · exact within_fab (land_sub q rfl) h_1
  · exact h_1

theorem laneWrite_within {P s0 a1 a2 a3 s1} (q : P &&& 3691003904 = 3691003904) (h_1 : Within P s0 s1) :
    Within P s0 (laneWrite a1 a2 a3 s1) := by
  unfold laneWrite
  try dsimp only
  split
  · exact laneCtlWrite_within (land_sub q rfl) h_1
  · exact laneTxWrite_within (land_sub q rfl) h_1
  · exact laneStatusWrite_within (land_sub q rfl) h_1
  · exact laneFomWrite_within (land_sub q rfl) h_1
  · exact prbsCtlWrite_within (land_sub q rfl) h_1
  · exact laneSlipWrite_within (land_sub q rfl) h_1
  · exact h_1

theorem headWmWrite_within {P s0 a1 a2 s1} (q : P &&& 1099511627776 = 1099511627776) (h_1 : Within P s0 s1) :
    Within P s0 (headWmWrite a1 a2 s1) := by
  unfold headWmWrite
  try dsimp only
  exact within_ite (fun _ => h_1) (fun _ => State.modHead_within (land_sub q rfl) h_1)

theorem headPolWrite_within {P s0 a1 a2 s1} (q : P &&& 1099511627776 = 1099511627776) (h_1 : Within P s0 s1) :
    Within P s0 (headPolWrite a1 a2 s1) := by
  unfold headPolWrite
  try dsimp only
  exact State.modHead_within (land_sub q rfl) h_1

theorem headWrite_within {P s0 a1 a2 a3 s1} (q : P &&& 1099511627776 = 1099511627776) (h_1 : Within P s0 s1) :
    Within P s0 (headWrite a1 a2 a3 s1) := by
  unfold headWrite
  try dsimp only
  split
  · exact headWmWrite_within (land_sub q rfl) h_1
  · exact headPolWrite_within (land_sub q rfl) h_1
  · exact h_1

theorem blockWrite_within {P s0 a1 a2 a3 s1} (q : P &&& 54519768935638 = 54519768935638) (h_1 : Within P s0 s1) :
    Within P s0 (blockWrite a1 a2 a3 s1) := by
  unfold blockWrite
  try dsimp only
  exact within_ite (fun _ => sysWrite_within (land_sub q rfl) h_1) (fun _ => within_ite (fun _ => ringsWrite_within (land_sub q rfl) h_1) (fun _
      => within_ite (fun _ => resetWrite_within (land_sub q rfl) h_1) (fun _ => within_ite (fun _ => powerWrite_within (land_sub q rfl) h_1)
      (fun _ => within_ite (fun _ => within_ite (fun _ => nextOr_within (land_sub q rfl) h_1 (execFabSel_within (land_sub q rfl) h_1)) (fun _ =>
      h_1)) (fun _ => within_ite (fun _ => timeWrite_within (land_sub q rfl) h_1) (fun _ => within_ite (fun _ => h_1) (fun _ => within_ite (fun
      _ => within_ite (fun _ => sramCtl_within (land_sub q rfl) h_1) (fun _ => within_ite (fun _ => within_mem_memory (land_sub q rfl) h_1 rfl
      rfl rfl) (fun _ => h_1))) (fun _ => within_ite (fun _ => fabricWrite_within (land_sub q rfl) h_1) (fun _ => within_ite (fun _ =>
      laneWrite_within (land_sub q rfl) h_1) (fun _ => within_ite (fun _ => h_1) (fun _ => within_ite (fun _ => headWrite_within (land_sub q
      rfl) h_1) (fun _ => within_ite (fun _ => within_log (land_sub q rfl) h_1) (fun _ => h_1)))))))))))))

theorem writeReg_within {P s0 a1 a2 a3 s1} (q : P &&& 54519768935638 = 54519768935638) (h_1 : Within P s0 s1) :
    Within P s0 (writeReg a1 a2 a3 s1) := by
  unfold writeReg
  try dsimp only
  exact within_ite (fun _ => within_power_power (land_sub q rfl) h_1 rfl) (fun _ => within_ite (fun _ => within_power_power (land_sub q rfl) h_1
      rfl) (fun _ => blockWrite_within (land_sub q rfl) h_1))

theorem execRegWrite_within {P s0 a1 a2 s1} (q : P &&& 54519768935638 = 54519768935638) (h_1 : Within P s0 s1) :
    WithinO P s0 (execRegWrite a1 a2 s1) := by
  unfold execRegWrite
  try dsimp only
  exact withinO_next (within_foldl (fun _ _ h0 => writeReg_within (land_sub q rfl) h0) h_1)

theorem readAfter_within {P s0 a1 s1} (q : P &&& 134218240 = 134218240) (h_1 : Within P s0 s1) :
    Within P s0 (readAfter a1 s1) := by
  unfold readAfter
  try dsimp only
  exact within_ite (fun _ => State.setEvtIn_within (land_sub q rfl) h_1) (fun _ => within_ite (fun _ => State.setFom_within (land_sub q rfl)
      h_1) (fun _ => h_1))

theorem State.takeSnap_within {P s0 s1 a2} (q : P &&& 128 = 128) (h_1 : Within P s0 s1) :
    Within P s0 (State.takeSnap s1 a2) := by
  unfold State.takeSnap
  try dsimp only
  exact within_ite (fun _ => within_timeRegs (land_sub q rfl) h_1) (fun _ => within_timeRegs (land_sub q rfl) h_1)

theorem State.latchSram_within {P s0 s1 a2} (q : P &&& 16777216 = 16777216) (h_1 : Within P s0 s1) :
    Within P s0 (State.latchSram s1 a2) := by
  unfold State.latchSram
  try dsimp only
  split
  · exact within_mem_memory (land_sub q rfl) h_1 rfl rfl rfl
  · exact within_mem_memory (land_sub q rfl) h_1 rfl rfl rfl
  · exact h_1

theorem State.latchCheck_within {P s0 s1 a2 a3} (q : P &&& 1099511627776 = 1099511627776) (h_1 : Within P s0 s1) :
    Within P s0 (State.latchCheck s1 a2 a3) := by
  unfold State.latchCheck
  try dsimp only
  exact State.setCheck_within (land_sub q rfl) h_1

theorem readBefore_within {P s0 a1 a2 s1} (q : P &&& 1099796840576 = 1099796840576) (h_1 : Within P s0 s1) :
    Within P s0 (readBefore a1 a2 s1) := by
  unfold readBefore
  try dsimp only
  exact within_ite (fun _ => State.takeSnap_within (land_sub q rfl) h_1) (fun _ => within_ite (fun _ => State.latchSram_within (land_sub q rfl)
      h_1) (fun _ => within_ite (fun _ => prbsErrRead_within (land_sub q rfl) h_1) (fun _ => within_ite (fun _ => State.latchCheck_within
      (land_sub q rfl) h_1) (fun _ => h_1))))

theorem readReg_within {P s0 a1 a2 a3 s1} (q : P &&& 1099931058816 = 1099931058816) (h_1 : Within P s0 s1) :
    Within P s0 (readReg a1 a2 a3 s1).2 := by
  unfold readReg
  try dsimp only
  exact within_ite (fun _ => readAfter_within (land_sub q rfl) (readBefore_within (land_sub q rfl) h_1)) (fun _ => readBefore_within (land_sub q
      rfl) h_1)

theorem readRegs_within {P s0 a1 a2 a3 s1} (q : P &&& 1099931058816 = 1099931058816) (h_1 : Within P s0 s1) :
    Within P s0 (readRegs a1 a2 a3 s1).2 := by
  unfold readRegs
  try dsimp only
  exact keepsAt_foldl (P := fun x : _ × State => Within P s0 x.2) (fun _ _ h0 => readReg_within (land_sub q rfl) h0) h_1

theorem execRegRead_within {P s0 a1 a2 s1} (q : P &&& 141837419414144 = 141837419414144) (h_1 : Within P s0 s1) :
    WithinO P s0 (execRegRead a1 a2 s1) := by
  unfold execRegRead
  try dsimp only
  exact withinO_next (State.say_within (land_sub q rfl) (readRegs_within (land_sub q rfl) h_1))

theorem execMbxWrite_within {P s0 a1 a2 s1} (q : P &&& 131072 = 131072) (h_1 : Within P s0 s1) :
    WithinO P s0 (execMbxWrite a1 a2 s1) := by
  unfold execMbxWrite
  try dsimp only
  exact withinO_next (within_ite (fun _ => h_1) (fun _ => within_mbx (land_sub q rfl) h_1))

theorem execMbxSubmit_within {P s0 s1} (q : P &&& 131072 = 131072) (h_1 : Within P s0 s1) :
    WithinO P s0 (execMbxSubmit s1) := by
  unfold execMbxSubmit
  try dsimp only
  exact withinO_next (within_ite (fun _ => h_1) (fun _ => within_mbx (land_sub q rfl) h_1))

theorem execMbxRead_within {P s0 a1 a2 s1} (q : P &&& 140737488355328 = 140737488355328) (h_1 : Within P s0 s1) :
    WithinO P s0 (execMbxRead a1 a2 s1) := by
  unfold execMbxRead
  try dsimp only
  exact withinO_next (State.say_within (land_sub q rfl) h_1)

theorem execEvtRead_within {P s0 s1} (q : P &&& 211106232664064 = 211106232664064) (h_1 : Within P s0 s1) :
    WithinO P s0 (execEvtRead s1) := by
  unfold execEvtRead
  try dsimp only
  refine withinO_next ?_
  split
  · exact State.say_within (land_sub q rfl) (within_mbx (land_sub q rfl) h_1)
  · exact State.say_within (land_sub q rfl) (State.drawNat_within (land_sub q rfl) h_1)

theorem execStatus_within {P s0 s1} (q : P &&& 140737488486400 = 140737488486400) (h_1 : Within P s0 s1) :
    WithinO P s0 (execStatus s1) := by
  unfold execStatus
  try dsimp only
  exact withinO_next (State.say_within (land_sub q rfl) (within_mbx (land_sub q rfl) h_1))

theorem execMailboxTimeout_within {P s0 s1} (q : P &&& 17592186232832 = 17592186232832) (h_1 : Within P s0 s1) :
    WithinO P s0 (execMailboxTimeout s1) := by
  unfold execMailboxTimeout
  try dsimp only
  exact withinO_next (within_ite (fun _ => h_1) (fun _ => State.reply_within (land_sub q rfl) (within_mbx (land_sub q rfl) h_1)))

theorem execMgtAddressMatch_within {P s0 a1 s1} (q : P &&& 140737488355330 = 140737488355330) (h_1 : Within P s0 s1) :
    WithinO P s0 (execMgtAddressMatch a1 s1) := by
  unfold execMgtAddressMatch
  try dsimp only
  exact withinO_next (within_ite (fun _ => within_answer (land_sub q rfl) h_1) (fun _ => within_sys_answer (land_sub q rfl) h_1))

theorem execDoorbell_within {P s0 a1 a2 s1} (q : P &&& 54519768935638 = 54519768935638) (h_1 : Within P s0 s1) :
    WithinO P s0 (execDoorbell a1 a2 s1) := by
  unfold execDoorbell
  try dsimp only
  exact withinO_next (within_ite (fun _ => h_1) (fun _ => writeReg_within (land_sub q rfl) h_1))

theorem execRingCiWrite_within {P s0 a1 a2 s1} (q : P &&& 54519768935638 = 54519768935638) (h_1 : Within P s0 s1) :
    WithinO P s0 (execRingCiWrite a1 a2 s1) := by
  unfold execRingCiWrite
  try dsimp only
  exact withinO_next (within_ite (fun _ => h_1) (fun _ => writeReg_within (land_sub q rfl) h_1))

theorem execRingCfgWrite_within {P s0 a1 a2 s1} (q : P &&& 54519768935638 = 54519768935638) (h_1 : Within P s0 s1) :
    WithinO P s0 (execRingCfgWrite a1 a2 s1) := by
  unfold execRingCfgWrite
  try dsimp only
  exact withinO_next (within_ite (fun _ => h_1) (fun _ => writeReg_within (land_sub q rfl) h_1))

theorem State.signal_within {P s0 s1 a2} (q : P &&& 65536 = 65536) (h_1 : Within P s0 s1) :
    Within P s0 (State.signal s1 a2) := by
  unfold State.signal
  try dsimp only
  exact within_ite (fun _ => h_1) (fun _ => within_cp_cp (land_sub q rfl) h_1 rfl rfl rfl rfl)

theorem State.advancePi_within {P s0 s1 a2 a3 a4} (q : P &&& 67584 = 67584) (h_1 : Within P s0 s1) :
    Within P s0 (State.advancePi s1 a2 a3 a4) := by
  unfold State.advancePi
  try dsimp only
  exact State.signal_within (land_sub q rfl) (State.setRing_within (land_sub q rfl) h_1)

theorem State.writeSlots_within {P s0 s1 a2 a3 a4} (q : P &&& 20987904 = 20987904) (h_1 : Within P s0 s1) :
    Within P s0 (State.writeSlots s1 a2 a3 a4) := by
  unfold State.writeSlots
  try dsimp only
  exact within_foldl (fun _ _ h0 => State.putMem_within1 (land_sub q rfl) h0) h_1

theorem execReplyWrite_within {P s0 a1 s1} (q : P &&& 21194752 = 21194752) (h_1 : Within P s0 s1) :
    WithinO P s0 (execReplyWrite a1 s1) := by
  unfold execReplyWrite
  try dsimp only
  refine withinO_next ?_
  split
  · exact h_1
  · exact within_ite (fun _ => within_ite (fun _ => h_1) (fun _ => State.advancePi_within (land_sub q rfl) (State.writeSlots_within (land_sub q
        rfl) (within_cp_replies (land_sub q rfl) h_1 rfl rfl rfl rfl)))) (fun _ => within_cp_replies_mbx (land_sub q rfl) h_1 rfl rfl rfl rfl)

theorem State.toMgt_within {P s0 s1 a2 a3} (q : P &&& 131072 = 131072) (h_1 : Within P s0 s1) :
    Within P s0 (State.toMgt s1 a2 a3) := by
  unfold State.toMgt
  try dsimp only
  exact within_ite (fun _ => within_mbx (land_sub q rfl) h_1) (fun _ => within_mbx (land_sub q rfl) h_1)

theorem State.toRing_within {P s0 s1 a2 a3 a4} (q : P &&& 21055488 = 21055488) (h_1 : Within P s0 s1) :
    Within P s0 (State.toRing s1 a2 a3 a4) := by
  unfold State.toRing
  try dsimp only
  exact within_ite (fun _ => State.advancePi_within (land_sub q rfl) (within_cp_cp (land_sub q rfl) (State.writeSlots_within (land_sub q rfl)
      h_1) rfl rfl rfl rfl)) (fun _ => within_cp_cp (land_sub q rfl) h_1 rfl rfl rfl rfl)

theorem execEventPost_within {P s0 s1} (q : P &&& 21186560 = 21186560) (h_1 : Within P s0 s1) :
    WithinO P s0 (execEventPost s1) := by
  unfold execEventPost
  try dsimp only
  refine withinO_next ?_
  split
  · exact h_1
  · exact within_ite (fun _ => h_1) (fun _ => within_ite (fun _ => within_cp_events (land_sub q rfl) h_1 rfl rfl rfl rfl) (fun _ => within_ite
        (fun _ => State.toMgt_within (land_sub q rfl) (State.toRing_within (land_sub q rfl) (within_cp_cp_events (land_sub q rfl) h_1 rfl rfl
        rfl))) (fun _ => State.toRing_within (land_sub q rfl) (within_cp_cp_events (land_sub q rfl) h_1 rfl rfl rfl))))

theorem execMsiXMessage_within {P s0 a1 s1} (q : P &&& 65536 = 65536) (h_1 : Within P s0 s1) :
    WithinO P s0 (execMsiXMessage a1 s1) := by
  unfold execMsiXMessage
  try dsimp only
  exact withinO_next (within_ite (fun _ => h_1) (fun _ => within_cp_cp (land_sub q rfl) h_1 rfl rfl rfl rfl))

theorem execStepValue_within {P s0 a1 s1} (q : P &&& 1672908686528 = 1672908686528) (h_1 : Within P s0 s1) :
    WithinO P s0 (execStepValue a1 s1) := by
  unfold execStepValue
  try dsimp only
  exact withinO_next (timeCtlWrite_within (land_sub q rfl) h_1)

theorem execStepDomain_within {P s0 a1 s1} (q : P &&& 1672908686528 = 1672908686528) (h_1 : Within P s0 s1) :
    WithinO P s0 (execStepDomain a1 s1) := by
  unfold execStepDomain
  try dsimp only
  exact withinO_next (timeCtlWrite_within (land_sub q rfl) h_1)

theorem execLoadA_within {P s0 a1 s1} (q : P &&& 1672908686528 = 1672908686528) (h_1 : Within P s0 s1) :
    WithinO P s0 (execLoadA a1 s1) := by
  unfold execLoadA
  try dsimp only
  exact withinO_next (timeCtlWrite_within (land_sub q rfl) h_1)

theorem execLoadB_within {P s0 a1 s1} (q : P &&& 1672908686528 = 1672908686528) (h_1 : Within P s0 s1) :
    WithinO P s0 (execLoadB a1 s1) := by
  unfold execLoadB
  try dsimp only
  exact withinO_next (timeCtlWrite_within (land_sub q rfl) h_1)

theorem execSelect_within {P s0 a1 s1} (q : P &&& 1672908686528 = 1672908686528) (h_1 : Within P s0 s1) :
    WithinO P s0 (execSelect a1 s1) := by
  unfold execSelect
  try dsimp only
  exact withinO_next (timeCtlWrite_within (land_sub q rfl) h_1)

theorem execRateHiWrite_within {P s0 a1 a2 s1} (q : P &&& 64 = 64) (h_1 : Within P s0 s1) :
    WithinO P s0 (execRateHiWrite a1 a2 s1) := by
  unfold execRateHiWrite
  try dsimp only
  exact withinO_next (within_ite (fun _ => h_1) (fun _ => rateHi_within (land_sub q rfl) h_1))

theorem execTpSnapSecLoRead_within {P s0 a1 s1} (q : P &&& 141837419414144 = 141837419414144) (h_1 : Within P s0 s1) :
    WithinO P s0 (execTpSnapSecLoRead a1 s1) := by
  unfold execTpSnapSecLoRead
  try dsimp only
  exact withinO_next (State.say_within (land_sub q rfl) (readReg_within (land_sub q rfl) h_1))

theorem execRcRead_within {P s0 a1 a2 s1} (q : P &&& 141837419414144 = 141837419414144) (h_1 : Within P s0 s1) :
    WithinO P s0 (execRcRead a1 a2 s1) := by
  unfold execRcRead
  try dsimp only
  exact withinO_next (within_ite (fun _ => State.say_within (land_sub q rfl) (readReg_within (land_sub q rfl) h_1)) (fun _ =>
      State.sayError_within (land_sub q rfl) (readReg_within (land_sub q rfl) h_1)))

theorem execChkFrameRead_within {P s0 a1 a2 s1} (q : P &&& 141837419414144 = 141837419414144) (h_1 : Within P s0 s1) :
    WithinO P s0 (execChkFrameRead a1 a2 s1) := by
  unfold execChkFrameRead
  try dsimp only
  exact withinO_next (within_ite (fun _ => h_1) (fun _ => State.say_within (land_sub q rfl) (readReg_within (land_sub q rfl) h_1)))

theorem execSramLoRead_within {P s0 a1 s1} (q : P &&& 141837419414144 = 141837419414144) (h_1 : Within P s0 s1) :
    WithinO P s0 (execSramLoRead a1 s1) := by
  unfold execSramLoRead
  try dsimp only
  exact withinO_next (State.say_within (land_sub q rfl) (readReg_within (land_sub q rfl) h_1))

theorem execBlow_within {P s0 a1 s1} (q : P &&& 2 = 2) (h_1 : Within P s0 s1) :
    WithinO P s0 (execBlow a1 s1) := by
  unfold execBlow
  try dsimp only
  exact withinO_next (dbgLockWrite_within (land_sub q rfl) h_1)

theorem execStart_within {P s0 a1 s1} (q : P &&& 22298626 = 22298626) (h_1 : Within P s0 s1) :
    WithinO P s0 (execStart a1 s1) := by
  unfold execStart
  try dsimp only
  exact withinO_next (pushCtlWrite_within (land_sub q rfl) h_1)

theorem execGo_within {P s0 a1 s1} (q : P &&& 22298626 = 22298626) (h_1 : Within P s0 s1) :
    WithinO P s0 (execGo a1 s1) := by
  unfold execGo
  try dsimp only
  exact withinO_next (pushCtlWrite_within (land_sub q rfl) h_1)

theorem execSysPushDataWrite_within {P s0 a1 s1} (q : P &&& 2 = 2) (h_1 : Within P s0 s1) :
    WithinO P s0 (execSysPushDataWrite a1 s1) := by
  unfold execSysPushDataWrite
  try dsimp only
  exact withinO_next (pushDataWrite_within (land_sub q rfl) h_1)

theorem execRemap_within {P s0 s1} (q : P &&& 2 = 2) (h_1 : Within P s0 s1) :
    WithinO P s0 (execRemap s1) := by
  unfold execRemap
  try dsimp only
  exact withinO_next (within_ite (fun _ => within_sys (land_sub q rfl) h_1) (fun _ => h_1))

theorem execSliceBypass_within {P s0 a1 a2 s1} (q : P &&& 54519768935638 = 54519768935638) (h_1 : Within P s0 s1) :
    WithinO P s0 (execSliceBypass a1 a2 s1) := by
  unfold execSliceBypass
  try dsimp only
  exact withinO_next (within_ite (fun _ => h_1) (fun _ => writeReg_within (land_sub q rfl) h_1))

theorem execSramCtlWrite_within {P s0 a1 s1} (q : P &&& 20971520 = 20971520) (h_1 : Within P s0 s1) :
    WithinO P s0 (execSramCtlWrite a1 s1) := by
  unfold execSramCtlWrite
  try dsimp only
  exact withinO_next (sramCtl_within (land_sub q rfl) h_1)

theorem execHeadWm_within {P s0 a1 a2 s1} (q : P &&& 1099511627776 = 1099511627776) (h_1 : Within P s0 s1) :
    WithinO P s0 (execHeadWm a1 a2 s1) := by
  unfold execHeadWm
  try dsimp only
  exact withinO_next (within_ite (fun _ => h_1) (fun _ => headWmWrite_within (land_sub q rfl) h_1))

theorem execHeadGatePol_within {P s0 a1 a2 s1} (q : P &&& 1099511627776 = 1099511627776) (h_1 : Within P s0 s1) :
    WithinO P s0 (execHeadGatePol a1 a2 s1) := by
  unfold execHeadGatePol
  try dsimp only
  exact withinO_next (within_ite (fun _ => h_1) (fun _ => headPolWrite_within (land_sub q rfl) h_1))

theorem pcieWrite_within {P s0 a1 a2 a3 s1} (q : P &&& 54519768935638 = 54519768935638) (h_1 : Within P s0 s1) :
    Within P s0 (pcieWrite a1 a2 a3 s1) := by
  unfold pcieWrite
  try dsimp only
  exact within_ite (fun _ => writeReg_within (land_sub q rfl) h_1) (fun _ => within_sys (land_sub q rfl) h_1)

theorem execRegisterWrite_within {P s0 a1 a2 a3 s1} (q : P &&& 54519768935638 = 54519768935638) (h_1 : Within P s0 s1) :
    WithinO P s0 (execRegisterWrite a1 a2 a3 s1) := by
  unfold execRegisterWrite
  try dsimp only
  exact withinO_next (pcieWrite_within (land_sub q rfl) h_1)

theorem State.windowDrop_within {P s0 s1} (q : P &&& 2 = 2) (h_1 : Within P s0 s1) :
    Within P s0 (State.windowDrop s1) := by
  unfold State.windowDrop
  try dsimp only
  exact within_ite (fun _ => within_sys (land_sub q rfl) h_1) (fun _ => h_1)

theorem State.dropPosted_within {P s0 s1} (q : P &&& 33554432 = 33554432) (h_1 : Within P s0 s1) :
    Within P s0 (State.dropPosted s1) := by
  unfold State.dropPosted
  try dsimp only
  exact within_fab (land_sub q rfl) h_1

theorem State.capture_within {P s0 s1 a2 a3 a4 a5 a6} (q : P &&& 33554432 = 33554432) (h_1 : Within P s0 s1) :
    Within P s0 (State.capture s1 a2 a3 a4 a5 a6) := by
  unfold State.capture
  try dsimp only
  exact within_ite (fun _ => h_1) (fun _ => within_fab (land_sub q rfl) h_1)

theorem State.captureWord_within {P s0 s1 a2 a3 a4 a5} (q : P &&& 70368777732096 = 70368777732096) (h_1 : Within P s0 s1) :
    Within P s0 (State.captureWord s1 a2 a3 a4 a5) := by
  unfold State.captureWord
  try dsimp only
  exact State.capture_within (land_sub q rfl) (State.drawNat_within (land_sub q rfl) h_1)

theorem execBar2Write_within {P s0 a1 a2 s1} (q : P &&& 71537027727362 = 71537027727362) (h_1 : Within P s0 s1) :
    WithinO P s0 (execBar2Write a1 a2 s1) := by
  unfold execBar2Write
  try dsimp only
  exact withinO_next (within_ite (fun _ => State.windowDrop_within (land_sub q rfl) h_1) (fun _ => within_ite (fun _ => h_1) (fun _ =>
      within_ite (fun _ => within_mem_memory (land_sub q rfl) h_1 rfl rfl rfl) (fun _ => within_ite (fun _ => within_mem_memory (land_sub q rfl)
      h_1 rfl rfl rfl) (fun _ => within_ite (fun _ => State.guardedWrite_within (land_sub q rfl) h_1) (fun _ => State.dropPosted_within
      (land_sub q rfl) (State.captureWord_within (land_sub q rfl) (State.guardedWrite_within (land_sub q rfl) h_1))))))))

theorem State.sayOnes_within {P s0 s1 a2} (q : P &&& 140737488355328 = 140737488355328) (h_1 : Within P s0 s1) :
    Within P s0 (State.sayOnes s1 a2) := by
  unfold State.sayOnes
  try dsimp only
  exact State.say_within (land_sub q rfl) h_1

theorem State.sayData_within {P s0 s1 a2 a3} (q : P &&& 140737488355328 = 140737488355328) (h_1 : Within P s0 s1) :
    Within P s0 (State.sayData s1 a2 a3) := by
  unfold State.sayData
  try dsimp only
  exact within_answer (land_sub q rfl) h_1

theorem State.readStore_within {P s0 s1 a2 a3} (q : P &&& 16793600 = 16793600) (h_1 : Within P s0 s1) :
    Within P s0 (State.readStore s1 a2 a3).2.2 := by
  unfold State.readStore
  try dsimp only
  exact keepsAt_ite (P := fun x : _ × _ × State => Within P s0 x.2.2) (fun _ => h_1) (fun _ => State.readMem_within (land_sub q rfl) h_1)

theorem execBar2Read_within {P s0 a1 a2 s1} (q : P &&& 140737505148928 = 140737505148928) (h_1 : Within P s0 s1) :
    WithinO P s0 (execBar2Read a1 a2 s1) := by
  unfold execBar2Read
  try dsimp only
  exact withinO_next (within_ite (fun _ => State.sayOnes_within (land_sub q rfl) h_1) (fun _ => State.sayData_within (land_sub q rfl)
      (State.readStore_within (land_sub q rfl) h_1)))

theorem execBar4Write_within {P s0 a1 a2 s1} (q : P &&& 70368798720002 = 70368798720002) (h_1 : Within P s0 s1) :
    WithinO P s0 (execBar4Write a1 a2 s1) := by
  unfold execBar4Write
  try dsimp only
  exact withinO_next (within_ite (fun _ => State.windowDrop_within (land_sub q rfl) h_1) (fun _ => within_ite (fun _ => within_mem_memory
      (land_sub q rfl) h_1 rfl rfl rfl) (fun _ => within_ite (fun _ => State.writeMem_within1 (land_sub q rfl) h_1) (fun _ =>
      State.dropPosted_within (land_sub q rfl) (State.captureWord_within (land_sub q rfl) (State.writeMem_within1 (land_sub q rfl) h_1))))))

theorem State.readSram_within {P s0 s1 a2 a3} (q : P &&& 16793600 = 16793600) (h_1 : Within P s0 s1) :
    Within P s0 (State.readSram s1 a2 a3).2.2 := by
  unfold State.readSram
  try dsimp only
  exact State.readMem_within (land_sub q rfl) h_1

theorem execBar4Read_within {P s0 a1 a2 s1} (q : P &&& 140737538703360 = 140737538703360) (h_1 : Within P s0 s1) :
    WithinO P s0 (execBar4Read a1 a2 s1) := by
  unfold execBar4Read
  try dsimp only
  exact withinO_next (within_ite (fun _ => State.sayOnes_within (land_sub q rfl) h_1) (fun _ => within_ite (fun _ => State.sayOnes_within
      (land_sub q rfl) (State.capture_within (land_sub q rfl) h_1)) (fun _ => State.sayData_within (land_sub q rfl) (State.readSram_within
      (land_sub q rfl) h_1))))

theorem State.aliasWrite_within {P s0 s1 a2 a3 a4 a5} (q : P &&& 20987904 = 20987904) (h_1 : Within P s0 s1) :
    Within P s0 (State.aliasWrite s1 a2 a3 a4 a5).2 := by
  unfold State.aliasWrite
  try dsimp only
  exact keepsAt_ite (P := fun x : _ × State => Within P s0 x.2) (fun _ => State.checkWord_within (land_sub q rfl) h_1) (fun _ =>
      State.setCells_within1 (land_sub q rfl) (State.checkWord_within (land_sub q rfl) h_1))

theorem State.aliasBy_within {P s0 s1 a2 a3 a4 a5 a6 a7} (q : P &&& 211106287075328 = 211106287075328) (h_1 : Within P s0 s1) :
    Within P s0 (State.aliasBy s1 a2 a3 a4 a5 a6 a7) := by
  unfold State.aliasBy
  try dsimp only
  exact within_ite (fun _ => State.sayError_within (land_sub q rfl) h_1) (fun _ => within_ite (fun _ => State.sayError_within (land_sub q rfl)
      (State.capture_within (land_sub q rfl) h_1)) (fun _ => within_ite (fun _ => State.say_within (land_sub q rfl) (State.aliasWrite_within
      (land_sub q rfl) h_1)) (fun _ => State.sayError_within (land_sub q rfl) (State.captureWord_within (land_sub q rfl)
      (State.aliasWrite_within (land_sub q rfl) h_1)))))

theorem execBitSetAliasWrite_within {P s0 a1 a2 a3 s1} (q : P &&& 211106287075328 = 211106287075328) (h_1 : Within P s0 s1) :
    WithinO P s0 (execBitSetAliasWrite a1 a2 a3 s1) := by
  unfold execBitSetAliasWrite
  try dsimp only
  exact withinO_next (within_ite (fun _ => State.sayError_within (land_sub q rfl) h_1) (fun _ => State.aliasBy_within (land_sub q rfl)
      (State.drawNat_within (land_sub q rfl) h_1)))

theorem execBitClearAliasWrite_within {P s0 a1 a2 a3 s1} (q : P &&& 211106287075328 = 211106287075328) (h_1 : Within P s0 s1) :
    WithinO P s0 (execBitClearAliasWrite a1 a2 a3 s1) := by
  unfold execBitClearAliasWrite
  try dsimp only
  exact withinO_next (within_ite (fun _ => State.sayError_within (land_sub q rfl) h_1) (fun _ => State.aliasBy_within (land_sub q rfl)
      (State.drawNat_within (land_sub q rfl) h_1)))

theorem State.matrixError_within {P s0 s1 a2 a3 a4} (q : P &&& 140737521909760 = 140737521909760) (h_1 : Within P s0 s1) :
    Within P s0 (State.matrixError s1 a2 a3 a4) := by
  unfold State.matrixError
  try dsimp only
  exact State.sayError_within (land_sub q rfl) (State.capture_within (land_sub q rfl) h_1)

theorem execNvsWindowWrite_within {P s0 a1 a2 a3 s1} (q : P &&& 140737522958336 = 140737522958336) (h_1 : Within P s0 s1) :
    WithinO P s0 (execNvsWindowWrite a1 a2 a3 s1) := by
  unfold execNvsWindowWrite
  try dsimp only
  exact withinO_next (within_ite (fun _ => h_1) (fun _ => State.matrixError_within (land_sub q rfl) (within_nvs_nvs (land_sub q rfl) h_1 rfl)))

theorem State.matrixWord_within {P s0 s1 a2 a3} (q : P &&& 211106266087424 = 211106266087424) (h_1 : Within P s0 s1) :
    Within P s0 (State.matrixWord s1 a2 a3) := by
  unfold State.matrixWord
  try dsimp only
  exact State.sayError_within (land_sub q rfl) (State.captureWord_within (land_sub q rfl) h_1)

theorem State.matrixRegs_within {P s0 s1 a2 a3 a4} (q : P &&& 54519768935638 = 54519768935638) (h_1 : Within P s0 s1) :
    Within P s0 (State.matrixRegs s1 a2 a3 a4) := by
  unfold State.matrixRegs
  try dsimp only
  exact within_ite (fun _ => within_sys (land_sub q rfl) h_1) (fun _ => within_foldl (fun _ _ h1 => within_ite (fun _ => within_ite (fun _ =>
      within_sys (land_sub q rfl) h1) (fun _ => h1)) (fun _ => writeReg_within (land_sub q rfl) h1)) h_1)

theorem State.matrixWrite_within {P s0 s1 a2 a3} (q : P &&& 265626009857238 = 265626009857238) (h_1 : Within P s0 s1) :
    Within P s0 (State.matrixWrite s1 a2 a3) := by
  unfold State.matrixWrite
  try dsimp only
  split
  · exact State.say_within (land_sub q rfl) h_1
  · exact within_ite (fun _ => State.matrixError_within (land_sub q rfl) h_1) (fun _ => within_ite (fun _ => State.say_within (land_sub q rfl)
        (State.writeMem_within1 (land_sub q rfl) h_1)) (fun _ => State.matrixWord_within (land_sub q rfl) (State.writeMem_within1 (land_sub q
        rfl) h_1)))
  · exact State.aliasBy_within (land_sub q rfl) h_1
  · exact State.say_within (land_sub q rfl) (State.matrixRegs_within (land_sub q rfl) h_1)
  · exact within_ite (fun _ => State.say_within (land_sub q rfl) h_1) (fun _ => State.matrixError_within (land_sub q rfl) (within_nvs_nvs
        (land_sub q rfl) h_1 rfl))
  · exact within_ite (fun _ => State.say_within (land_sub q rfl) h_1) (fun _ => within_ite (fun _ => State.say_within (land_sub q rfl)
        (State.writeMem_within2 (land_sub q rfl) h_1)) (fun _ => State.matrixWord_within (land_sub q rfl) (State.writeMem_within2 (land_sub q
        rfl) h_1)))
  · exact State.say_within (land_sub q rfl) h_1
  · exact within_ite (fun _ => State.matrixError_within (land_sub q rfl) h_1) (fun _ => within_ite (fun _ => State.say_within (land_sub q rfl)
        (keepsAt_ite (P := fun x : _ × State => Within P s0 x.2) (fun _ => State.guardedWrite_within (land_sub q rfl) h_1) (fun _ =>
        State.writeMem_within0 (land_sub q rfl) h_1))) (fun _ => State.matrixWord_within (land_sub q rfl) (keepsAt_ite (P := fun x : _ × State
        => Within P s0 x.2) (fun _ => State.guardedWrite_within (land_sub q rfl) h_1) (fun _ => State.writeMem_within0 (land_sub q rfl) h_1))))
  · exact State.say_within (land_sub q rfl) h_1
  · exact State.matrixError_within (land_sub q rfl) h_1

theorem State.matrixRead_within {P s0 s1 a2 a3 a4} (q : P &&& 212206197162624 = 212206197162624) (h_1 : Within P s0 s1) :
    Within P s0 (State.matrixRead s1 a2 a3 a4) := by
  unfold State.matrixRead
  try dsimp only
  split
  · exact State.say_within (land_sub q rfl) h_1
  · exact within_ite (fun _ => State.matrixError_within (land_sub q rfl) h_1) (fun _ => within_ite (fun _ => State.matrixWord_within (land_sub q
        rfl) (State.readSram_within (land_sub q rfl) h_1)) (fun _ => State.say_within (land_sub q rfl) (State.readSram_within (land_sub q rfl)
        h_1)))
  · exact within_ite (fun _ => State.matrixError_within (land_sub q rfl) h_1) (fun _ => within_ite (fun _ => State.matrixWord_within (land_sub q
        rfl) (State.readSram_within (land_sub q rfl) h_1)) (fun _ => State.say_within (land_sub q rfl) (State.readSram_within (land_sub q rfl)
        h_1)))
  · exact State.say_within (land_sub q rfl) (readRegs_within (land_sub q rfl) h_1)
  · exact within_ite (fun _ => h_1) (fun _ => State.say_within (land_sub q rfl) h_1)
  · exact within_ite (fun _ => State.matrixWord_within (land_sub q rfl) (State.readMem_within (land_sub q rfl) h_1)) (fun _ => State.say_within
        (land_sub q rfl) (State.readMem_within (land_sub q rfl) h_1))
  · exact State.say_within (land_sub q rfl) h_1
  · exact within_ite (fun _ => State.matrixError_within (land_sub q rfl) h_1) (fun _ => within_ite (fun _ => State.matrixWord_within (land_sub q
        rfl) (State.readStore_within (land_sub q rfl) h_1)) (fun _ => State.say_within (land_sub q rfl) (State.readStore_within (land_sub q rfl)
        h_1)))
  · exact State.say_within (land_sub q rfl) (State.drawNat_within (land_sub q rfl) h_1)
  · exact State.matrixError_within (land_sub q rfl) h_1

theorem execMatrixTransaction_within {P s0 a1 s1} (q : P &&& 265626009857750 = 265626009857750) (h_1 : Within P s0 s1) :
    WithinO P s0 (execMatrixTransaction a1 s1) := by
  unfold execMatrixTransaction
  try dsimp only
  exact withinO_next (within_ite (fun _ => h_1) (fun _ => within_ite (fun _ => within_ite (fun _ => State.sayError_within (land_sub q rfl) h_1)
      (fun _ => h_1)) (fun _ => within_ite (fun _ => within_ite (fun _ => State.matrixError_within (land_sub q rfl) h_1) (fun _ => h_1)) (fun _
      => within_ite (fun _ => State.matrixWrite_within (land_sub q rfl) h_1) (fun _ => State.matrixRead_within (land_sub q rfl) h_1)))))

theorem execMatrixTimeout_within {P s0 a1 s1} (q : P &&& 140737521909760 = 140737521909760) (h_1 : Within P s0 s1) :
    WithinO P s0 (execMatrixTimeout a1 s1) := by
  unfold execMatrixTimeout
  try dsimp only
  exact withinO_next (within_ite (fun _ => h_1) (fun _ => within_ite (fun _ => State.dropPosted_within (land_sub q rfl)
      (State.matrixError_within (land_sub q rfl) h_1)) (fun _ => State.matrixError_within (land_sub q rfl) h_1)))

theorem execScrub_within {P s0 a1 s1} (q : P &&& 16793600 = 16793600) (h_1 : Within P s0 s1) : WithinO P s0 (execScrub a1 s1) := by
  have step : ∀ (p : Sparse Nat) {x : State}, Within P s0 x → Within P s0 ({ x with mem := { x.mem with scrubPos := p } } : State) :=
    fun _ _ h => within_mem_memory (land_sub q rfl) h rfl rfl rfl
  unfold execScrub
  extract_lets u f
  have kf : ∀ n x, Within P s0 x → Within P s0 (f x n) := fun n x h => step _ h
  clear_value f
  exact withinO_next (within_ite (fun _ => within_ite (fun _ => h_1) (fun _ => kf _ _ (State.checkWord_within (land_sub q rfl) h_1)))
    (fun _ => within_ite (fun _ => within_ite (fun _ => h_1)
      (fun _ => kf _ _ (within_foldl (fun _ _ h3 => State.checkWord_within (land_sub q rfl) h3) h_1))) (fun _ => h_1)))

theorem execAonResetRelease_within {P s0 a1 s1} (q : P &&& 1048594 = 1048594) (h_1 : Within P s0 s1) :
    WithinO P s0 (execAonResetRelease a1 s1) := by
  unfold execAonResetRelease
  try dsimp only
  exact withinO_next (within_ite (fun _ => h_1) (fun _ => incCounter_within (land_sub q rfl) (within_sys_power_power (land_sub q rfl) h_1 rfl)))

theorem State.addCause_within {P s0 s1 a2} (q : P &&& 2 = 2) (h_1 : Within P s0 s1) :
    Within P s0 (State.addCause s1 a2) := by
  unfold State.addCause
  try dsimp only
  exact within_sys (land_sub q rfl) h_1

theorem State.planesReset_within {P s0 s1} (q : P &&& 61572638703614 = 61572638703614) (h_1 : Within P s0 s1) :
    Within P s0 (State.planesReset s1) := by
  unfold State.planesReset
  try dsimp only
  exact
      within_sys_clocks_wind_power_power_yoyo_time_timeRegs_domains_evtIn_evtOut_rings_cp_cp_acceptNo_replies_events_waiting_mem_memory_sram_fab_lanes_foms_prbs_quads_ports_flows_txs_layers_outputs_outShots_leases_assocs_txAudio_tq_heads_drivers_polls_pair_sync
      (land_sub q rfl) h_1 rfl rfl

theorem execPerstAssert_within {P s0 s1} (q : P &&& 61572641849342 = 61572641849342) (h_1 : Within P s0 s1) :
    WithinO P s0 (execPerstAssert s1) := by
  unfold execPerstAssert
  try dsimp only
  refine withinO_next ?_
  refine within_ite (fun _ => h_1) (fun _ => ?_)
  split
  · exact State.addCause_within (land_sub q rfl) (within_wind (land_sub q rfl) (State.addCause_within (land_sub q rfl) (within_sys (land_sub q
        rfl) h_1)))
  · exact within_ite (fun _ => State.windStart_within (land_sub q rfl) (State.addCause_within (land_sub q rfl) (State.addCause_within (land_sub
        q rfl) (within_sys (land_sub q rfl) h_1)))) (fun _ => State.planesReset_within (land_sub q rfl) (State.addCause_within (land_sub q rfl)
        (within_sys (land_sub q rfl) h_1)))

theorem State.planesStart_within {P s0 s1} (q : P &&& 2 = 2) (h_1 : Within P s0 s1) :
    Within P s0 (State.planesStart s1) := by
  unfold State.planesStart
  try dsimp only
  exact within_sys (land_sub q rfl) h_1

theorem execPerstRelease_within {P s0 a1 s1} (q : P &&& 61572638703614 = 61572638703614) (h_1 : Within P s0 s1) :
    WithinO P s0 (execPerstRelease a1 s1) := by
  unfold execPerstRelease
  try dsimp only
  exact withinO_next (within_ite (fun _ => h_1) (fun _ => within_ite (fun _ => within_sys (land_sub q rfl) h_1) (fun _ =>
      State.planesStart_within (land_sub q rfl) (State.planesReset_within (land_sub q rfl) (within_sys (land_sub q rfl) h_1)))))

theorem execPcieHotReset_within {P s0 s1} (q : P &&& 25769928722 = 25769928722) (h_1 : Within P s0 s1) : WithinO P s0 (execPcieHotReset s1) := by
  unfold execPcieHotReset
  refine withinO_next (within_ite (fun _ => h_1) (fun _ => ?_))
  extract_lets a b c
  have ha : Within P s0 a := State.resetCommands_within (land_sub q rfl) h_1
  clear_value a
  have hb : Within P s0 b := within_foldl (fun _ _ h2 => State.setRing_within (land_sub q rfl) h2) ha
  clear_value b
  exact State.addCause_within (land_sub q rfl) (within_sys_power_power_cp_cp (land_sub q rfl) hb rfl rfl rfl rfl rfl)

theorem execRootPllLock_within {P s0 s1} (q : P &&& 4 = 4) (h_1 : Within P s0 s1) :
    WithinO P s0 (execRootPllLock s1) := by
  unfold execRootPllLock
  try dsimp only
  exact withinO_next (within_ite (fun _ => h_1) (fun _ => within_clocks (land_sub q rfl) h_1))

theorem State.bootFlash_within {P s0 s1 a2 a3} (q : P &&& 22298626 = 22298626) (h_1 : Within P s0 s1) :
    Within P s0 (State.bootFlash s1 a2 a3) := by
  unfold State.bootFlash
  try dsimp only
  exact within_ite (fun _ => State.bootAccepted_within (land_sub q rfl) (State.readImage_within (land_sub q rfl) h_1)) (fun _ =>
      State.tryImage_within (land_sub q rfl) (State.readImage_within (land_sub q rfl) h_1))

theorem execBoot_within {P s0 a1 a2 a3 s1} (q : P &&& 22298626 = 22298626) (h_1 : Within P s0 s1) :
    WithinO P s0 (execBoot a1 a2 a3 s1) := by
  unfold execBoot
  try dsimp only
  exact withinO_next (within_ite (fun _ => h_1) (fun _ => within_ite (fun _ => within_sys (land_sub q rfl) h_1) (fun _ => within_ite (fun _ =>
      State.bootFailed_within (land_sub q rfl) h_1) (fun _ => State.bootFlash_within (land_sub q rfl) h_1))))

theorem execReady_within {P s0 a1 s1} (q : P &&& 20187138 = 20187138) (h_1 : Within P s0 s1) :
    WithinO P s0 (execReady a1 s1) := by
  unfold execReady
  try dsimp only
  exact withinO_next (within_ite (fun _ => h_1) (fun _ => within_ite (fun _ => State.bootFailed_within (land_sub q rfl) h_1) (fun _ =>
      within_sys_rings_mem_memory_store (land_sub q rfl) h_1 rfl rfl)))

theorem execWindDownDone_within {P s0 s1} (q : P &&& 61572641849342 = 61572641849342) (h_1 : Within P s0 s1) :
    WithinO P s0 (execWindDownDone s1) := by
  unfold execWindDownDone
  try dsimp only
  refine withinO_next ?_
  split
  · exact within_ite (fun _ => h_1) (fun _ => within_ite (fun _ => within_ite (fun _ => State.planesReset_within (land_sub q rfl) (within_ite
        (fun _ => State.windResume_within (land_sub q rfl) (within_foldl (fun _ _ h7 => State.headOff_within (land_sub q rfl) h7)
        (State.post_within (land_sub q rfl) (within_sys_wind (land_sub q rfl) h_1)))) (fun _ => within_foldl (fun _ _ h6 => State.headOff_within
        (land_sub q rfl) h6) (State.post_within (land_sub q rfl) (within_sys_wind (land_sub q rfl) h_1))))) (fun _ => State.planesStart_within
        (land_sub q rfl) (State.planesReset_within (land_sub q rfl) (within_ite (fun _ => State.windResume_within (land_sub q rfl) (within_foldl
        (fun _ _ h8 => State.headOff_within (land_sub q rfl) h8) (State.post_within (land_sub q rfl) (within_sys_wind (land_sub q rfl) h_1))))
        (fun _ => within_foldl (fun _ _ h7 => State.headOff_within (land_sub q rfl) h7) (State.post_within (land_sub q rfl) (within_sys_wind
        (land_sub q rfl) h_1))))))) (fun _ => within_ite (fun _ => State.windResume_within (land_sub q rfl) (within_foldl (fun _ _ h5 =>
        State.headOff_within (land_sub q rfl) h5) (State.post_within (land_sub q rfl) (within_sys_wind (land_sub q rfl) h_1)))) (fun _ =>
        within_foldl (fun _ _ h4 => State.headOff_within (land_sub q rfl) h4) (State.post_within (land_sub q rfl) (within_sys_wind (land_sub q
        rfl) h_1)))))
  · exact h_1

theorem State.resume_within {P s0 s1 a2} (q : P &&& 127508543830002 = 127508543830002) (h_1 : Within P s0 s1) :
    Within P s0 (State.resume s1 a2) := by
  unfold State.resume
  try dsimp only
  exact within_cp_acceptNo (land_sub q rfl) (State.runCommand_within (land_sub q rfl) (within_cp_acceptNo_waiting (land_sub q rfl) h_1 rfl rfl
      rfl)) rfl rfl rfl rfl

theorem State.resumeAll_within {P s0 s1 a2} (q : P &&& 127508543830002 = 127508543830002) (h_1 : Within P s0 s1) :
    Within P s0 (State.resumeAll s1 a2) := by
  unfold State.resumeAll
  try dsimp only
  exact within_foldl (fun _ _ h0 => State.resume_within (land_sub q rfl) h0) h_1

theorem execActivateCopy_within {P s0 a1 s1} (q : P &&& 127508543830002 = 127508543830002) (h_1 : Within P s0 s1) :
    WithinO P s0 (execActivateCopy a1 s1) := by
  unfold execActivateCopy
  try dsimp only
  exact withinO_next (within_ite (fun _ => h_1) (fun _ => State.resumeAll_within (land_sub q rfl) (State.copyEnd_within (land_sub q rfl) h_1)))

theorem State.clearStack_within {P s0 s1 a2} (q : P &&& 18874368 = 18874368) (h_1 : Within P s0 s1) :
    Within P s0 (State.clearStack s1 a2) := by
  unfold State.clearStack
  try dsimp only
  exact within_mem_memory_store (land_sub q rfl) h_1 rfl rfl

theorem State.domainArrived_within {P s0 s1 a2 a3 a4} (q : P &&& 127508980039670 = 127508980039670) (h_1 : Within P s0 s1) :
    Within P s0 (State.domainArrived s1 a2 a3 a4) := by
  unfold State.domainArrived
  try dsimp only
  exact within_ite (fun _ => within_ite (fun _ => within_foldl (fun _ _ h2 => writeReg_within (land_sub q rfl) h2) (within_power_power (land_sub
      q rfl) h_1 rfl)) (fun _ => h_1)) (fun _ => within_ite (fun _ => within_ite (fun _ => State.feed_within (land_sub q rfl) h_1) (fun _ =>
      State.moveDeque_within (land_sub q rfl) h_1)) (fun _ => within_ite (fun _ => State.clearStack_within (land_sub q rfl) h_1) (fun _ =>
      within_ite (fun _ => within_ite (fun _ => State.resumeAll_within (land_sub q rfl) (within_ite (fun _ => State.setYoyo_within (land_sub q
      rfl) h_1) (fun _ => h_1))) (fun _ => within_ite (fun _ => State.setYoyo_within (land_sub q rfl) h_1) (fun _ => h_1))) (fun _ => h_1))))

theorem execPdChanged_within {P s0 s1} (q : P &&& 127508980039670 = 127508980039670) (h_1 : Within P s0 s1) :
    WithinO P s0 (execPdChanged s1) := by
  unfold execPdChanged
  try dsimp only
  refine withinO_next ?_
  split
  · exact State.wakeNext_within (land_sub q rfl) (State.domainArrived_within (land_sub q rfl) (State.post_within (land_sub q rfl)
        (within_power_power (land_sub q rfl) h_1 rfl)))
  · exact h_1
  · refine within_ite (fun _ => h_1) (fun _ => ?_)
    refine State.wakeNext_within (land_sub q rfl) ?_
    refine State.domainArrived_within (land_sub q rfl) ?_
    split
    · exact State.procApplied_within (land_sub q rfl) (State.post_within (land_sub q rfl) (within_power_power (land_sub q rfl) h_1 rfl))
    · exact State.post_within (land_sub q rfl) (within_power_power (land_sub q rfl) h_1 rfl)

theorem execCmd_within {P s0 a1 a2 a3 s1} (q : P &&& 127508543830002 = 127508543830002) (h_1 : Within P s0 s1) :
    WithinO P s0 (execCmd a1 a2 a3 s1) := by
  unfold execCmd
  try dsimp only
  refine withinO_next ?_
  refine within_ite (fun _ => h_1) (fun _ => ?_)
  split
  · exact State.unsync_within (land_sub q rfl) (State.pairPost_within (land_sub q rfl) (State.ackMsg_within (land_sub q rfl) h_1))
  · exact within_ite (fun _ => State.unsync_within (land_sub q rfl) (State.pairPost_within (land_sub q rfl) (State.ackMsg_within (land_sub q
        rfl) h_1))) (fun _ => State.runPacket_within (land_sub q rfl) (State.ackMsg_within (land_sub q rfl) h_1))

theorem execCommandTimeout_within {P s0 a1 s1} (q : P &&& 17592186101760 = 17592186101760) (h_1 : Within P s0 s1) :
    WithinO P s0 (execCommandTimeout a1 s1) := by
  unfold execCommandTimeout
  try dsimp only
  refine withinO_next ?_
  split
  · exact State.finish_within (land_sub q rfl) h_1
  · exact h_1

theorem State.tearPage_within {P s0 s1} (q : P &&& 70368745750528 = 70368745750528) (h_1 : Within P s0 s1) :
    Within P s0 (State.tearPage s1) := by
  unfold State.tearPage
  try dsimp only
  exact within_ite (fun _ => h_1) (fun _ => within_nvs_nvs_nvsCells (land_sub q rfl) (State.drawNat_within (land_sub q rfl)
      (State.drawNat_within (land_sub q rfl) h_1)))

theorem execAonReset_within {P s0 s1} (q : P &&& 272678883688446 = 272678883688446) (h_1 : Within P s0 s1) :
    WithinO P s0 (execAonReset s1) := by
  unfold execAonReset
  try dsimp only
  exact withinO_next
      (within_sys_clocks_wind_power_power_yoyo_time_timeRegs_domains_evtIn_evtOut_rings_cp_cp_acceptNo_replies_events_waiting_mbx_log_nvs_nvs_mem_memory_store_sram_aon_fab_lanes_foms_prbs_quads_ports_flows_txs_layers_outputs_outShots_leases_assocs_txAudio_tq_heads_drivers_polls_pair_sync_answer
      (land_sub q rfl) (State.tearPage_within (land_sub q rfl) h_1) rfl)

theorem execSupplyLoss_within {P s0 s1} (q : P &&& 131941386551294 = 131941386551294) (h_1 : Within P s0 s1) :
    WithinO P s0 (execSupplyLoss s1) := by
  unfold execSupplyLoss
  try dsimp only
  exact withinO_next (within_mem_memory_store_sram (land_sub q rfl) (State.planesReset_within (land_sub q rfl) (within_sys (land_sub q rfl)
      (State.tearPage_within (land_sub q rfl) h_1))) rfl)

theorem execPcieLinkUp_within {P s0 s1} (q : P &&& 2 = 2) (h_1 : Within P s0 s1) :
    WithinO P s0 (execPcieLinkUp s1) := by
  unfold execPcieLinkUp
  try dsimp only
  exact withinO_next (within_ite (fun _ => h_1) (fun _ => within_sys (land_sub q rfl) h_1))

end Sys2Proof.Machine
end

