-- ==== Sys2Proof/Tests/Slice0.lean ====
section
/-! SUPPORT. Tests of the model: each check of well-formedness refuses an ill-formed term, the worked examples of the spec come out as it gives
them, and every statement's hypotheses are met by a small state, clause by clause. -/

namespace Sys2Proof.Tests

open Sys2Proof.Machine Sys2Proof.Safety

-- One declaration at a time: kernel evaluations that wait for each other would each hold a thread.
set_option Elab.async false

/-! ## Small states and operands -/

/-- A header of a command ring, no options. -/
def h0 : Hdr := {}

/-- The same with a launch time of 0. -/
def hT : Hdr := { timed := true }

/-- A device that is READY. -/
def on : State := {
  sys := { ready := true, aonReset := false, perst := false, planesHeld := false }, clocks := { started := true }, nvs := { scanning := false } }

/-- It with head 3 as given. -/
def hd (f : Head) : State := { on with heads := [(3, f)] }

/-- A small head. -/
def cfg : HeadConfigP := {
  head := 3, w := 16, h := 8, rate := { n := 60, d := 1 }, epochOffset := 0, vtotal := 16, scanMode := 0, transitionCode := 0, lead := 0,
  latency := 0, low := 0, crit := 0, linkRate := 1, psBase := 0, composedBase := 0, followed := 0, lineF := 65536000,
  followMin := { n := 60, d := 1 } }

/-- Its frame 0, latched. -/
def fr : Latched := { lines := 16, clock := { num := 65536000, per := 65536000 } }

/-- A camera view. -/
def vw : ViewP := { s := 8000, x := 1000 }

/-- A NOP packet. -/
def nopPacket : List Byte := [0, 1, 4] ++ List.replicate 13 0

/-- A running head. -/
def run : Head := { state := 3, cfg := some cfg, scan := { latched := [fr], nextLatch := 1 } }

/-- A leg. -/
def lg : Leg := { port := 31, dst := 0x0A000001, udp := 5000, vlan := 4094 }

/-- A video format of 1920 × 1080. -/
def fmt : Format := { width := 1920, height := 1080, sampling := 1, depth := 10, rate := { n := 60, d := 1 } }

/-- A video flow. -/
def flw : FlowSetP := {
  kind := 0, index := 63, enable := 1, legA := lg, legBPresent := 0, legB := lg, payloadType := 96, ssrcAny := 1, ssrc := 0, format := fmt,
  slotCount := 4, descriptors := 0, bases := List.replicate 8 0, ringLength := 0, skew := 0, bucket := 0, activity := 0 }

/-- A transmit flow. -/
def txp : TxSetP := {
  kind := 3, index := 63, enable := 0, legA := lg, legBPresent := 0, legB := lg, extended := 0, tro := 0, audioSource := 0, audioIndex := 0 }

/-- A device with a quad and a port set. -/
def net : State := { on with quads := [(7, { mode := 2 })], ports := [(31, { mac := 1 })] }

/-- A route of the last layer, to its graphics. -/
def rt : RouteSetP := { dest := { index := 63 }, kind := 2, source := 63, transition := 2, frames := 256, switchWait := 255 }

/-- A transmit output. -/
def outp : OutputSetP := {
  output := 63, width := 1920, height := 1080, rate := { n := 60, d := 1 }, format := fmt, latency := 0, slotCount := 3,
  bases := List.replicate 8 0, fill := 0, blend := 0, lossAction := 0, hold := 0, crop := { w := 1920, h := 1080 }, bypass := 0, m1Mode := 0,
  m1 := {}, m2 := matrix2Identity, m3 := {}, lutBuffer := 0 }

/-- Settings of the last layer, at the ends of their ranges. -/
def lay : LayerSetP := {
  head := 3, layer := 15, enable := 1, z := 15, crop := {}, dest := { x := -32768, y := 32767 }, g := 255, fill := 0, views := 15, blend := 1,
  lossAction := 1, hold := 60000, bypass := 1, m1Mode := 1, m1 := {}, m2 := matrix2Identity }

/-- Audio of the last layer. -/
def aud : AudioHeadP := { head := 3, layer := 15, trim := 100000000, tdmEnable := 1, tdmFormat := 1, map := [0, 1, 2, 3, 4, 5, 63, 255] }

/-- A present of the last layer. -/
def pres : PresentP := { head := 3, layer := 15, base := 0x7FBFF0000, pitch := 64, width := 16, height := 1024, format := 1, ordered := 1 }

/-- The last layer, routed to its graphics. -/
def routed : List (Nat × Layer) := [(63, { route := { route := { kind := 2, source := 63 } } })]

/-- A check at the drive tap. -/
def chk : CheckSetP := {
  head := 3, check := 15, enable := 1, tap := 1, x0 := 0, y0 := 0, cw := 16, ch := 8, view := 255, e := 8, mode := 1, expect := 0, missLimit := 255,
  action := 2 }

/-- A parked head. -/
def parked : Head := { state := 1, cfg := some cfg }

/-- Its driver is set and UP. -/
def drv : Driver := { head := 3, first := 0, ch := 48, lanes := 1, link := 4 }

/-- Yo-yo mode of port 31. -/
def yy : YoyoP := { unit := 31, enable := 1, period := 60000, window := 1000 }

/-- The cells of a NOP packet at an address. -/
def nopAt (a : Nat) : Sparse Byte := [(a + 1, 1), (a + 2, 4)]

/-- A NOP packet is in command ring 3, and the turn is after the mailbox's predecessor. -/
def ringed : State := { on with
  rings := [(3, { enable := true, base := 0x300000, pi := 1 }), (7, { enable := true, base := 0x301000 })], mem := { sram := nopAt 0x300000 },
  cp := { turn := 4 } }

/-- A NOP packet is pending in the mailbox. -/
def mailed : State := { on with mbx := { state := 1, buf := nopAt 0 } }

/-- An event waits, routed to ring 8. -/
def evt : State := { on with cp := { events := [{ code := 0xE001 }] } }

/-- A power domain other than on. -/
def dom (d st : Nat) : State := { on with power := { dom := [(d, st)] } }

/-- The time unit as given. -/
def timeUnit (t : TimeUnit) : State := { on with time := t }

/-- A ring as given. -/
def aring (r : Nat) (x : Ring) : State := { on with rings := [(r, x)] }

/-- A wind-down under way. -/
def wnd (w : WindDown) (f : Head) : State := { hd f with wind := some w }

/-- Head 3 with its panel power as given. -/
def pw (p : PanelPower) : State := hd { run with power := p }

/-- With one panel supply held on. -/
def pwPen (p : PanelPower) (pen : Nat) : State := hd { run with power := p, pins := { pen := pen } }

/-- A PTP domain 1 as given. -/
def dm (x : Domain) : State := { on with domains := [(1, x)] }

/-- A port that receives and sends. -/
def recv : State := { on with
  quads := [(7, { mode := 2 })], ports := [(31, { mac := 1, up := true, ip4 := 0x0A000001, untagged := true })],
  lanes := [(31, { blockLock := true })] }

/-- The state in which a received frame of n bytes is looked at. -/
def rx (s : State) (n : Nat) : State := (s.portCount 31 11 1).portCount 31 12 n

/-- An untagged frame to the port, padded, with its frame check sequence. -/
def ethFrame (et : Nat) (pl : List Byte) : List Byte :=
  let b := [0, 0, 0, 0, 0, 1, 0, 0, 0, 0, 0, 2] ++ [BitVec.ofNat 8 (et / 256), BitVec.ofNat 8 et] ++ pl ++ List.replicate (46 - pl.length) 0
  b ++ (List.range 4).map (fun i => BitVec.ofNat 8 (crc32 b / 256 ^ i))

/-- What the checks of a frame leave. -/
def macOf (s : State) (bs : List Byte) : MacFrame := ((rx s bs.length).macCheck 31 bs).elim (fun _ => {}) id

/-- An ARP request for the port's address. -/
def arpReq : List Byte := ethFrame 0x0806 ([0, 1, 8, 0, 6, 4, 0, 1] ++ List.replicate 16 0 ++ [10, 0, 0, 1])

/-- A UDP datagram to port 5000, with no data, from 10.0.0.2 to 10.0.0.1. -/
def dgram : List Byte :=
  ethFrame 0x0800 ([0x45, 0, 0, 28, 0, 0, 0, 0, 64, 17, 0x66, 0xCF, 10, 0, 0, 2, 10, 0, 0, 1] ++ [0x13, 0x88, 0x13, 0x88, 0, 8, 0, 0])

/-- Its IP packet. -/
def ipOf : IpPacket := { src := 0x0A000002, dst := 0x0A000001, proto := 17, body := [0x13, 0x88, 0x13, 0x88, 0, 8, 0, 0] }

/-- A leg without a VLAN tag. -/
def lu : Leg := { lg with vlan := 0 }

/-- A multicast leg. -/
def lm : Leg := { lg with dst := 0xE0000001, vlan := 0 }

/-- Ancillary flow 63 with a leg. -/
def heard (l : Leg) : State := { recv with flows := [(191, { cfg := some { flw with kind := 2, legA := l }, enabled := true })] }

/-- A port in yo-yo mode. -/
def yo (u : YoyoUnit) : State := { recv with power := { yoyo := [(31, u)] } }

/-- A transmit flow that runs, at a time in 2^-16 ns. -/
def sends (k t : Nat) (f : TxFlow) : State := { recv with txs := [(k, f)], outputs := [(63, { cfg := some outp })], time := { tp := t * 2 ^ 32 } }

/-- Video transmit flow 63 at a packet. -/
def vtx (n : Nat) : TxFlow := { cfg := some txp, enabled := true, started := true, packet := n }

/-- Audio transmit flow 63. -/
def atx : TxFlow := { cfg := some { txp with kind := 4 }, enabled := true, started := true }

/-- Packets of a frame. -/
def pkts : Nat := framePackets (frameFormat outp) (udpLimit txp)

/-- A running head 3 with the tile queue as given. -/
def tqs (q : TileQueue) : State := { hd { run with shots := [{ frame := 1 }] } with tq := q }

/-- A cluster's deque. -/
def dq (c : Nat) (l : List Item) : TileQueue := { clusters := [(c, { deque := l })] }

/-- What cluster 7 runs. -/
def rn (l : List Item) : TileQueue := { clusters := [(7, { running := l })] }

/-- A transmit item. -/
def ti (d : Nat) : Item := { key := { kind := .t, owner := 63 }, due := d }

/-- A panel item that runs, with marked errors in SRAM. -/
def panelRuns (e : Sparse Nat) : State := { hd { run with cfg := some cfg } with
  tq := rn [{ key := { kind := .p, owner := 3 } }], mem := { sramErr := e } }

/-- The panel item of head 3. -/
def kp : ItemKey := { kind := .p, owner := 3 }

/-- What the checks of its reads leave. -/
def checked (s : State) : Bool × State := ((s.freeEngine kp).muraRead 3 fr).checkP 3 fr 0 0

/-- The same for run 1 of a head of 17 tiles. -/
def panelRuns2 : State := { hd { run with cfg := some { cfg with w := 272 } } with tq := rn [{ key := { kp with run := 1 } }] }

/-- What the checks of its reads leave. -/
def checked2 (s : State) : Bool × State := ((s.freeEngine { kp with run := 1 }).muraRead 3 fr).checkP 3 fr 0 1

/-- An output that composes its frame 0 with some items left. -/
def composing (n : Nat) : State := { on with
  outputs := [(63, { cfg := some outp, itemsLeft := [(0, 0, n)] })], outShots := [(63, [{}])], tq := rn [ti 0] }

/-- Head 3 runs, with the scan as given. -/
def sc (x : Scan) : State := hd { run with scan := x }

/-- A balancing frame 1. -/
def bal : Latched := { fr with frame := 1, kind := 2 }

/-- A head whose check 15 has ended a frame, as given. -/
def ck (c : Check) : State := hd { run with checks := [(15, { c with cfg := some chk, accFrame := some 0, accDone := true })] }

/-- Driver 95 as given. -/
def dr (x : Driver) : State := { on with drivers := [(95, { x with polled := true })] }

/-- Rennex driver 95 as given. -/
def rd (x : Rennex) : State := { on with rennex := [(95, x)] }

/-- A good packet of a type in the role ACTIVE. -/
def dk (t : Nat) : DlPacket := { type := t, role := true, gen := 0, frame := 0, line := 0, body := [], good := true }

/-- The pair logic as given. -/
def pr (p : Pair) : State := { on with pair := p }

/-- Head 3 of a pair in a state, with its bookkeeping. -/
def sb (k : Nat) (y : PairSync) : State := { hd run with pair := { state := k, linkUp := true }, sync := y }

/-- A HELLO for a port. -/
def hello (port : Nat) : HelloP := { uid := 0, prefer := 0, pairState := 0, gen := 0, headState := 0, port := port, baton := false }

/-! ## Well-formedness -/

/-- A plain DomainSetP. -/
def zDomainSet : DomainSetP := { domain := 0, enable := 0, domainNumber := 0, primary := 0, backup := 0, unicast := 0, gmAddr := 0, holdover := 0 }

/-- A plain TpConfigP. -/
def zTpConfig : TpConfigP := { jump := 0, slew := 0, acquireAuto := 0, autoSelect := 0, revert := 0 }

/-- A plain PortSetP. -/
def zPortSet : PortSetP := { port := 0, mac := 0, ip4 := 0, ip4Len := 0, ip6 := [0, 0], untagged := 0, vidCount := 0, vids := List.replicate 8 0 }

/-- A plain HeadSrP. -/
def zHeadSr : HeadSrP := { head := 0, command := 0, mode := 0, idle := 0, period := 0, holdLimit := 0 }

/-- A plain HeadPictureP. -/
def zHeadPicture : HeadPictureP := { head := 0, background := 0, peak := 0, lutBuffer := 0 }

/-- A plain HeadGateP. -/
def zHeadGate : HeadGateP := { head := 0, phases := 0, polarity := 0, gckDelay := 0, gateGuard := 0, flush := 0, parkHold := 0 }

/-- A plain DriverSetP. -/
def zDriverSet : DriverSetP := { driver := 0, head := 0, first := 0, ch := 0, lanes := 0, rev := 0, vendor := List.replicate 32 0 }

/-- A plain SettingsP. -/
def zSettings : SettingsP := {
  head := 0, gammaBypass := 0, muraEnable := 0, odEnable := 0, depth := 0, resScale := 0, restLevel := 0, thermMin := 0, thermMax := 0,
  faultBand := 0, thresholds := List.replicate 7 0, settle := List.replicate 8 0 }

/-- A plain ViewSetP. -/
def zViewSet : ViewSetP := { head := 0, views := [] }

/-- A plain PtpMsg. -/
def zPtpMsg : PtpMsg := { kind := 0 }

/-- A plain MatrixP. -/
def zMatrix : MatrixP := { master := 0, addr := 0, write := false, len := 4, data := [] }

/-- A plain RowDataP. -/
def zRowData : RowDataP := { frame := 0, row := 0, times := [], flags := [], panel := [], crc := 0 }

theorem test_Rate_checks : ({} : Rate).ok = true ∧ ([
    { n := 4294967296 }, { d := 65536 }
  ] : List Rate).any Rate.ok = false := by decide +kernel

theorem test_Dest_checks : ({} : Dest).ok = true ∧ ([
    { kind := 256 }, { index := 256 }
  ] : List Dest).any Dest.ok = false := by decide +kernel

theorem test_DomainSetP_checks : zDomainSet.ok = true ∧ ([
    { zDomainSet with domain := 256 }, { zDomainSet with enable := 256 }, { zDomainSet with domainNumber := 256 },
    { zDomainSet with primary := 256 }, { zDomainSet with backup := 256 }, { zDomainSet with unicast := 256 },
    { zDomainSet with gmAddr := 2 ^ 128 }, { zDomainSet with holdover := 4294967296 }
  ] : List DomainSetP).any DomainSetP.ok = false := by decide +kernel

theorem test_TpConfigP_checks : zTpConfig.ok = true ∧ ([
    { zTpConfig with jump := 4294967296 }, { zTpConfig with slew := 256 }, { zTpConfig with acquireAuto := 256 },
    { zTpConfig with autoSelect := 256 }, { zTpConfig with revert := 256 }
  ] : List TpConfigP).any TpConfigP.ok = false := by decide +kernel

theorem test_EvtOutP_checks : ({} : EvtOutP).ok = true ∧ ([
    { pin := 256 }, { mode := 256 }, { polarity := 256 }, { start := { ns := 4294967296 } }, { period := { ns := 4294967296 } },
    { width := 4294967296 }, { count := 4294967296 }, { rate := { n := 4294967296 } }, { offset := 2147483648 }, { offset := -2147483648 - 1 },
    { head := 256 }
  ] : List EvtOutP).any EvtOutP.ok = false := by decide +kernel

theorem test_PortSetP_checks : zPortSet.ok = true ∧ ([
    { zPortSet with port := 256 }, { zPortSet with mac := 2 ^ 48 }, { zPortSet with ip4 := 4294967296 }, { zPortSet with ip4Len := 256 },
    { zPortSet with ip6 := List.replicate 1 0 }, { zPortSet with ip6 := (2 ^ 128) :: List.replicate 1 0 }, { zPortSet with untagged := 256 },
    { zPortSet with vidCount := 256 }, { zPortSet with vids := List.replicate 7 0 }, { zPortSet with vids := 65536 :: List.replicate 7 0 }
  ] : List PortSetP).any PortSetP.ok = false := by decide +kernel

theorem test_Leg_checks : ({} : Leg).ok = true ∧ ([
    { port := 256 }, { family := 256 }, { dst := 2 ^ 128 }, { udp := 65536 }, { named := 256 }, { src := 2 ^ 128 }, { vlan := 65536 },
    { dscp := 256 }, { ttl := 256 }, { pcp := 256 }
  ] : List Leg).any Leg.ok = false := by decide +kernel

theorem test_Format_checks : ({} : Format).ok = true ∧ ([
    { width := 65536 }, { height := 65536 }, { sampling := 256 }, { depth := 256 }, { scanning := 256 }, { colorimetry := 256 }, { tcs := 256 },
    { range := 256 }, { packing := 256 }, { sender := 256 }, { rate := { n := 4294967296 } }, { channels := 256 }, { packetTime := 256 },
    { ancRate := 2 ^ 64 }
  ] : List Format).any Format.ok = false := by decide +kernel

theorem test_FlowSetP_checks : flw.ok = true ∧ ([
    { flw with kind := 256 }, { flw with index := 256 }, { flw with enable := 256 }, { flw with legA := { port := 256 } },
    { flw with legBPresent := 256 }, { flw with legB := { port := 256 } }, { flw with payloadType := 256 }, { flw with ssrcAny := 256 },
    { flw with ssrc := 4294967296 }, { flw with format := { width := 65536 } }, { flw with slotCount := 65536 },
    { flw with descriptors := 2 ^ 64 }, { flw with bases := List.replicate 7 0 }, { flw with bases := (2 ^ 64) :: List.replicate 7 0 },
    { flw with ringLength := 4294967296 }, { flw with skew := 4294967296 }, { flw with bucket := 4294967296 }, { flw with activity := 4294967296 }
  ] : List FlowSetP).any FlowSetP.ok = false := by decide +kernel

theorem test_TxSetP_checks : txp.ok = true ∧ ([
    { txp with kind := 256 }, { txp with index := 256 }, { txp with enable := 256 }, { txp with legA := { port := 256 } },
    { txp with legBPresent := 256 }, { txp with legB := { port := 256 } }, { txp with extended := 256 }, { txp with tro := 4294967296 },
    { txp with audioSource := 256 }, { txp with audioIndex := 256 }
  ] : List TxSetP).any TxSetP.ok = false := by decide +kernel

theorem test_RouteSetP_checks : rt.ok = true ∧ ([
    { rt with dest := { kind := 256 } }, { rt with kind := 256 }, { rt with source := 256 }, { rt with transition := 256 },
    { rt with frames := 65536 }, { rt with switchWait := 256 }
  ] : List RouteSetP).any RouteSetP.ok = false := by decide +kernel

theorem test_Matrix1_checks : ({} : Matrix1).ok = true ∧ ([
    { coef := List.replicate 8 0 }, { coef := 32768 :: List.replicate 8 0 }, { offIn := List.replicate 2 0 },
    { offIn := 32768 :: List.replicate 2 0 }, { offOut := List.replicate 2 0 }, { offOut := 32768 :: List.replicate 2 0 }
  ] : List Matrix1).any Matrix1.ok = false := by decide +kernel

theorem test_Rect_checks : ({} : Rect).ok = true ∧ ([
    { x := 2 ^ 32 }, { x := -(2 ^ 32) - 1 }, { y := 2 ^ 32 }, { y := -(2 ^ 32) - 1 }, { w := 4294967296 }, { h := 4294967296 }
  ] : List Rect).any Rect.ok = false := by decide +kernel

theorem test_OutputSetP_checks : outp.ok = true ∧ ([
    { outp with output := 256 }, { outp with width := 65536 }, { outp with height := 65536 }, { outp with rate := { n := 4294967296 } },
    { outp with format := { width := 65536 } }, { outp with latency := 4294967296 }, { outp with slotCount := 256 },
    { outp with bases := List.replicate 7 0 }, { outp with bases := (2 ^ 64) :: List.replicate 7 0 }, { outp with fill := 4294967296 },
    { outp with blend := 256 }, { outp with lossAction := 256 }, { outp with hold := 4294967296 }, { outp with crop := { x := 2 ^ 32 } },
    { outp with bypass := 256 }, { outp with m1Mode := 256 }, { outp with m1 := { coef := List.replicate 8 0 } },
    { outp with m2 := List.replicate 8 0 }, { outp with m2 := 2147483648 :: List.replicate 8 0 },
    { outp with m3 := { coef := List.replicate 8 0 } }, { outp with lutBuffer := 2 ^ 64 }
  ] : List OutputSetP).any OutputSetP.ok = false := by decide +kernel

theorem test_LayerSetP_checks : lay.ok = true ∧ ([
    { lay with head := 256 }, { lay with layer := 256 }, { lay with enable := 256 }, { lay with z := 256 }, { lay with crop := { x := 2 ^ 32 } },
    { lay with dest := { x := 2 ^ 32 } }, { lay with g := 256 }, { lay with fill := 4294967296 }, { lay with views := 256 },
    { lay with blend := 256 }, { lay with lossAction := 256 }, { lay with hold := 4294967296 }, { lay with bypass := 256 },
    { lay with m1Mode := 256 }, { lay with m1 := { coef := List.replicate 8 0 } }, { lay with m2 := List.replicate 8 0 },
    { lay with m2 := 2147483648 :: List.replicate 8 0 }
  ] : List LayerSetP).any LayerSetP.ok = false := by decide +kernel

theorem test_PresentP_checks : pres.ok = true ∧ ([
    { pres with head := 256 }, { pres with layer := 256 }, { pres with base := 2 ^ 64 }, { pres with pitch := 4294967296 },
    { pres with width := 65536 }, { pres with height := 65536 }, { pres with format := 256 }, { pres with ordered := 256 }
  ] : List PresentP).any PresentP.ok = false := by decide +kernel

theorem test_AudioHeadP_checks : aud.ok = true ∧ ([
    { aud with head := 256 }, { aud with layer := 256 }, { aud with trim := 2147483648 }, { aud with trim := -2147483648 - 1 },
    { aud with tdmEnable := 256 }, { aud with tdmFormat := 256 }, { aud with map := List.replicate 7 0 },
    { aud with map := 256 :: List.replicate 7 0 }
  ] : List AudioHeadP).any AudioHeadP.ok = false := by decide +kernel

theorem test_HeadConfigP_checks : cfg.ok = true ∧ ([
    { cfg with head := 256 }, { cfg with w := 65536 }, { cfg with h := 65536 }, { cfg with rate := { n := 4294967296 } },
    { cfg with epochOffset := 2147483648 }, { cfg with epochOffset := -2147483648 - 1 }, { cfg with vtotal := 4294967296 },
    { cfg with scanMode := 256 }, { cfg with transitionCode := 65536 }, { cfg with lead := 4294967296 }, { cfg with latency := 4294967296 },
    { cfg with low := 256 }, { cfg with crit := 256 }, { cfg with linkRate := 256 }, { cfg with psBase := 2 ^ 64 },
    { cfg with composedBase := 2 ^ 64 }, { cfg with followed := 256 }, { cfg with lineF := 2 ^ 48 }, { cfg with followMin := { n := 4294967296 } }
  ] : List HeadConfigP).any HeadConfigP.ok = false := by decide +kernel

theorem test_HeadSrP_checks : zHeadSr.ok = true ∧ ([
    { zHeadSr with head := 256 }, { zHeadSr with command := 256 }, { zHeadSr with mode := 256 }, { zHeadSr with idle := 4294967296 },
    { zHeadSr with period := 4294967296 }, { zHeadSr with holdLimit := 65536 }
  ] : List HeadSrP).any HeadSrP.ok = false := by decide +kernel

theorem test_HeadPictureP_checks : zHeadPicture.ok = true ∧ ([
    { zHeadPicture with head := 256 }, { zHeadPicture with background := 4294967296 }, { zHeadPicture with peak := 65536 },
    { zHeadPicture with lutBuffer := 2 ^ 64 }
  ] : List HeadPictureP).any HeadPictureP.ok = false := by decide +kernel

theorem test_HeadGateP_checks : zHeadGate.ok = true ∧ ([
    { zHeadGate with head := 256 }, { zHeadGate with phases := 256 }, { zHeadGate with polarity := 16777216 },
    { zHeadGate with gckDelay := 65536 }, { zHeadGate with gateGuard := 65536 }, { zHeadGate with flush := 256 },
    { zHeadGate with parkHold := 65536 }
  ] : List HeadGateP).any HeadGateP.ok = false := by decide +kernel

theorem test_PowerSeqP_checks : powerSeqDefault.ok = true ∧ ([
    { powerSeqDefault with head := 256 }, { powerSeqDefault with penUsed := 256 }, { powerSeqDefault with vcomSettle := 65536 },
    { powerSeqDefault with penDelay := 65536 }, { powerSeqDefault with pgTimeout := 256 }, { powerSeqDefault with trainDelay := 65536 },
    { powerSeqDefault with wdHold := 65536 }, { powerSeqDefault with penGap := 65536 }
  ] : List PowerSeqP).any PowerSeqP.ok = false := by decide +kernel

theorem test_DriverSetP_checks : zDriverSet.ok = true ∧ ([
    { zDriverSet with driver := 256 }, { zDriverSet with head := 256 }, { zDriverSet with first := 4294967296 }, { zDriverSet with ch := 65536 },
    { zDriverSet with lanes := 256 }, { zDriverSet with rev := 256 }, { zDriverSet with vendor := [] }
  ] : List DriverSetP).any DriverSetP.ok = false := by decide +kernel

theorem test_SettingsP_checks : zSettings.ok = true ∧ ([
    { zSettings with head := 256 }, { zSettings with gammaBypass := 256 }, { zSettings with muraEnable := 256 },
    { zSettings with odEnable := 256 }, { zSettings with depth := 256 }, { zSettings with resScale := 256 },
    { zSettings with restLevel := 65536 }, { zSettings with thermMin := 65536 }, { zSettings with thermMax := 65536 },
    { zSettings with faultBand := 256 }, { zSettings with thresholds := List.replicate 6 0 },
    { zSettings with thresholds := 32768 :: List.replicate 6 0 }, { zSettings with settle := List.replicate 7 0 },
    { zSettings with settle := 65536 :: List.replicate 7 0 }
  ] : List SettingsP).any SettingsP.ok = false := by decide +kernel

theorem test_VcomP_checks : vcomDefault.ok = true ∧ ([
    { vcomDefault with head := 256 }, { vcomDefault with v0 := 65536 }, { vcomDefault with vmin := 65536 }, { vcomDefault with vmax := 65536 },
    { vcomDefault with senseEnable := 256 }, { vcomDefault with senseTarget := 65536 }, { vcomDefault with senseDelay := 65536 },
    { vcomDefault with senseN := 256 }, { vcomDefault with senseLimit := 65536 }, { vcomDefault with senseScale := 32768 },
    { vcomDefault with senseScale := -32768 - 1 }, { vcomDefault with trimGain := 32768 }, { vcomDefault with trimGain := -32768 - 1 },
    { vcomDefault with trimStep := 256 }
  ] : List VcomP).any VcomP.ok = false := by decide +kernel

theorem test_ViewP_checks : ({} : ViewP).ok = true ∧ ([
    { kind := 256 }, { y0 := 65536 }, { y1 := 65536 }, { s := 4294967296 }, { x := 4294967296 }, { k := 4294967296 }, { lh := 4294967296 }
  ] : List ViewP).any ViewP.ok = false := by decide +kernel

theorem test_ViewSetP_checks : zViewSet.ok = true ∧ ([
    { zViewSet with head := 256 }, { zViewSet with views := List.replicate 256 {} }, { zViewSet with views := [{ kind := 256 }] }
  ] : List ViewSetP).any ViewSetP.ok = false := by decide +kernel

theorem test_CheckSetP_checks : chk.ok = true ∧ ([
    { chk with head := 256 }, { chk with check := 256 }, { chk with enable := 256 }, { chk with tap := 256 }, { chk with x0 := 65536 },
    { chk with y0 := 65536 }, { chk with cw := 65536 }, { chk with ch := 65536 }, { chk with view := 256 }, { chk with e := 256 },
    { chk with mode := 256 }, { chk with expect := 4294967296 }, { chk with missLimit := 256 }, { chk with action := 256 }
  ] : List CheckSetP).any CheckSetP.ok = false := by decide +kernel

theorem test_YoyoP_checks : ({} : YoyoP).ok = true ∧ ([
    { unit := 256 }, { enable := 256 }, { period := 4294967296 }, { window := 4294967296 }, { compare := 256 }, { action := 256 },
    { watch := 2 ^ 192 }
  ] : List YoyoP).any YoyoP.ok = false := by decide +kernel

theorem test_PtpMsg_checks : zPtpMsg.ok = true ∧ ([
    { zPtpMsg with kind := 5 }, { zPtpMsg with t1 := 2 ^ 112 }, { zPtpMsg with t2 := 2 ^ 112 }, { zPtpMsg with t3 := 2 ^ 112 },
    { zPtpMsg with t4 := 2 ^ 112 }
  ] : List PtpMsg).any PtpMsg.ok = false := by decide +kernel

theorem test_MatrixP_checks : zMatrix.ok = true ∧ ([
    { zMatrix with master := 256 }, { zMatrix with addr := 4294967296 }, { zMatrix with len := 0 }, { zMatrix with len := 65 },
    { zMatrix with write := true, data := [] }
  ] : List MatrixP).any MatrixP.ok = false := by decide +kernel

theorem test_DlPacket_checks : (dk 1).ok = true ∧ ([
    { dk 1 with type := 256 }, { dk 1 with gen := 256 }, { dk 1 with frame := 4294967296 }, { dk 1 with line := 4294967296 }
  ] : List DlPacket).any DlPacket.ok = false := by decide +kernel

theorem test_EyeReport_checks : ({} : EyeReport).ok = true ∧ ([
    { eyeH := 256 }, { eyeV := 256 }, { codeErr := 65536 }
  ] : List EyeReport).any EyeReport.ok = false := by decide +kernel

theorem test_ReportP_checks : ({} : ReportP).ok = true ∧ ([
    { sel := 4 }, { gen := 256 }, { seq := 65536 }, { crcErr := 65536 }, { missed := 65536 }, { lane0A := { eyeH := 256 } },
    { lane1A := { eyeH := 256 } }, { lane0B := { eyeH := 256 } }, { lane1B := { eyeH := 256 } }
  ] : List ReportP).any ReportP.ok = false := by decide +kernel

theorem test_HelloP_checks : (hello 0).ok = true ∧ ([
    { hello 0 with uid := 2 ^ 64 }, { hello 0 with prefer := 2 }, { hello 0 with pairState := 8 }, { hello 0 with gen := 256 },
    { hello 0 with headState := 8 }, { hello 0 with port := 2 }
  ] : List HelloP).any HelloP.ok = false := by decide +kernel

theorem test_RowDataP_checks : zRowData.ok = true ∧ ([
    { zRowData with frame := 4294967296 }, { zRowData with row := 65536 }, { zRowData with crc := 4294967296 }
  ] : List RowDataP).any RowDataP.ok = false := by decide +kernel

theorem test_ItemKey_checks : ({} : ItemKey).ok = true ∧ ([
    { owner := 4 }, { kind := .p, owner := 4 }, { kind := .t, owner := 64 }, { frame := 4294967296 }, { row := 65536 }, { run := 256 }
  ] : List ItemKey).any ItemKey.ok = false := by decide +kernel

/-- Commands by their header. -/
def cmds1 : List (Hdr → Instr) := [
    .nop, .getInfo, (.eventCtl · 0 0 0 0), (.funcReset · 0), (.logRead · 0 0), (.domainSet · zDomainSet), (.domainStatus · 0),
    (.tpConfig · zTpConfig), (.tpSelect · 0), (.tpStep · 0 {}), (.evtOutSet · {}), (.evtInSet · 0 0 0 0), (.evtInRead · 0), (.launchCancel · 0 0),
    (.quadSet · 0 0 0), (.portSet · zPortSet), (.portCounters · 0 0), (.portStatus · 0), (.flowSet · flw), (.flowEnable · 0 0 0),
    (.flowCounters · 0 0 0), (.flowStatus · 0 0), (.txSet · txp), (.routeSet · rt), (.outputSet · outp), (.routeStatus · {}), (.layerSet · lay),
    (.layerCoef · {} 0 0 0), (.layerPresent · pres), (.leasePolicy · 0 0), (.leaseStatus · 0), (.audioAssoc · 0 0 (List.replicate 8 0)),
    (.audioHead · aud), (.audioTx · 0 0 0 (List.replicate 8 0)), (.audioStatus · 0), (.headConfig · cfg), (.headUnconfig · 0), (.headStart · 0),
    (.headStop · 0), (.headSr · zHeadSr), (.headPicture · zHeadPicture), (.headGate · zHeadGate), (.warmupEnd · 0), (.headStatus · 0),
    (.panelWindup · 0)]

/-- Commands by their header. -/
def cmds2 : List (Hdr → Instr) := [
    (.panelPowerdown · 0), (.powerSeqSet · powerSeqDefault), (.driverSet · zDriverSet), (.driverRetrain · 0), (.tableLoad · 0 0 0 0),
    (.settingsLoad · zSettings), (.activate · 0), (.muraSwap · 0 0), (.panelStatus · 0), (.vcomSet · vcomDefault), (.ledgerSet · 0 0 0 0),
    (.ledgerStats · 0), (.ledgerSnapshot · 0 0 0 0), (.ledgerTableRead · 0 0 0 0 0), (.ledgerClear · 0), (.viewSet · zViewSet),
    (.viewClear · 0 0), (.viewTest · zViewSet), (.checkSet · chk), (.checkRead · 0 0), (.pairSet · 0 0 0 0), .pairHandover, .pairRejoin,
    .pairStatus, (.nvsRead · 0 0 0), (.nvsWrite · 0 0 []), (.recordRead · 0), (.recordWrite · 0 []), (.counterRead · 0), (.pdSet · 0 0),
    (.opSet · 0), (.yoyoSet · {}), .powerStatus, (.tileRead · 0 0), (.engineCounters · 0), (.memInject · 0 0 0)]

/-- A good header is accepted with every command and one from no source refused. -/
theorem test_command_headers : ((cmds1 ++ cmds2).all fun f => wellFormed (f h0) && !wellFormed (f { src := 6 })) = true := by decide +kernel

theorem test_command_checks_1 : ([
    .eventCtl h0 65536 0 0 0, .eventCtl h0 0 256 0 0, .eventCtl h0 0 0 256 0, .eventCtl h0 0 0 0 256, .funcReset h0 65536, .logRead h0 65536 0,
    .logRead h0 0 65536, .domainSet h0 { zDomainSet with domain := 256 }, .domainStatus h0 256,
    .tpConfig h0 { zTpConfig with jump := 4294967296 }, .tpSelect h0 256, .tpStep h0 256 {}, .tpStep h0 0 { ns := 4294967296 },
    .evtOutSet h0 { pin := 256 }, .evtInSet h0 256 0 0 0, .evtInSet h0 0 256 0 0, .evtInSet h0 0 0 65536 0, .evtInSet h0 0 0 0 256,
    .evtInRead h0 256, .launchCancel h0 256 0, .launchCancel h0 0 4294967296, .quadSet h0 256 0 0, .quadSet h0 0 256 0, .quadSet h0 0 0 256,
    .portSet h0 { zPortSet with port := 256 }, .portCounters h0 256 0, .portCounters h0 0 256, .portStatus h0 256,
    .flowSet h0 { flw with kind := 256 }, .flowEnable h0 256 0 0, .flowEnable h0 0 256 0, .flowEnable h0 0 0 256, .flowCounters h0 256 0 0,
    .flowCounters h0 0 256 0, .flowCounters h0 0 0 256, .flowStatus h0 256 0, .flowStatus h0 0 256, .txSet h0 { txp with kind := 256 },
    .routeSet h0 { rt with dest := { kind := 256 } }, .outputSet h0 { outp with output := 256 }, .routeStatus h0 { kind := 256 },
    .layerSet h0 { lay with head := 256 }, .layerCoef h0 { kind := 256 } 0 0 0, .layerCoef h0 {} 256 0 0, .layerCoef h0 {} 0 256 0
  ] : List Instr).any wellFormed = false := by decide +kernel

theorem test_command_checks_2 : ([
    .layerCoef h0 {} 0 0 (2 ^ 64), .layerPresent h0 { pres with head := 256 }, .leasePolicy h0 256 0, .leasePolicy h0 0 256, .leaseStatus h0 256,
    .audioAssoc h0 256 0 (List.replicate 8 0), .audioAssoc h0 0 256 (List.replicate 8 0), .audioAssoc h0 0 0 (List.replicate 7 0),
    .audioAssoc h0 0 0 (256 :: List.replicate 7 0), .audioHead h0 { aud with head := 256 }, .audioTx h0 256 0 0 (List.replicate 8 0),
    .audioTx h0 0 256 0 (List.replicate 8 0), .audioTx h0 0 0 256 (List.replicate 8 0), .audioTx h0 0 0 0 (List.replicate 7 0),
    .audioTx h0 0 0 0 (256 :: List.replicate 7 0), .audioStatus h0 256, .headConfig h0 { cfg with head := 256 }, .headUnconfig h0 256,
    .headStart h0 256, .headStop h0 256, .headSr h0 { zHeadSr with head := 256 }, .headPicture h0 { zHeadPicture with head := 256 },
    .headGate h0 { zHeadGate with head := 256 }, .warmupEnd h0 256, .headStatus h0 256, .panelWindup h0 256, .panelPowerdown h0 256,
    .powerSeqSet h0 { powerSeqDefault with head := 256 }, .driverSet h0 { zDriverSet with driver := 256 }, .driverRetrain h0 256,
    .tableLoad h0 256 0 0 0, .tableLoad h0 0 256 0 0, .tableLoad h0 0 0 256 0, .tableLoad h0 0 0 0 (2 ^ 64),
    .settingsLoad h0 { zSettings with head := 256 }, .activate h0 256, .muraSwap h0 256 0, .muraSwap h0 0 (2 ^ 64), .panelStatus h0 256,
    .vcomSet h0 { vcomDefault with head := 256 }, .ledgerSet h0 256 0 0 0, .ledgerSet h0 0 256 0 0, .ledgerSet h0 0 0 65536 0,
    .ledgerSet h0 0 0 0 65536, .ledgerStats h0 256
  ] : List Instr).any wellFormed = false := by decide +kernel

theorem test_command_checks_3 : ([
    .ledgerSnapshot h0 256 0 0 0, .ledgerSnapshot h0 0 4294967296 0 0, .ledgerSnapshot h0 0 0 (2 ^ 64) 0, .ledgerSnapshot h0 0 0 0 (2 ^ 64),
    .ledgerTableRead h0 256 0 0 0 0, .ledgerTableRead h0 0 256 0 0 0, .ledgerTableRead h0 0 0 65536 0 0, .ledgerTableRead h0 0 0 0 65536 0,
    .ledgerTableRead h0 0 0 0 0 (2 ^ 64), .ledgerClear h0 256, .viewSet h0 { zViewSet with head := 256 }, .viewClear h0 256 0,
    .viewClear h0 0 256, .viewTest h0 { zViewSet with head := 256 }, .checkSet h0 { chk with head := 256 }, .checkRead h0 256 0,
    .checkRead h0 0 256, .pairSet h0 256 0 0 0, .pairSet h0 0 256 0 0, .pairSet h0 0 0 256 0, .pairSet h0 0 0 0 256, .nvsRead h0 65536 0 0,
    .nvsRead h0 0 256 0, .nvsRead h0 0 0 256, .nvsWrite h0 65536 0 [], .nvsWrite h0 0 256 [], .nvsWrite h0 0 0 (List.replicate 256 0),
    .recordRead h0 65536, .recordWrite h0 65536 [], .recordWrite h0 0 (List.replicate 1007 0), .counterRead h0 256, .pdSet h0 256 0,
    .pdSet h0 0 256, .opSet h0 256, .yoyoSet h0 { unit := 256 }, .tileRead h0 4294967296 0, .tileRead h0 0 256, .engineCounters h0 256,
    .memInject h0 256 0 0, .memInject h0 0 (2 ^ 64) 0, .memInject h0 0 0 256
  ] : List Instr).any wellFormed = false := by decide +kernel

theorem test_event_forms_1 : ([
    .commandAccept, .regWrite 0 [], .regRead 0 0, .mbxWrite 0 [], .mbxSubmit, .mbxRead 0 0, .evtRead, .status, .mailboxTimeout,
    .mgtAddressMatch 0, .doorbell 0 0, .ringCiWrite 0 0, .ringCfgWrite 0 0, .replyWrite 0, .eventPost, .msiXMessage 0, .stepValue 0,
    .stepDomain 0, .loadA 0, .loadB 0, .select 0, .rateHiWrite 0 0, .tpSnapSecLoRead false, .laneSlip 0 0, .bitslipEn 0 0, .loopback 0 0,
    .genEn 0 0, .cntClr 0 0, .prbsErrRead 0, .rcRead 0 false, .chkFrameRead 0 0, .sramLoRead 0, .blow 0, .start 0, .go 0, .sysPushDataWrite 0,
    .remap, .code 0, .funcResetDone 0, .pdCtl 0, .opCtl 0, .wakeMaskWrite 0 0, .fabSel 0, .sliceBypass 0 0, .sramCtlWrite 0
  ] : List Instr).all wellFormed = true := by decide +kernel

theorem test_event_forms_2 : ([
    .headWm 0 0, .headGatePol 0 0, .registerWrite 0 0 0, .bar2Write 0 [], .bar2Read 0 0, .bar4Write 0 [], .bar4Read 0 0, .bitSetAliasWrite 0 0 0,
    .bitClearAliasWrite 0 0 0, .nvsWindowWrite 0 0 [], .matrixTransaction zMatrix, .matrixTimeout zMatrix, .scrub 0, .aonResetRelease 0,
    .recordScan, .perstAssert, .perstRelease 0, .pcieHotReset, .rootPllLock, .boot false [] [], .ready false, .refclkLoss, .nrefclkLoss 0,
    .pfailN, .pfailNDeassert, .glitch .pfail, .windDown, .wdHoldEnd 0, .penGapEnd 0, .windDownCommits, .windDownDone, .pgood 0 0,
    .panelPgLost 0 0, .windupFail 0, .claimTest 0 false, .vcomSettle 0, .penDelay 0, .trainDelay 0, .windupDone 0 0, .panelPowerdownDrop 0,
    .timeTick, .autoSelect, .ptpMessage 0 zPtpMsg, .syncLoss 0, .holdoverLimit 0
  ] : List Instr).all wellFormed = true := by decide +kernel

theorem test_event_forms_3 : ([
    .evtCapture 0 false 0, .evtOutPulse 0, .launchEntryDue 0, .frameReceive 0 [] false, .controlFrameHandle 0, .membershipReport 0 0 0,
    .frameClose 0, .portUp 0, .portDown 0, .legLost 0 0 0, .yoyoWindow 0 false, .yoyoCompare 0, .yoyoMembershipReport 0, .txPacketLaunch 0,
    .audioTxLaunch 0, .compositionStart {}, .lossHoldEnd {}, .itemRelease {}, .pItemLatestStart {}, .engineFree 0, .steal 0, .cItemComplete {},
    .tItemComplete {}, .pItemComplete {}, .rowSkipped 0 0 0, .latchPoint 0, .muraReleased 0, .activateCopy 0, .thermSample 0 0, .lineStart 0,
    .trimInstant 0 [], .headStall 0, .srEnter 0, .srExit 0, .followRepeat 0, .warmupDone 0, .balancingFrame 0, .park 0, .headParked 0,
    .checkResult 0 0, .leaseReleased 0, .trainTimeout 0, .configPacket 0, .poll 0, .report 0 {} false
  ] : List Instr).all wellFormed = true := by decide +kernel

theorem test_event_forms_4 : ([
    .bcTimeout 0, .driverPacket 0 0 (dk 1), .ld 0 0, .discharge 0 0 (dk 1), .portAbsent 0 0, .driverConfig 0 0 (dk 1), .eyeSample 0 0 0, .ebOvf,
    .refreshStep [] false, .pdChanged, .wake 0 0 false, .vidSettle, .vgoodTimeout, .vgoodLost, .nvsCommitEnd, .counterIncrement 0, .pairLinkUp,
    .pairLinkDown, .heartbeat, .phase 0 0 0, .retransmit 0, .hello (hello 0), .ack 0, .nak 0, .echo false 0 0, .time 0 0, .cmd 0 0 [],
    .latch 0 0 0 0 0, .latchWaitEnd, .selectMsg 0 (List.replicate 16 (0, 0)), .selectWaitEnd, .row 0 0 0 0, .rowWaitEnd 0, .rowReq 0,
    .rowData zRowData, .release 0 0 0 0, .windDownMsg 0, .handover false, .handoverOverlapEnd false, .takeover, .blockLock 0, .chkSync 0 false,
    .linkFault 0 0, .echoTimeout, .delayReq 0
  ] : List Instr).all wellFormed = true := by decide +kernel

theorem test_event_forms_5 : ([
    .pdWriteDrop 0, .commandTimeout 0, .ts2 0, .aonReset, .supplyLoss, .refclkReturn 0, .pcieLinkUp
  ] : List Instr).all wellFormed = true := by decide +kernel

theorem test_event_checks_1 : ([
    .regWrite 16777216 [], .regRead 16777216 0, .regRead 0 262145, .mbxWrite 65536 [], .mbxWrite 0 (List.replicate 1025 0), .mbxRead 65536 0,
    .mbxRead 0 1025, .mgtAddressMatch 128, .doorbell 4 0, .doorbell 0 4294967296, .ringCiWrite 9 0, .ringCiWrite 0 4294967296, .ringCfgWrite 9 0,
    .ringCfgWrite 0 4294967296, .replyWrite 5, .msiXMessage 64, .stepValue 4294967296, .stepDomain 4294967296, .loadA 4294967296,
    .loadB 4294967296, .select 4294967296, .rateHiWrite 2 0, .rateHiWrite 0 4294967296, .laneSlip 228 0, .laneSlip 0 4294967296, .bitslipEn 228 0,
    .bitslipEn 0 4294967296, .loopback 228 0, .loopback 0 4294967296, .genEn 228 0, .genEn 0 4294967296, .cntClr 228 0, .cntClr 0 4294967296,
    .prbsErrRead 228, .rcRead 4294967296 false, .chkFrameRead 4 0, .chkFrameRead 0 16, .sramLoRead 4294967296, .blow 4294967296,
    .start 4294967296, .go 4294967296, .sysPushDataWrite 4294967296, .code 4294967296, .funcResetDone 65536, .pdCtl 4294967296
  ] : List Instr).any wellFormed = false := by decide +kernel

theorem test_event_checks_2 : ([
    .opCtl 4294967296, .wakeMaskWrite 11 0, .wakeMaskWrite 0 4294967296, .fabSel 4294967296, .sliceBypass 64 0, .sliceBypass 0 4294967296,
    .sramCtlWrite 4294967296, .headWm 4 0, .headWm 0 4294967296, .headGatePol 4 0, .headGatePol 0 4294967296, .registerWrite 4294967296 0 0,
    .registerWrite 0 4294967296 0, .registerWrite 0 0 16, .bar2Write (2 ^ 64) [], .bar2Write 0 (List.replicate 4097 0), .bar2Read (2 ^ 64) 0,
    .bar2Read 0 4097, .bar4Write 4294967296 [], .bar4Write 0 (List.replicate 4097 0), .bar4Read 4294967296 0, .bar4Read 0 4097,
    .bitSetAliasWrite 4294967296 0 0, .bitSetAliasWrite 0 4294967296 0, .bitSetAliasWrite 0 0 16, .bitClearAliasWrite 4294967296 0 0,
    .bitClearAliasWrite 0 4294967296 0, .bitClearAliasWrite 0 0 16, .nvsWindowWrite 256 0 [], .nvsWindowWrite 0 4294967296 [],
    .nvsWindowWrite 0 0 (List.replicate 65 0), .matrixTransaction { zMatrix with master := 256 }, .matrixTimeout { zMatrix with master := 256 },
    .scrub 514, .aonResetRelease 8, .perstRelease 2, .nrefclkLoss 2, .glitch (.evtIn 8), .wdHoldEnd 4, .penGapEnd 4, .pgood 4 0, .pgood 0 4,
    .panelPgLost 4 0, .panelPgLost 0 4, .windupFail 4
  ] : List Instr).any wellFormed = false := by decide +kernel

theorem test_event_checks_3 : ([
    .claimTest 4 false, .vcomSettle 4, .penDelay 4, .trainDelay 4, .windupDone 4 0, .windupDone 0 65536, .panelPowerdownDrop 4,
    .ptpMessage 2 zPtpMsg, .ptpMessage 0 { zPtpMsg with kind := 5 }, .syncLoss 2, .holdoverLimit 2, .evtCapture 8 false 0,
    .evtCapture 0 false 4294967296, .evtOutPulse 8, .launchEntryDue 5, .frameReceive 32 [] false, .frameReceive 0 (List.replicate 16385 0) false,
    .controlFrameHandle 32, .membershipReport 5 0 0, .membershipReport 0 64 0, .membershipReport 0 0 2, .frameClose 64, .portUp 32, .portDown 32,
    .legLost 5 0 0, .legLost 0 64 0, .legLost 0 0 2, .yoyoWindow 65 false, .yoyoCompare 65, .yoyoMembershipReport 32, .txPacketLaunch 64,
    .audioTxLaunch 64, .compositionStart { kind := 256 }, .lossHoldEnd { kind := 256 }, .itemRelease { owner := 4 },
    .pItemLatestStart { owner := 4 }, .engineFree 8, .steal 8, .cItemComplete { owner := 4 }, .tItemComplete { owner := 4 },
    .pItemComplete { owner := 4 }, .rowSkipped 4 0 0, .rowSkipped 0 4294967296 0, .rowSkipped 0 0 65536, .latchPoint 4
  ] : List Instr).any wellFormed = false := by decide +kernel

theorem test_event_checks_4 : ([
    .muraReleased 4, .activateCopy 4, .thermSample 4 0, .thermSample 0 65536, .lineStart 4, .trimInstant 4 [], .trimInstant 0 [65536],
    .headStall 4, .srEnter 4, .srExit 4, .followRepeat 4, .warmupDone 4, .balancingFrame 4, .park 4, .headParked 4, .checkResult 4 0,
    .checkResult 0 16, .leaseReleased 4294967296, .trainTimeout 96, .configPacket 96, .poll 12, .report 96 {} false, .report 0 { sel := 4 } false,
    .bcTimeout 96, .driverPacket 96 0 (dk 1), .driverPacket 0 2 (dk 1), .driverPacket 0 0 { dk 1 with type := 256 }, .ld 96 0, .ld 0 2,
    .discharge 96 0 (dk 1), .discharge 0 2 (dk 1), .discharge 0 0 { dk 1 with type := 256 }, .portAbsent 96 0, .portAbsent 0 2,
    .driverConfig 96 0 (dk 1), .driverConfig 0 2 (dk 1), .driverConfig 0 0 { dk 1 with type := 256 }, .eyeSample 228 0 0, .eyeSample 0 256 0,
    .eyeSample 0 0 256, .refreshStep [32768] false, .refreshStep [-32769] false, .wake 11 0 false, .wake 0 5 false, .counterIncrement 16
  ] : List Instr).any wellFormed = false := by decide +kernel

theorem test_event_checks_5 : ([
    .phase 4294967296 0 0, .phase 0 4294967296 0, .phase 0 0 4294967296, .retransmit 4294967296, .hello { hello 0 with uid := 2 ^ 64 },
    .ack 4294967296, .nak 4294967296, .echo false (2 ^ 64) 0, .echo false 0 (2 ^ 64), .time (2 ^ 112) 0, .time 0 (2 ^ 112), .cmd (2 ^ 96) 0 [],
    .cmd 0 4294967296 [], .cmd 0 0 (List.replicate 1025 0), .latch 4294967296 0 0 0 0, .latch 0 8 0 0 0, .latch 0 0 32768 0 0,
    .latch 0 0 (-32768 - 1) 0 0, .latch 0 0 0 65536 0, .latch 0 0 0 0 32768, .latch 0 0 0 0 (-32768 - 1),
    .selectMsg 4294967296 (List.replicate 16 (0, 0)), .selectMsg 0 [], .selectMsg 0 (List.replicate 15 (0, 0) ++ [(2 ^ 96, 0)]),
    .selectMsg 0 (List.replicate 15 (0, 0) ++ [(0, 2 ^ 96)]), .row 4294967296 0 0 0, .row 0 65536 0 0, .row 0 0 2 0, .row 0 0 0 4294967296,
    .rowWaitEnd 65536, .rowReq 65536, .rowData { zRowData with frame := 4294967296 }, .release 4294967296 0 0 0, .release 0 4294967296 0 0,
    .release 0 0 256 0, .release 0 0 0 65536, .windDownMsg 256, .blockLock 228, .chkSync 228 false, .linkFault 32 0, .linkFault 0 3, .delayReq 2,
    .pdWriteDrop 4294967296, .commandTimeout 5, .ts2 96
  ] : List Instr).any wellFormed = false := by decide +kernel

theorem test_event_checks_6 : ([
    .refclkReturn 3
  ] : List Instr).any wellFormed = false := by decide +kernel

theorem test_header_checks : ([
    { tag := 4294967296 }, { gen := 65536 }, { launch := { sec := 2 ^ 48 } }] : List Hdr).any Hdr.ok = false := by decide +kernel
theorem test_input_checks : ([.pgood 4 0, .pgood 0 4, .evtIn 8] : List DebInput).any DebInput.ok = false := by decide +kernel

/-! ## The worked examples of the spec -/

/-- The state after a command. -/
def after (c : Instr) (s : State) : State := match exec c s with | .next t => t | _ => s

/-- R357 states this value. -/
theorem test_crc16 : crc16 [0x31, 0x32, 0x33, 0x34, 0x35, 0x36, 0x37, 0x38, 0x39] = 0x29B1 := by decide +kernel

/-- The example after R79: the frame in progress at 1,700,000,000 s, and the next epoch, 14,983,333 ns with fraction 0x5555. -/
theorem test_frame_in_progress : frameAt { n := 60000, d := 1001 } (1700000000 * 1000000000 * 65536) = 101898101898 := by decide +kernel
theorem test_next_epoch : epoch { n := 60000, d := 1001 } 101898101899 = (1700000000 * 1000000000 + 14983333) * 65536 + 0x5555 := by decide +kernel

/-- The example after R139: 14 packets for each of 4,320 rows. -/
theorem test_packets_of_a_frame : framePackets { width := 7680, height := 4320, depth := 10, rate := { n := 120, d := 1 } } 1460 = 60480 := by
  decide +kernel

/-- The example after R184: a latency of 58 ms, and the sample at which the crossfade starts. -/
theorem test_audio_delay : delaySamples (58000000 * 65536) = 2784 := by decide +kernel
theorem test_crossfade_start : fadeSample 5879671466667 = 4307 := by decide +kernel

/-- The example after R184: halfway through a dissolve over three frames from 0 to 1,023, with the weights 85 and 171. -/
theorem test_dissolve_weights :
    ([0, 1].map fun i => mixSides (some { kind := 1, n := 3, i := i }) (some ([0, 0, 0], 256)) (some ([256, 256, 256], 256))) =
    [some ([85, 85, 85], 256), some ([171, 171, 171], 256)] := by decide +kernel

/-- The example after R221: a P-item costs 8,320 cycles. -/
theorem test_panel_item_cost : ({ cfg := some { cfg with w := 7680, h := 4320 } } : Head).costP 250 0 = 8320 := by decide +kernel

/-- The example after R267: the mura bytes, tables and settings of its pixel (1,029, 514), G. -/
def muraEx (a : Nat) : Nat :=
  spGet [(8, 244), (9, 4), (14, 250), (15, 2), (26, 248), (27, 3), (32, 252), (33, 2), (80, 240), (81, 6), (86, 250), (87, 2), (98, 248), (99, 2),
    (104, 254), (105, 1), (200, 14)] 0 (a - 10343424)
def frameEx : Latched :=
  { band := 4, phase := 2, set := {
    tables := {
      od := [(13, List.replicate 240 0 ++ [5900, 6500] ++ List.replicate 31 0 ++ [5500, 6080])]
      dither := List.replicate 165 0 ++ [201]
      knees := [0, 0, 0, 1024, 4096, 12288] }
    settings := { muraEnable := true, odEnable := true } } }
theorem test_mura : frameEx.mura_ muraEx 480 540 1029 514 1 5065 = 5027 := by decide +kernel
theorem test_overdrive : frameEx.overdrive 1 5027 120 = 6177 := by decide +kernel
theorem test_dither : frameEx.dither_ 1 1029 514 6177 = 386 := by decide +kernel

/-- The example after R303: the closed holds of writes 1, 2 and 5, and the patterns of writes 0, 1 and 3. -/
theorem test_holds : [closeHold false 0 400 0 0 1 64 0, closeHold false 50 100 1 0 1 96 0, closeHold false 0 400 1 0 1 64 (-256 * 64)] =
    [(50, false), (31, false), (-51, false)] := by decide +kernel
theorem test_patterns :
    [choosePattern 3 1 [(0, 1, 0, 801)], choosePattern 3 0 [(0, 1, 50, 200)], choosePattern 3 1 [(0, 1, -19, 200)]] = [0, 1, 0] := by
  decide +kernel

/-- The example after R346: B and L of its two views, B times 50. -/
def viewsEx : List ViewP := [{ y1 := 4319, s := 4000000, x := 2000000, k := 1727600 }, { y0 := 1080, y1 := 3239, s := 14000000, x := 2000000 }]
theorem test_views_placed : placeViews { n := 50, d := 1 } (nsU 250) (nsU 3000000) viewsEx =
    [(nsU 400, 50 * 65536 * 1000000), (nsU 250, 50 * 65536 * 10190250)] := by decide +kernel

/-- The example after R392: M is 175, LD comes 231.25 ns less four symbols after a line's start, and 250 ns is the least line time. -/
def linkEx : State := { on with drivers := [(0, { head := 3, ch := 240, lanes := 2, link := 4 })] }
theorem test_line_symbols : linkEx.lineSymbols 3 = 175 := by decide +kernel
theorem test_load_delay : linkEx.loadDelay 3 0 = 15155200 := by decide +kernel
theorem test_least_line_time : linkEx.lMin 3 0 = nsU 250 := by decide +kernel

/-- The example after R402: an opening of 22 by 47. -/
theorem test_figure_of_merit : fomOf 22 47 = 65 := by decide

/-- The example after R504: the slot of index 126 of 64 slots, its VIEW_SET and its timed ROUTE_SET. -/
theorem test_slot : ({ base := 0x300000, log2 := 6 } : Ring).slotAt 126 = 0x300000 + 64 * 62 := by decide
theorem test_view_set_packet : readPacket 1 ([0x01, 0x0A, 0x11, 0x00, 0x01, 0x01, 0, 0, 0, 0, 0, 0, 0, 0, 0, 0, 0, 2, 0, 0,
    0, 0, 0, 0, 0xDF, 0x10, 0, 0, 0x00, 0x09, 0x3D, 0x00, 0x80, 0x84, 0x1E, 0x00, 0x70, 0x5C, 0x1A, 0x00, 0, 0, 0, 0,
    0, 0, 0x38, 0x04, 0xA7, 0x0C, 0, 0, 0x80, 0x9F, 0xD5, 0x00, 0x80, 0x84, 0x1E, 0x00, 0, 0, 0, 0, 0, 0, 0, 0]) =
    .inr (.viewSet { src := 1, tag := 0x101 } { head := 0, views := viewsEx }) := by decide +kernel
theorem test_route_set_packet :
    readPacket 1 ([0x01, 0x05, 9, 0, 0, 0, 0, 0, 1, 0, 0, 0, 0, 0, 0, 0] ++ List.replicate 12 0 ++ [0, 0, 1, 7, 0, 1, 0, 8]) =
    .inr (.routeSet { src := 1, timed := true } { dest := {}, kind := 1, source := 7, transition := 0, frames := 1, switchWait := 8 }) := by
  decide +kernel

/-- The example after R537: 3 becomes 0x23 by the bit-set alias. -/
theorem test_bit_set_alias :
    leNat (readBytes (after (.bitSetAliasWrite 0x300010 0x20 15) { on with mem := { sram := [(0x300010, 3)] } }).mem.sram 0x300010 4) = 0x23 := by
  decide +kernel

/-- The example after R564: counter 3 reads 200, then 201, whose entry is FC 03 00 00. -/
def counterEx : State :=
  { on with nvs := { on.nvs with cells := (List.range 64).flatMap fun i =>
      [(254720 + 4 * i, if i < 9 then 0xFC else 0xFD), (254721 + 4 * i, if i < 9 then 3 else 2), (254722 + 4 * i, 0), (254723 + 4 * i, 0)] } }
theorem test_counter_value : counterValue counterEx.nvs 3 = 200 := by decide +kernel
theorem test_counter_entry : counterEntry 201 = [0xFC, 3, 0, 0] := by decide +kernel

/-- The example after R644: SYS_ID, SYS_CTL and SYS_STATUS over the management port. -/
theorem test_management_read : (after (.regRead 0 3) { on with sys := { on.sys with remap := true } }).answer.bytes =
    [0x00, 0xB1, 0x60, 0x91, 1, 0, 0, 0, 1, 0, 0, 0] := by decide +kernel

/-! ## Steps -/

/-- NOP replies OK to its ring, with its tag (R485, R486). -/
theorem test_nop_replies :
    (after (.nop { src := 2, tag := 7 }) on).cp.replies.map (fun r => (r.src, r.opcode, r.tag, r.status)) = [(2, 0x0100, 7, stOk)] := by
  decide +kernel

/-- The front command is taken and the rest waits. -/
theorem test_front_first : (match step { on with pending := [.status, .remap] } with | .next t => t.pending | _ => []) = [.remap] := by decide +kernel

/-! ## Witnesses -/

/-- The hypotheses of StepIdlesOnAnEmptyQueue are met. -/
theorem witness_StepIdlesOnAnEmptyQueue :
    ∃ (s : State), s.pending = [] :=
  ⟨State.reset, by decide⟩

/-- The hypotheses of EveryStepKeepsSoundness are met. -/
theorem witness_EveryStepKeepsSoundness :
    ∃ (s : State) (t : State), Sound s ∧ step s = .next t :=
  ⟨State.reset, State.reset, by unfold Sound; decide, rfl⟩

/-- The hypotheses of EveryCommandStaysInItsFrame are met. -/
theorem witness_EveryCommandStaysInItsFrame :
    ∃ (c : Instr) (s : State) (t : State), exec c s = .next t :=
  ⟨.nop h0, on, _, rfl⟩

/-- The hypotheses of every clause of LastingBytesHaveFewWriters are met. -/
theorem witness_LastingBytesHaveFewWriters :
    (∃ (c : Instr) (s : State) (t : State), exec c s = .next t ∧ c ≠ .nvsCommitEnd ∧ c ≠ .aonReset ∧ c ≠ .supplyLoss) ∧
    (∃ (c : Instr) (s : State) (t : State), exec c s = .next t ∧ (∀ p, c ≠ .matrixTransaction p) ∧ c ≠ .aonReset) ∧
    (∃ (c : Instr) (s : State) (t : State), exec c s = .next t ∧ (∀ d p k, c ≠ .driverPacket d p k) ∧ (∀ d p, c ≠ .ld d p) ∧ (∀ d p k, c ≠
      .discharge d p k) ∧ (∀ d p, c ≠ .portAbsent d p) ∧ (∀ d p k, c ≠ .driverConfig d p k) ∧ (∀ d, c ≠ .ts2 d)) :=
  ⟨⟨.nop h0, on, _, rfl, by decide, by decide, by decide⟩,
   ⟨.nop h0, on, _, rfl, by simp, by decide⟩,
   ⟨.nop h0, on, _, rfl, by simp, by simp, by simp, by simp, by simp, by simp⟩⟩

/-- The hypotheses of PacketsSpellWellFormedCommands are met. -/
theorem witness_PacketsSpellWellFormedCommands :
    ∃ (src : Nat) (bs : List Byte) (c : Instr), src < 6 ∧ readPacket src bs = .inr c :=
  ⟨5, nopPacket, _, by decide, rfl⟩

/-- The hypotheses of every clause of RepliesAreQueuedAsCommanded are met. -/
theorem witness_RepliesAreQueuedAsCommanded :
    (∃ (h : Hdr) (st : Nat), h.src = fromPair ∧ (st = stOk ∨ st = stAccepted ∨ st = stIgnored)) ∧
    (∃ (h : Hdr) (st : Nat), h.src = fromPair ∧ st ≠ stOk ∧ st ≠ stAccepted ∧ st ≠ stIgnored) ∧
    (∃ (h : Hdr) (st : Nat), h.src ≠ fromPair ∧ h.silent = true ∧ (st = stOk ∨ st = stAccepted)) ∧
    (∃ (h : Hdr) (st : Nat), h.src ≠ fromPair ∧ (h.silent = false ∨ (st ≠ stOk ∧ st ≠ stAccepted))) :=
  ⟨⟨{ src := 5 }, stIgnored, by decide⟩,
   ⟨{ src := 5 }, stBusy, by decide⟩,
   ⟨{ silent := true }, stAccepted, by decide⟩,
   ⟨h0, stOk, by decide⟩⟩

/-- The hypotheses of TestsRunInOrder are met. -/
theorem witness_TestsRunInOrder :
    ∃ (h : Hdr) (t : Bool) (c : Checks) (s : State), c.bad = false ∧ (h.timed = true → t = true) ∧ launchBad h s = false :=
  ⟨hT, true, {}, on, by decide⟩

/-- The hypotheses of every clause of SystemReadsAnswer are met. -/
theorem witness_SystemReadsAnswer :
    (∃ (h : Hdr) (s : State), Plain h 0x0100 s) ∧
    (∃ (h : Hdr) (s : State), Plain h 0x0101 s) ∧
    (∃ (h : Hdr) (s : State) (first : _) (count : _), Plain h 0x0104 s ∧ first ≤ 255 ∧ 1 ≤ count ∧ count ≤ 14) ∧
    (∃ (h : Hdr) (s : State) (d : _) (gm : _), Plain h 0x0202 s ∧ d ≤ 1 ∧ (s.domain d).gm = gm) :=
  ⟨⟨h0, on, by unfold Plain; decide⟩,
   ⟨h0, on, by unfold Plain; decide⟩,
   ⟨h0, on, 255, 14, by unfold Plain; decide⟩,
   ⟨h0, on, 1, none, by unfold Plain; decide⟩⟩

/-- The hypotheses of every clause of MediaReadsAnswer are met. -/
theorem witness_MediaReadsAnswer :
    (∃ (h : Hdr) (s : State) (port : _), Plain h 0x0304 s ∧ port ≤ 31) ∧
    (∃ (h : Hdr) (s : State) (kind : _) (index : _), Plain h 0x0404 s ∧ kind ≤ 2 ∧ index ≤ 63) ∧
    (∃ (h : Hdr) (s : State) (dest : _), Plain h 0x0503 s ∧ destOk dest = true) ∧
    (∃ (h : Hdr) (s : State) (head : _), Plain h 0x0605 s ∧ head ≤ 3) ∧
    (∃ (h : Hdr) (s : State) (head : _), Plain h 0x0C04 s ∧ head ≤ 3) ∧
    (∃ (h : Hdr) (s : State) (flow : _), Plain h 0x0C04 s ∧ flow ≤ 63) :=
  ⟨⟨h0, on, 31, by unfold Plain; decide⟩,
   ⟨h0, on, 2, 63, by unfold Plain; decide⟩,
   ⟨h0, on, { kind := 1, index := 63 }, by unfold Plain; decide⟩,
   ⟨h0, on, 3, by unfold Plain; decide⟩,
   ⟨h0, on, 3, by unfold Plain; decide⟩,
   ⟨h0, on, 63, by unfold Plain; decide⟩⟩

/-- The hypotheses of every clause of HeadReadsAnswer are met. -/
theorem witness_HeadReadsAnswer :
    (∃ (h : Hdr) (s : State) (head : Nat), head ≤ 3 ∧ Plain h 0x0709 s) ∧
    (∃ (h : Hdr) (s : State) (head : Nat), head ≤ 3 ∧ Plain h 0x080A s) ∧
    (∃ (h : Hdr) (s : State) (head : Nat), head ≤ 3 ∧ Plain h 0x0903 s) ∧
    (∃ (h : Hdr) (s : State) (head : Nat) (check : _), head ≤ 3 ∧ Plain h 0x0B02 s ∧ check ≤ 15) ∧
    (∃ (h : Hdr) (s : State) (head : Nat) (c : _) (views : _), head ≤ 3 ∧ Plain h 0x0A03 s ∧ (s.head head).cfg = some c ∧ c.scanMode ≠ 1 ∧ viewsOk
      (some c) views = true ∧ (s.asIf head (some { c with scanMode := 2 }) views).viewFail head (s.head head).panel.active.settings.settle = none
      ∧ (s.asIf head (some { c with scanMode := 2 }) views).loadOk = true ∧ (s.asIf head (some { c with scanMode := 2 }) views).audioFits head =
      true) :=
  ⟨⟨h0, on, 3, by unfold Plain; decide⟩,
   ⟨h0, on, 3, by unfold Plain; decide⟩,
   ⟨h0, on, 3, by unfold Plain; decide⟩,
   ⟨h0, on, 3, 15, by unfold Plain; decide⟩,
   ⟨h0, hd run, 3, cfg, [vw], by unfold Plain; decide⟩⟩

/-- The hypotheses of every clause of ServiceReadsAnswer are met. -/
theorem witness_ServiceReadsAnswer :
    (∃ (h : Hdr) (s : State), Plain h 0x0D04 s) ∧
    (∃ (h : Hdr) (s : State) (page : _) (offset : _) (count : _), Plain h 0x0E01 s ∧ nvsServed h s = true ∧ page ≤ 4095 ∧ offset ≤ 63 ∧ 1 ≤ count
      ∧ count ≤ 64) ∧
    (∃ (h : Hdr) (s : State) (id : _), Plain h 0x0E03 s ∧ recordSize id ≠ 0 ∧ s.nvs.scanning = false) ∧
    (∃ (h : Hdr) (s : State) (c : _), Plain h 0x0E05 s ∧ c ≤ 31 ∧ s.nvs.scanning = false) ∧
    (∃ (h : Hdr) (s : State), Plain h 0x0F04 s) ∧
    (∃ (h : Hdr) (s : State) (index : _) (count : _), Plain h 0x1001 s ∧ 1 ≤ count ∧ count ≤ 14 ∧ index + count ≤ 2 ^ 20) ∧
    (∃ (h : Hdr) (s : State) (cluster : _), Plain h 0x1002 s ∧ cluster ≤ 7) :=
  ⟨⟨h0, on, by unfold Plain; decide⟩,
   ⟨h0, on, 4095, 63, 64, by unfold Plain; decide⟩,
   ⟨h0, on, 256, by unfold Plain; decide⟩,
   ⟨h0, on, 31, by unfold Plain; decide⟩,
   ⟨h0, on, by unfold Plain; decide⟩,
   ⟨h0, on, 1048562, 14, by unfold Plain; decide⟩,
   ⟨h0, on, 7, by unfold Plain; decide⟩⟩

/-- The hypotheses of every clause of SystemSettingsTakeEffectAtOnce are met. -/
theorem witness_SystemSettingsTakeEffectAtOnce :
    (∃ (h : Hdr) (s : State) (code : _) (enable : _) (vector : _) (mgt : _), Plain h 0x0102 s ∧ code ∈ eventCodes ∧ enable ≤ 1 ∧ 4 ≤ vector ∧
      vector ≤ 63 ∧ mgt ≤ 1) ∧
    (∃ (h : Hdr) (s : State) (p : DomainSetP), Plain h 0x0201 s ∧ p.domain ≤ 1 ∧ p.enable ≤ 1 ∧ p.domainNumber ≤ 127 ∧ p.primary ≤ 31 ∧ (p.backup
      ≤ 31 ∨ p.backup = 255) ∧ p.unicast ≤ 1 ∧ 1 ≤ p.holdover ∧ p.holdover ≤ 86400) ∧
    (∃ (h : Hdr) (s : State) (p : TpConfigP), Plain h 0x0203 s ∧ 16 ≤ p.jump ∧ p.jump ≤ 1000000 ∧ 1 ≤ p.slew ∧ p.slew ≤ 100 ∧ p.acquireAuto ≤ 1 ∧
      p.autoSelect ≤ 1 ∧ p.revert ≤ 1) ∧
    (∃ (h : Hdr) (s : State) (pin : _) (edges : _) (minPulse : _) (report : _), Plain h 0x0207 s ∧ pin ≤ 7 ∧ 1 ≤ edges ∧ edges ≤ 3 ∧ 1 ≤ minPulse
      ∧ minPulse ≤ 1000 ∧ report ≤ 1) ∧
    (∃ (h : Hdr) (s : State) (pin : _), Plain h 0x0208 s ∧ pin ≤ 7) ∧
    (∃ (h : Hdr) (s : State) (memory : _) (addr : _) (bits : _), Plain h 0x1003 s ∧ memory ≤ 1 ∧ 1 ≤ bits ∧ bits ≤ 2 ∧ addr < (if memory = 0 then
      storeSize else sramSize)) :=
  ⟨⟨h0, on, 0xE001, 1, 63, 1, by unfold Plain; decide⟩,
   ⟨h0, on, { domain := 1, enable := 1, domainNumber := 127, primary := 31, backup := 255, unicast := 1, gmAddr := 0, holdover := 86400 },
    by unfold Plain; decide⟩,
   ⟨h0, on, { jump := 1000000, slew := 100, acquireAuto := 1, autoSelect := 1, revert := 1 }, by unfold Plain; decide⟩,
   ⟨h0, on, 7, 3, 1000, 1, by unfold Plain; decide⟩,
   ⟨h0, on, 7, by unfold Plain; decide⟩,
   ⟨h0, on, 1, 67108860, 2, by unfold Plain; decide⟩⟩

/-- The hypotheses of every clause of TimeCommandsTakeEffect are met. -/
theorem witness_TimeCommandsTakeEffect :
    (∃ (h : Hdr) (s : State) (d : _), Plain h 0x0204 s ∧ d ≤ 1 ∧ d ≠ s.time.selected ∧ s.switchOk d = true) ∧
    (∃ (h : Hdr) (s : State) (d : _), Plain h 0x0204 s ∧ d ≤ 1 ∧ d ≠ s.time.selected ∧ s.switchOk d = false) ∧
    (∃ (h : Hdr) (s : State) (value : StoredTime), Plain h 0x0205 s ∧ value.ns < 1000000000) ∧
    (∃ (h : Hdr) (s : State) (value : StoredTime), Plain h 0x0205 s ∧ value.ns < 1000000000 ∧ s.time.tracking = true) ∧
    (∃ (h : Hdr) (s : State) (value : StoredTime), Plain h 0x0205 s ∧ value.ns < 1000000000 ∧ s.time.tracking = false) ∧
    (∃ (h : Hdr) (s : State) (queue : _) (tag : _), Plain h 0x0209 s ∧ queue ≤ 4 ∧ (∃ e ∈ s.cp.launch, e.timed = true ∧ e.queue = queue ∧ e.tag =
      tag)) ∧
    (∃ (h : Hdr) (s : State) (p : EvtOutP), Plain h 0x0206 s ∧ p.pin ≤ 7 ∧ p.mode ≤ 4 ∧ p.polarity ≤ 1 ∧ p.start.ns < 1000000000 ∧ p.period.ns <
      1000000000 ∧ p.head ≤ 3 ∧ (p.mode = 0 ∨ (8 ≤ p.width ∧ p.width ≤ 1000000000)) ∧ (p.mode = 3 → rateOk p.rate = true) ∧ (∀ x, pulsePeriod p s
      = some x → nsU p.width < x) ∧ (s.evtOutOf p.pin).pulse = false) ∧
    (∃ (h : Hdr) (s : State) (p : EvtOutP), Plain h 0x0206 s ∧ p.pin ≤ 7 ∧ p.mode ≤ 4 ∧ p.polarity ≤ 1 ∧ p.start.ns < 1000000000 ∧ p.period.ns <
      1000000000 ∧ p.head ≤ 3 ∧ (p.mode = 0 ∨ (8 ≤ p.width ∧ p.width ≤ 1000000000)) ∧ (p.mode = 3 → rateOk p.rate = true) ∧ (∀ x, pulsePeriod p s
      = some x → nsU p.width < x) ∧ (s.evtOutOf p.pin).pulse = true) ∧
    (∃ (h : Hdr) (s : State) (p : EvtOutP), Timed h 0x0206 4 s ∧ p.pin ≤ 7 ∧ p.mode ≤ 4 ∧ p.polarity ≤ 1 ∧ p.start.ns < 1000000000 ∧ p.period.ns <
      1000000000 ∧ p.head ≤ 3 ∧ (p.mode = 0 ∨ (8 ≤ p.width ∧ p.width ≤ 1000000000)) ∧ (p.mode = 3 → rateOk p.rate = true) ∧ (∀ x, pulsePeriod p s
      = some x → nsU p.width < x)) :=
  ⟨⟨h0, on, 1, by unfold Plain; decide⟩,
   ⟨h0, { on with time := { tracking := true } }, 1, by unfold Plain; decide⟩,
   ⟨h0, on, {}, by unfold Plain; decide⟩,
   ⟨h0, { on with time := { tracking := true } }, {}, by unfold Plain; decide⟩,
   ⟨h0, on, {}, by unfold Plain; decide⟩,
   ⟨h0, { on with cp := { launch := [{ timed := true, tag := 5 }] } }, 4, 5, by unfold Plain; decide⟩,
   ⟨h0, on, { pin := 7, mode := 1, width := 8, head := 3 }, by unfold Plain; decide, by decide, by decide, by decide, by decide, by decide,
    by decide, by decide, by decide, (fun _ h => nomatch h), by decide⟩,
   ⟨h0, { on with evtOut := [(7, { pulse := true })] }, { pin := 7, mode := 1, width := 8, head := 3 }, by unfold Plain; decide, by decide,
    by decide, by decide, by decide, by decide, by decide, by decide, by decide, (fun _ h => nomatch h), by decide⟩,
   ⟨hT, on, { pin := 7, mode := 1, width := 8, head := 3 }, by unfold Timed; decide, by decide, by decide, by decide, by decide, by decide,
    by decide, by decide, by decide, (fun _ h => nomatch h)⟩⟩

/-- The hypotheses of every clause of NetworkSettingsTakeEffectAtOnce are met. -/
theorem witness_NetworkSettingsTakeEffectAtOnce :
    (∃ (h : Hdr) (s : State) (quad : _) (mode : _) (fec : _), Plain h 0x0301 s ∧ quad ≤ 7 ∧ mode ≤ 3 ∧ fec ≤ 15) ∧
    (∃ (h : Hdr) (s : State) (p : PortSetP), Plain h 0x0302 s ∧ p.port ≤ 31 ∧ p.untagged ≤ 1 ∧ p.vidCount ≤ 8 ∧ p.ip4Len ≤ 32 ∧ (∀ v ∈ p.vids.take
      p.vidCount, 1 ≤ v ∧ v ≤ 4094)) ∧
    (∃ (h : Hdr) (s : State) (port : _) (clear : _), Plain h 0x0303 s ∧ port ≤ 31 ∧ clear ≤ 1) ∧
    (∃ (h : Hdr) (s : State) (p : FlowSetP), Plain h 0x0401 s ∧ flowOk p s = true ∧ (p.kind = 1 → otherChannels s p.index + p.format.channels ≤
      1024) ∧ (p.kind = 0 → videoTooBig p.format = false) ∧ overLine s p.kind p.format p.legA = false ∧ (p.legBPresent = 0 ∨ overLine s p.kind
      p.format p.legB = false) ∧ (p.enable = 0 ∨ keyClash s p.kind p.index p = false)) ∧
    (∃ (h : Hdr) (s : State) (kind : _) (index : _) (enable : _) (c : _), Plain h 0x0402 s ∧ kind ≤ 2 ∧ index ≤ 63 ∧ enable ≤ 1 ∧ (s.flow kind
      index).cfg = some c ∧ (enable = 0 ∨ keyClash s kind index c = false)) ∧
    (∃ (h : Hdr) (s : State) (kind : _) (index : _) (enable : _) (c : _), Plain h 0x0402 s ∧ (kind = 3 ∨ kind = 4) ∧ index ≤ 63 ∧ enable ≤ 1 ∧
      (s.tx kind index).cfg = some c ∧ (enable = 0 ∨ (txAdmits s c = true ∧ (kind = 3 ∨ otherTxChannels s index + (audioShape s c).1 ≤ 1024)))) ∧
    (∃ (h : Hdr) (s : State) (kind : _) (index : _) (clear : _), Plain h 0x0403 s ∧ kind ≤ 2 ∧ index ≤ 63 ∧ clear ≤ 1) ∧
    (∃ (h : Hdr) (s : State) (kind : _) (index : _) (clear : _), Plain h 0x0403 s ∧ (kind = 3 ∨ kind = 4) ∧ index ≤ 63 ∧ clear ≤ 1) ∧
    (∃ (h : Hdr) (s : State) (p : TxSetP), Plain h 0x0410 s ∧ txOk p s = true ∧ txOverLine s p = false ∧ (p.enable = 0 ∨ txAdmits s p = true) ∧
      (p.kind = 3 ∨ p.enable = 0 ∨ otherTxChannels s p.index + (audioShape s p).1 ≤ 1024)) :=
  ⟨⟨h0, on, 7, 3, 15, by unfold Plain; decide⟩,
   ⟨h0, on, { port := 31, mac := 1, ip4 := 1, ip4Len := 32, ip6 := [0, 0], untagged := 1, vidCount := 8, vids := [1, 2, 3, 4, 5, 6, 7, 4094] },
    by unfold Plain; decide⟩,
   ⟨h0, on, 31, 1, by unfold Plain; decide⟩,
   ⟨h0, net, flw, by unfold Plain; decide⟩,
   ⟨h0, { net with flows := [(63, { cfg := some flw })] }, 0, 63, 1, flw, by unfold Plain; decide⟩,
   ⟨h0, { net with txs := [(63, { cfg := some txp })] }, 3, 63, 0, txp, by unfold Plain; decide⟩,
   ⟨h0, on, 2, 63, 1, by unfold Plain; decide⟩,
   ⟨h0, on, 4, 63, 1, by unfold Plain; decide⟩,
   ⟨h0, net, txp, by unfold Plain; decide⟩⟩

/-- The hypotheses of every clause of MatrixCommandsActAtBoundaries are met. -/
theorem witness_MatrixCommandsActAtBoundaries :
    (∃ (h : Hdr) (s : State) (p : RouteSetP), destOk p.dest = true ∧ p.transition ≤ 2 ∧ p.switchWait ≤ 255 ∧ (p.dest.kind = 0 → s.sys.windDown =
      false) ∧ ((p.kind = 0 ∧ p.source = 0) ∨ (p.kind = 1 ∧ p.source ≤ 63) ∨ (p.kind = 2 ∧ p.dest.kind = 0 ∧ p.source / 16 = destHead p.dest)) ∧
      (p.transition = 0 ∨ (p.transition = 1 ∧ 1 ≤ p.frames ∧ p.frames ≤ 256) ∨ (p.transition = 2 ∧ 2 ≤ p.frames ∧ p.frames ≤ 256)) ∧ Plain h
      0x0501 s ∧ s.destIdle p.dest = true) ∧
    (∃ (h : Hdr) (s : State) (p : RouteSetP), destOk p.dest = true ∧ p.transition ≤ 2 ∧ p.switchWait ≤ 255 ∧ (p.dest.kind = 0 → s.sys.windDown =
      false) ∧ ((p.kind = 0 ∧ p.source = 0) ∨ (p.kind = 1 ∧ p.source ≤ 63) ∨ (p.kind = 2 ∧ p.dest.kind = 0 ∧ p.source / 16 = destHead p.dest)) ∧
      (p.transition = 0 ∨ (p.transition = 1 ∧ 1 ≤ p.frames ∧ p.frames ≤ 256) ∨ (p.transition = 2 ∧ 2 ≤ p.frames ∧ p.frames ≤ 256)) ∧ Plain h
      0x0501 s ∧ s.destIdle p.dest = false) ∧
    (∃ (h : Hdr) (s : State) (p : RouteSetP), destOk p.dest = true ∧ p.transition ≤ 2 ∧ p.switchWait ≤ 255 ∧ (p.dest.kind = 0 → s.sys.windDown =
      false) ∧ ((p.kind = 0 ∧ p.source = 0) ∨ (p.kind = 1 ∧ p.source ≤ 63) ∨ (p.kind = 2 ∧ p.dest.kind = 0 ∧ p.source / 16 = destHead p.dest)) ∧
      (p.transition = 0 ∨ (p.transition = 1 ∧ 1 ≤ p.frames ∧ p.frames ≤ 256) ∨ (p.transition = 2 ∧ 2 ≤ p.frames ∧ p.frames ≤ 256)) ∧ Timed h
      0x0501 (destQueue p.dest) s) ∧
    (∃ (h : Hdr) (s : State) (p : OutputSetP), Plain h 0x0502 s ∧ outputOk p true = true ∧ p.lutBuffer = 0 ∧ ratioOk p.crop.w p.crop.h p.width
      p.height = true ∧ s.outputAudioFits p.output p.latency = true ∧ (s.output p.output).cfg = none) ∧
    (∃ (h : Hdr) (s : State) (p : OutputSetP), Plain h 0x0502 s ∧ outputOk p true = true ∧ p.lutBuffer = 0 ∧ ratioOk p.crop.w p.crop.h p.width
      p.height = true ∧ s.outputAudioFits p.output p.latency = true ∧ (s.output p.output).cfg ≠ none) ∧
    (∃ (h : Hdr) (s : State) (p : LayerSetP), Plain h 0x0601 s ∧ p.head ≤ 3 ∧ p.layer ≤ 15 ∧ p.enable ≤ 1 ∧ p.z ≤ 15 ∧ p.dest.w ≤ 32768 ∧ p.dest.h
      ≤ 32768 ∧ -32768 ≤ p.dest.x ∧ p.dest.x ≤ 32767 ∧ -32768 ≤ p.dest.y ∧ p.dest.y ≤ 32767 ∧ p.g ≤ 255 ∧ p.views ≤ 15 ∧ p.blend ≤ 1 ∧
      p.lossAction ≤ 1 ∧ p.hold ≤ 60000 ∧ p.bypass ≤ 1 ∧ p.m1Mode ≤ 1 ∧ bit p.fill 30 = false ∧ (∀ x ∈ p.m2, -131072 ≤ x ∧ x ≤ 131071) ∧ 1 ≤
      p.dest.w ∧ 1 ≤ p.dest.h ∧ (p.enable = 1 → ∀ m < 16, m ≠ p.layer → s.askedLayer p.head m ≠ (true, p.z)) ∧ ratioOk p.crop.w p.crop.h p.dest.w
      p.dest.h = true ∧ s.sys.windDown = false ∧ (s.head p.head).idle = true) ∧
    (∃ (h : Hdr) (s : State) (p : LayerSetP), Plain h 0x0601 s ∧ p.head ≤ 3 ∧ p.layer ≤ 15 ∧ p.enable ≤ 1 ∧ p.z ≤ 15 ∧ p.dest.w ≤ 32768 ∧ p.dest.h
      ≤ 32768 ∧ -32768 ≤ p.dest.x ∧ p.dest.x ≤ 32767 ∧ -32768 ≤ p.dest.y ∧ p.dest.y ≤ 32767 ∧ p.g ≤ 255 ∧ p.views ≤ 15 ∧ p.blend ≤ 1 ∧
      p.lossAction ≤ 1 ∧ p.hold ≤ 60000 ∧ p.bypass ≤ 1 ∧ p.m1Mode ≤ 1 ∧ bit p.fill 30 = false ∧ (∀ x ∈ p.m2, -131072 ≤ x ∧ x ≤ 131071) ∧ 1 ≤
      p.dest.w ∧ 1 ≤ p.dest.h ∧ (p.enable = 1 → ∀ m < 16, m ≠ p.layer → s.askedLayer p.head m ≠ (true, p.z)) ∧ ratioOk p.crop.w p.crop.h p.dest.w
      p.dest.h = true ∧ s.sys.windDown = false ∧ (s.head p.head).idle = false) ∧
    (∃ (h : Hdr) (s : State) (dest : _) (axis : _), Plain h 0x0602 s ∧ destOk dest = true ∧ axis ≤ 1 ∧ (dest.kind = 0 → s.sys.windDown = false) ∧
      s.destIdle dest = true) ∧
    (∃ (h : Hdr) (s : State) (dest : _) (axis : _), Plain h 0x0602 s ∧ destOk dest = true ∧ axis ≤ 1 ∧ (dest.kind = 0 → s.sys.windDown = false) ∧
      s.destIdle dest = false) ∧
    (∃ (h : Hdr) (s : State) (source : _) (flow : _) (map : _), Plain h 0x0C01 s ∧ source ≤ 63 ∧ (flow ≤ 63 ∨ flow = 255) ∧ mapOk map = true ∧
      (flow = 255 ∨ s.assocFits source flow = true)) ∧
    (∃ (h : Hdr) (s : State) (p : AudioHeadP) (d : Int), Plain h 0x0C02 s ∧ p.head ≤ 3 ∧ p.layer ≤ 15 ∧ -100000000 ≤ p.trim ∧ p.trim ≤ 100000000 ∧
      p.tdmEnable ≤ 1 ∧ p.tdmFormat ≤ 1 ∧ mapOk p.map = true ∧ s.sys.windDown = false ∧ d = delaySamples (s.videoLatency p.head p.trim) ∧
      s.delayFits (s.assocOf (s.layer (16 * p.head + p.layer)).route.route).flow d = true ∧ (s.head p.head).idle = true) ∧
    (∃ (h : Hdr) (s : State) (p : AudioHeadP) (d : Int), Plain h 0x0C02 s ∧ p.head ≤ 3 ∧ p.layer ≤ 15 ∧ -100000000 ≤ p.trim ∧ p.trim ≤ 100000000 ∧
      p.tdmEnable ≤ 1 ∧ p.tdmFormat ≤ 1 ∧ mapOk p.map = true ∧ s.sys.windDown = false ∧ d = delaySamples (s.videoLatency p.head p.trim) ∧
      s.delayFits (s.assocOf (s.layer (16 * p.head + p.layer)).route.route).flow d = true ∧ (s.head p.head).idle = false) ∧
    (∃ (h : Hdr) (s : State) (flow : _) (index : _) (map : _), Plain h 0x0C03 s ∧ flow ≤ 63 ∧ index ≤ 63 ∧ mapOk map = true) ∧
    (∃ (h : Hdr) (s : State) (flow : _) (index : _) (map : _) (c : _) (d : _), Plain h 0x0C03 s ∧ flow ≤ 63 ∧ index ≤ 63 ∧ mapOk map = true ∧
      (s.output index).cfg = some c ∧ d = delaySamples (nsU c.latency) ∧ s.delayFits (s.assocOf (s.output index).route.route).flow d = true) :=
  ⟨⟨h0, on, rt, by unfold Plain; decide⟩,
   ⟨h0, hd run, rt, by unfold Plain; decide⟩,
   ⟨hT, on, rt, by unfold Timed; decide⟩,
   ⟨h0, on, outp, by unfold Plain; decide⟩,
   ⟨h0, { on with outputs := [(63, { cfg := some outp })] }, outp, by unfold Plain; decide⟩,
   ⟨h0, on, lay, by unfold Plain; decide, by decide, by decide, by decide, by decide, by decide, by decide, by decide, by decide, by decide,
    by decide, by decide, by decide, by decide, by decide, by decide, by decide, by decide, by decide, by decide, by decide, by decide, by decide,
    by decide, by decide, by decide⟩,
   ⟨h0, hd run, lay, by unfold Plain; decide, by decide, by decide, by decide, by decide, by decide, by decide, by decide, by decide, by decide,
    by decide, by decide, by decide, by decide, by decide, by decide, by decide, by decide, by decide, by decide, by decide, by decide, by decide,
    by decide, by decide, by decide⟩,
   ⟨h0, on, { index := 63 }, 1, by unfold Plain; decide⟩,
   ⟨h0, hd run, { index := 63 }, 1, by unfold Plain; decide⟩,
   ⟨h0, on, 63, 255, [0, 1, 2, 3, 4, 5, 63, 255], by unfold Plain; decide⟩,
   ⟨h0, on, aud, _, by unfold Plain; decide, by decide, by decide, by decide, by decide, by decide, by decide, by decide, by decide, rfl,
    by decide, by decide⟩,
   ⟨h0, hd run, aud, _, by unfold Plain; decide, by decide, by decide, by decide, by decide, by decide, by decide, by decide, by decide, rfl,
    by decide, by decide⟩,
   ⟨h0, on, 63, 63, [0, 1, 2, 3, 4, 5, 63, 255], by unfold Plain; decide⟩,
   ⟨h0, { on with outputs := [(63, { cfg := some outp })] }, 63, 63, [0, 1, 2, 3, 4, 5, 63, 255], outp, _, by unfold Plain; decide, by decide,
    by decide, by decide, by decide, rfl, by decide⟩⟩

/-- The hypotheses of every clause of PresentsTakeALease are met. -/
theorem witness_PresentsTakeALease :
    (∃ (h : Hdr) (s : State) (p : PresentP), p.head ≤ 3 ∧ p.layer ≤ 15 ∧ p.format ≤ 1 ∧ p.ordered ≤ 1 ∧ p.width ≠ 0 ∧ p.height ≠ 0 ∧ 4 * p.width ≤
      p.pitch ∧ p.base % 4096 = 0 ∧ p.pitch % 64 = 0 ∧ p.base + p.pitch * p.height ≤ 0x7FC000000 ∧ s.sys.windDown = false ∧ s.routedTo p.head
      p.layer = true ∧ ((s.leaseOf p).isSome = true ∨ s.leaseFree.isSome = true) ∧ Plain h 0x0603 s ∧ (s.head p.head).idle = true) ∧
    (∃ (h : Hdr) (s : State) (p : PresentP), p.head ≤ 3 ∧ p.layer ≤ 15 ∧ p.format ≤ 1 ∧ p.ordered ≤ 1 ∧ p.width ≠ 0 ∧ p.height ≠ 0 ∧ 4 * p.width ≤
      p.pitch ∧ p.base % 4096 = 0 ∧ p.pitch % 64 = 0 ∧ p.base + p.pitch * p.height ≤ 0x7FC000000 ∧ s.sys.windDown = false ∧ s.routedTo p.head
      p.layer = true ∧ ((s.leaseOf p).isSome = true ∨ s.leaseFree.isSome = true) ∧ Plain h 0x0603 s ∧ (s.head p.head).idle = false) ∧
    (∃ (h : Hdr) (s : State) (p : PresentP), p.head ≤ 3 ∧ p.layer ≤ 15 ∧ p.format ≤ 1 ∧ p.ordered ≤ 1 ∧ p.width ≠ 0 ∧ p.height ≠ 0 ∧ 4 * p.width ≤
      p.pitch ∧ p.base % 4096 = 0 ∧ p.pitch % 64 = 0 ∧ p.base + p.pitch * p.height ≤ 0x7FC000000 ∧ s.sys.windDown = false ∧ s.routedTo p.head
      p.layer = true ∧ ((s.leaseOf p).isSome = true ∨ s.leaseFree.isSome = true) ∧ Timed h 0x0603 p.head s) ∧
    (∃ (s : State) (p : PresentP) (i : _), p.head ≤ 3 ∧ p.layer ≤ 15 ∧ p.format ≤ 1 ∧ p.ordered ≤ 1 ∧ p.width ≠ 0 ∧ p.height ≠ 0 ∧ 4 * p.width ≤
      p.pitch ∧ p.base % 4096 = 0 ∧ p.pitch % 64 = 0 ∧ p.base + p.pitch * p.height ≤ 0x7FC000000 ∧ s.sys.windDown = false ∧ s.routedTo p.head
      p.layer = true ∧ ((s.leaseOf p).isSome = true ∨ s.leaseFree.isSome = true) ∧ s.leaseOf p = none ∧ s.leaseFree = some i) :=
  ⟨⟨h0, { on with layers := routed }, pres, by unfold Plain; decide⟩,
   ⟨h0, { hd run with layers := routed }, pres, by unfold Plain; decide⟩,
   ⟨hT, { on with layers := routed }, pres, by unfold Timed; decide⟩,
   ⟨{ on with layers := routed }, pres, _, by decide, by decide, by decide, by decide, by decide, by decide, by decide, rfl, rfl, by decide, rfl,
    rfl, by decide, rfl, rfl⟩⟩

/-- The hypotheses of every clause of HeadCommandsActAtBoundaries are met. -/
theorem witness_HeadCommandsActAtBoundaries :
    (∃ (h : Hdr) (s : State) (n : Nat) (p : HeadSrP), n ≤ 3 ∧ s.sys.windDown = false ∧ Plain h 0x0705 s ∧ p.head = n ∧ p.command ≤ 2 ∧ p.mode ≤ 2
      ∧ 100 ≤ p.idle ∧ p.idle ≤ 600000 ∧ p.period ≤ 50000 ∧ 60 ≤ p.holdLimit ∧ p.holdLimit ≤ 2000 ∧ p.period < 1000 * p.holdLimit ∧ (s.head
      n).framePeriod ≤ usU p.period ∧ (p.command = 1 → (s.head n).state = 3 ∧ p.mode ≠ 0) ∧ (p.command = 2 → (s.head n).state = 4) ∧ ((s.head
      n).stoppable = false ∨ p.command = 2)) ∧
    (∃ (h : Hdr) (s : State) (n : Nat) (p : HeadSrP), n ≤ 3 ∧ s.sys.windDown = false ∧ Plain h 0x0705 s ∧ p.head = n ∧ p.command ≤ 2 ∧ p.mode ≤ 2
      ∧ 100 ≤ p.idle ∧ p.idle ≤ 600000 ∧ p.period ≤ 50000 ∧ 60 ≤ p.holdLimit ∧ p.holdLimit ≤ 2000 ∧ p.period < 1000 * p.holdLimit ∧ (s.head
      n).framePeriod ≤ usU p.period ∧ (p.command = 1 → (s.head n).state = 3 ∧ p.mode ≠ 0) ∧ (p.command = 2 → (s.head n).state = 4) ∧ (s.head
      n).stoppable = true ∧ p.command ≠ 2) ∧
    (∃ (h : Hdr) (s : State) (n : Nat) (p : HeadPictureP), n ≤ 3 ∧ s.sys.windDown = false ∧ Plain h 0x0706 s ∧ p.head = n ∧ p.background < 2 ^ 30
      ∧ p.lutBuffer = 0 ∧ (s.head n).idle = true) ∧
    (∃ (h : Hdr) (s : State) (n : Nat) (p : HeadPictureP), n ≤ 3 ∧ s.sys.windDown = false ∧ Plain h 0x0706 s ∧ p.head = n ∧ p.background < 2 ^ 30
      ∧ p.lutBuffer = 0 ∧ (s.head n).idle = false) ∧
    (∃ (h : Hdr) (s : State) (n : Nat) (p : VcomP), n ≤ 3 ∧ s.sys.windDown = false ∧ Plain h 0x0901 s ∧ p.head = n ∧ p.vmax ≤ 4095 ∧ p.vmin ≤ p.v0
      ∧ p.v0 ≤ p.vmax ∧ p.senseEnable ≤ 1 ∧ p.senseTarget ≤ 4095 ∧ 1 ≤ p.senseDelay ∧ p.senseDelay ≤ 1000 ∧ 1 ≤ p.senseN ∧ p.senseN ≤ 64 ∧ 1 ≤
      p.senseLimit ∧ p.senseLimit ≤ 2047 ∧ -256 ≤ p.trimGain ∧ p.trimGain ≤ 256 ∧ 1 ≤ p.trimStep ∧ p.trimStep ≤ 64 ∧ (s.head n).idle = true) ∧
    (∃ (h : Hdr) (s : State) (n : Nat) (p : VcomP), n ≤ 3 ∧ s.sys.windDown = false ∧ Plain h 0x0901 s ∧ p.head = n ∧ p.vmax ≤ 4095 ∧ p.vmin ≤ p.v0
      ∧ p.v0 ≤ p.vmax ∧ p.senseEnable ≤ 1 ∧ p.senseTarget ≤ 4095 ∧ 1 ≤ p.senseDelay ∧ p.senseDelay ≤ 1000 ∧ 1 ≤ p.senseN ∧ p.senseN ≤ 64 ∧ 1 ≤
      p.senseLimit ∧ p.senseLimit ≤ 2047 ∧ -256 ≤ p.trimGain ∧ p.trimGain ≤ 256 ∧ 1 ≤ p.trimStep ∧ p.trimStep ≤ 64 ∧ (s.head n).idle = false) ∧
    (∃ (h : Hdr) (s : State) (n : Nat) (allowed : _) (time : _) (code : _), n ≤ 3 ∧ s.sys.windDown = false ∧ Plain h 0x0902 s ∧ 500 ≤ time ∧ time
      ≤ 30000 ∧ code ≤ 1023 ∧ allowedOk allowed = true ∧ (s.head n).idle = true) ∧
    (∃ (h : Hdr) (s : State) (n : Nat) (allowed : _) (time : _) (code : _), n ≤ 3 ∧ s.sys.windDown = false ∧ Plain h 0x0902 s ∧ 500 ≤ time ∧ time
      ≤ 30000 ∧ code ≤ 1023 ∧ allowedOk allowed = true ∧ (s.head n).idle = false) ∧
    (∃ (h : Hdr) (s : State) (n : Nat), n ≤ 3 ∧ s.sys.windDown = false ∧ Plain h 0x0906 s ∧ (s.head n).cfg ≠ none ∧ (s.head n).idle = true) ∧
    (∃ (h : Hdr) (s : State) (n : Nat), n ≤ 3 ∧ s.sys.windDown = false ∧ Plain h 0x0906 s ∧ (s.head n).cfg ≠ none ∧ (s.head n).idle = false) ∧
    (∃ (h : Hdr) (s : State) (n : Nat), n ≤ 3 ∧ s.sys.windDown = false ∧ s.viewFail n (s.head n).panel.shadow.settings.settle = none ∧ Plain h
      0x0808 s ∧ (s.head n).idle = true) ∧
    (∃ (h : Hdr) (s : State) (n : Nat), n ≤ 3 ∧ s.sys.windDown = false ∧ s.viewFail n (s.head n).panel.shadow.settings.settle = none ∧ Plain h
      0x0808 s ∧ (s.head n).idle = false) ∧
    (∃ (h : Hdr) (s : State) (n : Nat), n ≤ 3 ∧ s.sys.windDown = false ∧ s.viewFail n (s.head n).panel.shadow.settings.settle = none ∧ Timed h
      0x0808 n s) ∧
    (∃ (h : Hdr) (s : State) (n : Nat) (base : _), n ≤ 3 ∧ s.sys.windDown = false ∧ base % 4096 = 0 ∧ base + muraBytes (s.head n) ≤ 0x7FC000000 ∧
      (s.head n).cfg ≠ none ∧ (s.head n).panel.muraRelease = none ∧ (∀ e ∈ s.cp.launch, ∀ g b, e.cmd ≠ .muraSwap g n b) ∧ Plain h 0x0809 s ∧
      (s.head n).idle = true) ∧
    (∃ (h : Hdr) (s : State) (n : Nat) (base : _), n ≤ 3 ∧ s.sys.windDown = false ∧ base % 4096 = 0 ∧ base + muraBytes (s.head n) ≤ 0x7FC000000 ∧
      (s.head n).cfg ≠ none ∧ (s.head n).panel.muraRelease = none ∧ (∀ e ∈ s.cp.launch, ∀ g b, e.cmd ≠ .muraSwap g n b) ∧ Plain h 0x0809 s ∧
      (s.head n).idle = false) ∧
    (∃ (h : Hdr) (s : State) (n : Nat) (base : _), n ≤ 3 ∧ s.sys.windDown = false ∧ base % 4096 = 0 ∧ base + muraBytes (s.head n) ≤ 0x7FC000000 ∧
      (s.head n).cfg ≠ none ∧ (s.head n).panel.muraRelease = none ∧ (∀ e ∈ s.cp.launch, ∀ g b, e.cmd ≠ .muraSwap g n b) ∧ Timed h 0x0809 n s) ∧
    (∃ (h : Hdr) (s : State) (n : Nat) (p : CheckSetP), n ≤ 3 ∧ s.sys.windDown = false ∧ p.head = n ∧ p.check ≤ 15 ∧ p.enable ≤ 1 ∧ p.tap ≤ 1 ∧ 1
      ≤ p.cw ∧ p.cw ≤ 32768 ∧ 1 ≤ p.ch ∧ p.ch ≤ 32768 ∧ p.e ≤ 8 ∧ p.mode ≤ 1 ∧ 1 ≤ p.missLimit ∧ p.missLimit ≤ 255 ∧ p.action ≤ 2 ∧ (p.view ≤ 3 ∨
      p.view = 255) ∧ (s.head n).cfg ≠ none ∧ p.x0 + p.cw ≤ (s.head n).w ∧ p.y0 + p.ch ≤ (s.head n).hh ∧ Plain h 0x0B01 s ∧ (s.head n).idle =
      true) ∧
    (∃ (h : Hdr) (s : State) (n : Nat) (p : CheckSetP), n ≤ 3 ∧ s.sys.windDown = false ∧ p.head = n ∧ p.check ≤ 15 ∧ p.enable ≤ 1 ∧ p.tap ≤ 1 ∧ 1
      ≤ p.cw ∧ p.cw ≤ 32768 ∧ 1 ≤ p.ch ∧ p.ch ≤ 32768 ∧ p.e ≤ 8 ∧ p.mode ≤ 1 ∧ 1 ≤ p.missLimit ∧ p.missLimit ≤ 255 ∧ p.action ≤ 2 ∧ (p.view ≤ 3 ∨
      p.view = 255) ∧ (s.head n).cfg ≠ none ∧ p.x0 + p.cw ≤ (s.head n).w ∧ p.y0 + p.ch ≤ (s.head n).hh ∧ Plain h 0x0B01 s ∧ (s.head n).idle =
      false) ∧
    (∃ (h : Hdr) (s : State) (n : Nat) (p : CheckSetP), n ≤ 3 ∧ s.sys.windDown = false ∧ p.head = n ∧ p.check ≤ 15 ∧ p.enable ≤ 1 ∧ p.tap ≤ 1 ∧ 1
      ≤ p.cw ∧ p.cw ≤ 32768 ∧ 1 ≤ p.ch ∧ p.ch ≤ 32768 ∧ p.e ≤ 8 ∧ p.mode ≤ 1 ∧ 1 ≤ p.missLimit ∧ p.missLimit ≤ 255 ∧ p.action ≤ 2 ∧ (p.view ≤ 3 ∨
      p.view = 255) ∧ (s.head n).cfg ≠ none ∧ p.x0 + p.cw ≤ (s.head n).w ∧ p.y0 + p.ch ≤ (s.head n).hh ∧ Timed h 0x0B01 n s) :=
  ⟨⟨h0, hd parked, 3, { head := 3, command := 0, mode := 1, idle := 600000, period := 50000, holdLimit := 2000 }, by unfold Plain; decide⟩,
   ⟨h0, hd run, 3, { head := 3, command := 1, mode := 1, idle := 600000, period := 50000, holdLimit := 2000 }, by decide, by decide,
    by unfold Plain; decide, by decide, by decide, by decide, by decide, by decide, by decide, by decide, by decide, by decide, by decide,
    by decide, by decide, by decide, by decide⟩,
   ⟨h0, on, 3, { head := 3, background := 1073741823, peak := 0, lutBuffer := 0 }, by unfold Plain; decide⟩,
   ⟨h0, hd run, 3, { head := 3, background := 1073741823, peak := 0, lutBuffer := 0 }, by unfold Plain; decide⟩,
   ⟨h0, on, 3, { vcomDefault with head := 3 }, by decide, by decide, by unfold Plain; decide, by decide, by decide, by decide, by decide,
    by decide, by decide, by decide, by decide, by decide, by decide, by decide, by decide, by decide, by decide, by decide, by decide, by decide⟩,
   ⟨h0, hd run, 3, { vcomDefault with head := 3 }, by decide, by decide, by unfold Plain; decide, by decide, by decide, by decide, by decide,
    by decide, by decide, by decide, by decide, by decide, by decide, by decide, by decide, by decide, by decide, by decide, by decide, by decide⟩,
   ⟨h0, on, 3, 255, 30000, 1023, by unfold Plain; decide⟩,
   ⟨h0, hd run, 3, 255, 30000, 1023, by unfold Plain; decide⟩,
   ⟨h0, hd parked, 3, by unfold Plain; decide⟩,
   ⟨h0, hd run, 3, by unfold Plain; decide⟩,
   ⟨h0, on, 3, by unfold Plain; decide⟩,
   ⟨h0, hd run, 3, by unfold Plain; decide⟩,
   ⟨hT, on, 3, by unfold Timed; decide⟩,
   ⟨h0, hd parked, 3, 0x7FBFFE000, by decide, by decide, by decide, by decide, by decide, by decide, (fun _ h => nomatch h),
    by unfold Plain; decide, by decide⟩,
   ⟨h0, hd run, 3, 0x7FBFFE000, by decide, by decide, by decide, by decide, by decide, by decide, (fun _ h => nomatch h),
    by unfold Plain; decide, by decide⟩,
   ⟨hT, hd run, 3, 0x7FBFFE000, by decide, by decide, by decide, by decide, by decide, by decide, (fun _ h => nomatch h),
    by unfold Timed; decide⟩,
   ⟨h0, hd parked, 3, chk, by decide, by decide, by decide, by decide, by decide, by decide, by decide, by decide, by decide, by decide,
    by decide, by decide, by decide, by decide, by decide, by decide, by decide, by decide, by decide, by unfold Plain; decide, by decide⟩,
   ⟨h0, hd run, 3, chk, by decide, by decide, by decide, by decide, by decide, by decide, by decide, by decide, by decide, by decide, by decide,
    by decide, by decide, by decide, by decide, by decide, by decide, by decide, by decide, by unfold Plain; decide, by decide⟩,
   ⟨hT, hd run, 3, chk, by decide, by decide, by decide, by decide, by decide, by decide, by decide, by decide, by decide, by decide, by decide,
    by decide, by decide, by decide, by decide, by decide, by decide, by decide, by decide, by unfold Timed; decide⟩⟩

/-- The hypotheses of every clause of ViewCommandsChangeTheTiming are met. -/
theorem witness_ViewCommandsChangeTheTiming :
    (∃ (h : Hdr) (s : State) (n : Nat) (c : HeadConfigP) (views : _), n ≤ 3 ∧ s.sys.windDown = false ∧ (s.head n).scan.changing = false ∧ (s.head
      n).cfg = some c ∧ c.scanMode ≠ 1 ∧ viewsOk (some c) views = true ∧ (s.asIf n (some { c with scanMode := 2 }) views).viewFail n (s.head
      n).panel.active.settings.settle = none ∧ (s.asIf n (some { c with scanMode := 2 }) views).loadOk = true ∧ (s.asIf n (some
      { c with scanMode := 2 }) views).audioFits n = true ∧ Plain h 0x0A01 s ∧ (s.head n).idle = true) ∧
    (∃ (h : Hdr) (s : State) (n : Nat) (c : HeadConfigP) (views : _), n ≤ 3 ∧ s.sys.windDown = false ∧ (s.head n).scan.changing = false ∧ (s.head
      n).cfg = some c ∧ c.scanMode ≠ 1 ∧ viewsOk (some c) views = true ∧ (s.asIf n (some { c with scanMode := 2 }) views).viewFail n (s.head
      n).panel.active.settings.settle = none ∧ (s.asIf n (some { c with scanMode := 2 }) views).loadOk = true ∧ (s.asIf n (some
      { c with scanMode := 2 }) views).audioFits n = true ∧ Plain h 0x0A01 s ∧ (s.head n).idle = false) ∧
    (∃ (h : Hdr) (s : State) (n : Nat) (c : HeadConfigP) (mode : _), n ≤ 3 ∧ s.sys.windDown = false ∧ (s.head n).scan.changing = false ∧ (s.head
      n).cfg = some c ∧ mode ≤ 1 ∧ (mode = 1 → cfgOk { c with scanMode := 1 } = true) ∧ (s.head n).inViews = true ∧ (s.asIf n (some
      { c with scanMode := mode }) []).timingRefused n = false ∧ Plain h 0x0A02 s ∧ (s.head n).idle = true) ∧
    (∃ (h : Hdr) (s : State) (n : Nat) (c : HeadConfigP) (mode : _), n ≤ 3 ∧ s.sys.windDown = false ∧ (s.head n).scan.changing = false ∧ (s.head
      n).cfg = some c ∧ mode ≤ 1 ∧ (mode = 1 → cfgOk { c with scanMode := 1 } = true) ∧ (s.head n).inViews = true ∧ (s.asIf n (some
      { c with scanMode := mode }) []).timingRefused n = false ∧ Plain h 0x0A02 s ∧ (s.head n).idle = false) :=
  ⟨⟨h0, hd parked, 3, cfg, [vw], by unfold Plain; decide⟩,
   ⟨h0, hd run, 3, cfg, [vw], by unfold Plain; decide⟩,
   ⟨h0, hd { parked with cfg := some { cfg with scanMode := 2 }, views := [vw] }, 3, { cfg with scanMode := 2 }, 1, by unfold Plain; decide⟩,
   ⟨h0, hd { run with cfg := some { cfg with scanMode := 2 }, views := [vw] }, 3, { cfg with scanMode := 2 }, 1, by unfold Plain; decide⟩⟩

/-- The hypotheses of every clause of HeadsAreConfigured are met. -/
theorem witness_HeadsAreConfigured :
    (∃ (h : Hdr) (s : State) (p : HeadConfigP) (a : Nat × Nat × Nat × Nat), Plain h 0x0701 s ∧ (s.head p.head).cfg = none ∧ cfgOk p = true ∧
      s.panelClash p = false ∧ s.sys.windDown = false ∧ (s.asIf p.head (some p) (if p.scanMode = 2 then (s.head p.head).views else
      [])).timingRefused p.head = false ∧ (s.pair.enable = true → ∀ n ≤ 3, n ≠ p.head → (s.head n).cfg = none) ∧ s.allotFor p.w p.h = some a) ∧
    (∃ (h : Hdr) (s : State) (p : HeadConfigP) (c : HeadConfigP), (s.head p.head).cfg = some c ∧ (s.head p.head).stoppable = true ∧ (s.head
      p.head).scan.changing = false ∧ cfgOk p = true ∧ c.w = p.w ∧ c.h = p.h ∧ s.panelClash p = false ∧ s.sys.windDown = false ∧ (s.asIf p.head
      (some p) (if p.scanMode = 2 then (s.head p.head).views else [])).timingRefused p.head = false ∧ (s.pair.enable = true → ∀ n ≤ 3, n ≠ p.head
      → (s.head n).cfg = none) ∧ (p.scanMode = 1 → (s.head p.head).inViews = false) ∧ (Plain h 0x0701 s ∨ Timed h 0x0701 p.head s)) ∧
    (∃ (h : Hdr) (s : State) (n : _), Plain h 0x0702 s ∧ n ≤ 3 ∧ s.sys.windDown = false ∧ (s.head n).power.phase = 0 ∧ (s.head n).cfg ≠ none ∧
      ((s.head n).state = 0 ∨ (s.head n).state = 1)) :=
  ⟨⟨h0, on, cfg, _, by unfold Plain; decide, rfl, rfl, rfl, rfl, rfl, by decide, rfl⟩,
   ⟨h0, hd run, cfg, cfg, by unfold Plain Timed; decide⟩,
   ⟨h0, hd parked, 3, by unfold Plain; decide⟩⟩

/-- The hypotheses of every clause of HeadsStartAndStop are met. -/
theorem witness_HeadsStartAndStop :
    (∃ (h : Hdr) (s : State) (n : Nat), n ≤ 3 ∧ s.sys.windDown = false ∧ (s.head n).power.phase = 0 ∧ (s.head n).state = 1 ∧ s.startOk n = true ∧
      Plain h 0x0703 s) ∧
    (∃ (h : Hdr) (s : State) (n : Nat), n ≤ 3 ∧ s.sys.windDown = false ∧ (s.head n).power.phase = 0 ∧ (s.head n).state = 1 ∧ s.startOk n = true ∧
      Timed h 0x0703 n s) ∧
    (∃ (h : Hdr) (s : State) (n : Nat), n ≤ 3 ∧ s.sys.windDown = false ∧ (s.head n).stoppable = true ∧ Plain h 0x0704 s) ∧
    (∃ (h : Hdr) (s : State) (n : Nat), n ≤ 3 ∧ s.sys.windDown = false ∧ (s.head n).stoppable = true ∧ Timed h 0x0704 n s) ∧
    (∃ (h : Hdr) (s : State) (n : Nat), n ≤ 3 ∧ s.sys.windDown = false ∧ Plain h 0x0708 s ∧ (s.head n).state = 2 ∧ (s.head n).ledger.warmEnding =
      false) ∧
    (∃ (h : Hdr) (s : State) (n : Nat), n ≤ 3 ∧ s.sys.windDown = false ∧ Plain h 0x0802 s ∧ (s.head n).power.phase = 0 ∧ (s.head n).state = 1) ∧
    (∃ (h : Hdr) (s : State) (n : Nat), n ≤ 3 ∧ s.sys.windDown = false ∧ Plain h 0x0802 s ∧ (s.head n).power.phase = 0 ∧ (s.head n).state ≠ 0 ∧
      (s.head n).state ≠ 1) ∧
    (∃ (h : Hdr) (s : State) (n : Nat), n ≤ 3 ∧ s.sys.windDown = false ∧ Plain h 0x0801 s ∧ s.standby = false ∧ (s.head n).state = 0 ∧ (s.head
      n).power.phase = 0 ∧ s.sys.pfail = false ∧ s.sys.pfailClear = true ∧ s.clocks.refclkOk = true ∧ ((s.head n).cfg = none ∨ s.layoutOk n
      (s.head n).w = true)) ∧
    (∃ (h : Hdr) (s : State) (n : Nat) (d : _), n ≤ 3 ∧ s.sys.windDown = false ∧ Plain h 0x0805 s ∧ d ≤ 95 ∧ s.mayTrain d = true) :=
  ⟨⟨h0, { hd parked with drivers := [(95, drv)] }, 3, by unfold Plain; decide⟩,
   ⟨hT, { hd parked with drivers := [(95, drv)] }, 3, by unfold Timed; decide⟩,
   ⟨h0, hd run, 3, by unfold Plain; decide⟩,
   ⟨hT, hd run, 3, by unfold Timed; decide⟩,
   ⟨h0, hd { run with state := 2 }, 3, by unfold Plain; decide⟩,
   ⟨h0, hd parked, 3, by unfold Plain; decide⟩,
   ⟨h0, hd run, 3, by unfold Plain; decide⟩,
   ⟨h0, on, 3, by unfold Plain; decide⟩,
   ⟨h0, { hd parked with drivers := [(95, drv)] }, 3, 95, by unfold Plain; decide⟩⟩

/-- The hypotheses of every clause of HeadSettingsAreStored are met. -/
theorem witness_HeadSettingsAreStored :
    (∃ (h : Hdr) (s : State) (n : _) (policy : _), s.sys.windDown = false ∧ Plain h 0x0604 s ∧ n ≤ 3 ∧ policy ≤ 1) ∧
    (∃ (h : Hdr) (s : State) (p : HeadGateP), s.sys.windDown = false ∧ Plain h 0x0707 s ∧ p.head ≤ 3 ∧ p.polarity < 2 ^ 19 ∧ 20 ≤ p.gckDelay ∧
      p.gckDelay ≤ 5000 ∧ 20 ≤ p.gateGuard ∧ p.gateGuard ≤ 5000 ∧ p.flush ≤ 8 ∧ 100 ≤ p.parkHold ∧ p.parkHold ≤ 20000 ∧ p.phases ∈ [2, 4, 8, 16] ∧
      (s.modHead p.head (fun x => { x with gate := gateOf p, gateNow := gateOf p })).pitchOk p.head = true ∧ (s.modHead p.head (fun x =>
      { x with gate := gateOf p, gateNow := gateOf p })).viewFail p.head (s.head p.head).panel.active.settings.settle = none) ∧
    (∃ (h : Hdr) (s : State) (p : PowerSeqP), s.sys.windDown = false ∧ Plain h 0x0803 s ∧ p.head ≤ 3 ∧ 1 ≤ p.penUsed ∧ p.penUsed ≤ 15 ∧
      p.vcomSettle ≤ 20000 ∧ p.penDelay ≤ 50000 ∧ 1 ≤ p.pgTimeout ∧ p.pgTimeout ≤ 100 ∧ p.trainDelay ≤ 50000 ∧ 100 ≤ p.wdHold ∧ p.wdHold ≤ 4000 ∧
      p.penGap ≤ 300) ∧
    (∃ (h : Hdr) (s : State) (p : DriverSetP), s.sys.windDown = false ∧ Plain h 0x0804 s ∧ p.driver ≤ 95 ∧ p.head ≤ 3 ∧ p.first ≤ 98256 ∧ 240 ≤
      p.ch ∧ p.ch ≤ 1920 ∧ 1 ≤ p.lanes ∧ p.lanes ≤ 2 ∧ p.rev ≤ 1 ∧ p.first % 48 = 0 ∧ p.ch % 48 = 0 ∧ s.driverOverlap p = false ∧ ((s.head
      p.head).state = 0 ∨ (s.head p.head).state = 1) ∧ ((s.driver p.driver).head > 3 ∨ (s.head (s.driver p.driver).head).state = 0 ∨ (s.head
      (s.driver p.driver).head).state = 1) ∧ (s.driverStore p).pitchOk p.head = true ∧ (s.driverStore p).viewFail p.head (s.head
      p.head).panel.active.settings.settle = none) ∧
    (∃ (h : Hdr) (s : State) (p : SettingsP), s.sys.windDown = false ∧ Plain h 0x0807 s ∧ p.head ≤ 3 ∧ p.gammaBypass ≤ 1 ∧ p.muraEnable ≤ 1 ∧
      p.odEnable ≤ 1 ∧ p.depth ≤ 4 ∧ p.restLevel ≤ 16383 ∧ p.thermMin ≤ p.thermMax ∧ p.thermMax ≤ 4095 ∧ p.faultBand ≤ 7 ∧ p.thresholds.length = 7
      ∧ p.settle.length = 8 ∧ p.resScale ∈ [1, 2, 4, 8] ∧ (∀ j < 6, p.thresholds.getD j 0 + 32 ≤ p.thresholds.getD (j + 1) 0) ∧ (∀ x ∈ p.settle, x
      ≤ 20000) ∧ (s.head p.head).panel.copying = false) ∧
    (∃ (h : Hdr) (s : State) (p : SettingsP), s.sys.windDown = false ∧ Plain h 0x0807 s ∧ p.head ≤ 3 ∧ p.gammaBypass ≤ 1 ∧ p.muraEnable ≤ 1 ∧
      p.odEnable ≤ 1 ∧ p.depth ≤ 4 ∧ p.restLevel ≤ 16383 ∧ p.thermMin ≤ p.thermMax ∧ p.thermMax ≤ 4095 ∧ p.faultBand ≤ 7 ∧ p.thresholds.length = 7
      ∧ p.settle.length = 8 ∧ p.resScale ∈ [1, 2, 4, 8] ∧ (∀ j < 6, p.thresholds.getD j 0 + 32 ≤ p.thresholds.getD (j + 1) 0) ∧ (∀ x ∈ p.settle, x
      ≤ 20000) ∧ (s.head p.head).panel.copying = true ∧ s.sys.ready = true) ∧
    (∃ (h : Hdr) (s : State) (n : _) (table : _) (index : _) (buffer : _) (bs : _) (t : _), s.sys.windDown = false ∧ n ≤ 3 ∧ buffer + tableBytes
      table ≤ storeSize ∧ tableOk table index = true ∧ s.storeOn = true ∧ s.readMem 0 buffer (tableBytes table) = (bs, false, t) ∧ tableValid
      table bs = true ∧ Plain h 0x0806 t ∧ t.sys.windDown = false ∧ (t.head n).panel.copying = false) :=
  ⟨⟨h0, on, 3, 1, by unfold Plain; decide⟩,
   ⟨h0, on, { head := 3, phases := 16, polarity := 524287, gckDelay := 5000, gateGuard := 20, flush := 8, parkHold := 20000 },
    by unfold Plain; decide⟩,
   ⟨h0, on,
    { head := 3, penUsed := 15, vcomSettle := 20000, penDelay := 50000, pgTimeout := 100, trainDelay := 50000, wdHold := 4000, penGap := 300 },
    by unfold Plain; decide⟩,
   ⟨h0, on, { driver := 95, head := 3, first := 98256, ch := 1920, lanes := 2, rev := 1, vendor := List.replicate 32 0 }, by decide,
    by unfold Plain; decide, by decide, by decide, by decide, by decide, by decide, by decide, by decide, by decide, by decide, by decide,
    by decide, by decide, by decide, by decide, by decide⟩,
   ⟨h0, on,
    { head := 3, gammaBypass := 1, muraEnable := 1, odEnable := 1, depth := 4, resScale := 8, restLevel := 16383, thermMin := 0, thermMax := 4095, faultBand := 7, thresholds := [80, 240, 400, 560, 720, 880, 1040], settle := [20000, 0, 0, 0, 0, 0, 0, 0] },
    by decide, by unfold Plain; decide, by decide, by decide, by decide, by decide, by decide, by decide, by decide, by decide, by decide,
    by decide, by decide, by decide, by decide, by decide, by decide⟩,
   ⟨h0, hd { parked with panel := { copying := true } },
    { head := 3, gammaBypass := 1, muraEnable := 1, odEnable := 1, depth := 4, resScale := 8, restLevel := 16383, thermMin := 0, thermMax := 4095, faultBand := 7, thresholds := [80, 240, 400, 560, 720, 880, 1040], settle := [20000, 0, 0, 0, 0, 0, 0, 0] },
    by decide, by unfold Plain; decide, by decide, by decide, by decide, by decide, by decide, by decide, by decide, by decide, by decide,
    by decide, by decide, by decide, by decide, by decide, by decide, by decide⟩,
   ⟨h0, on, 3, 2, 0, 0, _, _, by decide, by decide, by decide, by decide, by decide, rfl, rfl, by unfold Plain; decide, by decide, by decide⟩⟩

/-- The hypotheses of every clause of LedgersAreRead are met. -/
theorem witness_LedgersAreRead :
    (∃ (h : Hdr) (s : State) (n : Nat) (c : HeadConfigP) (frame : _) (buffer : _) (size : _), n ≤ 3 ∧ (s.head n).cfg = some c ∧ Plain h 0x0904 s ∧
      buffer + size ≤ storeSize ∧ panelBytes (s.head n).w (s.head n).hh ≤ size ∧ s.snapAhead n frame = true) ∧
    (∃ (h : Hdr) (s : State) (n : Nat) (c : HeadConfigP) (first : _) (rows : _) (buffer : _) (bs : _) (t : _), n ≤ 3 ∧ (s.head n).cfg = some c ∧
      Plain h 0x0905 s ∧ rows ≠ 0 ∧ first + rows ≤ (s.head n).th ∧ s.storeOn = true ∧ buffer + 64 * rows ≤ storeSize ∧ s.readMem 1 (rowTimeAt n
      first) (64 * rows) = (bs, false, t) ∧ Plain h 0x0905 t) ∧
    (∃ (h : Hdr) (s : State) (n : Nat) (c : HeadConfigP) (first : _) (rows : _) (buffer : _) (bs : _) (t : _), n ≤ 3 ∧ (s.head n).cfg = some c ∧
      Plain h 0x0905 s ∧ rows ≠ 0 ∧ first + rows ≤ (s.head n).th ∧ s.storeOn = true ∧ buffer + 8 * rows ≤ storeSize ∧ s.readMem 1 (rowCheckAt n
      first) (8 * rows) = (bs, false, t) ∧ Plain h 0x0905 t) :=
  ⟨⟨h0, hd parked, 3, cfg, 0, 0, 1024, by unfold Plain; decide⟩,
   ⟨h0, hd parked, 3, cfg, 0, 1, 0, _, _, by decide, rfl, by unfold Plain; decide, by decide, by decide, rfl, by decide, rfl,
    by unfold Plain; decide⟩,
   ⟨h0, hd parked, 3, cfg, 0, 1, 0, _, _, by decide, rfl, by unfold Plain; decide, by decide, by decide, rfl, by decide, rfl,
    by unfold Plain; decide⟩⟩

/-- The hypotheses of every clause of PairCommandsTakeEffect are met. -/
theorem witness_PairCommandsTakeEffect :
    (∃ (h : Hdr) (s : State) (prefer : _) (auto : _), Plain h 0x0D01 s ∧ prefer ≤ 1 ∧ auto ≤ 1 ∧ s.pair.port ≤ 1 ∧ s.pair.enable = false ∧
      headNums.countP (fun n => (s.head n).cfg.isSome) ≤ 1) ∧
    (∃ (h : Hdr) (s : State) (enable : _) (prefer : _) (auto : _) (port : _), Plain h 0x0D01 s ∧ enable ≤ 1 ∧ prefer ≤ 1 ∧ auto ≤ 1 ∧ port ≤ 1 ∧
      s.pair.enable = (enable == 1) ∧ (enable = 0 ∨ headNums.countP (fun n => (s.head n).cfg.isSome) ≤ 1) ∧ (port = s.pair.port ∨ ∀ n ∈ headNums,
      (s.head n).state = 0)) ∧
    (∃ (h : Hdr) (s : State) (prefer : _) (auto : _), Plain h 0x0D01 s ∧ prefer ≤ 1 ∧ auto ≤ 1 ∧ s.pair.port ≤ 1 ∧ s.pair.enable = true) ∧
    (∃ (h : Hdr) (s : State), Plain h 0x0D02 s ∧ s.sys.windDown = false ∧ s.sync.release = none ∧ s.sync.overlap = false ∧ s.sync.divergent = [] ∧
      (s.head s.pairHead).scans = true ∧ (s.partnerHot = true ∨ (s.pair.state = 5 ∧ s.pair.linkUp = true))) ∧
    (∃ (h : Hdr) (s : State), Plain h 0x0D03 s ∧ s.pair.state = 6 ∧ h.src ≠ fromPair) :=
  ⟨⟨h0, on, 1, 1, by unfold Plain; decide⟩,
   ⟨h0, on, 0, 1, 1, 1, by unfold Plain; decide⟩,
   ⟨h0, { on with pair := { enable := true } }, 1, 1, by unfold Plain; decide⟩,
   ⟨{ src := 5 }, { hd run with pair := { state := 5, linkUp := true } }, by unfold Plain; decide⟩,
   ⟨h0, { on with pair := { state := 6 } }, by unfold Plain; decide⟩⟩

/-- The hypotheses of every clause of LongCommandsAreAnsweredLater are met. -/
theorem witness_LongCommandsAreAnsweredLater :
    (∃ (h : Hdr) (s : State) (fn : _), Plain h 0x0103 s ∧ funcKnown fn = true ∧ fn ∉ s.sys.funcBusy ∧ s.sys.windDown = false) ∧
    (∃ (h : Hdr) (s : State) (page : _) (offset : _) (data : List Byte), Plain h 0x0E02 s ∧ page ≤ 3071 ∧ offset ≤ 63 ∧ 1 ≤ data.length ∧
      data.length ≤ 64 ∧ nvsServed h s = true ∧ s.sys.windDown = false) ∧
    (∃ (h : Hdr) (s : State) (id : _) (data : List Byte) (first : _) (rest : _), Plain h 0x0E04 s ∧ recordSize id ≠ 0 ∧ data.length ≤ recordSize
      id ∧ 0x10 ≤ id ∧ s.nvs.scanning = false ∧ s.sys.windDown = false ∧ copyPages id (makeCopy id (nextCopy s.nvs id).2 data) = first :: rest) ∧
    (∃ (id : _) (data : List Byte), recordSize id ≠ 0 ∧ recordSize id < data.length) :=
  ⟨⟨h0, on, 0x62, by unfold Plain; decide⟩,
   ⟨h0, on, 3071, 63, [0], by unfold Plain; decide⟩,
   ⟨h0, on, 0x207, [1], _, _, by unfold Plain; decide, by decide, by decide, by decide, rfl, rfl, rfl⟩,
   ⟨0x0F, List.replicate 53 0, by decide⟩⟩

/-- The hypotheses of every clause of PowerCommandsTakeEffect are met. -/
theorem witness_PowerCommandsTakeEffect :
    (∃ (h : Hdr) (s : State) (d : _) (st : _), Plain h 0x0F01 s ∧ d ≤ 10 ∧ st ≤ 2 ∧ s.seqBusy = false ∧ s.pd d ≠ st ∧ s.pdRefused d st = false) ∧
    (∃ (h : Hdr) (s : State) (op : _), Plain h 0x0F02 s ∧ op ≤ 2 ∧ s.seqBusy = false ∧ (op ≠ s.power.op ∨ s.power.div8 = true)) ∧
    (∃ (h : Hdr) (s : State) (p : YoyoP), Plain h 0x0F03 s ∧ yoyoOk p s = true ∧ p.enable = 0 ∧ ((s.yoyo p.unit).on = true ∨ (s.yoyo p.unit).stuck
      = true)) ∧
    (∃ (h : Hdr) (s : State) (p : YoyoP), Plain h 0x0F03 s ∧ yoyoOk p s = true ∧ p.enable = 1 ∧ (p.unit = thermalUnit → s.pd 9 ≠ 0 ∧ s.pd 10 ≠ 0)
      ∧ (p.unit = stringUnit → s.pair.linkUp = false) ∧ (s.yoyo p.unit).on = true) ∧
    (∃ (h : Hdr) (s : State) (p : YoyoP), Plain h 0x0F03 s ∧ yoyoOk p s = true ∧ p.enable = 1 ∧ (p.unit = thermalUnit → s.pd 9 ≠ 0 ∧ s.pd 10 ≠ 0)
      ∧ (p.unit = stringUnit → s.pair.linkUp = false) ∧ (s.yoyo p.unit).on = false) :=
  ⟨⟨h0, on, 10, 1, by unfold Plain; decide⟩,
   ⟨h0, on, 0, by unfold Plain; decide⟩,
   ⟨h0, { on with power := { yoyo := [(31, { on := true })] } }, { unit := 31 }, by unfold Plain; decide⟩,
   ⟨h0, { on with power := { yoyo := [(31, { on := true })] } }, yy, by unfold Plain; decide⟩,
   ⟨h0, on, yy, by unfold Plain; decide⟩⟩

/-- The hypotheses of every clause of CommandsAreTurnedAway are met. -/
theorem witness_CommandsAreTurnedAway :
    (∃ (h : Hdr), h.timed = true) ∧
    (∃ (n : _), 3 < n) ∧
    (∃ (h : Hdr) (s : State), h.timed = false ∧ h.genCheck = true ∧ h.gen ≠ s.time.tpGen) ∧
    (∃ (h : Hdr) (s : State), h.timed = false ∧ h.genCheck = false ∧ s.sys.ready = false) ∧
    (∃ (h : Hdr) (s : State) (p : PresentP), Plain h 0x0603 s ∧ p.head ≤ 3 ∧ s.sys.windDown = true) ∧
    (∃ (h : Hdr) (s : State) (n : _), Plain h 0x0704 s ∧ n ≤ 3 ∧ s.sys.windDown = true) ∧
    (∃ (h : Hdr) (s : State) (n : _), Plain h 0x0704 s ∧ n ≤ 3 ∧ s.sys.windDown = false ∧ (s.head n).stoppable = false) ∧
    (∃ (h : Hdr) (s : State) (n : _), h.timed = true ∧ h.launch.ns < 1000000000 ∧ launchAt h ≤ s.tp + 86400 * uSec ∧ h.genCheck = false ∧
      s.sys.ready = true ∧ s.sys.windDown = false ∧ n ≤ 3 ∧ (s.head n).stoppable = true ∧ 256 ≤ queueLen s n) ∧
    (∃ (h : Hdr) (s : State) (n : _), h.timed = true ∧ h.launch.ns < 1000000000 ∧ launchAt h + uSec < s.tp ∧ h.genCheck = false ∧ s.sys.ready =
      true ∧ s.sys.windDown = false ∧ n ≤ 3 ∧ (s.head n).stoppable = true ∧ queueLen s n < 256) ∧
    (∃ (h : Hdr) (s : State) (n : _), Plain h 0x0704 s ∧ s.standby = true ∧ h.src = fromPair ∧ n ≤ 3 ∧ s.sys.windDown = false ∧ (s.head
      n).stoppable = false) :=
  ⟨⟨hT, by decide⟩,
   ⟨4, by decide⟩,
   ⟨{ genCheck := true, gen := 1 }, on, by decide⟩,
   ⟨h0, State.reset, by decide⟩,
   ⟨h0, { on with sys := { on.sys with windDown := true } }, pres, by unfold Plain; decide⟩,
   ⟨h0, { on with sys := { on.sys with windDown := true } }, 3, by unfold Plain; decide⟩,
   ⟨h0, on, 3, by unfold Plain; decide⟩,
   ⟨hT, { hd run with cp := { launch := List.replicate 256 { queue := 3, timed := true } } }, 3, by decide, by decide, by decide, by decide,
    by decide, by decide, by decide, by decide, by decide +kernel⟩,
   ⟨hT, { hd run with time := { tp := 10 ^ 24 } }, 3, by decide⟩,
   ⟨{ src := 5 }, { on with pair := { state := 3 } }, 3, by unfold Plain; decide⟩⟩

/-- The hypotheses of every clause of PacketsAreTakenInTurn are met. -/
theorem witness_PacketsAreTakenInTurn :
    (∃ (s : State), (∀ src < 5, s.sourceReady src = false)) ∧
    (∃ (s : State) (k : _) (bs : _) (t : _), k < 5 ∧ (s.cp.turn + k) % 5 < 4 ∧ s.sourceReady ((s.cp.turn + k) % 5) = true ∧ (∀ j < k,
      s.sourceReady ((s.cp.turn + j) % 5) = false) ∧ ({ s with cp := { s.cp with turn := ((s.cp.turn + k) % 5 + 1) % 5 } } : State).readSlots
      (s.ring ((s.cp.turn + k) % 5)) (s.ring ((s.cp.turn + k) % 5)).ci (slotsOf (s.nextLength (s.ring ((s.cp.turn + k) % 5)))) = (bs, false, t)) ∧
    (∃ (s : State) (k : _) (t : _), k < 5 ∧ (s.cp.turn + k) % 5 = 4 ∧ s.sourceReady 4 = true ∧ (∀ j < k, s.sourceReady ((s.cp.turn + j) % 5) =
      false) ∧ t = ({ s with cp := { s.cp with turn := 0 }, mbx := { s.mbx with taken := true } } : State).acceptPacket 4 s.mbxPacket) :=
  ⟨⟨on, by decide⟩,
   ⟨ringed, 4, _, _, by decide, by decide, by decide, by decide, rfl⟩,
   ⟨mailed, 4, _, by decide, by decide, by decide, by decide, rfl⟩⟩

/-- The hypotheses of every clause of PacketsRunAsCommanded are met. -/
theorem witness_PacketsRunAsCommanded :
    (∃ (s : State) (src : Nat) (bs : List Byte) (i : _), readPacket src bs = .inr i ∧ (s.pairActive && pairGroup (opOf bs)) = false) ∧
    (∃ (src : Nat) (bs : List Byte) (st : _), readPacket src bs = .inl st) :=
  ⟨⟨on, 3, nopPacket, _, rfl, by decide⟩,
   ⟨4, List.replicate 1024 0, _, rfl⟩⟩

/-- The hypotheses of every clause of MailboxWorks are met. -/
theorem witness_MailboxWorks :
    (∃ (s : State), s.mbx.state = 1) ∧
    (∃ (s : State), s.mbx.state ≠ 1) ∧
    (∃ (s : State), s.mbx.state ≠ 1) ∧
    (∃ (s : State) (e : _) (rest : _), s.mbx.events = e :: rest) ∧
    (∃ (s : State), s.mbx.events = []) ∧
    (∃ (s : State), s.mbx.state = 1 ∧ s.mbx.taken = false ∧ mgtOpcode (opOf s.mbxPacket) = false) ∧
    (∃ (s : State), s.sys.aonReset = false) :=
  ⟨⟨mailed, by decide⟩,
   ⟨on, by decide⟩,
   ⟨on, by decide⟩,
   ⟨{ on with mbx := { events := [[1]] } }, _, _, rfl⟩,
   ⟨on, by decide⟩,
   ⟨mailed, by decide⟩,
   ⟨on, by decide⟩⟩

/-- The hypotheses of every clause of RepliesEventsAndMessagesGoOut are met. -/
theorem witness_RepliesEventsAndMessagesGoOut :
    (∃ (s : State) (r : _) (ring : _), s.cp.replies.find? (fun r => r.src == ring) = some r ∧ ring < 4 ∧ s.pdOn 0 = true ∧ (s.ring (ring +
      4)).enable = true ∧ (s.ring (ring + 4)).used + ceilDiv (replyBytes r).length 64 ≤ (s.ring (ring + 4)).size) ∧
    (∃ (s : State) (r : _), s.cp.replies.find? (fun r => r.src == 4) = some r) ∧
    (∃ (s : State) (e : _) (rest : _), s.cp.events = e :: rest ∧ s.pdOn 0 = true ∧ (spGet s.cp.routes {} e.code).off = true) ∧
    (∃ (s : State) (e : _) (rest : _) (t : _), s.cp.events = e :: rest ∧ s.pdOn 0 = true ∧ (spGet s.cp.routes {} e.code).off = false ∧ (spGet
      s.cp.routes {} e.code).mgt = false ∧ (s.ring 8).enable = true ∧ (s.ring 8).used < (s.ring 8).size ∧ t =
      ({ s with cp := { s.cp with events := rest, evSeq := inc32 s.cp.evSeq } } : State).writeSlots (s.ring 8) (s.ring 8).pi (eventBytes e
      s.cp.evSeq s.cp.lost)) ∧
    (∃ (s : State) (e : _) (rest : _), s.cp.events = e :: rest ∧ s.pdOn 0 = true ∧ (spGet s.cp.routes {} e.code).off = false ∧ (spGet s.cp.routes
      {} e.code).mgt = false ∧ (s.ring 8).enable = false) ∧
    (∃ (s : State) (v : _), v ∈ s.cp.msiDue ∧ s.sys.pcieUp = true ∧ (spGet s.cp.msiSent 0 v = 0 ∨ spGet s.cp.msiSent 0 v + 800 * spGet s.cp.msiMod
      0 v ≤ s.timeRegs.ticks + 1)) :=
  ⟨⟨{ aring 7 { enable := true, base := 0x300000, pi := 15 } with cp := { replies := [{ src := 3 }] } }, _, 3, rfl, by decide, by decide,
    by decide, by decide⟩,
   ⟨{ on with cp := { replies := [{ src := 4 }] } }, _, rfl⟩,
   ⟨{ evt with cp := { evt.cp with routes := [(0xE001, { off := true })] } }, _, _, rfl, by decide, by decide⟩,
   ⟨{ evt with rings := [(8, { enable := true, base := 0x300000, pi := 15 })] }, _, _, _, rfl, by decide, by decide, by decide, by decide,
    by decide, rfl⟩,
   ⟨evt, _, _, rfl, by decide, by decide, by decide, by decide⟩,
   ⟨{ on with sys := { on.sys with pcieUp := true }, cp := { msiDue := [31] } }, 31, by decide⟩⟩

/-- The hypotheses of every clause of WaitsEndInTimeouts are met. -/
theorem witness_WaitsEndInTimeouts :
    (∃ (s : State) (src : _) (r : _), s.cp.running.find? (fun r => r.src == src && (r.waitsStore || ((r.opcode == 0x0E02 || r.opcode == 0x0E04) &&
      s.nvs.commit.isSome))) = some r) ∧
    (∃ (s : State) (r : _), r ∈ s.cp.running ∧ r.src ≠ fromPair) ∧
    (∃ (s : State) (off : _) (w : _), s.power.heldWrites.find? (fun w => w.1 == off) = some w) ∧
    (∃ (s : State) (p : MatrixP), p.master ≤ 7 ∧ p.master ≠ 5 ∧ s.pdOn 0 = true ∧ ((reachOf s p.master p.addr).target ≠ 3 ∨ s.nvs.commit = none)) ∧
    (∃ (s : State) (p : MatrixP), p.master ≤ 7 ∧ p.master ≠ 5 ∧ s.pdOn 0 = true ∧ (reachOf s p.master p.addr).target = 3 ∧ s.nvs.commit ≠ none) :=
  ⟨⟨{ on with cp := { running := [{ src := 4, waitsStore := true }] } }, 4, _, rfl⟩,
   ⟨{ on with cp := { running := [{ src := 4 }] } }, { src := 4 }, by decide⟩,
   ⟨{ on with power := { heldWrites := [(0x100, 5)] } }, 0x100, _, rfl⟩,
   ⟨on, { master := 7, addr := 0, write := false, len := 64, data := [] }, by decide⟩,
   ⟨{ on with nvs := { on.nvs with commit := some {} } }, { master := 7, addr := 0x2103FFFC, write := false, len := 4, data := [] }, by decide⟩⟩

/-- The hypotheses of every clause of RegisterAccessRules are met. -/
theorem witness_RegisterAccessRules :
    (∃ (off : _) (en : _), (¬(en % 16 = 15 ∧ off % 4 = 0))) ∧
    (∃ (s : State) (off : _) (en : _), en % 16 = 15 ∧ off % 4 = 0 ∧ (inCtl off = false ∨ s.pdOn 0 = true) ∧ (inCtl off = false ∨ s.pdShown 0 ≠ 2)) ∧
    (∃ (s : State) (off : _) (en : _), en % 16 = 15 ∧ off % 4 = 0 ∧ inCtl off = true ∧ s.pdShown 0 = 2) ∧
    (∃ (s : State) (off : _) (en : _), en % 16 = 15 ∧ off % 4 = 0 ∧ inCtl off = true ∧ s.pdShown 0 ≠ 2 ∧ s.pdOn 0 = false) ∧
    (∃ (n : _) (c : _), n ≤ 3 ∧ c ≤ 15) ∧
    (∃ (off : _), 0x70000 ≤ off ∧ off < 0x80000) :=
  ⟨⟨2, 15, by decide⟩,
   ⟨on, 0x1FFFC, 15, by decide⟩,
   ⟨dom 0 2, 0x80000, 15, by decide⟩,
   ⟨dom 0 1, 0xFFFFC, 15, by decide⟩,
   ⟨3, 15, by decide⟩,
   ⟨0x7FFFC, by decide⟩⟩

/-- The hypotheses of every clause of RingRegistersWork are met. -/
theorem witness_RingRegistersWork :
    (∃ (s : State) (r : _) (v : _), s.pdOn 0 = true ∧ s.pdShown 0 ≠ 2 ∧ r ≤ 3 ∧ v < 2 ^ 32 ∧ (s.ring r).enable = true ∧ diff32 v (s.ring r).ci ≤
      (s.ring r).size) ∧
    (∃ (s : State) (r : _) (v : _), s.pdOn 0 = true ∧ s.pdShown 0 ≠ 2 ∧ r ≤ 3 ∧ v < 2 ^ 32 ∧ (s.ring r).enable = true ∧ (s.ring r).size < diff32 v
      (s.ring r).ci) ∧
    (∃ (s : State) (r : _) (v : _), s.pdOn 0 = true ∧ s.pdShown 0 ≠ 2 ∧ r ≤ 3 ∧ v < 2 ^ 32 ∧ (s.ring r).enable = false) ∧
    (∃ (s : State) (r : _) (v : _), s.pdOn 0 = true ∧ s.pdShown 0 ≠ 2 ∧ 4 ≤ r ∧ r ≤ 8 ∧ v < 2 ^ 32 ∧ (s.ring r).enable = true ∧ diff32 (s.ring
      r).pi v ≤ (s.ring r).size) ∧
    (∃ (s : State) (r : _) (log2 : _), s.pdOn 0 = true ∧ s.pdShown 0 ≠ 2 ∧ r ≤ 8 ∧ 4 ≤ log2 ∧ log2 ≤ 12 ∧ (s.ring r).enable = false ∧ ringFits
      (s.ring r).base log2 = true ∧ (r = 8 → s.sys.ready = false)) ∧
    (∃ (s : State) (r : _) (log2 : _), s.pdOn 0 = true ∧ s.pdShown 0 ≠ 2 ∧ r ≤ 8 ∧ 4 ≤ log2 ∧ log2 ≤ 12 ∧ (s.ring r).enable = false ∧ ringFits
      (s.ring r).base log2 = false) ∧
    (∃ (s : State) (t : _) (v : _), s.pdOn 0 = true ∧ s.pdShown 0 ≠ 2 ∧ t ≤ 7 ∧ v < 2 ^ 31) ∧
    (∃ (s : State) (t : _) (v : _), s.pdOn 0 = true ∧ s.pdShown 0 ≠ 2 ∧ t ≤ 7 ∧ v < 2 ^ 31 ∧ s.clocks.fabSel = 0) :=
  ⟨⟨aring 3 { enable := true }, 3, 16, by decide⟩,
   ⟨aring 3 { enable := true }, 3, 17, by decide⟩,
   ⟨on, 3, 0xFFFFFFFF, by decide⟩,
   ⟨aring 8 { enable := true, pi := 16 }, 8, 0, by decide⟩,
   ⟨{ aring 8 { base := 0x3C0000 } with sys := { on.sys with ready := false } }, 8, 12, by decide⟩,
   ⟨aring 8 { base := 0x3C0040 }, 8, 12, by decide⟩,
   ⟨on, 7, 0x7FFFFFFF, by decide⟩,
   ⟨on, 7, 0x7FFFFFFF, by decide⟩⟩

/-- The hypotheses of every clause of TimeRegistersWork are met. -/
theorem witness_TimeRegistersWork :
    (∃ (s : State) (d : _), d ≤ 1 ∧ d ≠ s.time.selected ∧ s.switchOk d = true) ∧
    (∃ (s : State) (d : _), d ≤ 1 ∧ d ≠ s.time.selected ∧ s.switchOk d = false ∧ ((s.domain d).state ≠ 3 ∨ (s.diffFrom d).natAbs ≤ s.jumpUnits)) ∧
    (∃ (s : State) (v : _), bits v 7 5 = 0 ∧ bits v 3 3 = s.time.selected) ∧
    (∃ (s : State) (v : _), bits v 4 4 = 0 ∧ bits v 7 6 = 0 ∧ bits v 3 3 = s.time.selected ∧ s.timeRegs.loadNs < 1000000000 ∧ s.time.tracking =
      true) ∧
    (∃ (s : State) (v : _), bits v 5 4 = 0 ∧ bits v 7 7 = 0 ∧ bits v 3 3 = s.time.selected ∧ s.timeRegs.loadNs < 1000000000) ∧
    (∃ (s : State) (v : _), bits v 6 4 = 0 ∧ bits v 3 3 = s.time.selected ∧ s.timeRegs.loadNs < 1000000000) ∧
    (∃ (s : State), 1000000000 ≤ s.timeRegs.loadNs) ∧
    (∃ (s : State) (v : _), (sx 40 (bits v 7 0 * 2 ^ 32 + s.time.rateLoA)).natAbs ≤ 32768000000) ∧
    (∃ (s : State) (v : _), (sx 40 (bits v 7 0 * 2 ^ 32 + s.time.rateLoB)).natAbs ≤ 32768000000) ∧
    (∃ (s : State) (v : _), 32768000000 < (sx 40 (bits v 7 0 * 2 ^ 32 + s.time.rateLoA)).natAbs) :=
  ⟨⟨on, 1, by decide⟩,
   ⟨timeUnit { tracking := true }, 1, by decide⟩,
   ⟨on, 16, by decide⟩,
   ⟨timeUnit { tracking := true }, 32, by decide⟩,
   ⟨on, 64, by decide⟩,
   ⟨on, 128, by decide⟩,
   ⟨{ on with timeRegs := { loadNs := 1000000000 } }, by decide⟩,
   ⟨timeUnit { rateLoA := 2703228928 }, 7, by decide⟩,
   ⟨timeUnit { rateLoB := 2703228928 }, 7, by decide⟩,
   ⟨timeUnit { rateLoA := 2703228929 }, 7, by decide⟩⟩

/-- The hypotheses of every clause of LaneRegistersWork are met. -/
theorem witness_LaneRegistersWork :
    (∃ (s : State) (i : Nat) (v : Nat), i < 228 ∧ bits v 10 8 ≤ 2 ∧ (bits v 10 8 = 0 ∨ (s.testBlocked i = false ∧ s.groupTaken i = false ∧ (s.lane
      i).loopback ≠ 0))) ∧
    (∃ (s : State) (i : Nat) (v : Nat), i < 228 ∧ bits v 10 8 ≠ 0 ∧ bits v 10 8 ≤ 2 ∧ s.testBlocked i = true) ∧
    (∃ (i : Nat) (v : Nat), i < 228 ∧ bits v 10 8 = 0) ∧
    (∃ (s : State) (i : Nat) (v : Nat), i < 228 ∧ i < 36 ∧ (s.lane i).bitslip = true ∧ 1 ≤ bits v 6 0 ∧ bits v 6 0 ≤ 65 ∧ (s.lane i).blockLock =
      false ∧ (i < 32 → (s.quad (i / 4)).mode ≠ 3)) ∧
    (∃ (s : State) (i : Nat), i < 228 ∧ i < 36 ∧ (s.lane i).bitslip = false) ∧
    (∃ (s : State) (i : Nat) (v : Nat), i < 228 ∧ bits v 2 0 ≤ 4 ∧ s.testBlocked i = false ∧ (s.lane i).loopback ≠ 3 ∧ (s.prb i).gen = true) ∧
    (∃ (i : Nat) (v : Nat), i < 228 ∧ bits v 2 0 ≤ 4 ∧ bit v 9 = false) ∧
    (∃ (s : State) (i : Nat), i < 228 ∧ chkAttached i s = true) ∧
    (∃ (s : State) (i : Nat), i < 228 ∧ (s.prb i).chk = true ∧ chkAttached i s = true) ∧
    (∃ (s : State) (i : Nat), i < 228 ∧ (s.prb i).chk = true ∧ chkAttached i s = true ∧ (s.prb i).chkSync = true) :=
  ⟨⟨{ on with lanes := [(227, { loopback := 1 })] }, 227, 0x200, by decide⟩,
   ⟨on, 0, 0x100, by decide⟩,
   ⟨227, 0, by decide⟩,
   ⟨{ on with lanes := [(35, { bitslip := true })] }, 35, 65, by decide⟩,
   ⟨on, 35, by decide⟩,
   ⟨{ on with prbs := [(227, { gen := true })] }, 227, 4, by decide⟩,
   ⟨227, 4, by decide⟩,
   ⟨on, 35, by decide⟩,
   ⟨{ on with prbs := [(35, { chk := true })] }, 35, by decide⟩,
   ⟨{ on with prbs := [(35, { chk := true, chkSync := true })] }, 35, by decide⟩⟩

/-- The hypotheses of every clause of ControlRegistersWork are met. -/
theorem witness_ControlRegistersWork :
    (∃ (v : _), bit v 0 = true ∧ bits v 31 16 = 0x9160) ∧
    (∃ (v : _), (bit v 0 = false ∨ bits v 31 16 ≠ 0x9160)) ∧
    (∃ (s : State) (len : _), s.sys.pushWait = true ∧ len % 4 = 0 ∧ 516 ≤ len ∧ len ≤ 2097664) ∧
    (∃ (s : State), s.sys.pushWait = true ∧ s.sys.pushBytes.length < s.sys.announced) ∧
    (∃ (len : _), len < 2 ^ 22) ∧
    (∃ (s : State), s.sys.accepted = true ∧ s.sys.remap = false) ∧
    (∃ (s : State) (fn : _), fn < 65536 ∧ funcKnown fn = true ∧ fn ∉ s.sys.funcBusy ∧ s.sys.windDown = false) ∧
    (∃ (s : State) (d : _) (st : _), s.sys.aonReset = false ∧ d ≤ 10 ∧ st ≤ 2 ∧ s.seqBusy = false ∧ s.pd d ≠ st ∧ s.pdRefused d st = false) ∧
    (∃ (s : State) (d : _) (st : _), s.sys.aonReset = false ∧ d ≤ 10 ∧ st ≤ 2 ∧ s.seqBusy = false ∧ s.pd d ≠ st ∧ s.pdRefused d st = true) ∧
    (∃ (s : State) (op : _), s.sys.aonReset = false ∧ op ≤ 2 ∧ s.seqBusy = false ∧ op ≠ s.power.op) ∧
    (∃ (s : State) (d : _), s.sys.aonReset = false ∧ d ≤ 10) ∧
    (∃ (s : State) (v : _), s.sys.aonReset = false ∧ (v = 1 ∨ v = 2)) ∧
    (∃ (s : State), s.sys.aonReset = false ∧ (∀ t < 8, (spGet s.fab.tgt {} t).bypass = false)) ∧
    (∃ (s : State) (t : _), s.sys.aonReset = false ∧ t < 8 ∧ (spGet s.fab.tgt {} t).bypass = true ∧ s.clocks.fabSel ≠ 0) ∧
    (∃ (sh : _), 10 ≤ sh ∧ sh ≤ 20) ∧
    (∃ (n : _) (low : _) (crit : _), n ≤ 3 ∧ 16 ≤ low ∧ low ≤ 56 ∧ 8 ≤ crit ∧ crit + 8 ≤ low) ∧
    (∃ (n : _), n ≤ 3) :=
  ⟨⟨0x91600001, by decide⟩,
   ⟨0x91600000, by decide⟩,
   ⟨{ on with sys := { pushWait := true } }, 2097664, by decide⟩,
   ⟨{ on with sys := { pushWait := true, announced := 516 } }, by decide⟩,
   ⟨4194303, by decide⟩,
   ⟨{ on with sys := { accepted := true } }, by decide⟩,
   ⟨on, 0x64, by decide⟩,
   ⟨on, 10, 2, by decide⟩,
   ⟨hd parked, 10, 2, by decide⟩,
   ⟨on, 1, by decide⟩,
   ⟨on, 10, by decide⟩,
   ⟨on, 2, by decide⟩,
   ⟨on, by decide⟩,
   ⟨{ on with fab := { tgt := [(7, { bypass := true })] }, clocks := { fabSel := 1 } }, 7, by decide⟩,
   ⟨20, by decide⟩,
   ⟨3, 56, 48, by decide⟩,
   ⟨3, by decide⟩⟩

/-- The hypotheses of every clause of HostWindowsReachTheMemories are met. -/
theorem witness_HostWindowsReachTheMemories :
    (∃ (s : State) (addr : _) (data : List Byte) (ok : _) (t : _), s.sys.ready = true ∧ s.pdOn 0 = true ∧ s.storeOn = true ∧ addr + data.length ≤
      storeSize ∧ meets addr data.length tileRegion (storeSize - tileRegion) = false ∧ s.hitsPanel addr data.length = false ∧ s.guardedWrite addr
      data = (ok, t)) ∧
    (∃ (s : State) (addr : _) (data : List Byte), s.sys.ready = true ∧ s.pdOn 0 = true ∧ s.storeOn = true ∧ addr + data.length ≤ storeSize ∧ meets
      addr data.length tileRegion (storeSize - tileRegion) = true) ∧
    (∃ (s : State) (addr : _) (data : List Byte), s.sys.ready = true ∧ s.pdOn 0 = true ∧ s.storeOn = true ∧ addr + data.length ≤ storeSize ∧ meets
      addr data.length tileRegion (storeSize - tileRegion) = false ∧ s.hitsPanel addr data.length = true) ∧
    (∃ (s : State) (addr : _) (len : _), s.sys.ready = true ∧ s.pdOn 0 = true ∧ s.storeOn = true ∧ addr + len ≤ storeSize ∧ addr + len ≤
      tileRegion ∧ s.markedIn 0 addr len = []) ∧
    (∃ (s : State) (addr : _) (len : _), s.sys.ready = true ∧ s.pdOn 0 = true ∧ (s.storeOn = false ∨ storeSize < addr + len)) ∧
    (∃ (s : State) (offset : _) (data : List Byte), s.sys.ready = true ∧ s.pdOn 0 = true ∧ 0x300000 ≤ offset ∧ offset + data.length ≤ 0x400000 ∧
      offset % 4 = 0 ∧ data.length % 4 = 0) ∧
    (∃ (s : State) (offset : _) (data : List Byte), s.sys.ready = true ∧ s.pdOn 0 = true ∧ (offset < 0x300000 ∨ 0x400000 < offset + data.length)) ∧
    (∃ (s : State) (offset : _) (len : _), s.sys.ready = true ∧ s.pdOn 0 = true ∧ offset + len ≤ sramSize ∧ offset + len ≤ 0x400000 ∧ s.markedIn 1
      offset len = [] ∧ s.banksOn offset len = true) ∧
    (∃ (s : State) (offset : _) (len : _), s.sys.ready = true ∧ s.pdOn 0 = true ∧ offset + len ≤ sramSize ∧ s.banksOn offset len = false ∧
      s.fab.errValid = false) :=
  ⟨⟨on, tileRegion - 4, [1, 2, 3, 4], _, _, rfl, rfl, rfl, by decide, rfl, rfl, rfl⟩,
   ⟨on, tileRegion, [0], by decide⟩,
   ⟨hd parked, 0, [0], by decide⟩,
   ⟨on, tileRegion - 16, 16, by decide⟩,
   ⟨dom 9 2, 0, 0, by decide⟩,
   ⟨on, 0x3FFFFC, [1, 2, 3, 4], by decide⟩,
   ⟨on, 0x2FFFFF, [1], by decide⟩,
   ⟨on, 0x3FFFFC, 4, by decide⟩,
   ⟨on, 0x800000, 4, by decide⟩⟩

/-- The hypotheses of every clause of TheControlMapIsReached are met. -/
theorem witness_TheControlMapIsReached :
    (∃ (b : Nat), b < 32) ∧
    (∃ (s : State) (offset : _), s.pdOn 0 = true ∧ offset < sramSize ∧ s.bankState (bankOf offset) = 0 ∧ spGet s.mem.sramErr 0 (offset / 4) = 0) ∧
    (∃ (s : State) (p : MatrixP) (a : _), s.pdOn 0 = true ∧ p.master ≤ 7 ∧ p.master ≠ 5 ∧ (p.master = 7 → s.sys.debugLocked = false) ∧ p.len ≤ 64
      ∧ p.data.length ≤ 64 ∧ p.write = true ∧ p.addr = 0x10000000 + a ∧ a % 4 = 0 ∧ p.data.length % 4 = 0 ∧ a < sramSize ∧ a + p.data.length ≤
      sramSize ∧ s.banksOn a p.data.length = true) ∧
    (∃ (s : State) (p : MatrixP) (a : _), s.pdOn 0 = true ∧ p.master ≤ 7 ∧ p.master ≠ 5 ∧ (p.master = 7 → s.sys.debugLocked = false) ∧ p.len ≤ 64
      ∧ p.data.length ≤ 64 ∧ p.write = false ∧ p.addr = 0x10000000 + a ∧ a + p.len ≤ 0x400000 ∧ s.banksOn a p.len = true ∧ s.markedIn 1 a p.len =
      []) ∧
    (∃ (s : State) (p : MatrixP), s.pdOn 0 = true ∧ p.master ≤ 7 ∧ p.master ≠ 5 ∧ (p.master = 7 → s.sys.debugLocked = false) ∧ p.len ≤ 64 ∧
      p.data.length ≤ 64 ∧ reachOf s p.master p.addr = .unmapped ∧ s.fab.errValid = false) ∧
    (∃ (s : State) (master : _), s.pdOn 0 = true ∧ master ≤ 7 ∧ master ≠ 4 ∧ s.fab.errValid = true) ∧
    (∃ (s : State) (unit : _) (ok : _) (t : _), s.pdOn 0 = true ∧ unit < 512 ∧ s.bankState unit = 0 ∧ s.sys.planesHeld = false ∧ s.checkWord 1
      (32768 * unit + spGet s.mem.scrubPos 0 unit) = (ok, t)) ∧
    (∃ (s : State) (unit : _), s.pdOn 0 = true ∧ unit < 512 ∧ s.bankState unit = 0 ∧ s.sys.planesHeld = false ∧ spGet s.mem.sramErr 0 (32768 *
      unit + spGet s.mem.scrubPos 0 unit) = 1) :=
  ⟨⟨31, by decide⟩,
   ⟨on, 0x7FFFFC, by decide⟩,
   ⟨on, { master := 6, addr := 0x107FFFFC, write := true, len := 4, data := [1, 2, 3, 4] }, 0x7FFFFC, by decide⟩,
   ⟨on, { master := 6, addr := 0x103FFFFC, write := false, len := 4, data := [1, 2, 3, 4] }, 0x3FFFFC, by decide⟩,
   ⟨on, { master := 6, addr := 0x40000, write := true, len := 4, data := [1, 2, 3, 4] }, by decide⟩,
   ⟨{ on with fab := { errValid := true } }, 7, by decide⟩,
   ⟨on, 63, _, _, rfl, by decide, rfl, rfl, rfl⟩,
   ⟨{ on with mem := { sramErr := [(2064384, 1)] } }, 63, by decide⟩⟩

/-- The hypotheses of every clause of ResetsLeaveTheirState are met. -/
theorem witness_ResetsLeaveTheirState :
    (∃ (s : State), s.nvs.commit = none) ∧
    (∃ (s : State), s.sys.aonReset = true) ∧
    (∃ (s : State), s.sys.aonReset = false ∧ s.nvs.scanning = true ∧ s.sys.funcBusy.contains 0x62 = false) ∧
    (∃ (s : State), s.sys.aonReset = false ∧ s.sys.perst = false ∧ s.wind = none ∧ s.anyEnable = false) ∧
    (∃ (s : State), s.sys.aonReset = false ∧ s.sys.perst = false ∧ s.wind = none ∧ s.anyEnable = true ∧ s.sys.windDown = false) ∧
    (∃ (s : State), s.sys.aonReset = false ∧ s.sys.perst = true ∧ s.wind = none) ∧
    (∃ (s : State), s.sys.planesHeld = false) ∧
    (∃ (s : State) (fn : _), s.resetting fn = true ∧ s.funcMayEnd fn = true) :=
  ⟨⟨on, by decide⟩,
   ⟨State.reset, by decide⟩,
   ⟨{ on with nvs := {} }, by decide⟩,
   ⟨on, by decide⟩,
   ⟨hd { run with pins := { pen := 1 } }, by decide⟩,
   ⟨{ on with sys := { on.sys with perst := true } }, by decide⟩,
   ⟨on, by decide⟩,
   ⟨{ on with sys := { on.sys with funcBusy := [0x64] } }, 0x64, by decide⟩⟩

/-- The hypotheses of every clause of TheDeviceStartsUp are met. -/
theorem witness_TheDeviceStartsUp :
    (∃ (s : State), s.sys.planesHeld = false ∧ s.clocks.refclkOk = true) ∧
    (∃ (s : State), s.sys.planesHeld = false ∧ s.clocks.started = true ∧ s.sys.accepted = false ∧ s.sys.pushWait = false ∧ s.sys.bootsel = 1) ∧
    (∃ (s : State), s.sys.planesHeld = false ∧ s.clocks.started = true ∧ s.sys.accepted = false ∧ s.sys.pushWait = false ∧ s.sys.bootsel ≠ 1) ∧
    (∃ (s : State) (a : List Byte) (b : List Byte), s.sys.planesHeld = false ∧ s.clocks.started = true ∧ s.sys.accepted = false ∧ s.sys.pushWait =
      false ∧ s.sys.bootsel ≠ 1 ∧ imageMagic a = true ∧ (imageMagic b = false ∨ imageRelease b ≤ imageRelease a)) ∧
    (∃ (s : State), s.sys.remap = true ∧ s.sys.ready = false) ∧
    (∃ (s : State), s.sys.planesHeld = false) ∧
    (∃ (s : State), s.sys.aonReset = false ∧ s.sys.windDown = false) ∧
    (∃ (s : State), s.sys.aonReset = false ∧ s.sys.windDown = true) ∧
    (∃ (s : State), s.sys.aonReset = false ∧ s.sys.windDown = false ∧ s.sys.txHeld = true) ∧
    (∃ (s : State), s.sys.aonReset = false) ∧
    (∃ (s : State) (n : _), n ≤ 1 ∧ s.sys.aonReset = false) :=
  ⟨⟨on, by decide⟩,
   ⟨{ on with sys := { on.sys with bootsel := 1 } }, by decide⟩,
   ⟨on, by decide⟩,
   ⟨on, [0x53, 0x4B, 0x4D, 0x4F], [0x53, 0x4B, 0x4D, 0x4F], by decide⟩,
   ⟨{ on with sys := { remap := true } }, by decide⟩,
   ⟨on, by decide⟩,
   ⟨on, by decide⟩,
   ⟨{ on with sys := { on.sys with windDown := true } }, by decide⟩,
   ⟨{ on with sys := { on.sys with txHeld := true } }, by decide⟩,
   ⟨on, by decide⟩,
   ⟨on, 1, by decide⟩⟩

/-- The hypotheses of every clause of WindDownsTurnThePanelsOff are met. -/
theorem witness_WindDownsTurnThePanelsOff :
    (∃ (s : State) (w : _), s.wind = some w) ∧
    (∃ (s : State) (n : _) (w : _), s.wind = some w ∧ (s.head n).power.phase = 9 ∧ (s.head n).power.held = true ∧ (s.head n).state ≠ 1 ∧ (s.head
      n).pins.dropTop.pen ≠ 0) ∧
    (∃ (s : State) (n : _), ((s.head n).power.phase = 7 ∨ (s.head n).power.phase = 10) ∧ (s.head n).pins.dropTop.pen ≠ 0) ∧
    (∃ (s : State) (n : _), (s.head n).power.phase = 7 ∧ (s.head n).pins.dropTop.pen = 0) ∧
    (∃ (s : State) (w : _), s.wind = some w ∧ w.commits = false ∧ (∀ n ∈ w.heads, (s.head n).power.phase ≠ 9 ∧ (s.head n).power.phase ≠ 10)) ∧
    (∃ (s : State) (w : _), s.wind = some w ∧ w.commits = true ∧ s.nvs.commit = none ∧ s.nvs.tasks = []) ∧
    (∃ (s : State) (n : _) (enable : _), s.sys.windDown = false ∧ bit (s.head n).pins.pen enable = true ∧ bit (s.head n).power.arrived enable =
      true ∧ (s.head n).power.phase < 7) ∧
    (∃ (s : State) (n : _), (s.head n).power.phase = 8 ∧ (s.head n).pins.dropTop.pen ≠ 0) ∧
    (∃ (s : State) (n : _), (s.head n).power.phase = 8 ∧ (s.head n).pins.dropTop.pen = 0) :=
  ⟨⟨wnd {} run, {}, by decide⟩,
   ⟨{ pwPen { phase := 9, held := true } 15 with wind := some {} }, 3, {}, by decide⟩,
   ⟨pwPen { phase := 10 } 3, 3, by decide⟩,
   ⟨pw { phase := 7 }, 3, by decide⟩,
   ⟨wnd { heads := [3] } run, { heads := [3] }, by decide⟩,
   ⟨wnd { commits := true } run, { commits := true }, by decide⟩,
   ⟨pwPen { arrived := 8, phase := 6 } 8, 3, 3, by decide⟩,
   ⟨pwPen { phase := 8 } 3, 3, by decide⟩,
   ⟨pw { phase := 8 }, 3, by decide⟩⟩

/-- The hypotheses of every clause of PanelsAreWoundUp are met. -/
theorem witness_PanelsAreWoundUp :
    (∃ (s : State) (n : Nat), n < 4 ∧ (s.head n).power.phase = 1) ∧
    (∃ (s : State) (n : Nat) (r : _), n < 4 ∧ (s.head n).power.phase = 1 ∧ (s.pair.prefer = 1 ∨ 4 ≤ (s.head n).power.claims) ∧ s.windupRun n =
      some r) ∧
    (∃ (s : State) (n : Nat), n < 4 ∧ (s.head n).power.phase = 1 ∧ s.pair.prefer ≠ 1 ∧ (s.head n).power.claims < 4) ∧
    (∃ (s : State) (n : Nat) (e : _), n < 4 ∧ (s.head n).power.phase = 2 ∧ usedFrom (s.head n).power.seq.penUsed 0 = some e) ∧
    (∃ (s : State) (n : Nat) (e : _), n < 4 ∧ (s.head n).power.phase = 3 ∧ (s.head n).power.enable = e ∧ bit (s.head n).power.arrived e = false) ∧
    (∃ (s : State) (n : Nat) (e : _), n < 4 ∧ (s.head n).power.phase = 4 ∧ usedFrom (s.head n).power.seq.penUsed ((s.head n).power.enable + 1) =
      some e) ∧
    (∃ (s : State) (n : Nat), n < 4 ∧ (s.head n).power.phase = 5) ∧
    (∃ (s : State) (n : Nat), n < 4 ∧ (s.head n).power.phase = 3 ∧ (s.head n).pins.dropTop.pen ≠ 0) ∧
    (∃ (s : State) (n : Nat), n < 4 ∧ (s.head n).power.phase = 6 ∧ (∀ d ∈ s.driversOf n, (s.driver d).link = 4 ∨ (s.driver d).link = 5)) :=
  ⟨⟨pw { phase := 1 }, 3, by decide⟩,
   ⟨{ pw { phase := 1, claims := 4 } with cp := { running := [{ opcode := 0x801, object := 3 }] } }, 3, _, by decide, by decide, by decide, rfl⟩,
   ⟨pw { phase := 1, claims := 3 }, 3, by decide⟩,
   ⟨pw { phase := 2 }, 3, _, by decide, rfl, rfl⟩,
   ⟨pw { phase := 3, enable := 3 }, 3, 3, by decide⟩,
   ⟨pw { phase := 4, enable := 2 }, 3, _, by decide, rfl, rfl⟩,
   ⟨pw { phase := 5 }, 3, by decide⟩,
   ⟨pwPen { phase := 3 } 3, 3, by decide⟩,
   ⟨{ pw { phase := 6 } with drivers := [(95, drv)] }, 3, by decide +kernel⟩⟩

/-- The hypotheses of every clause of TimeAdvances are met. -/
theorem witness_TimeAdvances :
    (∃ (s : State), s.sys.planesHeld = false ∧ s.clocks.started = true ∧ s.timeRegs.nextStep = none ∧ s.standby = false ∧ s.pair.state ≠ 3 ∧
      s.timeRegs.nextA = none ∧ s.timeRegs.nextB = none ∧ s.time.nextRateA = none ∧ s.time.nextRateB = none) ∧
    (∃ (s : State), s.sys.planesHeld = false ∧ s.clocks.started = true ∧ s.timeRegs.nextStep = some .domain ∧ s.standby = false ∧ s.time.selected
      = 0 ∧ s.timeRegs.nextA = none ∧ s.time.nextRateA = none) ∧
    (∃ (s : State) (other : _), other ≤ 1 ∧ s.time.autoSelect = true ∧ s.time.tracking = true ∧ s.time.selected = 1 - other ∧ s.time.home = 1 -
      other ∧ (s.domain (1 - other)).state ≠ 3 ∧ (s.domain (1 - other)).since + 800000000 ≤ s.timeRegs.ticks ∧ (s.domain other).state = 3 ∧
      (s.diffFrom other).natAbs ≤ s.jumpUnits) ∧
    (∃ (s : State) (home : _), home ≤ 1 ∧ s.time.autoSelect = true ∧ s.time.tracking = true ∧ s.time.revert = true ∧ s.time.home = home ∧
      s.time.selected = 1 - home ∧ (s.domain home).state = 3 ∧ (s.domain home).since + 800000000 ≤ s.timeRegs.ticks ∧ (s.diffFrom home).natAbs ≤
      s.jumpUnits) ∧
    (∃ (s : State) (pin : _) (rising : Bool), pin ≤ 7 ∧ s.sys.planesHeld = false ∧ bit (s.evtInOf pin).edges (if rising then 0 else 1) = true ∧
      (s.evtInOf pin).fifo.length < 16 ∧ (s.evtInOf pin).report = false) ∧
    (∃ (s : State) (pin : _) (rising : Bool), pin ≤ 7 ∧ s.sys.planesHeld = false ∧ bit (s.evtInOf pin).edges (if rising then 0 else 1) = true ∧ 16
      ≤ (s.evtInOf pin).fifo.length) ∧
    (∃ (s : State) (pin : _) (at_ : _) (j : _), pin ≤ 7 ∧ s.sys.planesHeld = false ∧ s.standby = false ∧ (s.evtOutOf pin).pulse = false ∧
      s.pulseAt (s.evtOutOf pin).cfg s.tp = some (at_, j) ∧ (∀ l, (s.evtOutOf pin).lastStart = some l → l < at_) ∧ pulseCounts (s.evtOutOf
      pin).cfg j = true) ∧
    (∃ (s : State) (pin : _), pin ≤ 7 ∧ s.sys.planesHeld = false ∧ s.standby = false ∧ (s.evtOutOf pin).pulse = true ∧ (s.evtOutOf pin).pulseStart
      + nsU (s.evtOutOf pin).cfg.width ≤ s.tp) ∧
    (∃ (s : State) (e : _) (h : _) (p : _), s.cp.launch = [e] ∧ e.queue = 4 ∧ e.timed = true ∧ e.t ≤ s.tp ∧ e.cmd = .evtOutSet h p) :=
  ⟨⟨on, by decide⟩,
   ⟨{ on with timeRegs := { nextStep := some .domain } }, by decide⟩,
   ⟨{ on with time := { autoSelect := true, tracking := true }, timeRegs := { ticks := 800000000 }, domains := [(1, { state := 3 })] }, 1,
    by decide⟩,
   ⟨{ on with time := { autoSelect := true, tracking := true, revert := true, selected := 1 }, timeRegs := { ticks := 800000000 }, domains := [(0, { state := 3 })] },
    0, by decide⟩,
   ⟨{ on with evtIn := [(7, { fifo := List.replicate 15 {} })] }, 7, true, by decide +kernel⟩,
   ⟨{ on with evtIn := [(7, { fifo := List.replicate 16 {} })] }, 7, true, by decide +kernel⟩,
   ⟨{ on with evtOut := [(7, { cfg := { pin := 7, mode := 1, width := 8 } })] }, 7, 0, 0, by decide, by decide, by decide, by decide,
    by decide +kernel, (fun _ h => nomatch h), by decide⟩,
   ⟨{ on with evtOut := [(7, { cfg := { pin := 7, mode := 1, width := 8 }, pulse := true })], time := { tp := 2 ^ 60 } }, 7, by decide +kernel⟩,
   ⟨{ on with cp := { launch := [{ timed := true, cmd := .evtOutSet hT { pin := 7 } }] } }, _, hT, { pin := 7 }, rfl, rfl, rfl, by decide, rfl⟩⟩

/-- The hypotheses of every clause of PtpDomainsFollowTheirGrandmaster are met. -/
theorem witness_PtpDomainsFollowTheirGrandmaster :
    (∃ (s : State) (d : Nat) (m : PtpMsg), d ≤ 1 ∧ m.kind = 0 ∧ (s.domain d).state = 1 ∧ (s.domain d).gm = none) ∧
    (∃ (s : State) (d : Nat) (m : PtpMsg) (g : Announce), d ≤ 1 ∧ m.kind = 1 ∧ (s.domain d).gm = some g ∧ m.source = g.identity ∧ ((s.domain
      d).state = 2 ∨ (s.domain d).state = 3)) ∧
    (∃ (s : State) (d : Nat) (m : PtpMsg) (g : Announce), d ≤ 1 ∧ m.kind = 2 ∧ (s.domain d).state ≠ 0 ∧ (s.domain d).gm = some g ∧ m.source =
      g.identity) ∧
    (∃ (s : State) (d : Nat) (m : PtpMsg) (g : Announce), d ≤ 1 ∧ m.kind = 3 ∧ (s.domain d).state ≠ 0 ∧ (s.domain d).gm = some g ∧ m.source =
      g.identity) ∧
    (∃ (s : State) (d : Nat) (m : PtpMsg), d ≤ 1 ∧ m.kind = 4 ∧ (s.domain d).state ≠ 0) ∧
    (∃ (s : State) (d : Nat) (m : PtpMsg) (g : Announce), d ≤ 1 ∧ 1 ≤ m.kind ∧ m.kind ≤ 3 ∧ (s.domain d).gm = some g ∧ m.source ≠ g.identity) ∧
    (∃ (s : State) (d : Nat), d ≤ 1 ∧ (s.domain d).state = 3) ∧
    (∃ (s : State) (d : Nat), d ≤ 1 ∧ (s.domain d).state = 2) ∧
    (∃ (s : State) (d : Nat), d ≤ 1 ∧ (s.domain d).state = 4) ∧
    (∃ (s : State) (d : Nat) (g : Announce) (n : _), d ≤ 1 ∧ (s.domain d).state ≠ 0 ∧ (s.domain d).gm = some g ∧ s.domainPort d = some n ∧
      s.portSends n = true) :=
  ⟨⟨dm { state := 1 }, 1, { kind := 0 }, by decide⟩,
   ⟨dm { state := 3, gm := some {} }, 1, { kind := 1 }, {}, by decide⟩,
   ⟨dm { state := 4, gm := some {} }, 1, { kind := 2 }, {}, by decide⟩,
   ⟨dm { state := 4, gm := some {} }, 1, { kind := 3 }, {}, by decide⟩,
   ⟨dm { state := 4 }, 1, { kind := 4 }, by decide⟩,
   ⟨dm { gm := some {} }, 1, { kind := 3, source := 1 }, {}, by decide⟩,
   ⟨dm { state := 3 }, 1, by decide⟩,
   ⟨dm { state := 2 }, 1, by decide⟩,
   ⟨dm { state := 4 }, 1, by decide⟩,
   ⟨{ dm { state := 3, gm := some {}, primary := 31 } with ports := [(31, { mac := 1, up := true })] }, 1, {}, 31, by decide⟩⟩

/-- The hypotheses of every clause of FramesPortsAndLegsWork are met. -/
theorem witness_FramesPortsAndLegsWork :
    (∃ (s : State) (port : _) (bytes : List Byte) (r : _), s.portReceives port = true ∧ r = (s.portCount port 11 1).portCount port 12
      bytes.length) ∧
    (∃ (s : State) (port : _) (bytes : List Byte) (r : _) (k : _), s.portReceives port = true ∧ r = (s.portCount port 11 1).portCount port 12
      bytes.length ∧ r.macCheck port bytes = .inl k) ∧
    (∃ (s : State) (port : _) (bytes : List Byte) (r : _) (m : _), s.portReceives port = true ∧ r = (s.portCount port 11 1).portCount port 12
      bytes.length ∧ r.macCheck port bytes = .inr m ∧ m.etherType = 0x0806) ∧
    (∃ (s : State) (port : _) (bytes : List Byte) (r : _) (m : _) (p : _) (dst : _) (body : _), s.portReceives port = true ∧ r = (s.portCount port
      11 1).portCount port 12 bytes.length ∧ r.macCheck port bytes = .inr m ∧ m.etherType = 0x0800 ∧ ipv4 m.payload = some p ∧ p.proto = 17 ∧ udp
      p = some (dst, body) ∧ dst ≠ 319 ∧ dst ≠ 320 ∧ r.findLeg port m.vid p dst = none) ∧
    (∃ (s : State) (port : _) (bytes : List Byte) (r : _) (m : _) (p : _) (dst : _) (body : _) (kind : _) (i : _) (leg : _) (l : _) (c : _),
      s.portReceives port = true ∧ r = (s.portCount port 11 1).portCount port 12 bytes.length ∧ r.macCheck port bytes = .inr m ∧ m.etherType =
      0x0800 ∧ ipv4 m.payload = some p ∧ p.proto = 17 ∧ udp p = some (dst, body) ∧ dst ≠ 319 ∧ dst ≠ 320 ∧ r.findLeg port m.vid p dst = some
      (kind, i, leg, l) ∧ leg ≤ 1 ∧ (s.yoyo port).on = false ∧ (s.flow kind i).cfg = some c ∧ (parseRtp body).filter (rtpOk c) = none) ∧
    (∃ (s : State) (port : _) (bs : _) (rest : _) (a : _), (s.port port).ctrl = bs :: rest ∧ s.sys.ready = true ∧ arpTarget bs = some a ∧ (s.port
      port).owns 4 a = true ∧ s.portSends port = true) ∧
    (∃ (s : State) (kind : _) (index : _) (leg : _) (l : _), kind ≤ 2 ∧ (s.flow kind index).legs.find? (fun x => x.1 == leg) = some (leg, l) ∧
      isMulticast l.family l.dst = true ∧ s.sys.ready = true ∧ s.portSends l.port = true) ∧
    (∃ (s : State) (flow : _) (c : _), (s.flow 0 flow).cfg = some c) ∧
    (∃ (s : State) (port : _), (s.port port).up = false ∧ s.portExists port = true ∧ s.portLock port = true ∧ (s.yoyo port).on = false) ∧
    (∃ (s : State) (port : _), s.portExists port = true ∧ (s.port port).up = true) ∧
    (∃ (s : State) (port : _) (fault : _), (s.port port).up = true ∧ fault ≤ 2) ∧
    (∃ (s : State) (kind : _) (index : _) (leg : _), kind ≤ 2 ∧ index < 64 ∧ leg ≤ 1 ∧ (s.flow kind index).enabled = true ∧ ((s.flow kind
      index).leg leg).active = true) :=
  ⟨⟨recv, 31, [], rx recv 0, by decide +kernel⟩,
   ⟨recv, 31, [], rx recv 0, 1, by decide +kernel⟩,
   ⟨recv, 31, arpReq, rx recv arpReq.length, macOf recv arpReq, by decide +kernel⟩,
   ⟨recv, 31, dgram, rx recv dgram.length, macOf recv dgram, ipOf, 5000, [], by decide +kernel⟩,
   ⟨heard lu, 31, dgram, rx (heard lu) dgram.length, macOf (heard lu) dgram, ipOf, 5000, [], 2, 63, 0, lu, { flw with kind := 2, legA := lu },
    by decide +kernel⟩,
   ⟨{ recv with ports := [(31, { mac := 1, up := true, ip4 := 0x0A000001, ctrl := [arpReq] })] }, 31, arpReq, [], 0x0A000001, by decide +kernel⟩,
   ⟨heard lm, 2, 63, 0, lm, by decide +kernel⟩,
   ⟨{ on with flows := [(63, { cfg := some flw })] }, 63, flw, by decide⟩,
   ⟨{ recv with ports := [(31, {})] }, 31, by decide⟩,
   ⟨recv, 31, by decide⟩,
   ⟨recv, 31, 2, by decide⟩,
   ⟨{ on with flows := [(191, { enabled := true, b := { active := true } })] }, 2, 63, 1, by decide⟩⟩

/-- The hypotheses of every clause of WatchesAndTransmissionWork are met. -/
theorem witness_WatchesAndTransmissionWork :
    (∃ (s : State) (unit : _), (s.yoyo unit).on = true ∧ (s.yoyo unit).window = false) ∧
    (∃ (s : State) (unit : _), (s.yoyo unit).on = true ∧ (s.yoyo unit).window = true) ∧
    (∃ (s : State) (unit : _), unit < 32 ∧ (s.yoyo unit).on = true ∧ (s.yoyo unit).window = true ∧ (s.yoyo unit).acted = false ∧ (s.yoyo
      unit).stuck = false ∧ (s.yoyo unit).cfg.compare = 0 ∧ (s.yoyo unit).cfg.action ≠ 0 ∧ s.portLock unit = true) ∧
    (∃ (s : State) (unit : _), unit < 32 ∧ (s.yoyo unit).on = true ∧ (s.yoyo unit).window = true ∧ (s.yoyo unit).acted = false ∧ (s.yoyo
      unit).stuck = false ∧ (s.yoyo unit).cfg.compare = 0 ∧ (s.yoyo unit).cfg.action = 0 ∧ s.portLock unit = true) ∧
    (∃ (s : State) (port : _) (k : _) (i : _) (leg : _) (l : _), port ≤ 31 ∧ (s.yoyo port).on = true ∧ (s.yoyo port).window = true ∧ (s.port
      port).mac ≠ 0 ∧ s.portLock port = true ∧ s.sys.windDown = false ∧ s.sys.txHeld = false ∧ (s.portLegs port).filter (fun l => bit (s.yoyo
      port).cfg.watch (64 * l.1 + l.2.1) && isMulticast l.2.2.2.family l.2.2.2.dst) = [(k, i, leg, l)]) ∧
    (∃ (s : State) (flow : _) (c : _) (o : _) (l : _) (n : _), flow ≤ 63 ∧ s.txRuns (s.tx 3 flow) = true ∧ (s.tx 3 flow).cfg = some c ∧ (s.output
      flow).cfg = some o ∧ (s.tx 3 flow).started = true ∧ (s.tx 3 flow).packet ≠ 0 ∧ n = framePackets (frameFormat o) (udpLimit c) ∧ launchTime
      o.rate (nsU c.tro) (s.tx 3 flow).frame (s.tx 3 flow).packet n ≤ s.tp + halfTick ∧ s.tp ≤ launchTime o.rate (nsU c.tro) (s.tx 3 flow).frame
      ((s.tx 3 flow).packet + 1) n + halfTick ∧ txLegs c = [l] ∧ s.portSends l.port = true) ∧
    (∃ (s : State) (flow : _) (c : _) (o : _) (n : _), flow ≤ 63 ∧ s.txRuns (s.tx 3 flow) = true ∧ (s.tx 3 flow).cfg = some c ∧ (s.output
      flow).cfg = some o ∧ (s.tx 3 flow).started = true ∧ (s.tx 3 flow).packet ≠ 0 ∧ n = framePackets (frameFormat o) (udpLimit c) ∧ launchTime
      o.rate (nsU c.tro) (s.tx 3 flow).frame (s.tx 3 flow).packet n ≤ s.tp + halfTick ∧ launchTime o.rate (nsU c.tro) (s.tx 3 flow).frame ((s.tx 3
      flow).packet + 1) n + halfTick < s.tp) ∧
    (∃ (s : State) (flow : _) (c : _) (l : _) (n : _) (dur : _), flow ≤ 63 ∧ s.txRuns (s.tx 4 flow) = true ∧ (s.tx 4 flow).cfg = some c ∧ (s.tx 4
      flow).started = true ∧ audioPacket (audioShape s c).2 = (n, dur) ∧ countTime 48000 (s.tx 4 flow).frame + dur ≤ s.tp + halfTick ∧ s.tp ≤
      countTime 48000 (s.tx 4 flow).frame + dur + dur ∧ txLegs c = [l] ∧ s.portSends l.port = true) ∧
    (∃ (s : State) (flow : _) (c : _) (n : _) (dur : _), flow ≤ 63 ∧ s.txRuns (s.tx 4 flow) = true ∧ (s.tx 4 flow).cfg = some c ∧ (s.tx 4
      flow).started = true ∧ audioPacket (audioShape s c).2 = (n, dur) ∧ countTime 48000 (s.tx 4 flow).frame + dur ≤ s.tp + halfTick ∧ countTime
      48000 (s.tx 4 flow).frame + dur + dur < s.tp) :=
  ⟨⟨yo { on := true }, 31, by decide⟩,
   ⟨yo { on := true, window := true }, 31, by decide⟩,
   ⟨yo { on := true, window := true, cfg := { action := 1 } }, 31, by decide⟩,
   ⟨yo { on := true, window := true }, 31, by decide⟩,
   ⟨{ heard lm with power := { yoyo := [(31, { on := true, window := true, cfg := { watch := 2 ^ 191 } })] } }, 31, 2, 63, 0, lm,
    by decide +kernel⟩,
   ⟨sends 63 (launchTime outp.rate 0 0 (pkts - 1) pkts) (vtx (pkts - 1)), 63, txp, outp, lg, pkts, by decide +kernel⟩,
   ⟨sends 63 (2 ^ 50) (vtx 1), 63, txp, outp, pkts, by decide +kernel⟩,
   ⟨sends 127 65536000000 atx, 63, { txp with kind := 4 }, lg, 48, 65536000000, by decide +kernel⟩,
   ⟨sends 127 (2 ^ 40) atx, 63, { txp with kind := 4 }, 48, 65536000000, by decide +kernel⟩⟩

/-- The hypotheses of clauses 1 to 8 of WorkItemsRunToTheirEnd are met. -/
theorem witness_WorkItemsRunToTheirEnd_1 :
    (∃ (s : State) (key : _) (i : _) (c : _), s.fresh key = true ∧ s.homeOf key = some c ∧ (s.cluster c).deque.length < 64 ∧ ((key.kind = .c ∧ i =
      s.itemC key ∧ (s.head key.owner).scans = true ∧ ((s.head key.owner).shotOf key.frame).isSome = true ∧ key.row < (s.head key.owner).th ∧
      key.run < (s.head key.owner).runs ∧ s.runHolds key = true ∧ s.prevDone key = true ∧ s.pDone { key with kind := .p } = false) ∨ (key.kind =
      .p ∧ i = s.itemP key ∧ s.pendingP key = true ∧ ((s.head key.owner).composedPicture key.frame = false ∨ s.cDone { key with kind := .c } =
      true)) ∨ (key.kind = .t ∧ i = s.itemT key ∧ (s.output key.owner).itemsLeft.any (fun x => x.1 == key.frame) = true ∧ ∃ o, (s.output
      key.owner).cfg = some o ∧ key.row < (outputItems o).1 ∧ key.run < (outputItems o).2))) ∧
    (∃ (s : State) (key : _), key.kind = .p ∧ s.pendingP key = true ∧ s.runningItem { key with kind := .c } = true) ∧
    (∃ (s : State) (key : _), key.kind = .p ∧ s.pendingP key = true ∧ s.runningItem { key with kind := .c } = false ∧ s.cDone
      { key with kind := .c } = true) ∧
    (∃ (s : State) (cluster : _) (i : _), cluster < 8 ∧ s.hasIdle cluster = true ∧ (s.cluster cluster).deque = [i] ∧ s.tq.held = [] ∧ i.key.kind ≠
      .c ∧ (i.key.kind = .t → s.tp ≤ i.due) ∧ (i.key.kind = .p → s.tp + s.cycles i.cost ≤ s.dueNow i)) ∧
    (∃ (s : State) (cluster : _) (v : _) (i : _), cluster < 8 ∧ s.hasIdle cluster = true ∧ (s.cluster cluster).deque = [] ∧ s.victims cluster =
      [v] ∧ s.pickFrom v = some i ∧ s.tq.held = [] ∧ i.key.kind ≠ .c) ∧
    (∃ (s : State) (key : _), key.kind = .c ∧ s.runningItem key = true) ∧
    (∃ (s : State) (key : _) (c : _) (slot : _) (left : _) (x : _), key.kind = .t ∧ s.runningItem key = true ∧ (s.output key.owner).cfg = some c ∧
      (s.output key.owner).itemsLeft.find? (fun y => y.1 == key.frame) = some (key.frame, slot, left) ∧ (spGet s.outShots [] key.owner).find? (fun
      y => y.frame == key.frame) = some x ∧ left ≤ 1) ∧
    (∃ (s : State) (key : _) (c : _) (slot : _) (left : _) (x : _), key.kind = .t ∧ s.runningItem key = true ∧ (s.output key.owner).cfg = some c ∧
      (s.output key.owner).itemsLeft.find? (fun y => y.1 == key.frame) = some (key.frame, slot, left) ∧ (spGet s.outShots [] key.owner).find? (fun
      y => y.frame == key.frame) = some x ∧ 1 < left) :=
  ⟨⟨tqs { tiles := [(0, { entries := [{ frame := 1 }] })], doneP := [kp] }, { kind := .c, owner := 3, frame := 1 }, _, 0, by decide,
    by decide +kernel, by decide, Or.inl ⟨rfl, rfl, by decide, by decide, by decide, by decide, by decide, by decide, by decide⟩⟩,
   ⟨tqs (rn [{ key := { kind := .c, owner := 3 } }]), kp, by decide⟩,
   ⟨tqs { doneC := [{ kind := .c, owner := 3 }] }, kp, by decide⟩,
   ⟨tqs (dq 7 [ti 0]), 7, ti 0, by decide +kernel⟩,
   ⟨tqs (dq 0 [ti (2 ^ 40), ti (2 ^ 41)]), 7, 0, ti (2 ^ 41), by decide +kernel⟩,
   ⟨tqs (rn [{ key := { kind := .c, owner := 3 } }]), { kind := .c, owner := 3 }, by decide⟩,
   ⟨composing 1, { kind := .t, owner := 63 }, outp, 0, 1, {}, by decide +kernel⟩,
   ⟨composing 2, { kind := .t, owner := 63 }, outp, 0, 2, {}, by decide +kernel⟩⟩

/-- The hypotheses of clause 9 of WorkItemsRunToTheirEnd are met. -/
theorem witness_WorkItemsRunToTheirEnd_2 :
    ∃ (s : State) (key : _) (l : _) (u : _), key.kind = .p ∧ s.runningItem key = true ∧ (s.head key.owner).latchedOf key.frame = some l ∧ (s.head
      key.owner).settled key.frame key.row = false ∧ ((s.freeEngine key).muraRead key.owner l).checkP key.owner l key.row key.run = (true, u) :=
  ⟨panelRuns [(rowTimeAt 3 0 / 4, 2)], kp, fr, _, rfl, by decide, by decide, by decide, Prod.ext (by decide +kernel) rfl⟩

/-- The hypotheses of clause 10 of WorkItemsRunToTheirEnd are met. -/
theorem witness_WorkItemsRunToTheirEnd_3 :
    ∃ (s : State) (key : _) (l : _) (u : _) (v : _), key.kind = .p ∧ s.runningItem key = true ∧ (s.head key.owner).latchedOf key.frame = some l ∧
      (s.head key.owner).settled key.frame key.row = false ∧ ((s.freeEngine key).muraRead key.owner l).checkP key.owner l key.row key.run =
      (false, u) ∧ v =
      { (u.runP key.owner l key.row key.run) with tq := { (u.runP key.owner l key.row key.run).tq with doneP := (u.runP key.owner l key.row key.run).tq.doneP ++ [key] } }
      ∧ v.rowComplete key.owner key.frame key.row = false :=
  ⟨panelRuns2, { kp with run := 1 }, fr, (checked2 panelRuns2).2, _, rfl, by decide, by decide, by decide, Prod.ext (by decide +kernel) rfl,
    rfl, by decide +kernel⟩

/-- The hypotheses of clauses 11 to 13 of WorkItemsRunToTheirEnd are met. -/
theorem witness_WorkItemsRunToTheirEnd_4 :
    (∃ (s : State) (key : _) (l : _) (u : _) (v : _), key.kind = .p ∧ s.runningItem key = true ∧ (s.head key.owner).latchedOf key.frame = some l ∧
      (s.head key.owner).settled key.frame key.row = false ∧ ((s.freeEngine key).muraRead key.owner l).checkP key.owner l key.row key.run =
      (false, u) ∧ v =
      { (u.runP key.owner l key.row key.run) with tq := { (u.runP key.owner l key.row key.run).tq with doneP := (u.runP key.owner l key.row key.run).tq.doneP ++ [key] } }
      ∧ v.rowComplete key.owner key.frame key.row = true ∧ (v.tp : Int) < v.deadP key.owner key.frame key.row + 81920 ∧ v.standby = false) ∧
    (∃ (s : State) (head : _) (frame : _) (row : _), (s.head head).scans = true ∧ ((s.head head).latchedOf frame).isSome = true ∧ row < (s.head
      head).th ∧ (s.head head).settled frame row = false) ∧
    (∃ (s : State) (id : _) (l : _), s.leases.find? (fun x => x.1 == id) = some (id, l) ∧ l.ending = true ∧ s.leaseScanned l = true) :=
  ⟨⟨panelRuns [], kp, fr, (checked (panelRuns [])).2, _, rfl, by decide, by decide, by decide, Prod.ext (by decide +kernel) rfl, rfl,
    by decide +kernel, by decide +kernel, by decide +kernel⟩,
   ⟨hd run, 3, 0, 0, by decide⟩,
   ⟨{ hd parked with leases := [(1, { head := 3, ending := true })] }, 1, { head := 3, ending := true }, by decide⟩⟩

/-- The hypotheses of every clause of FramesAreComposedLatchedAndScanned are met. -/
theorem witness_FramesAreComposedLatchedAndScanned :
    (∃ (s : State) (n : Nat) (m : _) (c : _), n < 4 ∧ m < 16 ∧ s.selectHeld n = false ∧ (s.head n).state = 3 ∧ (s.head n).cfg = some c ∧
      c.scanMode = 0 ∧ (s.head n).scan.nextCfg = none ∧ s.cp.launch = [] ∧ s.deferredOf n = []) ∧
    (∃ (s : State) (n : Nat) (i : _) (c : _), n < 4 ∧ i < 64 ∧ (s.output i).cfg = some c ∧ (s.output i).route.deferred = none ∧ s.cp.launch = []) ∧
    (∃ (s : State) (n : Nat) (d : _), n < 4 ∧ destOk d = true ∧ s.destLossFill d = true ∧ (s.dest d).route.kind = 1 ∧ (s.flow 0 (s.dest
      d).route.source).lost = true) ∧
    (∃ (s : State) (n : Nat) (c : _), n < 4 ∧ (s.head n).state = 3 ∧ (s.head n).cfg = some c ∧ c.scanMode = 0 ∧ (s.head n).scan.parking = false ∧
      (s.head n).scan.nextCfg = none ∧ (s.head n).scan.transition = 0 ∧ s.standby = false ∧ s.cp.launch = []) ∧
    (∃ (s : State) (n : Nat) (l : _), n < 4 ∧ (s.head n).scans = true ∧ (s.head n).scan.parking = false ∧ (s.head n).frameDone = false ∧ (s.head
      n).latchedOf (s.head n).scan.frame = some l ∧ (s.head n).scan.nextCfg = none ∧ (s.head n).hh ≤ (s.head n).scan.line) ∧
    (∃ (s : State) (n : Nat) (l : _), n < 4 ∧ (s.head n).scans = true ∧ (s.head n).scan.parking = false ∧ (s.head n).frameDone = false ∧ (s.head
      n).latchedOf (s.head n).scan.frame = some l ∧ (s.head n).scan.nextCfg = none ∧ (s.head n).scan.line < (s.head n).hh ∧ (l.frame, (s.head
      n).scan.line / 8) ∈ (s.head n).scan.ready) ∧
    (∃ (s : State) (n : Nat), n < 4 ∧ (s.head n).state = 3 ∧ (s.head n).sr.mode ≠ 0 ∧ s.activeSource n = false) ∧
    (∃ (s : State) (n : Nat), n < 4 ∧ (s.head n).state = 4) ∧
    (∃ (s : State) (n : Nat) (c : _), n < 4 ∧ (s.head n).cfg = some c ∧ c.scanMode = 1 ∧ (s.head n).scans = true ∧ (s.head n).scan.eLast +
      periodNear c.followMin ≤ s.tp + leadOf c) ∧
    (∃ (s : State) (n : Nat), n < 4 ∧ (s.head n).stoppable = true ∧ s.stalled n = true) :=
  ⟨⟨hd run, 3, 15, cfg, by decide⟩,
   ⟨{ on with outputs := [(63, { cfg := some outp })] }, 3, 63, outp, by decide⟩,
   ⟨{ on with layers := [(63, { cfg := { lossFill := true }, route := { route := { kind := 1, source := 63 } } })] }, 3, { index := 63 },
    by decide⟩,
   ⟨hd run, 3, cfg, by decide⟩,
   ⟨sc { run.scan with line := 8 }, 3, fr, by decide⟩,
   ⟨sc { run.scan with line := 7, ready := [(0, 0)] }, 3, fr, by decide⟩,
   ⟨hd { run with sr := { mode := 1 } }, 3, by decide⟩,
   ⟨hd { run with state := 4 }, 3, by decide⟩,
   ⟨hd { run with cfg := some { cfg with scanMode := 1 } }, 3, { cfg with scanMode := 1 }, by decide⟩,
   ⟨{ hd run with timeRegs := { ticks := 200000000 } }, 3, by decide +kernel⟩⟩

/-- The hypotheses of every clause of StopsChecksAndSensorsWork are met. -/
theorem witness_StopsChecksAndSensorsWork :
    (∃ (s : State) (n : Nat) (l : _), n < 4 ∧ (s.head n).state = 2 ∧ (s.head n).ledger.warmLeft = 0 ∧ (s.head n).latchedOf (s.head n).scan.frame =
      some l ∧ l.kind ≠ 3) ∧
    (∃ (s : State) (n : Nat) (l : _), n < 4 ∧ (s.head n).state = 5 ∧ (s.head n).frameDone = true ∧ (s.head n).scan.parking = false ∧ (s.head
      n).nextScan = some l ∧ l.kind = 2) ∧
    (∃ (s : State) (n : Nat) (l : _), n < 4 ∧ (s.head n).state = 5 ∧ (s.head n).scan.balance = true ∧ (s.head n).scan.parking = false ∧ (s.head
      n).latchedOf (s.head n).scan.frame = some l ∧ (s.head n).hh ≤ (s.head n).scan.line) ∧
    (∃ (s : State) (n : Nat), n < 4 ∧ (s.head n).state = 5 ∧ (s.head n).scan.parking = true ∧ (s.head n).scan.nextCfg = none ∧ (s.head
      n).power.downAfterPark = false ∧ s.cp.launch = []) ∧
    (∃ (s : State) (n : Nat) (i : _) (p : _) (k : _), n < 4 ∧ ((s.head n).check i).cfg = some p ∧ p.tap = 1 ∧ ((s.head n).check i).accFrame = some
      k ∧ ((s.head n).check i).accDone = true ∧ ((s.head n).check i).accSkip = true) ∧
    (∃ (s : State) (n : Nat) (i : _) (p : _) (k : _), n < 4 ∧ ((s.head n).check i).cfg = some p ∧ p.tap = 1 ∧ ((s.head n).check i).accFrame = some
      k ∧ ((s.head n).check i).accDone = true ∧ ((s.head n).check i).accSkip = false ∧ (((s.head n).check i).learn = true ∨ Nat.xor ((s.head
      n).check i).acc 0xFFFFFFFF = ((s.head n).check i).expect)) ∧
    (∃ (s : State) (n : Nat) (i : _) (p : _) (k : _), n < 4 ∧ ((s.head n).check i).cfg = some p ∧ p.tap = 1 ∧ ((s.head n).check i).accFrame = some
      k ∧ ((s.head n).check i).accDone = true ∧ ((s.head n).check i).accSkip = false ∧ ((s.head n).check i).learn = false ∧ Nat.xor ((s.head
      n).check i).acc 0xFFFFFFFF ≠ ((s.head n).check i).expect ∧ ((s.head n).check i).count + 1 < p.missLimit) ∧
    (∃ (s : State) (n : Nat) (sample : _), n < 4 ∧ sample < 4096 ∧ (s.head n).state = 1 ∧ s.standby = false ∧ (s.head
      n).panel.active.settings.thermMin ≤ sample ∧ sample ≤ (s.head n).panel.active.settings.thermMax) ∧
    (∃ (s : State) (n : Nat) (sample : _), n < 4 ∧ sample < 4096 ∧ (s.head n).state = 1 ∧ s.standby = false ∧ sample < (s.head
      n).panel.active.settings.thermMin) ∧
    (∃ (s : State) (n : Nat) (l : _) (e : _) (h : _) (p : _), n < 4 ∧ (s.head n).latchedOf (s.head n).scan.frame = some l ∧ l.last = true ∧
      (s.head n).scans = true ∧ s.cp.launch = [e] ∧ e.queue = n ∧ e.cmd = .vcomSet h p ∧ (s.head n).vcom.cfg.senseEnable ≠ 1) ∧
    (∃ (s : State) (n : Nat) (l : _) (samples : List Nat) (c : _) (delta : _), n < 4 ∧ (s.head n).latchedOf (s.head n).scan.frame = some l ∧
      l.last = true ∧ (s.head n).scans = true ∧ s.cp.launch = [] ∧ c = (s.head n).vcom.cfg ∧ c.senseEnable = 1 ∧ s.standby = false ∧
      samples.length = c.senseN ∧ (s.head n).windowFits l = true ∧ delta = rdiv ((samples.foldl (· + ·) 0 : Nat) : Int) (max 1 c.senseN) -
      c.senseTarget ∧ delta.natAbs ≤ c.senseLimit ∧ (∀ x ∈ samples, 1 ≤ x ∧ x ≤ 4094)) ∧
    (∃ (s : State) (n : Nat) (base : _) (last : _), n < 4 ∧ (s.head n).panel.muraRelease = some (base, last) ∧ s.muraBusy n base = false) ∧
    (∃ (s : State) (n : Nat), n < 4 ∧ (s.head n).panel.copying = true ∧ s.cp.running = []) :=
  ⟨⟨hd { run with state := 2 }, 3, fr, by decide⟩,
   ⟨hd { run with state := 5, scan := { latched := [fr, bal], line := 16 } }, 3, bal, by decide⟩,
   ⟨hd { run with state := 5, scan := { latched := [fr], line := 8, balance := true } }, 3, fr, by decide⟩,
   ⟨hd { run with state := 5, scan := { parking := true } }, 3, by decide⟩,
   ⟨ck { accSkip := true }, 3, 15, chk, 0, by decide⟩,
   ⟨ck { learn := true }, 3, 15, chk, 0, by decide⟩,
   ⟨ck { count := 253 }, 3, 15, chk, 0, by decide⟩,
   ⟨hd parked, 3, 4031, by decide⟩,
   ⟨hd parked, 3, 63, by decide⟩,
   ⟨{ hd run with cp := { launch := [{ queue := 3, cmd := .vcomSet h0 vcomDefault }] } }, 3, fr, _, h0, vcomDefault, by decide, rfl, by decide,
    by decide, rfl, by decide, rfl, by decide⟩,
   ⟨hd { run with vcom := { cfg := { vcomDefault with senseEnable := 1 } }, scan := { latched := [{ fr with lines := 64 }] } }, 3,
    { fr with lines := 64 }, List.replicate 16 2304, { vcomDefault with senseEnable := 1 }, 256, by decide +kernel⟩,
   ⟨hd { parked with panel := { muraRelease := some (0x1000, 0) } }, 3, 0x1000, 0, by decide⟩,
   ⟨hd { parked with panel := { copying := true } }, 3, by decide⟩⟩

/-- The hypotheses of every clause of TheDriverLinkWorks are met. -/
theorem witness_TheDriverLinkWorks :
    (∃ (s : State) (d : Nat), d < 96 ∧ ((s.driver d).link = 1 ∨ (s.driver d).link = 3) ∧ (s.driver d).tries < 3) ∧
    (∃ (s : State) (d : Nat), d < 96 ∧ ((s.driver d).link = 1 ∨ (s.driver d).link = 3) ∧ 3 ≤ (s.driver d).tries) ∧
    (∃ (s : State) (d : Nat), d < 96 ∧ (s.driver d).link = 2) ∧
    (∃ (d : Nat) (group : _), d < 96 ∧ group < 12) ∧
    (∃ (s : State) (d : Nat) (p : ReportP), d < 96 ∧ (s.driver d).polled = true ∧ (s.driver d).link = 1 ∧ reportLock p s.pair.port = true) ∧
    (∃ (s : State) (d : Nat) (p : ReportP), d < 96 ∧ (s.driver d).polled = true ∧ (s.driver d).link = 2 ∧ p.mismatch = true) ∧
    (∃ (s : State) (d : Nat) (p : ReportP), d < 96 ∧ (s.driver d).polled = true ∧ (s.driver d).link = 2 ∧ p.mismatch = false ∧ p.configOk = true ∧
      p.seq = (s.driver d).seq ∧ s.configNew d = false) ∧
    (∃ (s : State) (d : Nat) (p : ReportP), d < 96 ∧ (s.driver d).polled = true ∧ (s.driver d).link = 3 ∧ (s.driver d).ts2 = true ∧ reportLock p
      s.pair.port = true) ∧
    (∃ (s : State) (d : Nat) (p : ReportP), d < 96 ∧ (s.driver d).polled = true ∧ (s.driver d).link = 4 ∧ reportLock p s.pair.port = false) ∧
    (∃ (s : State) (d : Nat), d < 96 ∧ (s.driver d).polled = true) ∧
    (∃ (s : State) (d : Nat), d < 96 ∧ (s.driver d).polled = true ∧ (s.driver d).head ≠ 255 ∧ (s.driver d).link ≠ 0) ∧
    (∃ (s : State) (d : Nat), d < 96 ∧ (s.driver d).link = 3) ∧
    (∃ (s : State) (d : Nat) (lane : _), d < 96 ∧ lane < 36 ∧ 32 ≤ lane ∧ s.sys.planesHeld = false ∧ (s.lane lane).blockLock = false ∧ (s.yoyo
      0x20).on = false) ∧
    (∃ (s : State) (d : Nat) (lane : _), d < 96 ∧ lane < 36 ∧ (s.lane lane).blockLock = true) :=
  ⟨⟨dr { link := 3, tries := 2 }, 95, by decide⟩,
   ⟨dr { link := 3, tries := 3 }, 95, by decide⟩,
   ⟨dr { link := 2 }, 95, by decide⟩,
   ⟨95, 11, by decide⟩,
   ⟨dr { link := 1 }, 95, { lockA := true }, by decide⟩,
   ⟨dr { link := 2 }, 95, { mismatch := true }, by decide⟩,
   ⟨dr { link := 2, config := (dr { link := 2 }).configBody 95 }, 95, { configOk := true }, by decide +kernel⟩,
   ⟨dr { link := 3, ts2 := true }, 95, { lockA := true }, by decide⟩,
   ⟨dr { link := 4 }, 95, {}, by decide⟩,
   ⟨dr {}, 95, by decide⟩,
   ⟨dr { link := 4, head := 3 }, 95, by decide⟩,
   ⟨dr { link := 3 }, 95, by decide⟩,
   ⟨on, 95, 35, by decide⟩,
   ⟨{ on with lanes := [(35, { blockLock := true })] }, 95, 35, by decide⟩⟩

/-- The hypotheses of every clause of TheDriversObeyTheirPackets are met. -/
theorem witness_TheDriversObeyTheirPackets :
    (∃ (d : Nat) (port : Nat) (k : DlPacket), d < 96 ∧ port ≤ 1 ∧ k.good = true ∧ 1 ≤ k.type ∧ k.type ≤ 3) ∧
    (∃ (d : Nat) (port : Nat) (k : DlPacket), d < 96 ∧ port ≤ 1 ∧ k.good = false) ∧
    (∃ (s : State) (d : Nat) (port : Nat) (k : DlPacket), d < 96 ∧ port ≤ 1 ∧ (s.renn d).sel = port + 1 ∧ ((s.renn d).port port).held = some k ∧
      k.role = true ∧ k.type = 1) ∧
    (∃ (s : State) (d : Nat) (port : Nat) (k : DlPacket), d < 96 ∧ port ≤ 1 ∧ (s.renn d).sel = port + 1 ∧ ((s.renn d).port port).held = some k ∧
      k.role = true ∧ k.type = 2) ∧
    (∃ (s : State) (d : Nat) (port : Nat), d < 96 ∧ port ≤ 1 ∧ (s.renn d).sel = port + 1 ∧ ((s.renn d).port port).held = none) ∧
    (∃ (s : State) (d : Nat) (port : Nat), d < 96 ∧ port ≤ 1 ∧ (s.renn d).sel ≠ port + 1) ∧
    (∃ (s : State) (d : Nat) (port : Nat) (k : DlPacket), d < 96 ∧ port ≤ 1 ∧ k.good = true ∧ k.type = 5 ∧ k.role = true ∧ (k.gen + 16 - (s.renn
      d).gen % 16) % 16 ≤ 7) ∧
    (∃ (s : State) (d : Nat) (port : Nat) (k : DlPacket), d < 96 ∧ port ≤ 1 ∧ k.good = true ∧ k.type = 5 ∧ k.role = true ∧ 7 < (k.gen + 16 -
      (s.renn d).gen % 16) % 16) ∧
    (∃ (s : State) (d : Nat) (port : Nat), d < 96 ∧ port ≤ 1 ∧ (s.renn d).sel = port + 1) ∧
    (∃ (s : State) (d : Nat) (port : Nat) (k : DlPacket), d < 96 ∧ port ≤ 1 ∧ k.good = true ∧ k.type = 4 ∧ ((s.renn d).port port).seq ≤ fieldAt
      k.body 8 2) ∧
    (∃ (s : State) (d : Nat) (port : Nat) (k : DlPacket), d < 96 ∧ port ≤ 1 ∧ k.good = true ∧ k.type = 4 ∧ fieldAt k.body 8 2 < ((s.renn d).port
      port).seq) :=
  ⟨⟨95, 1, dk 3, by decide⟩,
   ⟨95, 1, { dk 1 with good := false }, by decide⟩,
   ⟨rd { sel := 2, b := { held := some (dk 1) } }, 95, 1, dk 1, by decide⟩,
   ⟨rd { sel := 2, b := { held := some (dk 2) } }, 95, 1, dk 2, by decide⟩,
   ⟨rd { sel := 2 }, 95, 1, by decide⟩,
   ⟨on, 95, 1, by decide⟩,
   ⟨on, 95, 1, { dk 5 with gen := 7 }, by decide⟩,
   ⟨on, 95, 1, { dk 5 with gen := 8 }, by decide⟩,
   ⟨rd { sel := 2 }, 95, 1, by decide⟩,
   ⟨on, 95, 1, dk 4, by decide⟩,
   ⟨rd { b := { seq := 1 } }, 95, 1, dk 4, by decide⟩⟩

/-- The hypotheses of every clause of PowerAndNvsWorkEnds are met. -/
theorem witness_PowerAndNvsWorkEnds :
    (∃ (s : State) (m : _) (rest : _), s.power.moves = m :: rest ∧ s.power.heldWrites = [] ∧ s.cp.running = []) ∧
    (∃ (s : State) (c : _), s.power.moves = [] ∧ s.power.change = some c ∧ (c.target = 0 ∨ 9 ≤ c.domain ∨ (s.cluster (c.domain - 1)).running = [])
      ∧ s.power.heldWrites = [] ∧ s.cp.running = [] ∧ s.power.latched = []) ∧
    (∃ (s : State) (domain : _) (source : _), domain ≤ 10 ∧ source ≤ 2 ∧ bit (spGet s.power.wakeMask 0 domain) source = true ∧ bit (spGet
      s.power.stuck 0 domain) source = false ∧ s.pd domain = 1 ∧ s.power.change = none ∧ s.seqBusy = false) ∧
    (∃ (s : State) (domain : _) (source : _), domain ≤ 10 ∧ source ≤ 2 ∧ bit (spGet s.power.wakeMask 0 domain) source = true ∧ bit (spGet
      s.power.stuck 0 domain) source = false ∧ s.pd domain = 1 ∧ s.power.change = none ∧ s.seqBusy = true) ∧
    (∃ (s : State) (c : _), s.power.opChange = some c) ∧
    (∃ (s : State), s.sys.aonReset = false ∧ s.power.opChange = none) ∧
    (∃ (s : State) (temps : List Int), temps.length = 8 ∧ (s.yoyo thermalUnit).on = false) ∧
    (∃ (s : State) (c : _), s.nvs.commit = some c) ∧
    (∃ (s : State) (c : _), c < 32 ∧ s.nvs.commit = none ∧ s.nvs.tasks = [] ∧ counterValue s.nvs c < 2 ^ 30 - 1) :=
  ⟨⟨{ on with power := { moves := [(10, 0, 2)] } }, _, _, rfl, rfl, rfl⟩,
   ⟨{ on with power := { change := some { domain := 10 } } }, { domain := 10 }, by decide⟩,
   ⟨{ on with power := { wakeMask := [(10, 4)], dom := [(10, 1)] } }, 10, 2, by decide⟩,
   ⟨{ on with power := { wakeMask := [(10, 4)], dom := [(10, 1)], opChange := some {} } }, 10, 2, by decide⟩,
   ⟨{ on with power := { opChange := some {} } }, {}, by decide⟩,
   ⟨on, by decide⟩,
   ⟨on, List.replicate 8 0, by decide⟩,
   ⟨{ on with nvs := { commit := some {} } }, {}, by decide⟩,
   ⟨on, 31, by decide +kernel⟩⟩

/-- The hypotheses of every clause of ThePairLinkWorks are met. -/
theorem witness_ThePairLinkWorks :
    (∃ (s : State), s.pair.enable = true ∧ s.pair.linkUp = false ∧ s.pair.helloSeen = true ∧ s.pair.sent.any (fun m => m.mtype == 1) = false ∧ (∀
      l ∈ [32, 33, 34, 35], (s.lane l).blockLock = true)) ∧
    (∃ (s : State), s.pair.enable = true ∧ s.pair.linkUp = true) ∧
    (∃ (s : State), s.pair.linkUp = true) ∧
    (∃ (s : State), s.pair.enable = true) ∧
    (∃ (s : State) (q : _) (m : _), s.pair.sent.find? (fun m => m.mseq == q) = some m ∧ m.tries < 3) ∧
    (∃ (s : State) (q : _) (m : _), s.pair.sent.find? (fun m => m.mseq == q) = some m ∧ 3 ≤ m.tries) ∧
    (∃ (s : State) (p : HelloP), s.pair.enable = true ∧ p.port = s.pair.port) ∧
    (∃ (s : State) (p : HelloP), s.pair.enable = true ∧ p.port ≠ s.pair.port) ∧
    (∃ (s : State), s.pair.enable = true) ∧
    (∃ (s : State), s.pair.enable = true ∧ s.pair.linkUp = true ∧ s.pair.echoes.length < 63) ∧
    (∃ (s : State), s.pair.enable = true ∧ s.pair.linkUp = true ∧ s.pair.echoes.length = 63) ∧
    (∃ (s : State), s.pair.linkUp = true ∧ s.pair.echoes.length < 64 ∧ s.pair.echoSent < 256) ∧
    (∃ (s : State), s.pair.linkUp = true ∧ s.pair.echoes.length < 64 ∧ 256 ≤ s.pair.echoSent) ∧
    (∃ (s : State), s.standby = true) ∧
    (∃ (s : State) (packet : _) (i : _), s.standby = true ∧ s.pair.linkUp = true ∧ readPacket fromPair packet = .inr i) ∧
    (∃ (s : State) (packet : _) (st : _), s.standby = true ∧ s.pair.linkUp = true ∧ readPacket fromPair packet = .inl st) ∧
    (∃ (s : State) (cause : _), s.pair.enable = true ∧ cause ≤ 255) ∧
    (∃ (s : State), s.standby = true) :=
  ⟨⟨{ pr { enable := true, helloSeen := true } with lanes := [(32, { blockLock := true }), (33, { blockLock := true }), (34, { blockLock := true }), (35, { blockLock := true })] },
    by decide⟩,
   ⟨pr { enable := true, linkUp := true }, by decide⟩,
   ⟨pr { linkUp := true }, by decide⟩,
   ⟨pr { enable := true }, by decide⟩,
   ⟨pr { sent := [{ mseq := 5, tries := 2 }] }, 5, _, rfl, by decide⟩,
   ⟨pr { sent := [{ mseq := 5, tries := 3 }] }, 5, _, rfl, by decide⟩,
   ⟨pr { enable := true, port := 1 }, hello 1, by decide⟩,
   ⟨pr { enable := true }, hello 1, by decide⟩,
   ⟨pr { enable := true }, by decide⟩,
   ⟨pr { enable := true, linkUp := true, echoes := List.replicate 62 0 }, by decide +kernel⟩,
   ⟨pr { enable := true, linkUp := true, echoes := List.replicate 63 0 }, by decide +kernel⟩,
   ⟨pr { linkUp := true, echoes := List.replicate 63 0, echoSent := 255 }, by decide +kernel⟩,
   ⟨pr { linkUp := true, echoes := List.replicate 63 0, echoSent := 256 }, by decide +kernel⟩,
   ⟨pr { state := 3 }, by decide⟩,
   ⟨sb 5 {}, nopPacket, _, by decide, by decide, rfl⟩,
   ⟨sb 5 {}, List.replicate 16 0, _, by decide, by decide, rfl⟩,
   ⟨pr { enable := true }, 255, by decide⟩,
   ⟨pr { state := 5 }, by decide⟩⟩

/-- The hypotheses of every clause of TheStandbyKeepsInStep are met. -/
theorem witness_TheStandbyKeepsInStep :
    (∃ (s : State) (n : Nat) (frame : Nat) (line : Nat) (ns : Nat) (l : _) (own : _), n = s.pairHead ∧ (s.head n).scan.latched.find? (fun l =>
      l.frame % 16 == frame % 16) = some l ∧ own = ((s.head n).lineTime l line).toNat % uSec / 65536 ∧ s.pair.linkUp = true ∧ ns < 1000000000 ∧
      s.pair.state = 3 ∧ (s.head n).scans = true ∧ s.inTime = true ∧ ns = own) ∧
    (∃ (s : State) (n : Nat) (frame : Nat) (line : Nat) (ns : Nat) (l : _) (own : _), n = s.pairHead ∧ (s.head n).scan.latched.find? (fun l =>
      l.frame % 16 == frame % 16) = some l ∧ own = ((s.head n).lineTime l line).toNat % uSec / 65536 ∧ s.pair.linkUp = true ∧ ns < 1000000000 ∧
      (s.pair.state = 4 ∨ s.pair.state = 5) ∧ ns = own) ∧
    (∃ (s : State) (n : Nat) (frame : Nat) (line : Nat) (ns : Nat) (l : _) (own : _), n = s.pairHead ∧ (s.head n).scan.latched.find? (fun l =>
      l.frame % 16 == frame % 16) = some l ∧ own = ((s.head n).lineTime l line).toNat % uSec / 65536 ∧ s.pair.linkUp = true ∧ ns < 1000000000 ∧
      (s.pair.state = 4 ∨ s.pair.state = 5) ∧ ns + 20 < own ∧ own < ns + 500000000) ∧
    (∃ (s : State) (n : Nat), n = s.pairHead ∧ s.standby = true ∧ s.sync.latchWaited = false) ∧
    (∃ (s : State) (n : Nat) (frame : _), n = s.pairHead ∧ s.standby = true ∧ frame < 2 ^ 32 ∧ newer32 ((s.head n).scan.nextLatch % 2 ^ 32) frame
      = true ∧ newer32 frame ((s.head n).scan.nextLatch % 2 ^ 32) = false ∧ frame ≠ (s.head n).scan.nextLatch % 2 ^ 32) ∧
    (∃ (s : State) (n : Nat) (c : _), n = s.pairHead ∧ s.standby = true ∧ s.sync.latchWaited = true ∧ (s.head n).state = 3 ∧ (s.head n).cfg = some
      c ∧ c.scanMode = 0 ∧ (s.head n).scan.parking = false ∧ (s.head n).scan.nextCfg = none ∧ (s.head n).scan.transition = 0 ∧ s.cp.launch = []) ∧
    (∃ (s : State) (n : Nat), n = s.pairHead ∧ s.standby = true ∧ s.sync.selectWaited = false) ∧
    (∃ (s : State) (n : Nat) (c : _), n = s.pairHead ∧ s.standby = true ∧ s.sync.selectWaited = true ∧ (s.head n).state = 3 ∧ (s.head n).cfg =
      some c ∧ c.scanMode = 0 ∧ (s.head n).scan.nextCfg = none ∧ s.cp.launch = [] ∧ s.deferredOf n = []) ∧
    (∃ (s : State) (n : Nat) (frame : _) (row : _) (l : _), n = s.pairHead ∧ s.standby = true ∧ (s.head n).scan.latched.find? (fun l => l.frame %
      2 ^ 32 == frame % 2 ^ 32) = some l ∧ (s.head n).settled l.frame row = false ∧ row < (s.head n).th) ∧
    (∃ (s : State) (n : Nat) (frame : _) (row : _) (l : _), n = s.pairHead ∧ s.standby = true ∧ (s.head n).scan.latched.find? (fun l => l.frame %
      2 ^ 32 == frame % 2 ^ 32) = some l ∧ (s.head n).settled l.frame row = false ∧ row < (s.head n).th ∧ s.sync.complete.contains (l.frame, row)
      = true) ∧
    (∃ (s : State) (n : Nat) (row : _) (l : _), n = s.pairHead ∧ s.standby = true ∧ s.pair.linkUp = true ∧ (s.head n).scan.latched.find? (fun l =>
      !(s.head n).settled l.frame row && decide (Head.dueP l row ≤ s.tp)) = some l ∧ row < (s.head n).th) ∧
    (∃ (s : State) (n : Nat), n = s.pairHead ∧ s.pairActive = true) ∧
    (∃ (s : State) (n : Nat) (p : RowDataP) (c : _), n = s.pairHead ∧ s.standby = true ∧ (s.head n).cfg = some c ∧ p.row < (s.head n).th ∧ p.frame
      = (s.head n).scan.frame % 2 ^ 32 ∧ (s.head n).scan.latched.find? (fun l => l.frame % 2 ^ 32 == (p.frame + 1) % 2 ^ 32) = none ∧ c.psBase % 4
      = 0) ∧
    (∃ (s : State) (n : Nat) (k : _) (y : _) (g : _) (dac : _), n = s.pairHead ∧ s.sync.release = some (k, y, g, dac) ∧ s.sync.overlap = false ∧
      s.pair.state = 2) ∧
    (∃ (s : State) (n : Nat) (k : _) (y : _) (g : _) (dac : _), n = s.pairHead ∧ s.sync.release = some (k, y, g, dac) ∧ s.sync.overlap = false ∧
      s.pair.state = 5) ∧
    (∃ (s : State) (n : Nat) (k : _) (y : _) (g : _) (dac : _), n = s.pairHead ∧ s.sync.release = some (k, y, g, dac) ∧ s.sync.overlap = true) ∧
    (∃ (s : State) (n : Nat), n = s.pairHead ∧ s.standby = true ∧ s.sync.release = none ∧ s.sync.overlap = false ∧ s.sync.windDown = false ∧
      s.pair.state = 5) ∧
    (∃ (s : State) (n : Nat), n = s.pairHead ∧ s.standby = true ∧ s.sync.release = none ∧ s.sync.overlap = false ∧ s.sync.windDown = false ∧
      s.pair.state = 3) ∧
    (∃ (s : State) (n : Nat), n = s.pairHead ∧ s.standby = true ∧ s.sync.release = none ∧ s.sync.overlap = false ∧ s.sync.windDown = true) :=
  ⟨⟨sb 3 { tpStamp := some 0 }, 3, 0, 7, 8000, fr, 8000, by decide⟩,
   ⟨sb 5 {}, 3, 0, 7, 8000, fr, 8000, by decide⟩,
   ⟨sb 5 {}, 3, 0, 7, 7979, fr, 8000, by decide⟩,
   ⟨sb 3 {}, 3, by decide⟩,
   ⟨sb 3 {}, 3, 0, by decide⟩,
   ⟨sb 3 { latchWaited := true }, 3, cfg, by decide⟩,
   ⟨sb 3 {}, 3, by decide⟩,
   ⟨sb 3 { selectWaited := true }, 3, cfg, by decide⟩,
   ⟨sb 5 {}, 3, 0, 0, fr, by decide⟩,
   ⟨sb 5 { complete := [(0, 0)] }, 3, 0, 0, fr, by decide⟩,
   ⟨sb 5 {}, 3, 0, fr, by decide⟩,
   ⟨sb 2 {}, 3, by decide⟩,
   ⟨sb 5 {}, 3, { frame := 0, row := 0, times := [], flags := [], panel := [], crc := 0 }, cfg, by decide⟩,
   ⟨sb 2 { release := some (0, 7, 1, 512) }, 3, 0, 7, 1, 512, by decide⟩,
   ⟨sb 5 { release := some (0, 7, 1, 512) }, 3, 0, 7, 1, 512, by decide⟩,
   ⟨sb 2 { release := some (0, 7, 1, 512), overlap := true }, 3, 0, 7, 1, 512, by decide⟩,
   ⟨sb 5 {}, 3, by decide⟩,
   ⟨sb 3 {}, 3, by decide⟩,
   ⟨sb 5 { windDown := true }, 3, by decide⟩⟩

/-- The hypotheses of LayersStartAtTheirDefaults are met. -/
theorem witness_LayersStartAtTheirDefaults :
    ∃ (s : State) (bootsel : Nat) (n : Nat) (m : Nat), n ≤ 3 ∧ m ≤ 15 ∧ (s = State.reset ∨ ∃ r : State, r.sys.aonReset = false ∧ r.sys.perst =
      true ∧ r.wind = none ∧ exec (.perstRelease bootsel) r = .next s) :=
  ⟨_, 1, 3, 15, by decide, by decide, Or.inr ⟨{ on with sys := { on.sys with perst := true } }, rfl, rfl, rfl, rfl⟩⟩

/-- The hypotheses of every clause of TheMailboxHoldsOnePacket are met. -/
theorem witness_TheMailboxHoldsOnePacket :
    (∃ (s : State) (offset : _) (data : List Byte), s.mbx.state ≠ 1 ∧ offset + data.length ≤ 1024) ∧
    (∃ (s : State), s.mbx.state ≠ 1) ∧
    (∃ (s : State) (r : _), s.cp.replies.find? (fun r => r.src == 4) = some r ∧ r.params.length ≤ 1008) ∧
    (∃ (s : State), s.mbx.state = 1) ∧
    (∃ (s : State), s.mbx.state = 1) :=
  ⟨⟨{ on with mbx := { state := 2 } }, 1020, [1, 2, 3, 4], by decide⟩,
   ⟨{ on with mbx := { state := 2 } }, by decide⟩,
   ⟨{ on with cp := { replies := [{ src := 4, params := List.replicate 1008 0 }] } }, { src := 4, params := List.replicate 1008 0 },
    by decide +kernel⟩,
   ⟨mailed, by decide⟩,
   ⟨mailed, by decide⟩⟩

/-- The hypotheses of every clause of IdleBanksFollowSramCtl are met. -/
theorem witness_IdleBanksFollowSramCtl :
    (∃ (v : Nat), (bits v 12 8 < 10 ∨ 20 < bits v 12 8)) ∧
    (∃ (v : Nat), 10 ≤ bits v 12 8 ∧ bits v 12 8 ≤ 20) ∧
    (∃ (c : Instr) (s : State) (t : State) (b : Nat), exec c s = .next t ∧ 64 ≤ b ∧ b < 512 ∧ (s.ringHead b).isSome = true ∧ t.ringHead b = none) :=
  ⟨⟨2304, by decide⟩,
   ⟨5120, by decide⟩,
   ⟨.headUnconfig h0 3, hd { parked with allot := { ringFirst := 511, ringBanks := 1 } }, _, 511, rfl, by decide, by decide, by decide +kernel,
    by decide +kernel⟩⟩

end Sys2Proof.Tests
end

section
/-! PROOF. R654: the layers of a head after reset and after the release of PERST#. Both leave the file of layers empty, and a layer
that is not listed reads as the default one. -/

namespace Sys2Proof.Machine

/-- A layer reads as the default one where none is listed. -/
theorem State.layer_of_layers_nil {s : State} (h : s.layers = []) (c : Nat) : s.layer c = {} := by
  rw [State.layer, h]
  rfl

@[simp] theorem State.planesReset_layers (s : State) : s.planesReset.layers = [] := rfl

@[simp] theorem State.planesStart_layers (s : State) : s.planesStart.layers = s.layers := rfl

/-- Without a wind-down in progress, the release of PERST# takes the planes through their reset (R49, R593). -/
theorem exec_perstRelease_of_no_wind {r : State} (bootsel : Nat) (haon : r.sys.aonReset = false) (hperst : r.sys.perst = true)
    (hwind : r.wind = none) :
    exec (.perstRelease bootsel) r = .next ({ r with
      sys := { r.sys with perst := false, bootsel := bootsel % 2, suppliesLost := false } } : State).planesReset.planesStart := by
  change execPerstRelease bootsel r = _
  simp [execPerstRelease, haon, hperst, hwind]

/-- No layer is listed after the release of PERST#. -/
theorem layers_nil_of_perstRelease {r s : State} {bootsel : Nat} (haon : r.sys.aonReset = false) (hperst : r.sys.perst = true)
    (hwind : r.wind = none) (hexec : exec (.perstRelease bootsel) r = .next s) : s.layers = [] := by
  rw [exec_perstRelease_of_no_wind bootsel haon hperst hwind] at hexec
  obtain rfl := Host.Outcome.next.inj hexec
  simp

/-- Z of a layer whose settings are the default ones is its number m (R654). -/
@[simp] theorem layerZ_default (m : Nat) : layerZ m {} = m := Nat.zero_xor m

/-- Settles O58: reset and the release of PERST# both leave no layer listed, so that every layer is the default one. -/
theorem layersStartAtTheirDefaults : Obligations.LayersStartAtTheirDefaults := by
  intro s bootsel n m _ _ hstart
  have hnil : s.layers = [] := by
    rcases hstart with rfl | ⟨r, haon, hperst, hwind, hexec⟩
    · rfl
    · exact layers_nil_of_perstRelease haon hperst hwind hexec
  rw [State.layer_of_layers_nil hnil]
  exact ⟨rfl, rfl, rfl, layerZ_default m, rfl, rfl, rfl, rfl, rfl, rfl, rfl, rfl, rfl, rfl, rfl, rfl, rfl⟩

end Sys2Proof.Machine
end

section
/-! PROOF. R508: the mailbox holds one packet. A write is read back and stays within 1,024 bytes, a submission offers the packet for
acceptance, a reply fits the mailbox, and a PENDING mailbox discards what comes. -/

namespace Sys2Proof.Machine

open Sys2Proof.Laws

/-! ## Lengths -/

@[simp] theorem takeBytes_length (n a : Nat) (m : Sparse Byte) : (takeBytes n a m).length = n := by
  induction n generalizing a m with
  | zero => rfl
  | succ n ih =>
    cases m with
    | nil => simp [takeBytes, ih]
    | cons p r =>
      rw [takeBytes]
      split <;> simp [ih]

@[simp] theorem readBytes_length (m : Sparse Byte) (a n : Nat) : (readBytes m a n).length = n := takeBytes_length n a _

@[simp] theorem leBytes_length (n v : Nat) : (leBytes n v).length = n := by
  induction n generalizing v with
  | zero => rfl
  | succ n ih => simp [leBytes, ih]

/-- A slice has the length asked for: what its source does not hold is zeros. -/
@[simp] theorem sliceBytes_length (bs : List Byte) (o n : Nat) : (sliceBytes bs o n).length = n := by
  simp only [sliceBytes, List.length_append, List.length_replicate, List.length_take]
  omega

/-- The packet in the mailbox is 1,024 bytes, whatever has been written (R508). -/
@[simp] theorem State.mbxPacket_length (s : State) : s.mbxPacket.length = 1024 := readBytes_length _ 0 1024

/-- A reply is its four words of header and its parameters in whole words (R485). -/
theorem replyBytes_length (r : Reply) : (replyBytes r).length = 16 + 4 * ceilDiv r.params.length 4 := by
  simp only [replyBytes, List.length_append, leBytes_length, sliceBytes_length]
  omega

/-- With up to 1,008 bytes of parameters a reply fits the mailbox (R508). -/
theorem replyBytes_length_le {r : Reply} (h : r.params.length ≤ 1008) : (replyBytes r).length ≤ 1024 := by
  rw [replyBytes_length, ceilDiv]
  omega

/-! ## The operations of the mailbox -/

/-- A write while the mailbox is PENDING is discarded. -/
theorem exec_mbxWrite_of_pending {s : State} (h : s.mbx.state = 1) (offset : Nat) (data : List Byte) :
    exec (.mbxWrite offset data) s = .next s := by
  change execMbxWrite offset data s = _
  rw [execMbxWrite, if_pos h]

/-- A submission while the mailbox is PENDING is discarded. -/
theorem exec_mbxSubmit_of_pending {s : State} (h : s.mbx.state = 1) : exec .mbxSubmit s = .next s := by
  change execMbxSubmit s = _
  rw [execMbxSubmit, if_pos h]

/-- The mailbox after a write: EMPTY, its packet with the bytes written. -/
def State.mbxWritten (s : State) (offset : Nat) (data : List Byte) : State :=
  { s with mbx := { s.mbx with state := 0, buf := writeBytes s.mbx.buf offset data } }

/-- The mailbox after a submission: PENDING, its packet not yet accepted. -/
def State.mbxSubmitted (s : State) : State := { s with mbx := { s.mbx with state := 1, taken := false } }

/-- A write that ends within the mailbox is taken whole where none is PENDING. -/
theorem exec_mbxWrite_of_not_pending {s : State} (h : s.mbx.state ≠ 1) {offset : Nat} {data : List Byte}
    (hfit : offset + data.length ≤ 1024) : exec (.mbxWrite offset data) s = .next (s.mbxWritten offset data) := by
  have htake : data.take (1024 - offset) = data := List.take_of_length_le (by omega)
  change execMbxWrite offset data s = _
  rw [execMbxWrite, if_neg h, htake, State.mbxWritten]

theorem exec_mbxSubmit_of_not_pending {s : State} (h : s.mbx.state ≠ 1) : exec .mbxSubmit s = .next s.mbxSubmitted := by
  change execMbxSubmit s = _
  rw [execMbxSubmit, if_neg h, State.mbxSubmitted]

@[simp] theorem State.mbxSubmitted_mbxPacket (s : State) : s.mbxSubmitted.mbxPacket = s.mbxPacket := rfl

/-- A submitted packet is ready by its own opcode and FENCE alone: the mailbox itself no longer holds it back (R477, R505). -/
theorem State.mbxSubmitted_sourceReady (s : State) : s.mbxSubmitted.sourceReady 4 =
    ((mgtOpcode (opOf s.mbxPacket) || s.cpRuns) && s.fenceOk (fieldAt s.mbxPacket 8 4)) := by
  change (true && true && (mgtOpcode (opOf s.mbxPacket) || s.cpRuns) && s.fenceOk (fieldAt s.mbxPacket 8 4)) = _
  rw [Bool.true_and, Bool.true_and]

/-- The oldest reply owed to the mailbox is put into it. -/
theorem exec_replyWrite_mailbox {s : State} {r : Reply} (h : s.cp.replies.find? (fun r => r.src == 4) = some r) :
    exec (.replyWrite 4) s = .next { s with
      cp := { s.cp with replies := s.cp.replies.erase r }
      mbx := { s.mbx with state := 2, taken := false, reply := replyBytes r } } := by
  change execReplyWrite 4 s = _
  simp [execReplyWrite, h]

/-- Settles O59: a write, a submission and a reply each do their part where the mailbox is free, a PENDING one discards the first two. -/
theorem theMailboxHoldsOnePacket : Obligations.TheMailboxHoldsOnePacket := by
  intro s
  refine ⟨fun offset data hfree hfit => ?write, fun hfree => ?submit, fun r hfind hparams => ?reply,
    fun offset data hpend => exec_mbxWrite_of_pending hpend offset data, exec_mbxSubmit_of_pending⟩
  case write =>
    exact ⟨_, exec_mbxWrite_of_not_pending hfree hfit, rfl, readBytes_writeBytes _ _ _, State.mbxPacket_length _,
      fun _ hout => spGet_writeBytes_other hout⟩
  case submit =>
    exact ⟨_, exec_mbxSubmit_of_not_pending hfree, rfl, s.mbxSubmitted_mbxPacket, s.mbxSubmitted_sourceReady⟩
  case reply =>
    exact ⟨_, exec_replyWrite_mailbox hfind, rfl, rfl, replyBytes_length_le hparams⟩

end Sys2Proof.Machine
end

section
/-! PROOF. R620: SRAM_CTL and the free banks. A write with SCRUB_SHIFT out of range is ignored, one in range sets IDLE_STATE; the state of
a ring bank (R533) is a function of its allotment and of IDLE_STATE, so that IDLE_STATE holds for every free bank at once. -/

namespace Sys2Proof.Machine

/-! ## The state of a ring bank (R533) -/

/-- The allotment of the ring banks is read from the file of heads alone (R312). -/
theorem State.ringHead_of_heads_eq {s t : State} (h : t.heads = s.heads) (b : Nat) : t.ringHead b = s.ringHead b := by
  have hhead : t.head = s.head := by
    funext n
    rw [State.head, State.head, h]
  rw [State.ringHead, State.ringHead, hhead]

/-- A bank of a head's drive ring is on. -/
theorem State.bankState_of_allotted {s : State} {b : Nat} (hb : 64 ≤ b) (h : (s.ringHead b).isSome = true) : s.bankState b = 0 := by
  rw [State.bankState, if_neg (by omega), if_neg (by omega), if_pos h]

/-- A bank of no drive ring is in the state that IDLE_STATE names. -/
theorem State.bankState_of_free {s : State} {b : Nat} (hb : 64 ≤ b) (h : s.ringHead b = none) :
    s.bankState b = if s.mem.idle = 1 then 1 else 2 := by
  rw [State.bankState, if_neg (by omega), if_neg (by omega), h]
  simp

/-! ## A write of SRAM_CTL (R620) -/

@[simp] theorem State.clearBanks_heads (s : State) (first n : Nat) : (s.clearBanks first n).heads = s.heads := rfl

@[simp] theorem State.clearBanks_idle (s : State) (first n : Nat) : (s.clearBanks first n).mem.idle = s.mem.idle := rfl

/-- IDLE_STATE is bit 0 of the value written. -/
theorem bits_zero_zero_eq_one_iff (v : Nat) : bits v 0 0 = 1 ↔ bit v 0 = true := by
  simp [bits, bit]

/-- A write with SCRUB_SHIFT out of range is ignored. -/
theorem sramCtl_of_shift_out_of_range {v : Nat} (h : bits v 12 8 < 10 ∨ 20 < bits v 12 8) (s : State) : sramCtl v s = s := by
  rw [sramCtl, if_pos h]

/-- Both states allot the ring banks alike and have the same IDLE_STATE. -/
def SameBanks (s t : State) : Prop := t.heads = s.heads ∧ t.mem.idle = s.mem.idle

/-- Clearing the free banks of a list, one by one, changes neither an allotment nor IDLE_STATE. -/
theorem foldl_clearBanks_sameBanks (bs : List Nat) (s : State) :
    SameBanks s (bs.foldl (fun s b => if (s.ringHead b).isSome then s else s.clearBanks b 1) s) :=
  keepsAt_foldl (P := SameBanks s)
    (fun _ _ ht => keepsAt_ite (P := SameBanks s) (fun _ => ht) (fun _ => by simpa [SameBanks] using ht)) ⟨rfl, rfl⟩

/-- A write with SCRUB_SHIFT in range sets IDLE_STATE and leaves every allotment: the banks that go off are only cleared. -/
theorem sramCtl_of_shift_in_range {v : Nat} (hlo : 10 ≤ bits v 12 8) (hhi : bits v 12 8 ≤ 20) (s : State) :
    (sramCtl v s).heads = s.heads ∧ (sramCtl v s).mem.idle = bits v 0 0 := by
  have hrange : ¬ (bits v 12 8 < 10 ∨ 20 < bits v 12 8) := by omega
  simp only [sramCtl, if_neg hrange]
  split
  case isTrue =>
    obtain ⟨hheads, hidle⟩ := foldl_clearBanks_sameBanks ((List.range 448).map (· + 64))
      { s with mem := { s.mem with scrubShift := bits v 12 8, idle := bits v 0 0 } }
    rw [hheads, hidle]
    exact ⟨rfl, rfl⟩
  case isFalse => exact ⟨rfl, rfl⟩

theorem exec_sramCtlWrite (v : Nat) (s : State) : exec (.sramCtlWrite v) s = .next (sramCtl v s) := rfl

/-- Settles O60: a write is ignored or sets IDLE_STATE, and IDLE_STATE is the state of every bank without a drive ring, whatever freed it. -/
theorem idleBanksFollowSramCtl : Obligations.IdleBanksFollowSramCtl := by
  refine ⟨fun s v hout => ?ignored, fun s v hlo hhi => ?taken, fun c s t b _ hb _ hheld hfree => ?freed⟩
  case ignored => rw [exec_sramCtlWrite, sramCtl_of_shift_out_of_range hout]
  case taken =>
    obtain ⟨hheads, hidle⟩ := sramCtl_of_shift_in_range hlo hhi s
    have hring : ∀ b, (sramCtl v s).ringHead b = s.ringHead b := State.ringHead_of_heads_eq hheads
    refine ⟨_, exec_sramCtlWrite v s, hidle, hring, fun b hb _ hfree => ?_⟩
    rw [State.bankState_of_free hb ((hring b).trans hfree), hidle]
    simp only [bits_zero_zero_eq_one_iff]
  case freed => exact ⟨State.bankState_of_allotted hb hheld, State.bankState_of_free hb hfree⟩

end Sys2Proof.Machine
end

section
/-! PROOF. What every row of the table does and leaves alone: each completes (O5), keeps soundness (O4), and stays in the frame that
`touches` lists (O6, O7). The laws of the rows are those of Laws/KeepsStep.lean and Laws/WithinStep.lean. -/

namespace Sys2Proof.Machine

open Sys2Proof.Safety

/-! ## Completion -/

/-- Both answers of LAYER_PRESENT, to a command turned away and to one accepted, are a next state. -/
theorem execLayerPresent_next (h : Hdr) (p : PresentP) (s : State) : ∃ t, execLayerPresent h p s = .next t := by
  unfold execLayerPresent
  dsimp only
  split <;> exact ⟨_, rfl⟩

theorem execRecordScan_next (s : State) : ∃ t, execRecordScan s = .next t := by
  unfold execRecordScan
  split <;> exact ⟨_, rfl⟩

/-- No row faults or is refused: each meaning is a next state as it stands, but for two that choose between next states. -/
theorem exec_next (c : Instr) (s : State) : ∃ t, exec c s = .next t := by
  cases c
  case layerPresent h p => exact execLayerPresent_next h p s
  case recordScan => exact execRecordScan_next s
  all_goals exact ⟨_, rfl⟩

/-- A row leaves the queue alone, and a sound machine sound. -/
theorem keeps_of_exec {c : Instr} {s t : State} (h : exec c s = .next t) : Keeps s t := exec_keeps keeps_rfl t h

/-- Settles O5: every meaning is a next state, and `Keeps` holds of it. -/
theorem everyCommandCompletes : Obligations.EveryCommandCompletes := by
  intro c s
  obtain ⟨t, ht⟩ := exec_next c s
  exact ⟨t, ht, (keeps_of_exec ht).1⟩

/-! ## Soundness -/

theorem step_of_pending_nil {s : State} (h : s.pending = []) : step s = .next s := by
  rw [step, h]

theorem step_of_pending_cons {s : State} {c : Instr} {rest : List Instr} (h : s.pending = c :: rest) :
    step s = exec c { s with pending := rest } := by
  rw [step, h]

/-- Soundness does not speak of the queue. -/
theorem sound_with_pending {s : State} (q : List Instr) : Sound { s with pending := q } ↔ Sound s := Iff.rfl

/-- Settles O4: an idle step changes nothing, and every row keeps a sound machine sound. -/
theorem everyStepKeepsSoundness : Obligations.EveryStepKeepsSoundness := by
  intro s t hsound hstep
  cases hq : s.pending with
  | nil =>
    rw [step_of_pending_nil hq] at hstep
    obtain rfl := Host.Outcome.next.inj hstep
    exact hsound
  | cons c rest =>
    rw [step_of_pending_cons hq] at hstep
    exact (keeps_of_exec hstep).2 ((sound_with_pending rest).mpr hsound)

/-- Settles O1: by the definition of a step. -/
theorem stepTakesTheFrontCommand : Obligations.StepTakesTheFrontCommand :=
  fun _ _ _ => step_of_pending_cons rfl

/-- Settles O2: by the definition of a step. -/
theorem stepIdlesOnAnEmptyQueue : Obligations.StepIdlesOnAnEmptyQueue :=
  fun _ => step_of_pending_nil

/-- Settles O3: the reset state lists no byte, and its limits are the reset values. -/
theorem resetIsSound : Obligations.ResetIsSound := by
  refine ⟨⟨rfl, rfl, ?_, ⟨?_, ?_⟩, ⟨?_, ?_, ?_, ?_⟩, ?_, ?_⟩, rfl⟩ <;> decide

/-! ## Frames -/

/-- The mask of a list of parts, bit i for part i. -/
def partMask (l : List Part) : Nat := l.foldr (fun p m => 2 ^ p.ctorIdx ||| m) 0

theorem Part.ctorIdx_injective {p q : Part} (h : p.ctorIdx = q.ctorIdx) : p = q := by
  rw [← Part.ofNat_ctorIdx p, h, Part.ofNat_ctorIdx]

/-- A part whose bit stands in the mask of a list is in the list. -/
theorem mem_of_testBit_partMask {l : List Part} {p : Part} (h : (partMask l).testBit p.ctorIdx = true) : p ∈ l := by
  induction l with
  | nil => simp [partMask] at h
  | cons q r ih =>
    rw [partMask, List.foldr_cons, Nat.testBit_or, Bool.or_eq_true, Nat.testBit_two_pow] at h
    rcases h with h | h
    · simp [Part.ctorIdx_injective (of_decide_eq_true h)]
    · exact List.mem_cons_of_mem q (ih h)

/-- What lies within the mask of a list lies in the frame of the list. -/
theorem frame_of_within {l : List Part} {s t : State} (h : Within (partMask l) s t) : Frame l s t :=
  fun p hp => (h p).resolve_left (fun hb => hp (mem_of_testBit_partMask hb))

/-- Row by row: the mask of the row's law is part of the mask of the row's list. -/
theorem exec_withinO_touches (c : Instr) (s : State) : WithinO (partMask (touches c)) s (exec c s) := by
  cases c <;> dsimp only [touches]
  case nop => exact execNop_within (by decide) within_rfl
  case getInfo => exact execGetInfo_within (by decide) within_rfl
  case eventCtl => exact execEventCtl_within (by decide) within_rfl
  case funcReset => exact execFuncReset_within (by decide) within_rfl
  case logRead => exact execLogRead_within (by decide) within_rfl
  case domainSet => exact execDomainSet_within (by decide) within_rfl
  case domainStatus => exact execDomainStatus_within (by decide) within_rfl
  case tpConfig => exact execTpConfig_within (by decide) within_rfl
  case tpSelect => exact execTpSelect_within (by decide) within_rfl
  case tpStep => exact execTpStep_within (by decide) within_rfl
  case evtOutSet => exact execEvtOutSet_within (by decide) within_rfl
  case evtInSet => exact execEvtInSet_within (by decide) within_rfl
  case evtInRead => exact execEvtInRead_within (by decide) within_rfl
  case launchCancel => exact execLaunchCancel_within (by decide) within_rfl
  case quadSet => exact execQuadSet_within (by decide) within_rfl
  case portSet => exact execPortSet_within (by decide) within_rfl
  case portCounters => exact execPortCounters_within (by decide) within_rfl
  case portStatus => exact execPortStatus_within (by decide) within_rfl
  case flowSet => exact execFlowSet_within (by decide) within_rfl
  case flowEnable => exact execFlowEnable_within (by decide) within_rfl
  case flowCounters => exact execFlowCounters_within (by decide) within_rfl
  case flowStatus => exact execFlowStatus_within (by decide) within_rfl
  case txSet => exact execTxSet_within (by decide) within_rfl
  case routeSet => exact execRouteSet_within (by decide) within_rfl
  case outputSet => exact execOutputSet_within (by decide) within_rfl
  case routeStatus => exact execRouteStatus_within (by decide) within_rfl
  case layerSet => exact execLayerSet_within (by decide) within_rfl
  case layerCoef => exact execLayerCoef_within (by decide) within_rfl
  case layerPresent => exact execLayerPresent_within (by decide) within_rfl
  case leasePolicy => exact execLeasePolicy_within (by decide) within_rfl
  case leaseStatus => exact execLeaseStatus_within (by decide) within_rfl
  case audioAssoc => exact execAudioAssoc_within (by decide) within_rfl
  case audioHead => exact execAudioHead_within (by decide) within_rfl
  case audioTx => exact execAudioTx_within (by decide) within_rfl
  case audioStatus => exact execAudioStatus_within (by decide) within_rfl
  case headConfig => exact execHeadConfig_within (by decide) within_rfl
  case headUnconfig => exact execHeadUnconfig_within (by decide) within_rfl
  case headStart => exact execHeadStart_within (by decide) within_rfl
  case headStop => exact execHeadStop_within (by decide) within_rfl
  case headSr => exact execHeadSr_within (by decide) within_rfl
  case headPicture => exact execHeadPicture_within (by decide) within_rfl
  case headGate => exact execHeadGate_within (by decide) within_rfl
  case warmupEnd => exact execWarmupEnd_within (by decide) within_rfl
  case headStatus => exact execHeadStatus_within (by decide) within_rfl
  case panelWindup => exact execPanelWindup_within (by decide) within_rfl
  case panelPowerdown => exact execPanelPowerdown_within (by decide) within_rfl
  case powerSeqSet => exact execPowerSeqSet_within (by decide) within_rfl
  case driverSet => exact execDriverSet_within (by decide) within_rfl
  case driverRetrain => exact execDriverRetrain_within (by decide) within_rfl
  case tableLoad => exact execTableLoad_within (by decide) within_rfl
  case settingsLoad => exact execSettingsLoad_within (by decide) within_rfl
  case activate => exact execActivate_within (by decide) within_rfl
  case muraSwap => exact execMuraSwap_within (by decide) within_rfl
  case panelStatus => exact execPanelStatus_within (by decide) within_rfl
  case vcomSet => exact execVcomSet_within (by decide) within_rfl
  case ledgerSet => exact execLedgerSet_within (by decide) within_rfl
  case ledgerStats => exact execLedgerStats_within (by decide) within_rfl
  case ledgerSnapshot => exact execLedgerSnapshot_within (by decide) within_rfl
  case ledgerTableRead => exact execLedgerTableRead_within (by decide) within_rfl
  case ledgerClear => exact execLedgerClear_within (by decide) within_rfl
  case viewSet => exact execViewSet_within (by decide) within_rfl
  case viewClear => exact execViewClear_within (by decide) within_rfl
  case viewTest => exact execViewTest_within (by decide) within_rfl
  case checkSet => exact execCheckSet_within (by decide) within_rfl
  case checkRead => exact execCheckRead_within (by decide) within_rfl
  case pairSet => exact execPairSet_within (by decide) within_rfl
  case pairHandover => exact execPairHandover_within (by decide) within_rfl
  case pairRejoin => exact execPairRejoin_within (by decide) within_rfl
  case pairStatus => exact execPairStatus_within (by decide) within_rfl
  case nvsRead => exact execNvsRead_within (by decide) within_rfl
  case nvsWrite => exact execNvsWrite_within (by decide) within_rfl
  case recordRead => exact execRecordRead_within (by decide) within_rfl
  case recordWrite => exact execRecordWrite_within (by decide) within_rfl
  case counterRead => exact execCounterRead_within (by decide) within_rfl
  case pdSet => exact execPdSet_within (by decide) within_rfl
  case opSet => exact execOpSet_within (by decide) within_rfl
  case yoyoSet => exact execYoyoSet_within (by decide) within_rfl
  case powerStatus => exact execPowerStatus_within (by decide) within_rfl
  case tileRead => exact execTileRead_within (by decide) within_rfl
  case engineCounters => exact execEngineCounters_within (by decide) within_rfl
  case memInject => exact execMemInject_within (by decide) within_rfl
  case commandAccept => exact execCommandAccept_within (by decide) within_rfl
  case regWrite => exact execRegWrite_within (by decide) within_rfl
  case regRead => exact execRegRead_within (by decide) within_rfl
  case mbxWrite => exact execMbxWrite_within (by decide) within_rfl
  case mbxSubmit => exact execMbxSubmit_within (by decide) within_rfl
  case mbxRead => exact execMbxRead_within (by decide) within_rfl
  case evtRead => exact execEvtRead_within (by decide) within_rfl
  case status => exact execStatus_within (by decide) within_rfl
  case mailboxTimeout => exact execMailboxTimeout_within (by decide) within_rfl
  case mgtAddressMatch => exact execMgtAddressMatch_within (by decide) within_rfl
  case doorbell => exact execDoorbell_within (by decide) within_rfl
  case ringCiWrite => exact execRingCiWrite_within (by decide) within_rfl
  case ringCfgWrite => exact execRingCfgWrite_within (by decide) within_rfl
  case replyWrite => exact execReplyWrite_within (by decide) within_rfl
  case eventPost => exact execEventPost_within (by decide) within_rfl
  case msiXMessage => exact execMsiXMessage_within (by decide) within_rfl
  case stepValue => exact execStepValue_within (by decide) within_rfl
  case stepDomain => exact execStepDomain_within (by decide) within_rfl
  case loadA => exact execLoadA_within (by decide) within_rfl
  case loadB => exact execLoadB_within (by decide) within_rfl
  case select => exact execSelect_within (by decide) within_rfl
  case rateHiWrite => exact execRateHiWrite_within (by decide) within_rfl
  case tpSnapSecLoRead => exact execTpSnapSecLoRead_within (by decide) within_rfl
  case laneSlip => exact execLaneSlip_within (by decide) within_rfl
  case bitslipEn => exact execBitslipEn_within (by decide) within_rfl
  case loopback => exact execLoopback_within (by decide) within_rfl
  case genEn => exact execGenEn_within (by decide) within_rfl
  case cntClr => exact execCntClr_within (by decide) within_rfl
  case prbsErrRead => exact execPrbsErrRead_within (by decide) within_rfl
  case rcRead => exact execRcRead_within (by decide) within_rfl
  case chkFrameRead => exact execChkFrameRead_within (by decide) within_rfl
  case sramLoRead => exact execSramLoRead_within (by decide) within_rfl
  case blow => exact execBlow_within (by decide) within_rfl
  case start => exact execStart_within (by decide) within_rfl
  case go => exact execGo_within (by decide) within_rfl
  case sysPushDataWrite => exact execSysPushDataWrite_within (by decide) within_rfl
  case remap => exact execRemap_within (by decide) within_rfl
  case code => exact execCode_within (by decide) within_rfl
  case funcResetDone => exact execFuncResetDone_within (by decide) within_rfl
  case pdCtl => exact execPdCtl_within (by decide) within_rfl
  case opCtl => exact execOpCtl_within (by decide) within_rfl
  case wakeMaskWrite => exact execWakeMaskWrite_within (by decide) within_rfl
  case fabSel => exact execFabSel_within (by decide) within_rfl
  case sliceBypass => exact execSliceBypass_within (by decide) within_rfl
  case sramCtlWrite => exact execSramCtlWrite_within (by decide) within_rfl
  case headWm => exact execHeadWm_within (by decide) within_rfl
  case headGatePol => exact execHeadGatePol_within (by decide) within_rfl
  case registerWrite => exact execRegisterWrite_within (by decide) within_rfl
  case bar2Write => exact execBar2Write_within (by decide) within_rfl
  case bar2Read => exact execBar2Read_within (by decide) within_rfl
  case bar4Write => exact execBar4Write_within (by decide) within_rfl
  case bar4Read => exact execBar4Read_within (by decide) within_rfl
  case bitSetAliasWrite => exact execBitSetAliasWrite_within (by decide) within_rfl
  case bitClearAliasWrite => exact execBitClearAliasWrite_within (by decide) within_rfl
  case nvsWindowWrite => exact execNvsWindowWrite_within (by decide) within_rfl
  case matrixTransaction => exact execMatrixTransaction_within (by decide) within_rfl
  case matrixTimeout => exact execMatrixTimeout_within (by decide) within_rfl
  case scrub => exact execScrub_within (by decide) within_rfl
  case aonResetRelease => exact execAonResetRelease_within (by decide) within_rfl
  case recordScan => exact execRecordScan_within (by decide) within_rfl
  case perstAssert => exact execPerstAssert_within (by decide) within_rfl
  case perstRelease => exact execPerstRelease_within (by decide) within_rfl
  case pcieHotReset => exact execPcieHotReset_within (by decide) within_rfl
  case rootPllLock => exact execRootPllLock_within (by decide) within_rfl
  case boot => exact execBoot_within (by decide) within_rfl
  case ready => exact execReady_within (by decide) within_rfl
  case refclkLoss => exact execRefclkLoss_within (by decide) within_rfl
  case nrefclkLoss => exact execNrefclkLoss_within (by decide) within_rfl
  case pfailN => exact execPfailN_within (by decide) within_rfl
  case pfailNDeassert => exact execPfailNDeassert_within (by decide) within_rfl
  case glitch => exact execGlitch_within (by decide) within_rfl
  case windDown => exact execWindDown_within (by decide) within_rfl
  case wdHoldEnd => exact execWdHoldEnd_within (by decide) within_rfl
  case penGapEnd => exact execPenGapEnd_within (by decide) within_rfl
  case windDownCommits => exact execWindDownCommits_within (by decide) within_rfl
  case windDownDone => exact execWindDownDone_within (by decide) within_rfl
  case pgood => exact execPgood_within (by decide) within_rfl
  case panelPgLost => exact execPanelPgLost_within (by decide) within_rfl
  case windupFail => exact execWindupFail_within (by decide) within_rfl
  case claimTest => exact execClaimTest_within (by decide) within_rfl
  case vcomSettle => exact execVcomSettle_within (by decide) within_rfl
  case penDelay => exact execPenDelay_within (by decide) within_rfl
  case trainDelay => exact execTrainDelay_within (by decide) within_rfl
  case windupDone => exact execWindupDone_within (by decide) within_rfl
  case panelPowerdownDrop => exact execPanelPowerdownDrop_within (by decide) within_rfl
  case timeTick => exact execTimeTick_within (by decide) within_rfl
  case autoSelect => exact execAutoSelect_within (by decide) within_rfl
  case ptpMessage => exact execPtpMessage_within (by decide) within_rfl
  case syncLoss => exact execSyncLoss_within (by decide) within_rfl
  case holdoverLimit => exact execHoldoverLimit_within (by decide) within_rfl
  case evtCapture => exact execEvtCapture_within (by decide) within_rfl
  case evtOutPulse => exact execEvtOutPulse_within (by decide) within_rfl
  case launchEntryDue => exact execLaunchEntryDue_within (by decide) within_rfl
  case frameReceive => exact execFrameReceive_within (by decide) within_rfl
  case controlFrameHandle => exact execControlFrameHandle_within (by decide) within_rfl
  case membershipReport => exact execMembershipReport_within (by decide) within_rfl
  case frameClose => exact execFrameClose_within (by decide) within_rfl
  case portUp => exact execPortUp_within (by decide) within_rfl
  case portDown => exact execPortDown_within (by decide) within_rfl
  case legLost => exact execLegLost_within (by decide) within_rfl
  case yoyoWindow => exact execYoyoWindow_within (by decide) within_rfl
  case yoyoCompare => exact execYoyoCompare_within (by decide) within_rfl
  case yoyoMembershipReport => exact execYoyoMembershipReport_within (by decide) within_rfl
  case txPacketLaunch => exact execTxPacketLaunch_within (by decide) within_rfl
  case audioTxLaunch => exact execAudioTxLaunch_within (by decide) within_rfl
  case compositionStart => exact execCompositionStart_within (by decide) within_rfl
  case lossHoldEnd => exact execLossHoldEnd_within (by decide) within_rfl
  case itemRelease => exact execItemRelease_within (by decide) within_rfl
  case pItemLatestStart => exact execPItemLatestStart_within (by decide) within_rfl
  case engineFree => exact execEngineFree_within (by decide) within_rfl
  case steal => exact execSteal_within (by decide) within_rfl
  case cItemComplete => exact execCItemComplete_within (by decide) within_rfl
  case tItemComplete => exact execTItemComplete_within (by decide) within_rfl
  case pItemComplete => exact execPItemComplete_within (by decide) within_rfl
  case rowSkipped => exact execRowSkipped_within (by decide) within_rfl
  case latchPoint => exact execLatchPoint_within (by decide) within_rfl
  case muraReleased => exact execMuraReleased_within (by decide) within_rfl
  case activateCopy => exact execActivateCopy_within (by decide) within_rfl
  case thermSample => exact execThermSample_within (by decide) within_rfl
  case lineStart => exact execLineStart_within (by decide) within_rfl
  case trimInstant => exact execTrimInstant_within (by decide) within_rfl
  case headStall => exact execHeadStall_within (by decide) within_rfl
  case srEnter => exact execSrEnter_within (by decide) within_rfl
  case srExit => exact execSrExit_within (by decide) within_rfl
  case followRepeat => exact execFollowRepeat_within (by decide) within_rfl
  case warmupDone => exact execWarmupDone_within (by decide) within_rfl
  case balancingFrame => exact execBalancingFrame_within (by decide) within_rfl
  case park => exact execPark_within (by decide) within_rfl
  case headParked => exact execHeadParked_within (by decide) within_rfl
  case checkResult => exact execCheckResult_within (by decide) within_rfl
  case leaseReleased => exact execLeaseReleased_within (by decide) within_rfl
  case trainTimeout => exact execTrainTimeout_within (by decide) within_rfl
  case configPacket => exact execConfigPacket_within (by decide) within_rfl
  case poll => exact execPoll_within (by decide) within_rfl
  case report => exact execReport_within (by decide) within_rfl
  case bcTimeout => exact execBcTimeout_within (by decide) within_rfl
  case driverPacket => exact execDriverPacket_within (by decide) within_rfl
  case ld => exact execLd_within (by decide) within_rfl
  case discharge => exact execDischarge_within (by decide) within_rfl
  case portAbsent => exact execPortAbsent_within (by decide) within_rfl
  case driverConfig => exact execDriverConfig_within (by decide) within_rfl
  case eyeSample => exact execEyeSample_within (by decide) within_rfl
  case ebOvf => exact execEbOvf_within (by decide) within_rfl
  case refreshStep => exact execRefreshStep_within (by decide) within_rfl
  case pdChanged => exact execPdChanged_within (by decide) within_rfl
  case wake => exact execWake_within (by decide) within_rfl
  case vidSettle => exact execVidSettle_within (by decide) within_rfl
  case vgoodTimeout => exact execVgoodTimeout_within (by decide) within_rfl
  case vgoodLost => exact execVgoodLost_within (by decide) within_rfl
  case nvsCommitEnd => exact execNvsCommitEnd_within (by decide) within_rfl
  case counterIncrement => exact execCounterIncrement_within (by decide) within_rfl
  case pairLinkUp => exact execPairLinkUp_within (by decide) within_rfl
  case pairLinkDown => exact execPairLinkDown_within (by decide) within_rfl
  case heartbeat => exact execHeartbeat_within (by decide) within_rfl
  case phase => exact execPhase_within (by decide) within_rfl
  case retransmit => exact execRetransmit_within (by decide) within_rfl
  case hello => exact execHello_within (by decide) within_rfl
  case ack => exact execAck_within (by decide) within_rfl
  case nak => exact execNak_within (by decide) within_rfl
  case echo => exact execEcho_within (by decide) within_rfl
  case time => exact execTime_within (by decide) within_rfl
  case cmd => exact execCmd_within (by decide) within_rfl
  case latch => exact execLatch_within (by decide) within_rfl
  case latchWaitEnd => exact execLatchWaitEnd_within (by decide) within_rfl
  case selectMsg => exact execSelectMsg_within (by decide) within_rfl
  case selectWaitEnd => exact execSelectWaitEnd_within (by decide) within_rfl
  case row => exact execRow_within (by decide) within_rfl
  case rowWaitEnd => exact execRowWaitEnd_within (by decide) within_rfl
  case rowReq => exact execRowReq_within (by decide) within_rfl
  case rowData => exact execRowData_within (by decide) within_rfl
  case release => exact execRelease_within (by decide) within_rfl
  case windDownMsg => exact execWindDownMsg_within (by decide) within_rfl
  case handover => exact execHandover_within (by decide) within_rfl
  case handoverOverlapEnd => exact execHandoverOverlapEnd_within (by decide) within_rfl
  case takeover => exact execTakeover_within (by decide) within_rfl
  case blockLock => exact execBlockLock_within (by decide) within_rfl
  case chkSync => exact execChkSync_within (by decide) within_rfl
  case linkFault => exact execLinkFault_within (by decide) within_rfl
  case echoTimeout => exact execEchoTimeout_within (by decide) within_rfl
  case delayReq => exact execDelayReq_within (by decide) within_rfl
  case pdWriteDrop => exact execPdWriteDrop_within (by decide) within_rfl
  case commandTimeout => exact execCommandTimeout_within (by decide) within_rfl
  case ts2 => exact execTs2_within (by decide) within_rfl
  case aonReset => exact execAonReset_within (by decide) within_rfl
  case supplyLoss => exact execSupplyLoss_within (by decide) within_rfl
  case refclkReturn => exact execRefclkReturn_within (by decide) within_rfl
  case pcieLinkUp => exact execPcieLinkUp_within (by decide) within_rfl

/-- Settles O6: every row lies within the mask of its list. -/
theorem everyCommandStaysInItsFrame : Obligations.EveryCommandStaysInItsFrame :=
  fun c s t h => frame_of_within (exec_withinO_touches c s t h)

/-- Three rows list the bytes of the NVS array. -/
theorem nvsCells_notMem_touches {c : Instr} (h1 : c ≠ .nvsCommitEnd) (h2 : c ≠ .aonReset) (h3 : c ≠ .supplyLoss) :
    Part.nvsCells ∉ touches c := by
  cases c
  case nvsCommitEnd => exact absurd rfl h1
  case aonReset => exact absurd rfl h2
  case supplyLoss => exact absurd rfl h3
  all_goals dsimp only [touches]; decide

/-- Two rows list the bytes of the AON SRAM. -/
theorem aon_notMem_touches {c : Instr} (h1 : ∀ p, c ≠ .matrixTransaction p) (h2 : c ≠ .aonReset) : Part.aon ∉ touches c := by
  cases c
  case matrixTransaction p => exact absurd rfl (h1 p)
  case aonReset => exact absurd rfl h2
  all_goals dsimp only [touches]; decide

/-- Six rows list the Rennex drivers. -/
theorem rennex_notMem_touches {c : Instr} (h1 : ∀ d p k, c ≠ .driverPacket d p k) (h2 : ∀ d p, c ≠ .ld d p)
    (h3 : ∀ d p k, c ≠ .discharge d p k) (h4 : ∀ d p, c ≠ .portAbsent d p) (h5 : ∀ d p k, c ≠ .driverConfig d p k)
    (h6 : ∀ d, c ≠ .ts2 d) : Part.rennex ∉ touches c := by
  cases c
  case driverPacket d p k => exact absurd rfl (h1 d p k)
  case ld d p => exact absurd rfl (h2 d p)
  case discharge d p k => exact absurd rfl (h3 d p k)
  case portAbsent d p => exact absurd rfl (h4 d p)
  case driverConfig d p k => exact absurd rfl (h5 d p k)
  case ts2 d => exact absurd rfl (h6 d)
  all_goals dsimp only [touches]; decide

/-- Settles O7: no other row lists these parts. -/
theorem lastingBytesHaveFewWriters : Obligations.LastingBytesHaveFewWriters := by
  intro c s t h
  have hframe : Frame (touches c) s t := everyCommandStaysInItsFrame c s t h
  exact ⟨fun h1 h2 h3 => hframe .nvsCells (nvsCells_notMem_touches h1 h2 h3),
    fun h1 h2 => hframe .aon (aon_notMem_touches h1 h2),
    fun h1 h2 h3 h4 h5 h6 => hframe .rennex (rennex_notMem_touches h1 h2 h3 h4 h5 h6)⟩

end Sys2Proof.Machine
end

section
/-! PROOF. The reply of a command (O9) and the order of its tests (O10). -/

namespace Sys2Proof.Machine

open Sys2Proof.Safety

/-- A part whose bit does not stand in the mask is untouched. -/
theorem Within.same {P : Nat} {s t : State} (h : Within P s t) (p : Part) (hp : P.testBit p.ctorIdx = false) : p.same s t :=
  (h p).resolve_left (by simp [hp])

/-- The newest entry of a list that keeps its newest `m` is the one added last. -/
theorem getLast?_drop_append {α : Type} (l : List α) (x : α) {m : Nat} (hm : 0 < m) :
    ((l ++ [x]).drop ((l ++ [x]).length - m)).getLast? = some x := by
  rw [List.getLast?_drop, if_neg (by rw [List.length_append, List.length_singleton]; omega), List.getLast?_concat]

/-- Ending processes changes the process list and posts events, no more. -/
theorem State.endProcs_pair (s : State) (op object frame head : Nat) (ok : Bool) : (s.endProcs op object frame head ok).pair = s.pair :=
  Within.same (State.endProcs_within (P := 49152) rfl within_rfl) .pair rfl

theorem State.unsync_pair_state (s : State) : s.unsync.pair.state = 6 := by
  rw [State.unsync, State.endProcs_pair]

/-! ## The reply (R454, R484, R485) -/

variable {h : Hdr} {st : Nat} (s : State) (op no : Nat) (mgt : Bool) (out : List Byte)

theorem State.reply_of_fromPair_of_ok (hsrc : h.src = fromPair) (hst : st = stOk ∨ st = stAccepted ∨ st = stIgnored) :
    s.reply h op st no mgt out = s := by
  rcases hst with rfl | rfl | rfl <;> simp [State.reply, hsrc]

theorem State.reply_of_fromPair_of_failed (hsrc : h.src = fromPair) (h1 : st ≠ stOk) (h2 : st ≠ stAccepted) (h3 : st ≠ stIgnored) :
    s.reply h op st no mgt out = (s.pairPost 0xE093 0 0).unsync := by
  simp [State.reply, hsrc, h1, h2, h3]

theorem State.reply_of_silent (hsrc : h.src ≠ fromPair) (hsil : h.silent = true) (hst : st = stOk ∨ st = stAccepted) :
    s.reply h op st no mgt out = s := by
  rcases hst with rfl | rfl <;> simp [State.reply, hsrc, hsil]

theorem State.reply_of_owed (hsrc : h.src ≠ fromPair) (howed : h.silent = false ∨ (st ≠ stOk ∧ st ≠ stAccepted)) :
    s.reply h op st no mgt out = { s with cp := { s.cp with replies := s.cp.replies ++
      [{ src := h.src, opcode := op, tag := h.tag, status := st, mgt := mgt, acceptNo := no, params := out }] } } := by
  rcases howed with hsil | ⟨h1, h2⟩
  · simp [State.reply, hsrc, hsil]
  · simp [State.reply, hsrc, h1, h2]

end Sys2Proof.Machine

namespace Sys2Proof.Machine

/-- Settles O9: the four cases of a reply. -/
theorem repliesAreQueuedAsCommanded : Obligations.RepliesAreQueuedAsCommanded := by
  intro s h op st no mgt out
  refine ⟨State.reply_of_fromPair_of_ok s op no mgt out, fun hsrc h1 h2 h3 => ?failed, State.reply_of_silent s op no mgt out,
    State.reply_of_owed s op no mgt out⟩
  case failed => rw [State.reply_of_fromPair_of_failed s op no mgt out hsrc h1 h2 h3, State.unsync_pair_state]

/-! ## The tests (R487) -/

/-- The tests that come before all others are those of form and of the launch time. -/
theorem testCmd_eq_badParam_iff (h : Hdr) (t : Bool) (q : Nat) (c : Checks) (s : State) :
    testCmd h t q c s = some stBadParam ↔ c.bad = true ∨ (h.timed = true ∧ t = false) ∨ launchBad h s = true := by
  have hform : (c.bad || (h.timed && !t) || launchBad h s) = true ↔ c.bad = true ∨ (h.timed = true ∧ t = false) ∨ launchBad h s = true := by
    simp [or_assoc]
  rw [← hform, testCmd]
  split
  case isTrue hbad => simp [hbad]
  case isFalse hbad =>
    refine iff_of_false ?_ hbad
    repeat' split
    all_goals decide

/-- A command of good form is tested in the order of R487. -/
theorem testCmd_of_good_form {h : Hdr} {t : Bool} {c : Checks} {s : State} (q : Nat) (hbad : c.bad = false)
    (ht : h.timed = true → t = true) (hlaunch : launchBad h s = false) :
    testCmd h t q c s = if h.genCheck = true ∧ h.gen ≠ s.time.tpGen then some stRefused
      else if c.notReady = true then some stNotReady else if c.busy = true then some stBusy else if c.ignored = true then some stIgnored
      else if c.noResource = true ∨ queueFull h s q = true then some stNoResource
      else if c.refused = true ∨ launchPast h s = true then some stRefused else none := by
  have hform : (c.bad || (h.timed && !t) || launchBad h s) = false := by simpa [hbad, hlaunch] using ht
  simp [testCmd, hform]

/-- Settles O10: the tests of form come first, the others in the order of R487. -/
theorem testsRunInOrder : Obligations.TestsRunInOrder :=
  fun h t q c s => ⟨testCmd_eq_badParam_iff h t q c s, testCmd_of_good_form q⟩

end Sys2Proof.Machine
end

section
/-! PROOF. The reading commands answer with what they read and change nothing else (O11, O12, O13, O14). -/

namespace Sys2Proof.Machine

open Sys2Proof.Safety

/-- A reading command none of whose own tests holds: it is answered OK with what it reads. -/
theorem runRead_ok {h : Hdr} {op : Nat} {s : State} {c : Checks} {out : State → List Byte} (p : Plain h op s) (hc : c = {}) :
    runRead h op c s out = answered h op stOk s s.takeNo (out s.takeNo) := by
  subst hc
  exact runRead_plain p rfl rfl rfl rfl rfl rfl

/-! ## SYSTEM and TIME -/

/-- What DOMAIN_STATUS reads of the grandmaster, where there is one and where there is none. -/
theorem exec_domainStatus_ok {h : Hdr} {s : State} {d : Nat} (p : Plain h 0x0202 s) (hd : d ≤ 1) :
    exec (.domainStatus h d) s = .next (answered h 0x0202 stOk s s.takeNo
      (leBytes 1 (s.domain d).state ++ leBytes 8 ((s.domain d).gm.elim 0 (fun a => a.identity)) ++ leInt 8 (s.domain d).offset ++
        leInt 8 (s.domain d).meanDelay ++ leInt 8 (if d = 0 then s.time.rateA else s.time.rateB) ++
        leInt 2 ((s.domain d).gm.elim 0 (fun a => a.utcOffset)) ++ sliceBytes (s.domain d).metadata 0 20)) := by
  refine congrArg Host.Outcome.next ((runRead_ok p (by simp; omega)).trans (congrArg _ ?_))
  have htake : s.takeNo.domain d = s.domain d := rfl
  dsimp only
  rw [htake]
  cases (s.domain d).gm <;> rfl

/-- Settles O11: the answer of each reading command, as its row spells it. -/
theorem systemReadsAnswer : Obligations.SystemReadsAnswer := by
  refine fun h s => ⟨fun p => ?nop, fun p => ?getInfo, fun first count p hfirst hlo hhi => ?logRead, fun d gm p hd hgm => ?domainStatus⟩
  case nop => exact congrArg Host.Outcome.next (runRead_ok p rfl)
  case getInfo => exact congrArg Host.Outcome.next (runRead_ok p rfl)
  case logRead => exact congrArg Host.Outcome.next (runRead_ok p (by simp; omega))
  case domainStatus => exact hgm ▸ exec_domainStatus_ok p hd

/-! ## Media -/

/-- Four locks as the bits of a number. -/
theorem testBit_of_four_locks : ∀ a b c d : Bool, ∀ i < 4,
    (0 + b2n a * 2 ^ 0 + b2n b * 2 ^ 1 + b2n c * 2 ^ 2 + b2n d * 2 ^ 3).testBit i = [a, b, c, d].getD i false := by decide

/-- One lock as bit 0 of a number. -/
theorem testBit_of_one_lock : ∀ a : Bool, (0 + b2n a * 2 ^ 0).testBit 0 = a := by decide

/-- The lock bits of PORT_STATUS: bit i is the block lock of lane i of the port, a port having one lane or four (R91). -/
theorem portStatus_mask_testBit (s : State) (port i lane : Nat) (hlane : (s.portLanes port)[i]? = some lane) :
    (((List.range (s.portLanes port).length).zip (s.portLanes port)).foldl
      (fun m x => m + b2n (s.lane x.2).blockLock * 2 ^ x.1) 0).testBit i = (s.lane lane).blockLock := by
  unfold State.portLanes at hlane ⊢
  split at hlane
  case isTrue hmode =>
    obtain ⟨hi, hget⟩ := List.getElem?_eq_some_iff.mp hlane
    simp only [if_pos hmode]
    refine (testBit_of_four_locks _ _ _ _ i hi).trans ?_
    have hi4 : i = 0 ∨ i = 1 ∨ i = 2 ∨ i = 3 := by simp at hi; omega
    rcases hi4 with rfl | rfl | rfl | rfl <;> exact congrArg (fun l => (s.lane l).blockLock) hget
  case isFalse hmode =>
    obtain ⟨hi, hget⟩ := List.getElem?_eq_some_iff.mp hlane
    simp only [if_neg hmode]
    obtain rfl : i = 0 := by simpa using hi
    exact (testBit_of_one_lock _).trans (congrArg (fun l => (s.lane l).blockLock) hget)

/-- Settles O12: the answer of each reading command, as its row spells it. -/
theorem mediaReadsAnswer : Obligations.MediaReadsAnswer := by
  refine fun h s => ⟨fun port p hport => ?portStatus, fun kind index p hkind hindex => ?flowStatus, fun dest p hdest => ?routeStatus,
    fun head p hhead => ?leaseStatus, fun head p hhead => ?audioHead, fun flow p hflow => ?audioFlow⟩
  case portStatus =>
    exact ⟨_, congrArg Host.Outcome.next (runRead_ok p (by simp; omega)), fun i lane _ => portStatus_mask_testBit s port i lane⟩
  case flowStatus =>
    refine congrArg Host.Outcome.next ((runRead_ok p (by simp; omega)).trans (congrArg _ ?_))
    have htake : s.takeNo.flow kind index = s.flow kind index := rfl
    dsimp only
    rw [htake]
    cases newestComplete (s.flow kind index) <;> rfl
  case routeStatus =>
    refine congrArg Host.Outcome.next ((runRead_ok p (by simp [hdest])).trans (congrArg _ ?_))
    have htake : s.takeNo.dest dest = s.dest dest := rfl
    dsimp only
    rw [htake]
    cases (s.dest dest).shown <;> rfl
  case leaseStatus => exact congrArg Host.Outcome.next (runRead_ok p (by simp; omega))
  case audioHead =>
    refine congrArg Host.Outcome.next ((runRead_ok p (by simp; omega)).trans (congrArg _ ?_))
    exact if_pos (by omega)
  case audioFlow =>
    refine congrArg Host.Outcome.next ((runRead_ok p (by simp; omega)).trans (congrArg _ ?_))
    rw [if_neg (by omega), Nat.add_sub_cancel_left]
    rfl

/-! ## Heads -/

/-- A VIEW_TEST that passes is answered OK and changes nothing. -/
theorem exec_viewTest_ok {h : Hdr} {s : State} {v : ViewSetP} (p : Plain h 0x0A03 s) (hc : (viewChecks v s).1 = {}) :
    exec (.viewTest h v) s = .next (answered h 0x0A03 stOk s s.takeNo []) := by
  change execViewTest h v s = _
  have hpass : testCmd h false 4 ((viewChecks v s).1.served h 0x0A03 s) s = none := by
    rw [hc]
    exact testCmd_plain p rfl rfl rfl rfl rfl rfl
  simp only [execViewTest, hpass]
  rfl

/-- Settles O13: the answer of each reading command, as its row spells it. -/
theorem headReadsAnswer : Obligations.HeadReadsAnswer := by
  refine fun h s head hhead => ⟨fun p => ?headStatus, fun p => ?panelStatus, fun p => ?ledgerStats, fun check p hcheck => ?checkRead,
    fun c views p hcfg hmode hviews hfail hload haudio => ?viewTest⟩
  case headStatus => exact congrArg Host.Outcome.next (runRead_ok p (by simp; omega))
  case panelStatus => exact congrArg Host.Outcome.next (runRead_ok p (by simp; omega))
  case ledgerStats => exact congrArg Host.Outcome.next (runRead_ok p (by simp; omega))
  case checkRead => exact congrArg Host.Outcome.next (runRead_ok p (by simp; omega))
  case viewTest =>
    refine exec_viewTest_ok p ?_
    have hfollows : (s.head head).follows = false := by simp [Head.follows, hcfg, hmode]
    simp [viewChecks, hcfg, hviews, hfail, hload, haudio, hfollows]
    omega

/-! ## Service -/

/-- Settles O14: the answer of each reading command, as its row spells it. -/
theorem serviceReadsAnswer : Obligations.ServiceReadsAnswer := by
  refine fun h s => ⟨fun p => ?pairStatus, fun page offset count p hserved hpage hoffset hlo hhi => ?nvsRead,
    fun id p hid hscan => ?recordRead, fun c p hc hscan => ?counterRead, fun p => ?powerStatus,
    fun index count p hlo hhi hend => ?tileRead, fun cluster p hcluster => ?engineCounters⟩
  case pairStatus => exact congrArg Host.Outcome.next (runRead_ok p rfl)
  case nvsRead => exact congrArg Host.Outcome.next (runRead_ok p (by simp [hserved]; omega))
  case recordRead =>
    refine congrArg Host.Outcome.next ((runRead_ok p (by simp [hid, hscan])).trans (congrArg _ ?_))
    rw [State.takeNo_nvs]
    cases inUse s.nvs id <;> rfl
  case counterRead => exact congrArg Host.Outcome.next (runRead_ok p (by simp [hscan]; omega))
  case powerStatus => exact congrArg Host.Outcome.next (runRead_ok p rfl)
  case tileRead => exact congrArg Host.Outcome.next (runRead_ok p (by simp; omega))
  case engineCounters => exact congrArg Host.Outcome.next (runRead_ok p (by simp; omega))

end Sys2Proof.Machine
end

section
/-! PROOF. What a packet spells is well-formed (O8): a field read from n bytes fits n bytes, so every record read from them does. -/

namespace Sys2Proof.Machine

/-! ## Fields -/

theorem leNat_lt (bs : List Byte) : leNat bs < 256 ^ bs.length := by
  induction bs with
  | nil => simp [leNat]
  | cons b r ih =>
    have hb : b.toNat < 256 := b.isLt
    rw [leNat, List.length_cons, Nat.pow_succ]
    omega

theorem beNat_lt (bs : List Byte) : beNat bs < 256 ^ bs.length := by
  have hfold : ∀ (bs : List Byte) (a : Nat), bs.foldl (fun a b => 256 * a + b.toNat) a < (a + 1) * 256 ^ bs.length := by
    intro bs
    induction bs with
    | nil => intro a; simp
    | cons b r ih =>
      intro a
      have hb : b.toNat < 256 := b.isLt
      have hstep : (256 * a + b.toNat + 1) * 256 ^ r.length ≤ (256 * (a + 1)) * 256 ^ r.length := Nat.mul_le_mul_right _ (by omega)
      calc (b :: r).foldl (fun a b => 256 * a + b.toNat) a
          < (256 * a + b.toNat + 1) * 256 ^ r.length := ih _
        _ ≤ (256 * (a + 1)) * 256 ^ r.length := hstep
        _ = (a + 1) * 256 ^ (b :: r).length := by rw [List.length_cons, Nat.pow_succ, Nat.mul_comm 256 (a + 1), Nat.mul_assoc, Nat.mul_comm 256]
  simpa [beNat] using hfold bs 0

theorem fits_iff {n v : Nat} : fits n v = true ↔ v < 256 ^ n := decide_eq_true_iff

theorem fitsInt_iff {n : Nat} {v : Int} : fitsInt n v = true ↔ -(256 ^ n) ≤ 2 * v ∧ 2 * v < 256 ^ n := decide_eq_true_iff

@[simp] theorem fits_fieldAt (bs : List Byte) (o n : Nat) : fits n (fieldAt bs o n) = true := by
  simpa [fits_iff, fieldAt] using leNat_lt (sliceBytes bs o n)

@[simp] theorem fits_beAt (bs : List Byte) (o n : Nat) : fits n (beAt bs o n) = true := by
  simpa [fits_iff, beAt] using beNat_lt (sliceBytes bs o n)

/-- A signed field lies within half its range on either side. -/
theorem sx_bounds {b : Nat} (hb : b ≠ 0) (v : Nat) : -(2 ^ b : Int) ≤ 2 * sx b v ∧ 2 * sx b v < 2 ^ b := by
  have hv : v % 2 ^ b < 2 ^ b := Nat.mod_lt _ (Nat.two_pow_pos b)
  have hhalf : 2 ^ b = 2 * 2 ^ (b - 1) := by rw [← Nat.pow_succ', Nat.succ_eq_add_one, Nat.sub_add_cancel (by omega)]
  have hcast : (2 ^ b : Int) = ((2 ^ b : Nat) : Int) := by norm_cast
  simp only [sx, hcast]
  split <;> omega

@[simp] theorem fitsInt_intAt (bs : List Byte) (o : Nat) {n : Nat} [NeZero n] : fitsInt n (intAt bs o n) = true := by
  have h := sx_bounds (b := 8 * n) (by have := NeZero.ne n; omega) (fieldAt bs o n)
  rw [show (2 ^ (8 * n) : Int) = 256 ^ n from Int.pow_mul] at h
  exact fitsInt_iff.mpr h

@[simp] theorem fitsAll_natsAt (bs : List Byte) (o n k : Nat) : fitsAll n k (natsAt bs o n k) = true := by
  simp [fitsAll, natsAt]

theorem fitsAll_pair (n a b : Nat) : fitsAll n 2 [a, b] = (fits n a && fits n b) := by
  simp [fitsAll]

@[simp] theorem fitsInts_intsAt (bs : List Byte) (o k : Nat) {n : Nat} [NeZero n] : fitsInts n k (intsAt bs o n k) = true := by
  simp [fitsInts, intsAt]

/-- What fits a byte count fits a greater one. -/
theorem fits_mono {m n v : Nat} (hmn : m ≤ n) (h : fits m v = true) : fits n v = true := by
  rw [fits_iff] at h ⊢
  exact Nat.lt_of_lt_of_le h (Nat.pow_le_pow_right (by decide) hmn)

@[simp] theorem fits_zero (n : Nat) : fits n 0 = true := fits_iff.mpr (Nat.pow_pos (by decide))

/-! ## Encodings of R494, R499 and R500 -/

variable (p : List Byte) (o : Nat)

@[simp] theorem timeAt_ok : (timeAt p o).ok = true := by simp [timeAt, StoredTime.ok]

@[simp] theorem rateAt_ok : (rateAt p o).ok = true := by simp [rateAt, Rate.ok]

@[simp] theorem destAt_ok : (destAt p o).ok = true := by simp [destAt, Dest.ok]

@[simp] theorem fits_addrAt (family : Nat) : fits 16 (addrAt p o family) = true := by
  unfold addrAt
  split
  · exact fits_mono (m := 4) (by decide) (fits_beAt p o 4)
  · exact fits_beAt p o 16

@[simp] theorem legAt_ok : (legAt p o).ok = true := by simp [legAt, Leg.ok]

@[simp] theorem videoAt_ok : (videoAt p o).ok = true := by simp [videoAt, Format.ok]

@[simp] theorem formatAt_ok (kind : Nat) : (formatAt p o kind).ok = true := by
  unfold formatAt
  split
  · simp
  · split <;> simp [Format.ok, Rate.ok]

@[simp] theorem matrixAt_ok : (matrixAt p o).ok = true := by simp [matrixAt, Matrix1.ok]

/-- A rectangle fits where its corner lies within 33 signed bits and its size within 32. -/
theorem Rect.ok_of {r : Rect} (hx : -(2 ^ 32) ≤ r.x ∧ r.x < 2 ^ 32) (hy : -(2 ^ 32) ≤ r.y ∧ r.y < 2 ^ 32) (hw : fits 4 r.w = true)
    (hh : fits 4 r.h = true) : r.ok = true := by
  rw [Rect.ok, decide_eq_true hx, decide_eq_true hy, hw, hh]
  rfl

@[simp] theorem cropAt_ok : (cropAt p o).ok = true := by
  have hx := fits_iff.mp (fits_fieldAt p o 4)
  have hy := fits_iff.mp (fits_fieldAt p (o + 4) 4)
  exact Rect.ok_of (by simp only [cropAt]; omega) (by simp only [cropAt]; omega) (fits_fieldAt _ _ _) (fits_fieldAt _ _ _)

@[simp] theorem placeAt_ok : (placeAt p o).ok = true := by
  have hx := fitsInt_iff.mp (fitsInt_intAt p o (n := 2))
  have hy := fitsInt_iff.mp (fitsInt_intAt p (o + 2) (n := 2))
  exact Rect.ok_of (by simp only [placeAt]; omega) (by simp only [placeAt]; omega) (fits_mono (m := 2) (by decide) (fits_fieldAt _ _ _))
    (fits_mono (m := 2) (by decide) (fits_fieldAt _ _ _))

@[simp] theorem viewAt_ok : (viewAt p o).ok = true := by simp [viewAt, ViewP.ok]

theorem hdrOf_ok {src : Nat} (hsrc : src < 6) (bs : List Byte) : (hdrOf src bs).ok = true := by
  have hlaunch : (hdrOf src bs).launch.ok = true := by
    unfold hdrOf
    dsimp only
    split
    · simp
    · rfl
  rw [Hdr.ok, hlaunch]
  simp [hdrOf, below, hsrc]

/-! ## The reference tables, group by group -/

variable {h : Hdr} {op n : Nat} {p : List Byte} {x : Operands}

theorem systemOperands_wellFormed (hh : h.ok = true) (hx : systemOperands h op p = some x) : wellFormed x.cmd = true := by
  unfold systemOperands at hx
  split at hx <;> cases hx <;> simp [wellFormed, hh, DomainSetP.ok, TpConfigP.ok, EvtOutP.ok]

theorem networkOperands_wellFormed (hh : h.ok = true) (hx : networkOperands h op p = some x) : wellFormed x.cmd = true := by
  unfold networkOperands at hx
  split at hx <;> cases hx <;> simp [wellFormed, hh, PortSetP.ok, FlowSetP.ok, TxSetP.ok, fitsAll_pair]

theorem matrixOperands_wellFormed (hh : h.ok = true) (hx : matrixOperands h op p = some x) : wellFormed x.cmd = true := by
  unfold matrixOperands at hx
  split at hx <;> cases hx <;>
    simp [wellFormed, hh, RouteSetP.ok, OutputSetP.ok, LayerSetP.ok, PresentP.ok, AudioHeadP.ok]

/-- The views of a packet, as many as one byte counts. -/
theorem viewsAt_ok (p : List Byte) :
    ({ head := fieldAt p 0 1, views := (List.range (fieldAt p 1 1)).map (fun i => viewAt p (4 + 24 * i)) } : ViewSetP).ok = true := by
  have hcount := fits_fieldAt p 1 1
  rw [fits_iff] at hcount
  simp [ViewSetP.ok, below]
  omega

theorem headOperands_wellFormed (hh : h.ok = true) (hx : headOperands h op p = some x) : wellFormed x.cmd = true := by
  unfold headOperands at hx
  split at hx <;> cases hx <;>
    simp [wellFormed, hh, HeadConfigP.ok, HeadSrP.ok, HeadPictureP.ok, HeadGateP.ok, CheckSetP.ok, viewsAt_ok]

theorem panelOperands_wellFormed (hh : h.ok = true) (hx : panelOperands h op p = some x) : wellFormed x.cmd = true := by
  unfold panelOperands at hx
  split at hx <;> cases hx <;> simp [wellFormed, hh, PowerSeqP.ok, DriverSetP.ok, SettingsP.ok, VcomP.ok]

/-- A packet of at most 1,024 bytes ends the data of NVS_WRITE and RECORD_WRITE in time. -/
theorem serviceOperands_wellFormed (hn : n ≤ 1024) (hh : h.ok = true) (hx : serviceOperands h op n p = some x) :
    wellFormed x.cmd = true := by
  have hcount := fits_fieldAt p 3 1
  rw [fits_iff] at hcount
  unfold serviceOperands at hx
  split at hx <;> cases hx <;> simp [wellFormed, hh, YoyoP.ok] <;> omega

theorem operandsOf_wellFormed (hn : n ≤ 1024) (hh : h.ok = true) (hx : operandsOf h op n p = some x) : wellFormed x.cmd = true := by
  unfold operandsOf at hx
  split at hx
  · exact systemOperands_wellFormed hh hx
  · exact systemOperands_wellFormed hh hx
  · exact networkOperands_wellFormed hh hx
  · exact networkOperands_wellFormed hh hx
  · exact matrixOperands_wellFormed hh hx
  · exact matrixOperands_wellFormed hh hx
  · exact headOperands_wellFormed hh hx
  · exact panelOperands_wellFormed hh hx
  · exact panelOperands_wellFormed hh hx
  · exact headOperands_wellFormed hh hx
  · exact headOperands_wellFormed hh hx
  · exact matrixOperands_wellFormed hh hx
  · exact serviceOperands_wellFormed hn hh hx

/-- Where a packet spells a command, its LENGTH is in range and its operands are those of its opcode. -/
theorem readPacket_eq_inr {src : Nat} {bs : List Byte} {c : Instr} (h : readPacket src bs = .inr c) :
    lengthOf bs ≤ 256 ∧ ∃ p x, operandsOf (hdrOf src bs) (opOf bs) (4 * lengthOf bs) p = some x ∧ c = x.cmd := by
  unfold readPacket at h
  dsimp only at h
  generalize (if (hdrOf src bs).timed then 28 else 16) = start at h
  cases hx : operandsOf (hdrOf src bs) (opOf bs) (4 * lengthOf bs) (bs.drop start) with
  | none => simp [hx] at h
  | some x =>
    simp only [hx] at h
    split at h
    case isTrue => exact absurd h Sum.inl_ne_inr
    case isFalse hlen =>
      split at h
      case isTrue => exact absurd h Sum.inl_ne_inr
      case isFalse => exact ⟨by omega, _, x, hx, (Sum.inr.inj h).symm⟩

end Sys2Proof.Machine

namespace Sys2Proof.Machine

/-- Settles O8: the operands of a packet are read from it field by field, each as wide as its encoding. -/
theorem packetsSpellWellFormedCommands : Obligations.PacketsSpellWellFormedCommands := by
  intro src bs c hsrc hread
  obtain ⟨hlen, p, x, hx, rfl⟩ := readPacket_eq_inr hread
  exact operandsOf_wellFormed (by omega) (hdrOf_ok hsrc bs) hx

end Sys2Proof.Machine
end

section
/-! PROOF. The settings of SYSTEM, TIME, DIAG, PORT and FLOW act at once, and the commands of TIME take effect (O15, O16, O17). -/

namespace Sys2Proof.Machine

open Sys2Proof.Safety Sys2Proof.Laws

/-- An immediate command none of whose own tests holds acts and is answered OK. -/
theorem runNow_ok {h : Hdr} {op : Nat} {s : State} {c : Checks} {eff : State → State × List Byte} (p : Plain h op s) (hc : c = {}) :
    runNow h op c s eff = answered h op stOk s (eff s.takeNo).1 (eff s.takeNo).2 := by
  subst hc
  exact runNow_plain p rfl rfl rfl rfl rfl rfl

/-- The same of the whole step, for an effect worked out. -/
theorem next_runNow_ok {h : Hdr} {op : Nat} {s t : State} {c : Checks} {eff : State → State × List Byte} {out : List Byte}
    (p : Plain h op s) (hc : c = {}) (heff : eff s.takeNo = (t, out)) :
    Host.Outcome.next (φ := Fault) (ρ := Refusal) (runNow h op c s eff) = .next (answered h op stOk s t out) := by
  rw [runNow_ok p hc, heff]

/-- An immediate command that may carry a launch time and carries none. -/
theorem runNowT_ok {h : Hdr} {op q : Nat} {i : Instr} {s : State} {c : Checks} {eff : State → State} (p : Plain h op s) (hc : c = {}) :
    runNowT h op q i c s eff = answered h op stOk s (eff s.takeNo) [] := by
  subst hc
  exact runNowT_plain p rfl rfl rfl rfl rfl rfl

/-- The same with a launch time. -/
theorem runNowT_ok_timed {h : Hdr} {op q : Nat} {i : Instr} {s : State} {c : Checks} {eff : State → State} (p : Timed h op q s) (hc : c = {}) :
    runNowT h op q i c s eff = answered h op stAccepted s (s.takeNo.enqueue (mkEntry h q i s)) [] := by
  subst hc
  exact runNowT_timed p rfl rfl rfl rfl rfl rfl

/-- A flag of a packet is set where it is 1. -/
theorem n2b_of_le_one {n : Nat} (h : n ≤ 1) : n2b n = (n == 1) := by
  obtain rfl | rfl : n = 0 ∨ n = 1 := by omega
  all_goals rfl

/-! ## SYSTEM, TIME and DIAG -/

/-- A domain that changes state keeps all else but the tick since when it is in it (R52). -/
theorem State.domainState_domain_same (s : State) (d new : Nat) :
    ∃ since, (s.domainState d new).domain d = { s.domain d with state := new, since := since } := by
  unfold State.domainState
  dsimp only
  split
  case isTrue heq => exact ⟨(s.domain d).since, by rw [← heq]⟩
  case isFalse => exact ⟨_, State.setDomain_domain ..⟩

theorem State.domainState_domain_other (s : State) {d d' : Nat} (new : Nat) (hne : d' ≠ d) :
    (s.domainState d new).domain d' = s.domain d' := by
  unfold State.domainState
  dsimp only
  split
  · rfl
  · exact State.setDomain_domain_other _ _ _ _ hne

/-- DOMAIN_SET as it acts: the settings, the state, and a servo that starts anew (R48, R52). -/
def State.domainSet (s : State) (v : DomainSetP) : State :=
  let s1 := s.setDomain v.domain { s.domain v.domain with
    number := v.domainNumber, primary := v.primary, backup := v.backup, unicast := n2b v.unicast, gmAddr := v.gmAddr, holdover := v.holdover }
  let s2 := s1.domainState v.domain (if v.enable = 1 then 1 else 0)
  s2.setDomain v.domain { s2.domain v.domain with gm := none, offset := 0, meanDelay := 0, good := 0, bad := 0 }

theorem domainSet_effect (s : State) (v : DomainSetP) :
    ((s.domainSet v).domain v.domain).state = (if v.enable = 1 then 1 else 0) ∧ ((s.domainSet v).domain v.domain).number = v.domainNumber ∧
      ((s.domainSet v).domain v.domain).primary = v.primary ∧ ((s.domainSet v).domain v.domain).backup = v.backup ∧
      ((s.domainSet v).domain v.domain).unicast = n2b v.unicast ∧ ((s.domainSet v).domain v.domain).gmAddr = v.gmAddr ∧
      ((s.domainSet v).domain v.domain).holdover = v.holdover ∧ ((s.domainSet v).domain v.domain).gm = none ∧
      (∀ d, d ≠ v.domain → (s.domainSet v).domain d = s.domain d) := by
  obtain ⟨since, hsince⟩ := (s.setDomain v.domain { s.domain v.domain with
    number := v.domainNumber, primary := v.primary, backup := v.backup, unicast := n2b v.unicast, gmAddr := v.gmAddr,
    holdover := v.holdover }).domainState_domain_same v.domain (if v.enable = 1 then 1 else 0)
  have hother : ∀ d, d ≠ v.domain → (s.domainSet v).domain d = s.domain d := fun d hd => by
    rw [State.domainSet, State.setDomain_domain_other _ _ _ _ hd, State.domainState_domain_other _ _ hd,
      State.setDomain_domain_other _ _ _ _ hd]
  refine ⟨?_, ?_, ?_, ?_, ?_, ?_, ?_, ?_, hother⟩ <;> simp [State.domainSet, hsince]

/-- Settles O15: each setting is written as its row spells it. -/
theorem systemSettingsTakeEffectAtOnce : Obligations.SystemSettingsTakeEffectAtOnce := by
  refine fun h s => ⟨fun code enable vector mgt p hcode henable hlo hhi hmgt => ?eventCtl,
    fun v p hdomain henable hnumber hprimary hbackup hunicast hlo hhi => ?domainSet,
    fun v p hlo hhi hslo hshi hacq hauto hrevert => ?tpConfig,
    fun pin edges minPulse report p hpin helo hehi hmlo hmhi hreport => ?evtInSet, fun pin p hpin => ?evtInRead,
    fun memory addr bits p hmemory hlo hhi haddr => ?memInject⟩
  case eventCtl =>
    have hcodes : eventCodes.contains code = true := by simpa using hcode
    refine congrArg Host.Outcome.next ((runNow_ok p (by simp [hcodes, -List.contains_eq_mem]; omega)).trans ?_)
    rw [n2b_of_le_one hmgt]
    rfl
  case domainSet =>
    refine ⟨_, congrArg Host.Outcome.next (runNow_ok p (by simp; omega)), ?_⟩
    rw [← n2b_of_le_one hunicast]
    exact domainSet_effect s.takeNo v
  case tpConfig =>
    refine congrArg Host.Outcome.next ((runNow_ok p (by simp; omega)).trans ?_)
    rw [n2b_of_le_one hacq, n2b_of_le_one hauto, n2b_of_le_one hrevert]
    rfl
  case evtInSet =>
    refine congrArg Host.Outcome.next ((runNow_ok p (by simp; omega)).trans ?_)
    rw [n2b_of_le_one hreport]
    rfl
  case evtInRead => exact congrArg Host.Outcome.next (runNow_ok p (by simp; omega))
  case memInject => exact congrArg Host.Outcome.next (runNow_ok p (by simp; omega))

/-! ## TIME -/

/-- The first of a command's own tests that holds, in the order of R487. -/
def Checks.verdict (c : Checks) : Option Nat :=
  if c.bad then some stBadParam else if c.notReady then some stNotReady else if c.busy then some stBusy else if c.ignored then some stIgnored
  else if c.noResource then some stNoResource else if c.refused then some stRefused else none

/-- Of a command that meets the tests common to all, its own tests decide. -/
theorem testCmd_served_of_plain {h : Hdr} {op : Nat} {s : State} (p : Plain h op s) (t : Bool) (q : Nat) (c : Checks) :
    testCmd h t q (c.served h op s) s = c.verdict := by
  obtain ⟨htimed, hgen, hready, hpair⟩ := p
  have hgen' : (h.genCheck && h.gen != s.time.tpGen) = false := by simpa using hgen
  have hready' : (!mgtOpcode op && !s.sys.ready) = false := by simpa [Decidable.or_iff_not_imp_left] using hready
  have hpair' : (s.standby && h.src != fromPair && pairGroup op) = false := by simpa [Decidable.or_iff_not_imp_left] using hpair
  simp [testCmd, Checks.served, Checks.verdict, launchBad, launchPast, queueFull, htimed, hgen', hready', hpair']

/-- A command that a test of its own turns away after its acceptance is answered, no more. -/
theorem runNow_of_verdict {h : Hdr} {op st : Nat} {s : State} {c : Checks} {eff : State → State × List Byte} (p : Plain h op s)
    (hc : c.verdict = some st) (h1 : st ≠ stBadParam) (h2 : st ≠ stBadOpcode) (h3 : st ≠ stBadLength) :
    runNow h op c s eff = answered h op st s s.takeNo [] := by
  simp [runNow, testCmd_served_of_plain p, hc, rejectCmd, answered, h1, h2, h3]

/-- Events that wait to be posted, after those that wait already. -/
def State.addEvents (s : State) (evs : List Event) : State := { s with cp := { s.cp with events := s.cp.events ++ evs } }

theorem State.post_eq_addEvents (s : State) (code object origin : Nat) (payload : List Byte) : s.post code object origin payload =
    s.addEvents [{ code := code, object := object, origin := origin, payload := payload, time := s.tp, gen := s.time.tpGen }] := rfl

theorem State.addEvents_addEvents (s : State) (a b : List Event) : (s.addEvents a).addEvents b = s.addEvents (a ++ b) := by
  simp [State.addEvents]

/-- A list of drops posts one event each. -/
theorem foldl_dropped (l : List Entry) (cause : Nat) (s : State) : ∃ evs : List Event, evs.length = l.length ∧
    l.foldl (fun s e => s.dropped e.acceptNo e.tag cause) s = s.addEvents evs := by
  induction l generalizing s with
  | nil => exact ⟨[], rfl, by simp [State.addEvents]⟩
  | cons e r ih =>
    obtain ⟨evs, hlen, heq⟩ := ih (s.dropped e.acceptNo e.tag cause)
    rw [State.dropped, State.post_eq_addEvents, State.addEvents_addEvents] at heq
    exact ⟨_, by simp [hlen], heq⟩

/-- Dropped entries leave the launch list, and one CMD_DROPPED each is posted (R76). -/
theorem State.dropEntries_cp (s : State) (f : Entry → Bool) (cause : Nat) :
    (s.dropEntries f cause).cp.launch = s.cp.launch.filter (fun e => !f e) ∧
      (s.dropEntries f cause).cp.events.length = s.cp.events.length + s.cp.launch.countP f := by
  unfold State.dropEntries
  rw [List.partition_eq_filter_filter]
  dsimp only
  obtain ⟨evs, hlen, heq⟩ := foldl_dropped (s.cp.launch.filter f) cause
    { s with cp := { s.cp with launch := s.cp.launch.filter (not ∘ f) } }
  rw [heq]
  exact ⟨rfl, by simp [State.addEvents, hlen, List.countP_eq_length_filter]⟩

/-- The own tests of EVT_OUT_SET, all passed. -/
theorem evtOutSet_checks {p : EvtOutP} {s : State} (hpin : p.pin ≤ 7) (hmode : p.mode ≤ 4) (hpol : p.polarity ≤ 1)
    (hstart : p.start.ns < 1000000000) (hperiod : p.period.ns < 1000000000) (hhead : p.head ≤ 3)
    (hwidth : p.mode = 0 ∨ (8 ≤ p.width ∧ p.width ≤ 1000000000)) (hrate : p.mode = 3 → rateOk p.rate = true)
    (hfits : ∀ x, pulsePeriod p s = some x → nsU p.width < x) :
    ({ bad := decide (p.pin > 7 ∨ p.mode > 4 ∨ p.polarity > 1 ∨ p.start.ns ≥ 1000000000 ∨ p.period.ns ≥ 1000000000 ∨ p.head > 3) ||
        (p.mode != 0 && decide (p.width < 8 ∨ p.width > 1000000000)) || (p.mode == 3 && !rateOk p.rate),
       ignored := match pulsePeriod p s with | some x => decide (nsU p.width ≥ x) | none => false } : Checks) = {} := by
  have hform : ((p.pin ≤ 7 ∧ p.mode ≤ 4 ∧ p.polarity ≤ 1 ∧ p.start.ns < 1000000000 ∧ p.period.ns < 1000000000 ∧ p.head ≤ 3) ∧
      (p.mode ≠ 0 → 8 ≤ p.width ∧ p.width ≤ 1000000000)) ∧ (p.mode = 3 → rateOk p.rate = true) :=
    ⟨⟨⟨hpin, hmode, hpol, hstart, hperiod, hhead⟩, hwidth.resolve_left⟩, hrate⟩
  cases hx : pulsePeriod p s with
  | none => simpa using hform
  | some x => simpa using ⟨hform, hfits x hx⟩

/-- Settles O16: each command as its row spells it; a refused switch is reported after its reply. -/
theorem timeCommandsTakeEffect : Obligations.TimeCommandsTakeEffect := by
  refine fun h s => ⟨fun d p hd hne hok => ?select, fun d p hd hne hrefused => ?selectRefused, fun value p hns => ?stepDomain,
    fun value p hns htrack => ?stepTracking, fun value p hns htrack => ?stepFree, fun queue tag p hqueue hmine => ?cancel,
    fun v p hpin hmode hpol hstart hperiod hhead hwidth hrate hfits => ?evtOut,
    fun v p hpin hmode hpol hstart hperiod hhead hwidth hrate hfits => ?evtOutTimed⟩
  case select =>
    change execTpSelect h d s = _
    simp only [execTpSelect]
    have hc : ({ bad := decide (d > 1), ignored := d == s.time.selected, refused := !s.switchOk d } : Checks) = {} := by
      simp [hok, hne]; omega
    rw [if_neg (by simp [hok]), runNow_ok p hc]
    rfl
  case selectRefused =>
    change execTpSelect h d s = _
    have hbad : decide (d > 1) = false := by simp; omega
    have hignored : (d == s.time.selected) = false := by simpa using hne
    simp only [execTpSelect, hbad, hignored, hrefused, testCmd_served_of_plain p]
    rw [if_pos ⟨rfl, rfl⟩, runNow_of_verdict p rfl (by decide) (by decide) (by decide)]
  case stepDomain => exact congrArg Host.Outcome.next (runNow_ok p (by simp; omega))
  case stepTracking =>
    refine congrArg Host.Outcome.next ((runNow_ok p (by simp; omega)).trans (congrArg (answered h _ _ s · _) ?_))
    exact if_pos htrack
  case stepFree =>
    refine congrArg Host.Outcome.next ((runNow_ok p (by simp; omega)).trans (congrArg (answered h _ _ s · _) ?_))
    exact if_neg (by simp [htrack])
  case cancel =>
    obtain ⟨e, he, htimed, hqueue', htag⟩ := hmine
    refine ⟨_, congrArg Host.Outcome.next (runNow_ok p ?_), s.takeNo.dropEntries_cp _ 1⟩
    have hcount : s.cp.launch.countP (fun e => e.timed && e.queue == queue && e.tag == tag) ≠ 0 := by
      simpa [List.countP_eq_zero] using ⟨e, he, htimed, hqueue', htag⟩
    simp [hcount]
    omega
  case evtOut =>
    have hc := evtOutSet_checks hpin hmode hpol hstart hperiod hhead hwidth hrate hfits
    refine ⟨fun hidle => congrArg Host.Outcome.next ((runNowT_ok p hc).trans (congrArg (answered h _ _ s · _) ?_)),
      fun hpulse => congrArg Host.Outcome.next ((runNowT_ok p hc).trans (congrArg (answered h _ _ s · _) ?_))⟩
    · exact if_neg (Bool.eq_false_iff.mp hidle)
    · exact if_pos hpulse
  case evtOutTimed =>
    exact congrArg Host.Outcome.next
      (runNowT_ok_timed p (evtOutSet_checks hpin hmode hpol hstart hperiod hhead hwidth hrate hfits))

/-! ## PORT and FLOW -/

/-- Quads are written by QUAD_SET alone: what closes the ports and hunts the lanes leaves them. -/
theorem quadChange_quad (quad mode fec : Nat) (s : State) : (quadChange quad mode fec s).quad quad = { mode := mode, fec := fec } := by
  unfold quadChange
  dsimp only
  split
  case isTrue heq => exact heq
  case isFalse =>
    have hlanes : ∀ (l : List Nat) (f : State → Nat → Lane) (x : State), (l.foldl (fun s i => s.setLane i (f s i)) x).quads = x.quads :=
      fun l f x => Within.same (within_foldl (P := 67108864) (fun _ _ h => State.setLane_within rfl h) within_rfl) .quads rfl
    rw [State.quad, hlanes]
    exact spGet_spSet_same

theorem quadChange_of_eq {quad mode fec : Nat} {s : State} (h : s.quad quad = { mode := mode, fec := fec }) : quadChange quad mode fec s = s :=
  if_pos h

/-- A write of the central store leaves the flows. -/
theorem State.putMem_store_flow (s : State) (a : Nat) (bs : List Byte) (k i : Nat) : (s.putMem 0 a bs).flow k i = s.flow k i := by
  have hflows : (s.putMem 0 a bs).flows = s.flows := Within.same (State.putMem_within0 (P := 18890752) rfl within_rfl) .flows rfl
  rw [State.flow, State.flow, hflows]

/-- What FLOW_SET sets of a flow: its settings and whether it is enabled. -/
def RxFlow.setting (f : RxFlow) : Option FlowSetP × Bool := (f.cfg, f.enabled)

theorem State.putSlot_setting (s : State) (i j : Nat) (d : Slot) : ((s.putSlot i j d).flow 0 i).setting = (s.flow 0 i).setting := by
  unfold State.putSlot
  dsimp only
  split
  · rw [State.putMem_store_flow, State.setFlow_flow]
    rfl
  · rw [State.setFlow_flow]
    rfl

theorem State.freshSlots_setting (s : State) (i n : Nat) : ((s.freshSlots i n).flow 0 i).setting = (s.flow 0 i).setting := by
  have hslots : ((s.setFlow 0 i { s.flow 0 i with slots := List.replicate n {} }).flow 0 i).setting = (s.flow 0 i).setting := by
    rw [State.setFlow_flow]
    rfl
  exact keepsAt_foldl (P := fun t : State => (t.flow 0 i).setting = (s.flow 0 i).setting)
    (fun t j ht => (t.putSlot_setting i j {}).trans ht) hslots

/-- FLOW_SET writes the settings and the enable, whatever else it has to begin anew (R104, R107, R122). -/
theorem flowWrite_setting (p : FlowSetP) (s : State) : ((flowWrite p s).flow p.kind p.index).setting = (some p, n2b p.enable) := by
  unfold flowWrite
  dsimp only
  split
  · split
    case isTrue hkind =>
      simp only [hkind, State.freshSlots_setting, State.setFlow_flow]
      rfl
    case isFalse => split <;> simp [State.putMem_store_flow, RxFlow.setting]
  · split
    case isTrue hkind =>
      simp only [hkind]
      split
      · simp [RxFlow.setting]
      · rw [State.freshSlots_setting, State.setFlow_flow]
        rfl
    case isFalse =>
      split
      case isTrue hring => simp [hring.1, State.putMem_store_flow, RxFlow.setting]
      case isFalse => simp [RxFlow.setting]

/-- The first test of FLOW_SET's form bounds its enable. -/
theorem flowOk_enable_le {p : FlowSetP} {s : State} (h : flowOk p s = true) : p.enable ≤ 1 := by
  simp only [flowOk, Bool.and_eq_true, decide_eq_true_eq, and_assoc] at h
  obtain ⟨-, -, henable, -⟩ := h
  exact henable

theorem txOk_form {p : TxSetP} {s : State} (h : txOk p s = true) : (p.kind = 3 ∨ p.kind = 4) ∧ p.enable ≤ 1 := by
  simp only [txOk, Bool.and_eq_true, decide_eq_true_eq, and_assoc] at h
  obtain ⟨hkind, -, henable, -⟩ := h
  exact ⟨hkind, henable⟩

/-- The audio source of a transmit flow is no part of the flow itself. -/
theorem txs_ite_txAudio (c : Prop) [Decidable c] (t : State) (x : Sparse TxAudio) :
    (if c then { t with txAudio := x } else t).txs = t.txs := by
  split <;> rfl

/-- Settles O17: each setting and each counter as its row spells it. -/
theorem networkSettingsTakeEffectAtOnce : Obligations.NetworkSettingsTakeEffectAtOnce := by
  refine fun h s => ⟨fun quad mode fec p hquad hmode hfec => ?quadSet, fun v p hport huntagged hcount hlen hvids => ?portSet,
    fun port clear p hport hclear => ?portCounters, fun v p hok hchannels hsize hlineA hlineB hclash => ?flowSet,
    fun kind index enable c p hkind hindex henable hcfg hclash => ?rxEnable,
    fun kind index enable c p hkind hindex henable hcfg hadmit => ?txEnable,
    fun kind index clear p hkind hindex hclear => ?rxCounters, fun kind index clear p hkind hindex hclear => ?txCounters,
    fun v p hok hline hadmit hchannels => ?txSet⟩
  case quadSet =>
    exact ⟨_, next_runNow_ok p (by simp; omega) rfl, quadChange_quad .., quadChange_of_eq (s := s.takeNo)⟩
  case portSet =>
    refine next_runNow_ok p ?_ (by rw [n2b_of_le_one huntagged]; rfl)
    have hform : (v.port ≤ 31 ∧ v.untagged ≤ 1 ∧ v.vidCount ≤ 8 ∧ v.ip4Len ≤ 32) ∧ ∀ x ∈ v.vids.take v.vidCount, x ≠ 0 ∧ x ≤ 4094 :=
      ⟨⟨hport, huntagged, hcount, hlen⟩, fun x hx => ⟨Nat.one_le_iff_ne_zero.mp (hvids x hx).1, (hvids x hx).2⟩⟩
    simpa using hform
  case portCounters => exact next_runNow_ok p (by simp; omega) rfl
  case flowSet =>
    refine ⟨_, next_runNow_ok p ?_ rfl, ?_⟩
    · have hlineB' : v.legBPresent ≠ 0 → overLine s v.kind v.format v.legB = false := hlineB.resolve_left
      have hclash' : v.enable ≠ 0 → keyClash s v.kind v.index v = false := hclash.resolve_left
      simpa [hok, hlineA] using ⟨hchannels, ⟨hsize, hlineB'⟩, hclash'⟩
    · rw [← n2b_of_le_one (flowOk_enable_le hok)]
      exact Prod.mk.inj (flowWrite_setting ..)
  case rxEnable =>
    refine ⟨_, next_runNow_ok p ?_ (if_pos hkind), ?_, ?_⟩
    · have hclash' : enable = 1 → keyClash s kind index c = false := fun he => hclash.resolve_left (by omega)
      have hkind4 : kind ≤ 4 ∧ kind ≠ 4 := by omega
      simpa [hkind, hcfg, hindex, henable, hkind4] using hclash'
    · rw [State.setFlow_flow, n2b_of_le_one henable]
    · intro he
      subst he
      rfl
  case txEnable =>
    refine next_runNow_ok p ?_ ((if_neg (by omega)).trans (by rw [n2b_of_le_one henable]))
    have hkind' : ¬ kind ≤ 2 := by omega
    have hform : (kind ≤ 4 ∧ index ≤ 63 ∧ enable ≤ 1) ∧
        (enable = 1 → kind = 4 → otherTxChannels s index + (audioShape s c).1 ≤ 1024) ∧ (enable = 1 → txAdmits s c = true) :=
      ⟨⟨by omega, hindex, henable⟩, fun he hk => (hadmit.resolve_left (by omega)).2.resolve_left (by omega),
        fun he => (hadmit.resolve_left (by omega)).1⟩
    simpa [hkind', hcfg] using hform
  case rxCounters =>
    refine ⟨_, next_runNow_ok p (by simp; omega) (if_pos hkind), ?_⟩
    intro hclear
    simp [hclear]
  case txCounters => exact next_runNow_ok p (by simp; omega) (if_neg (by omega))
  case txSet =>
    obtain ⟨hkind, henable⟩ := txOk_form hok
    rw [← n2b_of_le_one henable]
    refine ⟨_, next_runNow_ok p ?_ rfl, ?_, fun hkind3 => ?_⟩
    · have hadmit' : (v.kind = 4 → v.enable = 1 → otherTxChannels s v.index + (audioShape s v).1 ≤ 1024) ∧
          (v.enable = 1 → txAdmits s v = true) := ⟨fun hk he => by omega, fun he => hadmit.resolve_left (by omega)⟩
      simpa [hok, hline] using hadmit'
    · rw [State.tx, txs_ite_txAudio]
      exact State.setTx_tx ..
    · rw [if_neg (by omega), hkind3]
      rfl

end Sys2Proof.Machine
end

section
/-! PROOF. The commands of mark B act at once on idle objects and else wait (O18, O20, O21, O22). -/

namespace Sys2Proof.Machine

open Sys2Proof.Safety Sys2Proof.Laws

/-! ## The form that they share (R488, R490, R653) -/

section
variable {h : Hdr} {op q : Nat} {i : Instr} {s u : State} {a t : Bool} {c : Checks} {detail data : List Byte}
  {params : State → List Byte} {eff : Entry → State → State}

/-- None of its own tests holds, and it may not take effect at once: it waits. -/
theorem next_runBound_waits (p : Plain h op s) (hc : c = {}) (ha : a = false) :
    Host.Outcome.next (φ := Fault) (ρ := Refusal) (runBound h op t q i a c detail params s eff data) =
      .next (waiting h op q i s data (params s.takeNo)) := by
  subst hc ha
  rw [runBound_waits p rfl rfl rfl rfl rfl rfl]

/-- None of its own tests holds, and it takes effect at once. -/
theorem next_runBound_now (p : Plain h op s) (hc : c = {}) (ha : a = true) (heff : eff { mkEntry h q i s with data := data } s.takeNo = u) :
    Host.Outcome.next (φ := Fault) (ρ := Refusal) (runBound h op t q i a c detail params s eff data) =
      .next (answered h op stAccepted s u (params s.takeNo)) := by
  subst hc ha heff
  rw [runBound_now p rfl rfl rfl rfl rfl rfl]

/-- None of its own tests holds, and it has a launch time: it waits for it. -/
theorem next_runBound_timed (p : Timed h op q s) (hc : c = {}) :
    Host.Outcome.next (φ := Fault) (ρ := Refusal) (runBound h op true q i a c detail params s eff data) =
      .next (waiting h op q i s data (params s.takeNo)) := by
  subst hc
  rw [runBound_timed p rfl rfl rfl rfl rfl rfl]

/-- The two ways of one without a launch time. -/
theorem next_runBound_plain (p : Plain h op s) (hc : c = {}) (heff : eff { mkEntry h q i s with data := data } s.takeNo = u) :
    (a = true → Host.Outcome.next (φ := Fault) (ρ := Refusal) (runBound h op t q i a c detail params s eff data) =
      .next (answered h op stAccepted s u (params s.takeNo))) ∧
    (a = false → Host.Outcome.next (φ := Fault) (ρ := Refusal) (runBound h op t q i a c detail params s eff data) =
      .next (waiting h op q i s data (params s.takeNo))) :=
  ⟨fun ha => next_runBound_now p hc ha heff, next_runBound_waits p hc⟩

/-- The three ways of one that may carry a launch time. -/
theorem next_runBound (hc : c = {}) (heff : eff { mkEntry h q i s with data := data } s.takeNo = u) :
    (Plain h op s → a = true → Host.Outcome.next (φ := Fault) (ρ := Refusal) (runBound h op true q i a c detail params s eff data) =
      .next (answered h op stAccepted s u (params s.takeNo))) ∧
    (Plain h op s → a = false → Host.Outcome.next (φ := Fault) (ρ := Refusal) (runBound h op true q i a c detail params s eff data) =
      .next (waiting h op q i s data (params s.takeNo))) ∧
    (Timed h op q s → Host.Outcome.next (φ := Fault) (ρ := Refusal) (runBound h op true q i a c detail params s eff data) =
      .next (waiting h op q i s data (params s.takeNo))) :=
  ⟨fun p ha => next_runBound_now p hc ha heff, fun p => next_runBound_waits p hc, fun p => next_runBound_timed p hc⟩

end

/-- A command that needs no buffer runs as it is. -/
theorem withBuffer_skip {h : Hdr} {op : Nat} {i : Instr} {skip : Bool} {addr n : Nat} {s : State} {run : List Byte → State → State}
    (hskip : skip = true) : withBuffer h op i skip addr n s run = run [] s := by
  rw [withBuffer, hskip]
  rfl

/-! ## ROUTE, LAYER and AUDIO -/

/-- Settles O18. -/
theorem matrixCommandsActAtBoundaries : Obligations.MatrixCommandsActAtBoundaries := by
  refine fun h s => ⟨fun p hdest htrans hwait hwind hroute hframes => ?route, fun p hp hok hlut hratio haudio => ?output,
    fun p hp h1 h2 h3 h4 h5 h6 h7 h8 h9 h10 h11 h12 h13 h14 h15 h16 h17 h18 hm2 hw hh hz hratio hwind => ?layer,
    fun dest axis buffer p hdest haxis hwind => ?coef, fun source flow map p hsource hflow hmap hfits => ?assoc,
    fun p d hp hhead hlayer hlo hhi htdm hformat hmap hwind hd hfits => ?audioHead,
    fun flow index map p hflow hindex hmap => ?audioTxHead,
    fun flow index map c d p hflow hindex hmap hcfg hd hfits => ?audioTxOutput⟩
  case route =>
    refine next_runBound ?_ rfl
    simp [hdest]
    exact ⟨by omega, hwind⟩
  case output =>
    simp only [← Option.isNone_iff_eq_none, ne_eq, Bool.not_eq_true]
    change (_ → Host.Outcome.next (withBuffer ..) = _) ∧ (_ → Host.Outcome.next (withBuffer ..) = _)
    rw [withBuffer_skip (by simp [hlut])]
    refine next_runBound_plain hp ?_ rfl
    simp [hlut, hok, hratio, haudio]
  case layer =>
    refine next_runBound_plain hp ?_ rfl
    simp [hratio, hwind, h18]
    simp only [ratioOk, decide_eq_true_eq] at hratio
    exact ⟨⟨⟨by omega, by omega⟩, hm2⟩, hz⟩
  case coef =>
    change (_ → Host.Outcome.next (withBuffer ..) = _) ∧ (_ → Host.Outcome.next (withBuffer ..) = _)
    rw [withBuffer_skip (skip := 1 != 0) rfl]
    refine next_runBound_plain p ?_ rfl
    simp [hdest]
    exact ⟨haxis, hwind⟩
  case assoc =>
    refine next_runBound_now p ?_ rfl rfl
    simp [hmap]
    exact ⟨by omega, hfits.resolve_left⟩
  case audioHead =>
    subst hd
    refine next_runBound_plain hp ?_ rfl
    simp [hmap, hwind]
    exact ⟨by omega, hfits⟩
  case audioTxHead =>
    refine next_runBound_now p ?_ rfl rfl
    simp [hmap]
    omega
  case audioTxOutput =>
    change execAudioTx h flow 0 index map s = _
    subst hd
    simp only [execAudioTx, hcfg, reduceIte]
    refine next_runBound_waits p ?_ rfl
    simp [hmap]
    exact ⟨by omega, hfits⟩

/-! ## HEAD, PANEL, LEDGER and CHECK -/

/-- Settles O20. -/
theorem headCommandsActAtBoundaries : Obligations.HeadCommandsActAtBoundaries := by
  refine fun h s n hn hwind => ⟨fun v p hhead h1 h2 h3 h4 h5 h6 h7 h8 h9 hon hoff => ?sr, fun v p hhead hback hlut => ?picture,
    fun v p hhead h1 h2 h3 h4 h5 h6 h7 h8 h9 h10 h11 h12 h13 h14 h15 => ?vcom,
    fun allowed time code p hlo hhi hcode hallowed => ?ledgerSet, fun p hcfg => ?ledgerClear, fun hfail => ?activate,
    fun base hbase hend hcfg hrelease hwaiting => ?mura,
    fun v hhead h1 h2 h3 h4 h5 h6 h7 h8 h9 h10 h11 h12 hview hcfg hx hy => ?check⟩
  case sr =>
    subst hhead
    have hc : (
        { bad := decide (v.head > 3 ∨ v.command > 2 ∨ v.mode > 2 ∨ v.idle < 100 ∨ v.idle > 600000 ∨ v.period > 50000 ∨ v.holdLimit < 60 ∨
            v.holdLimit > 2000 ∨ 1000 * v.holdLimit ≤ v.period ∨ usU v.period < (s.head v.head).framePeriod)
          busy := s.sys.windDown
          ignored := (v.command == 1 && !((s.head v.head).state == 3 && v.mode != 0)) ||
            (v.command == 2 && (s.head v.head).state != 4) } : Checks) = {} := by
      simp [hwind]
      exact ⟨by omega, hon, hoff⟩
    exact ⟨fun hnow => next_runBound_now p hc (by simpa using hnow) rfl,
      fun hstop hcmd => next_runBound_waits p hc (by simp [hstop, hcmd])⟩
  case picture =>
    subst hhead
    change (_ → Host.Outcome.next (withBuffer ..) = _) ∧ (_ → Host.Outcome.next (withBuffer ..) = _)
    rw [withBuffer_skip (by simp [hlut])]
    refine next_runBound_plain p ?_ ?_
    · simp [hlut, hwind, lutBytes, storeSize]
      exact ⟨hn, hback⟩
    · rw [State.pictureApply, hlut]
      rfl
  case vcom =>
    subst hhead
    refine next_runBound_plain p ?_ rfl
    simp [hwind]
    omega
  case ledgerSet =>
    refine next_runBound_plain p ?_ rfl
    simp [hwind, hallowed]
    omega
  case ledgerClear =>
    have hset : (s.head n).cfg.isNone = false := Option.isNone_eq_false_iff.mpr (Option.isSome_iff_ne_none.mpr hcfg)
    refine next_runBound_plain p ?_ rfl
    simp only [hwind, hn, hset, Nat.not_lt, gt_iff_lt, decide_eq_false]
  case activate =>
    refine next_runBound ?_ rfl
    simp [hwind, hn, hfail]
  case mura =>
    have hset : (s.head n).cfg.isNone = false := Option.isNone_eq_false_iff.mpr (Option.isSome_iff_ne_none.mpr hcfg)
    refine next_runBound ?_ rfl
    simp only [hwind, hset, hrelease, hbase]
    simp
    refine ⟨⟨hn, hend⟩, fun e he => ?_⟩
    have hne := hwaiting e he
    split
    next g m b hcmd => simpa using fun (hm : m = n) => hne g b (by rw [hcmd, hm])
    next => rfl
  case check =>
    subst hhead
    have hset : (s.head v.head).cfg.isNone = false := Option.isNone_eq_false_iff.mpr (Option.isSome_iff_ne_none.mpr hcfg)
    refine next_runBound ?_ rfl
    simp only [hwind, hset]
    simp
    omega

/-! ## A timing change that waited is replaced (R333) -/

theorem State.replaceTiming_same (s : State) (n : Nat) (p : Part) (hp : Nat.testBit 1099511676928 p.ctorIdx = false) : p.same s (s.replaceTiming n) :=
  (State.replaceTiming_within (P := 1099511676928) rfl within_rfl).same p hp

/-- The replaced entries leave their queue, no other entry comes. -/
theorem queueLen_replaceTiming_le (s : State) (n q : Nat) : queueLen (s.replaceTiming n) q ≤ queueLen s q := by
  have hlaunch := (s.dropEntries_cp (fun e => e.queue == n && isTimingChange e.cmd) 2).1
  change ((s.dropEntries (fun e => e.queue == n && isTimingChange e.cmd) 2).cp.launch.filter _).length ≤ (s.cp.launch.filter _).length
  rw [hlaunch]
  exact (List.filter_sublist.filter _).length_le

/-- A command that is served is served as well where the timing change before it is dropped. -/
theorem plain_replaceTiming {h : Hdr} {op : Nat} {s : State} (p : Plain h op s) (n : Nat) : Plain h op (s.replaceTiming n) := by
  have htime : (s.replaceTiming n).time = s.time := s.replaceTiming_same n .time rfl
  have hsys : (s.replaceTiming n).sys = s.sys := s.replaceTiming_same n .sys rfl
  have hpair : (s.replaceTiming n).pair = s.pair := s.replaceTiming_same n .pair rfl
  simpa only [Plain, State.standby, htime, hsys, hpair] using p

/-- The same of one with a launch time. -/
theorem timed_replaceTiming {h : Hdr} {op q : Nat} {s : State} (p : Timed h op q s) (n : Nat) : Timed h op q (s.replaceTiming n) := by
  have htime : (s.replaceTiming n).time = s.time := s.replaceTiming_same n .time rfl
  have hsys : (s.replaceTiming n).sys = s.sys := s.replaceTiming_same n .sys rfl
  have hpair : (s.replaceTiming n).pair = s.pair := s.replaceTiming_same n .pair rfl
  obtain ⟨ht, hns, hlate, hpast, hroom, hrest⟩ := p
  refine ⟨ht, hns, ?_, ?_, Nat.lt_of_le_of_lt (queueLen_replaceTiming_le s n q) hroom, ?_⟩
  · simpa only [State.tp, htime] using hlate
  · simpa only [State.tp, htime] using hpast
  · simpa only [State.standby, htime, hsys, hpair] using hrest

theorem State.replaceTiming_acceptNo (s : State) (n : Nat) : (s.replaceTiming n).cp.acceptNo = s.cp.acceptNo :=
  s.replaceTiming_same n .acceptNo rfl

theorem answered_replaceTiming {h : Hdr} {op st n : Nat} {s t : State} {out : List Byte} :
    answered h op st (s.replaceTiming n) t out = answered h op st s t out := by
  rw [answered, State.replaceTiming_acceptNo, answered]

/-- VIEW_SET and VIEW_CLEAR with none of their tests holding drop the timing change before them. -/
theorem runViews_of_plain {h : Hdr} {op n mode : Nat} {i : Instr} {c : Checks} {vs : List ViewP} {detail : List Byte} {s : State}
    (p : Plain h op s) (hc : c = {}) (hwind : s.sys.windDown = false) (hchange : (s.head n).scan.changing = false) :
    runViews h op n i c detail mode vs s = runBound h op true n i (s.head n).idle {} detail (fun _ => []) (s.replaceTiming n)
      (fun e s => (s.viewsNow n mode vs).entryApplied e noFrame n) := by
  subst hc
  simp [runViews, hwind, hchange, testCmd_served_of_plain p, Checks.verdict]

/-- The two ways of VIEW_SET and VIEW_CLEAR where none of their tests holds. -/
theorem next_runViews {h : Hdr} {op n mode : Nat} {i : Instr} {c : Checks} {vs : List ViewP} {detail : List Byte} {s : State} (hc : c = {})
    (hwind : s.sys.windDown = false) (hchange : (s.head n).scan.changing = false) :
    (Plain h op s → (s.head n).idle = true → Host.Outcome.next (φ := Fault) (ρ := Refusal) (runViews h op n i c detail mode vs s) =
      .next (answered h op stAccepted s
        (((s.replaceTiming n).takeNo.viewsNow n mode vs).entryApplied (mkEntry h n i (s.replaceTiming n)) noFrame n) [])) ∧
    (Plain h op s → (s.head n).idle = false → Host.Outcome.next (φ := Fault) (ρ := Refusal) (runViews h op n i c detail mode vs s) =
      .next (answered h op stAccepted s ((s.replaceTiming n).takeNo.enqueue (mkEntry h n i (s.replaceTiming n))) [])) := by
  refine ⟨fun p hidle => ?_, fun p hidle => ?_⟩
  all_goals rw [runViews_of_plain p hc hwind hchange]
  · rw [← answered_replaceTiming (n := n)]
    exact next_runBound_now (plain_replaceTiming p n) rfl hidle rfl
  · rw [← answered_replaceTiming (n := n)]
    exact next_runBound_waits (plain_replaceTiming p n) rfl hidle

/-- Settles O21. -/
theorem viewCommandsChangeTheTiming : Obligations.ViewCommandsChangeTheTiming := by
  refine fun h s n c hn hwind hchange hcfg => ⟨fun views hmode hviews hfail hload haudio => ?set, fun mode hmode hok hin hrefused => ?clear⟩
  case set =>
    have hfollow : (s.head n).follows = false := by simpa [Head.follows, hcfg] using hmode
    have hc : (viewChecks ⟨n, views⟩ s).1 = {} := by simp [viewChecks, hn, hcfg, hviews, hfollow, hfail, hload, haudio]
    exact next_runViews hc hwind hchange
  case clear =>
    refine next_runViews ?_ hwind hchange
    simp [hcfg, hin, hrefused, hn, hmode]
    exact hok

/-! ## HEAD_CONFIG and HEAD_UNCONFIG (R241, R242) -/

/-- What a head's configuration gives it, whatever the tiles and banks held before. -/
theorem State.configNow_head (s : State) (p : HeadConfigP) (a : Nat × Nat × Nat × Nat) : (s.configNow p a).head p.head = { s.head p.head with
    cfg := some p, allot := { tileBase := a.1, tiles := a.2.1, ringFirst := a.2.2.1, ringBanks := a.2.2.2, low := lowOf p, crit := critOf p } } := by
  have hheads : ((s.takeTiles p.head a.1 a.2.1).takeBanks a.2.2.1 a.2.2.2).heads = s.heads :=
    (State.takeBanks_within (P := 549776785408) rfl (State.takeTiles_within rfl within_rfl)).same .heads rfl
  rw [State.configNow, State.modHead_head, State.head, hheads]
  rfl

/-- While the pair is enabled no other head is configured. -/
theorem otherHeads_eq_false {s : State} {k : Nat} (hpair : s.pair.enable = true → ∀ n ≤ 3, n ≠ k → (s.head n).cfg = none) :
    (s.pair.enable && headNums.any (fun n => n != k && (s.head n).cfg.isSome)) = false := by
  cases henable : s.pair.enable with
  | false => rfl
  | true =>
    refine List.any_eq_false.mpr fun n hn => ?_
    have hle : n ≤ 3 := by simp [headNums] at hn; omega
    simpa using fun hne => hpair henable n hle hne

/-- A timing change of a head with none of its tests holding drops the one before it and waits. -/
theorem next_timingChange {h : Hdr} {op n : Nat} {i : Instr} {s : State} {c : Checks} {detail out : List Byte} {eff : Entry → State → State}
    (hserved : Plain h op s ∨ Timed h op n s) (hc : c = {}) :
    Host.Outcome.next (φ := Fault) (ρ := Refusal) (runBound h op true n i false c detail (fun _ => out)
      (if testCmd h true n (c.served h op s) s = none then s.replaceTiming n else s) eff) =
      .next (answered h op stAccepted s ((s.replaceTiming n).takeNo.enqueue (mkEntry h n i (s.replaceTiming n))) out) := by
  subst hc
  have hnone : testCmd h true n (({} : Checks).served h op s) s = none :=
    hserved.elim (fun p => testCmd_plain p rfl rfl rfl rfl rfl rfl) (fun p => testCmd_timed p rfl rfl rfl rfl rfl rfl)
  rw [if_pos hnone, ← answered_replaceTiming (n := n)]
  rcases hserved with p | p
  · exact next_runBound_waits (plain_replaceTiming p n) rfl rfl
  · exact next_runBound_timed (timed_replaceTiming p n) rfl

/-- Settles O22. -/
theorem headsAreConfigured : Obligations.HeadsAreConfigured := by
  refine fun h s => ⟨fun p a v hcfg hok hclash hwind hrefused hpair hallot => ⟨?new, ?head⟩,
    fun p c hcfg hstop hchange hok hw hh hclash hwind hrefused hpair hviews v => ?change, fun n p hn hwind hphase hcfg hstate => ?unconfig⟩
  case new =>
    change Host.Outcome.next _ = _
    simp only [hcfg, hallot]
    refine next_runNow_ok v ?_ rfl
    simp only [hok, hclash, hwind, hrefused, otherHeads_eq_false hpair, Option.isNone_some, Bool.not_true, Bool.or_self]
  case head => exact (State.configNow_head ..).trans rfl
  case change =>
    change Host.Outcome.next _ = _
    have hviews' : (p.scanMode == 1 && (s.head p.head).inViews) = false := by simpa using hviews
    simp only [hcfg, hw, hh, ne_eq, not_true_eq_false, or_self, decide_false, Bool.false_eq_true, if_false]
    refine next_timingChange v ?_
    simp [hok, hclash, hwind, hrefused, otherHeads_eq_false hpair, hchange, hstop, hviews']
  case unconfig =>
    have hset : (s.head n).cfg.isNone = false := Option.isNone_eq_false_iff.mpr (Option.isSome_iff_ne_none.mpr hcfg)
    refine next_runNow_ok p ?_ rfl
    simp [hn, hwind, hphase, hset]
    omega

end Sys2Proof.Machine
end

section
/-! PROOF. Commands of heads that start, stop, store and read (O19, O23, O24, O25). -/

namespace Sys2Proof.Machine

open Sys2Proof.Safety Sys2Proof.Laws

/-! ## The forms that they share (R490, R497) -/

/-- What an immediate command does in the words of its obligation. -/
theorem next_runProc {h : Hdr} {op object : Nat} {s u : State} {c : Checks} {eff : Proc → State → State} (p : Plain h op s) (hc : c = {})
    (heff : eff (procOf h op object s) (answered h op stAccepted s s.takeNo []) = u) :
    Host.Outcome.next (φ := Fault) (ρ := Refusal) (runProc h op object c s eff) = .next u := by
  subst hc heff
  rw [runProc_plain p rfl rfl rfl rfl rfl rfl]

/-- What a command that is answered when its work ends does in the words of its obligation. -/
theorem next_runLater {h : Hdr} {op object : Nat} {i : Instr} {s u : State} {c : Checks} {eff : Running → State → State} (p : Plain h op s)
    (hc : c = {}) (heff : eff (runningOf h op object i s) s.takeNo = u) :
    Host.Outcome.next (φ := Fault) (ρ := Refusal) (runLater h op object i c s eff) = .next u := by
  subst hc heff
  rw [runLater_plain p rfl rfl rfl rfl rfl rfl]

/-- Where the store is on, a command of the store runs at once. -/
theorem withStore_of_on {h : Hdr} {op : Nat} {i : Instr} {s : State} {run : State → State} (hon : s.storeOn = true) :
    withStore h op i s run = run s := by
  simp [withStore, hon]

/-- A buffer that lies in the store and reads without an error is handed on. -/
theorem withBuffer_of_read {h : Hdr} {op addr n : Nat} {i : Instr} {skip : Bool} {s t : State} {bs : List Byte} {run : List Byte → State → State}
    (hskip : skip = false) (hfits : addr + n ≤ storeSize) (hon : s.storeOn = true) (hread : s.readMem 0 addr n = (bs, false, t)) :
    withBuffer h op i skip addr n s run = run bs t := by
  rw [withBuffer, hskip, withStore_of_on hon, hread]
  simp [Nat.not_lt.mpr hfits]

/-- A command that waits for no copy runs at once. -/
theorem afterCopy_of_not_copying {h : Hdr} {op n : Nat} {i : Instr} {s : State} {run : State → State} (hcopy : (s.head n).panel.copying = false) :
    afterCopy h op n i s run = run s := by
  simp [afterCopy, hcopy]

/-! ## HEAD_START, HEAD_STOP and what starts a process -/

/-- Settles O23. -/
theorem headsStartAndStop : Obligations.HeadsStartAndStop := by
  refine fun h s n hn hwind => ⟨fun hphase hstate hok => ⟨fun p => ?start, fun p => ?startTimed⟩, fun hstop => ⟨fun p => ?stop, fun p => ?stopTimed⟩,
    fun p hstate hending => ?warmupEnd, fun p hphase => ⟨fun hstate => ?downOff, fun h0 h1 => ?downRuns⟩,
    fun p hstandby hstate hphase hpfail hclear href hlayout => ?windup, fun d p hd htrain => ?retrain⟩
  case start => exact next_runBound_now p (by simp [hn, hwind, hphase, hstate, hok]) rfl rfl
  case startTimed => exact next_runBound_timed p (by simp [hn, hwind, hphase, hstate, hok])
  case stop => exact next_runBound_now p (by simp [hn, hwind, hstop]) rfl rfl
  case stopTimed => exact next_runBound_timed p (by simp [hn, hwind, hstop])
  case warmupEnd => exact next_runProc p (by simp [hn, hwind, hstate, hending]) rfl
  case downOff => exact next_runProc p (by simp [hn, hwind, hphase, hstate]) (if_pos hstate)
  case downRuns => exact next_runProc p (by simp [hn, hwind, hphase, h0]) (if_neg h1)
  case windup =>
    have hlay : ((s.head n).cfg.isSome && !s.layoutOk n (s.head n).w) = false := by
      rcases hlayout with hnone | hok
      · simp [hnone]
      · simp [hok]
    have hstandby' : (s.takeNo.addRunning (runningOf h 0x0801 n (.panelWindup h n) s)).standby = false := hstandby
    refine next_runLater p (by simp [hn, hwind, hstate, hphase, hpfail, hclear, href, hstandby, hlay]) ?_
    simp only [hstandby', Bool.false_eq_true, if_false]
  case retrain => exact next_runProc p (by simp [hd, hwind, htrain]) rfl

/-! ## Settings stored for later -/

/-- Settings in their ranges pass the form test of SETTINGS_LOAD. -/
theorem settingsForm {v : SettingsP} (hn : v.head ≤ 3) (h1 : v.gammaBypass ≤ 1) (h2 : v.muraEnable ≤ 1) (h3 : v.odEnable ≤ 1) (h4 : v.depth ≤ 4)
    (h5 : v.restLevel ≤ 16383) (h6 : v.thermMin ≤ v.thermMax) (h7 : v.thermMax ≤ 4095) (h8 : v.faultBand ≤ 7) (hth : v.thresholds.length = 7)
    (hset : v.settle.length = 8) (hres : v.resScale ∈ [1, 2, 4, 8])
    (hstep : ∀ j < 6, v.thresholds.getD j 0 + 32 ≤ v.thresholds.getD (j + 1) 0) (hle : ∀ x ∈ v.settle, x ≤ 20000) :
    ¬ (decide (v.head > 3 ∨ v.gammaBypass > 1 ∨ v.muraEnable > 1 ∨ v.odEnable > 1 ∨ v.depth > 4 ∨ v.restLevel > 16383 ∨ v.thermMin > v.thermMax ∨
      v.thermMax > 4095 ∨ v.faultBand > 7 ∨ v.thresholds.length ≠ 7 ∨ v.settle.length ≠ 8) || !([1, 2, 4, 8].contains v.resScale) ||
      (List.range 6).any (fun j => decide (v.thresholds.getD (j + 1) 0 < v.thresholds.getD j 0 + 32)) ||
      v.settle.any (fun x => decide (x > 20000))) = true := by
  have hcontains : [1, 2, 4, 8].contains v.resScale = true := by simpa using hres
  have hsteps : (List.range 6).any (fun j => decide (v.thresholds.getD (j + 1) 0 < v.thresholds.getD j 0 + 32)) = false :=
    List.any_eq_false.mpr fun j hj => by simpa using hstep j (List.mem_range.mp hj)
  have hsettle : v.settle.any (fun x => decide (x > 20000)) = false := List.any_eq_false.mpr fun x hx => by simpa using hle x hx
  rw [hcontains, hsteps, hsettle]
  simp
  omega

/-- Settles O24. -/
theorem headSettingsAreStored : Obligations.HeadSettingsAreStored := by
  refine fun h s hwind => ⟨fun n policy p hn hpolicy => ?policy, fun v p hn hpol h1 h2 h3 h4 h5 h6 h7 hphases hpitch hview => ?gate,
    fun v p hn h1 h2 h3 h4 h5 h6 h7 h8 h9 h10 => ?seq,
    fun v p hd hn hfirst h1 h2 h3 h4 hrev h6 h7 hover hidle hwas hpitch hview => ?driver,
    fun v p hn h1 h2 h3 h4 h5 h6 h7 h8 hth hset hres hstep hle => ⟨fun hcopy => ?settings, fun hcopy hready => ?settingsWait⟩,
    fun n table index buffer bs t hn hfits hok hon hread hvalid p hwind' hcopy => ?table⟩
  case policy =>
    refine next_runNow_ok p (by simp [hwind]; omega) ?_
    rw [n2b_of_le_one hpolicy]
    rfl
  case gate =>
    refine next_runNow_ok p ?_ rfl
    have hcontains : [2, 4, 8, 16].contains v.phases = true := by simpa using hphases
    simp only [hpitch, hview, hcontains, hwind]
    simp
    omega
  case seq =>
    refine next_runNow_ok p ?_ rfl
    simp [hwind]
    omega
  case driver =>
    refine next_runNow_ok p ?_ ?_
    · have hstill : (decide (v.head > 3) || (s.head v.head).state == 0 || (s.head v.head).state == 1) = true := by simpa [or_assoc] using .inr hidle
      have hstill' : (decide ((s.driver v.driver).head > 3) || (s.head (s.driver v.driver).head).state == 0 ||
          (s.head (s.driver v.driver).head).state == 1) = true := by simpa [or_assoc] using hwas
      simp only [hwind, hover, hpitch, hview, hstill, hstill']
      simp
      omega
    · rw [State.driverStore, n2b_of_le_one hrev]
      rfl
  case settings =>
    change Host.Outcome.next (ite _ _ _) = _
    rw [if_neg (settingsForm hn h1 h2 h3 h4 h5 h6 h7 h8 hth hset hres hstep hle), afterCopy_of_not_copying hcopy]
    exact next_runNow_ok p (by rw [hwind]) rfl
  case settingsWait =>
    change Host.Outcome.next (ite _ _ _) = _
    rw [if_neg (settingsForm hn h1 h2 h3 h4 h5 h6 h7 h8 hth hset hres hstep hle), afterCopy, hcopy, hready]
    exact next_runLater (i := .settingsLoad h v) (object := v.head) (eff := fun r s => s.addRunning r) p rfl rfl
  case table =>
    change Host.Outcome.next (withBuffer ..) = _
    have hform : (decide (n > 3 ∨ buffer + tableBytes table > storeSize) || !tableOk table index) = false := by simp [hok]; omega
    rw [withBuffer_of_read hform hfits hon hread]
    simp only [hform, hvalid, Bool.not_true, Bool.or_false, Bool.false_eq_true, if_false]
    rw [afterCopy_of_not_copying hcopy]
    exact next_runNow_ok p (by rw [hwind']) rfl

/-! ## Read-back of the ledger -/

/-- LEDGER_TABLE_READ with none of its tests holding writes what it read into the buffer, whichever table it reads. -/
theorem ledgerTableRead_of_read {h : Hdr} {s t : State} {n table first rows buffer size addr : Nat} {c : HeadConfigP} {bs : List Byte}
    (hn : n ≤ 3) (hcfg : (s.head n).cfg = some c) (htable : table ≤ 1) (p : Plain h 0x0905 s) (hrows : rows ≠ 0) (hend : first + rows ≤ (s.head n).th)
    (hon : s.storeOn = true) (hsize : (if table = 0 then 64 else 8) = size)
    (haddr : (if table = 0 then rowTimeAt n first else rowCheckAt n first) = addr) (hfits : buffer + size * rows ≤ storeSize)
    (hread : s.readMem 1 addr (size * rows) = (bs, false, t)) (v : Plain h 0x0905 t) :
    exec (.ledgerTableRead h n table first rows buffer) s = .next (answered h 0x0905 stOk t (t.takeNo.guardedWrite buffer bs).2 []) := by
  change Host.Outcome.next (withStore ..) = _
  have hc : (
      { bad := decide (n > 3 ∨ table > 1 ∨ rows = 0 ∨ buffer + size * rows > storeSize) ||
          ((s.head n).cfg.isSome && decide (first + rows > (s.head n).th))
        refused := (s.head n).cfg.isNone } : Checks) = {} := by
    simp [hcfg]
    omega
  rw [withStore_of_on hon, hsize, haddr, hc, testCmd_served_of_plain p]
  simp only [Checks.verdict, hread]
  exact next_runNow_ok (s := t) (c := {}) (eff := fun s => ((s.guardedWrite buffer bs).2, [])) v rfl rfl

/-- Settles O25. -/
theorem ledgersAreRead : Obligations.LedgersAreRead := by
  refine fun h s n c hn hcfg => ⟨fun frame buffer size p hfits hsize hahead => ?snapshot,
    fun first rows buffer bs t p hrows hend hon hfits hread v => ?times, fun first rows buffer bs t p hrows hend hon hfits hread v => ?checks⟩
  case snapshot =>
    refine next_runProc p ?_ rfl
    simp [hn, hcfg, hahead]
    omega
  case times => exact ledgerTableRead_of_read hn hcfg (by omega) p hrows hend hon rfl rfl hfits hread v
  case checks => exact ledgerTableRead_of_read hn hcfg (by omega) p hrows hend hon rfl rfl hfits hread v

/-! ## Leases of host graphics (R172 to R175) -/

/-- The lease that a present takes where it has none. -/
def freshLease (p : PresentP) : Lease := { head := p.head, layer := p.layer, base := p.base, len := presentLen p }

/-- The test by which `leaseOf` finds the lease of a present. -/
def leaseMatches (p : PresentP) (x : Nat × Lease) : Bool :=
  x.2.head == p.head && x.2.layer == p.layer && x.2.base == p.base && x.2.len == presentLen p

theorem State.leaseOf_eq (s : State) (p : PresentP) : s.leaseOf p = (s.leases.find? (leaseMatches p)).map (·.1) := rfl

/-- Lease `i` is the fresh lease of the present, and no other lease is for the same buffer. -/
def LeaseTaken (p : PresentP) (i : Nat) (l : Sparse Lease) : Prop :=
  spGet l {} i = freshLease p ∧ ∀ x ∈ l, leaseMatches p x = true → x.1 = i

/-- A value that is not the default stands in the map. -/
theorem mem_of_spGet_ne {α : Type} {m : Sparse α} {d : α} {k : Nat} (hne : spGet m d k ≠ d) : (k, spGet m d k) ∈ m := by
  induction m with
  | nil => exact absurd rfl hne
  | cons x r ih =>
    obtain ⟨j, v⟩ := x
    rw [spGet] at hne ⊢
    by_cases hkj : k = j
    · simp [hkj]
    · rw [if_neg hkj] at hne ⊢
      exact List.mem_cons_of_mem _ (ih hne)

theorem LeaseTaken.leaseOf {p : PresentP} {i : Nat} {s : State} (htaken : LeaseTaken p i s.leases) (hlen : presentLen p ≠ 0) :
    s.leaseOf p = some i := by
  obtain ⟨hget, honly⟩ := htaken
  have hne : spGet s.leases ({} : Lease) i ≠ {} := by
    rw [hget]
    exact fun h => hlen (congrArg Lease.len h)
  have hmem := mem_of_spGet_ne hne
  rw [hget] at hmem
  rw [State.leaseOf_eq]
  cases hfind : s.leases.find? (leaseMatches p) with
  | none => exact absurd (List.find?_eq_none.mp hfind _ hmem) (by simp [leaseMatches, freshLease])
  | some x => exact congrArg some (honly x (List.mem_of_find?_eq_some hfind) (List.find?_some hfind))

/-- The end of another lease leaves it. -/
theorem LeaseTaken.freeLease {p : PresentP} {i id frame : Nat} {s : State} (htaken : LeaseTaken p i s.leases) (hne : id ≠ i) :
    LeaseTaken p i (s.freeLease id frame).leases := by
  obtain ⟨hget, honly⟩ := htaken
  change LeaseTaken p i (s.leases.filter (fun y => y.1 != id))
  refine ⟨?_, fun x hx => honly x (List.mem_filter.mp hx |>.1)⟩
  rw [spGet_filter (fun k => k != id), if_pos (by simpa using Ne.symm hne), hget]

theorem mem_spInsert {α : Type} {m : Sparse α} {k : Nat} {v : α} {x : Nat × α} (hx : x ∈ spInsert m k v) : x = (k, v) ∨ x ∈ m := by
  fun_induction spInsert m k v with
  | case1 => simpa using hx
  | case2 j w r => simpa using hx
  | case3 j w r => simpa using (List.mem_cons.mp hx).imp_right (.inr ·)
  | case4 j w r hlt hne ih =>
    rcases List.mem_cons.mp hx with hx | hx
    · exact .inr (hx ▸ List.mem_cons_self)
    · exact (ih hx).imp_right (List.mem_cons_of_mem _)

/-- What a map holds after a change is the new value or was there before. -/
theorem mem_spSet {α : Type} [DecidableEq α] {d : α} {m : Sparse α} {k : Nat} {v : α} {x : Nat × α} (hx : x ∈ spSet d m k v) :
    x = (k, v) ∨ x ∈ m := by
  rw [spSet] at hx
  split at hx
  · exact .inr (List.mem_filter.mp hx |>.1)
  · exact mem_spInsert hx

/-- The fresh lease is the only one of its buffer where none was before. -/
theorem leaseTaken_spSet {p : PresentP} {i : Nat} {s : State} (hnone : s.leaseOf p = none) :
    LeaseTaken p i (spSet {} s.leases i (freshLease p)) := by
  refine ⟨spGet_spSet_same, fun x hx hmatch => ?_⟩
  rcases mem_spSet hx with rfl | hold
  · rfl
  · rw [State.leaseOf_eq, Option.map_eq_none_iff] at hnone
    exact absurd hmatch (List.find?_eq_none.mp hnone x hold)

/-- A present without a lease takes the lowest free one, and the presents that it replaces leave it that lease. -/
theorem State.presentAccept_lease {s : State} {p : PresentP} {i : Nat} (hnone : s.leaseOf p = none) (hfree : s.leaseFree = some i)
    (hlen : presentLen p ≠ 0) : LeaseTaken p i (s.presentAccept p).leases := by
  have hleases : (s.dropEntries (isPresentOf p.head p.layer) 2).leases = s.leases :=
    (State.dropEntries_within (P := 49152) rfl within_rfl).same .leases rfl
  have hnone' : (s.dropEntries (isPresentOf p.head p.layer) 2).leaseOf p = none := by rw [State.leaseOf_eq, hleases]; exact hnone
  have hfree' : (s.dropEntries (isPresentOf p.head p.layer) 2).leaseFree = some i := by rw [State.leaseFree, hleases]; exact hfree
  unfold State.presentAccept
  simp only [hnone', hfree']
  refine List.foldlRecOn _ _ (motive := fun t : State => LeaseTaken p i t.leases) ?taken fun t ht e _ => ?kept
  case taken => exact leaseTaken_spSet hnone'
  case kept =>
    split
    next q =>
      split
      next id hid =>
        split
        next => exact ht
        next hother => exact ht.freeLease fun heq => hother (.inl (heq ▸ (ht.leaseOf hlen).symm))
      next => exact ht
    next => exact ht

/-- Settles O19. -/
theorem presentsTakeALease : Obligations.PresentsTakeALease := by
  intro h s p hn hlayer hformat hordered hwidth hheight hpitch hbase halign hend hwind hroute hlease
  have hc : (
      { bad := decide (p.head > 3 ∨ p.layer > 15 ∨ p.format > 1 ∨ p.ordered > 1 ∨ p.width = 0 ∨ p.height = 0 ∨ p.pitch < 4 * p.width) ||
          p.base % 4096 != 0 || p.pitch % 64 != 0 || decide (p.base + presentLen p > 0x7FC000000)
        busy := s.sys.windDown
        ignored := !s.routedTo p.head p.layer
        noResource := (s.leaseOf p).isNone && s.leaseFree.isNone } : Checks) = {} := by
    have hnoRes : ((s.leaseOf p).isNone && s.leaseFree.isNone) = false := by
      rcases hlease with hl | hl
      · rw [Option.isNone_eq_false_iff.mpr hl, Bool.false_and]
      · rw [Option.isNone_eq_false_iff.mpr hl, Bool.and_false]
    simp only [hnoRes, hwind, hroute, hbase, halign]
    simp [presentLen]
    omega
  refine ⟨fun v hidle => ?now, fun v hidle => ?waits, fun v => ?timed, fun hnone i hfree => ?fresh⟩
  case now =>
    change execLayerPresent h p s = _
    simp only [execLayerPresent]
    rw [hc, testCmd_plain v rfl rfl rfl rfl rfl rfl]
    simp only [hidle, v.1]
    rfl
  case waits =>
    change execLayerPresent h p s = _
    simp only [execLayerPresent]
    rw [hc, testCmd_plain v rfl rfl rfl rfl rfl rfl]
    simp only [hidle]
    rfl
  case timed =>
    change execLayerPresent h p s = _
    simp only [execLayerPresent]
    rw [hc, testCmd_timed v rfl rfl rfl rfl rfl rfl]
    simp only [v.1, Bool.not_true, Bool.and_false, Bool.false_eq_true, if_false]
    rfl
  case fresh =>
    have hlen : presentLen p ≠ 0 := Nat.mul_ne_zero (by omega) hheight
    exact (State.presentAccept_lease (s := s.takeNo) hnone hfree hlen).1

end Sys2Proof.Machine
end

section
/-! PROOF. Pair, power and the acceptance of packets (O26, O28, O30). -/

namespace Sys2Proof.Machine

open Sys2Proof.Safety Sys2Proof.Laws

/-- A reply ACCEPTED or OK changes nothing but the replies not yet written. -/
theorem State.reply_of_served {h : Hdr} {op st no : Nat} {mgt : Bool} {out : List Byte} (s : State) (hst : st = stOk ∨ st = stAccepted) :
    ∃ l, s.reply h op st no mgt out = { s with cp := { s.cp with replies := l } } := by
  by_cases hsrc : h.src = fromPair
  · exact ⟨_, State.reply_of_fromPair_of_ok (hsrc := hsrc) (hst := hst.imp_right .inl) ..⟩
  · cases hsil : h.silent with
    | true => exact ⟨_, State.reply_of_silent (hsrc := hsrc) (hsil := hsil) (hst := hst) ..⟩
    | false => exact ⟨_, State.reply_of_owed (hsrc := hsrc) (howed := .inl hsil) ..⟩

/-! ## PAIR_SET, PAIR_HANDOVER and PAIR_REJOIN -/

theorem State.endProcs_sync (s : State) (op object frame head : Nat) (ok : Bool) : (s.endProcs op object frame head ok).sync = s.sync :=
  Within.same (State.endProcs_within (P := 49152) rfl within_rfl) .sync rfl

theorem State.unsync_pair_enable (s : State) : s.unsync.pair.enable = s.pair.enable := (congrArg Pair.enable (State.endProcs_pair ..)).trans rfl

/-- A link that is not enabled sends no HELLO as it begins anew. -/
theorem State.linkFresh_pair_enable_of_off {s : State} (hoff : s.pair.enable = false) : s.linkFresh.pair.enable = false := by
  simp only [State.linkFresh, hoff, Bool.false_eq_true, if_false]

/-- The end of the link leaves a disabled pair disabled. -/
theorem State.pairDown_pair_enable_of_off {s : State} (hoff : s.pair.enable = false) : s.pairDown.pair.enable = false := by
  have hfresh := State.linkFresh_pair_enable_of_off hoff
  have hend : ∀ t : State, t.pair.enable = false →
      (if t.pair.state = 2 then { t with pair := { t.pair with state := 1 } } else if t.standby then t.unsync else t).pair.enable = false := by
    intro t ht
    split
    · exact ht
    · split
      · rw [State.unsync_pair_enable, ht]
      · exact ht
  unfold State.pairDown
  split
  · exact hfresh
  · dsimp only
    split
    · exact hend _ hfresh
    · exact hend _ hfresh

/-- Settles O26. -/
theorem pairCommandsTakeEffect : Obligations.PairCommandsTakeEffect := by
  refine fun h s => ⟨fun prefer auto p hprefer hauto hport hoff hone => ?enable, fun enable prefer auto port p hen hprefer hauto hport hsame hone hfree => ?keep,
    fun prefer auto p hprefer hauto hport hon => ?disable, fun p hwind hrelease hoverlap hdiv hscans hhot => ?handover, fun p hstate hsrc => ?rejoin⟩
  case enable =>
    refine next_runNow_ok p ?_ ?_
    · simp
      omega
    · have hoff' : s.takeNo.pair.enable = false := hoff
      simp only [hoff', n2b_of_le_one hauto]
      rfl
  case keep =>
    have hheads : (enable == 1 && decide (1 < headNums.countP (fun n => (s.head n).cfg.isSome))) = false := by
      rcases hone with rfl | hone
      · rfl
      · simp [hone]
    have hidle : (port != s.pair.port && headNums.any (fun n => (s.head n).state != 0)) = false := by
      rcases hfree with rfl | hfree
      · simp
      · simpa using fun _ => hfree
    have hsame' : s.takeNo.pair.enable = (enable == 1) := hsame
    refine next_runNow_ok p ?_ ?_
    · simp only [hheads, hidle]
      simp
      omega
    · obtain rfl | rfl : enable = 0 ∨ enable = 1 := by omega
      all_goals simp only [hsame', n2b_of_le_one hauto]
      all_goals rfl
  case disable =>
    refine ⟨_, next_runNow_ok p (by simp; omega) rfl, ?_⟩
    have hon' : s.takeNo.pair.enable = true := hon
    simp only [hon', Nat.zero_ne_one, false_and, if_false, and_self, if_true, State.endProcs_pair, State.endProcs_sync, true_and]
    exact ⟨State.pairDown_pair_enable_of_off rfl, trivial⟩
  case handover =>
    refine next_runProc p ?_ ?_
    · have hhot' : (s.partnerHot || (s.pair.state == 5 && s.pair.linkUp)) = true := by simpa using hhot
      simp [hwind, hrelease, hoverlap, hdiv, hscans, hhot']
    · obtain ⟨l, hl⟩ := s.takeNo.reply_of_served (h := h) (op := 0x0D02) (no := s.cp.acceptNo) (mgt := mgtOpcode 0x0D02) (out := []) (.inr rfl)
      rw [answered, hl]
      rfl
  case rejoin =>
    refine ⟨_, next_runProc p (by simp [hstate]) rfl, rfl, rfl, ?_⟩
    obtain ⟨l, hl⟩ := s.takeNo.reply_of_served (h := h) (op := 0x0D03) (no := s.cp.acceptNo) (mgt := mgtOpcode 0x0D03) (out := []) (.inr rfl)
    rw [answered, hl]
    rfl

/-! ## PD_SET, OP_SET and YOYO_SET -/

/-- A unit that may take its yo-yo configuration passes the tests of YOYO_SET. -/
theorem yoyoChecks {s : State} {v : YoyoP} (hok : yoyoOk v s = true) (hon : v.enable = 1)
    (htherm : v.unit = thermalUnit → s.pd 9 ≠ 0 ∧ s.pd 10 ≠ 0) (hstring : v.unit = stringUnit → s.pair.linkUp = false) : (
      { bad := !yoyoOk v s
        ignored := v.enable == 0 && !(s.yoyo v.unit).on && !(s.yoyo v.unit).stuck
        refused := v.enable == 1 && ((v.unit == thermalUnit && (s.pd 9 == 0 || s.pd 10 == 0)) || (v.unit == stringUnit && s.pair.linkUp)) } : Checks) =
      {} := by
  simp [hok, hon]
  exact ⟨htherm, hstring⟩

/-- Settles O28. -/
theorem powerCommandsTakeEffect : Obligations.PowerCommandsTakeEffect := by
  refine fun h s => ⟨fun d st p hd hst hbusy hne href => ?pd, fun op p hop hbusy hne => ?op, fun v p hok hoff hwas => ?yoyoOff,
    fun v p hok hon htherm hstring => ⟨fun hwas => ?yoyoChange, fun hwas => ?yoyoEnter⟩⟩
  case pd => exact next_runProc p (by simp [hd, hst, hbusy, hne, href]) rfl
  case op => exact next_runProc p (by simp [hop, hbusy]; exact hne.resolve_left ∘ not_not_intro) rfl
  case yoyoOff => exact next_runNow_ok p (by simp [hok, hoff]; exact fun h => hwas.resolve_left (by simp [h])) (by rw [if_pos hoff])
  case yoyoChange =>
    refine next_runNow_ok p (yoyoChecks hok hon htherm hstring) ?_
    simp only [hon, Nat.one_ne_zero, hwas, if_false, if_true]
  case yoyoEnter =>
    refine next_runNow_ok p (yoyoChecks hok hon htherm hstring) ?_
    simp only [hon, Nat.one_ne_zero, hwas, if_false, Bool.false_eq_true]

/-! ## COMMAND_ACCEPT -/

/-- With no source ready the turn stays where it is (R483). -/
theorem commandAccept_of_none {s : State} (hnone : ∀ src < 5, s.sourceReady src = false) : exec .commandAccept s = .next s := by
  have hfind : ((List.range 5).map (fun i => (s.cp.turn + i) % 5)).find? (fun src => s.sourceReady src) = none := by
    simp only [List.find?_eq_none, List.mem_map, List.mem_range, forall_exists_index, and_imp]
    rintro _ i _ rfl
    simp [hnone _ (Nat.mod_lt _ (by decide : 0 < 5))]
  change Host.Outcome.next _ = _
  rw [hfind]

/-- The first source in turn that is ready is taken (R483). -/
theorem commandAccept_of_first {s : State} {k : Nat} (hk : k < 5) (hready : s.sourceReady ((s.cp.turn + k) % 5) = true)
    (hbefore : ∀ j < k, s.sourceReady ((s.cp.turn + j) % 5) = false) : exec .commandAccept s = .next (s.takeFrom ((s.cp.turn + k) % 5)) := by
  have hfind : ((List.range 5).map (fun i => (s.cp.turn + i) % 5)).find? (fun src => s.sourceReady src) = some ((s.cp.turn + k) % 5) := by
    refine List.find?_eq_some_iff_getElem.mpr ⟨hready, k, by simpa using hk, by simp, fun j hj => ?_⟩
    simp [hbefore j hj]
  change Host.Outcome.next _ = _
  rw [hfind]

/-- A ring's packet that reads without an error is accepted, and CI moves past its slots (R471). -/
theorem State.takeFrom_of_read {s u t : State} {src : Nat} {bs : List Byte} (hsrc : src < 4)
    (hu : u = { s with cp := { s.cp with turn := (src + 1) % 5 } })
    (hread : u.readSlots (u.ring src) (u.ring src).ci (slotsOf (u.nextLength (u.ring src))) = (bs, false, t)) :
    s.takeFrom src = (t.setRing src { u.ring src with
      ci := ((u.ring src).ci + slotsOf (u.nextLength (u.ring src))) % 2 ^ 32, last := (u.ring src).ci }).acceptPacket src bs := by
  subst hu
  rw [State.takeFrom, if_pos hsrc]
  simp only [hread, Bool.false_eq_true, if_false]

/-- Settles O30. -/
theorem packetsAreTakenInTurn : Obligations.PacketsAreTakenInTurn := by
  refine fun s => ⟨commandAccept_of_none, fun k bs t hk hring hready hbefore hread => ?ring, fun k t hk hmbx hready hbefore ht => ?mailbox⟩
  case ring =>
    rw [commandAccept_of_first hk hready hbefore]
    exact congrArg Host.Outcome.next (State.takeFrom_of_read
      (u := { s with cp := { s.cp with turn := ((s.cp.turn + k) % 5 + 1) % 5 } }) hring rfl hread)
  case mailbox =>
    rw [commandAccept_of_first hk (hmbx ▸ hready) hbefore, hmbx, ht]
    rfl

end Sys2Proof.Machine
end

section
/-! PROOF. Packets, mailbox and timeouts of the transport (O31, O32, O34). -/

namespace Sys2Proof.Machine

open Sys2Proof.Safety Sys2Proof.Laws

/-! ## A packet runs the command that it spells -/

section
variable {h : Hdr} {op n : Nat} {p : List Byte} {x : Operands} {s : State}

theorem systemOperands_meaning (hx : systemOperands h op p = some x) : exec x.cmd s = meaningOf x.cmd s := by
  unfold systemOperands at hx
  split at hx <;> cases hx <;> rfl

theorem networkOperands_meaning (hx : networkOperands h op p = some x) : exec x.cmd s = meaningOf x.cmd s := by
  unfold networkOperands at hx
  split at hx <;> cases hx <;> rfl

theorem matrixOperands_meaning (hx : matrixOperands h op p = some x) : exec x.cmd s = meaningOf x.cmd s := by
  unfold matrixOperands at hx
  split at hx <;> cases hx <;> rfl

theorem headOperands_meaning (hx : headOperands h op p = some x) : exec x.cmd s = meaningOf x.cmd s := by
  unfold headOperands at hx
  split at hx <;> cases hx <;> rfl

theorem panelOperands_meaning (hx : panelOperands h op p = some x) : exec x.cmd s = meaningOf x.cmd s := by
  unfold panelOperands at hx
  split at hx <;> cases hx <;> rfl

theorem serviceOperands_meaning (hx : serviceOperands h op n p = some x) : exec x.cmd s = meaningOf x.cmd s := by
  unfold serviceOperands at hx
  split at hx <;> cases hx <;> rfl

/-- Every command of the reference is its own row of the table. -/
theorem operandsOf_meaning (hx : operandsOf h op n p = some x) : exec x.cmd s = meaningOf x.cmd s := by
  unfold operandsOf at hx
  split at hx
  · exact systemOperands_meaning hx
  · exact systemOperands_meaning hx
  · exact networkOperands_meaning hx
  · exact networkOperands_meaning hx
  · exact matrixOperands_meaning hx
  · exact matrixOperands_meaning hx
  · exact headOperands_meaning hx
  · exact panelOperands_meaning hx
  · exact panelOperands_meaning hx
  · exact headOperands_meaning hx
  · exact headOperands_meaning hx
  · exact matrixOperands_meaning hx
  · exact serviceOperands_meaning hx

end

/-- A packet whose form is wrong is turned away with one of the three form statuses (R487). -/
theorem readPacket_eq_inl {src st : Nat} {bs : List Byte} (h : readPacket src bs = .inl st) :
    st = stBadOpcode ∨ st = stBadLength ∨ st = stBadParam := by
  unfold readPacket at h
  dsimp only at h
  generalize (if (hdrOf src bs).timed then 28 else 16) = start at h
  split at h
  next => exact .inl (Sum.inl.inj h).symm
  next =>
    split at h
    next => exact .inr (.inl (Sum.inl.inj h).symm)
    next =>
      split at h
      next => exact .inr (.inr (Sum.inl.inj h).symm)
      next => exact absurd h Sum.inr_ne_inl

/-- Settles O31. -/
theorem packetsRunAsCommanded : Obligations.PacketsRunAsCommanded := by
  refine fun s src bs => ⟨fun i hread hown => ?runs, fun st hread => ?bad⟩
  case runs =>
    obtain ⟨-, p, x, hx, rfl⟩ := readPacket_eq_inr hread
    obtain ⟨t, ht⟩ := exec_next x.cmd s
    have hmeaning : meaningOf x.cmd s = .next t := (operandsOf_meaning hx).symm.trans ht
    rw [State.acceptPacket, hread, ht]
    simp only [hown, Bool.false_eq_true, if_false, State.runCommand, hmeaning, nextOr]
  case bad =>
    rw [State.acceptPacket, hread]
    rcases readPacket_eq_inl hread with rfl | rfl | rfl <;> rfl

/-! ## The mailbox -/

/-- Settles O32. -/
theorem mailboxWorks : Obligations.MailboxWorks := by
  refine fun s => ⟨fun offset data => (exec_mbxWrite_of_pending · offset data), fun offset data hfree => ?write, exec_mbxSubmit_of_not_pending,
    fun offset count => rfl, fun e rest hev => ?read, fun hev => ?readNone, rfl, fun hpend htaken hmgt => ?timeout, fun addr hreset => ?address⟩
  case write => exact congrArg Host.Outcome.next (if_neg hfree)
  case read =>
    change execEvtRead s = _
    rw [execEvtRead, hev]
    rfl
  case readNone =>
    change ∃ bs, _ ∧ execEvtRead s = _
    rw [execEvtRead, hev]
    exact ⟨_, leBytes_length .., rfl⟩
  case timeout =>
    change execMailboxTimeout s = _
    simp only [execMailboxTimeout, hpend, htaken, hmgt, bne_self_eq_false, Bool.or_self, Bool.false_eq_true, if_false]
    exact congrArg Host.Outcome.next (State.reply_of_owed (hsrc := (by decide : (4 : Nat) ≠ fromPair)) (howed := .inl rfl) ..)
  case address =>
    change execMgtAddressMatch addr s = _
    rw [execMgtAddressMatch, hreset]
    by_cases haddr : addr = 0x58 + s.sys.maddr
    · simp [haddr]
    · simp [haddr]

/-! ## Timeouts -/

/-- Settles O34. -/
theorem waitsEndInTimeouts : Obligations.WaitsEndInTimeouts := by
  refine fun s => ⟨fun src r hfind => ?command, fun r hr hsrc => ?finish, fun off w hfind => ?held, fun p hm hm5 hon hcommit => ?matrix,
    fun p hm hm5 hon htarget hcommit => ?commit⟩
  case command =>
    change execCommandTimeout src s = _
    rw [execCommandTimeout, hfind]
  case finish =>
    have hpresent : ¬ (s.cp.running.all (fun x => x.acceptNo != r.acceptNo)) = true :=
      fun hall => by simpa using List.all_eq_true.mp hall r hr
    rw [State.finish, if_neg hpresent]
    exact State.reply_of_owed (hsrc := hsrc) (howed := .inr ⟨by decide, by decide⟩) ..
  case held =>
    change execPdWriteDrop off s = _
    rw [execPdWriteDrop, hfind]
  case matrix =>
    have hm5' : (p.master == 5) = false := by simpa using hm5
    have hcause : ¬ ((reachOf s p.master p.addr).target = 3 ∧ s.nvs.commit.isSome = true) := by
      rintro ⟨h3, hsome⟩
      exact Option.isSome_iff_ne_none.mp hsome (hcommit.resolve_left (not_not_intro h3))
    change execMatrixTimeout p s = _
    simp [execMatrixTimeout, Nat.not_lt.mpr hm, hon, hm5', hcause]
  case commit =>
    have hm5' : (p.master == 5) = false := by simpa using hm5
    have hsome : s.nvs.commit.isSome = true := Option.isSome_iff_ne_none.mpr hcommit
    change execMatrixTimeout p s = _
    simp [execMatrixTimeout, Nat.not_lt.mpr hm, hon, hm5', htarget, hsome]

end Sys2Proof.Machine
end

section
/-! PROOF. The registers of the rings and of the time unit (O36, O37). -/

namespace Sys2Proof.Machine

open Sys2Proof.Safety Sys2Proof.Laws

/-! ## Bits of a word -/

theorem bit_eq_testBit (v i : Nat) : bit v i = v.testBit i := by
  rw [bit, Nat.testBit_eq_decide_div_mod_eq]
  rfl

/-- A field of one bit is that bit. -/
theorem bits_self (v i : Nat) : bits v i i = (bit v i).toNat := by
  rw [bits, bit]
  rcases Nat.mod_two_eq_zero_or_one (v / 2 ^ i) with h | h <;> simp [h]

/-- Above bit `i` nothing changes where that bit comes in as the only one. -/
theorem add_two_pow_div {v i j : Nat} (hv : v / 2 ^ i % 2 = 0) (hij : i < j) : (v + 2 ^ i) / 2 ^ j = v / 2 ^ j := by
  obtain ⟨k, rfl⟩ := Nat.exists_eq_add_of_lt hij
  have hpow : 2 ^ (i + k + 1) = 2 ^ i * 2 * 2 ^ k := by rw [Nat.pow_succ, Nat.pow_add, Nat.mul_right_comm]
  have hhalf : (v / 2 ^ i + 1) / 2 = v / 2 ^ i / 2 := by omega
  rw [hpow, ← Nat.div_div_eq_div_mul, ← Nat.div_div_eq_div_mul, ← Nat.div_div_eq_div_mul, ← Nat.div_div_eq_div_mul,
    Nat.add_div_right _ (Nat.two_pow_pos _), hhalf]

/-- Setting a bit sets it and leaves every other. -/
theorem bit_setBits_one (v i j : Nat) : bit (setBits v i i 1) j = (i == j || bit v j) := by
  rcases Nat.mod_two_eq_zero_or_one (v / 2 ^ i) with hv | hv
  · have hset : setBits v i i 1 = v + 2 ^ i := by simp [setBits, bits, hv]
    rw [hset]
    rcases Nat.lt_trichotomy i j with hij | rfl | hij
    · simp [bit, add_two_pow_div hv hij, Nat.ne_of_lt hij]
    · rw [bit_eq_testBit, Nat.add_comm, Nat.testBit_two_pow_add_eq, ← bit_eq_testBit]
      simp [bit, hv]
    · rw [bit_eq_testBit, Nat.add_comm, Nat.testBit_two_pow_add_gt hij, ← bit_eq_testBit]
      simp [Nat.ne_of_gt hij]
  · have hle : 2 ^ i ≤ v := Nat.le_of_not_lt fun hlt => by simp [Nat.div_eq_of_lt hlt] at hv
    have hset : setBits v i i 1 = v := by
      simp [setBits, bits, hv]
      omega
    rw [hset]
    by_cases hij : i = j
    · subst hij
      simp [bit, hv]
    · simp [hij]

/-- A field that is 0 has no bit set. -/
theorem bit_of_bits_eq_zero {v hi lo i : Nat} (h : bits v hi lo = 0) (hlo : lo ≤ i) (hhi : i ≤ hi) : bit v i = false := by
  have htest : (v / 2 ^ lo % 2 ^ (hi + 1 - lo)).testBit (i - lo) = false := by
    rw [show v / 2 ^ lo % 2 ^ (hi + 1 - lo) = 0 from h, Nat.zero_testBit]
  rw [Nat.testBit_mod_two_pow, Nat.testBit_div_two_pow] at htest
  have hlt : i - lo < hi + 1 - lo := by omega
  rw [bit_eq_testBit]
  simpa [hlt, Nat.sub_add_cancel hlo] using htest

/-! ## Register writes (R577, R597) -/

/-- While CTL is on every register write reaches its block. -/
theorem writeReg_of_on {s : State} (hon : s.pdOn 0 = true) (hshown : s.pdShown 0 ≠ 2) (mgt : Bool) (off v : Nat) :
    writeReg mgt off v s = blockWrite mgt off v s := by
  simp [writeReg, hon, hshown]

/-- The registers of a ring stand at its own 32 bytes of the RINGS block (R606). -/
theorem blockWrite_ring {off r k : Nat} (hoff : off = 0x10000 + (0x20 * r + k)) (hr : r ≤ 8) (hk : k < 0x20) (mgt : Bool) (v : Nat) (s : State) :
    blockWrite mgt off v s = ringsWrite (0x20 * r + k) v s := by
  rw [blockWrite, if_neg (by omega), if_pos (by omega), hoff, Nat.add_sub_cancel_left]

/-- A write of PI or CI of an enabled ring is stored where it leaves no more slots than the ring has. -/
theorem State.ringIndex_of_fits {s : State} {r pi ci : Nat} (hen : (s.ring r).enable = true) (hfits : diff32 pi ci ≤ (s.ring r).size) :
    s.ringIndex r pi ci = s.setRing r { s.ring r with pi := pi, ci := ci } := by
  simp [State.ringIndex, hen, Nat.not_lt.mpr hfits]

/-- Else it is counted. -/
theorem State.ringIndex_of_not_fits {s : State} {r pi ci : Nat} (hen : (s.ring r).enable = true) (hfits : (s.ring r).size < diff32 pi ci) :
    s.ringIndex r pi ci = { s with cp := { s.cp with badIndex := inc32 s.cp.badIndex } } := by
  simp [State.ringIndex, hen, hfits]

theorem State.ringIndex_of_disabled {s : State} {r pi ci : Nat} (hen : (s.ring r).enable = false) : s.ringIndex r pi ci = s := by
  simp [State.ringIndex, hen]

/-- A ring of which all lies in the banks of rings is enabled with cleared indices (R470, R529). -/
theorem State.ringCfg_of_fits {s : State} {r v log2 : Nat} (hlog : bits v 3 0 = log2) (hbit : bit v 31 = true) (hlo : 4 ≤ log2) (hhi : log2 ≤ 12)
    (hen : (s.ring r).enable = false) (hfits : ringFits (s.ring r).base log2 = true) (hready : r = 8 → s.sys.ready = false) :
    s.ringCfg r v = s.setRing r { s.ring r with log2 := log2, enable := true, pi := 0, ci := 0, last := 0 } := by
  simp [State.ringCfg, hlog, hbit, hen, hfits, Nat.not_lt.mpr hlo, Nat.not_lt.mpr hhi]
  exact fun h8 h => by simp [hready h8] at h

/-- Any other ring is not enabled. -/
theorem State.ringCfg_of_not_fits {s : State} {r v log2 : Nat} (hlog : bits v 3 0 = log2) (hbit : bit v 31 = true)
    (hen : (s.ring r).enable = false) (hfits : ringFits (s.ring r).base log2 = false) : s.ringCfg r v = s := by
  simp [State.ringCfg, hlog, hbit, hen, hfits]

/-- PI stands at offset 8 of a command ring's registers. -/
theorem ringsWrite_pi {r : Nat} (hr : r ≤ 3) (v : Nat) (s : State) : ringsWrite (0x20 * r + 8) v s = s.ringIndex r v (s.ring r).ci := by
  have hcr : isCr r = true := decide_eq_true (by omega)
  have hdiv : (0x20 * r + 8) / 0x20 = r := by omega
  have hmod : (0x20 * r + 8) % 0x20 = 8 := by omega
  rw [ringsWrite, if_pos (by omega)]
  simp only [hdiv, hmod, hcr, if_true]

/-- CI stands at offset 12 of the registers of any other ring. -/
theorem ringsWrite_ci {r : Nat} (hlo : 4 ≤ r) (hhi : r ≤ 8) (v : Nat) (s : State) :
    ringsWrite (0x20 * r + 12) v s = s.ringIndex r (s.ring r).pi v := by
  have hcr : isCr r = false := decide_eq_false (by omega)
  have hdiv : (0x20 * r + 12) / 0x20 = r := by omega
  have hmod : (0x20 * r + 12) % 0x20 = 12 := by omega
  rw [ringsWrite, if_pos (by omega)]
  simp only [hdiv, hmod, hcr, Bool.false_eq_true, if_false]

/-- RING_CFG stands at offset 4. -/
theorem ringsWrite_cfg {r : Nat} (hr : r ≤ 8) (v : Nat) (s : State) : ringsWrite (0x20 * r + 4) v s = s.ringCfg r v := by
  have hdiv : (0x20 * r + 4) / 0x20 = r := by omega
  have hmod : (0x20 * r + 4) % 0x20 = 4 := by omega
  rw [ringsWrite, if_pos (by omega)]
  simp only [hdiv, hmod]

/-- DOORBELL writes PI of a command ring. -/
theorem exec_doorbell {s : State} (hon : s.pdOn 0 = true) (hshown : s.pdShown 0 ≠ 2) {r v : Nat} (hr : r ≤ 3) (hv : v < 2 ^ 32) :
    exec (.doorbell r v) s = .next (s.ringIndex r v (s.ring r).ci) := by
  change execDoorbell r v s = _
  rw [execDoorbell, if_neg (by omega), writeReg_of_on hon hshown, Nat.mod_eq_of_lt hv,
    blockWrite_ring (r := r) (k := 8) (by omega) (by omega) (by omega), ringsWrite_pi hr]

/-- RING_CI_WRITE writes CI of a reply ring or of the event ring. -/
theorem exec_ringCiWrite {s : State} (hon : s.pdOn 0 = true) (hshown : s.pdShown 0 ≠ 2) {r v : Nat} (hlo : 4 ≤ r) (hhi : r ≤ 8) (hv : v < 2 ^ 32) :
    exec (.ringCiWrite r v) s = .next (s.ringIndex r (s.ring r).pi v) := by
  change execRingCiWrite r v s = _
  rw [execRingCiWrite, if_neg (by omega), writeReg_of_on hon hshown, Nat.mod_eq_of_lt hv,
    blockWrite_ring (r := r) (k := 12) (by omega) hhi (by omega), ringsWrite_ci hlo hhi]

/-- RING_CFG_WRITE writes RING_CFG. -/
theorem exec_ringCfgWrite {s : State} (hon : s.pdOn 0 = true) (hshown : s.pdShown 0 ≠ 2) {r v : Nat} (hr : r ≤ 8) (hv : v < 2 ^ 32) :
    exec (.ringCfgWrite r v) s = .next (s.ringCfg r v) := by
  change execRingCfgWrite r v s = _
  rw [execRingCfgWrite, if_neg (by omega), writeReg_of_on hon hshown, Nat.mod_eq_of_lt hv,
    blockWrite_ring (r := r) (k := 4) (by omega) hr (by omega), ringsWrite_cfg hr]

/-- While the fabric clock is the slow one a slice may not be bypassed (R524). -/
theorem fabTgtWrite_ignored {s : State} {t v : Nat} (hbit : bit v 31 = true) (hsel : s.clocks.fabSel = 0) :
    fabTgtWrite t v s = { s with fab := { s.fab with sliceIgnored := true } } := by
  simp [fabTgtWrite, hbit, hsel]

/-- SLICE_BYPASS writes FAB_TGTn. -/
theorem exec_sliceBypass {s : State} (hon : s.pdOn 0 = true) (hshown : s.pdShown 0 ≠ 2) {t v : Nat} (ht : t ≤ 7) (hv : v < 2 ^ 32) :
    exec (.sliceBypass t v) s = .next (fabTgtWrite t v s) := by
  have hblock : blockWrite false (0x80000 + 4 * t) v s = fabTgtWrite t v s := by
    obtain ⟨off, hoff⟩ : ∃ off, off = 0x80000 + 4 * t := ⟨_, rfl⟩
    have hdiv : (off - 0x80000) / 4 = t := by omega
    rw [← hoff, blockWrite, if_neg (by omega), if_neg (by omega), if_neg (by omega), if_neg (by omega), if_neg (by omega), if_neg (by omega),
      if_neg (by omega), if_neg (by omega), if_pos (by omega), fabricWrite, if_pos (by omega), hdiv]
  change execSliceBypass t v s = _
  rw [execSliceBypass, if_neg (by omega), writeReg_of_on hon hshown, Nat.mod_eq_of_lt hv, hblock]

/-- Settles O36. -/
theorem ringRegistersWork : Obligations.RingRegistersWork := by
  refine fun s hon hshown => ⟨fun r v hr hv hen hfits => ?pi, fun r v hr hv hen hbig => ?piBad, fun r v hr hv hen => ?piOff,
    fun r v hlo hhi hv hen hfits => ?ci, fun r log2 hr hlo hhi hen hfits hready => ?enable, fun r log2 hr hlo hhi hen hfits => ?refused,
    fun t v ht hv => ?slice, fun t v ht hv hsel => ?sliceIgnored⟩
  case pi => rw [exec_doorbell hon hshown hr hv, State.ringIndex_of_fits hen hfits]
  case piBad => rw [exec_doorbell hon hshown hr hv, State.ringIndex_of_not_fits hen hbig]
  case piOff => rw [exec_doorbell hon hshown hr hv, State.ringIndex_of_disabled hen]
  case ci => rw [exec_ringCiWrite hon hshown hlo hhi hv, State.ringIndex_of_fits hen hfits]
  case enable =>
    have hlog : bits (2 ^ 31 + log2) 3 0 = log2 := by simp [bits]; omega
    have hbit : bit (2 ^ 31 + log2) 31 = true := by simp [bit]; omega
    rw [exec_ringCfgWrite hon hshown hr (by omega), State.ringCfg_of_fits hlog hbit hlo hhi hen hfits hready]
  case refused =>
    have hlog : bits (2 ^ 31 + log2) 3 0 = log2 := by simp [bits]; omega
    have hbit : bit (2 ^ 31 + log2) 31 = true := by simp [bit]; omega
    rw [exec_ringCfgWrite hon hshown hr (by omega), State.ringCfg_of_not_fits hlog hbit hen hfits]
  case slice =>
    have hbit : bit v 31 = false := by simp [bit]; omega
    rw [exec_sliceBypass hon hshown ht (by omega)]
    simp [fabTgtWrite, hbit]
  case sliceIgnored =>
    have hbit : bit (2 ^ 31 + v) 31 = true := by simp [bit]; omega
    rw [exec_sliceBypass hon hshown ht (by omega)]
    rw [fabTgtWrite_ignored hbit hsel]

/-! ## The time registers (R615 to R617) -/

/-- TIME_CTL's mode bits. -/
def State.timeModes (s : State) (v : Nat) : State :=
  { s with time := { s.time with revert := bit v 2, autoSelect := bit v 1, acquireAuto := bit v 0 } }

/-- A write of TIME_CTL without an action bit, or with one that may be taken, writes the modes and takes the domain. -/
theorem timeCtlWrite_of_one {s : State} {v : Nat}
    (hone : b2n (bit v 4) + b2n (bit v 5) + b2n (bit v 6) + b2n (bit v 7) ≤ 1)
    (hload : (bit v 5 || bit v 6 || bit v 7) = true → s.timeRegs.loadNs < 1000000000) :
    timeCtlWrite v s = (
      if bit v 4 then ((s.timeModes v).selectWrite (bits v 3 3)).forceDomain
      else if bit v 5 then ((s.timeModes v).selectWrite (bits v 3 3)).forceValue ((s.timeModes v).selectWrite (bits v 3 3)).loadValue
      else if bit v 6 then { (s.timeModes v).selectWrite (bits v 3 3) with timeRegs :=
        { ((s.timeModes v).selectWrite (bits v 3 3)).timeRegs with nextA := some ((s.timeModes v).selectWrite (bits v 3 3)).loadValue } }
      else if bit v 7 then { (s.timeModes v).selectWrite (bits v 3 3) with timeRegs :=
        { ((s.timeModes v).selectWrite (bits v 3 3)).timeRegs with nextB := some ((s.timeModes v).selectWrite (bits v 3 3)).loadValue } }
      else (s.timeModes v).selectWrite (bits v 3 3)) := by
  have hnot : ¬ (b2n (bit v 4) + b2n (bit v 5) + b2n (bit v 6) + b2n (bit v 7) > 1 ∨
      ((bit v 5 || bit v 6 || bit v 7) = true ∧ s.timeRegs.loadNs ≥ 1000000000)) := by
    rintro (h | ⟨h, hns⟩)
    · omega
    · exact absurd (hload h) (Nat.not_lt.mpr hns)
  rw [timeCtlWrite, if_neg hnot]
  rfl

/-- The domain in force requests nothing. -/
theorem State.selectWrite_same {s : State} {d : Nat} (hd : d = s.time.selected) : s.selectWrite d = s := if_pos hd

/-- Setting an action bit leaves the modes and SELECT as they are. -/
theorem timeModes_setBits (s : State) (v : Nat) {k : Nat} (hk : 4 ≤ k) :
    s.timeModes (setBits v k k 1) = s.timeModes v ∧ bits (setBits v k k 1) 3 3 = bits v 3 3 := by
  have hlow : ∀ j < 4, bit (setBits v k k 1) j = bit v j := fun j hj => by simp [bit_setBits_one, show k ≠ j by omega]
  constructor
  · rw [State.timeModes, hlow 2 (by omega), hlow 1 (by omega), hlow 0 (by omega), State.timeModes]
  · rw [bits_self, bits_self, hlow 3 (by omega)]

/-- A write of TIME_CTL with one action bit and the domain in force. -/
theorem timeCtlWrite_action {s : State} {v k : Nat} (hk : 4 ≤ k ∧ k ≤ 7) (hother : ∀ j, 4 ≤ j → j ≤ 7 → j ≠ k → bit v j = false)
    (hsel : bits v 3 3 = s.time.selected) (hload : k = 4 ∨ s.timeRegs.loadNs < 1000000000) :
    timeCtlWrite (setBits v k k 1) s =
      if k = 4 then (s.timeModes v).forceDomain
      else if k = 5 then (s.timeModes v).forceValue s.loadValue
      else if k = 6 then { s.timeModes v with timeRegs := { s.timeRegs with nextA := some s.loadValue } }
      else { s.timeModes v with timeRegs := { s.timeRegs with nextB := some s.loadValue } } := by
  obtain ⟨hmodes, hbits⟩ := timeModes_setBits s v hk.1
  have hset : ∀ j, 4 ≤ j → j ≤ 7 → bit (setBits v k k 1) j = (k == j) := by
    intro j h4 h7
    by_cases hj : j = k
    · simp [bit_setBits_one, hj]
    · simp [bit_setBits_one, hother j h4 h7 hj]
  have h4 := hset 4 (by omega) (by omega)
  have h5 := hset 5 (by omega) (by omega)
  have h6 := hset 6 (by omega) (by omega)
  have h7 := hset 7 (by omega) (by omega)
  have hload' : (k == 5 || k == 6 || k == 7) = true → s.timeRegs.loadNs < 1000000000 := fun h =>
    hload.resolve_left (by rintro rfl; exact absurd h (by decide))
  obtain rfl | rfl | rfl | rfl : k = 4 ∨ k = 5 ∨ k = 6 ∨ k = 7 := by omega
  all_goals
    rw [timeCtlWrite_of_one (by rw [h4, h5, h6, h7]; decide) (by rw [h5, h6, h7]; exact hload'),
      hmodes, hbits, State.selectWrite_same (s := s.timeModes v) hsel, h4, h5, h6, h7]
    rfl

/-- While the value to load is no time of day its three actions are ignored (R617). -/
theorem timeCtlWrite_of_bad_load {s : State} {v k : Nat} (hk : 5 ≤ k ∧ k ≤ 7) (hload : 1000000000 ≤ s.timeRegs.loadNs) :
    timeCtlWrite (setBits v k k 1) s = s := by
  have hbit : bit (setBits v k k 1) k = true := by simp [bit_setBits_one]
  refine if_pos (.inr ⟨?_, hload⟩)
  obtain rfl | rfl | rfl : k = 5 ∨ k = 6 ∨ k = 7 := by omega
  all_goals simp [hbit]

/-- A write of TIME_CTL without an action bit takes its domain where R65 lets it. -/
theorem timeCtlWrite_select {s : State} {v d : Nat} (hzero : bits v 7 4 = 0) (hd : bits v 3 3 = d) (hne : d ≠ s.time.selected)
    (hok : s.switchOk d = true) : timeCtlWrite v s = (s.timeModes v).takeDomain d true := by
  have hz : ∀ j, 4 ≤ j → j ≤ 7 → bit v j = false := fun j h4 h7 => bit_of_bits_eq_zero hzero h4 h7
  have h4 := hz 4 (by omega) (by omega)
  have h5 := hz 5 (by omega) (by omega)
  have h6 := hz 6 (by omega) (by omega)
  have h7 := hz 7 (by omega) (by omega)
  have hok' : (s.timeModes v).switchOk d = true := hok
  rw [timeCtlWrite_of_one (by rw [h4, h5, h6, h7]; decide) (by simp [h5, h6, h7]), h4, h5, h6, h7, hd, State.selectWrite,
    if_neg (show ¬ d = (s.timeModes v).time.selected from hne), if_pos hok']
  rfl

/-- One that R65 does not let is refused, and where it would not be a jump no event says so. -/
theorem timeCtlWrite_select_refused {s : State} {v d : Nat} (hzero : bits v 7 4 = 0) (hd : bits v 3 3 = d) (hne : d ≠ s.time.selected)
    (hok : s.switchOk d = false) (hjump : (s.domain d).state ≠ 3 ∨ (s.diffFrom d).natAbs ≤ s.jumpUnits) :
    timeCtlWrite v s = { s.timeModes v with time := { (s.timeModes v).time with selectRefused := true } } := by
  have hz : ∀ j, 4 ≤ j → j ≤ 7 → bit v j = false := fun j h4 h7 => bit_of_bits_eq_zero hzero h4 h7
  have h4 := hz 4 (by omega) (by omega)
  have h5 := hz 5 (by omega) (by omega)
  have h6 := hz 6 (by omega) (by omega)
  have h7 := hz 7 (by omega) (by omega)
  have hok' : ¬ (s.timeModes v).switchOk d = true := by
    rw [show (s.timeModes v).switchOk d = false from hok]
    exact Bool.false_ne_true
  have hquiet : ¬ (((s.domain d).state == 3) = true ∧ (s.diffFrom d).natAbs > s.jumpUnits) := by
    simpa [Decidable.or_iff_not_imp_left] using hjump
  rw [timeCtlWrite_of_one (by rw [h4, h5, h6, h7]; decide) (by simp [h5, h6, h7]), h4, h5, h6, h7, hd, State.selectWrite,
    if_neg (show ¬ d = (s.timeModes v).time.selected from hne), if_neg hok']
  exact if_neg hquiet

/-- A read of TP_SNAP_SEC_LO takes the snapshot of its port first (R47). -/
theorem readReg_snap (mgt : Bool) (s : State) : readReg mgt 0x50020 true s = ((toStored s.tp).sec % 2 ^ 32, s.takeSnap mgt) := by
  cases mgt <;> rfl

/-- Settles O37. -/
theorem timeRegistersWork : Obligations.TimeRegistersWork := by
  refine fun s => ⟨fun d hd hne hok => ?select, fun d hd hne hok hjump => ?selectRefused, fun v hz hsel => ?stepDomain,
    fun v h4 h7 hsel hload htrack => ?stepValue, fun v h5 h7 hsel hload => ?loadA, fun v h6 hsel hload => ?loadB,
    fun v hload => ⟨congrArg Host.Outcome.next (timeCtlWrite_of_bad_load (by omega) hload),
      congrArg Host.Outcome.next (timeCtlWrite_of_bad_load (by omega) hload), congrArg Host.Outcome.next (timeCtlWrite_of_bad_load (by omega) hload)⟩,
    fun v hrate => ?rateA, fun v hrate => ?rateB, fun v hrate => ?rateBad, ?snapMgt, ?snap⟩
  case select =>
    obtain rfl | rfl : d = 0 ∨ d = 1 := by omega
    · exact congrArg Host.Outcome.next (timeCtlWrite_select (v := 7) (by decide) (by decide) hne hok)
    · exact congrArg Host.Outcome.next (timeCtlWrite_select (v := 15) (by decide) (by decide) hne hok)
  case selectRefused =>
    obtain rfl | rfl : d = 0 ∨ d = 1 := by omega
    · exact congrArg Host.Outcome.next (timeCtlWrite_select_refused (v := 0) (by decide) (by decide) hne hok hjump)
    · exact congrArg Host.Outcome.next (timeCtlWrite_select_refused (v := 8) (by decide) (by decide) hne hok hjump)
  case stepDomain =>
    have hother : ∀ j, 4 ≤ j → j ≤ 7 → j ≠ 4 → bit v j = false := fun j h4 h7 hne => bit_of_bits_eq_zero hz (by omega) h7
    exact congrArg Host.Outcome.next (timeCtlWrite_action ⟨by omega, by omega⟩ hother hsel (.inl rfl))
  case stepValue =>
    have hother : ∀ j, 4 ≤ j → j ≤ 7 → j ≠ 5 → bit v j = false := fun j hj4 hj7 hne => by
      obtain rfl | hj : j = 4 ∨ 6 ≤ j := by omega
      · exact bit_of_bits_eq_zero h4 (by omega) (by omega)
      · exact bit_of_bits_eq_zero h7 hj hj7
    refine congrArg Host.Outcome.next ((timeCtlWrite_action ⟨by omega, by omega⟩ hother hsel (.inr hload)).trans ?_)
    exact if_pos htrack
  case loadA =>
    have hother : ∀ j, 4 ≤ j → j ≤ 7 → j ≠ 6 → bit v j = false := fun j hj4 hj7 hne => by
      obtain hj | rfl : j ≤ 5 ∨ j = 7 := by omega
      · exact bit_of_bits_eq_zero h5 hj4 hj
      · exact bit_of_bits_eq_zero h7 (by omega) (by omega)
    exact congrArg Host.Outcome.next (timeCtlWrite_action ⟨by omega, by omega⟩ hother hsel (.inr hload))
  case loadB =>
    have hother : ∀ j, 4 ≤ j → j ≤ 7 → j ≠ 7 → bit v j = false := fun j hj4 hj7 hne => bit_of_bits_eq_zero h6 hj4 (by omega)
    exact congrArg Host.Outcome.next (timeCtlWrite_action ⟨by omega, by omega⟩ hother hsel (.inr hload))
  case rateA =>
    change Host.Outcome.next _ = _
    rw [if_neg (by decide), rateHi]
    dsimp only
    rw [if_pos rfl, if_neg (Nat.not_lt.mpr hrate), if_pos rfl]
  case rateB =>
    change Host.Outcome.next _ = _
    rw [if_neg (by decide), rateHi]
    dsimp only
    rw [if_neg Nat.one_ne_zero, if_neg (Nat.not_lt.mpr hrate), if_neg Nat.one_ne_zero]
  case rateBad =>
    change Host.Outcome.next _ = _
    rw [if_neg (by decide), rateHi]
    dsimp only
    rw [if_pos rfl, if_pos hrate]
  case snapMgt =>
    change execTpSnapSecLoRead true s = _
    rw [execTpSnapSecLoRead, readReg_snap]
    rfl
  case snap =>
    change execTpSnapSecLoRead false s = _
    rw [execTpSnapSecLoRead, readReg_snap]
    rfl

end Sys2Proof.Machine
end

section
/-! PROOF. The registers of lanes, PRBS blocks, system, power, clock, SRAM and heads (O38, O39). -/

namespace Sys2Proof.Machine

open Sys2Proof.Safety Sys2Proof.Laws

/-- Setting a bit leaves the fields below it. -/
theorem bits_setBits_one_of_lt {v k hi lo : Nat} (hlt : hi < k) : bits (setBits v k k 1) hi lo = bits v hi lo := by
  refine Nat.eq_of_testBit_eq fun j => ?_
  rw [bits, bits, Nat.testBit_mod_two_pow, Nat.testBit_mod_two_pow, Nat.testBit_div_two_pow, Nat.testBit_div_two_pow]
  by_cases hj : j < hi + 1 - lo
  · rw [← bit_eq_testBit, ← bit_eq_testBit, bit_setBits_one, beq_false_of_ne (show k ≠ j + lo by omega), Bool.false_or]
  · simp [hj]

theorem laneExists_of_lt {i : Nat} (hi : i < 228) : laneExists i = true := by
  exact decide_eq_true hi

theorem not_isDriverLane (i : Nat) : (!isDriverLane i) = decide (i < 36) := by
  rw [isDriverLane, ← decide_not, decide_eq_decide]
  omega

/-- Settles O38. -/
theorem laneRegistersWork : Obligations.LaneRegistersWork := by
  intro s i v hi
  have hex := laneExists_of_lt hi
  refine ⟨fun hlb hfree => ?loopback, fun hlb hle hblocked => ?blocked, fun hlb => ?functional, fun h36 hslip h1 h65 hlock hquad => ?slip,
    fun h36 hslip => ?slipIgnored, fun hpat hblocked hlb hgen => ?gen, fun hpat hgen => ?clear, fun hatt => ?errRead, fun hchk hatt => ?gain,
    fun hchk hatt hsync => ?lose⟩
  case loopback =>
    change Host.Outcome.next (laneCtlWrite i v s) = _
    have h3 : (bits v 10 8 == 3) = false := beq_false_of_ne (by omega)
    have htest : (bits v 10 8 != 0 && (s.testBlocked i || s.groupTaken i)) = false := by
      rcases hfree with h0 | ⟨hblocked, htaken, -⟩
      · simp [h0]
      · simp [hblocked, htaken]
    have henter : (bits v 10 8 != 0 && (s.lane i).loopback == 0) = false := by
      rcases hfree with h0 | ⟨-, -, hused⟩
      · simp [h0]
      · simp [hused]
    simp only [laneCtlWrite, hex, h3, htest, henter, not_isDriverLane]
    simp
    omega
  case blocked =>
    change Host.Outcome.next (laneCtlWrite i v s) = _
    have h3 : (bits v 10 8 == 3) = false := beq_false_of_ne (by omega)
    simp [laneCtlWrite, hex, h3, hlb, hblocked]
    omega
  case functional =>
    change Host.Outcome.next (laneCtlWrite i v s) = _
    simp [laneCtlWrite, hex, hlb, not_isDriverLane]
  case slip =>
    have hdrv : isDriverLane i = false := by simpa [h36] using not_isDriverLane i
    have hn : (bits v 6 0 == 0) = false := beq_false_of_ne (by omega)
    have hq : (decide (i < 32) && (s.quad (i / 4)).mode == 3) = false := by simpa using hquad
    change Host.Outcome.next (ite _ _ _) = _
    simp [laneSlipWrite, hex, hdrv, hslip, hn, hq, hlock, Nat.not_lt.mpr h65]
  case slipIgnored =>
    have hdrv : isDriverLane i = false := by simpa [h36] using not_isDriverLane i
    change Host.Outcome.next (ite _ _ _) = _
    simp [laneSlipWrite, hex, hdrv, hslip]
  case gen =>
    have hlb' : ((s.lane i).loopback != 3) = true := by simpa using hlb
    change Host.Outcome.next (prbsCtlWrite i (setBits v 9 9 1) s) = _
    simp [prbsCtlWrite, hex, hblocked, hlb', hgen, bits_setBits_one_of_lt, bit_setBits_one, Nat.not_lt.mpr hpat]
  case clear =>
    change Host.Outcome.next (prbsCtlWrite i (setBits v 15 15 1) s) = _
    simp [prbsCtlWrite, hex, hgen, bits_setBits_one_of_lt, bit_setBits_one, Nat.not_lt.mpr hpat]
  case errRead =>
    change Host.Outcome.next (ite _ _ _) = _
    simp [prbsErrRead, hex, hatt]
  case gain =>
    change execChkSync i true s = _
    simp [execChkSync, hex, hchk, hatt]
  case lose =>
    change execChkSync i false s = _
    simp [execChkSync, hex, hchk, hatt, hsync]

/-- START takes a length that an image may have (R519, R605). -/
theorem pushCtlWrite_start {s : State} {v len : Nat} (hlen : bits v 21 0 = len) (hstart : bit v 31 = true) (hgo : bit v 30 = false)
    (hwait : s.sys.pushWait = true) (h4 : len % 4 = 0) (hlo : 516 ≤ len) (hhi : len ≤ 2097664) :
    pushCtlWrite v s = { s with sys := { s.sys with pushLength := len, announced := len, pushBytes := [] } } := by
  simp [pushCtlWrite, hlen, hgo, hstart, hwait, h4, Nat.not_lt.mpr hlo, Nat.not_lt.mpr hhi]

/-- The two fields of PD_CTL (R611). -/
theorem pdCtl_fields {d st : Nat} (hd : d ≤ 10) (hst : st ≤ 2) : bits (d + 16 * st) 3 0 = d ∧ bits (d + 16 * st) 5 4 = st := by
  simp only [bits]
  omega

/-- What a write of FAB_SEL that does not hold 3 does (R613, R524). -/
theorem exec_fabSel {s : State} {v : Nat} (haon : s.sys.aonReset = false) (hv : v ≤ 2) : exec (.fabSel v) s = .next (
    if v = 0 ∧ s.clocks.fabSel ≠ 0 ∧ (List.range 8).any (fun t => (spGet s.fab.tgt {} t).bypass) = true then
      { s with fab := { s.fab with sliceIgnored := true } }
    else { s with clocks := { s.clocks with fabSel := v } }) := by
  have hbits : bits v 1 0 = v := by
    simp [bits]
    omega
  have h3 : (v == 3) = false := beq_false_of_ne (by omega)
  change execFabSel v s = _
  simp only [execFabSel, hbits, haon, h3, Bool.or_self, Bool.false_eq_true, if_false]

/-- Settles O39. -/
theorem controlRegistersWork : Obligations.ControlRegistersWork := by
  refine fun s => ⟨fun v hbit hkey => ?blow, fun v hno => ?blowNot, fun len hwait h4 hlo hhi => ?start, fun v hwait hroom => ?push, fun len hlen => ?go,
    fun hacc hremap => ?remap, fun fn hlt hknown hbusy hwind => ?code, fun d st haon hd hst hbusy hne href => ?pd,
    fun d st haon hd hst hbusy hne href => ?pdIgnored, fun op haon hop hbusy hne => ?op, fun d v haon hd => ?wake, fun v haon hv => ?fab,
    fun haon hslices => ?fabFast, fun t haon ht hbypass hsel => ?fabIgnored, fun sh hlo hhi => ?sram, fun n low crit hn h1 h2 h3 h4 => ?wm,
    fun n v hn => ?pol⟩
  case blow =>
    change Host.Outcome.next (ite _ _ _) = _
    rw [if_pos (by simp [hbit, hkey])]
  case blowNot =>
    change Host.Outcome.next (ite _ _ _) = _
    rw [if_neg fun h => ?_]
    obtain ⟨hbit, hkey⟩ : bit v 0 = true ∧ bits v 31 16 = 0x9160 := by simpa using h
    exact hno.elim (fun h0 => Bool.false_ne_true (h0.symm.trans hbit)) (fun hne => hne hkey)
  case start =>
    have hlen : bits (setBits len 31 31 1) 21 0 = len := by
      rw [bits_setBits_one_of_lt (by omega)]
      simp [bits]
      omega
    have hgo : bit (setBits len 31 31 1) 30 = false := by
      rw [bit_setBits_one]
      simp [bit]
      omega
    have hstart : bit (setBits len 31 31 1) 31 = true := by simp [bit_setBits_one]
    exact congrArg Host.Outcome.next (pushCtlWrite_start hlen hstart hgo hwait h4 hlo hhi)
  case push =>
    change Host.Outcome.next (pushDataWrite v s) = _
    simp [pushDataWrite, hwait, Nat.not_le.mpr hroom]
  case go =>
    have hlen' : bits (setBits len 30 30 1) 21 0 = len := by
      rw [bits_setBits_one_of_lt (by omega)]
      simp [bits]
      omega
    have hgo : bit (setBits len 30 30 1) 30 = true := by simp [bit_setBits_one]
    have hstart : bit (setBits len 30 30 1) 31 = false := by
      rw [bit_setBits_one]
      simp [bit]
      omega
    change Host.Outcome.next (pushCtlWrite _ s) = _
    simp [pushCtlWrite, hlen', hgo, hstart]
  case remap =>
    change Host.Outcome.next (ite _ _ _) = _
    simp [hacc, hremap]
  case code =>
    have hfn : bits fn 15 0 = fn := by
      simp [bits]
      omega
    change Host.Outcome.next (funcResetWrite fn s) = _
    simp [funcResetWrite, hfn, hknown, State.resetting, hbusy, State.resetHeldOff, hwind]
  case pd =>
    obtain ⟨hd', hst'⟩ := pdCtl_fields hd hst
    change execPdCtl _ s = _
    simp [execPdCtl, hd', hst', haon, hbusy, hne, href]
    exact fun h => absurd h (by omega)
  case pdIgnored =>
    obtain ⟨hd', hst'⟩ := pdCtl_fields hd hst
    change execPdCtl _ s = _
    simp [execPdCtl, hd', hst', haon, href, if_neg hne]
    rfl
  case op =>
    have hop' : bits op 1 0 = op := by
      simp [bits]
      omega
    change execOpCtl op s = _
    simp [execOpCtl, hop', haon, hbusy, hne]
    omega
  case wake =>
    change Host.Outcome.next (ite _ _ _) = _
    rw [if_neg (by simp [haon, hd])]
    rfl
  case fab =>
    rw [exec_fabSel haon (by omega), if_neg (by omega)]
  case fabFast =>
    have hany : (List.range 8).any (fun t => (spGet s.fab.tgt {} t).bypass) = false :=
      List.any_eq_false.mpr fun t ht => by simp [hslices t (List.mem_range.mp ht)]
    rw [exec_fabSel haon (by omega), hany, if_neg (by simp)]
  case fabIgnored =>
    have hany : (List.range 8).any (fun t => (spGet s.fab.tgt {} t).bypass) = true :=
      List.any_eq_true.mpr ⟨t, List.mem_range.mpr ht, hbypass⟩
    rw [exec_fabSel haon (by omega), if_pos ⟨rfl, hsel, hany⟩]
  case sram =>
    have hsh : bits (256 * sh + 1) 12 8 = sh := by
      simp [bits]
      omega
    have hidle : bits (256 * sh + 1) 0 0 = 1 := by
      simp [bits]
      omega
    change Host.Outcome.next (sramCtl _ s) = _
    simp [sramCtl, hsh, hidle, Nat.not_lt.mpr hlo, Nat.not_lt.mpr hhi]
  case wm =>
    have hlow : bits (256 * crit + low) 5 0 = low := by
      simp [bits]
      omega
    have hcrit : bits (256 * crit + low) 13 8 = crit := by
      simp [bits]
      omega
    change Host.Outcome.next (ite _ _ _) = _
    rw [if_neg (by omega), headWmWrite, hlow, hcrit]
    exact congrArg Host.Outcome.next (if_neg (by omega))
  case pol =>
    change Host.Outcome.next (ite _ _ _) = _
    rw [if_neg (by omega)]
    rfl

end Sys2Proof.Machine
end

section
/-! PROOF. The control map, the aliases and the scrubbers (O41). -/

namespace Sys2Proof.Machine

open Sys2Proof.Safety Sys2Proof.Laws

/-! ## The word that a set or clear write leaves (R532) -/

/-- Bit `j` of byte `i` of a word. -/
theorem testBit_byte (w i : Nat) {j : Nat} (hj : j < 8) : (w / 256 ^ i % 256).testBit j = w.testBit (8 * i + j) := by
  rw [show (256 : Nat) ^ i = 2 ^ (8 * i) from (Nat.pow_mul 2 8 i).symm, show (256 : Nat) = 2 ^ 8 from rfl, Nat.testBit_mod_two_pow, Nat.testBit_div_two_pow]
  simp [hj, Nat.add_comm]

theorem aliasByte_lt (set : Bool) (old value enables i : Nat) : aliasByte set old value enables i < 256 := by
  unfold aliasByte
  have ho : old / 256 ^ i % 256 < 2 ^ 8 := Nat.mod_lt _ (by decide)
  have hv : value / 256 ^ i % 256 < 2 ^ 8 := Nat.mod_lt _ (by decide)
  dsimp only
  split
  · exact ho
  · split
    · exact Nat.or_lt_two_pow ho hv
    · exact Nat.and_lt_two_pow (n := 8) _ (by omega)

/-- An enabled byte has the chosen bits set or cleared, any other keeps its own. -/
theorem testBit_aliasByte (set : Bool) (old value enables i : Nat) {j : Nat} (hj : j < 8) :
    (aliasByte set old value enables i).testBit j = (if bit enables i = true then
      (if set then (old.testBit (8 * i + j) || value.testBit (8 * i + j)) else (old.testBit (8 * i + j) && !value.testBit (8 * i + j)))
      else old.testBit (8 * i + j)) := by
  have hv : value / 256 ^ i % 256 < 2 ^ 8 := Nat.mod_lt _ (by decide)
  have hcompl : (255 - value / 256 ^ i % 256).testBit j = !value.testBit (8 * i + j) := by
    rw [show 255 - value / 256 ^ i % 256 = 2 ^ 8 - (value / 256 ^ i % 256 + 1) by omega, Nat.testBit_two_pow_sub_succ hv, testBit_byte _ _ hj]
    simp [hj]
  unfold aliasByte
  cases bit enables i
  · simp [testBit_byte _ _ hj]
  · cases set
    · exact (Nat.testBit_and ..).trans (by rw [testBit_byte _ _ hj, hcompl]; rfl)
    · exact (Nat.testBit_or ..).trans (by rw [testBit_byte _ _ hj, testBit_byte _ _ hj]; rfl)

/-- A bit of a word whose lowest byte is `x`. -/
theorem testBit_byte_add {x : Nat} (hx : x < 256) (y b : Nat) : (x + 256 * y).testBit b = if b < 8 then x.testBit b else y.testBit (b - 8) := by
  rw [Nat.add_comm]
  exact Nat.testBit_two_pow_mul_add (i := 8) y hx b

/-- A set or clear write changes exactly the chosen bits of the enabled bytes. -/
theorem bit_aliasWord (set : Bool) (old value enables : Nat) {b : Nat} (hb : b < 32) : bit (aliasWord set old value enables) b =
    (if bit enables (b / 8) = true then (if set then (bit old b || bit value b) else (bit old b && !bit value b)) else bit old b) := by
  have hlt := aliasByte_lt set old value enables
  have hbyte : (aliasWord set old value enables).testBit b = (aliasByte set old value enables (b / 8)).testBit (b % 8) := by
    obtain ⟨q, r, hr, hq, rfl⟩ : ∃ q r, r < 8 ∧ q < 4 ∧ b = 8 * q + r := ⟨b / 8, b % 8, by omega, by omega, by omega⟩
    rw [show (8 * q + r) / 8 = q by omega, show (8 * q + r) % 8 = r by omega, aliasWord, testBit_byte_add (hlt 0), testBit_byte_add (hlt 1),
      testBit_byte_add (hlt 2)]
    obtain rfl | rfl | rfl | rfl : q = 0 ∨ q = 1 ∨ q = 2 ∨ q = 3 := by omega
    · rw [if_pos (by omega), Nat.mul_zero, Nat.zero_add]
    · rw [if_neg (by omega), if_pos (by omega), show 8 * 1 + r - 8 = r by omega]
    · rw [if_neg (by omega), if_neg (by omega), if_pos (by omega), show 8 * 2 + r - 8 - 8 = r by omega]
    · rw [if_neg (by omega), if_neg (by omega), if_neg (by omega), show 8 * 3 + r - 8 - 8 - 8 = r by omega]
  rw [bit_eq_testBit, hbyte, testBit_aliasByte _ _ _ _ _ (Nat.mod_lt _ (by decide)), Nat.div_add_mod]
  simp only [bit_eq_testBit]

/-! ## Words of the SRAM -/

/-- A word that no mark names is read as it is. -/
theorem State.checkWord_of_unmarked {s : State} {object w : Nat} (h : spGet (s.marks object) 0 w = 0) : s.checkWord object w = (false, s) := by
  simp only [State.checkWord, h]

/-- The correction of a word posts, counts and no more: no mark changes. -/
theorem State.memCorrected_sramErr (s : State) (object addr : Nat) : (s.memCorrected object addr).mem.sramErr = s.mem.sramErr := by
  unfold State.memCorrected
  dsimp only
  split <;> rfl

/-- A word with a single-bit error is corrected: its mark goes (R535). -/
theorem State.checkWord_sramErr_of_single {s : State} {w : Nat} (h : spGet s.mem.sramErr 0 w = 1) :
    spGet (s.checkWord 1 w).2.mem.sramErr 0 w = 0 := by
  have hcheck : s.checkWord 1 w = (false, (s.setMarks 1 (spSet 0 (s.marks 1) w 0)).memCorrected 1 (4 * w)) := by
    simp only [State.checkWord, show spGet (s.marks 1) 0 w = 1 from h]
  rw [hcheck, State.memCorrected_sramErr]
  exact spGet_spSet_same (d := 0) (m := s.mem.sramErr) (v := 0)

/-- A range without a marked word reads as it is. -/
theorem State.readMem_of_unmarked {s : State} {object a n : Nat} (h : s.markedIn object a n = []) :
    s.readMem object a n = (readBytes (s.cells object) a n, false, s) := by
  rw [State.readMem, h]
  rfl

/-- Outside banks 32 to 55 the SRAM reads as its bytes. -/
theorem State.readSram_of_low {s : State} {a n : Nat} (hlow : a + n ≤ 0x400000) (h : s.markedIn 1 a n = []) :
    s.readSram a n = (readBytes s.mem.sram a n, false, s) := by
  rw [State.readSram, State.readMem_of_unmarked h]
  refine congrArg (·, false, s) ?_
  refine List.ext_getElem (by simp [readBytes_length]) fun i h1 h2 => ?_
  have hi : i < n := by simpa [readBytes_length] using h2
  have hbank : ¬ (32 ≤ bankOf (a + i) ∧ bankOf (a + i) < 56) := by
    rw [bankOf]
    omega
  simp [hbank, State.cells]

/-- No byte is no word. -/
theorem State.writePart_nil (s : State) (object a : Nat) : s.writePart object a [] = (true, s) := rfl

theorem State.writeMem_nil (s : State) (object a : Nat) : s.writeMem object a [] = (true, s) := by
  simp [State.writeMem, State.writePart_nil]

/-- Whole words are written as they are. -/
theorem State.writeMem_of_aligned {s : State} {object a : Nat} {bs : List Byte} (ha : a % 4 = 0) (hbs : bs.length % 4 = 0) (hne : bs ≠ []) :
    s.writeMem object a bs = (true, s.writeWhole object a bs) := by
  have h0 : min ((4 - a % 4) % 4) bs.length = 0 := by omega
  have h1 : (bs.length - 0) / 4 * 4 = bs.length := by omega
  have hlen : bs.length ≠ 0 := by simpa using hne
  simp only [State.writeMem, h0, h1, if_neg hlen, List.take_zero, List.drop_zero, List.take_length, Nat.add_zero, Nat.zero_add, List.drop_length,
    State.writePart_nil, Bool.and_self]

/-- A set or clear write into a bank that is on and a word without an error is applied whole. -/
theorem State.aliasBy_of_unmarked {s : State} {set : Bool} {a value enables addr master : Nat} (hsize : a < sramSize)
    (hbank : s.bankState (bankOf a) = 0) (hmark : spGet s.mem.sramErr 0 (a / 4) = 0) :
    s.aliasBy set a value enables addr master = { s with
      mem := { s.mem with
        sram := writeBytes s.mem.sram (4 * (a / 4)) (leBytes 4 (aliasWord set (leNat (readBytes s.mem.sram (4 * (a / 4)) 4)) value enables)) }
      answer := {} } := by
  rw [State.aliasBy, if_neg (Nat.not_le.mpr hsize), if_neg (not_not_intro hbank), State.aliasWrite, State.checkWord_of_unmarked (object := 1) hmark]
  rfl

/-! ## Transactions of the bus matrix (R520) -/

/-- The SRAM stands at 0x1000_0000 of every master. -/
theorem reachOf_sram (s : State) (master : Nat) {a : Nat} (ha : a < sramSize) : reachOf s master (0x10000000 + a) = .sram a := by
  have ha' : a < 0x4000000 := ha
  obtain ⟨x, hx⟩ : ∃ x, x = 0x10000000 + a := ⟨_, rfl⟩
  have hsub : x - 0x10000000 = a := by omega
  rw [← hx, reachOf, if_neg (by omega), if_neg (by omega), if_neg (by omega), if_pos (by omega), hsub]

/-- A master that the matrix serves has its transaction done. -/
theorem exec_matrixTransaction {s : State} {p : MatrixP} (hm : p.master ≤ 7) (hm5 : p.master ≠ 5) (hdebug : p.master = 7 → s.sys.debugLocked = false)
    (hlen : p.len ≤ 64) (hdlen : p.data.length ≤ 64) (hon : s.pdOn 0 = true) : exec (.matrixTransaction p) s = .next (
      if p.write then s.matrixWrite p (reachOf s p.master p.addr) else s.matrixRead p (reachOf s p.master p.addr) p.len) := by
  have hlocked : (p.master == 7 && s.sys.debugLocked) = false := by simpa using hdebug
  have hserved : (decide (p.master > 7) || p.master == 5 || decide (64 < p.len) || decide (64 < p.data.length)) = false := by
    simp [hm5]
    omega
  change execMatrixTransaction p s = _
  rw [execMatrixTransaction, hserved, hon, hlocked]
  rfl

/-- Settles O41. -/
theorem theControlMapIsReached : Obligations.TheControlMapIsReached := by
  refine ⟨fun set old value enables b hb => bit_aliasWord set old value enables hb, fun s hon => ⟨fun offset value enables hsize hbank hmark => ?aliases,
    fun p a hm hm5 hdebug hlen hdlen hwrite haddr ha4 hd4 hsize hend hbanks => ?write,
    fun p a hm hm5 hdebug hlen hdlen hwrite haddr hend hbanks hmark => ?read, fun p hm hm5 hdebug hlen hdlen hreach herr => ?unmapped,
    fun master offset data hm hm4 herr => ?nvs, fun unit ok t hunit hbank hplanes hcheck => ?scrub, fun unit hunit hbank hplanes hmark => ?corrects⟩⟩
  case aliases =>
    have hset : ∀ set addr master, ({ s with free := s.free + 1 } : State).aliasBy set offset value enables addr master = _ := fun set addr master =>
      State.aliasBy_of_unmarked hsize hbank hmark
    constructor
    · change execBitSetAliasWrite offset value enables s = _
      rw [execBitSetAliasWrite, hon]
      exact congrArg Host.Outcome.next (hset true _ _)
    · change execBitClearAliasWrite offset value enables s = _
      rw [execBitClearAliasWrite, hon]
      exact congrArg Host.Outcome.next (hset false _ _)
  case write =>
    have hreach : reachOf s p.master p.addr = .sram a := haddr ▸ reachOf_sram s p.master hsize
    rw [exec_matrixTransaction hm hm5 hdebug hlen hdlen hon, hwrite, if_pos rfl, hreach, State.matrixWrite, hbanks]
    by_cases hne : p.data = []
    · rw [hne, State.writeMem_nil]
      exact ⟨_, rfl, rfl, rfl, fun b hb => rfl⟩
    · simp only [State.writeMem_of_aligned ha4 hd4 hne]
      exact ⟨_, rfl, rfl, readBytes_writeBytes _ _ _, fun b hb => spGet_writeBytes_other hb⟩
  case read =>
    have hreach : reachOf s p.master p.addr = .sram a := haddr ▸ reachOf_sram s p.master (show a < 0x4000000 by omega)
    rw [exec_matrixTransaction hm hm5 hdebug hlen hdlen hon, hwrite, hreach, if_neg Bool.false_ne_true, State.matrixRead, hbanks,
      State.readSram_of_low hend hmark]
    rfl
  case unmapped =>
    have hboth : (if p.write = true then s.matrixWrite p .unmapped else s.matrixRead p .unmapped p.len) = s.matrixError p 3 0 := by split <;> rfl
    rw [exec_matrixTransaction hm hm5 hdebug hlen hdlen hon, hreach, hboth]
    simp [State.matrixError, State.capture, herr, State.sayError]
  case nvs =>
    change Host.Outcome.next (ite _ _ _) = _
    rw [if_neg (by simp [hm, hm4, hon])]
    simp [State.matrixError, State.capture, herr, State.sayError]
  case scrub =>
    change execScrub unit s = _
    simp [execScrub, hunit, hbank, hplanes, hcheck]
  case corrects =>
    refine ⟨_, congrArg Host.Outcome.next ((if_pos hunit).trans (if_neg (by simp [hbank, hplanes]))), ?_⟩
    exact State.checkWord_sramErr_of_single hmark

end Sys2Proof.Machine
end

section
/-! PROOF. The start-up of the device and what breaks it off (O43). -/

namespace Sys2Proof.Machine

open Sys2Proof.Safety Sys2Proof.Laws

/-! ## The boot (R514 to R519) -/

@[simp] theorem incCounter_sys (s : State) (c : Nat) : (incCounter s c).sys = s.sys :=
  (incCounter_within (P := 1048576) rfl within_rfl).same .sys rfl

@[simp] theorem incCounter_log (s : State) (c : Nat) : (incCounter s c).log = s.log :=
  (incCounter_within (P := 1048576) rfl within_rfl).same .log rfl

@[simp] theorem State.readImage_sys (s : State) (img : List Byte) : (s.readImage img).2.sys = s.sys :=
  (State.readImage_within (P := 20987904) rfl within_rfl).same .sys rfl

/-- A failed boot keeps its cause and may wait for a push (R517, R519). -/
theorem State.bootFailed_sys (s : State) (cause : Nat) (push : Bool) :
    (s.bootFailed cause push).sys = { s.sys with bootFail := cause, pushWait := push } := incCounter_sys ..

/-- A failed boot is one entry of the fault log. -/
theorem State.bootFailed_log_count (s : State) (cause : Nat) (push : Bool) : (s.bootFailed cause push).log.count = s.log.count + 1 := by
  rw [State.bootFailed, incCounter_log]
  rfl

/-- An accepted image ends the boot. -/
theorem State.bootAccepted_sys (s : State) (img : List Byte) :
    (s.bootAccepted img).sys = { s.sys with accepted := true, pushWait := false, release := imageRelease img } := incCounter_sys ..

/-- The flash boot takes the first image that passes its checks, the cause of the last failure stands (R514, R516). -/
theorem State.bootFlash_sys {s : State} {a b : Image} (hmagic : imageMagic a = true)
    (hnewer : imageMagic b = false ∨ imageRelease b ≤ imageRelease a) : (s.bootFlash a b).sys =
      if imageCause a = 0 then { s.sys with accepted := true, pushWait := false, release := imageRelease a }
      else if imageCause b = 0 then { s.sys with accepted := true, pushWait := false, release := imageRelease b }
      else { s.sys with bootFail := imageCause b, pushWait := true } := by
  have hfirst : (imageMagic a && (!imageMagic b || decide (imageRelease b ≤ imageRelease a)) || (!imageMagic a && !imageMagic b)) = true := by
    rcases hnewer with h | h
    · simp [hmagic, h]
    · simp [hmagic, h]
  have hcause : ∀ s img, (State.readImage s img).1 = imageCause img := fun _ _ => rfl
  unfold State.bootFlash
  simp only [hfirst, if_true, hcause]
  split
  · rw [State.bootAccepted_sys, State.readImage_sys]
  · unfold State.tryImage
    simp only [hcause]
    split
    · rw [State.bootAccepted_sys, State.readImage_sys, State.readImage_sys]
    · rw [State.bootFailed_sys, State.readImage_sys, State.readImage_sys]

/-! ## What starts a wind-down (R422, R424) -/

/-- The heads that a wind-down discharges (R424). -/
def State.windHeads (s : State) : List Nat :=
  headNums.filter (fun n => (s.head n).drives || (s.standby && ((s.head n).state != 0 || (s.head n).power.phase != 0)))

/-- The state in which a wind-down begins its work. -/
def State.windBegun (s : State) (cause : Nat) (fromPerst : Bool) : State :=
  { s with sys := { s.sys with windDown := true, txHeld := true }, wind := some { cause := cause, heads := s.windHeads, fromPerst := fromPerst } }

/-- The first work of a wind-down touches neither SYS nor the clocks nor the wind-down's own record. -/
theorem State.windStart_within_begun {s : State} (hdown : s.sys.windDown = false) (cause : Nat) (fromPerst : Bool) :
    Within 19363880034320 (s.windBegun cause fromPerst) (s.windStart cause fromPerst) := by
  have hwork : Within 19363880034320 (s.windBegun cause fromPerst) ((s.windHeads).foldl (fun s n => s.wdHead n)
      ((headNums.filter (fun n => (s.head n).power.phase == 1)).foldl (fun s n => (s.setPhase n 0).batonPins.windupAnswer n stBusy)
        (s.windBegun cause fromPerst).sequencerStop.nvsDiscard)) :=
    within_foldl (fun _ _ h => State.wdHead_within rfl h) (within_foldl
      (fun _ _ h => State.windupAnswer_within rfl (State.batonPins_within rfl (State.setPhase_within rfl h)))
      (State.nvsDiscard_within rfl (State.sequencerStop_within rfl within_rfl)))
  rw [State.windStart, if_neg (by simp [hdown])]
  exact State.enginesOff_within rfl (within_ite (fun _ => State.sendMsg_within rfl hwork) (fun _ => hwork))

/-- A wind-down that starts takes the outputs from the wire and keeps its cause. -/
theorem State.windStart_starts {s : State} (hdown : s.sys.windDown = false) (cause : Nat) (fromPerst : Bool) :
    (s.windStart cause fromPerst).sys = { s.sys with windDown := true, txHeld := true } ∧ (s.windStart cause fromPerst).clocks = s.clocks ∧
      (s.windStart cause fromPerst).wind = some { cause := cause, heads := s.windHeads, fromPerst := fromPerst } :=
  ⟨(State.windStart_within_begun hdown cause fromPerst).same .sys rfl, (State.windStart_within_begun hdown cause fromPerst).same .clocks rfl,
    (State.windStart_within_begun hdown cause fromPerst).same .wind rfl⟩

/-! ## The loss of a network clock (R88) -/

/-- Every lane of the list is off, any other is as it was. -/
theorem State.lanesOff_lane (s : State) (ls : List Nat) (l : Nat) : (s.lanesOff ls).lane l =
    if l ∈ ls then { s.lane l with blockLock := false, cdrLock := false, signal := false, hunting := true } else s.lane l := by
  induction ls generalizing s with
  | nil => simp [State.lanesOff]
  | cons x ls ih =>
    change (State.lanesOff _ ls).lane l = _
    rw [ih]
    by_cases hx : l = x
    · subst hx
      simp
    · simp [hx, State.setLane_lane_other]

@[simp] theorem State.post_port (s : State) (code object origin : Nat) (payload : List Byte) (n : Nat) :
    (s.post code object origin payload).port n = s.port n := rfl

@[simp] theorem State.lanesOff_port (s : State) (ls : List Nat) (n : Nat) : (s.lanesOff ls).port n = s.port n := by
  have hports : (s.lanesOff ls).ports = s.ports := (State.lanesOff_within (P := 67108864) rfl within_rfl).same .ports rfl
  rw [State.port, hports, State.port]

/-- The port that drops is down, any other is as it was. -/
theorem State.portDrop_port_up (s : State) (n cause p : Nat) : ((s.portDrop n cause).port p).up = (if p = n then false else (s.port p).up) := by
  have hports : ((s.portLanes n).foldl (fun s l => s.setLane l { s.lane l with blockLock := false, hunting := true }) s).ports = s.ports :=
    (within_foldl (P := 67108864) (fun _ _ h => State.setLane_within rfl h) within_rfl).same .ports rfl
  unfold State.portDrop
  dsimp only
  generalize (s.portLanes n).foldl (fun s l => s.setLane l { s.lane l with blockLock := false, hunting := true }) s = u at hports ⊢
  have hport : ∀ m, u.port m = s.port m := fun m => by rw [State.port, hports, State.port]
  by_cases hp : p = n
  · subst hp
    cases (s.port p).up <;> simp
  · cases (s.port n).up <;> simp [hp, State.setPort_port_other _ _ _ _ hp, hport]

/-- Every port of the list is down, any other is as it was. -/
theorem foldl_portDrop_up (s : State) (ps : List Nat) (cause p : Nat) :
    ((ps.foldl (fun s p => s.portDrop p cause) s).port p).up = (if p ∈ ps then false else (s.port p).up) := by
  induction ps generalizing s with
  | nil => simp
  | cons n ps ih =>
    rw [List.foldl_cons, ih, State.portDrop_port_up]
    by_cases hn : p = n <;> simp [hn]

/-- Settles O43. -/
theorem theDeviceStartsUp : Obligations.TheDeviceStartsUp := by
  refine fun s => ⟨fun hheld href => ?root, fun sfdp a b hheld hstarted hacc hpush => ⟨fun hhost => ?host, fun hflash => ?noFlash, fun hflash hmagic hnewer => ?flash⟩,
    fun hremap hready => ?ready, fun hremap hready => ?notReady, fun hheld => ?pcie, fun haon hdown => ⟨?refclk, ?pfail⟩, fun haon hdown => ?pfailAgain,
    fun haon hdown => ?deassertDown, fun haon hdown htx => ?deassert, fun haon => ?clockReturn, fun n hn haon => ?nref, rfl, fun head enable => rfl, fun pin hpin => ?evtIn,
    rfl, rfl⟩
  case root =>
    change Host.Outcome.next (ite _ _ _) = _
    simp [hheld, href]
  case host =>
    change execBoot sfdp a b s = _
    simp [execBoot, hheld, hstarted, hacc, hpush, hhost]
  case noFlash =>
    refine ⟨s.bootFailed 1 true, ?_, ?_⟩
    · change execBoot false a b s = _
      simp [execBoot, hheld, hstarted, hacc, hpush, hflash]
    · rw [State.bootFailed_sys]
      exact ⟨rfl, rfl, hacc⟩
  case flash =>
    refine ⟨s.bootFlash a b, ?_, ?_⟩
    · change execBoot true a b s = _
      simp [execBoot, hheld, hstarted, hacc, hpush, hflash]
    · rw [State.bootFlash_sys hmagic hnewer]
      by_cases ha : imageCause a = 0
      · simp [ha]
      · by_cases hb : imageCause b = 0
        · simp [ha, hb]
        · simp [ha, hb, hacc]
  case ready =>
    change execReady true s = _
    simp [execReady, hremap, hready]
  case notReady =>
    refine ⟨s.bootFailed 8 false, ?_, ?_⟩
    · change execReady false s = _
      simp [execReady, hremap, hready]
    · rw [State.bootFailed_sys, State.bootFailed_log_count]
      exact ⟨hready, rfl, rfl⟩
  case pcie =>
    change Host.Outcome.next (ite _ _ _) = _
    simp [hheld]
  case refclk =>
    obtain ⟨hsys, hclocks, hwind⟩ := State.windStart_starts
      (s := { s with clocks := { s.clocks with refclkOk := false, rootLock := false } }) hdown 3 false
    exact ⟨_, _, congrArg Host.Outcome.next (if_neg (by simp [haon])), by rw [hclocks], by rw [hsys], hwind, rfl⟩
  case pfail =>
    obtain ⟨hsys, hclocks, hwind⟩ := State.windStart_starts (s := { s with sys := { s.sys with pfail := true, pfailClear := false } }) hdown 2 false
    exact ⟨_, _, congrArg Host.Outcome.next (if_neg (by simp [haon])), by rw [hsys], by rw [hsys], by rw [hsys], hwind, rfl⟩
  case pfailAgain =>
    change Host.Outcome.next (ite _ _ _) = _
    rw [if_neg (by simp [haon])]
    exact congrArg Host.Outcome.next (if_pos hdown)
  case deassertDown =>
    change execPfailNDeassert s = _
    simp [execPfailNDeassert, haon, hdown]
  case deassert =>
    refine ⟨({ s with sys := { s.sys with pfail := false, pfailClear := true } } : State).windResume, ?_, rfl, rfl, fun c hc hpd => ?_⟩
    · change execPfailNDeassert s = _
      simp [execPfailNDeassert, haon, hdown, htx]
    · refine List.mem_append_right _ (List.mem_map.mpr ⟨c, List.mem_filter.mpr ⟨List.mem_range.mpr hc, ?_⟩, rfl⟩)
      exact bne_iff_ne.mpr hpd
  case clockReturn =>
    have hon : ¬ s.sys.aonReset = true := by simp [haon]
    exact ⟨congrArg Host.Outcome.next (if_neg hon), congrArg Host.Outcome.next (if_neg hon), congrArg Host.Outcome.next (if_neg hon)⟩
  case nref =>
    obtain ⟨u, hu⟩ : ∃ u : State, u = if n = 0 then { s with clocks := { s.clocks with nref0Ok := false } }
        else { s with clocks := { s.clocks with nref1Ok := false } } := ⟨_, rfl⟩
    have hquads : u.portExists = s.portExists := by
      rw [hu]
      split <;> rfl
    refine ⟨((((List.range 16).map (fun i => 16 * n + i)).filter s.portExists).foldl (fun s p => s.portDrop p 5) u).lanesOff
      ((List.range 16).map (fun i => 16 * n + i)), ?_, ?_, fun i hi => ?_, fun p hlo hhi hex => ?_⟩
    · change execNrefclkLoss n s = _
      rw [execNrefclkLoss, if_neg (by simp [haon, hn]), ← hu]
      simp only [hquads]
    · have hclocks := (State.lanesOff_within (P := 1140867072) (a2 := (List.range 16).map (fun i => 16 * n + i)) rfl
        (within_foldl (l := ((List.range 16).map (fun i => 16 * n + i)).filter s.portExists)
          (fun _ p h => State.portDrop_within (a2 := p) (a3 := 5) rfl h) (within_rfl (s := u)))).same .clocks rfl
      rw [hclocks, hu]
      split <;> rfl
    · rw [State.lanesOff_lane, if_pos (List.mem_map.mpr ⟨i, List.mem_range.mpr hi, rfl⟩)]
      exact ⟨rfl, rfl, rfl⟩
    · have hmem : p ∈ ((List.range 16).map (fun i => 16 * n + i)).filter s.portExists :=
        List.mem_filter.mpr ⟨List.mem_map.mpr ⟨p - 16 * n, List.mem_range.mpr (by omega), by omega⟩, hex⟩
      rw [State.lanesOff_port, foldl_portDrop_up, if_pos hmem]
  case evtIn =>
    change Host.Outcome.next (ite _ _ _) = _
    rw [if_neg (by omega)]

end Sys2Proof.Machine
end

section
/-! PROOF. The steps of a wind-down and of a power-down (O44). -/

namespace Sys2Proof.Machine

open Sys2Proof.Safety Sys2Proof.Laws

/-! ## The ends of processes and the release of the nets -/

theorem State.addEvents_nil (s : State) : s.addEvents [] = s := by simp [State.addEvents]

/-- Steps that each only post events post events together. -/
theorem foldl_addEvents {α : Type} {f : State → α → State} (hf : ∀ s x, ∃ evs, f s x = s.addEvents evs) (l : List α) (s : State) :
    ∃ evs, l.foldl f s = s.addEvents evs := by
  induction l generalizing s with
  | nil => exact ⟨[], s.addEvents_nil.symm⟩
  | cons x r ih =>
    obtain ⟨evs, heq⟩ := hf s x
    obtain ⟨evs', heq'⟩ := ih (f s x)
    exact ⟨_, by rw [List.foldl_cons, heq', heq, State.addEvents_addEvents]⟩

theorem State.procApplied_eq_addEvents (s : State) (p : Proc) (frame head : Nat) : ∃ evs, s.procApplied p frame head = s.addEvents evs := by
  unfold State.procApplied State.applied
  split
  · exact ⟨[], s.addEvents_nil.symm⟩
  · exact ⟨_, State.post_eq_addEvents ..⟩

/-- The end of processes takes them from the list and posts events, no more. -/
theorem State.endProcs_eq (s : State) (op object frame head : Nat) (ok : Bool) : ∃ evs, s.endProcs op object frame head ok =
    ({ s with cp := { s.cp with procs := (s.cp.procs.partition (fun p => p.opcode == op && p.object == object)).2 } } : State).addEvents evs := by
  refine foldl_addEvents (fun s p => ?_) _ _
  cases ok with
  | true => exact s.procApplied_eq_addEvents p frame head
  | false => exact ⟨_, State.post_eq_addEvents ..⟩

theorem State.endProcs_launch (s : State) (op object frame head : Nat) (ok : Bool) :
    (s.endProcs op object frame head ok).cp.launch = s.cp.launch := by
  obtain ⟨evs, heq⟩ := s.endProcs_eq op object frame head ok
  rw [heq]
  rfl

theorem State.mem_endProcs_events {s : State} {e : Event} (he : e ∈ s.cp.events) (op object frame head : Nat) (ok : Bool) :
    e ∈ (s.endProcs op object frame head ok).cp.events := by
  obtain ⟨evs, heq⟩ := s.endProcs_eq op object frame head ok
  rw [heq]
  exact List.mem_append_left _ he

@[simp] theorem State.endProcs_head (s : State) (op object frame head : Nat) (ok : Bool) (n : Nat) :
    (s.endProcs op object frame head ok).head n = s.head n := by
  have hheads : (s.endProcs op object frame head ok).heads = s.heads := (State.endProcs_within (P := 49152) rfl within_rfl).same .heads rfl
  rw [State.head, hheads, State.head]

theorem State.autoHandover_launch (s : State) : s.autoHandover.cp.launch = s.cp.launch :=
  congrArg Prod.fst ((State.autoHandover_within (P := 123145302310912) rfl within_rfl).same .waiting rfl)

theorem State.linkTo_launch (s : State) (d link : Nat) (slow : Bool) : (s.linkTo d link slow).cp.launch = s.cp.launch := by
  have hstart : ∀ c : Prop, ∀ _ : Decidable c, (if c then (s.post 0xE071 d 0 s.portByte).autoHandover else s).cp.launch = s.cp.launch := by
    intro c _
    split
    · rw [State.autoHandover_launch]
      rfl
    · rfl
  unfold State.linkTo
  dsimp only
  split
  · rw [State.endProcs_launch]
    exact hstart _ _
  · rw [State.endProcs_launch]
    exact hstart _ _
  · rw [State.endProcs_launch]
    exact hstart _ _
  · exact hstart _ _

@[simp] theorem State.post_head (s : State) (code object origin : Nat) (payload : List Byte) (n : Nat) :
    (s.post code object origin payload).head n = s.head n := rfl

/-- The pins of a head that is released. -/
def Head.released (h : Head) : Head :=
  { h with pins := { driven := false }, vcom := { h.vcom with driven := false }, power := { h.power with phase := 0, held := false, pgLost := false, arrived := 0 } }

theorem State.releaseNets_head (s : State) (n m : Nat) : (s.releaseNets n).head m = (s.modHead n Head.released).head m := by
  have hheads : (s.releaseNets n).heads = (s.modHead n Head.released).heads :=
    (State.batonPins_within (P := 125344325615616) rfl (within_foldl (fun _ _ h => State.linkTo_within rfl h) within_rfl)).same .heads rfl
  rw [State.head, hheads, State.head]

theorem State.releaseNets_launch (s : State) (n : Nat) : (s.releaseNets n).cp.launch = s.cp.launch := by
  change (List.foldl (fun s d => s.linkTo d 0 true) (s.modHead n Head.released) _).cp.launch = s.cp.launch
  exact keepsAt_foldl (P := fun t : State => t.cp.launch = s.cp.launch) (fun t d ht => (t.linkTo_launch d 0 true).trans ht) rfl

/-- With no command waiting a head that goes off changes its state alone. -/
theorem State.headOff_of_launch_nil {s : State} (hlaunch : s.cp.launch = []) (n : Nat) : s.headOff n = s.modHead n (fun h => { h with state := 0 }) := by
  rw [State.headOff, State.applyParked, show (s.modHead n (fun h => { h with state := 0 })).cp.launch = [] from hlaunch]
  rfl

/-! ## One enable after the other (R427) -/

/-- A drop that leaves an enable on changes the pins alone. -/
theorem State.dropEnable_of_pen {s : State} {n : Nat} (hpen : (s.head n).pins.dropTop.pen ≠ 0) :
    s.dropEnable n = s.setHead n { s.head n with pins := (s.head n).pins.dropTop } := by
  have hpen' : ((s.modHead n (fun h => { h with pins := h.pins.dropTop })).head n).pins.pen ≠ 0 := by rwa [State.modHead_head]
  rw [State.dropEnable, if_pos hpen']
  rfl

/-- The last drop of a wind-up that failed releases the nets and posts WINDUP_FAIL. -/
theorem State.dropEnable_of_windup {s : State} {n : Nat} (hpen : (s.head n).pins.dropTop.pen = 0) (hphase : (s.head n).power.phase = 7) :
    s.dropEnable n = (s.modHead n (fun h => { h with pins := h.pins.dropTop })).windupFailed n := by
  have hpen' : ¬ ((s.modHead n (fun h => { h with pins := h.pins.dropTop })).head n).pins.pen ≠ 0 := by
    rw [State.modHead_head]
    exact not_not_intro hpen
  rw [State.dropEnable, if_neg hpen']
  simp only [State.modHead_head, hphase]

/-- The last drop of a power-down ends it. -/
theorem State.dropEnable_of_powerDown {s : State} {n : Nat} (hpen : (s.head n).pins.dropTop.pen = 0) (hphase : (s.head n).power.phase = 8) :
    s.dropEnable n = (s.modHead n (fun h => { h with pins := h.pins.dropTop })).poweredDown n := by
  have hpen' : ¬ ((s.modHead n (fun h => { h with pins := h.pins.dropTop })).head n).pins.pen ≠ 0 := by
    rw [State.modHead_head]
    exact not_not_intro hpen
  rw [State.dropEnable, if_neg hpen']
  simp only [State.modHead_head, hphase]

/-! ## The discharge (R424, R425) -/

/-- A head whose discharge is held, its gate outputs with it unless it is OFF. -/
def Head.discharged (h : Head) : Head :=
  { h with power := { h.power with held := true }, pins := if h.state = 1 then h.pins else { h.pins with gallon := true } }

@[simp] theorem State.broadcast_head (s : State) (n type flags m : Nat) : (s.broadcast n type flags).head m = s.head m := by
  have hheads : (s.broadcast n type flags).heads = s.heads := (State.broadcast_within (P := 2199023255552) rfl within_rfl).same .heads rfl
  rw [State.head, hheads, State.head]

/-- A discharge holds its head and touches no other. -/
theorem State.wdDischarge_head (s : State) (n m : Nat) : (s.wdDischarge n).head m = if m = n then (s.head n).discharged else s.head m := by
  unfold State.wdDischarge
  dsimp only
  by_cases hm : m = n
  · subst hm
    by_cases hstate : (s.head m).state = 1
    · simp [hstate, Head.discharged]
    · simp [hstate, Head.discharged]
  · split
    · simp [State.modHead_head_other _ _ _ _ hm]
    · simp [State.modHead_head_other _ _ _ _ hm]

/-- The step of WIND_DOWN at one head. -/
def State.wdStep (s : State) (n : Nat) : State := if (s.head n).power.phase = 9 ∧ (s.head n).power.held = false then s.wdDischarge n else s

/-- WIND_DOWN holds every head of its list that discharges and is not held. -/
theorem foldl_wdStep_head (l : List Nat) (s : State) (n : Nat) : (l.foldl State.wdStep s).head n =
    if n ∈ l ∧ (s.head n).power.phase = 9 ∧ (s.head n).power.held = false then (s.head n).discharged else s.head n := by
  induction l generalizing s with
  | nil => simp
  | cons x l ih =>
    have hstep : (s.wdStep x).head n =
        if n = x ∧ (s.head n).power.phase = 9 ∧ (s.head n).power.held = false then (s.head n).discharged else s.head n := by
      unfold State.wdStep
      by_cases hx : n = x
      · subst hx
        split <;> simp_all [State.wdDischarge_head]
      · split <;> simp [hx, State.wdDischarge_head]
    rw [List.foldl_cons, ih, hstep]
    by_cases hx : n = x
    · subst hx
      by_cases hc : (s.head n).power.phase = 9 ∧ (s.head n).power.held = false
      · simp [hc, Head.discharged]
      · simp [hc]
    · simp [hx]

/-! ## The shutdown record (R561) -/

theorem nvsKick_commit_of_some {s : State} (hcommit : s.nvs.commit ≠ none) : (nvsKick s).nvs.commit ≠ none := by
  unfold nvsKick
  split
  next h _ => exact absurd h hcommit
  next h _ => exact absurd h hcommit
  next => exact hcommit

/-- Where nothing is left all was dropped. -/
theorem of_dropWhile_eq_nil {α : Type} {p : α → Bool} {l : List α} (h : l.dropWhile p = []) {x : α} (hmem : x ∈ l) : p x = true := by
  induction l with
  | nil => exact absurd hmem List.not_mem_nil
  | cons y l ih =>
    rw [List.dropWhile_cons] at h
    split at h
    next hy => exact (List.mem_cons.mp hmem).elim (fun heq => heq ▸ hy) (ih h)
    next => exact absurd h (List.cons_ne_nil _ _)

/-- A commit starts where none is in progress and a task waits that is not void. -/
theorem nvsKick_commit_of_task {s : State} {x : NvsTask} (hmem : x ∈ s.nvs.tasks) (hvoid : NvsTask.void s.nvs x = false) :
    (nvsKick s).nvs.commit ≠ none := by
  unfold nvsKick
  split
  next h =>
    have hall := of_dropWhile_eq_nil h hmem
    exact absurd (hvoid.symm.trans hall) Bool.false_ne_true
  next => exact Option.some_ne_none _
  next hnone hsome =>
    cases hc : s.nvs.commit with
    | some c => exact Option.some_ne_none c
    | none =>
      cases hl : s.nvs.tasks.dropWhile (NvsTask.void s.nvs) with
      | nil => exact absurd hl (hnone hc)
      | cons t rest => exact absurd hl (hsome t rest hc)

/-- A commit in progress goes on whatever task comes. -/
theorem incCounter_commit_of_some {s : State} (hcommit : s.nvs.commit ≠ none) (c : Nat) : (incCounter s c).nvs.commit ≠ none :=
  nvsKick_commit_of_some hcommit

/-- The shutdown record starts a commit or waits for the one in progress. -/
theorem commitShutdown_commit (s : State) (changes : List (Nat × Nat)) (cause : Nat) : (commitShutdown s changes cause).nvs.commit ≠ none :=
  nvsKick_commit_of_task (List.mem_append_right _ (List.mem_singleton_self _)) rfl

/-! ## The end of a wind-down -/

/-- With no command waiting the heads that go off are OFF, and nothing else of the head or of the waiting events changes. -/
theorem foldl_headOff {s : State} (hlaunch : s.cp.launch = []) (l : List Nat) :
    (l.foldl (fun s n => s.headOff n) s).cp = s.cp ∧
      ∀ n, ((l.foldl (fun s n => s.headOff n) s).head n).state = if n ∈ l then 0 else (s.head n).state := by
  induction l generalizing s with
  | nil => simp
  | cons x l ih =>
    rw [List.foldl_cons, State.headOff_of_launch_nil hlaunch]
    obtain ⟨hcp, hstate⟩ := ih (s := s.modHead x (fun h => { h with state := 0 })) hlaunch
    refine ⟨hcp, fun n => ?_⟩
    rw [hstate]
    by_cases hx : n = x
    · simp [hx]
    · simp [hx, State.modHead_head_other _ _ _ _ hx]

/-- A head that enters the wind-down discharges; one that scans no frames keeps what it knows of its lost supply. -/
theorem State.wdHead_head {s : State} {n : Nat} (hphase : (s.head n).power.phase < 7) : ((s.wdHead n).head n).power.phase = 9 ∧
    ((s.head n).scans = false → ((s.wdHead n).head n).power.pgLost = (s.head n).power.pgLost ∧
      ((s.wdHead n).head n).power.pgEnable = (s.head n).power.pgEnable) := by
  rw [State.wdHead, if_neg (by omega)]
  simp only [State.modHead_head]
  refine ⟨if_neg (by omega), fun hscans => ?_⟩
  simp [hscans]

/-- The wind-down notes a head that has discharged cleanly. -/
def State.addClean (s : State) (n : Nat) : State := { s with wind := s.wind.map (fun w => { w with clean := w.clean ++ [n] }) }

/-- Settles O44. -/
theorem windDownsTurnThePanelsOff : Obligations.WindDownsTurnThePanelsOff := by
  refine fun s => ⟨fun w hw => ?down, fun n w hw hphase hheld hstate hpen => ?hold, fun n hphase hpen => ?gap, fun n hphase hpen => ?gapLast,
    fun w hw hcommits hheads => ?commits, fun w hw hcommits hcommit htasks => ?done, fun n enable hdown hbit harr hphase => ?lost,
    fun n hphase hpen => ?drop, fun n hphase hpen => ?dropLast⟩
  case down =>
    refine ⟨w.heads.foldl State.wdStep s, ?_, fun n hn hphase hheld => ?_⟩
    · change execWindDown s = _
      rw [execWindDown, hw]
      rfl
    · rw [foldl_wdStep_head, if_pos ⟨hn, hphase, hheld⟩]
      exact ⟨rfl, fun hstate => by simp [Head.discharged, hstate]⟩
  case hold =>
    have hpen' : (((s.addClean n).setPhase n 10).head n).pins.dropTop.pen ≠ 0 := by
      rw [State.setPhase, State.modHead_head]
      exact hpen
    refine ⟨((s.addClean n).setPhase n 10).dropEnable n, ?_, ?_⟩
    · change execWdHoldEnd n s = _
      rw [execWdHoldEnd, if_pos ⟨hphase, hheld⟩, if_neg hstate]
      rfl
    · rw [State.dropEnable_of_pen hpen', State.setPhase, State.modHead_head, State.setHead_head]
      refine ⟨rfl, rfl, ?_⟩
      change (s.wind.map _) = _
      rw [hw]
      rfl
  case gap => exact congrArg Host.Outcome.next ((if_pos hphase).trans (State.dropEnable_of_pen hpen))
  case gapLast =>
    refine ⟨_, congrArg Host.Outcome.next ((if_pos (.inl hphase)).trans (State.dropEnable_of_windup hpen hphase)), ?_⟩
    have henable : ((s.modHead n (fun h => { h with pins := h.pins.dropTop })).head n).power.enable = (s.head n).power.enable := by
      rw [State.modHead_head]
    rw [State.windupFailed, henable, State.endProcs_head, State.post_head, State.releaseNets_head, State.modHead_head]
    exact ⟨rfl, rfl, _, State.mem_endProcs_events (List.mem_append_right _ (List.mem_singleton_self _)) .., rfl, rfl, rfl⟩
  case commits =>
    have hany : (w.heads.any (fun n => (s.head n).power.phase == 9 || (s.head n).power.phase == 10)) = false :=
      List.any_eq_false.mpr fun n hn => by simp [hheads n hn]
    obtain ⟨u, hu⟩ : ∃ u, u = incCounter (commitShutdown { s with wind := some { w with commits := true } } (w.clean.map (fun n => (n, 0))) w.cause) 3 :=
      ⟨_, rfl⟩
    have hwind : u.wind = some { w with commits := true } :=
      hu ▸ (incCounter_within (P := 1048576) rfl (commitShutdown_within rfl within_rfl)).same .wind rfl
    have hcommit : u.nvs.commit ≠ none := hu ▸ incCounter_commit_of_some (commitShutdown_commit _ _ _) 3
    refine ⟨if w.cause = 3 then incCounter u 4 else u, ?_, ?_⟩
    · change execWindDownCommits s = _
      rw [execWindDownCommits, hw]
      simp only [hcommits, hany, Bool.or_self, Bool.false_eq_true, if_false, hu]
    · split
      · exact ⟨((incCounter_within (P := 1048576) rfl within_rfl).same .wind rfl).trans hwind, incCounter_commit_of_some hcommit 4⟩
      · exact ⟨hwind, hcommit⟩
  case done =>
    obtain ⟨a, ha⟩ : ∃ a, a = ({ s with wind := none, sys := { s.sys with windDown := false } } : State).post 0xE083 0 2
      (leBytes 1 w.cause ++ leBytes 1 w.heads.length) := ⟨_, rfl⟩
    obtain ⟨b, hb⟩ : ∃ b, b = w.heads.foldl (fun s n => s.headOff n) a := ⟨_, rfl⟩
    have hoff : Within 2025097053184 a b := hb ▸ within_foldl (fun _ _ h => State.headOff_within rfl h) within_rfl
    have hsys : b.sys = { s.sys with windDown := false } := (hoff.same .sys rfl).trans (by rw [ha]; rfl)
    have hwind : b.wind = none := (hoff.same .wind rfl).trans (by rw [ha]; rfl)
    obtain ⟨c, hc⟩ : ∃ c, c = if b.sys.pfailClear then b.windResume else b := ⟨_, rfl⟩
    have hresume : c.wind = none ∧ c.sys.windDown = false ∧ c.sys.perst = s.sys.perst ∧ c.heads = b.heads ∧ c.cp = b.cp := by
      have hbdown : b.sys.windDown = false := by rw [hsys]
      have hbperst : b.sys.perst = s.sys.perst := by rw [hsys]
      rw [hc]
      split
      · exact ⟨hwind, hbdown, hbperst, rfl, rfl⟩
      · exact ⟨hwind, hbdown, hbperst, rfl, rfl⟩
    obtain ⟨hcwind, hcdown, hcperst, hcheads, hccp⟩ := hresume
    have hexec : exec .windDownDone s =
        .next (if w.fromPerst then (if c.sys.perst then c.planesReset else c.planesReset.planesStart) else c) := by
      change execWindDownDone s = _
      rw [execWindDownDone, hw]
      simp only [hcommits, hcommit, htasks, hc, hb, ha]
      rfl
    cases hperst : w.fromPerst with
    | true =>
      refine ⟨_, hexec, ?_, ?_, fun h => absurd h (by simp), fun _ => ?_⟩
      all_goals rw [hperst, if_pos rfl, hcperst]
      · cases s.sys.perst <;> rfl
      · cases s.sys.perst <;> rfl
      · cases s.sys.perst <;> exact ⟨rfl, rfl⟩
    | false =>
      refine ⟨_, hexec, ?_, ?_, fun _ hlaunch => ?_, fun h => absurd h (by simp)⟩
      all_goals rw [hperst, if_neg Bool.false_ne_true]
      · exact hcwind
      · exact hcdown
      · have hlaunch' : a.cp.launch = [] := by
          rw [ha]
          exact hlaunch
        obtain ⟨hcp, hstate⟩ := foldl_headOff hlaunch' w.heads
        rw [← hb] at hcp hstate
        refine ⟨fun n hn => ?_, ?_⟩
        · rw [State.head, hcheads]
          exact (hstate n).trans (if_pos hn)
        · rw [hccp, hcp, ha]
          exact ⟨_, List.mem_append_right _ (List.mem_singleton_self _), rfl, rfl⟩
  case lost =>
    refine ⟨(((s.modHead n (fun x => { x with power := { x.power with pgLost := true, pgEnable := enable } })).wdHead n).wdDischarge n), ?_, ?_⟩
    · change execPanelPgLost n enable s = _
      rw [execPanelPgLost, hdown, hbit, harr]
      exact congrArg Host.Outcome.next (if_neg (by simp; omega))
    · rw [State.wdDischarge_head, if_pos rfl]
      obtain ⟨hph, hkept⟩ := State.wdHead_head (n := n) (s := s.modHead n (fun x => { x with power := { x.power with pgLost := true, pgEnable := enable } }))
        (by rw [State.modHead_head]; exact hphase)
      refine ⟨hph, rfl, fun hscans => ?_⟩
      have hpower := hkept (by rw [State.modHead_head]; exact hscans)
      rw [State.modHead_head] at hpower
      exact hpower
  case drop =>
    refine congrArg Host.Outcome.next ((if_pos hphase).trans (State.dropEnable_of_pen hpen))
  case dropLast =>
    refine ⟨_, congrArg Host.Outcome.next ((if_pos hphase).trans (State.dropEnable_of_powerDown hpen hphase)), fun hlaunch => ?_⟩
    have hlaunch' : ((s.modHead n (fun h => { h with pins := h.pins.dropTop })).releaseNets n).cp.launch = [] :=
      (State.releaseNets_launch ..).trans hlaunch
    rw [State.poweredDown, State.endProcs_head, State.headOff_of_launch_nil hlaunch', State.modHead_head, State.releaseNets_head, State.modHead_head]
    exact ⟨rfl, rfl, rfl⟩

end Sys2Proof.Machine
end

section
/-! PROOF. Time: ticks, automatic selection, pins, launch entries (O46). -/

namespace Sys2Proof.Machine

open Sys2Proof.Safety Sys2Proof.Laws

/-! ## One tick of the time clock (R44, R60 to R64) -/

/-- The samples that a tick sends change no counter. -/
theorem State.emitSamples_time (s : State) : s.emitSamples.time = s.time ∧ s.emitSamples.timeRegs = s.timeRegs :=
  ⟨(State.emitSamples_within (P := 1099528421408) rfl within_rfl).same .time rfl,
    (State.emitSamples_within (P := 1099528421408) rfl within_rfl).same .timeRegs rfl⟩

/-- A step of TP changes TP, its generation and nothing else of the counters. -/
theorem State.stepTp_time (s : State) (v : Nat) :
    (s.stepTp v).time = { s.time with tp := v, tpGen := (s.time.tpGen + 1) % 65536, refusing := false } ∧ (s.stepTp v).timeRegs = s.timeRegs := by
  have hseam : ∀ (u : State) (delta : Int), Within 1672908686336 u ((((u.seamFlows delta).seamOutputs).seamPins).seamEntries delta) := fun u delta =>
    State.seamEntries_within rfl (State.seamPins_within rfl (State.seamOutputs_within rfl (State.seamFlows_within rfl within_rfl)))
  exact ⟨(hseam _ _).same .time rfl, (hseam _ _).same .timeRegs rfl⟩

/-- On a tick without a load or a rate that waits the counters advance by their increments. -/
theorem State.tickCounters_eq {s : State} (hA : s.timeRegs.nextA = none) (hB : s.timeRegs.nextB = none) (hrA : s.time.nextRateA = none)
    (hrB : s.time.nextRateB = none) : s.tickCounters = { s with
      time := { s.time with ta := s.time.ta + incOf s.time.rateA, tb := s.time.tb + incOf s.time.rateB }
      timeRegs := { s.timeRegs with ticks := s.timeRegs.ticks + 1 }
      sync := { s.sync with tpStamp := s.sync.tpStamp.map (fun x => x + nominalInc) } } := by
  simp only [State.tickCounters, hA, hB, hrA, hrB, Option.getD_none]

/-- What a tick of TP leaves to the counters: TA, TB and the count of ticks. -/
def SameCounters (s t : State) : Prop := t.time.ta = s.time.ta ∧ t.time.tb = s.time.tb ∧ t.timeRegs.ticks = s.timeRegs.ticks

theorem State.track_time (s : State) (v : Nat) : (s.track v).time =
    { s.time with tp := v, tpGen := (s.time.tpGen + 1) % 65536, refusing := false, tracking := true } ∧ (s.track v).timeRegs = s.timeRegs := by
  obtain ⟨htime, hregs⟩ := s.stepTp_time v
  rw [State.track]
  dsimp only
  rw [htime]
  exact ⟨rfl, hregs⟩

theorem State.track_sameCounters (s : State) (v : Nat) : SameCounters s (s.track v) := by
  obtain ⟨htime, hregs⟩ := s.track_time v
  exact ⟨by rw [htime], by rw [htime], by rw [hregs]⟩

/-- A tick in FREE without a source that may be followed advances by the nominal increment (R60). -/
theorem State.tickFree_of_unlocked {s : State} (hlock : s.sourceLocked = false) : s.tickFree = s.moveTp nominalInc false := by
  have hlock' : (s.moveTp nominalInc false).sourceLocked = false := hlock
  simp [State.tickFree, hlock']

theorem State.tickFree_sameCounters (s : State) : SameCounters s s.tickFree := by
  unfold State.tickFree
  dsimp only
  split
  · exact ⟨rfl, rfl, rfl⟩
  · split
    · exact (s.moveTp nominalInc false).track_sameCounters _
    · split <;> exact ⟨rfl, rfl, rfl⟩

/-- The difference that a tick in TRACKING meets (R62). -/
def State.tickDiff (s : State) : Int := ((s.time.tp + s.sourceInc : Nat) : Int) - s.source

/-- Within the jump limit TP slews to its source (R62). -/
theorem State.tickTracking_near {s : State} (hnear : s.tickDiff.natAbs ≤ s.jumpUnits) : s.tickTracking.timeRegs = s.timeRegs ∧
    ∃ slewing, s.tickTracking.time = { s.time with
      tp := s.time.tp + (if s.tickDiff > 0 then s.sourceInc - min s.tickDiff.natAbs (slewStep s.time.slew)
        else s.sourceInc + min s.tickDiff.natAbs (slewStep s.time.slew))
      lastInc := if s.tickDiff > 0 then s.sourceInc - min s.tickDiff.natAbs (slewStep s.time.slew)
        else s.sourceInc + min s.tickDiff.natAbs (slewStep s.time.slew)
      slewing := slewing, refusing := false } := by
  unfold State.tickTracking
  dsimp only
  rw [show ((s.time.tp + s.sourceInc : Nat) : Int) - s.source = s.tickDiff from rfl, if_pos hnear]
  exact ⟨rfl, _, rfl⟩

/-- Beyond it TP goes on at its last increment and refuses to follow (R64). -/
theorem State.tickTracking_far {s : State} (hfar : s.jumpUnits < s.tickDiff.natAbs) : s.tickTracking.timeRegs = s.timeRegs ∧
    s.tickTracking.time = { s.time with
      tp := s.time.tp + s.time.lastInc, slewing := false, refusing := true, jumpRefused := !s.time.refusing || s.time.jumpRefused } := by
  unfold State.tickTracking
  dsimp only
  rw [show ((s.time.tp + s.sourceInc : Nat) : Int) - s.source = s.tickDiff from rfl, if_neg (Nat.not_le.mpr hfar)]
  cases s.time.refusing
  · exact ⟨rfl, rfl⟩
  · exact ⟨rfl, rfl⟩

theorem State.tickTracking_sameCounters (s : State) : SameCounters s s.tickTracking := by
  rcases Nat.lt_or_ge s.jumpUnits s.tickDiff.natAbs with hfar | hnear
  · obtain ⟨hregs, htime⟩ := State.tickTracking_far hfar
    exact ⟨by rw [htime], by rw [htime], by rw [hregs]⟩
  · obtain ⟨hregs, _, htime⟩ := State.tickTracking_near hnear
    exact ⟨by rw [htime], by rw [htime], by rw [hregs]⟩

/-- A tick without a step that waits, on a device that does not join a pair. -/
theorem State.tickTp_of_none {s : State} (hstep : s.timeRegs.nextStep = none) (hpair : s.pair.state ≠ 3) :
    s.tickTp = if s.time.tracking then s.tickTracking else s.tickFree := by
  have hpair' : (s.pair.state == 3) = false := beq_false_of_ne hpair
  simp [State.tickTp, hstep, hpair']

/-- A tick of a device that is up. -/
theorem exec_timeTick {s : State} (hheld : s.sys.planesHeld = false) (hstarted : s.clocks.started = true) :
    exec .timeTick s = .next s.tickCounters.tickTp.emitSamples := by
  change execTimeTick s = _
  simp [execTimeTick, hheld, hstarted]

/-- On a device that TA leads, the difference that a tick meets is that of the counters before it. -/
theorem State.tickDiff_of_A {s u : State} (hu : u = { s with
      time := { s.time with ta := s.time.ta + incOf s.time.rateA, tb := s.time.tb + incOf s.time.rateB }
      timeRegs := { s.timeRegs with ticks := s.timeRegs.ticks + 1 }
      sync := { s.sync with tpStamp := s.sync.tpStamp.map (fun x => x + nominalInc) } })
    (hstandby : s.standby = false) (hsel : s.time.selected = 0) :
    u.sourceInc = incOf s.time.rateA ∧ u.tickDiff = (s.time.tp : Int) - s.time.ta := by
  have hst : u.standby = false := by rw [hu]; exact hstandby
  have hinc : u.sourceInc = incOf s.time.rateA := by
    rw [State.sourceInc, hst, hu]
    simp [hsel]
  have hsource : u.source = s.time.ta + incOf s.time.rateA := by
    rw [State.source, hst, hu]
    simp [State.counterOfDomain, hsel]
  refine ⟨hinc, ?_⟩
  rw [State.tickDiff, hinc, hsource, hu]
  push_cast
  omega

/-! ## Automatic selection (R67) -/

/-- Where it is time to go to the other domain and R65 lets TP, it goes there, and its home stays. -/
theorem exec_autoSelect {s : State} {other : Nat} (hother : 1 - s.time.selected = other) (hauto : s.time.autoSelect = true)
    (htrack : s.time.tracking = true) (hlocked : (s.domain other).state = 3) (hnear : (s.diffFrom other).natAbs ≤ s.jumpUnits)
    (hgo : (if s.time.selected = s.time.home then (s.domain s.time.selected).state != 3 &&
        decide ((s.domain s.time.selected).since + 800000000 ≤ s.timeRegs.ticks) && (s.domain other).state == 3
      else s.time.revert && (s.domain other).state == 3 && decide ((s.domain other).since + 800000000 ≤ s.timeRegs.ticks)) = true) :
    exec .autoSelect s = .next { s with time := { s.time with selected := other, refusing := false } } := by
  have hok : s.switchOk other = true := by simp [State.switchOk, hlocked, hnear]
  subst hother
  refine congrArg Host.Outcome.next (if_pos ?_)
  rw [hauto, htrack, hgo, hok]
  rfl

/-! ## A launch entry that falls due (R74) -/

theorem State.entryApplied_events (s : State) (e : Entry) (frame head : Nat) :
    (s.entryApplied e frame head).cp.events.length = s.cp.events.length + b2n (!e.noApplied) := by
  cases h : e.noApplied <;> simp [State.entryApplied, State.applied, h, b2n, State.post]

theorem State.entryApplied_launch (s : State) (e : Entry) (frame head : Nat) : (s.entryApplied e frame head).cp.launch = s.cp.launch := by
  cases h : e.noApplied <;> simp [State.entryApplied, State.applied, h, State.post]

theorem State.entryApplied_evtOut (s : State) (e : Entry) (frame head : Nat) : (s.entryApplied e frame head).evtOut = s.evtOut := by
  cases h : e.noApplied <;> simp [State.entryApplied, State.applied, h, State.post]

/-- Settles O46. -/
theorem timeAdvances : Obligations.TimeAdvances := by
  refine fun s => ⟨fun hheld hstarted hstep hstandby hpair hA hB hrA hrB => ?tick, fun hheld hstarted hstep hstandby hsel hA hrA => ?step,
    fun other hother hauto htrack hsel hhome hlost haged hlocked hnear => ?away, fun home hhome hauto htrack hrevert hh hsel hlocked haged hnear => ?back,
    fun pin rising back hpin hheld hedge hroom hreport => ?capture, fun pin rising back hpin hheld hedge hfull => ?overflow,
    fun pin at_ j hpin hheld hstandby hpulse hat hlast hcount => ?pulse, fun pin hpin hheld hstandby hpulse hend => ?pulseEnd,
    fun e h p hl hq ht hdue hcmd => ?launch⟩
  case tick =>
    have hu := State.tickCounters_eq hA hB hrA hrB
    obtain ⟨u, hu'⟩ : ∃ u, u = s.tickCounters := ⟨_, rfl⟩
    rw [← hu'] at hu
    have hstep' : u.timeRegs.nextStep = none := by rw [hu]; exact hstep
    have hpair' : u.pair.state ≠ 3 := by rw [hu]; exact hpair
    have htp : u.tickTp = if s.time.tracking then u.tickTracking else u.tickFree := by
      rw [State.tickTp_of_none hstep' hpair', hu]
    have hsame : SameCounters u u.tickTp := by
      rw [htp]
      split
      · exact u.tickTracking_sameCounters
      · exact u.tickFree_sameCounters
    obtain ⟨hta, htb, hticks⟩ := hsame
    obtain ⟨hetime, heregs⟩ := u.tickTp.emitSamples_time
    refine ⟨_, exec_timeTick hheld hstarted, ?_⟩
    rw [← hu', hetime, heregs]
    refine ⟨hticks.trans (by rw [hu]), hta.trans (by rw [hu]), htb.trans (by rw [hu]), fun hfree hlock => ?_, fun htrack hsel hnear => ?_,
      fun htrack hsel hfar href => ?_⟩
    · have hlocked : u.sourceLocked = false := by
        rw [hu]
        change ((s.standby && _) || (s.domain s.time.selected).state == 3) = false
        simp [hstandby, hlock]
      rw [htp, hfree, if_neg Bool.false_ne_true, State.tickFree_of_unlocked hlocked, hu]
      exact ⟨rfl, hfree⟩
    · obtain ⟨hinc, hdiff⟩ := State.tickDiff_of_A hu hstandby hsel
      obtain ⟨-, slewing, htime⟩ := State.tickTracking_near (s := u) (by rw [hdiff, hu]; exact hnear)
      rw [htp, htrack, if_pos rfl, htime, hinc, hdiff, hu]
      refine ⟨rfl, congrArg (s.time.tp + ·) ?_⟩
      by_cases hlt : s.time.ta < s.time.tp
      · rw [if_pos (by omega), if_pos hlt]
        congr 2
        omega
      · rw [if_neg (by omega), if_neg hlt]
        congr 2
        omega
    · obtain ⟨hinc, hdiff⟩ := State.tickDiff_of_A hu hstandby hsel
      obtain ⟨-, htime⟩ := State.tickTracking_far (s := u) (by rw [hdiff, hu]; exact hfar)
      rw [htp, htrack, if_pos rfl, htime, hu]
      exact ⟨rfl, rfl, by simp [href]⟩
  case step =>
    obtain ⟨u, hu⟩ : ∃ u, u = s.tickCounters := ⟨_, rfl⟩
    have hta : u.time.ta = s.time.ta + incOf s.time.rateA := by simp only [hu, State.tickCounters, hA, hrA, Option.getD_none]
    have hgen : u.time.tpGen = s.time.tpGen := by rw [hu]; rfl
    have hsource : u.source = s.time.ta + incOf s.time.rateA := by
      have hst : u.standby = false := by rw [hu]; exact hstandby
      have hsel' : u.time.selected = 0 := by rw [hu]; exact hsel
      rw [State.source, hst, State.counterOfDomain, hsel', if_pos rfl, hta]
    have hstep' : u.timeRegs.nextStep = some .domain := by rw [hu]; exact hstep
    have htp : u.tickTp = State.track { u with timeRegs := { u.timeRegs with nextStep := none } } u.source := by
      rw [State.tickTp, hstep']
      rfl
    obtain ⟨htime, hregs⟩ := State.track_time { u with timeRegs := { u.timeRegs with nextStep := none } } u.source
    obtain ⟨hetime, heregs⟩ := u.tickTp.emitSamples_time
    refine ⟨_, exec_timeTick hheld hstarted, ?_⟩
    rw [← hu, hetime, heregs, htp, htime, hregs, ← hsource, ← hgen]
    exact ⟨rfl, rfl, rfl, rfl⟩
  case away =>
    have hother' : 1 - s.time.selected = other := by omega
    refine exec_autoSelect hother' hauto htrack hlocked hnear ?_
    rw [if_pos (hsel.trans hhome.symm), hsel, hlocked]
    simp [hlost, haged]
  case back =>
    have hother' : 1 - s.time.selected = home := by omega
    refine exec_autoSelect hother' hauto htrack hlocked hnear ?_
    rw [if_neg (by omega), hrevert, hlocked]
    simp [haged]
  case capture =>
    change execEvtCapture pin rising back s = _
    simp only [execEvtCapture]
    rw [if_neg (by simp [hheld, hedge]; omega), if_neg (by omega), if_neg (by simp [hreport])]
  case overflow =>
    change execEvtCapture pin rising back s = _
    simp only [execEvtCapture]
    rw [if_neg (by simp [hheld, hedge]; omega), if_pos hfull]
  case pulse =>
    change execEvtOutPulse pin s = _
    simp only [execEvtOutPulse, hpulse, hat, hcount]
    rw [if_neg (by simp [hheld, hstandby]; omega), if_neg Bool.false_ne_true]
    have hnew : (match (s.evtOutOf pin).lastStart with | some l => decide (l < at_) | none => true) = true := by
      cases hl : (s.evtOutOf pin).lastStart with
      | none => rfl
      | some l => exact decide_eq_true (hlast l hl)
    exact congrArg Host.Outcome.next (if_pos (by rw [Bool.and_true]; exact hnew))
  case pulseEnd =>
    change execEvtOutPulse pin s = _
    rw [execEvtOutPulse, hpulse, if_neg (by simp [hheld, hstandby]; omega)]
    exact congrArg Host.Outcome.next ((if_pos rfl).trans (if_neg (by omega)))
  case launch =>
    have hexec : exec (.launchEntryDue 4) s = .next (s.applyIdle (s.lateNow e)) := by
      change execLaunchEntryDue 4 s = _
      simp [execLaunchEntryDue, hl, hq, ht, hdue, hcmd, outputOf, sortBy, insertBy]
    have hcmd' : (s.lateNow e).cmd = .evtOutSet h p := hcmd
    have happly : s.applyIdle (s.lateNow e) = ((s.unqueue (s.lateNow e)).evtOutApply p).entryApplied (s.lateNow e) noFrame 255 := by
      rw [State.applyIdle, hcmd']
    have hout : ((s.unqueue (s.lateNow e)).evtOutApply p).cp = (s.unqueue (s.lateNow e)).cp ∧
        ((s.unqueue (s.lateNow e)).evtOutApply p).evtOut = (s.evtOutApply p).evtOut := by
      have heq : (s.unqueue (s.lateNow e)).evtOutOf p.pin = s.evtOutOf p.pin := rfl
      unfold State.evtOutApply
      rw [heq]
      dsimp only
      split <;> exact ⟨rfl, rfl⟩
    refine ⟨_, hexec, ?_⟩
    rw [happly]
    refine ⟨?_, ?_, ?_⟩
    · rw [State.entryApplied_launch, hout.1]
      simp [State.unqueue, hl, State.lateNow]
    · rw [State.entryApplied_evtOut, hout.2]
    · rw [State.entryApplied_events, hout.1]
      rfl

end Sys2Proof.Machine
end

section
/-! PROOF. The PTP domains (O47). -/

namespace Sys2Proof.Machine

open Sys2Proof.Safety Sys2Proof.Laws

/-- A change of state of a domain changes no counter. -/
theorem State.domainState_time (s : State) (d new : Nat) : (s.domainState d new).time = s.time :=
  (State.domainState_within (P := 16640) rfl within_rfl).same .time rfl

/-- A change of state of a domain posts PTP_STATE. -/
theorem State.domainState_event {s : State} {d new : Nat} (hne : (s.domain d).state ≠ new) :
    ∃ e ∈ (s.domainState d new).cp.events, e.code = 0xE004 ∧ e.object = d ∧
      e.payload = leBytes 1 (s.domain d).state ++ leBytes 1 new ++ leBytes 8 (match (s.domain d).gm with | some a => a.identity | none => 0) := by
  unfold State.domainState
  dsimp only
  rw [if_neg hne]
  exact ⟨_, List.mem_append_right _ (List.mem_singleton_self _), rfl, rfl, rfl⟩

/-- A domain without a valid grandmaster listens (R52). -/
theorem State.listen_domain (s : State) (d : Nat) : ((s.listen d).domain d).state = 1 ∧ ((s.listen d).domain d).gm = none ∧
    (s.listen d).time = s.time := by
  obtain ⟨since, hdom⟩ := s.domainState_domain_same d 1
  rw [State.listen, State.setDomain_domain, hdom]
  exact ⟨rfl, rfl, s.domainState_time d 1⟩

/-! ## Sync messages (R50 to R54) -/

/-- What a Sync message makes of the offset and of the counts of small and large ones in a row. -/
def Domain.synced (x : Domain) (t1 t2 : Nat) : Domain :=
  { x with
    offset := (t2 : Int) - t1 - x.meanDelay
    good := if ((t2 : Int) - t1 - x.meanDelay).natAbs < 6553600 then min (x.good + 1) 16 else 0
    bad := if ((t2 : Int) - t1 - x.meanDelay).natAbs > 65536000 then min (x.bad + 1) 4 else 0 }

/-- The state after a Sync message has been measured and the servo has given its rate. -/
def State.ptpMeasured (s : State) (d t1 t2 : Nat) : State :=
  (s.setDomain d ((s.domain d).synced t1 t2)).drawInt.2.setRate d (s.setDomain d ((s.domain d).synced t1 t2)).drawInt.1

/-- The rate that a domain takes at its next tick. -/
def State.nextRate (s : State) (d : Nat) : Option Int := if d = 0 then s.time.nextRateA else s.time.nextRateB

/-- The servo's rate is kept within the limit of R45, and is all that it changes. -/
theorem State.setRate_spec (s : State) (d : Nat) (r : Int) : (s.setRate d r).domain d = s.domain d ∧
    (∃ x, (s.setRate d r).nextRate d = some x ∧ -32768000000 ≤ x ∧ x ≤ 32768000000) ∧
    (s.setRate d r).time.tp = s.time.tp ∧ (s.setRate d r).time.ta = s.time.ta ∧ (s.setRate d r).time.tb = s.time.tb := by
  have hlo : (-32768000000 : Int) ≤ clampI (-32768000000) 32768000000 r := Int.le_max_left _ _
  have hhi : clampI (-32768000000) 32768000000 r ≤ (32768000000 : Int) := Int.max_le.mpr ⟨by omega, Int.min_le_right _ _⟩
  unfold State.setRate State.nextRate
  by_cases hd : d = 0
  · rw [if_pos hd, if_pos hd]
    exact ⟨rfl, ⟨_, rfl, hlo, hhi⟩, rfl, rfl, rfl⟩
  · rw [if_neg hd, if_neg hd]
    exact ⟨rfl, ⟨_, rfl, hlo, hhi⟩, rfl, rfl, rfl⟩

/-- The servo's step moves the counter of its domain alone. -/
theorem State.servoStep_spec (s : State) (d : Nat) : (s.servoStep d).domain d = s.domain d ∧
    (s.servoStep d).nextRate d = s.nextRate d ∧ (s.servoStep d).time.tp = s.time.tp := by
  unfold State.servoStep State.nextRate State.drawInt
  dsimp only
  by_cases hd : d = 0
  · simp only [if_pos hd]
    exact ⟨rfl, trivial, trivial⟩
  · simp only [if_neg hd]
    exact ⟨rfl, trivial, trivial⟩

/-- The measurement of a Sync message gives the rate and moves no counter. -/
theorem State.ptpMeasured_spec (s : State) (d t1 t2 : Nat) : (s.ptpMeasured d t1 t2).domain d = (s.domain d).synced t1 t2 ∧
    (∃ x, (s.ptpMeasured d t1 t2).nextRate d = some x ∧ -32768000000 ≤ x ∧ x ≤ 32768000000) ∧
    (s.ptpMeasured d t1 t2).time.tp = s.time.tp ∧ (s.ptpMeasured d t1 t2).time.ta = s.time.ta ∧ (s.ptpMeasured d t1 t2).time.tb = s.time.tb := by
  obtain ⟨hdom, hrate, hcounters⟩ := (s.setDomain d ((s.domain d).synced t1 t2)).drawInt.2.setRate_spec d
    (s.setDomain d ((s.domain d).synced t1 t2)).drawInt.1
  exact ⟨hdom.trans (State.setDomain_domain ..), hrate, hcounters⟩

/-- A Sync message of a domain that calibrates. -/
theorem State.ptpSync_of_calibrating {s : State} {d t1 t2 : Nat} (hstate : (s.domain d).state = 2) : s.ptpSync d t1 t2 =
    if ((s.domain d).synced t1 t2).good = 16 then ((s.ptpMeasured d t1 t2).servoStep d).domainState d 3
    else (s.ptpMeasured d t1 t2).servoStep d := by
  unfold State.ptpSync
  dsimp only
  split
  case h_2 => rfl
  all_goals simp_all

/-- A Sync message of a locked domain. -/
theorem State.ptpSync_of_locked {s : State} {d t1 t2 : Nat} (hstate : (s.domain d).state = 3) : s.ptpSync d t1 t2 =
    if ((s.domain d).synced t1 t2).bad = 4 then
      ((s.ptpMeasured d t1 t2).domainState d 2).setDomain d { ((s.ptpMeasured d t1 t2).domainState d 2).domain d with good := 0, bad := 0 }
    else s.ptpMeasured d t1 t2 := by
  unfold State.ptpSync
  dsimp only
  split
  case h_3 => rfl
  all_goals simp_all

/-- Sixteen small offsets in a row (R53). -/
theorem Domain.synced_good (x : Domain) (t1 t2 : Nat) :
    (x.synced t1 t2).good = 16 ↔ ((t2 : Int) - t1 - x.meanDelay).natAbs < 6553600 ∧ 15 ≤ x.good := by
  unfold Domain.synced
  dsimp only
  split <;> omega

/-- Four large offsets in a row (R53). -/
theorem Domain.synced_bad (x : Domain) (t1 t2 : Nat) :
    (x.synced t1 t2).bad = 4 ↔ 65536000 < ((t2 : Int) - t1 - x.meanDelay).natAbs ∧ 3 ≤ x.bad := by
  unfold Domain.synced
  dsimp only
  split <;> omega

/-- What a Sync message does to a domain that calibrates. -/
theorem State.ptpSync_calibrating {s : State} {d t1 t2 : Nat} (hstate : (s.domain d).state = 2) :
    ((s.ptpSync d t1 t2).domain d).offset = (t2 : Int) - t1 - (s.domain d).meanDelay ∧
    (s.ptpSync d t1 t2).nextRate d = (s.ptpMeasured d t1 t2).nextRate d ∧ (s.ptpSync d t1 t2).time.tp = s.time.tp ∧
    ((s.ptpSync d t1 t2).domain d).state = if ((s.domain d).synced t1 t2).good = 16 then 3 else 2 := by
  obtain ⟨hdom, -, htp, -, -⟩ := s.ptpMeasured_spec d t1 t2
  obtain ⟨hstep, hrate, hstepTp⟩ := (s.ptpMeasured d t1 t2).servoStep_spec d
  rw [State.ptpSync_of_calibrating hstate]
  split
  · obtain ⟨since, hnew⟩ := ((s.ptpMeasured d t1 t2).servoStep d).domainState_domain_same d 3
    rw [State.nextRate, State.domainState_time, hnew, hstep, hdom]
    exact ⟨rfl, hrate, hstepTp.trans htp, rfl⟩
  · rw [hstep, hdom]
    exact ⟨rfl, hrate, hstepTp.trans htp, hstate⟩

/-- What a Sync message does to a locked domain. -/
theorem State.ptpSync_locked {s : State} {d t1 t2 : Nat} (hstate : (s.domain d).state = 3) :
    ((s.ptpSync d t1 t2).domain d).offset = (t2 : Int) - t1 - (s.domain d).meanDelay ∧
    (s.ptpSync d t1 t2).time = (s.ptpMeasured d t1 t2).time ∧
    ((s.ptpSync d t1 t2).domain d).state = if ((s.domain d).synced t1 t2).bad = 4 then 2 else 3 := by
  obtain ⟨hdom, -⟩ := s.ptpMeasured_spec d t1 t2
  rw [State.ptpSync_of_locked hstate]
  split
  · obtain ⟨since, hnew⟩ := (s.ptpMeasured d t1 t2).domainState_domain_same d 2
    rw [State.setDomain_domain, State.setDomain_time, State.domainState_time, hnew, hdom]
    exact ⟨rfl, rfl, rfl⟩
  · rw [hdom]
    exact ⟨rfl, rfl, hstate⟩

/-! ## Messages and losses -/

/-- The domain's test of a message's source. -/
def State.fromGm (s : State) (d source : Nat) : Bool := match (s.domain d).gm with | some g => g.identity == source | none => false

theorem State.fromGm_of_some {s : State} {d source : Nat} {g : Announce} (hgm : (s.domain d).gm = some g) :
    s.fromGm d source = (g.identity == source) := by
  rw [State.fromGm, hgm]

/-- A message of kinds 1 to 3 of the domain's grandmaster. -/
theorem execPtpMessage_of_gm {s : State} {d : Nat} {m : PtpMsg} (hd : ¬ (d > 1 ∨ (s.domain d).state = 0)) (h0 : m.kind ≠ 0) (h4 : m.kind ≠ 4)
    (hgm : s.fromGm d m.source = true) : exec (.ptpMessage d m) s = .next (match m.kind with
      | 1 => s.ptpSync d m.t1 m.t2
      | 2 => s.setDomain d { s.domain d with meanDelay := ((s.domain d).offset + (s.domain d).meanDelay + ((m.t4 : Int) - m.t3)) / 2 }
      | 3 => s.setDomain d { s.domain d with metadata := sliceBytes m.metadata 0 20 }
      | _ => s) := by
  refine congrArg Host.Outcome.next ?_
  refine (if_neg hd).trans ((if_neg h0).trans ((if_neg h4).trans ((if_neg ?_).trans rfl)))
  change ¬ (!s.fromGm d m.source) = true
  simp [hgm]

/-- A message of kinds 1 to 3 of another clock changes nothing. -/
theorem execPtpMessage_of_other {s : State} {d : Nat} {m : PtpMsg} (h0 : m.kind ≠ 0) (h4 : m.kind ≠ 4)
    (hgm : s.fromGm d m.source = false) : exec (.ptpMessage d m) s = .next s := by
  refine congrArg Host.Outcome.next (ite_eq_left_iff.2 fun _ => ?_)
  refine (if_neg h0).trans ((if_neg h4).trans (if_pos ?_))
  change (!s.fromGm d m.source) = true
  simp [hgm]

/-- A domain that listens takes the grandmaster of an Announce message (R50). -/
theorem State.ptpAnnounce_of_listening {s : State} {d : Nat} {a : Announce} (hstate : (s.domain d).state = 1) (hgm : (s.domain d).gm = none) :
    s.ptpAnnounce d a = s.takeGm d a := by
  unfold State.ptpAnnounce
  dsimp only
  rw [hgm]
  exact if_pos hstate

/-- What taking a grandmaster makes of a domain that listens. -/
theorem State.takeGm_spec {s : State} {d : Nat} (a : Announce) (hstate : (s.domain d).state = 1) :
    ((s.takeGm d a).domain d).gm = some a ∧ ((s.takeGm d a).domain d).state = 2 ∧
    ∃ e ∈ (s.takeGm d a).cp.events, e.code = 0xE004 ∧ e.object = d ∧ e.payload = leBytes 1 1 ++ leBytes 1 2 ++ leBytes 8 a.identity := by
  obtain ⟨x, hx, hxstate, hxgm⟩ : ∃ x : Domain, { s.domain d with gm := some a, good := 0, bad := 0 } = x ∧ x.state = 1 ∧ x.gm = some a :=
    ⟨_, rfl, hstate, rfl⟩
  have htake : s.takeGm d a = (s.setDomain d x).domainState d 2 := by rw [← hx]; rfl
  obtain ⟨since, hdom⟩ := (s.setDomain d x).domainState_domain_same d 2
  obtain ⟨e, he, hcode, hobject, hpayload⟩ := State.domainState_event (s := s.setDomain d x) (d := d) (new := 2)
    (by rw [State.setDomain_domain, hxstate]; decide)
  rw [State.setDomain_domain] at hdom hpayload
  rw [htake, hdom]
  refine ⟨hxgm, rfl, e, he, hcode, hobject, ?_⟩
  rw [hpayload, hxstate, hxgm]

/-- What firmware sends last on a port. -/
theorem State.sendCtrl_ctrlOut (s : State) (n : Nat) (c : CtrlOut) : ((s.sendCtrl n c).port n).ctrlOut.getLast? = some c := by
  unfold State.sendCtrl
  rw [State.setPort_port]
  dsimp only
  exact getLast?_drop_append _ _ (by decide)

/-- Settles O47. -/
theorem ptpDomainsFollowTheirGrandmaster : Obligations.PtpDomainsFollowTheirGrandmaster := by
  refine fun s d hd => ⟨fun m hkind hstate hgm => ?announce, fun m g hkind hgm hsource hstate => ?sync, fun m g hkind hstate hgm hsource => ?delay,
    fun m g hkind hstate hgm hsource => ?metadata, fun m hkind hstate => ?management, fun m g hlo hhi hgm hsource => ?other,
    fun hstate => ?lossLocked, fun hstate => ?lossCalibrating, fun hstate => ?holdover, fun g n hstate hgm hport hsends => ?request⟩
  case announce =>
    refine ⟨s.takeGm d m.announce, ?_, State.takeGm_spec m.announce hstate⟩
    rw [← State.ptpAnnounce_of_listening hstate hgm]
    exact congrArg Host.Outcome.next ((if_neg (by omega)).trans (if_pos hkind))
  case sync =>
    refine ⟨s.ptpSync d m.t1 m.t2, ?_, ?_⟩
    · rw [execPtpMessage_of_gm (by omega) (by omega) (by omega) (by rw [State.fromGm_of_some hgm, hsource, beq_self_eq_true]), hkind]
      rfl
    · obtain ⟨-, ⟨r, hr, hbounds⟩, htp, hta, htb⟩ := s.ptpMeasured_spec d m.t1 m.t2
      rcases hstate with hstate | hstate
      · obtain ⟨hoffset, hrate, hsyncTp, hnew⟩ := State.ptpSync_calibrating (t1 := m.t1) (t2 := m.t2) hstate
        exact ⟨hoffset, ⟨r, hrate.trans hr, hbounds⟩, hsyncTp, fun _ => hnew.trans (ite_congr (propext (Domain.synced_good ..)) (fun _ => rfl) (fun _ => rfl)), fun h => absurd (hstate.symm.trans h) (by decide)⟩
      · obtain ⟨hoffset, htime, hnew⟩ := State.ptpSync_locked (t1 := m.t1) (t2 := m.t2) hstate
        rw [htime]
        exact ⟨hoffset, ⟨r, hr, hbounds⟩, htp, fun h => absurd (hstate.symm.trans h) (by decide), fun _ => ⟨hta, htb, hnew.trans (ite_congr (propext (Domain.synced_bad ..)) (fun _ => rfl) (fun _ => rfl))⟩⟩
  case delay =>
    rw [execPtpMessage_of_gm (by omega) (by omega) (by omega) (by rw [State.fromGm_of_some hgm, hsource, beq_self_eq_true]), hkind]
    rfl
  case metadata =>
    rw [execPtpMessage_of_gm (by omega) (by omega) (by omega) (by rw [State.fromGm_of_some hgm, hsource, beq_self_eq_true]), hkind]
    rfl
  case management =>
    exact congrArg Host.Outcome.next ((if_neg (by omega)).trans ((if_neg (by omega)).trans (if_pos hkind)))
  case other =>
    exact execPtpMessage_of_other (by omega) (by omega) (by rw [State.fromGm_of_some hgm]; exact beq_false_of_ne (Ne.symm hsource))
  case lossLocked =>
    refine ⟨s.domainState d 4, ?_, ?_⟩
    · change Host.Outcome.next (ite _ _ _) = _
      rw [if_neg (by omega), hstate]
      rfl
    · obtain ⟨since, hdom⟩ := s.domainState_domain_same d 4
      rw [hdom]
      exact ⟨rfl, rfl, s.domainState_time d 4⟩
  case lossCalibrating =>
    obtain ⟨hlisten, hgm, -⟩ := s.listen_domain d
    refine ⟨s.listen d, ?_, hlisten, hgm⟩
    change Host.Outcome.next (ite _ _ _) = _
    rw [if_neg (by omega), hstate]
    rfl
  case holdover =>
    exact ⟨_, congrArg Host.Outcome.next (if_pos ⟨hd, hstate⟩), s.listen_domain d⟩
  case request =>
    have hrun : exec (.delayReq d) s = .next ((s.setDomain d { s.domain d with delayReqs := (s.domain d).delayReqs + 1 }).sendCtrl n
        (.delayReq d (s.domain d).unicast)) := by
      change Host.Outcome.next (ite _ _ _) = _
      rw [if_neg (by rw [hgm]; simpa using ⟨hd, hstate⟩), hport]
      exact congrArg Host.Outcome.next (if_pos hsends)
    exact ⟨_, hrun, congrArg Domain.delayReqs (State.setDomain_domain ..), State.sendCtrl_ctrlOut _ n _⟩

end Sys2Proof.Machine
end

section
/-! PROOF. Frames, ports and legs (O48). -/

namespace Sys2Proof.Machine

open Sys2Proof.Safety Sys2Proof.Laws

/-! ## Legs of a flow -/

@[simp] theorem RxFlow.leg_setLeg (f : RxFlow) (l : Nat) (x : LegState) : (f.setLeg l x).leg l = x := by
  unfold RxFlow.setLeg RxFlow.leg
  by_cases hl : l = 0
  · rw [if_pos hl, if_pos hl]
  · rw [if_neg hl, if_neg hl]

theorem RxFlow.setLeg_cfg (f : RxFlow) (l : Nat) (x : LegState) : (f.setLeg l x).cfg = f.cfg := by
  unfold RxFlow.setLeg
  split <;> rfl

@[simp] theorem State.post_flow (s : State) (code object origin : Nat) (payload : List Byte) (kind i : Nat) :
    (s.post code object origin payload).flow kind i = s.flow kind i := rfl

/-- A leg that a packet reaches is active, else the flow keeps its settings and the leg its counts. -/
theorem State.legActive_flow (s : State) (kind i l : Nat) : ((s.legActive kind i l).flow kind i).cfg = (s.flow kind i).cfg ∧
    ((s.legActive kind i l).flow kind i).leg l = { (s.flow kind i).leg l with active := true } := by
  unfold State.legActive
  dsimp only
  split
  · next hactive => exact ⟨rfl, by rw [← hactive]⟩
  · have hset : ∀ t : State, t.flow kind i = { (s.flow kind i).setLeg l { (s.flow kind i).leg l with active := true } with lost := false } →
        (t.flow kind i).cfg = (s.flow kind i).cfg ∧ (t.flow kind i).leg l = { (s.flow kind i).leg l with active := true } := fun t ht => by
      rw [ht]
      exact ⟨RxFlow.setLeg_cfg .., RxFlow.leg_setLeg ..⟩
    split
    · exact hset _ (by rw [State.post_flow, State.post_flow, State.setFlow_flow])
    · exact hset _ (by rw [State.post_flow, State.setFlow_flow])

@[simp] theorem State.legCount_leg (s : State) (kind i l : Nat) (g : LegState → LegState) :
    ((s.legCount kind i l g).flow kind i).leg l = g ((s.flow kind i).leg l) := by
  rw [State.legCount, State.setFlow_flow, RxFlow.leg_setLeg]

/-- A packet with a bad RTP header is counted on its leg, and the leg is active (R101, R120). -/
theorem State.legPacket_bad {s : State} {kind i l : Nat} {body : List Byte} {stamp : Nat} {c : FlowSetP} (hcfg : (s.flow kind i).cfg = some c)
    (hbad : (parseRtp body).filter (rtpOk c) = none) : ((s.legPacket kind i l body stamp false).flow kind i).leg l =
      { (s.flow kind i).leg l with
        active := true
        packets := add64 ((s.flow kind i).leg l).packets 1
        bytes := add64 ((s.flow kind i).leg l).bytes body.length
        rtpBad := add64 ((s.flow kind i).leg l).rtpBad 1 } := by
  obtain ⟨hkeep, hleg⟩ := s.legActive_flow kind i l
  have hrun : s.legPacket kind i l body stamp false =
      ((s.legActive kind i l).legCount kind i l (fun l => { l with packets := add64 l.packets 1, bytes := add64 l.bytes body.length })).legCount
        kind i l (fun l => { l with rtpBad := add64 l.rtpBad 1 }) := by
    unfold State.legPacket
    dsimp only
    rw [if_neg Bool.false_ne_true, hkeep, hcfg]
    dsimp only
    rw [hbad]
  rw [hrun, State.legCount_leg, State.legCount_leg, hleg]

/-- A leg that falls silent is inactive and LEG_INACTIVE names it (R127). -/
theorem State.legInactive_spec {s : State} {kind i l : Nat} (hactive : ((s.flow kind i).leg l).active = true) :
    (((s.legInactive kind i l).flow kind i).leg l).active = false ∧
    ∃ e ∈ (s.legInactive kind i l).cp.events, e.code = 0xE013 ∧ e.object = flowId kind i ∧ e.payload = leBytes 1 l := by
  unfold State.legInactive
  dsimp only
  rw [if_neg (by rw [hactive]; decide)]
  split
  · refine ⟨?_, _, List.mem_append_left _ (List.mem_append_right _ (List.mem_singleton_self _)), rfl, rfl, rfl⟩
    rw [State.post_flow, State.post_flow, State.setFlow_flow]
    exact congrArg LegState.active (RxFlow.leg_setLeg ..)
  · refine ⟨?_, _, List.mem_append_right _ (List.mem_singleton_self _), rfl, rfl, rfl⟩
    rw [State.post_flow, State.setFlow_flow]
    exact congrArg LegState.active (RxFlow.leg_setLeg ..)

/-- With the other leg silent too the flow is lost. -/
theorem RxFlow.gone_of_silent {f : RxFlow} {l : Nat} (hl : l ≤ 1) (hother : (f.leg (1 - l)).active = false) (x : LegState) :
    (!(f.setLeg l { x with active := false }).a.active && !(f.setLeg l { x with active := false }).b.active) = true := by
  obtain rfl | rfl : l = 0 ∨ l = 1 := by omega
  · change (!false && !f.b.active) = true
    rw [show f.b.active = false from hother]
    rfl
  · change (!f.a.active && !false) = true
    rw [show f.a.active = false from hother]
    rfl

/-- The last leg that falls silent loses its flow (R127). -/
theorem State.legInactive_lost {s : State} {kind i l : Nat} (hl : l ≤ 1) (hactive : ((s.flow kind i).leg l).active = true)
    (hother : ((s.flow kind i).leg (1 - l)).active = false) (hlost : (s.flow kind i).lost = false) :
    ((s.legInactive kind i l).flow kind i).lost = true ∧ ∃ e ∈ (s.legInactive kind i l).cp.events, e.code = 0xE015 ∧ e.object = flowId kind i := by
  have hgone := RxFlow.gone_of_silent hl hother ((s.flow kind i).leg l)
  have hkept : ((s.flow kind i).setLeg l { (s.flow kind i).leg l with active := false }).lost = false := by
    rw [← hlost]
    unfold RxFlow.setLeg
    split <;> rfl
  unfold State.legInactive
  dsimp only
  rw [if_neg (by rw [hactive]; decide), hgone, hkept, if_pos (show (true && !false) = true from rfl)]
  refine ⟨?_, _, List.mem_append_right _ (List.mem_singleton_self _), rfl, rfl⟩
  rw [State.post_flow, State.post_flow, State.setFlow_flow]
  rfl

/-! ## Frames of a port -/

/-- A unit in yo-yo mode notes the flow that a packet matched. -/
def State.watched (s : State) (port id : Nat) : State :=
  s.setYoyo port { s.yoyo port with matched := if (s.yoyo port).matched.contains id then (s.yoyo port).matched else (s.yoyo port).matched ++ [id] }

/-- An IPv4 frame with a UDP datagram goes to the leg that it matches, or is counted. -/
theorem execFrameReceive_of_udp {s : State} {port : Nat} {bytes : List Byte} {m : MacFrame} {p : IpPacket} {dst : Nat} {body : List Byte} {r : State}
    (hport : s.portReceives port = true) (hr : r = (s.portCount port 11 1).portCount port 12 bytes.length) (hmac : r.macCheck port bytes = .inr m)
    (htype : m.etherType = 0x0800) (hip : ipv4 m.payload = some p) (hproto : p.proto = 17) (hudp : udp p = some (dst, body))
    (h319 : dst ≠ 319) (h320 : dst ≠ 320) :
    exec (.frameReceive port bytes false) s = .next (match r.findLeg port m.vid p dst with
      | none => r.portCount port 8 1
      | some (kind, i, leg, _) =>
        (if (s.yoyo port).on then r.watched port (64 * kind + i) else r).legPacket kind i leg body (s.stampOn port) (s.yoyo port).on) := by
  subst hr
  refine congrArg Host.Outcome.next ?_
  dsimp only
  rw [if_neg (by rw [hport]; decide), if_neg Bool.false_ne_true, hmac]
  dsimp only
  rw [if_neg (by omega), if_pos htype, hip]
  dsimp only
  rw [if_neg (by omega), hudp]
  dsimp only
  rw [if_neg (by omega)]
  rfl

/-! ## The slots of a flow -/

theorem setAt_length {α : Type} (l : List α) (i : Nat) (x : α) : (setAt l i x).length = l.length := by
  induction l generalizing i with
  | nil => rfl
  | cons y l ih =>
    cases i with
    | zero => rfl
    | succ i => exact congrArg Nat.succ (ih i)

theorem setAt_getD {α : Type} {l : List α} {i : Nat} (hi : i < l.length) (x d : α) (j : Nat) :
    (setAt l i x).getD j d = if j = i then x else l.getD j d := by
  induction l generalizing i j with
  | nil => exact absurd hi (Nat.not_lt_zero i)
  | cons y l ih =>
    cases i with
    | zero => cases j <;> rfl
    | succ i =>
      cases j with
      | zero => rfl
      | succ j =>
        have h := ih (Nat.lt_of_succ_lt_succ hi) j
        simpa [setAt] using h

/-- The slots of a flow after one of them is written. -/
theorem State.putSlot_slots (s : State) (i j : Nat) (d : Slot) : ((s.putSlot i j d).flow 0 i).slots = setAt (s.flow 0 i).slots j d ∧
    (s.putSlot i j d).tp = s.tp := by
  refine ⟨?_, congrArg (fun t : TimeUnit => visible t.tp) ((State.putSlot_within (P := 2166374400) rfl within_rfl).same .time rfl)⟩
  unfold State.putSlot
  dsimp only
  split
  · rw [State.putMem_store_flow, State.setFlow_flow]
  · rw [State.setFlow_flow]

/-- A slot as it stands once frames that are due have been closed (R114). -/
def Slot.closed (d : Slot) (c : FlowSetP) (now : Nat) : Slot :=
  if slotDue c d now then { d with state := if d.missing = 0 then 2 else 3, closeTime := now } else d

/-- FRAME_CLOSE looks at one slot. -/
def State.closeDue (c : FlowSetP) (flow : Nat) (s : State) (j : Nat) : State :=
  if slotDue c (s.slot flow j) s.tp then s.closeSlot flow j false else s

/-- A slot that is due is open. -/
theorem slotDue_open {c : FlowSetP} {d : Slot} {now : Nat} (h : slotDue c d now = true) : d.state = 1 := by
  rw [slotDue, Bool.and_eq_true] at h
  exact eq_of_beq h.1

/-- Closing a due slot changes that slot alone. -/
theorem State.closeDue_spec {c : FlowSetP} {flow : Nat} {s : State} {j : Nat} (hj : j < (s.flow 0 flow).slots.length) :
    (s.closeDue c flow j).tp = s.tp ∧ ((s.closeDue c flow j).flow 0 flow).slots.length = (s.flow 0 flow).slots.length ∧
    ∀ k, (s.closeDue c flow j).slot flow k = if k = j then (s.slot flow j).closed c s.tp else s.slot flow k := by
  unfold State.closeDue Slot.closed
  by_cases hdue : slotDue c (s.slot flow j) s.tp = true
  · simp only [if_pos hdue]
    obtain ⟨u, f, hu, hslots, htp⟩ : ∃ u : State, ∃ f : RxFlow, s.closeSlot flow j false = (u.setFlow 0 flow f).putSlot flow j
        { s.slot flow j with state := if (s.slot flow j).missing = 0 then 2 else 3, closeTime := s.tp } ∧
        f.slots = (s.flow 0 flow).slots ∧ u.tp = s.tp := by
      unfold State.closeSlot
      dsimp only
      rw [if_neg (by rw [slotDue_open hdue]; decide)]
      by_cases hmissing : (s.slot flow j).missing = 0
      · rw [hmissing]
        exact ⟨s, _, rfl, rfl, rfl⟩
      · rw [if_neg hmissing, show ((s.slot flow j).missing == 0) = false from beq_false_of_ne hmissing]
        exact ⟨s, _, rfl, rfl, rfl⟩
    obtain ⟨hput, hputTp⟩ := (u.setFlow 0 flow f).putSlot_slots flow j
      { s.slot flow j with state := if (s.slot flow j).missing = 0 then 2 else 3, closeTime := s.tp }
    rw [State.setFlow_flow, hslots] at hput
    rw [hu, hput, setAt_length]
    refine ⟨hputTp.trans htp, rfl, fun k => ?_⟩
    rw [State.slot, hput, setAt_getD hj]
    rfl
  · simp only [if_neg hdue]
    refine ⟨trivial, trivial, fun k => ?_⟩
    split
    · next hk => rw [hk]
    · rfl

/-- FRAME_CLOSE closes every slot that is due and no other (R114). -/
theorem State.foldl_closeDue {c : FlowSetP} {flow : Nat} {s : State} {n : Nat} (hn : n ≤ (s.flow 0 flow).slots.length) :
    ((List.range n).foldl (State.closeDue c flow) s).tp = s.tp ∧
    (((List.range n).foldl (State.closeDue c flow) s).flow 0 flow).slots.length = (s.flow 0 flow).slots.length ∧
    ∀ k, ((List.range n).foldl (State.closeDue c flow) s).slot flow k = if k < n then (s.slot flow k).closed c s.tp else s.slot flow k := by
  induction n with
  | zero => exact ⟨rfl, rfl, fun k => (if_neg (Nat.not_lt_zero k)).symm⟩
  | succ n ih =>
    obtain ⟨htp, hlength, hslot⟩ := ih (Nat.le_of_succ_le hn)
    rw [List.range_succ, List.foldl_append, List.foldl_cons, List.foldl_nil]
    obtain ⟨htp', hlength', hslot'⟩ := State.closeDue_spec (c := c) (s := (List.range n).foldl (State.closeDue c flow) s) (flow := flow) (j := n)
      (by omega)
    refine ⟨htp'.trans htp, hlength'.trans hlength, fun k => ?_⟩
    rw [hslot', htp, hslot, hslot]
    by_cases hk : k = n
    · subst hk
      simp
    · rw [if_neg hk]
      exact ite_congr (propext (by omega)) (fun _ => rfl) (fun _ => rfl)

/-! ## Firmware's frames and the port's end -/

@[simp] theorem State.fwSend_of_sends {s : State} {n : Nat} (h : s.portSends n = true) (c : CtrlOut) : s.fwSend n c = s.sendCtrl n c := if_pos h

theorem State.sendCtrl_ctrl (s : State) (n : Nat) (c : CtrlOut) : ((s.sendCtrl n c).port n).ctrl = (s.port n).ctrl := by
  rw [State.sendCtrl, State.setPort_port]

/-- A port that goes down keeps its counters and PORT_DOWN names it (R95). -/
theorem State.portDrop_spec {s : State} {n : Nat} (hup : (s.port n).up = true) (cause : Nat) :
    ((s.portDrop n cause).port n).up = false ∧ ((s.portDrop n cause).port n).counters = (s.port n).counters ∧
    ∃ e ∈ (s.portDrop n cause).cp.events, e.code = 0xE011 ∧ e.object = n ∧ e.payload = leBytes 1 cause := by
  unfold State.portDrop
  dsimp only
  rw [if_pos hup, State.post_port, State.setPort_port]
  exact ⟨rfl, rfl, _, List.mem_append_right _ (List.mem_singleton_self _), rfl, rfl, rfl⟩

/-- Settles O48. -/
theorem framesPortsAndLegsWork : Obligations.FramesPortsAndLegsWork := by
  intro s
  refine ⟨fun port bytes r hport hr => ⟨?full, fun k hmac => ?discard, fun m hmac htype => ?arp,
      fun m p dst body hmac htype hip hproto hudp h319 h320 => ⟨fun hleg => ?dead, fun kind i leg l c hfind hleg hwatch hcfg hbad => ?bad⟩⟩,
    fun port bs rest a hctrl hready harp howns hsends => ?answer, fun kind index leg l hkind hfind hmulti hready hsends => ?membership,
    fun flow c hcfg => ?close, fun port hdown hexists hlock hwatch => ?up, fun port hexists hup => ?down, fun port fault hup hfault => ?fault,
    fun kind index leg hkind hindex hleg henabled hactive => ?lost⟩
  case full =>
    subst hr
    exact congrArg Host.Outcome.next (if_neg (by rw [hport]; decide))
  case discard =>
    subst hr
    refine congrArg Host.Outcome.next ?_
    dsimp only
    rw [if_neg (by rw [hport]; decide), if_neg Bool.false_ne_true, hmac]
  case arp =>
    subst hr
    refine congrArg Host.Outcome.next ?_
    dsimp only
    rw [if_neg (by rw [hport]; decide), if_neg Bool.false_ne_true, hmac]
    exact if_pos htype
  case dead =>
    rw [execFrameReceive_of_udp hport hr hmac htype hip hproto hudp h319 h320, hleg]
  case bad =>
    have hflow : (r.flow kind i) = s.flow kind i := by rw [hr]; rfl
    refine ⟨r.legPacket kind i leg body (s.stampOn port) false, ?_, ?_⟩
    · rw [execFrameReceive_of_udp hport hr hmac htype hip hproto hudp h319 h320, hfind, hwatch]
      rfl
    · rw [State.legPacket_bad (by rw [hflow]; exact hcfg) hbad, hflow]
      exact ⟨rfl, rfl, rfl, rfl⟩
  case answer =>
    have hrun : exec (.controlFrameHandle port) s = .next ((s.setPort port { s.port port with ctrl := rest }).sendCtrl port (.arpReply a)) := by
      refine congrArg Host.Outcome.next ?_
      dsimp only
      rw [hctrl]
      dsimp only
      rw [if_pos hready, State.fwFrame]
      dsimp only
      rw [harp]
      dsimp only
      rw [State.setPort_port, show Port.owns { s.port port with ctrl := rest } 4 a = true from howns, if_pos rfl, State.fwSend_of_sends]
      rw [State.portSends, State.setPort_port]
      exact hsends
    refine ⟨_, hrun, ?_, State.sendCtrl_ctrlOut ..⟩
    rw [State.sendCtrl_ctrl, State.setPort_port]
  case membership =>
    refine ⟨s.sendCtrl l.port (reportOf l (s.flow kind index).enabled), ?_, State.sendCtrl_ctrlOut ..⟩
    refine congrArg Host.Outcome.next ?_
    rw [hfind]
    dsimp only
    rw [if_pos ⟨hkind, hmulti, hready⟩, State.fwSend_of_sends hsends]
  case close =>
    have hrun : exec (.frameClose flow) s = .next ((List.range (s.flow 0 flow).slots.length).foldl (State.closeDue c flow) s) := by
      refine congrArg Host.Outcome.next ?_
      rw [hcfg]
      rfl
    obtain ⟨-, -, hslot⟩ := State.foldl_closeDue (c := c) (s := s) (flow := flow) (Nat.le_refl _)
    refine ⟨_, hrun, fun j hj => ⟨fun hdue => ?_, fun hdue => ?_⟩⟩
    · rw [hslot, if_pos hj, Slot.closed, if_pos hdue]
      exact ⟨rfl, rfl⟩
    · rw [hslot, if_pos hj, Slot.closed, if_neg (by rw [hdue]; decide)]
  case up =>
    refine congrArg Host.Outcome.next (if_neg ?_)
    simp [hdown, hexists, hlock, hwatch]
  case down =>
    exact ⟨s.portDrop port 1, congrArg Host.Outcome.next (if_pos hexists), State.portDrop_spec hup 1⟩
  case fault => exact congrArg Host.Outcome.next (if_pos ⟨hup, hfault⟩)
  case lost =>
    obtain ⟨hinactive, hevent⟩ := State.legInactive_spec hactive
    exact ⟨s.legInactive kind index leg, congrArg Host.Outcome.next (if_pos ⟨hkind, hindex, henabled⟩), hinactive, hevent,
      fun hother hlost => State.legInactive_lost hleg hactive hother hlost⟩

end Sys2Proof.Machine
end

section
/-! PROOF. Yo-yo windows and transmission (O49). -/

namespace Sys2Proof.Machine

open Sys2Proof.Safety Sys2Proof.Laws

/-! ## The windows of a unit -/

@[simp] theorem State.setYoyo_yoyo (s : State) (u : Nat) (y : YoyoUnit) : (s.setYoyo u y).yoyo u = y := spGet_spSet_same

@[simp] theorem State.post_yoyo (s : State) (code object origin : Nat) (payload : List Byte) (u : Nat) :
    (s.post code object origin payload).yoyo u = s.yoyo u := rfl

theorem State.unitOff_yoyo (s : State) (u v : Nat) : (s.unitOff u).yoyo v = s.yoyo v := by
  have hyoyo : (s.unitOff u).power.yoyo = s.power.yoyo := (State.unitOff_within (P := 67108864) rfl within_rfl).same .yoyo rfl
  rw [State.yoyo, hyoyo, State.yoyo]

theorem State.postWatched_yoyo (s : State) (y : YoyoUnit) (v : Nat) : (s.postWatched y).yoyo v = s.yoyo v := by
  have hyoyo : (s.postWatched y).power.yoyo = s.power.yoyo := (within_foldl (P := 16384) (fun _ _ h => State.post_within rfl h) within_rfl).same .yoyo rfl
  rw [State.yoyo, hyoyo, State.yoyo]

/-- A unit whose condition holds, with the actions of the window and of the stuck watchdog. -/
theorem execYoyoCompare_of_holds {s : State} {u : Nat} (hon : (s.yoyo u).on = true) (hwindow : (s.yoyo u).window = true)
    (hacted : (s.yoyo u).acted = false) (hstuck : (s.yoyo u).stuck = false) (hholds : s.yoyoHolds u = true) {z : YoyoUnit}
    (hz : z = { s.yoyo u with acted := true, repeats := (s.yoyo u).repeats + 1, stuck := decide (1000 ≤ (s.yoyo u).repeats + 1) }) {t : State}
    (ht : t = if (s.yoyo u).cfg.action = 0 then (s.setYoyo u { z with on := false, window := false, next := none }).postWatched (s.yoyo u)
      else if (s.yoyo u).cfg.compare = 0 then (s.setYoyo u z).post 0xE010 u 0 (leBytes 1 0) else (s.setYoyo u z).postWatched (s.yoyo u)) :
    exec (.yoyoCompare u) s = .next (if 1000 ≤ (s.yoyo u).repeats + 1 then t.post 0xE0B1 3 2 [] else t) := by
  subst ht hz
  refine congrArg Host.Outcome.next ?_
  refine (if_neg (by rw [hon, hwindow, hacted, hstuck, hholds]; decide)).trans ?_
  simp only [decide_eq_true_eq]

/-- A unit on a port holds where its lanes have locked. -/
theorem State.yoyoHolds_of_lock {s : State} {u : Nat} (hu : u < 32) (hcompare : (s.yoyo u).cfg.compare = 0) (hlock : s.portLock u = true) :
    s.yoyoHolds u = true := by
  rw [State.yoyoHolds]
  rw [if_pos hu, if_pos hcompare, hlock]

/-! ## What a transmit flow sends -/

/-- What a port has sent last. -/
theorem State.sendFrame_sent (s : State) (n : Nat) (bs : List Byte) : ((s.sendFrame n bs).port n).sent.getLast? = some bs := by
  unfold State.sendFrame
  rw [State.setPort_port]
  dsimp only
  exact getLast?_drop_append _ _ (by decide)

/-- A packet of a flow with one leg leaves on it. -/
theorem State.sendMedia_of_leg {s : State} {kind i : Nat} {c : TxSetP} {l : Leg} (rtp : List Byte) (hlegs : txLegs c = [l])
    (hsends : s.portSends l.port = true) : s.sendMedia kind i c rtp =
      (s.setTx kind i { s.tx kind i with sent := add64 (s.tx kind i).sent 1 }).sendFrame l.port (s.mediaFrame (64 * (kind - 2) + i) l rtp) := by
  rw [State.sendMedia, hlegs]
  exact if_pos hsends

/-- What a packet of a flow depends on is what the transmit flow and the ports hold. -/
theorem State.portSends_congr {s t : State} (hports : t.ports = s.ports) (hsys : t.sys = s.sys) (n : Nat) : t.portSends n = s.portSends n := by
  rw [State.portSends, State.portSends, State.port, State.port, hports, hsys]

theorem State.mediaFrame_congr {s t : State} (hports : t.ports = s.ports) (id : Nat) (l : Leg) (rtp : List Byte) :
    t.mediaFrame id l rtp = s.mediaFrame id l rtp := by
  rw [State.mediaFrame, State.mediaFrame, State.port, State.port, hports]

theorem State.tx_congr {s t : State} (htxs : t.txs = s.txs) (kind i : Nat) : t.tx kind i = s.tx kind i := by
  rw [State.tx, State.tx, htxs]

/-- Reading a payload of video leaves the ports and the transmit flows. -/
theorem State.videoPayload_rest (s : State) (o : OutputSetP) (slot row g n seq : Nat) : (s.videoPayload o slot row g n seq).2.ports = s.ports ∧
    (s.videoPayload o slot row g n seq).2.sys = s.sys ∧ (s.videoPayload o slot row g n seq).2.txs = s.txs := by
  have hwithin : Within 16793600 s (s.videoPayload o slot row g n seq).2 := State.videoPayload_within rfl within_rfl
  exact ⟨hwithin.same .ports rfl, hwithin.same .sys rfl, hwithin.same .txs rfl⟩

/-- Reading a payload of audio leaves the ports and the transmit flows. -/
theorem State.txPayload_rest (s : State) (i channels frames t0 : Nat) : (s.txPayload i channels frames t0).2.ports = s.ports ∧
    (s.txPayload i channels frames t0).2.sys = s.sys ∧ (s.txPayload i channels frames t0).2.txs = s.txs := by
  have hwithin : Within 274894700544 s (s.txPayload i channels frames t0).2 := State.txPayload_within rfl within_rfl
  exact ⟨hwithin.same .ports rfl, hwithin.same .sys rfl, hwithin.same .txs rfl⟩

/-- A packet of a flow with one leg, from a state in which its payload has been read: the flow goes on as `g` says and the leg has the packet. -/
theorem State.sendMedia_spec {s u : State} {kind i : Nat} {c : TxSetP} {l : Leg} (rtp : List Byte) (hlegs : txLegs c = [l])
    (hsends : s.portSends l.port = true) (hrest : u.ports = s.ports ∧ u.sys = s.sys ∧ u.txs = s.txs) (g : TxFlow → TxFlow) {t : State}
    (ht : t = (u.sendMedia kind i c rtp).setTx kind i (g ((u.sendMedia kind i c rtp).tx kind i))) :
    t.tx kind i = g { s.tx kind i with sent := add64 (s.tx kind i).sent 1 } ∧
    (t.port l.port).sent.getLast? = some (s.mediaFrame (64 * (kind - 2) + i) l rtp) := by
  obtain ⟨hports, hsys, htxs⟩ := hrest
  have hrun := State.sendMedia_of_leg (s := u) (kind := kind) (i := i) rtp hlegs ((State.portSends_congr hports hsys _).trans hsends)
  rw [State.mediaFrame_congr hports, State.tx_congr htxs] at hrun
  rw [ht, State.setTx_tx, hrun]
  refine ⟨?_, State.sendFrame_sent ..⟩
  congr 1
  exact (State.tx_congr ((State.sendFrame_within (P := 1073741824) rfl within_rfl).same .txs rfl) kind i).trans (State.setTx_tx ..)

/-- A transmit flow of video that runs takes its packet. -/
theorem execTxPacketLaunch_of_runs {s : State} {flow : Nat} {c : TxSetP} {o : OutputSetP} (hflow : flow ≤ 63) (hruns : s.txRuns (s.tx 3 flow) = true)
    (hcfg : (s.tx 3 flow).cfg = some c) (ho : (s.output flow).cfg = some o) (hstarted : (s.tx 3 flow).started = true) :
    exec (.txPacketLaunch flow) s = .next (s.txVideo flow c o) := by
  refine congrArg Host.Outcome.next ((if_neg ?_).trans ?_)
  · simp [hflow, hruns]
  · rw [hcfg, ho]
    dsimp only
    rw [if_pos hstarted]

/-- A transmit flow of audio that runs takes its packet. -/
theorem execAudioTxLaunch_of_runs {s : State} {flow : Nat} {c : TxSetP} (hflow : flow ≤ 63) (hruns : s.txRuns (s.tx 4 flow) = true)
    (hcfg : (s.tx 4 flow).cfg = some c) (hstarted : (s.tx 4 flow).started = true) :
    exec (.audioTxLaunch flow) s = .next (s.txAudioPacket flow c) := by
  refine congrArg Host.Outcome.next ((if_neg ?_).trans ?_)
  · simp [hflow, hruns]
  · rw [hcfg]
    dsimp only
    rw [if_pos hstarted]

/-- Within a frame no new one begins. -/
theorem State.txBegin_of_packet {s : State} {i : Nat} (h : (s.tx 3 i).packet ≠ 0) : s.txBegin i = s := if_pos h

/-- The next packet of a flow does not depend on what it has sent. -/
theorem TxFlow.next_sent (f : TxFlow) (sent n : Nat) : TxFlow.next { f with sent := sent } n = { f.next n with sent := sent } := by
  unfold TxFlow.next
  dsimp only
  split <;> rfl

/-- A packet of video whose successor is due already is late (R133). -/
theorem State.txVideo_late {s : State} {i : Nat} {c : TxSetP} {o : OutputSetP} {n : Nat} (hpacket : (s.tx 3 i).packet ≠ 0)
    (hn : n = framePackets (frameFormat o) (udpLimit c))
    (hdue : launchTime o.rate (nsU c.tro) (s.tx 3 i).frame (s.tx 3 i).packet n ≤ s.tp + halfTick)
    (hlate : launchTime o.rate (nsU c.tro) (s.tx 3 i).frame ((s.tx 3 i).packet + 1) n + halfTick < s.tp) :
    s.txVideo i c o = s.setTx 3 i { (s.tx 3 i).next n with late := add64 (s.tx 3 i).late 1 } := by
  subst hn
  rw [State.txVideo]
  dsimp only
  rw [if_neg (Nat.not_lt.2 hdue), State.txBegin_of_packet hpacket, if_neg (not_not_intro rfl), if_pos hlate]

/-- A packet of video that is due leaves (R132, R133). -/
theorem State.txVideo_sent {s : State} {i : Nat} {c : TxSetP} {o : OutputSetP} {l : Leg} {n : Nat} (hpacket : (s.tx 3 i).packet ≠ 0)
    (hn : n = framePackets (frameFormat o) (udpLimit c))
    (hdue : launchTime o.rate (nsU c.tro) (s.tx 3 i).frame (s.tx 3 i).packet n ≤ s.tp + halfTick)
    (hnext : s.tp ≤ launchTime o.rate (nsU c.tro) (s.tx 3 i).frame ((s.tx 3 i).packet + 1) n + halfTick)
    (hlegs : txLegs c = [l]) (hsends : s.portSends l.port = true) :
    ∃ t body, (Host.Outcome.next (s.txVideo i c o) : Host.Outcome State Fault Refusal) = .next t ∧
      t.tx 3 i = { (s.tx 3 i).next n with sent := add64 (s.tx 3 i).sent 1, lastRtp := rtpClock o.rate (s.tx 3 i).frame % 2 ^ 32 } ∧
      (t.port l.port).sent.getLast? = some (s.mediaFrame (64 + i) l (rtpPacket (64 + i)
        (((s.tx 3 i).seq + Config.txField 5 (64 + i)) % 2 ^ 32 % 65536) (rtpClock o.rate (s.tx 3 i).frame % 2 ^ 32)
        ((s.tx 3 i).packet + 1 == n) body)) := by
  subst hn
  rw [State.txVideo]
  dsimp only
  rw [if_neg (Nat.not_lt.2 hdue), State.txBegin_of_packet hpacket, if_neg (not_not_intro rfl), if_neg (Nat.not_lt.2 hnext)]
  obtain ⟨htx, hsent⟩ := State.sendMedia_spec (s := s) _ hlegs hsends (s.videoPayload_rest ..) (fun f => { f.next _ with lastRtp := rtpClock o.rate (s.tx 3 i).frame % 2 ^ 32 }) rfl
  exact ⟨_, _, rfl, htx.trans (by rw [TxFlow.next_sent]), hsent⟩

/-- A packet of audio whose successor is due already is late (R133). -/
theorem State.txAudioPacket_late {s : State} {i : Nat} {c : TxSetP} {n dur : Nat} (hshape : audioPacket (audioShape s c).2 = (n, dur))
    (hdue : countTime 48000 (s.tx 4 i).frame + dur ≤ s.tp + halfTick) (hlate : countTime 48000 (s.tx 4 i).frame + dur + dur < s.tp) :
    s.txAudioPacket i c = s.setTx 4 i { s.tx 4 i with
      frame := (s.tx 4 i).frame + n, seq := ((s.tx 4 i).seq + 1) % 65536, late := add64 (s.tx 4 i).late 1 } := by
  rw [State.txAudioPacket]
  dsimp only
  rw [hshape]
  dsimp only
  rw [if_neg (Nat.not_lt.2 hdue), if_pos hlate]

/-- A packet of audio that is due leaves (R135). -/
theorem State.txAudioPacket_sent {s : State} {i : Nat} {c : TxSetP} {l : Leg} {n dur : Nat} (hshape : audioPacket (audioShape s c).2 = (n, dur))
    (hdue : countTime 48000 (s.tx 4 i).frame + dur ≤ s.tp + halfTick) (hnext : s.tp ≤ countTime 48000 (s.tx 4 i).frame + dur + dur)
    (hlegs : txLegs c = [l]) (hsends : s.portSends l.port = true) :
    ∃ t body, (Host.Outcome.next (s.txAudioPacket i c) : Host.Outcome State Fault Refusal) = .next t ∧
      t.tx 4 i = { s.tx 4 i with
        frame := (s.tx 4 i).frame + n, seq := ((s.tx 4 i).seq + 1) % 65536, sent := add64 (s.tx 4 i).sent 1,
        lastRtp := (s.tx 4 i).frame % 2 ^ 32 } ∧
      (t.port l.port).sent.getLast? = some (s.mediaFrame (128 + i) l (rtpPacket (128 + i)
        (((s.tx 4 i).seq + Config.txField 5 (128 + i)) % 65536) ((s.tx 4 i).frame % 2 ^ 32) false body)) := by
  rw [State.txAudioPacket]
  dsimp only
  rw [hshape]
  dsimp only
  rw [if_neg (Nat.not_lt.2 hdue), if_neg (Nat.not_lt.2 hnext)]
  obtain ⟨htx, hsent⟩ := State.sendMedia_spec (s := s) _ hlegs hsends (s.txPayload_rest ..) (fun f => { f with
      frame := f.frame + n, seq := (f.seq + 1) % 65536, lastRtp := f.frame % 2 ^ 32 }) rfl
  exact ⟨_, _, rfl, htx, hsent⟩

/-- Settles O49. -/
theorem watchesAndTransmissionWork : Obligations.WatchesAndTransmissionWork := by
  intro s
  refine ⟨fun unit hon hwindow => ?opens, fun unit hon hwindow => ?closes,
    fun unit hunit hon hwindow hacted hstuck hcompare haction hlock => ?acts,
    fun unit hunit hon hwindow hacted hstuck hcompare haction hlock => ?ends,
    fun port k i leg l hport hon hwindow hmac hlock hwind hheld hlegs => ?membership,
    fun flow c o l n hflow hruns hcfg ho hstarted hpacket hn => ⟨fun hdue hnext hlegs hsends => ?video, fun hdue hlate => ?videoLate⟩,
    fun flow c l n dur hflow hruns hcfg hstarted hshape => ⟨fun hdue hnext hlegs hsends => ?audio, fun hdue hlate => ?audioLate⟩⟩
  case opens =>
    exact congrArg Host.Outcome.next ((if_neg (by rw [hon, hwindow]; decide)).trans (if_pos rfl))
  case closes =>
    refine ⟨_, congrArg Host.Outcome.next ((if_neg (by rw [hon, hwindow]; decide)).trans (if_neg Bool.false_ne_true)), ?_⟩
    rw [State.unitOff_yoyo, State.setYoyo_yoyo]
  case acts =>
    refine ⟨_, execYoyoCompare_of_holds hon hwindow hacted hstuck (State.yoyoHolds_of_lock hunit hcompare hlock) rfl rfl, ?_⟩
    rw [if_neg haction, if_pos hcompare]
    split
    · next hlimit =>
      exact ⟨by simp, ⟨_, List.mem_append_left _ (List.mem_append_right _ (List.mem_singleton_self _)), rfl, rfl⟩,
        fun _ => ⟨_, List.mem_append_right _ (List.mem_singleton_self _), rfl, rfl⟩⟩
    · next hlimit =>
      exact ⟨by simp, ⟨_, List.mem_append_right _ (List.mem_singleton_self _), rfl, rfl⟩, fun h => absurd (Nat.succ_le_succ h) hlimit⟩
  case ends =>
    refine ⟨_, execYoyoCompare_of_holds hon hwindow hacted hstuck (State.yoyoHolds_of_lock hunit hcompare hlock) rfl rfl, ?_⟩
    rw [if_pos haction]
    split
    · rw [State.post_yoyo, State.postWatched_yoyo, State.setYoyo_yoyo]
      exact ⟨rfl, rfl⟩
    · rw [State.postWatched_yoyo, State.setYoyo_yoyo]
      exact ⟨rfl, rfl⟩
  case membership =>
    refine ⟨s.sendCtrl port (reportOf l true), ?_, State.sendCtrl_ctrlOut ..⟩
    refine congrArg Host.Outcome.next ((if_neg ?_).trans ?_)
    · simp [hport, hon, hwindow, hmac, hlock, hwind, hheld]
    · rw [hlegs]
      rfl
  case video =>
    rw [execTxPacketLaunch_of_runs hflow hruns hcfg ho hstarted]
    exact State.txVideo_sent hpacket hn hdue hnext hlegs hsends
  case videoLate =>
    rw [execTxPacketLaunch_of_runs hflow hruns hcfg ho hstarted]
    exact congrArg Host.Outcome.next (State.txVideo_late hpacket hn hdue hlate)
  case audio =>
    rw [execAudioTxLaunch_of_runs hflow hruns hcfg hstarted]
    exact State.txAudioPacket_sent hshape hdue hnext hlegs hsends
  case audioLate =>
    rw [execAudioTxLaunch_of_runs hflow hruns hcfg hstarted]
    exact congrArg Host.Outcome.next (State.txAudioPacket_late hshape hdue hlate)

end Sys2Proof.Machine
end

section
/-! PROOF. Which rows of a head's frames are settled, and the operations that leave this alone. -/

namespace Sys2Proof.Machine

open Sys2Proof.Safety Sys2Proof.Laws

/-- The rows of a head that are ready or skipped, and the count of the skipped ones. -/
def Head.rowMarks (h : Head) : List (Nat × Nat) × List (Nat × Nat) × Nat := (h.scan.ready, h.scan.skippedRows, h.counts.skipped)

/-- No row of a head has been settled or unsettled. -/
structure SameRows (s t : State) : Prop where
  rows : ∀ n, (t.head n).rowMarks = (s.head n).rowMarks

theorem SameRows.refl (s : State) : SameRows s s := ⟨fun _ => rfl⟩

theorem SameRows.trans {s t u : State} (h : SameRows s t) (k : SameRows t u) : SameRows s u := ⟨fun n => (k.rows n).trans (h.rows n)⟩

theorem SameRows.of_heads {s t : State} (h : t.heads = s.heads) : SameRows s t := ⟨fun n => by rw [State.head, h, State.head]⟩

theorem SameRows.of_within {P : Nat} {s t : State} (h : Within P s t) (hp : P.testBit Part.heads.ctorIdx = false) : SameRows s t :=
  .of_heads (Within.same h .heads hp)

theorem SameRows.settled {s t : State} (h : SameRows s t) (n k q : Nat) : (t.head n).settled k q = (s.head n).settled k q := by
  have hmarks := h.rows n
  rw [Head.rowMarks, Head.rowMarks, Prod.mk.injEq, Prod.mk.injEq] at hmarks
  obtain ⟨hready, hskipped, -⟩ := hmarks
  rw [Head.settled, hready, hskipped, Head.settled]

theorem SameRows.skipped {s t : State} (h : SameRows s t) (n : Nat) : (t.head n).counts.skipped = (s.head n).counts.skipped :=
  congrArg (fun x => x.2.2) (h.rows n)

section
variable {s0 s : State}

theorem SameRows.setHead {n : Nat} {x : Head} (hx : x.rowMarks = (s.head n).rowMarks) (h : SameRows s0 s) : SameRows s0 (s.setHead n x) := by
  refine h.trans ⟨fun m => ?_⟩
  by_cases hm : m = n
  · subst hm
    rw [State.setHead_head, hx]
  · rw [State.setHead_head_other _ _ _ _ hm]

theorem SameRows.modHead {n : Nat} {f : Head → Head} (hf : ∀ x, (f x).rowMarks = x.rowMarks) (h : SameRows s0 s) : SameRows s0 (s.modHead n f) :=
  h.setHead (hf _)

theorem SameRows.withTq {q : TileQueue} (h : SameRows s0 s) : SameRows s0 { s with tq := q } := h.trans (.of_heads rfl)

theorem SameRows.withCp {c : CmdProc} (h : SameRows s0 s) : SameRows s0 { s with cp := c } := h.trans (.of_heads rfl)

theorem SameRows.ite {p : Prop} [Decidable p] {t u : State} (ht : SameRows s t) (hu : SameRows s u) : SameRows s (if p then t else u) := by
  split
  · exact ht
  · exact hu

theorem SameRows.foldl {α : Type} {f : State → α → State} {l : List α} (hf : ∀ t x, SameRows s0 t → SameRows s0 (f t x)) (h : SameRows s0 s) :
    SameRows s0 (l.foldl f s) := keepsAt_foldl (P := SameRows s0) hf h

/-! ## Operations that leave the rows alone -/

theorem State.post_sameRows {code object origin : Nat} {payload : List Byte} (h : SameRows s0 s) : SameRows s0 (s.post code object origin payload) :=
  h.trans (.of_heads rfl)

theorem State.getMem_sameRows {object a n : Nat} (h : SameRows s0 s) : SameRows s0 (s.getMem object a n).2 :=
  h.trans (.of_within (State.getMem_within (P := 16793600) rfl within_rfl) rfl)

theorem State.sendMsg_sameRows {type : Nat} {payload : List Byte} (h : SameRows s0 s) : SameRows s0 (s.sendMsg type payload) :=
  h.trans (.of_within (State.sendMsg_within (P := 17592186044416) rfl within_rfl) rfl)

theorem State.retire_sameRows {n : Nat} (h : SameRows s0 s) : SameRows s0 (s.retire n) := by
  refine SameRows.foldl (fun t x ht => SameRows.ite ht ?_) h
  exact SameRows.modHead (fun _ => rfl) (ht.trans (.of_within (State.releaseHeld_within (P := 2166374400) rfl within_rfl) rfl))

theorem State.breach_sameRows {id a n : Nat} {l : Lease} (h : SameRows s0 s) : SameRows s0 (s.breach id l a n) := by
  have hcount : SameRows s0 (s.setHead l.head { s.head l.head with
      counts := { (s.head l.head).counts with breaches := add64 (s.head l.head).counts.breaches 1 } }) := h.setHead rfl
  exact SameRows.ite hcount (hcount.trans (.of_heads rfl))

theorem State.guardedWrite_sameRows {a : Nat} {bs : List Byte} (h : SameRows s0 s) : SameRows s0 (s.guardedWrite a bs).2 := by
  unfold State.guardedWrite
  dsimp only
  split
  · have hwrite : SameRows s0 (s.writeMem 0 a bs).2 := h.trans (.of_within (State.writeMem_within0 (P := 18890752) rfl within_rfl) rfl)
    exact hwrite.foldl fun t x ht => State.breach_sameRows ht
  · exact h.foldl fun t n ht => ht.modHead fun _ => rfl

theorem State.procApplied_sameRows {p : Proc} {frame head : Nat} (h : SameRows s0 s) : SameRows s0 (s.procApplied p frame head) :=
  h.trans (.of_within (State.procApplied_within (P := 16384) rfl within_rfl) rfl)

theorem State.snapRow_sameRows {n k q : Nat} (h : SameRows s0 s) : SameRows s0 (s.snapRow n k q) := by
  unfold State.snapRow
  dsimp only
  refine SameRows.ite h ?_
  split
  · exact h
  · refine SameRows.ite (SameRows.foldl (fun t p ht => State.procApplied_sameRows ht) (SameRows.withCp (SameRows.foldl ?_ h))) (SameRows.foldl ?_ h)
    · exact fun t p ht => State.guardedWrite_sameRows (State.getMem_sameRows ht)
    · exact fun t p ht => State.guardedWrite_sameRows (State.getMem_sameRows ht)

theorem State.postSkips_sameRows {n k : Nat} (h : SameRows s0 s) : SameRows s0 (s.postSkips n k) := by
  unfold State.postSkips
  dsimp only
  refine SameRows.ite h ?_
  split
  · exact h
  · exact State.post_sameRows (h.modHead fun _ => rfl)

theorem State.answerRow_sameRows {n k q crc : Nat} {flags : List Nat} {panel : List Byte} (h : SameRows s0 s) :
    SameRows s0 (s.answerRow n k q crc flags panel) :=
  h.trans (.of_within (State.answerRow_within (P := 52776558133248) rfl within_rfl) rfl)

theorem State.removeItems_sameRows {p : ItemKey → Bool} (h : SameRows s0 s) : SameRows s0 (s.removeItems p) :=
  h.trans (.of_within (State.removeItems_within (P := 549755813888) rfl within_rfl) rfl)

/-- The tiles of an abandoned run take no new part of the frame, and its items are gone. -/
def State.missTiles (s : State) (k : ItemKey) : State :=
  ((s.head k.owner).runIndices k.row k.run).foldl (fun s i =>
    if (s.tile i).entries.any (fun e => e.frame == k.frame % 2 ^ 32) then
      s.setTile i { (s.tile i).drop k.frame with miss := satInc 65535 (s.tile i).miss } else s) (s.removeItems (fun x => x == { k with kind := .c }))

/-- An abandoned C-item is done for all that follows it. -/
def State.missed (s : State) (k : ItemKey) : State :=
  { s.missTiles k with tq := { (s.missTiles k).tq with doneC := (s.missTiles k).tq.doneC ++ [{ k with kind := .c }] } }

theorem State.abandonC_eq (s : State) (k : ItemKey) : s.abandonC k = if ((s.head k.owner).shots.all (fun x => x.frame != k.frame)) then s else
    ((s.missed k).modHead k.owner (fun h => { h with counts := { h.counts with abandonedC := add64 h.counts.abandonedC 1 } })).retire k.owner := rfl

theorem State.missTiles_sameRows {k : ItemKey} (h : SameRows s0 s) : SameRows s0 (s.missTiles k) :=
  SameRows.foldl (fun _ _ ht => SameRows.ite (ht.trans (.of_heads rfl)) ht) (State.removeItems_sameRows h)

theorem State.abandonC_sameRows {k : ItemKey} (h : SameRows s0 s) : SameRows s0 (s.abandonC k) := by
  rw [State.abandonC_eq]
  have hmissed : SameRows s0 (s.missed k) := (State.missTiles_sameRows h).withTq
  exact SameRows.ite h (State.retire_sameRows (hmissed.modHead fun _ => rfl))

theorem State.muraRead_sameRows {n : Nat} {l : Latched} (h : SameRows s0 s) : SameRows s0 (s.muraRead n l) :=
  SameRows.ite h (h.modHead fun _ => rfl)

end

end Sys2Proof.Machine
end

section
/-! PROOF. Work items from their release to their end (O50). -/

namespace Sys2Proof.Machine

open Sys2Proof.Safety Sys2Proof.Laws

/-! ## Rows that are settled -/

theorem Head.settled_append_skipped {h : Head} {skipped : List (Nat × Nat)} {k q : Nat} (hs : h.scan.skippedRows = skipped ++ [(k, q)]) :
    h.settled k q = true := by
  rw [Head.settled, hs]
  simp

theorem Head.settled_append_ready {h : Head} {ready : List (Nat × Nat)} {k q : Nat} (hs : h.scan.ready = ready ++ [(k, q)]) :
    h.settled k q = true := by
  rw [Head.settled, hs]
  simp

/-- The items of a row's runs. -/
def State.rowItems (s : State) (n k q : Nat) : List ItemKey :=
  (List.range (s.head n).runs).map (fun j => { kind := .p, owner := n, frame := k, row := q, run := j })

/-- The state with the P-items of a row out of the queues. -/
def State.rowOut (s : State) (n k q : Nat) : State := s.removeItems (fun x => x.kind == .p && x.owner == n && x.frame == k && x.row == q)

/-- The items of a skipped row that were not done. -/
def State.rowLate (s : State) (n k q : Nat) : List ItemKey :=
  (s.rowItems n k q).filter (fun x => !(s.rowOut n k q).pDone x && !(s.rowOut n k q).runningItem x)

/-- The state in which the late items of a skipped row are dead and its results gone. -/
def State.rowDead (s : State) (n k q : Nat) : State :=
  { s.rowOut n k q with tq := { (s.rowOut n k q).tq with
      outs := (s.rowOut n k q).tq.outs.filter (fun o => !(o.head == n && o.frame == k && o.row == q))
      dead := (s.rowOut n k q).tq.dead ++ s.rowLate n k q } }

/-- The state of SKIP_ROW before the row is marked. -/
def State.rowDropped (s : State) (n k q : Nat) : State :=
  ((s.rowItems n k q).filter (fun x => !(s.rowDead n k q).cDone x && !(s.rowDead n k q).runningItem { x with kind := .c })).foldl
    (fun s x => s.abandonC x) (s.rowDead n k q)

/-- The mark of a row that is skipped. -/
def Head.withSkip (h : Head) (k q cause late : Nat) : Head :=
  { h.addParts (h.latchedOf k) (fun _ => { frame := k, row := q, skipped := true }) with
    counts := { h.counts with skipped := add64 h.counts.skipped 1, abandonedP := add64 h.counts.abandonedP late }
    scan := { h.scan with skippedRows := h.scan.skippedRows ++ [(k, q)], skips := tallySkip h.scan.skips k q cause } }

/-- The state of SKIP_ROW with the row marked. -/
def State.rowSkipped (s : State) (n k q cause : Nat) : State :=
  (s.rowDropped n k q).modHead n (fun h => h.withSkip k q cause (s.rowLate n k q).length)

theorem State.skipRow_of_open {s : State} {n k q : Nat} (h : (s.head n).settled k q = false) (cause : Nat) : s.skipRow n k q cause =
    (if ((s.rowSkipped n k q cause).snapRow n k q).pairActive then
      ((s.rowSkipped n k q cause).snapRow n k q).sendMsg 0x0A (leBytes 4 k ++ leBytes 2 q ++ leBytes 1 1 ++ leBytes 4 0)
    else (s.rowSkipped n k q cause).snapRow n k q).postSkips n k :=
  if_neg (by rw [h]; decide)

theorem State.rowDropped_sameRows (s : State) (n k q : Nat) : SameRows s (s.rowDropped n k q) :=
  SameRows.foldl (fun _ _ h => State.abandonC_sameRows h) (SameRows.withTq (State.removeItems_sameRows (SameRows.refl s)))

/-- What follows the mark of a skipped row leaves the marks. -/
theorem State.skipRow_sameRows {s : State} {n k q : Nat} (h : (s.head n).settled k q = false) (cause : Nat) :
    SameRows (s.rowSkipped n k q cause) (s.skipRow n k q cause) := by
  have hsnap := State.snapRow_sameRows (n := n) (k := k) (q := q) (SameRows.refl (s.rowSkipped n k q cause))
  rw [State.skipRow_of_open h]
  exact State.postSkips_sameRows (SameRows.ite (State.sendMsg_sameRows hsnap) hsnap)

/-- A skipped row is settled. -/
theorem State.skipRow_settled (s : State) (n k q cause : Nat) : ((s.skipRow n k q cause).head n).settled k q = true := by
  cases h : (s.head n).settled k q with
  | true =>
    rw [show s.skipRow n k q cause = s from if_pos h, h]
  | false =>
    rw [(State.skipRow_sameRows h cause).settled, State.rowSkipped, State.modHead_head]
    exact Head.settled_append_skipped rfl

/-- A row that is skipped is counted. -/
theorem State.skipRow_skipped {s : State} {n k q : Nat} (h : (s.head n).settled k q = false) (cause : Nat) :
    ((s.skipRow n k q cause).head n).counts.skipped = add64 (s.head n).counts.skipped 1 := by
  rw [(State.skipRow_sameRows h cause).skipped, State.rowSkipped, State.modHead_head, ← (s.rowDropped_sameRows n k q).skipped]
  rfl

/-! ## Items that are dead -/

theorem State.removeItems_dead (s : State) (p : ItemKey → Bool) : (s.removeItems p).tq.dead = s.tq.dead :=
  keepsAt_foldl (P := fun t : State => t.tq.dead = s.tq.dead) (fun _ _ h => h) rfl

theorem State.abandonC_dead (s : State) (k : ItemKey) : (s.abandonC k).tq.dead = s.tq.dead := by
  have hmissed : (s.missed k).tq.dead = s.tq.dead :=
    keepsAt_foldl (P := fun t : State => t.tq.dead = s.tq.dead) (fun t i h => keepsAt_ite (P := fun t : State => t.tq.dead = s.tq.dead) (fun _ => h)
      fun _ => h) (s.removeItems_dead _)
  rw [State.abandonC_eq]
  split
  · rfl
  · have htq := fun t : State => (State.retire_within (P := 1101678002176) (a2 := k.owner) rfl (within_rfl (s := t))).same .tq rfl
    exact (congrArg TileQueue.dead (htq _)).trans hmissed

/-- What is dead stays so when a row is skipped. -/
theorem State.mem_skipRow_dead {s : State} {key : ItemKey} (h : key ∈ s.tq.dead) (n k q cause : Nat) : key ∈ (s.skipRow n k q cause).tq.dead := by
  cases hsettled : (s.head n).settled k q with
  | true => rwa [show s.skipRow n k q cause = s from if_pos hsettled]
  | false =>
    have hdead : key ∈ (s.rowDead n k q).tq.dead := by
      change key ∈ (s.rowOut n k q).tq.dead ++ s.rowLate n k q
      rw [State.rowOut, State.removeItems_dead]
      exact List.mem_append_left _ h
    have hskipped : key ∈ (s.rowSkipped n k q cause).tq.dead :=
      keepsAt_foldl (P := fun t : State => key ∈ t.tq.dead) (fun t x ht => by rwa [State.abandonC_dead]) hdead
    have hkeep : Within 18760436072448 (s.rowSkipped n k q cause) (s.skipRow n k q cause) := by
      rw [State.skipRow_of_open hsettled]
      exact State.postSkips_within rfl (within_ite (fun _ => State.sendMsg_within rfl (State.snapRow_within rfl within_rfl))
        fun _ => State.snapRow_within rfl within_rfl)
    have htq : (s.skipRow n k q cause).tq = (s.rowSkipped n k q cause).tq := hkeep.same .tq rfl
    rwa [htq]

/-- A P-item that is given up is dead and its row settled. -/
theorem State.abandonP_spec (s : State) (key : ItemKey) (cause : Nat) :
    key ∈ (s.abandonP key cause).tq.dead ∧ ((s.abandonP key cause).head key.owner).settled key.frame key.row = true := by
  refine ⟨State.mem_skipRow_dead ?_ .., State.skipRow_settled ..⟩
  exact List.mem_append_right _ (List.mem_singleton_self key)

/-! ## Clusters -/

/-- A change of one cluster after another. -/
theorem foldl_setCluster (g : Cluster → Cluster) (s : State) (n c : Nat) :
    ((List.range n).foldl (fun s c => s.setCluster c (g (s.cluster c))) s).cluster c = if c < n then g (s.cluster c) else s.cluster c := by
  induction n with
  | zero => exact (if_neg (Nat.not_lt_zero c)).symm
  | succ n ih =>
    rw [List.range_succ, List.foldl_append, List.foldl_cons, List.foldl_nil]
    by_cases hc : c = n
    · subst hc
      rw [State.setCluster_cluster, ih, if_neg (Nat.lt_irrefl c), if_pos (Nat.lt_succ_self c)]
    · rw [State.setCluster_cluster_other _ _ _ _ hc, ih]
      exact ite_congr (propext (by omega)) (fun _ => rfl) (fun _ => rfl)

theorem State.freeEngine_cluster (s : State) (k : ItemKey) (c : Nat) : (s.freeEngine k).cluster c =
    if c < 8 then { s.cluster c with running := (s.cluster c).running.filter (fun i => i.key != k) } else s.cluster c :=
  foldl_setCluster (fun x => { x with running := x.running.filter (fun i => i.key != k) }) s 8 c

/-- A freed engine runs its item no more. -/
theorem State.freeEngine_runningItem (s : State) (k : ItemKey) : (s.freeEngine k).runningItem k = false := by
  rw [State.runningItem, List.any_eq_false]
  intro c hc
  rw [State.freeEngine_cluster, if_pos (List.mem_range.1 hc), Bool.not_eq_true, List.any_eq_false]
  intro i hi
  simpa using (List.mem_filter.1 hi).2

theorem State.freeEngine_heads (s : State) (k : ItemKey) (n : Nat) : (s.freeEngine k).head n = s.head n := by
  have hheads : (s.freeEngine k).heads = s.heads := (State.freeEngine_within (P := 549755813888) rfl within_rfl).same .heads rfl
  rw [State.head, hheads, State.head]

theorem State.freeEngine_tiles (s : State) (k : ItemKey) : (s.freeEngine k).tq.tiles = s.tq.tiles :=
  keepsAt_foldl (P := fun t : State => t.tq.tiles = s.tq.tiles) (fun _ _ h => h) rfl

/-- An item goes to the deque of its home cluster where this has room. -/
theorem State.placeItem_of_room {s : State} {i : Item} {c : Nat} (hhome : s.homeOf i.key = some c) (hroom : (s.cluster c).deque.length < 64) :
    s.placeItem i = s.setCluster c { s.cluster c with deque := (s.cluster c).deque ++ [i] } := by
  rw [State.placeItem, hhome]
  exact if_pos hroom

/-- With no item held there is nothing to feed. -/
theorem State.feed_of_none {s : State} (h : s.tq.held = []) : s.feed = s := by
  unfold State.feed
  dsimp only
  rw [h]
  change ({ s with tq := { s.tq with held := [] } } : State) = s
  rw [← h]

/-- An item that is no C-item starts without a tile. -/
theorem State.startItem_of_plain {s : State} {i : Item} (h : i.key.kind ≠ .c) (src dst : Nat) : s.startItem i src dst =
    (s.setCluster src { s.cluster src with deque := (s.cluster src).deque.filter (fun x => x.key != i.key) }).setCluster dst
      { (s.setCluster src { s.cluster src with deque := (s.cluster src).deque.filter (fun x => x.key != i.key) }).cluster dst with
        running := ((s.setCluster src { s.cluster src with deque := (s.cluster src).deque.filter (fun x => x.key != i.key) }).cluster dst).running ++
          [{ i with started := s.tp }] } := by
  unfold State.startItem State.markRunning
  exact if_pos (by simpa using h)

/-- An engine of the item's own cluster takes it. -/
theorem State.startItem_own {s : State} {i : Item} (h : i.key.kind ≠ .c) (c : Nat) : (s.startItem i c c).tq.held = s.tq.held ∧
    (s.startItem i c c).cluster c = { s.cluster c with
      deque := (s.cluster c).deque.filter (fun x => x.key != i.key), running := (s.cluster c).running ++ [{ i with started := s.tp }] } := by
  rw [State.startItem_of_plain h]
  refine ⟨rfl, ?_⟩
  rw [State.setCluster_cluster, State.setCluster_cluster]

/-- An engine of another cluster takes it. -/
theorem State.startItem_other {s : State} {i : Item} (h : i.key.kind ≠ .c) {v c : Nat} (hne : v ≠ c) : (s.startItem i v c).tq.held = s.tq.held ∧
    (s.startItem i v c).cluster c = { s.cluster c with running := (s.cluster c).running ++ [{ i with started := s.tp }] } ∧
    ((s.startItem i v c).cluster v).deque = (s.cluster v).deque.filter (fun x => x.key != i.key) := by
  rw [State.startItem_of_plain h]
  refine ⟨rfl, ?_, ?_⟩
  · rw [State.setCluster_cluster, State.setCluster_cluster_other _ _ _ _ hne.symm]
  · rw [State.setCluster_cluster_other _ _ _ _ hne, State.setCluster_cluster]

/-- The only item of a deque is taken where it can still be done in time. -/
theorem State.takeFirst_of_only {s : State} {c : Nat} {i : Item} (hdeque : (s.cluster c).deque = [i]) (hkind : i.key.kind ≠ .c)
    (ht : i.key.kind = .t → s.tp ≤ i.due) (hp : i.key.kind = .p → s.tp + s.cycles i.cost ≤ s.dueNow i) :
    s.takeFirst c [i] = s.startItem i c c := by
  unfold State.takeFirst
  rw [if_neg (by rw [hdeque]; simp)]
  split
  · next h => exact if_neg (Nat.not_lt.2 (hp h))
  · next h => exact absurd h hkind
  · next h => exact if_neg (Nat.not_lt.2 (ht h))

theorem mem_insertBy {α : Type} {le : α → α → Bool} {x y : α} {l : List α} (h : y ∈ insertBy le x l) : y = x ∨ y ∈ l := by
  induction l with
  | nil => exact List.mem_cons.1 h
  | cons z l ih =>
    unfold insertBy at h
    split at h
    · rcases List.mem_cons.1 h with h | h
      · exact Or.inr (h ▸ List.mem_cons_self)
      · exact (ih h).imp_right (List.mem_cons_of_mem z)
    · exact List.mem_cons.1 h

theorem mem_foldl_insertBy {α : Type} {le : α → α → Bool} {y : α} {l acc : List α} (h : y ∈ l.foldl (fun a x => insertBy le x a) acc) :
    y ∈ acc ∨ y ∈ l := by
  induction l generalizing acc with
  | nil => exact Or.inl h
  | cons x l ih =>
    rcases ih h with h | h
    · rcases mem_insertBy h with rfl | h
      · exact Or.inr List.mem_cons_self
      · exact Or.inl h
    · exact Or.inr (List.mem_cons_of_mem x h)

/-- Sorting adds nothing to a list. -/
theorem mem_of_mem_sortBy {α : Type} {le : α → α → Bool} {y : α} {l : List α} (h : y ∈ sortBy le l) : y ∈ l :=
  (mem_foldl_insertBy h).resolve_left List.not_mem_nil

/-- A victim of stealing is another cluster. -/
theorem State.ne_of_victim {s : State} {c v : Nat} (h : v ∈ s.victims c) : v ≠ c := by
  have hmem := (List.mem_filter.1 (mem_of_mem_sortBy h)).2
  simp only [Bool.and_eq_true, bne_iff_ne, ne_eq] at hmem
  exact hmem.1.1

/-! ## The ends of items -/

/-- The tiles of a run take the frame that has been composed. -/
def State.tilesComposed (s : State) (frame : Nat) (l : List Nat) : State :=
  l.foldl (fun s i => s.setTile i { (if (s.tile i).running then (s.tile i).pop else s.tile i) with lastComposed := frame % 2 ^ 32 }) s

theorem State.setTile_lastComposed {s : State} {i j v : Nat} {t : Tile} (ht : t.lastComposed = v) (hi : (s.tile i).lastComposed = v) :
    ((s.setTile j t).tile i).lastComposed = v := by
  by_cases h : i = j
  · subst h
    exact (congrArg Tile.lastComposed spGet_spSet_same).trans ht
  · exact (congrArg Tile.lastComposed (spGet_spSet_other h)).trans hi

theorem State.tilesComposed_tile (s : State) (frame : Nat) {l : List Nat} {i : Nat} (hi : i ∈ l) :
    ((s.tilesComposed frame l).tile i).lastComposed = frame % 2 ^ 32 := by
  induction l generalizing s with
  | nil => exact absurd hi List.not_mem_nil
  | cons j l ih =>
    rcases List.mem_cons.1 hi with rfl | hi
    · exact keepsAt_foldl (l := l) (P := fun t : State => (t.tile i).lastComposed = frame % 2 ^ 32)
        (fun t x ht => State.setTile_lastComposed rfl ht) (congrArg Tile.lastComposed spGet_spSet_same)
    · exact ih _ hi

/-- The end of a C-item once its tiles have taken the frame. -/
def State.cEnded (s : State) (key : ItemKey) (late : Bool) : State :=
  (({ s.freeEngine key with tq := { (s.freeEngine key).tq with doneC := s.tq.doneC ++ [key] } } : State).modHead key.owner
    (fun h => { h with counts := { h.counts with lateC := add64 h.counts.lateC (b2n late) } })).retire key.owner

theorem State.cEnded_tq (s : State) (key : ItemKey) (late : Bool) :
    (s.cEnded key late).tq = { (s.freeEngine key).tq with doneC := s.tq.doneC ++ [key] } :=
  (State.retire_within (P := 1101678002176) rfl within_rfl).same .tq rfl

/-- What the end of a C-item leaves: its engine free, itself done, its tiles as they are. -/
theorem State.cEnded_spec (s : State) (key : ItemKey) (late : Bool) : (s.cEnded key late).runningItem key = false ∧
    key ∈ (s.cEnded key late).tq.doneC ∧ ∀ i, (s.cEnded key late).tile i = s.tile i := by
  refine ⟨?_, ?_, fun i => ?_⟩
  · rw [← s.freeEngine_runningItem key, State.runningItem, State.runningItem]
    simp only [State.cluster, State.cEnded_tq]
  · rw [State.cEnded_tq]
    exact List.mem_append_right _ (List.mem_singleton_self key)
  · rw [State.tile, State.cEnded_tq, State.tile]
    exact congrArg (fun tiles => spGet tiles {} i) (s.freeEngine_tiles key)

/-- A C-item that ends, whatever the composer has written. -/
theorem exec_cItemComplete {s : State} {key : ItemKey} (hkind : key.kind = .c) (hrun : s.runningItem key = true) :
    ∃ u late, exec (.cItemComplete key) s =
      .next ((State.tilesComposed u key.frame ((s.head key.owner).runIndices key.row key.run)).cEnded key late) := by
  refine ⟨_, _, congrArg Host.Outcome.next (if_neg ?_)⟩
  rw [hkind, hrun]
  decide

/-- The counts of the frames whose T-items are left, after one of them. -/
def Output.oneLess (o : Output) (frame left : Nat) : Output :=
  { o with itemsLeft := o.itemsLeft.map (fun y => if y.1 = frame then (y.1, y.2.1, left - 1) else y) }

/-- The output after the last T-item of a frame. -/
def Output.frameDone (o : Output) (frame slot : Nat) : Output :=
  { o with
    itemsLeft := o.itemsLeft.filter (fun y => y.1 != frame)
    done := (o.done ++ [(frame, slot)]).drop ((o.done ++ [(frame, slot)]).length - 4) }

theorem Output.frameDone_last (o : Output) (frame slot : Nat) : (o.frameDone frame slot).done.getLast? = some (frame, slot) := by
  unfold Output.frameDone
  dsimp only
  exact getLast?_drop_append _ _ (by decide)

/-- The entry of a frame, after one of its T-items. -/
theorem find?_oneLess {l : List (Nat × Nat × Nat)} {frame slot left : Nat} (h : l.find? (fun y => y.1 == frame) = some (frame, slot, left)) (n : Nat) :
    (l.map (fun y => if y.1 = frame then (y.1, y.2.1, n) else y)).find? (fun y => y.1 == frame) = some (frame, slot, n) := by
  induction l with
  | nil => exact absurd h (by simp)
  | cons y l ih =>
    by_cases hy : y.1 = frame
    · rw [List.find?_cons_of_pos (by simpa using hy), Option.some.injEq] at h
      subst h
      simp
    · rw [List.find?_cons_of_neg (by simpa using hy)] at h
      rw [List.map_cons, if_neg hy, List.find?_cons_of_neg (by simpa using hy), ih h]

/-- The state in which a T-item is done. -/
def State.tDone (s : State) (key : ItemKey) : State := { s with tq := { s.tq with doneC := s.tq.doneC ++ [key] } }

/-- The state in which a T-item has been composed. -/
def State.tComposed (s : State) (key : ItemKey) (c : OutputSetP) (x : FrameShot) (slot : Nat) : State :=
  let r := (s.freeEngine key).composeTx c x slot key.row key.run
  if r.1 then r.2.dataError key (key.row * (outputItems c).2 + key.run) else r.2

/-- A T-item that ends, whatever the composer has written. -/
theorem exec_tItemComplete {s : State} {key : ItemKey} {c : OutputSetP} {slot left : Nat} {x : FrameShot} (hkind : key.kind = .t)
    (hrun : s.runningItem key = true) (hcfg : (s.output key.owner).cfg = some c)
    (hleft : (s.output key.owner).itemsLeft.find? (fun y => y.1 == key.frame) = some (key.frame, slot, left))
    (hshot : (spGet s.outShots [] key.owner).find? (fun y => y.frame == key.frame) = some x) :
    ∃ u done, exec (.tItemComplete key) s = .next (
      if left > 1 then (State.tDone u key).setOutput key.owner ((s.output key.owner).oneLess key.frame left)
      else State.endOutShot { (State.tDone u key).setOutput key.owner ((s.output key.owner).frameDone key.frame slot) with
        tq := { (State.tDone u key).tq with doneC := done } } key.owner key.frame) := by
  have hshots : (s.freeEngine key).outShots = s.outShots := (State.freeEngine_within (P := 549755813888) rfl within_rfl).same .outShots rfl
  refine ⟨s.tComposed key c x slot, ((s.tComposed key c x slot).tDone key).tq.doneC.filter
    (fun y => !(y.kind == ItemKind.t && y.owner == key.owner && y.frame == key.frame)), congrArg Host.Outcome.next ((if_neg ?_).trans ?_)⟩
  · rw [hkind, hrun]
    decide
  · unfold Output.oneLess Output.frameDone
    dsimp only
    rw [hcfg, hleft, hshots, hshot]
    rfl

theorem SameRows.sendIf {s0 s : State} {type : Nat} {payload : List Byte} (h : SameRows s0 s) :
    SameRows s0 (if s.pairActive then s.sendMsg type payload else s) := SameRows.ite (State.sendMsg_sameRows h) h

theorem SameRows.postIf {s0 s : State} {b : Bool} {code object origin : Nat} {payload : List Byte} (h : SameRows s0 s) :
    SameRows s0 (if b then s.post code object origin payload else s) := SameRows.ite (State.post_sameRows h) h

/-- A committed row is settled. -/
theorem State.commitRow_settled (s : State) (n : Nat) (l : Latched) (q : Nat) : ((s.commitRow n l q).head n).settled l.frame q = true := by
  obtain ⟨u, f, hf, hrows⟩ : ∃ (u : State) (f : Head → Head), (f (u.head n)).scan.ready = (u.head n).scan.ready ++ [(l.frame, q)] ∧
      SameRows (u.modHead n f) (s.commitRow n l q) := by
    refine ⟨_, _, ?_, State.postSkips_sameRows (State.answerRow_sameRows (SameRows.sendIf (State.snapRow_sameRows (SameRows.postIf
      (SameRows.withTq (SameRows.refl _))))))⟩
    rfl
  rw [hrows.settled, State.modHead_head]
  exact Head.settled_append_ready hf

/-- A P-item that ends goes on in its latched frame. -/
theorem exec_pItemComplete {s : State} {key : ItemKey} {l : Latched} (hkind : key.kind = .p) (hrun : s.runningItem key = true)
    (hlatched : (s.head key.owner).latchedOf key.frame = some l) :
    exec (.pItemComplete key) s = .next ((s.freeEngine key).endP key l) := by
  refine congrArg Host.Outcome.next ((if_neg ?_).trans ?_)
  · rw [hkind, hrun]
    decide
  · dsimp only
    rw [State.freeEngine_heads, hlatched]

/-- The end of a P-item of a row that is not settled. -/
theorem State.endP_of_open {s : State} {key : ItemKey} (h : (s.head key.owner).settled key.frame key.row = false) (l : Latched) :
    (s.freeEngine key).endP key l = if (((s.freeEngine key).muraRead key.owner l).checkP key.owner l key.row key.run).1
      then (((s.freeEngine key).muraRead key.owner l).checkP key.owner l key.row key.run).2.abandonP key 3
      else (((s.freeEngine key).muraRead key.owner l).checkP key.owner l key.row key.run).2.finishP key l := by
  refine if_neg ?_
  rw [(State.muraRead_sameRows (SameRows.refl _)).settled, State.freeEngine_heads, h]
  decide

theorem State.endP_of_checked {s u : State} {key : ItemKey} {l : Latched} (h : (s.head key.owner).settled key.frame key.row = false)
    (hcheck : ((s.freeEngine key).muraRead key.owner l).checkP key.owner l key.row key.run = (false, u)) :
    (s.freeEngine key).endP key l = u.finishP key l := by
  rw [State.endP_of_open h, hcheck]
  rfl

/-- Settles O50. -/
theorem workItemsRunToTheirEnd : Obligations.WorkItemsRunToTheirEnd := by
  intro s
  refine ⟨fun key i c hfresh hhome hroom hready => ?release,
    fun key hkind hpending => ⟨fun hrun => ?late, fun hrun hdone => ?start⟩,
    fun cluster i hcluster hidle hdeque hheld hkind ht hp => ?free,
    fun cluster v i hcluster hidle hempty hvictims hpick hheld hkind => ?steal,
    fun key hkind hrun => ?cEnd,
    fun key c slot left x hkind hrun hcfg hleft hshot => ⟨fun hlast => ?tLast, fun hmore => ?tMore⟩,
    fun key l u v hkind hrun hlatched hopen => ⟨fun hcheck => ?pBad, fun hcheck hv => ⟨fun hpart => ?pPart, fun hrow hdead hactive => ?pRow⟩⟩,
    fun head frame row hscans hlatched hrow hopen => ?skip,
    fun id l hfind hending hscanned => ?lease⟩
  case release =>
    rcases hready with ⟨hkind, rfl, hscans, hshot, hrow, hrun, hholds, hprev, hp⟩ | ⟨hkind, rfl, hpending, hdone⟩ | ⟨hkind, rfl, hleft, o, ho, hrow, hrun⟩
    · rw [← State.placeItem_of_room (i := s.itemC key) hhome hroom]
      refine congrArg Host.Outcome.next ?_
      rw [hkind]
      exact if_pos (by simp [hscans, hshot, hrow, hrun, hfresh, hholds, hprev, hp])
    · rw [← State.placeItem_of_room (i := s.itemP key) hhome hroom]
      refine congrArg Host.Outcome.next ?_
      rw [hkind]
      exact if_pos (by simpa [hpending] using hdone)
    · rw [← State.placeItem_of_room (i := s.itemT key) hhome hroom]
      refine congrArg Host.Outcome.next ?_
      rw [hkind]
      dsimp only
      rw [ho]
      exact if_pos (by simp [hleft, hrow, hrun, hfresh])
  case late =>
    refine ⟨s.abandonP key 2, congrArg Host.Outcome.next ((if_neg ?_).trans (if_pos hrun)), State.abandonP_spec ..⟩
    rw [hkind, hpending]
    decide
  case start =>
    refine congrArg Host.Outcome.next ((if_neg ?_).trans ((if_neg ?_).trans ?_))
    · rw [hkind, hpending]
      decide
    · rw [hrun]
      decide
    · simp [hdone]
  case free =>
    obtain ⟨hkeep, hstart⟩ := State.startItem_own (s := s) hkind cluster
    have htake : s.takeFirst cluster (s.deque cluster) = s.startItem i cluster cluster := by
      rw [State.deque, hdeque]
      exact State.takeFirst_of_only hdeque hkind ht hp
    refine ⟨s.startItem i cluster cluster, ?_, ?_⟩
    · change Host.Outcome.next (ite _ _ _) = _
      rw [if_pos ⟨hcluster, hidle⟩, htake, State.feed_of_none (hkeep.trans hheld)]
    · rw [hstart, hdeque]
      simp
  case steal =>
    have hne : v ≠ cluster := State.ne_of_victim (by rw [hvictims]; exact List.mem_singleton_self v)
    obtain ⟨hkeep, hmine, htheirs⟩ := State.startItem_other (s := s) hkind hne
    obtain ⟨u, hu⟩ : ∃ u, u = s.startItem i v cluster := ⟨_, rfl⟩
    rw [← hu] at hkeep hmine htheirs
    refine ⟨u.setCluster cluster { u.cluster cluster with steals := add64 (u.cluster cluster).steals 1 }, ?_, ?_, ?_⟩
    · refine congrArg Host.Outcome.next ((if_neg ?_).trans ?_)
      · simp [hcluster, hidle, hempty]
      · rw [hvictims, List.findSome?_cons, hpick]
        dsimp only [Option.map]
        rw [if_neg (fun h => hkind h.1), ← hu]
        exact State.feed_of_none (hkeep.trans hheld)
    · rw [State.setCluster_cluster, hmine]
    · rw [State.setCluster_cluster_other _ _ _ _ hne, htheirs]
      intro x hx
      simpa using (List.mem_filter.1 hx).2
  case cEnd =>
    obtain ⟨u, late, hstep⟩ := exec_cItemComplete hkind hrun
    obtain ⟨hfree, hdone, htile⟩ := (State.tilesComposed u key.frame ((s.head key.owner).runIndices key.row key.run)).cEnded_spec key late
    exact ⟨_, hstep, hfree, hdone, fun i hi => by rw [htile, State.tilesComposed_tile u key.frame hi]⟩
  case tLast =>
    obtain ⟨u, done, hstep⟩ := exec_tItemComplete hkind hrun hcfg hleft hshot
    have houtput : ∀ t : State, (t.endOutShot key.owner key.frame).output key.owner = t.output key.owner := fun t => by
      have houtputs : (t.endOutShot key.owner key.frame).outputs = t.outputs :=
        (State.endOutShot_within (P := 36526112768) rfl within_rfl).same .outputs rfl
      rw [State.output, houtputs, State.output]
    rw [if_neg (Nat.not_lt.2 hlast)] at hstep
    refine ⟨_, hstep, ?_⟩
    rw [houtput]
    have hset := State.setOutput_output (s := u.tDone key) key.owner ((s.output key.owner).frameDone key.frame slot)
    exact ⟨(congrArg (fun o : Output => o.done.getLast?) hset).trans (Output.frameDone_last ..), congrArg Output.itemsLeft hset⟩
  case tMore =>
    obtain ⟨u, done, hstep⟩ := exec_tItemComplete hkind hrun hcfg hleft hshot
    rw [if_pos hmore] at hstep
    refine ⟨_, hstep, List.mem_append_right _ (List.mem_singleton_self key), ?_⟩
    rw [State.setOutput_output]
    exact ⟨rfl, find?_oneLess hleft _⟩
  case pBad =>
    refine ⟨u.abandonP key 3, ?_, State.abandonP_spec ..⟩
    rw [exec_pItemComplete hkind hrun hlatched, State.endP_of_open hopen, hcheck]
    rfl
  case pPart =>
    rw [exec_pItemComplete hkind hrun hlatched, State.endP_of_checked hopen hcheck]
    subst hv
    exact congrArg Host.Outcome.next (if_pos (by rw [hpart]; rfl))
  case pRow =>
    have hframe : l.frame = key.frame := by simpa using List.find?_some hlatched
    refine ⟨?_, by rw [← hframe]; exact State.commitRow_settled ..⟩
    rw [exec_pItemComplete hkind hrun hlatched, State.endP_of_checked hopen hcheck]
    subst hv
    refine congrArg Host.Outcome.next ((if_neg ?_).trans ((if_neg (Int.not_le.2 hdead)).trans (if_neg ?_)))
    · rw [hrow]
      decide
    · rw [hactive]
      exact Bool.false_ne_true
  case skip =>
    refine ⟨s.skipRow head frame row 1, congrArg Host.Outcome.next (if_pos ?_), State.skipRow_settled .., State.skipRow_skipped hopen 1⟩
    simp [hscans, hlatched, hrow, hopen]
  case lease =>
    refine ⟨s.freeLease id l.lastFrame, ?_, fun x hx => ?_, _, List.mem_append_right _ (List.mem_singleton_self _), rfl⟩
    · refine congrArg Host.Outcome.next ?_
      rw [hfind]
      exact if_pos (by rw [hending, hscanned]; rfl)
    · simpa using (List.mem_filter.1 hx).2

end Sys2Proof.Machine
end

section
/-! PROOF. Operations that leave a part of every head alone, and operations that only add events. -/

namespace Sys2Proof.Machine

open Sys2Proof.Safety Sys2Proof.Laws

/-! ## A part of every head -/

/-- The part `g` of every head is the same. -/
structure SameHead {α : Type} (g : Head → α) (s t : State) : Prop where
  eq : ∀ n, g (t.head n) = g (s.head n)

section
variable {α : Type} {g : Head → α} {s0 s : State}

theorem SameHead.refl (s : State) : SameHead g s s := ⟨fun _ => rfl⟩

theorem SameHead.trans {s t u : State} (h : SameHead g s t) (k : SameHead g t u) : SameHead g s u := ⟨fun n => (k.eq n).trans (h.eq n)⟩

theorem SameHead.of_heads {s t : State} (h : t.heads = s.heads) : SameHead g s t := ⟨fun n => by rw [State.head, h, State.head]⟩

theorem SameHead.of_within {P : Nat} {s t : State} (h : Within P s t) (hp : P.testBit Part.heads.ctorIdx = false) : SameHead g s t :=
  .of_heads (Within.same h .heads hp)

theorem SameHead.setHead {n : Nat} {x : Head} (hx : g x = g (s.head n)) (h : SameHead g s0 s) : SameHead g s0 (s.setHead n x) := by
  refine h.trans ⟨fun m => ?_⟩
  by_cases hm : m = n
  · subst hm
    rw [State.setHead_head, hx]
  · rw [State.setHead_head_other _ _ _ _ hm]

theorem SameHead.modHead {n : Nat} {f : Head → Head} (hf : ∀ x, g (f x) = g x) (h : SameHead g s0 s) : SameHead g s0 (s.modHead n f) :=
  h.setHead (hf _)

theorem SameHead.ite {p : Prop} [Decidable p] {t u : State} (ht : SameHead g s t) (hu : SameHead g s u) : SameHead g s (if p then t else u) := by
  split
  · exact ht
  · exact hu

theorem SameHead.foldl {β : Type} {f : State → β → State} {l : List β} (hf : ∀ t x, SameHead g s0 t → SameHead g s0 (f t x)) (h : SameHead g s0 s) :
    SameHead g s0 (l.foldl f s) := keepsAt_foldl (P := SameHead g s0) hf h

theorem SameHead.post {code object origin : Nat} {payload : List Byte} (h : SameHead g s0 s) : SameHead g s0 (s.post code object origin payload) :=
  h.trans (.of_heads rfl)

theorem SameHead.sendMsg {type : Nat} {payload : List Byte} (h : SameHead g s0 s) : SameHead g s0 (s.sendMsg type payload) :=
  h.trans (.of_within (State.sendMsg_within (P := 17592186044416) rfl within_rfl) rfl)

end

/-! ## Frames that end -/

section
variable {α : Type} {g : Head → α} {s0 s : State}

theorem SameHead.retire {n : Nat} (hg : ∀ (x : Head) shots, g { x with shots := shots } = g x) (h : SameHead g s0 s) : SameHead g s0 (s.retire n) :=
  h.foldl fun _ _ ht => SameHead.ite ht (SameHead.modHead (fun x => hg x _)
    (ht.trans (.of_within (State.releaseHeld_within (P := 2166374400) rfl within_rfl) rfl)))

theorem SameHead.mapTiles {n : Nat} {f : Tile → Tile} (h : SameHead g s0 s) : SameHead g s0 (s.mapTiles n f) := h.trans (.of_heads rfl)

theorem SameHead.removeItems {p : ItemKey → Bool} (h : SameHead g s0 s) : SameHead g s0 (s.removeItems p) :=
  h.trans (.of_within (State.removeItems_within (P := 549755813888) rfl within_rfl) rfl)

theorem SameHead.dropFrame {n k : Nat} (hg : ∀ (x : Head) shots, g { x with shots := shots } = g x) (h : SameHead g s0 s) :
    SameHead g s0 (s.dropFrame n k) :=
  SameHead.retire hg h.removeItems.mapTiles

theorem SameHead.dropFrom {n k : Nat} (hg : ∀ (x : Head) shots, g { x with shots := shots } = g x) (h : SameHead g s0 s) :
    SameHead g s0 (s.dropFrom n k) :=
  SameHead.modHead (fun x => hg x _) (h.foldl fun _ _ ht => ht.dropFrame hg)

theorem SameHead.endProcs {opcode object frame head : Nat} {ok : Bool} (h : SameHead g s0 s) :
    SameHead g s0 (s.endProcs opcode object frame head ok) :=
  h.trans (.of_within (State.endProcs_within (P := 49152) rfl within_rfl) rfl)

theorem SameHead.dropEntries {p : Entry → Bool} {cause : Nat} (h : SameHead g s0 s) : SameHead g s0 (s.dropEntries p cause) :=
  h.trans (.of_within (State.dropEntries_within (P := 49152) rfl within_rfl) rfl)

end

/-! ## Events only grow -/

/-- Every event that has been posted is still there. -/
structure MoreEvents (s t : State) : Prop where
  mem : ∀ e ∈ s.cp.events, e ∈ t.cp.events

theorem MoreEvents.refl (s : State) : MoreEvents s s := ⟨fun _ h => h⟩

theorem MoreEvents.trans {s t u : State} (h : MoreEvents s t) (k : MoreEvents t u) : MoreEvents s u := ⟨fun e he => k.mem e (h.mem e he)⟩

theorem MoreEvents.of_events {s t : State} (h : t.cp.events = s.cp.events) : MoreEvents s t := ⟨fun e he => by rwa [h]⟩

theorem MoreEvents.of_within {P : Nat} {s t : State} (h : Within P s t) (hp : P.testBit Part.events.ctorIdx = false) : MoreEvents s t :=
  .of_events (Within.same h .events hp)

section
variable {s0 s : State}

theorem MoreEvents.post {code object origin : Nat} {payload : List Byte} (h : MoreEvents s0 s) : MoreEvents s0 (s.post code object origin payload) :=
  h.trans ⟨fun _ he => List.mem_append_left _ he⟩

theorem MoreEvents.ite {p : Prop} [Decidable p] {t u : State} (ht : MoreEvents s t) (hu : MoreEvents s u) : MoreEvents s (if p then t else u) := by
  split
  · exact ht
  · exact hu

theorem MoreEvents.foldl {β : Type} {f : State → β → State} {l : List β} (hf : ∀ t x, MoreEvents s0 t → MoreEvents s0 (f t x)) (h : MoreEvents s0 s) :
    MoreEvents s0 (l.foldl f s) := keepsAt_foldl (P := MoreEvents s0) hf h

theorem MoreEvents.setMarks {object : Nat} {c : Sparse Nat} (h : MoreEvents s0 s) : MoreEvents s0 (s.setMarks object c) :=
  h.trans (.of_within (State.setMarks_within (P := 16777216) rfl within_rfl) rfl)

theorem MoreEvents.setCells {object : Nat} {c : Sparse Byte} (h : MoreEvents s0 s) : MoreEvents s0 (s.setCells object c) := by
  refine h.trans (.of_events ?_)
  unfold State.setCells
  split
  · rfl
  · split <;> rfl

theorem MoreEvents.memCorrected {object addr : Nat} (h : MoreEvents s0 s) : MoreEvents s0 (s.memCorrected object addr) :=
  MoreEvents.ite (h.trans (.of_events rfl)) (h.trans ⟨fun _ he => List.mem_append_left _ he⟩)

theorem MoreEvents.checkWord {object w : Nat} (h : MoreEvents s0 s) : MoreEvents s0 (s.checkWord object w).2 := by
  unfold State.checkWord
  split
  · exact h
  · exact h.setMarks.memCorrected
  · exact h.trans ⟨fun _ he => List.mem_append_left _ he⟩

theorem MoreEvents.writeWord {object w : Nat} {bytes : List (Bool × Byte)} (h : MoreEvents s0 s) : MoreEvents s0 (s.writeWord object w bytes).2 := by
  unfold State.writeWord
  dsimp only
  split
  · exact h.setMarks.setCells
  · split
    · exact h
    · split
      · exact h.checkWord
      · exact h.checkWord.setCells

theorem MoreEvents.writePart {object a : Nat} {bs : List Byte} (h : MoreEvents s0 s) : MoreEvents s0 (s.writePart object a bs).2 :=
  keepsAt_foldl (P := fun x : Bool × State => MoreEvents s0 x.2) (fun _ _ hx => hx.writeWord) h

theorem MoreEvents.putMem {object a : Nat} {bs : List Byte} (h : MoreEvents s0 s) : MoreEvents s0 (s.putMem object a bs) :=
  (MoreEvents.ite h.writePart h.writePart.setMarks.setCells).writePart

theorem MoreEvents.setFlow {k i : Nat} {f : RxFlow} (h : MoreEvents s0 s) : MoreEvents s0 (s.setFlow k i f) := h.trans (.of_events rfl)

theorem MoreEvents.putSlot {i j : Nat} {d : Slot} (h : MoreEvents s0 s) : MoreEvents s0 (s.putSlot i j d) := by
  unfold State.putSlot
  dsimp only
  split
  · exact h.setFlow.putMem
  · exact h.setFlow

theorem MoreEvents.modHead {n : Nat} {f : Head → Head} (h : MoreEvents s0 s) : MoreEvents s0 (s.modHead n f) := h.trans (.of_events rfl)

theorem MoreEvents.releaseHeld {held : List (Nat × Nat)} (h : MoreEvents s0 s) : MoreEvents s0 (s.releaseHeld held) :=
  h.foldl fun _ _ ht => ht.putSlot

theorem MoreEvents.retire {n : Nat} (h : MoreEvents s0 s) : MoreEvents s0 (s.retire n) :=
  h.foldl fun _ _ ht => MoreEvents.ite ht ht.releaseHeld.modHead

theorem MoreEvents.dropped {no tag cause : Nat} (h : MoreEvents s0 s) : MoreEvents s0 (s.dropped no tag cause) :=
  MoreEvents.post h

theorem MoreEvents.removeItems {p : ItemKey → Bool} (h : MoreEvents s0 s) : MoreEvents s0 (s.removeItems p) :=
  h.trans (.of_within (State.removeItems_within (P := 549755813888) rfl within_rfl) rfl)

theorem MoreEvents.mapTiles {n : Nat} {f : Tile → Tile} (h : MoreEvents s0 s) : MoreEvents s0 (s.mapTiles n f) := h.trans (.of_events rfl)

theorem MoreEvents.dropFrame {n k : Nat} (h : MoreEvents s0 s) : MoreEvents s0 (s.dropFrame n k) :=
  h.removeItems.mapTiles.retire

theorem MoreEvents.dropFrom {n k : Nat} (h : MoreEvents s0 s) : MoreEvents s0 (s.dropFrom n k) := by
  unfold State.dropFrom
  exact MoreEvents.modHead (h.foldl fun _ _ ht => ht.dropFrame)

theorem MoreEvents.dropEntries {p : Entry → Bool} {cause : Nat} (h : MoreEvents s0 s) : MoreEvents s0 (s.dropEntries p cause) :=
  MoreEvents.foldl (fun _ _ ht => ht.dropped) (h.trans (.of_events rfl))

theorem MoreEvents.endProcs {opcode object frame head : Nat} {ok : Bool} (h : MoreEvents s0 s) :
    MoreEvents s0 (s.endProcs opcode object frame head ok) := h.trans ⟨fun _ he => State.mem_endProcs_events he ..⟩

end

end Sys2Proof.Machine
end

section
/-! PROOF. Frames of a head from composition to scan-out (O51). -/

namespace Sys2Proof.Machine

open Sys2Proof.Safety Sys2Proof.Laws

/-! ## Composition -/

/-- The configuration of a head and the frames that it has composed. -/
def Head.frames (h : Head) : Option HeadConfigP × List Nat := (h.cfg, h.shots.map (fun x => x.frame))

theorem State.retire_sameFrames {s0 s : State} {n : Nat} (h : SameHead Head.frames s0 s) : SameHead Head.frames s0 (s.retire n) := by
  refine h.foldl fun t x ht => SameHead.ite ht (SameHead.modHead (fun y => ?_)
    (ht.trans (.of_within (State.releaseHeld_within (P := 2166374400) rfl within_rfl) rfl)))
  rw [Head.frames, Head.frames, List.map_map]
  refine congrArg (Prod.mk y.cfg) (List.map_congr_left fun z _ => ?_)
  dsimp only [Function.comp]
  split <;> rfl

theorem State.postTiles_sameFrames {s0 s : State} {n : Nat} {x : FrameShot} {ordered : Bool} (h : SameHead Head.frames s0 s) :
    SameHead Head.frames s0 (s.postTiles n x ordered) :=
  h.foldl fun _ _ ht => ht.foldl fun _ _ hu => SameHead.modHead (fun _ => rfl) (hu.trans (.of_heads rfl))

/-- The composition of the layers of a head. -/
def State.composeLayers (s : State) (n k : Nat) : List (Nat × LayerShot) × State :=
  (List.range 16).foldl (fun acc m =>
    let r := acc.2.layerFrame { kind := 0, index := 16 * n + m } (acc.2.layer (16 * n + m)).cfg k
    (acc.1 ++ [(m, r.1)], r.2)) ([], s)

theorem State.composeLayers_heads (s : State) (n k : Nat) : (s.composeLayers n k).2.heads = s.heads :=
  keepsAt_foldl (P := fun x : List (Nat × LayerShot) × State => x.2.heads = s.heads)
    (fun x _ hx => ((State.layerFrame_within (P := 35210141908992) rfl (within_rfl (s := x.2))).same .heads rfl).trans hx) rfl

/-- The composition of the layers, and what the other one of a pair is told of it. -/
def State.composeSent (s : State) (n k : Nat) : State :=
  if (s.composeLayers n k).2.pairActive then (s.composeLayers n k).2.sendMsg 0x09 ((s.composeLayers n k).2.selectBytes k (s.composeLayers n k).1)
  else (s.composeLayers n k).2

theorem State.composeSent_heads (s : State) (n k : Nat) : (s.composeSent n k).heads = s.heads := by
  unfold State.composeSent
  split
  · exact ((State.sendMsg_within (P := 17592186044416) rfl within_rfl).same .heads rfl).trans (s.composeLayers_heads n k)
  · exact s.composeLayers_heads n k

/-- The frame that a view of the head shows. -/
def State.viewShot (s : State) (n k i : Nat) (ys : List LayerShot) : FrameShot :=
  { frame := k + i, view := i, layers := ys, background := (s.head n).picture.background, tluts := (s.head n).picture.tluts,
    eluts := (s.head n).picture.eluts, peak := (s.head n).picture.peak, held := ys.flatMap (fun y => y.reads), leases := s.leasesOf ys }

/-- The composition of one view. -/
def State.composeView (s : State) (n k i : Nat) (ys : List LayerShot) : State :=
  ((((s.holdSlots (ys.flatMap (fun y => y.reads))).useLeases n (k + i) (s.leasesOf ys)).modHead n
    (fun h => { h with shots := h.shots ++ [s.viewShot n k i ys] })).postTiles n (s.viewShot n k i ys) (s.firstOrdered n ys))

/-- The enabled layers of a composition in their order of depth. -/
def State.composeOn (s : State) (n k : Nat) : List (Nat × LayerShot) :=
  sortBy (fun (a b : Nat × LayerShot) => decide (layerZ a.1 a.2.cfg ≤ layerZ b.1 b.2.cfg)) ((s.composeLayers n k).1.filter (fun x => x.2.cfg.enable))

/-- The layers that a view shows. -/
def State.viewLayers (s : State) (n k i : Nat) : List LayerShot :=
  ((s.composeOn n k).filter (fun x => !(s.head n).inViews || bit x.2.cfg.views i)).map (fun x => x.2)

theorem State.composeFrame_eq (s : State) (n k : Nat) : s.composeFrame n k =
    ((((List.range (s.head n).nViews).foldl (fun t i => t.composeView n k i (s.viewLayers n k i)) (s.composeSent n k)).markPresents n
      ((s.composeOn n k).map (fun x => x.2))).pruneC n).retire n := by
  unfold State.composeFrame State.composeView State.viewShot State.viewLayers State.composeOn State.composeSent State.composeLayers
  dsimp only

/-- A view that is composed is a frame of the head. -/
theorem State.composeView_frames (s : State) (n k i : Nat) (ys : List LayerShot) :
    ((s.composeView n k i ys).head n).frames = ((s.head n).cfg, (s.head n).shots.map (fun x => x.frame) ++ [k + i]) := by
  obtain ⟨u, hu⟩ : ∃ u, u = (s.holdSlots (ys.flatMap (fun y => y.reads))).useLeases n (k + i) (s.leasesOf ys) := ⟨_, rfl⟩
  have hheads : u.heads = s.heads := by
    rw [hu]
    exact (State.useLeases_within (P := 70885851136) rfl (State.holdSlots_within rfl within_rfl)).same .heads rfl
  have hhead : u.head n = s.head n := by rw [State.head, hheads, State.head]
  rw [State.composeView, ← hu, (State.postTiles_sameFrames (SameHead.refl _)).eq, State.modHead_head, hhead, Head.frames, List.map_append]
  rfl

/-- A head with one view composes a frame once. -/
theorem State.composeFrame_shot {s : State} {n k : Nat} {c : HeadConfigP} (hcfg : (s.head n).cfg = some c) (hviews : (s.head n).nViews = 1) :
    ((s.composeFrame n k).head n).cfg = some c ∧ k ∈ ((s.composeFrame n k).head n).shots.map (fun x => x.frame) := by
  have hrest : SameHead Head.frames ((s.composeSent n k).composeView n k 0 (s.viewLayers n k 0)) (s.composeFrame n k) := by
    rw [State.composeFrame_eq, hviews]
    exact State.retire_sameFrames (.of_within (P := 558345748480) (State.pruneC_within rfl (State.markPresents_within rfl within_rfl)) rfl)
  have hframes := (hrest.eq n).trans (State.composeView_frames ..)
  rw [show (s.composeSent n k).head n = s.head n by rw [State.head, State.composeSent_heads, State.head], hcfg, Head.frames,
    Prod.mk.injEq] at hframes
  obtain ⟨hcfg', hshots⟩ := hframes
  refine ⟨hcfg', ?_⟩
  rw [hshots]
  exact List.mem_append_right _ (List.mem_singleton_self k)

theorem State.assignFrames_of_nil {s : State} (h : s.cp.launch = []) (n k : Nat) (ek prev : Option Nat) : s.assignFrames n k ek prev = s := by
  rw [State.assignFrames, h, List.map_nil, ← h]

theorem dueEntries_nil (mine : Entry → Bool) (ek prev : Option Nat) : dueEntries [] mine ek prev = [] := rfl

theorem State.applyHead_of_nil {s : State} (h : s.cp.launch = []) (n k : Nat) : s.applyHead n k = s := by
  unfold State.applyHead
  dsimp only
  rw [State.assignFrames_of_nil h, h, dueEntries_nil, List.foldl_nil]

theorem State.applyOutput_of_nil {s : State} (h : s.cp.launch = []) (n k : Nat) : s.applyOutput n k = s := by
  unfold State.applyOutput
  dsimp only
  rw [h, dueEntries_nil, List.foldl_nil]

/-- The composition of a head that no command waits for. -/
theorem State.composeHead_of_normal {s : State} {n : Nat} {c : HeadConfigP} (hcomposes : (s.head n).composes = true) (hcfg : (s.head n).cfg = some c)
    (hscan : c.scanMode = 0) (hnext : (s.head n).scan.nextCfg = none) (hlaunch : s.cp.launch = []) (hdeferred : s.deferredOf n = []) :
    s.composeHead n = ({ s.composeFrame n (s.head n).scan.nextCompose with
      sync := { (s.composeFrame n (s.head n).scan.nextCompose).sync with selects := none, selectWaited := false } } : State).modHead n
        (fun h => { h with scan := { h.scan with nextCompose := (s.head n).scan.nextCompose + h.nViews } }) := by
  have hepoch : ((s.head n).epochOf (s.head n).scan.nextCompose).isNone = false := by simp [Head.epochOf, hcfg, hscan]
  unfold State.composeHead
  dsimp only
  rw [if_neg (by simp [hcomposes, hnext, hepoch]), if_pos hcomposes, hdeferred, List.foldl_nil, State.applyHead_of_nil hlaunch,
    if_neg (by simp [hcomposes]), if_pos hcomposes]

/-- A transmit output with a frame more to do. -/
def Output.composed (o : Output) (frame slot next items : Nat) : Output :=
  { o with frame := frame + 1, slotNext := next, itemsLeft := o.itemsLeft ++ [(frame, slot, items)] }

/-- The composition of a transmit output that no command waits for. -/
theorem State.composeOutput_of_idle {s : State} {i : Nat} {c : OutputSetP} (hcfg : (s.output i).cfg = some c)
    (hdeferred : (s.output i).route.deferred = none) (hlaunch : s.cp.launch = []) : ∃ (u : State) (slot next : Nat) (shots : Sparse (List FrameShot)),
      s.composeOutput i = { u.setOutput i ((u.output i).composed (s.output i).frame slot next ((outputItems c).1 * (outputItems c).2)) with
        outShots := shots } := by
  have hretry : s.routeRetry { kind := 1, index := i } (s.output i).frame = s := by
    rw [State.routeRetry, show (s.dest { kind := 1, index := i }).deferred = none from hdeferred]
  unfold State.composeOutput
  dsimp only
  rw [if_neg (by simp [hcfg]), hretry, State.applyOutput_of_nil hlaunch, hcfg]
  dsimp only
  rw [if_neg (not_not_intro rfl)]
  exact ⟨_, _, _, _, rfl⟩

/-! ## Latch points -/

/-- What a latch point reads of a head, and does not change before the frame is latched. -/
structure LatchPart where
  state : Nat
  cfg : Option HeadConfigP
  views : List ViewP
  scan : Scan
  active : PanelSet
  allowed : Nat

def Head.latchPart (h : Head) : LatchPart := ⟨h.state, h.cfg, h.views, h.scan, h.panel.active, h.ledger.allowed⟩

theorem Head.of_latchPart {a b : Head} (h : a.latchPart = b.latchPart) : a.state = b.state ∧ a.cfg = b.cfg ∧ a.scan = b.scan ∧
    a.panel.active = b.panel.active ∧ a.ledger.allowed = b.ledger.allowed :=
  ⟨congrArg LatchPart.state h, congrArg LatchPart.cfg h, congrArg LatchPart.scan h, congrArg LatchPart.active h, congrArg LatchPart.allowed h⟩

theorem Ledger.warmCut_allowed (l : Ledger) : l.warmCut.allowed = l.allowed := by
  unfold Ledger.warmCut
  split <;> rfl

theorem State.bandLatch_samePart {s0 s : State} {n k : Nat} (h : SameHead Head.latchPart s0 s) : SameHead Head.latchPart s0 (s.bandLatch n k) := by
  unfold State.bandLatch
  dsimp only
  have hset : ∀ therm, SameHead Head.latchPart s0 (s.setHead n { s.head n with therm := therm }) := fun _ => h.setHead rfl
  exact SameHead.ite (hset _) (SameHead.post (hset _))

theorem State.bypassFaulty_samePart {s0 s : State} {n : Nat} (h : SameHead Head.latchPart s0 s) : SameHead Head.latchPart s0 (s.bypassFaulty n) :=
  SameHead.foldl (fun _ _ ht => ht.trans (.of_heads rfl)) (h.modHead fun _ => rfl)

/-- The state of a latch point with no frame given, before the frame is latched. -/
def State.latchReady (s : State) (n k : Nat) : State :=
  ((s.modHead n (fun h => { h with ledger := h.ledger.warmCut })).bandLatch n k).bypassFaulty n

theorem State.latchReady_samePart (s : State) (n k : Nat) : SameHead Head.latchPart s (s.latchReady n k) := by
  refine State.bypassFaulty_samePart (State.bandLatch_samePart (SameHead.modHead (fun x => ?_) (SameHead.refl s)))
  unfold Head.latchPart
  dsimp only
  rw [Ledger.warmCut_allowed]

/-- The error of VCOM that a latched frame takes. -/
def Head.latchE (h : Head) : Int := if h.vcom.cfg.senseEnable = 1 ∧ h.vcom.fault = false then h.vcom.e else 0

/-- The state of a latch point once the other one of a pair knows it. -/
def State.latchSent (s : State) (n k : Nat) : State :=
  if (s.latchReady n k).pairActive then (s.latchReady n k).sendMsg 0x08 (((s.latchReady n k).head n).latchBytes k ((s.latchReady n k).head n).latchE)
  else s.latchReady n k

theorem State.latchSent_samePart (s : State) (n k : Nat) : SameHead Head.latchPart s (s.latchSent n k) :=
  SameHead.ite (s.latchReady_samePart n k).sendMsg (s.latchReady_samePart n k)

/-- A latch point that latches one normal frame. -/
theorem State.latchFrames_of_normal {s : State} {n k : Nat} {clock : LineClock} (hkind : ((s.latchReady n k).head n).kindNext = 0)
    (hviews : ((s.latchReady n k).head n).nViews = 1) (hscans : ((s.latchReady n k).head n).scansFrame k = true)
    (hclock : (s.latchSent n k).clockOf n (k + 0) ((s.latchSent n k).head n).bandNow = some clock) : ∃ warmN e,
      s.latchFrames n k none = ((s.latchSent n k).latchOne n k 0 0 warmN e clock).modHead n (fun h => { h with
        scan := { h.scan with nextLatch := k + 1, transition := h.scan.transition - 1 } }) := by
  refine ⟨((s.latchReady n k).head n).ledger.warmCount + 0, ((s.latchReady n k).head n).latchE, ?_⟩
  unfold State.latchSent Head.latchE at hclock ⊢
  unfold State.latchFrames
  dsimp only
  rw [show ((s.modHead n fun h => { h with ledger := h.ledger.warmCut }).bandLatch n k).bypassFaulty n = s.latchReady n k from rfl, hkind, hviews,
    if_pos hscans]
  rw [if_neg (by decide : ¬ (0 : Nat) = 2), show List.range 1 = [0] from rfl, List.foldl_cons, List.foldl_nil,
    if_neg (by decide : ¬ (0 : Nat) = 2), hclock]
  rfl

/-- The frame that is latched. -/
theorem State.latchOne_spec (s : State) (n k i kind w : Nat) (e : Int) (clock : LineClock) :
    ((s.latchOne n k i kind w e clock).head n).panel = (s.head n).panel ∧ ((s.latchOne n k i kind w e clock).head n).therm = (s.head n).therm ∧
    ∃ l, ((s.latchOne n k i kind w e clock).head n).scan.latched.getLast? = some l ∧ l.frame = k + i ∧ l.kind = kind ∧ l.clock = clock ∧
      l.lines = s.linesOf n k i kind clock ∧ l.set = (s.head n).panel.active ∧ l.band = (s.head n).bandNow ∧ l.allowed = (s.head n).ledger.allowed := by
  unfold State.latchOne
  dsimp only
  rw [State.setHead_head]
  refine ⟨rfl, rfl, _, List.getLast?_concat, ?_⟩
  split <;> exact ⟨rfl, rfl, rfl, rfl, rfl, rfl, rfl⟩

/-- The state in which a latch point begins. -/
def State.latchBegun (s : State) : State := { s with sync := { s.sync with latchFor := none, latchWaited := false } }

theorem State.latchBegun_head (s : State) (n : Nat) : s.latchBegun.head n = s.head n := rfl

theorem State.latchHead_eq (s : State) (n : Nat) (given : Option LatchGiven) : s.latchHead n given =
    if !(s.latchBegun.head n).scans || (s.latchBegun.head n).scan.parking ||
        (s.latchBegun.clockOf n (s.latchBegun.head n).scan.nextLatch (s.latchBegun.head n).bandNow).isNone then s.latchBegun
    else if (s.latchBegun.head n).state = 5 then
      (if (s.latchBegun.head n).scan.stopFrame = some (s.latchBegun.head n).scan.nextLatch
        then s.latchBegun.latchFrames n (s.latchBegun.head n).scan.nextLatch given else s.latchBegun)
    else if (s.latchBegun.head n).scan.nextCfg.isSome then s.latchBegun
    else match s.latchBegun.latchDue n (s.latchBegun.head n).scan.nextLatch true with
      | e :: _ => s.latchBegun.applyTiming n (s.latchBegun.head n).scan.nextLatch e
      | [] => (s.latchBegun.latchEntries n (s.latchBegun.head n).scan.nextLatch).latchFrames n (s.latchBegun.head n).scan.nextLatch given := rfl

theorem State.latchDue_of_nil {s : State} (h : s.cp.launch = []) (n k : Nat) (timing : Bool) : s.latchDue n k timing = [] := by
  rw [State.latchDue, h]
  rfl

theorem State.clockOf_of_normal {s : State} {n k band : Nat} {c : HeadConfigP} (hcfg : (s.head n).cfg = some c) (hscan : c.scanMode = 0) :
    s.clockOf n k band = some (normalClock c k) := by
  have hviews : (s.head n).inViews = false := by simp [Head.inViews, hcfg, hscan]
  unfold State.clockOf
  dsimp only
  rw [hcfg]
  dsimp only
  rw [hviews, if_neg Bool.false_ne_true, if_neg (by omega)]

theorem State.linesOf_of_normal {s : State} {n k i kind : Nat} {c : HeadConfigP} (clock : LineClock) (hcfg : (s.head n).cfg = some c)
    (hscan : c.scanMode = 0) : s.linesOf n k i kind clock = c.vtotal := by
  have hviews : (s.head n).inViews = false := by simp [Head.inViews, hcfg, hscan]
  unfold State.linesOf
  dsimp only
  rw [hcfg]
  dsimp only
  rw [hviews, if_neg Bool.false_ne_true, if_neg (by omega)]

/-- The latch point of a head that scans and that no command waits for. -/
theorem State.latchHead_of_normal {s : State} {n : Nat} {c : HeadConfigP} (hstate : (s.head n).state = 3) (hcfg : (s.head n).cfg = some c)
    (hscan : c.scanMode = 0) (hparking : (s.head n).scan.parking = false) (hnext : (s.head n).scan.nextCfg = none)
    (htransition : (s.head n).scan.transition = 0) (hlaunch : s.cp.launch = []) : ∃ warmN e, s.latchHead n none =
      ((s.latchBegun.latchSent n (s.head n).scan.nextLatch).latchOne n (s.head n).scan.nextLatch 0 0 warmN e
        (normalClock c ((s.head n).scan.nextLatch + 0))).modHead n (fun h => { h with
          scan := { h.scan with nextLatch := (s.head n).scan.nextLatch + 1, transition := h.scan.transition - 1 } }) := by
  have hready := (s.latchBegun.latchReady_samePart n (s.head n).scan.nextLatch).eq n
  have hsent := (s.latchBegun.latchSent_samePart n (s.head n).scan.nextLatch).eq n
  rw [State.latchBegun_head] at hready hsent
  obtain ⟨hstate', hcfg', hscan', -, -⟩ := Head.of_latchPart hready
  obtain ⟨-, hsentCfg, -, -, -⟩ := Head.of_latchPart hsent
  have hclock : s.latchBegun.clockOf n (s.head n).scan.nextLatch (s.head n).bandNow = some (normalClock c (s.head n).scan.nextLatch) :=
    State.clockOf_of_normal hcfg hscan
  have hkind : ((s.latchBegun.latchReady n (s.head n).scan.nextLatch).head n).kindNext = 0 := by simp [Head.kindNext, hstate', hscan', hstate, htransition]
  have hviews : ((s.latchBegun.latchReady n (s.head n).scan.nextLatch).head n).nViews = 1 := by simp [Head.nViews, hcfg', hcfg, hscan]
  have hframe : ((s.latchBegun.latchReady n (s.head n).scan.nextLatch).head n).scansFrame (s.head n).scan.nextLatch = true := by
    simp [Head.scansFrame, hstate', hstate]
  have hnow := State.clockOf_of_normal (k := (s.head n).scan.nextLatch + 0)
    (band := ((s.latchBegun.latchSent n (s.head n).scan.nextLatch).head n).bandNow) (hsentCfg.trans hcfg) hscan
  obtain ⟨warmN, e, hframes⟩ := State.latchFrames_of_normal hkind hviews hframe hnow
  refine ⟨warmN, e, ?_⟩
  have hlaunch' : s.latchBegun.cp.launch = [] := hlaunch
  have hentries : s.latchBegun.latchEntries n (s.head n).scan.nextLatch = s.latchBegun := by
    rw [State.latchEntries, State.latchDue_of_nil hlaunch', List.foldl_nil]
  rw [← hframes, State.latchHead_eq, State.latchBegun_head, hclock, hparking, if_neg (by simp [Head.scans, hstate]), if_neg (by omega), hnext,
    if_neg (by simp), State.latchDue_of_nil hlaunch', hentries]

/-! ## Lines -/

/-- What a line start reads of a head, and does not change before the line is counted. -/
structure LinePart where
  frame : Nat
  cfg : Option HeadConfigP
  gate : Gate
  ready : List (Nat × Nat)

def Head.linePart (h : Head) : LinePart := ⟨h.scan.frame, h.cfg, h.gateNow, h.scan.ready⟩

/-- The state of a line start with the phase sent and new watermarks taken. -/
def State.lineReady (s : State) (n : Nat) (l : Latched) : State :=
  match (s.head n).allot.nextWm with
  | some (low, crit) => ((s.redriveNets n).sendPhase l (s.head n).scan.line).modHead n
      (fun h => { h with allot := { h.allot with low := low, crit := crit, nextWm := none } })
  | none => (s.redriveNets n).sendPhase l (s.head n).scan.line

/-- The state of a line start with the line sent, the tiles that are bad and whether the line was driven. -/
def State.lineSent (s : State) (n : Nat) (l : Latched) : State × List Nat × Bool :=
  if (s.head n).scan.line < (s.head n).hh then (s.lineReady n l).activeLine n l (s.head n).scan.line
  else ((s.lineReady n l).blankLine n l (s.head n).scan.line, [], false)

/-- The state of a line start with the checks of the drive codes taken. -/
def State.lineChecked (s : State) (n : Nat) (l : Latched) : State :=
  (s.lineSent n l).1.driveChecks n l (s.lineSent n l).2.1 (s.head n).scan.line (!(s.lineSent n l).2.2)

theorem State.lineReady_samePart (s : State) (n : Nat) (l : Latched) : SameHead Head.linePart s (s.lineReady n l) := by
  have hredrive : SameHead Head.linePart s (s.redriveNets n) := SameHead.ite (SameHead.modHead (fun _ => rfl) (.of_heads rfl)) (SameHead.refl s)
  have hphase : SameHead Head.linePart s ((s.redriveNets n).sendPhase l (s.head n).scan.line) :=
    hredrive.trans (.of_within (State.sendPhase_within (P := 17592186044416) rfl within_rfl) rfl)
  unfold State.lineReady
  split
  · exact hphase.modHead fun _ => rfl
  · exact hphase

/-- A line start with no new configuration waiting counts the line and pulses the gates. -/
theorem State.startLine_of_still {s : State} {n : Nat} {l : Latched} (hnext : (s.head n).scan.nextCfg = none) : ∃ pre, s.startLine n l =
    (s.lineChecked n l).modHead n (fun h => { h with
      pins := h.pins.pulse h.gateNow h.hh (s.head n).scan.line (s.lineSent n l).2.2 pre, scan := { h.scan with line := (s.head n).scan.line + 1 } }) := by
  unfold State.startLine State.lineChecked State.lineSent State.lineReady
  dsimp only
  rw [hnext]
  exact ⟨_, if_neg Bool.false_ne_true⟩

theorem State.driveChecks_samePart {s0 s : State} {n y : Nat} {l : Latched} {bad : List Nat} {skipped : Bool} (h : SameHead Head.linePart s0 s) :
    SameHead Head.linePart s0 (s.driveChecks n l bad y skipped) := by
  unfold State.driveChecks
  exact h.modHead fun _ => rfl

/-- A line below the picture leaves the head. -/
theorem State.lineChecked_of_blank {s : State} {n : Nat} {l : Latched} (hline : (s.head n).hh ≤ (s.head n).scan.line) :
    SameHead Head.linePart s (s.lineChecked n l) := by
  refine State.driveChecks_samePart ?_
  rw [State.lineSent, if_neg (Nat.not_lt.2 hline)]
  exact (s.lineReady_samePart n l).trans (.of_within (State.blankLine_within (P := 2199224582144) rfl within_rfl) rfl)

/-- A line of a row that is ready is driven. -/
theorem State.activeLine_of_ready {s : State} {n y : Nat} {l : Latched} (hready : (s.head n).scan.ready.contains (l.frame, y / 8) = true) :
    SameHead Head.linePart s (s.activeLine n l y).1 ∧ (s.activeLine n l y).2.2 = true := by
  have hsettled : (s.head n).settled l.frame (y / 8) = true := by rw [Head.settled, hready, Bool.true_or]
  unfold State.activeLine
  dsimp only
  rw [if_pos hsettled, if_pos hready]
  refine ⟨SameHead.trans (t := (s.badColumns n l y).2) ?_ ?_, rfl⟩
  · exact .of_within (State.badColumns_within (P := 16793600) rfl within_rfl) rfl
  · exact .of_within (State.sendLine_within (P := 2199023255552) rfl within_rfl) rfl

/-- A line of a row that is ready leaves the rest of the head. -/
theorem State.lineChecked_of_ready {s : State} {n : Nat} {l : Latched} (hline : (s.head n).scan.line < (s.head n).hh)
    (hready : (s.head n).scan.ready.contains (l.frame, (s.head n).scan.line / 8) = true) :
    SameHead Head.linePart s (s.lineChecked n l) ∧ (s.lineSent n l).2.2 = true := by
  have hpart := s.lineReady_samePart n l
  obtain ⟨hsame, hdriven⟩ := State.activeLine_of_ready (s := s.lineReady n l) (n := n) (l := l) (y := (s.head n).scan.line)
    (by rw [show ((s.lineReady n l).head n).scan.ready = (s.head n).scan.ready from congrArg LinePart.ready (hpart.eq n)]; exact hready)
  refine ⟨State.driveChecks_samePart ?_, ?_⟩
  · rw [State.lineSent, if_pos hline]
    exact hpart.trans hsame
  · rw [State.lineSent, if_pos hline]
    exact hdriven

/-- A line start of a head whose frame goes on. -/
theorem exec_lineStart {s : State} {n : Nat} {l : Latched} (hscans : (s.head n).scans = true) (hparking : (s.head n).scan.parking = false)
    (hdone : (s.head n).frameDone = false) (hlatched : (s.head n).latchedOf (s.head n).scan.frame = some l) :
    exec (.lineStart n) s = .next (s.startLine n l) := by
  refine congrArg Host.Outcome.next ((if_neg ?_).trans ?_)
  · rw [hscans, hparking]
    decide
  · dsimp only
    rw [if_neg (by rw [hdone]; decide), hlatched]
    exact if_neg (by rw [hdone]; decide)

/-- What is left of a line once it is sent: the pulse of the gates and the count. -/
theorem State.startLine_spec {s : State} {n : Nat} {l : Latched} (hlatched : (s.head n).latchedOf (s.head n).scan.frame = some l)
    (hnext : (s.head n).scan.nextCfg = none) (hsame : SameHead Head.linePart s (s.lineChecked n l)) :
    ((s.startLine n l).head n).scan.frame = l.frame ∧ ((s.startLine n l).head n).scan.line = (s.head n).scan.line + 1 ∧
    ((s.startLine n l).head n).pins.goe = (decide ((s.head n).scan.line < (s.head n).hh) && (s.lineSent n l).2.2) ∧
    ((s.startLine n l).head n).pins.gck = if (s.head n).scan.line < (s.head n).hh + (s.head n).gateNow.flush
      then 2 ^ ((s.head n).scan.line % max 1 (s.head n).gateNow.phases) else 0 := by
  obtain ⟨pre, hline⟩ := State.startLine_of_still (l := l) hnext
  have hframe : l.frame = (s.head n).scan.frame := by simpa using List.find?_some hlatched
  have hpart := hsame.eq n
  generalize s.lineChecked n l = u at hline hpart
  have hcfg : (u.head n).hh = (s.head n).hh := by rw [Head.hh, show (u.head n).cfg = (s.head n).cfg from congrArg LinePart.cfg hpart, Head.hh]
  have hgate : (u.head n).gateNow = (s.head n).gateNow := congrArg LinePart.gate hpart
  rw [hline, State.modHead_head, hgate, hcfg]
  exact ⟨(congrArg LinePart.frame hpart).trans hframe.symm, rfl, rfl, rfl⟩

/-! ## The end of a head's frames -/

/-- What a stop makes of a head. -/
def Head.stopPart (h : Head) : Nat × Option Nat := (h.state, h.scan.stopFrame)

/-- A stop that is accepted: the head is stopping at its next latch point, and what is posted stays. -/
theorem State.stopHead_spec {s : State} {n : Nat} (hstop : (s.head n).stoppable = true) :
    ((s.stopHead n).head n).stopPart = (5, some (s.head n).scan.nextLatch) ∧ MoreEvents s (s.stopHead n) := by
  obtain ⟨u, hu⟩ : ∃ u, u = s.modHead n (fun h => { h with
    state := 5, ledger := { h.ledger with warmEnding := false }, scan := { h.scan with stopFrame := some (s.head n).scan.nextLatch } }) := ⟨_, rfl⟩
  have hpart : (u.head n).stopPart = (5, some (s.head n).scan.nextLatch) := by
    rw [hu, State.modHead_head]
    rfl
  have hevents : MoreEvents s u := by
    rw [hu]
    exact .of_events rfl
  have hhead : SameHead Head.stopPart u ((u.dropFrom n (s.head n).scan.nextLatch).endProcs 0x0708 n 0 n false) :=
    SameHead.endProcs (SameHead.dropFrom (fun _ _ => rfl) (SameHead.refl u))
  have hmore : MoreEvents s ((u.dropFrom n (s.head n).scan.nextLatch).endProcs 0x0708 n 0 n false) := hevents.dropFrom.endProcs
  unfold State.stopHead
  dsimp only
  rw [if_neg (by rw [hstop]; decide), ← hu]
  refine ⟨?_, MoreEvents.ite hmore.dropEntries hmore.dropEntries.modHead⟩
  refine (SameHead.eq (s := u) ?_ n).trans hpart
  exact SameHead.ite hhead.dropEntries (SameHead.modHead (fun _ => rfl) hhead.dropEntries)

/-- Settles O51. -/
theorem framesAreComposedLatchedAndScanned : Obligations.FramesAreComposedLatchedAndScanned := by
  refine fun s n hn => ⟨fun m c hm hselect hstate hcfg hscan hnext hlaunch hdeferred => ?composeHead,
    fun i c hi hcfg hdeferred hlaunch => ?composeOutput, fun d hdest hfill hkind hlost => ?loss,
    fun c hstate hcfg hscan hparking hnext htransition hstandby hlaunch => ?latch,
    fun l hscans hparking hdone hlatched hnext => ⟨fun hblank => ?blank, fun hactive hready => ?active⟩,
    fun hstate hmode hsource => ?enter, fun hstate => ?exit, fun c hcfg hscan hscans hdue => ?again, fun hstop hstalled => ?stall⟩
  case composeHead =>
    have hviews : (s.head n).nViews = 1 := by simp [Head.nViews, hcfg, hscan]
    have hcomposes : (s.head n).composes = true := by simp [Head.composes, hstate]
    obtain ⟨hcfg', hshots⟩ := State.composeFrame_shot (k := (s.head n).scan.nextCompose) hcfg hviews
    have hrun : exec (.compositionStart { kind := 0, index := 16 * n + m }) s = .next (s.composeHead n) := by
      refine congrArg Host.Outcome.next ((if_neg ?_).trans ((if_neg ?_).trans ((if_neg ?_).trans ?_)))
      · simp only [destOk]
        simp
        omega
      · exact Nat.zero_ne_one
      · rw [show destHead { kind := 0, index := 16 * n + m } = n by simp only [destHead]; omega, hselect]
        decide
      · rw [show destHead { kind := 0, index := 16 * n + m } = n by simp only [destHead]; omega]
    refine ⟨_, hrun, ?_⟩
    rw [State.composeHead_of_normal hcomposes hcfg hscan hnext hlaunch hdeferred, State.modHead_head]
    generalize s.composeFrame n (s.head n).scan.nextCompose = u at hcfg' hshots ⊢
    obtain ⟨x, hx, hframe⟩ := List.mem_map.1 hshots
    refine ⟨?_, x, hx, hframe⟩
    change _ + (u.head n).nViews = _
    rw [Head.nViews, hcfg']
    simp [hscan]
  case composeOutput =>
    obtain ⟨u, slot, next, shots, hcompose⟩ := State.composeOutput_of_idle hcfg hdeferred hlaunch
    refine ⟨_, slot, congrArg Host.Outcome.next ((if_neg ?_).trans ((if_pos rfl).trans hcompose)), ?_⟩
    · simp [destOk, hi]
    · have hset := State.setOutput_output (s := u) i ((u.output i).composed (s.output i).frame slot next ((outputItems c).1 * (outputItems c).2))
      exact ⟨congrArg Output.frame hset, (congrArg (fun o : Output => o.itemsLeft.getLast?) hset).trans List.getLast?_concat⟩
  case loss =>
    exact congrArg Host.Outcome.next (if_pos (by rw [hdest, hfill, hkind, hlost]; rfl))
  case latch =>
    obtain ⟨warmN, e, hframes⟩ := State.latchHead_of_normal (n := n) hstate hcfg hscan hparking hnext htransition hlaunch
    have hsent := (s.latchBegun.latchSent_samePart n (s.head n).scan.nextLatch).eq n
    rw [State.latchBegun_head] at hsent
    generalize s.latchBegun.latchSent n (s.head n).scan.nextLatch = u at hframes hsent
    obtain ⟨-, hcfg', -, hset, hallowed⟩ := Head.of_latchPart hsent
    obtain ⟨hpanel, htherm, l, hlast, hframe, hkind, hclock, hlines, hactive, hband, hledger⟩ :=
      u.latchOne_spec n (s.head n).scan.nextLatch 0 0 warmN e (normalClock c ((s.head n).scan.nextLatch + 0))
    refine ⟨s.latchHead n none, l, ?_, ?_⟩
    · refine congrArg Host.Outcome.next ((if_neg ?_).trans ((if_neg ?_).trans ?_))
      · simp [Head.scans, hstate]
      · rw [hstandby]
        exact Bool.false_ne_true
      · rw [hstandby]
        rfl
    · rw [hframes, State.modHead_head]
      refine ⟨rfl, hlast, hframe, hkind, hclock.trans (by rw [hframe]), hlines.trans (State.linesOf_of_normal _ (hcfg'.trans hcfg) hscan), hactive.trans hset,
        hband.trans ?_, hledger.trans hallowed⟩
      unfold Head.bandNow
      dsimp only
      rw [htherm, hpanel]
  case blank =>
    obtain ⟨hframe, hline, hgoe, hgck⟩ := State.startLine_spec hlatched hnext (State.lineChecked_of_blank hblank)
    exact ⟨_, exec_lineStart hscans hparking hdone hlatched, hframe, hline, hgoe.trans (by simp [Nat.not_lt.mpr hblank]), hgck⟩
  case active =>
    obtain ⟨hsame, hdriven⟩ := State.lineChecked_of_ready hactive (List.contains_iff_mem.2 hready)
    obtain ⟨hframe, hline, hgoe, hgck⟩ := State.startLine_spec hlatched hnext hsame
    exact ⟨_, exec_lineStart hscans hparking hdone hlatched, hframe, hline, hgoe.trans (by simp [hactive, hdriven]),
      hgck.trans (if_pos (Nat.lt_add_right _ hactive))⟩
  case enter =>
    exact congrArg Host.Outcome.next (if_pos (by simp [hstate, hmode, hsource]))
  case exit =>
    exact congrArg Host.Outcome.next (if_pos (by simp [hstate]))
  case again =>
    refine congrArg Host.Outcome.next ?_
    dsimp only
    rw [hcfg]
    refine if_pos ?_
    rw [Head.follows, hcfg, hscans, followMax, decide_eq_true hdue]
    simp [hscan]
  case stall =>
    have hrun : exec (.headStall n) s = .next ((s.post 0xE061 n 0 (leBytes 4 (s.head n).scan.frame)).stopHead n) :=
      congrArg Host.Outcome.next (if_pos (by rw [hstop, hstalled]; rfl))
    obtain ⟨hpart, hevents⟩ := State.stopHead_spec (s := s.post 0xE061 n 0 (leBytes 4 (s.head n).scan.frame)) hstop
    obtain ⟨hstate, hframe⟩ := Prod.mk.injEq .. ▸ hpart
    exact ⟨_, hrun, hstate, hframe, _, hevents.mem _ (List.mem_append_right _ (List.mem_singleton_self _)), rfl, rfl, rfl⟩

end Sys2Proof.Machine
end

section
/-! PROOF. Stops, parks, check results, thermistor and VCOM loop (O52). -/

namespace Sys2Proof.Machine

open Sys2Proof.Safety Sys2Proof.Laws

/-! ## Frames that end -/

theorem State.advance_head (s : State) (n : Nat) (l : Latched) : ((s.advance n l).head n).scan.frame = l.frame ∧
    ((s.advance n l).head n).scan.line = 0 ∧ ((s.advance n l).head n).scan.balance = (l.kind == 2) := by
  have hforget : ∀ (t : State) (p : Nat → Bool), (t.forgetItems n p).head n = t.head n := fun _ _ => rfl
  unfold State.advance
  dsimp only
  rw [hforget, State.modHead_head]
  exact ⟨rfl, rfl, rfl⟩

/-- A head whose park discharge begins. -/
def Head.parkBegun (most : Nat) (h : Head) : Head :=
  { h with
    ledger := { h.ledger with parkL := most }
    pins := { h.pins with gck := 0, stv := false, goe := true, gallon := true }
    scan := { h.scan with parking := true } }

/-! ## The end of a park -/

theorem State.applyParked_of_nil {s : State} (h : s.cp.launch = []) (n : Nat) : s.applyParked n = s := by
  unfold State.applyParked
  rw [h]
  rfl

theorem State.dropFrame_launch (s : State) (n k : Nat) : (s.dropFrame n k).cp.launch = s.cp.launch :=
  congrArg Prod.fst ((State.dropFrame_within (P := 1651433816064) rfl within_rfl).same .waiting rfl)

/-- The state of a head that is halted once its items are gone. -/
def State.itemsAborted (s : State) (n : Nat) : State :=
  ((s.head n).shots.foldl (fun s x => s.dropFrame n x.frame) (s.abortItems n)).removeItems (fun x => x.kind != .t && x.owner == n)

/-- A head with no frame left. -/
def Head.emptied (h : Head) : Head :=
  { h with
    shots := []
    scan := { h.scan with
      latched := [], ready := [], skippedRows := [], skips := [], stopFrame := none, balance := false, parking := false,
      transition := 0, changing := false, planned := [] } }

theorem State.abortHead_eq (s : State) (n : Nat) : s.abortHead n =
    ((((s.itemsAborted n).endProcs 0x0704 n 0 n false).endProcs 0x0708 n 0 n false).forgetItems n (fun _ => true)).modHead n Head.emptied := rfl

theorem State.abortItems_tq (s : State) (n : Nat) : Within 549755813888 s (s.abortItems n) := State.abortItems_within rfl within_rfl

theorem State.itemsAborted_launch (s : State) (n : Nat) : (s.itemsAborted n).cp.launch = s.cp.launch := by
  have hitems : (s.abortItems n).cp.launch = s.cp.launch := congrArg Prod.fst ((s.abortItems_tq n).same .waiting rfl)
  refine (congrArg Prod.fst ((State.removeItems_within (P := 549755813888) rfl within_rfl).same .waiting rfl)).trans ?_
  exact keepsAt_foldl (P := fun t : State => t.cp.launch = s.cp.launch) (fun t x ht => (t.dropFrame_launch n x.frame).trans ht) hitems

theorem State.abortHead_launch (s : State) (n : Nat) : (s.abortHead n).cp.launch = s.cp.launch := by
  have hkept : ((((s.itemsAborted n).endProcs 0x0704 n 0 n false).endProcs 0x0708 n 0 n false)).cp.launch = s.cp.launch := by
    rw [State.endProcs_launch, State.endProcs_launch, State.itemsAborted_launch]
  rw [State.abortHead_eq]
  exact hkept

/-- A head that is halted holds no queued command back. -/
theorem State.haltHead_launch (s : State) (n state : Nat) : (s.haltHead n state).cp.launch = s.cp.launch := by
  have hleases : ((s.abortHead n).endLeases n).cp.launch = (s.abortHead n).cp.launch :=
    congrArg Prod.fst ((State.endLeases_within (P := 68719493120) rfl within_rfl).same .waiting rfl)
  rw [← s.abortHead_launch n, ← hleases]
  rfl

/-- What a head keeps as it is halted: its pins and its power phases. -/
def Head.parkPart (h : Head) : Pins × PanelPower := (h.pins, h.power)

theorem SameHead.forgetItems {α : Type} {g : Head → α} {s0 s : State} {n : Nat} {p : Nat → Bool} (h : SameHead g s0 s) :
    SameHead g s0 (s.forgetItems n p) := h.trans (.of_heads rfl)

theorem MoreEvents.forgetItems {s0 s : State} {n : Nat} {p : Nat → Bool} (h : MoreEvents s0 s) : MoreEvents s0 (s.forgetItems n p) :=
  h.trans (.of_events rfl)

theorem MoreEvents.freeLease {s0 s : State} {id frame : Nat} (h : MoreEvents s0 s) : MoreEvents s0 (s.freeLease id frame) :=
  h.trans ⟨fun _ he => List.mem_append_left _ he⟩

theorem SameHead.abortHead (s : State) (n : Nat) : SameHead Head.parkPart s (s.abortHead n) := by
  have hitems : SameHead Head.parkPart s (s.abortItems n) := .of_within (s.abortItems_tq n) rfl
  have hgone : SameHead Head.parkPart s (s.itemsAborted n) := by
    unfold State.itemsAborted
    exact SameHead.removeItems (hitems.foldl fun _ _ ht => ht.dropFrame fun _ _ => rfl)
  have hended := (hgone.endProcs (opcode := 0x0704) (object := n) (frame := 0) (head := n) (ok := false)).endProcs
    (opcode := 0x0708) (object := n) (frame := 0) (head := n) (ok := false)
  rw [State.abortHead_eq]
  exact SameHead.modHead (fun _ => rfl) hended.forgetItems

theorem State.haltHead_eq (s : State) (n state : Nat) :
    s.haltHead n state = ((s.abortHead n).endLeases n).modHead n (fun h => { h with state := state }) := rfl

/-- What is left of a head that is halted. -/
theorem State.haltHead_head (s : State) (n state : Nat) : ((s.haltHead n state).head n).state = state ∧
    ((s.haltHead n state).head n).pins = (s.head n).pins ∧ ((s.haltHead n state).head n).power = (s.head n).power := by
  have hsame : SameHead Head.parkPart s ((s.abortHead n).endLeases n) :=
    (SameHead.abortHead s n).trans (.of_within (State.endLeases_within (P := 68719493120) rfl within_rfl) rfl)
  have hpart := hsame.eq n
  rw [State.haltHead_eq]
  generalize (s.abortHead n).endLeases n = u at hpart ⊢
  rw [State.modHead_head]
  exact ⟨rfl, congrArg Prod.fst hpart, congrArg Prod.snd hpart⟩

theorem MoreEvents.haltHead (s : State) (n state : Nat) : MoreEvents s (s.haltHead n state) := by
  have hitems : MoreEvents s (s.abortItems n) := .of_within (s.abortItems_tq n) rfl
  have hgone : MoreEvents s (s.itemsAborted n) := by
    unfold State.itemsAborted
    exact MoreEvents.removeItems (hitems.foldl fun _ _ ht => ht.dropFrame)
  have hended := (hgone.endProcs (opcode := 0x0704) (object := n) (frame := 0) (head := n) (ok := false)).endProcs
    (opcode := 0x0708) (object := n) (frame := 0) (head := n) (ok := false)
  have habort : MoreEvents s (s.abortHead n) := by
    rw [State.abortHead_eq]
    exact hended.forgetItems.modHead
  have hleases : MoreEvents s ((s.abortHead n).endLeases n) := by
    unfold State.endLeases
    exact habort.foldl fun _ _ ht => ht.freeLease
  rw [State.haltHead_eq]
  exact hleases.modHead

theorem commit_of_sameNvs {s t : State} (h : Part.nvs.same s t) : t.nvs.commit = s.nvs.commit := by
  have hcommit := congrArg Nvs.commit (show ({ t.nvs with cells := [] } : Nvs) = { s.nvs with cells := [] } from h)
  exact hcommit

/-- The state of a head that has parked, its end posted and committed. -/
def State.parkPosted (s : State) (n : Nat) : State :=
  ((incCounter (commitShutdown (s.modHead n (fun x => { x with pins := { x.pins with gallon := false, goe := false } })) [(n, 0)] 1) (10 + n)).post
    0xE060 n 0 (leBytes 2 (s.head n).ledger.parkL)).endProcs 0x0704 n (((s.head n).scan.stopFrame.getD (s.head n).scan.frame) % 2 ^ 32) n true

theorem State.parkPosted_spec (s : State) (n : Nat) :
    (s.parkPosted n).head n = { s.head n with pins := { (s.head n).pins with gallon := false, goe := false } } ∧
    (s.parkPosted n).cp.launch = s.cp.launch ∧ (s.parkPosted n).nvs.commit ≠ none ∧
    (⟨0xE060, n, 0, leBytes 2 (s.head n).ledger.parkL, s.tp, s.time.tpGen⟩ : Event) ∈ (s.parkPosted n).cp.events := by
  obtain ⟨u, hu⟩ : ∃ u, u = incCounter (commitShutdown
    (s.modHead n (fun x => { x with pins := { x.pins with gallon := false, goe := false } })) [(n, 0)] 1) (10 + n) := ⟨_, rfl⟩
  have hwithin : Within 1048576 (s.modHead n (fun x => { x with pins := { x.pins with gallon := false, goe := false } })) u := by
    rw [hu]
    exact incCounter_within rfl (commitShutdown_within rfl within_rfl)
  have hhead : u.head n = { s.head n with pins := { (s.head n).pins with gallon := false, goe := false } } := by
    have hheads : u.heads = (s.modHead n (fun x => { x with pins := { x.pins with gallon := false, goe := false } })).heads :=
      hwithin.same .heads rfl
    rw [State.head, hheads, ← State.head, State.modHead_head]
  have hlaunch : u.cp.launch = s.cp.launch := congrArg Prod.fst (hwithin.same .waiting rfl)
  have htime : u.time = s.time := hwithin.same .time rfl
  have hcommit : u.nvs.commit ≠ none := by
    rw [hu]
    exact incCounter_commit_of_some (commitShutdown_commit _ [(n, 0)] 1) _
  rw [State.parkPosted, ← hu, State.endProcs_head, State.post_head, State.endProcs_launch]
  refine ⟨hhead, hlaunch, ?_, State.mem_endProcs_events (List.mem_append_right _ (List.mem_singleton.2 ?_)) ..⟩
  · have hkept : ∀ (t : State) (op object frame head : Nat) (ok : Bool), (t.endProcs op object frame head ok).nvs.commit = t.nvs.commit :=
      fun t op object frame head ok => commit_of_sameNvs ((State.endProcs_within (P := 49152) rfl within_rfl).same .nvs rfl)
    rw [hkept]
    exact hcommit
  · rw [State.tp, State.tp, htime]

/-- The state of a head that has parked and taken a configuration that waited. -/
def State.parkRastered (s : State) (n : Nat) : State :=
  if (s.head n).scan.nextCfg.isSome then (s.parkPosted n).switchRaster n false else s.parkPosted n

/-- The state of a head that has parked and taken the commands that waited. -/
def State.parkDone (s : State) (n : Nat) : State := ((s.parkRastered n).haltHead n 1).applyParked n

theorem exec_headParked (s : State) (n : Nat) : exec (.headParked n) s = .next (
    if (s.head n).state == 5 && (s.head n).scan.parking then
      (if ((s.parkDone n).head n).power.downAfterPark then
        ((s.parkDone n).modHead n (fun x => { x with power := { x.power with downAfterPark := false } })).powerDown n
      else s.parkDone n)
    else s) := by
  change execHeadParked n s = _
  unfold execHeadParked State.parkDone State.parkRastered State.parkPosted
  dsimp only

/-! ## Samples of the thermistor -/

theorem State.thermTake_of_valid {s : State} {n code : Nat} (hlo : (s.head n).panel.active.settings.thermMin ≤ code)
    (hhi : code ≤ (s.head n).panel.active.settings.thermMax) : ((s.thermTake n code).head n).therm = { (s.head n).therm with
      samples := ((if (s.head n).therm.fault then [] else (s.head n).therm.samples) ++ [thermTemp (s.head n).panel.active.tables code]).drop
        (((if (s.head n).therm.fault then [] else (s.head n).therm.samples) ++ [thermTemp (s.head n).panel.active.tables code]).length - 16)
      bad := 0
      fault := false } := by
  unfold State.thermTake
  dsimp only
  rw [if_pos ⟨hlo, hhi⟩]
  split
  · rw [State.post_head, State.setHead_head]
  · rw [State.setHead_head]

theorem State.thermTake_of_low {s : State} {n code : Nat} (hlo : code < (s.head n).panel.active.settings.thermMin) :
    ((s.thermTake n code).head n).therm = { (s.head n).therm with
      bad := min ((s.head n).therm.bad + 1) 16
      invalid := inc32 (s.head n).therm.invalid
      fault := (s.head n).therm.fault || decide (16 ≤ min ((s.head n).therm.bad + 1) 16) } := by
  unfold State.thermTake
  dsimp only
  rw [if_neg (fun h => absurd h.1 (Nat.not_le.2 hlo))]
  split
  · rw [State.post_head, State.setHead_head]
  · rw [State.setHead_head]

/-! ## Checks -/

@[simp] theorem State.setCheck_check (s : State) (n c : Nat) (x : Check) : ((s.setCheck n c x).head n).check c = x := by
  rw [State.setCheck, State.modHead_head]
  exact spGet_spSet_same

theorem exec_checkResult {s : State} {n i k : Nat} {p : CheckSetP} (hcfg : ((s.head n).check i).cfg = some p) (htap : p.tap = 1)
    (hframe : ((s.head n).check i).accFrame = some k) (hdone : ((s.head n).check i).accDone = true) : exec (.checkResult n i) s =
      .next ((s.setCheck n i { (s.head n).check i with accFrame := none, accDone := false }).checkDone n i p k
        (Nat.xor ((s.head n).check i).acc 0xFFFFFFFF) ((s.head n).check i).accSkip false) := by
  refine congrArg Host.Outcome.next ?_
  dsimp only
  rw [hcfg]
  dsimp only
  rw [if_pos htap, hframe]
  exact if_neg (by rw [hdone]; decide)

/-- A check of a frame with a line that was not driven. -/
theorem State.checkDone_of_skipped (s : State) (n c : Nat) (p : CheckSetP) (k crc : Nat) :
    ((s.checkDone n c p k crc true false).head n).check c = { (s.head n).check c with frame := k % 2 ^ 32, crc := crc, status := 3 } :=
  State.setCheck_check ..

/-- A check that finds what it expects. -/
theorem State.checkDone_of_match {s : State} {n c : Nat} {p : CheckSetP} {k crc : Nat}
    (hmatch : ((s.head n).check c).learn = true ∨ crc = ((s.head n).check c).expect) :
    ((s.checkDone n c p k crc false false).head n).check c = { (s.head n).check c with
      frame := k % 2 ^ 32, crc := crc, status := 1, count := 0, learn := false, expect := crc } := by
  have hexpect : crc = if ((s.head n).check c).learn then crc else ((s.head n).check c).expect := by
    rcases hmatch with h | h
    · rw [if_pos h]
    · rw [← h, ite_self]
  unfold State.checkDone
  dsimp only
  rw [if_neg (by decide), if_pos hexpect, State.setCheck_check, ← hexpect]

/-- A check that does not, below its limit. -/
theorem State.checkDone_of_miss {s : State} {n c : Nat} {p : CheckSetP} {k crc : Nat} (hlearn : ((s.head n).check c).learn = false)
    (hmiss : crc ≠ ((s.head n).check c).expect) (hcount : ((s.head n).check c).count + 1 < p.missLimit) :
    ((s.checkDone n c p k crc false false).head n).check c = { (s.head n).check c with
      frame := k % 2 ^ 32, crc := crc, status := 2, count := ((s.head n).check c).count + 1 } := by
  have hmin : min (((s.head n).check c).count + 1) p.missLimit = ((s.head n).check c).count + 1 := Nat.min_eq_left (Nat.le_of_lt hcount)
  unfold State.checkDone
  dsimp only
  rw [if_neg (by decide), hlearn, if_neg (by simpa using hmiss), hmin, decide_eq_false (by omega), if_pos (by rfl), State.setCheck_check]
  rfl

/-! ## VCOM -/

@[simp] theorem State.postDac_head (s : State) (m code n : Nat) : (s.postDac m code).head n = s.head n := rfl

/-- A trim moves the DAC alone. -/
theorem State.trim_vcom (s : State) (n : Nat) (delta : Int) : ((s.trim n delta).head n).vcom.delta = (s.head n).vcom.delta ∧
    ((s.trim n delta).head n).vcom.e = (s.head n).vcom.e ∧ ((s.trim n delta).head n).vcom.fault = (s.head n).vcom.fault ∧
    ((s.trim n delta).head n).vcom.dac = (clampI (s.head n).vcom.cfg.vmin (s.head n).vcom.cfg.vmax (((s.head n).vcom.dac : Int) -
      clampI (-((s.head n).vcom.cfg.trimStep : Int)) (s.head n).vcom.cfg.trimStep (rdiv (delta * (s.head n).vcom.cfg.trimGain) 256))).toNat := by
  have hpost : ∀ (run : Nat) (u : State), (if run = 16 then u.postDac n 0xE054 else u).head n = u.head n := fun run u => by split <;> rfl
  unfold State.trim
  dsimp only
  rw [hpost, State.modHead_head]
  exact ⟨rfl, rfl, rfl, rfl⟩

/-- What a valid measurement makes of a head. -/
def Vcom.measured (v : Vcom) (delta e : Int) : Vcom := { v with invalid := 0, fault := false, delta := delta, e := e }

/-- A valid measurement that trims. -/
theorem State.measure_of_valid {s : State} {n : Nat} {samples : List Nat} {delta : Int}
    (hdelta : delta = rdiv ((samples.foldl (· + ·) 0 : Nat) : Int) (max 1 (s.head n).vcom.cfg.senseN) - (s.head n).vcom.cfg.senseTarget)
    (hlimit : delta.natAbs ≤ (s.head n).vcom.cfg.senseLimit) (hrange : ∀ x ∈ samples, 1 ≤ x ∧ x ≤ 4094) :
    ∃ u : State, s.measure n samples false = u.trim n delta ∧
      (u.head n).vcom = (s.head n).vcom.measured delta (clampI (-2047) 2047 (rdiv (-delta * (s.head n).vcom.cfg.senseScale) 256)) := by
  unfold State.measure
  dsimp only
  rw [← hdelta, if_pos (by simpa [hlimit] using hrange), if_neg Bool.false_ne_true]
  refine ⟨_, rfl, ?_⟩
  split
  · rw [State.postDac_head, State.modHead_head]
    rfl
  · rw [State.modHead_head]
    rfl

theorem State.entryApplied_head (s : State) (e : Entry) (frame head n : Nat) : (s.entryApplied e frame head).head n = s.head n := by
  have hheads : (s.entryApplied e frame head).heads = s.heads := (State.entryApplied_within (P := 16384) rfl within_rfl).same .heads rfl
  rw [State.head, hheads, State.head]

/-- A VCOM_SET that takes effect in the trim instant. -/
theorem State.vcomTrim_of_set {s : State} {n : Nat} {e : Entry} {h : Hdr} {p : VcomP} (hcmd : e.cmd = .vcomSet h p) :
    (s.vcomTrim n e).cp.launch = s.cp.launch.filter (fun x => x.acceptNo != e.acceptNo) ∧ ((s.vcomTrim n e).head n).vcom.cfg = p ∧
    ((s.vcomTrim n e).head n).vcom.dac = p.v0 := by
  unfold State.vcomTrim
  dsimp only
  rw [hcmd]
  dsimp only
  rw [State.entryApplied_launch, State.entryApplied_head, State.modHead_head]
  exact ⟨rfl, rfl, rfl⟩

/-- Settles O52. -/
theorem stopsChecksAndSensorsWork : Obligations.StopsChecksAndSensorsWork := by
  refine fun s n hn => ⟨fun l hstate hleft hlatched hkind => ?warm, fun l hstate hdone hparking hnext hkind => ?balance,
    fun l hstate hbalance hparking hlatched hline => ?park, fun hstate hparking hnext hdown hlaunch => ?parked,
    fun i p k hcfg htap hframe hdone => ⟨fun hskip => ?skipped, fun hskip hmatch => ?matched, fun hskip hlearn hmiss hcount => ?missed⟩,
    fun sample hsample hstate hstandby => ⟨fun hlo hhi => ?valid, fun hlo => ?invalid⟩,
    fun l samples hlatched hlast hscans => ⟨fun e h p hlaunch hqueue hcmd hsense => ?set,
      fun c delta hlaunch hc hsense hstandby hlength hfits hdelta hlimit hrange => ?trim⟩,
    fun base last hrelease hbusy => ?mura, fun hcopying hrunning => ?copy⟩
  case warm =>
    refine ⟨_, congrArg Host.Outcome.next (if_pos ?_), ?_, _, State.mem_endProcs_events (List.mem_append_right _ (List.mem_singleton_self _)) .., rfl, rfl, rfl⟩
    · rw [hlatched]
      simp [hstate, hleft, hkind]
    · rw [State.endProcs_head, State.post_head, State.setHead_head]
  case balance =>
    obtain ⟨hframe, hline, hbalance⟩ := s.advance_head n l
    refine ⟨s.advance n l, congrArg Host.Outcome.next ((if_pos ?_).trans ?_), hframe, hline, hbalance.trans (by rw [hkind]; rfl)⟩
    · simp [hstate, hdone, hparking]
    · rw [hnext]
      exact if_pos hkind
  case park =>
    refine ⟨(s.broadcast n 5 s.roleGen).modHead n (Head.parkBegun (s.parkMax n l)), ?_, ?_⟩
    · refine congrArg Host.Outcome.next ?_
      rw [hlatched]
      exact if_pos (by simp [hstate, hbalance, hparking, hline])
    · rw [State.modHead_head]
      exact ⟨rfl, rfl, rfl, rfl, rfl⟩
  case parked =>
    obtain ⟨hhead, hpending, hcommit, hevent⟩ := s.parkPosted_spec n
    obtain ⟨u, hu⟩ : ∃ u, u = s.parkPosted n := ⟨_, rfl⟩
    rw [← hu] at hhead hpending hcommit hevent
    obtain ⟨hdone, hpins, hpower⟩ := u.haltHead_head n 1
    have hnvs : (u.haltHead n 1).nvs.commit = u.nvs.commit :=
      commit_of_sameNvs ((State.haltHead_within (P := 1720153325568) rfl within_rfl).same .nvs rfl)
    have happly : (u.haltHead n 1).applyParked n = u.haltHead n 1 :=
      State.applyParked_of_nil ((u.haltHead_launch n 1).trans (hpending.trans hlaunch)) n
    refine ⟨u.haltHead n 1, ?_, hdone, ?_, by rw [hnvs]; exact hcommit, _, (MoreEvents.haltHead u n 1).mem _ hevent, rfl, rfl, rfl⟩
    · have hend : s.parkDone n = u.haltHead n 1 := by rw [State.parkDone, State.parkRastered, hnext, if_neg (by simp), ← hu, happly]
      rw [exec_headParked, if_pos (by simp [hstate, hparking]), hend, if_neg (by rw [hpower, hhead]; simp [hdown])]
    · rw [hpins, hhead]
  case skipped =>
    refine ⟨_, exec_checkResult hcfg htap hframe hdone, ?_⟩
    rw [hskip, State.checkDone_of_skipped, State.setCheck_check]
    exact ⟨rfl, rfl⟩
  case matched =>
    refine ⟨_, exec_checkResult hcfg htap hframe hdone, ?_⟩
    rw [hskip, State.checkDone_of_match (by rw [State.setCheck_check]; exact hmatch), State.setCheck_check]
    exact ⟨rfl, rfl, rfl, rfl⟩
  case missed =>
    refine ⟨_, exec_checkResult hcfg htap hframe hdone, ?_⟩
    rw [hskip, State.checkDone_of_miss (by rw [State.setCheck_check]; exact hlearn) (by rw [State.setCheck_check]; exact hmiss)
      (by rw [State.setCheck_check]; exact hcount), State.setCheck_check]
    exact ⟨rfl, rfl⟩
  case valid =>
    have hrun : exec (.thermSample n sample) s = .next (s.thermTake n sample) := by
      refine congrArg Host.Outcome.next ((if_pos (by simp [hstate, hstandby])).trans ?_)
      rw [Nat.mod_eq_of_lt hsample]
    refine ⟨_, hrun, ?_⟩
    have htherm := State.thermTake_of_valid hlo hhi
    rw [htherm]
    refine ⟨rfl, rfl, ?_, ?_⟩
    · dsimp only
      exact getLast?_drop_append _ _ (by decide)
    · dsimp only
      rw [List.length_drop]
      omega
  case invalid =>
    have hrun : exec (.thermSample n sample) s = .next (s.thermTake n sample) := by
      refine congrArg Host.Outcome.next ((if_pos (by simp [hstate, hstandby])).trans ?_)
      rw [Nat.mod_eq_of_lt hsample]
    refine ⟨_, hrun, ?_⟩
    rw [State.thermTake_of_low hlo]
    refine ⟨rfl, rfl, fun hbad => ?_⟩
    dsimp only
    rw [decide_eq_true (by omega), Bool.or_true]
  case set =>
    have hrun : exec (.trimInstant n samples) s = .next (s.vcomTrim n e) := by
      refine congrArg Host.Outcome.next ?_
      rw [hlatched]
      dsimp only
      rw [if_neg (by rw [hscans, hlast]; decide), if_pos (by simp [hsense]), hlaunch]
      rw [List.filter_cons_of_pos (by simp [hqueue, hcmd]), List.filter_nil]
      rfl
    obtain ⟨hqueued, hset, hdac⟩ := State.vcomTrim_of_set (s := s) (n := n) hcmd
    refine ⟨_, hrun, ?_, hset, hdac⟩
    rw [hqueued, hlaunch]
    simp
  case trim =>
    obtain ⟨u, hmeasure, hvcom⟩ := State.measure_of_valid (s := s) (n := n) (samples := samples) (delta := delta) (by rw [hdelta, hc]) (by rw [← hc]; exact hlimit) hrange
    obtain ⟨hd, he, hfault, hdac⟩ := u.trim_vcom n delta
    refine ⟨u.trim n delta, ?_, ?_⟩
    · refine congrArg Host.Outcome.next ?_
      rw [hlatched]
      dsimp only
      rw [if_neg (by rw [hscans, hlast]; decide), hlaunch, ← hc, if_neg (by simp [hsense, hstandby, hlength]), if_pos hfits, ← hlength,
        List.take_length, ← hmeasure]
      rfl
    · rw [hd, he, hfault, hdac, hvcom, hc]
      exact ⟨rfl, rfl, rfl, rfl⟩
  case mura =>
    refine ⟨(s.modHead n (fun h => { h with panel := { h.panel with muraRelease := none } })).postMura n base last, congrArg Host.Outcome.next ?_, ?_,
      _, List.mem_append_right _ (List.mem_singleton_self _), rfl, rfl, rfl⟩
    · rw [hrelease]
      exact if_neg (by rw [hbusy]; decide)
    · rw [State.postMura, State.post_head, State.modHead_head]
  case copy =>
    have hrunning' : (s.copyEnd n).cp.running = [] :=
      (congrArg (fun x => x.2.2) ((State.copyEnd_within (P := 1099528404992) rfl within_rfl).same .waiting rfl)).trans hrunning
    refine ⟨s.copyEnd n, congrArg Host.Outcome.next ((if_neg ?_).trans ?_), ?_⟩
    · rw [hcopying]
      simp
      omega
    · rw [State.resumeAll, hrunning']
      rfl
    · unfold State.copyEnd
      dsimp only
      rw [State.modHead_head]
      exact ⟨rfl, rfl⟩

end Sys2Proof.Machine
end

section
/-! PROOF. The driver link on the device's side (O53). -/

namespace Sys2Proof.Machine

open Sys2Proof.Safety Sys2Proof.Laws

theorem State.endProcs_driver (s : State) (op object frame head : Nat) (ok : Bool) (d : Nat) :
    (s.endProcs op object frame head ok).driver d = s.driver d := by
  have hdrivers : (s.endProcs op object frame head ok).drivers = s.drivers := (State.endProcs_within (P := 49152) rfl within_rfl).same .drivers rfl
  rw [State.driver, hdrivers, State.driver]

@[simp] theorem State.post_driver (s : State) (code object origin : Nat) (payload : List Byte) (d : Nat) :
    (s.post code object origin payload).driver d = s.driver d := rfl

/-! ## Changes of a link's state -/

/-- The state of a link's change once a link that was up is reported lost. -/
def State.linkLeft (s : State) (d link : Nat) : State :=
  if (s.driver d).link = 4 ∧ link ≠ 4 then (s.post 0xE071 d 0 s.portByte).autoHandover else s

/-- The driver after a change of its link's state. -/
def Driver.linked (x : Driver) (link : Nat) (slow : Bool) : Driver := { x with link := link, slow := slow, ts2 := false }

theorem MoreEvents.autoHandover {s0 s : State} (h : MoreEvents s0 s) : MoreEvents s0 s.autoHandover :=
  h.trans (.of_within (State.autoHandover_within (P := 123145302310912) rfl within_rfl) rfl)

/-- A change of a link's state writes the driver and posts what it must. -/
theorem State.linkTo_cases (s : State) (d link : Nat) (slow : Bool) : s.linkTo d link slow =
    match link with
    | 4 => ((((s.linkLeft d link).setDriver d ((s.driver d).linked link slow)).post 0xE070 d 0
        ((s.linkLeft d link).setDriver d ((s.driver d).linked link slow)).portByte)).endProcs 0x0805 d noFrame
          (if ((s.driver d).linked link slow).head < 4 then ((s.driver d).linked link slow).head else 255) true
    | 5 => ((((s.linkLeft d link).setDriver d ((s.driver d).linked link slow)).post 0xE072 d 0
        ((s.linkLeft d link).setDriver d ((s.driver d).linked link slow)).portByte)).endProcs 0x0805 d noFrame 255 false
    | 0 => ((s.linkLeft d link).setDriver d ((s.driver d).linked link slow)).endProcs 0x0805 d noFrame 255 false
    | _ => (s.linkLeft d link).setDriver d ((s.driver d).linked link slow) := rfl

theorem State.linkTo_driver (s : State) (d link : Nat) (slow : Bool) : (s.linkTo d link slow).driver d = (s.driver d).linked link slow := by
  rw [State.linkTo_cases]
  split
  · rw [State.endProcs_driver, State.post_driver, State.setDriver_driver]
  · rw [State.endProcs_driver, State.post_driver, State.setDriver_driver]
  · rw [State.endProcs_driver, State.setDriver_driver]
  · rw [State.setDriver_driver]

theorem State.linkTo_events (s : State) (d link : Nat) (slow : Bool) : MoreEvents (s.linkLeft d link) (s.linkTo d link slow) := by
  have hset : MoreEvents (s.linkLeft d link) ((s.linkLeft d link).setDriver d ((s.driver d).linked link slow)) := .of_events rfl
  rw [State.linkTo_cases]
  split
  · exact hset.post.endProcs
  · exact hset.post.endProcs
  · exact hset.endProcs
  · exact hset

/-- A link that comes up posts LINK_UP. -/
theorem State.linkTo_up (s : State) (d : Nat) (slow : Bool) : ∃ e ∈ (s.linkTo d 4 slow).cp.events, e.code = 0xE070 ∧ e.object = d :=
  ⟨_, State.mem_endProcs_events (List.mem_append_right _ (List.mem_singleton_self _)) .., rfl, rfl⟩

/-- A link that fails posts its failure. -/
theorem State.linkTo_failed (s : State) (d : Nat) (slow : Bool) : ∃ e ∈ (s.linkTo d 5 slow).cp.events, e.code = 0xE072 ∧ e.object = d :=
  ⟨_, State.mem_endProcs_events (List.mem_append_right _ (List.mem_singleton_self _)) .., rfl, rfl⟩

/-- A link that was up and is left posts its loss. -/
theorem State.linkTo_lost {s : State} {d link : Nat} (hup : (s.driver d).link = 4) (hlink : link ≠ 4) (slow : Bool) :
    ∃ e ∈ (s.linkTo d link slow).cp.events, e.code = 0xE071 ∧ e.object = d := by
  have hmem : ∀ e ∈ (s.post 0xE071 d 0 s.portByte).cp.events, e ∈ (s.linkLeft d link).cp.events := by
    rw [State.linkLeft, if_pos ⟨hup, hlink⟩]
    exact (MoreEvents.autoHandover (MoreEvents.refl _)).mem
  exact ⟨_, (s.linkTo_events d link slow).mem _ (hmem _ (List.mem_append_right _ (List.mem_singleton_self _))), rfl, rfl⟩

/-- Training anew keeps all of a driver but its link. -/
theorem State.linkTrain_driver (s : State) (d : Nat) (slow : Bool) :
    (s.linkTrain d slow).driver d = { (s.driver d).linked 1 slow with tries := 0 } := by
  rw [State.linkTrain, State.setDriver_driver, State.linkTo_driver]

/-- A poll that failed keeps all of a driver but the count of its silence. -/
theorem State.pollFailed_driver (s : State) (d : Nat) : ∃ silent, (s.pollFailed d).driver d = { s.driver d with silent := silent } := by
  unfold State.pollFailed
  dsimp only
  split
  · exact ⟨_, by rw [State.post_driver, State.setDriver_driver]⟩
  · exact ⟨_, by rw [State.setDriver_driver]⟩

/-! ## REPORTs -/

/-- The state in which a good REPORT has been taken. -/
def State.reported (s : State) (d : Nat) (p : ReportP) : State := s.setDriver d ((s.driver d).addReport p s.pair.port)

theorem State.reported_driver (s : State) (d : Nat) (p : ReportP) : (s.reported d p).driver d = (s.driver d).addReport p s.pair.port :=
  State.setDriver_driver ..

theorem State.reported_port (s : State) (d : Nat) (p : ReportP) : (s.reported d p).pair.port = s.pair.port := rfl

theorem State.reported_chUsed (s : State) (d : Nat) (p : ReportP) : (s.reported d p).chUsed d = s.chUsed d := by
  unfold State.chUsed
  rw [s.reported_driver]
  rfl

theorem State.reported_configNew (s : State) (d : Nat) (p : ReportP) : (s.reported d p).configNew d = s.configNew d := by
  unfold State.configNew State.configBody
  dsimp only
  rw [s.reported_chUsed, s.reported_driver]
  rfl

theorem State.reported_linkRateOf (s : State) (d : Nat) (p : ReportP) : (s.reported d p).linkRateOf d = s.linkRateOf d := by
  unfold State.linkRateOf
  rw [s.reported_driver]
  rfl

theorem exec_report_good {s : State} {d : Nat} (hd : d < 96) (hpolled : (s.driver d).polled = true) (p : ReportP) :
    exec (.report d p true) s = .next ((s.reported d p).linkReport d p) :=
  congrArg Host.Outcome.next ((if_neg (by rw [hpolled]; simp; omega)).trans (if_pos rfl))

theorem State.linkReport_of_training {s : State} {d : Nat} {p : ReportP} (h : (s.driver d).link = 1) :
    s.linkReport d p = if reportLock p s.pair.port then s.linkTo d 2 (s.driver d).slow else s := by
  unfold State.linkReport
  dsimp only
  rw [h]
  rfl

theorem State.linkReport_of_config {s : State} {d : Nat} {p : ReportP} (h : (s.driver d).link = 2) :
    s.linkReport d p = if p.mismatch then s.linkTo d 5 true
      else if p.configOk && p.seq == (s.driver d).seq && !s.configNew d then s.linkTo d (if s.linkRateOf d = 1 then 4 else 3) (s.driver d).slow
      else s := by
  unfold State.linkReport
  dsimp only
  rw [h]
  rfl

theorem State.linkReport_of_rate {s : State} {d : Nat} {p : ReportP} (h : (s.driver d).link = 3) :
    s.linkReport d p = if reportLock p s.pair.port && (s.driver d).ts2 then s.linkTo d 4 false else s := by
  unfold State.linkReport
  dsimp only
  rw [h]
  rfl

theorem State.linkReport_of_up {s : State} {d : Nat} {p : ReportP} (h : (s.driver d).link = 4) :
    s.linkReport d p = if !reportLock p s.pair.port then s.linkTrain d false
      else (List.range (s.driver d).lanes).foldl (fun s' i => s'.laneReport (36 + 2 * d + i) (reportLane p s'.pair.port i) p.crcErr) s := by
  unfold State.linkReport
  dsimp only
  rw [h]
  rfl

/-! ## Polls without an answer -/

/-- The state in which the absence of a poll's answer has been counted. -/
def State.bcTimedOut (s : State) (d : Nat) : State :=
  ((s.setDriver d { s.driver d with polled := false }).setDriver d
    { s.driver d with polled := false, bcTimeout := add64 (s.driver d).bcTimeout 1, timeouts := min ((s.driver d).timeouts + 1) 16 }).pollFailed d

theorem State.bcTimedOut_driver (s : State) (d : Nat) : ∃ silent, (s.bcTimedOut d).driver d =
    { s.driver d with polled := false, bcTimeout := add64 (s.driver d).bcTimeout 1, timeouts := min ((s.driver d).timeouts + 1) 16, silent := silent } := by
  obtain ⟨silent, hdriver⟩ := ((s.setDriver d { s.driver d with polled := false }).setDriver d
    { s.driver d with polled := false, bcTimeout := add64 (s.driver d).bcTimeout 1, timeouts := min ((s.driver d).timeouts + 1) 16 }).pollFailed_driver d
  refine ⟨silent, hdriver.trans ?_⟩
  rw [State.setDriver_driver]

theorem exec_bcTimeout {s : State} {d : Nat} (hd : d < 96) (hpolled : (s.driver d).polled = true) (hhead : (s.driver d).head ≠ 255)
    (hlink : (s.driver d).link ≠ 0) : exec (.bcTimeout d) s = .next
      (if min ((s.driver d).timeouts + 1) 16 = 16 ∧ (s.driver d).link = 4 then (s.bcTimedOut d).linkTrain d false else s.bcTimedOut d) :=
  congrArg Host.Outcome.next ((if_neg (by rw [hpolled]; simp; omega)).trans (if_neg (not_or.mpr ⟨hhead, hlink⟩)))

/-- Settles O53. -/
theorem theDriverLinkWorks : Obligations.TheDriverLinkWorks := by
  refine fun s d hd => ⟨fun hlink htries => ?again, fun hlink htries => ?failed, fun hlink => ?config, fun group hgroup => ?poll,
    fun p hpolled hlink hlock => ?lock, fun p hpolled hlink hmismatch => ?mismatch, fun p hpolled hlink hmismatch hok hseq hnew => ?configured,
    fun p hpolled hlink hts2 hlock => ?up, fun p hpolled hlink hlock => ?lost, fun p hpolled => ?bad, fun hpolled hhead hlink => ?timeout,
    fun hlink => ?ts2, fun lane hlane hstring hheld hunlocked hwatch => ?block, fun lane h v hlane hlocked => ?eye⟩
  case again =>
    refine ⟨_, congrArg Host.Outcome.next ((if_pos hd).trans ((if_neg (by omega)).trans (if_neg (by omega)))), ?_⟩
    rw [State.setDriver_driver, State.linkTo_driver]
    exact ⟨rfl, rfl⟩
  case failed =>
    refine ⟨s.linkTo d 5 true, congrArg Host.Outcome.next ((if_pos hd).trans ((if_neg (by omega)).trans (if_pos htries))), ?_, s.linkTo_failed d true⟩
    rw [State.linkTo_driver]
    rfl
  case config =>
    refine ⟨(s.configTurn d).sendLink d ((s.configTurn d).configBytes d), congrArg Host.Outcome.next (if_pos ⟨hd, hlink⟩), ?_⟩
    rw [State.sendLink, State.setDriver_driver]
    refine ⟨?_, rfl⟩
    dsimp only
    unfold State.configTurn
    dsimp only
    split
    · rw [State.setDriver_driver]
    · rfl
  case poll =>
    exact ⟨_, congrArg Host.Outcome.next (if_pos hgroup), congrArg Driver.polled (State.setDriver_driver ..), rfl⟩
  case lock =>
    refine ⟨_, exec_report_good hd hpolled p, ?_⟩
    rw [State.linkReport_of_training (by rw [s.reported_driver]; exact hlink), s.reported_port, if_pos hlock, State.linkTo_driver, s.reported_driver]
    exact ⟨rfl, rfl, rfl, rfl⟩
  case mismatch =>
    refine ⟨_, exec_report_good hd hpolled p, ?_⟩
    rw [State.linkReport_of_config (by rw [s.reported_driver]; exact hlink), if_pos hmismatch, State.linkTo_driver]
    rfl
  case configured =>
    refine ⟨_, exec_report_good hd hpolled p, ?_⟩
    rw [State.linkReport_of_config (by rw [s.reported_driver]; exact hlink), if_neg (by rw [hmismatch]; decide), s.reported_configNew, hnew, hok,
      if_pos (by rw [s.reported_driver]; simp [hseq, Driver.addReport]), State.linkTo_driver, s.reported_linkRateOf]
    rfl
  case up =>
    refine ⟨_, exec_report_good hd hpolled p, ?_⟩
    rw [State.linkReport_of_rate (by rw [s.reported_driver]; exact hlink), s.reported_port, hlock,
      if_pos (by rw [s.reported_driver]; simpa [Driver.addReport] using hts2), State.linkTo_driver]
    exact ⟨rfl, State.linkTo_up ..⟩
  case lost =>
    have hup : ((s.reported d p).driver d).link = 4 := by rw [s.reported_driver]; exact hlink
    refine ⟨_, exec_report_good hd hpolled p, ?_⟩
    rw [State.linkReport_of_up hup, s.reported_port, if_pos (by rw [hlock]; rfl), State.linkTrain_driver]
    exact ⟨rfl, State.linkTo_lost hup (by decide) false⟩
  case bad =>
    have hrun : exec (.report d p false) s = .next ((s.setDriver d { s.driver d with
        polled := false, timeouts := 0, bcCrc := add64 (s.driver d).bcCrc 1 }).pollFailed d) :=
      congrArg Host.Outcome.next ((if_neg (by rw [hpolled]; simp; omega)).trans (if_neg Bool.false_ne_true))
    obtain ⟨silent, hdriver⟩ := (s.setDriver d { s.driver d with polled := false, timeouts := 0, bcCrc := add64 (s.driver d).bcCrc 1 }).pollFailed_driver d
    refine ⟨_, hrun, ?_⟩
    rw [hdriver, State.setDriver_driver]
    exact ⟨rfl, rfl, rfl⟩
  case timeout =>
    have hrun := exec_bcTimeout hd hpolled hhead hlink
    obtain ⟨silent, hdriver⟩ := s.bcTimedOut_driver d
    by_cases hlong : 15 ≤ (s.driver d).timeouts ∧ (s.driver d).link = 4
    · refine ⟨(s.bcTimedOut d).linkTrain d false, hrun.trans (congrArg Host.Outcome.next (if_pos (by omega))), ?_⟩
      rw [State.linkTrain_driver, hdriver, if_pos hlong]
      exact ⟨rfl, rfl, rfl⟩
    · refine ⟨s.bcTimedOut d, hrun.trans (congrArg Host.Outcome.next (if_neg (by omega))), ?_⟩
      rw [hdriver, if_neg hlong]
      exact ⟨rfl, rfl, rfl⟩
  case ts2 =>
    refine ⟨_, congrArg Host.Outcome.next (if_pos ⟨hd, hlink⟩), ?_⟩
    have hset : ∀ (t : State) (x : Rennex), (t.setRenn d x).driver d = t.driver d := fun _ _ => rfl
    rw [hset, State.setDriver_driver]
    exact ⟨rfl, hlink⟩
  case block =>
    refine ⟨_, congrArg Host.Outcome.next (if_neg ?_), ?_⟩
    · simp [laneExists, isDriverLane, hheld, hunlocked, hwatch]
      omega
    · have hset : ∀ (t : State) (f : LaneFom), (t.setFom lane f).lane lane = t.lane lane := fun _ _ => rfl
      rw [hset, State.setLane_lane]
      exact ⟨rfl, rfl, rfl⟩
  case eye =>
    refine ⟨_, congrArg Host.Outcome.next (if_neg ?_), ?_⟩
    · simp [laneExists, isDriverLane, hlocked]
      omega
    · rw [State.setFom_fom]
      split <;> rfl

end Sys2Proof.Machine
end

section
/-! PROOF. The Rennex drivers obey their packets (O54). -/

namespace Sys2Proof.Machine

open Sys2Proof.Safety Sys2Proof.Laws

/-! ## A driver's ports, selection and reception -/

@[simp] theorem Rennex.setPort_port (r : Rennex) (p : Nat) (x : RennexPort) : (r.setPort p x).port p = x := by
  unfold Rennex.setPort Rennex.port
  split <;> rfl

@[simp] theorem Rennex.setPort_sel (r : Rennex) (p : Nat) (x : RennexPort) : (r.setPort p x).sel = r.sel := by
  unfold Rennex.setPort
  split <;> rfl

@[simp] theorem Rennex.setPort_outs (r : Rennex) (p : Nat) (x : RennexPort) : (r.setPort p x).outs = r.outs := by
  unfold Rennex.setPort
  split <;> rfl

@[simp] theorem Rennex.setPort_configOk (r : Rennex) (p : Nat) (x : RennexPort) : (r.setPort p x).configOk = r.configOk := by
  unfold Rennex.setPort
  split <;> rfl

@[simp] theorem Rennex.setPort_chUsed (r : Rennex) (p : Nat) (x : RennexPort) : (r.setPort p x).chUsed = r.chUsed := by
  unfold Rennex.setPort
  split <;> rfl

/-- A port of a driver is a function of its two ports. -/
theorem Rennex.port_congr {r r' : Rennex} (ha : r.a = r'.a) (hb : r.b = r'.b) (p : Nat) : r.port p = r'.port p := by
  rw [Rennex.port, Rennex.port, ha, hb]

/-- Selection writes SEL and GEN only. -/
theorem Rennex.select_eq (r : Rennex) (p : Nat) (k : DlPacket) : r.select p k = { r with sel := (r.select p k).sel, gen := (r.select p k).gen } := by
  unfold Rennex.select
  dsimp only
  split
  · rfl
  · split <;> rfl

/-- A packet with ROLE selects its port where none is selected (R373). -/
theorem Rennex.select_of_none {r : Rennex} {k : DlPacket} (hrole : k.role = true) (hsel : r.sel = 0) (p : Nat) : (r.select p k).sel = p + 1 := by
  unfold Rennex.select
  dsimp only
  rw [if_neg (by rw [hrole]; decide), if_pos (.inl hsel)]

/-- What a valid packet leaves of the driver. -/
theorem Rennex.receive_of_valid {k : DlPacket} (hvalid : dlValid k = true) (r : Rennex) (p : Nat) :
    r.receive p k = (r.setPort p { r.port p with present := true }).select p k :=
  if_pos hvalid

/-- What an invalid packet leaves of the driver. -/
theorem Rennex.receive_of_invalid {k : DlPacket} (hvalid : dlValid k = false) (r : Rennex) (p : Nat) :
    r.receive p k = r.setPort p { r.port p with present := true, invalid := satInc 0xFFFF (r.port p).invalid } :=
  if_neg (by rw [hvalid]; decide)

theorem Rennex.receive_port_of_valid {k : DlPacket} (hvalid : dlValid k = true) (r : Rennex) (p : Nat) :
    (r.receive p k).port p = { r.port p with present := true } := by
  rw [Rennex.receive_of_valid hvalid, Rennex.select_eq]
  exact (Rennex.port_congr rfl rfl p).trans (Rennex.setPort_port ..)

theorem Rennex.receive_outs (r : Rennex) (p : Nat) (k : DlPacket) : (r.receive p k).outs = r.outs := by
  unfold Rennex.receive
  dsimp only
  split
  · rw [Rennex.select_eq]
    exact Rennex.setPort_outs ..
  · exact Rennex.setPort_outs ..

theorem Rennex.receive_configOk (r : Rennex) (p : Nat) (k : DlPacket) : (r.receive p k).configOk = r.configOk := by
  unfold Rennex.receive
  dsimp only
  split
  · rw [Rennex.select_eq]
    exact Rennex.setPort_configOk ..
  · exact Rennex.setPort_configOk ..

theorem Rennex.receive_chUsed (r : Rennex) (p : Nat) (k : DlPacket) : (r.receive p k).chUsed = r.chUsed := by
  unfold Rennex.receive
  dsimp only
  split
  · rw [Rennex.select_eq]
    exact Rennex.setPort_chUsed ..
  · exact Rennex.setPort_chUsed ..

theorem dlValid_of_type {k : DlPacket} (hgood : k.good = true) (hlow : 1 ≤ k.type) (hhigh : k.type ≤ 5) : dlValid k = true := by
  simp [dlValid, hgood, hlow, hhigh]

theorem dlValid_of_bad {k : DlPacket} (hgood : k.good = false) : dlValid k = false := by
  rw [dlValid, hgood, Bool.false_and]

/-! ## The LD of a port -/

/-- The state in which the packet held by a port has been used up. -/
def Rennex.cleared (r : Rennex) (port : Nat) : Rennex := r.setPort port { r.port port with held := none }

theorem Rennex.cleared_held (r : Rennex) (port : Nat) : ((r.cleared port).port port).held = none := by
  rw [Rennex.cleared, Rennex.setPort_port]

theorem exec_ld_of_held {s : State} {d port : Nat} {k : DlPacket} (hd : d < 96) (hport : port ≤ 1) (hsel : (s.renn d).sel = port + 1)
    (hheld : ((s.renn d).port port).held = some k) : exec (.ld d port) s = .next (s.setRenn d
      (if !k.role then { (s.renn d).cleared port with outs := [], missed := satInc 0xFFFF (s.renn d).missed }
        else if k.type = 1 then { (s.renn d).cleared port with outs := lineOuts (s.renn d).chUsed k }
        else if k.type = 2 then (s.renn d).cleared port
        else { (s.renn d).cleared port with outs := [] })) := by
  refine congrArg Host.Outcome.next ((if_neg (by omega)).trans ?_)
  rw [hheld]
  rfl

theorem exec_ld_of_none {s : State} {d port : Nat} (hd : d < 96) (hport : port ≤ 1) (hsel : (s.renn d).sel = port + 1)
    (hheld : ((s.renn d).port port).held = none) : exec (.ld d port) s = .next (s.setRenn d
      { (s.renn d).cleared port with outs := [], missed := satInc 0xFFFF (s.renn d).missed }) := by
  refine congrArg Host.Outcome.next ((if_neg (by omega)).trans ?_)
  rw [hheld]
  rfl

/-- Settles O54: what each row writes of the driver, by what its packet is. -/
theorem theDriversObeyTheirPackets : Obligations.TheDriversObeyTheirPackets := by
  refine fun s d port k hd hport => ⟨fun hgood hlow hhigh => ?held, fun hgood => ?invalid, fun hsel hheld hrole htype => ?line,
    fun hsel hheld hrole htype => ?skip, fun hsel hheld => ?missed, fun hsel => ?other, fun hgood htype hrole hgen => ?discharged,
    fun hgood htype hrole hgen => ?stale, fun hsel => ?absent, fun hsel => ?absentOther, fun hgood htype hseq => ?config,
    fun hgood htype hseq => ?configOld⟩
  case held =>
    have hvalid := dlValid_of_type hgood hlow (by omega)
    refine ⟨_, congrArg Host.Outcome.next ((if_neg (by omega)).trans (if_pos (by simp [hvalid, hhigh]))), ?_⟩
    rw [State.setRenn_renn, Rennex.setPort_port, Rennex.receive_port_of_valid hvalid, Rennex.setPort_outs, Rennex.receive_outs, Rennex.setPort_sel]
    refine ⟨rfl, rfl, rfl, fun hrole hsel => ?_⟩
    rw [Rennex.receive_of_valid hvalid]
    exact Rennex.select_of_none hrole ((Rennex.setPort_sel ..).trans hsel) port
  case invalid =>
    have hvalid := dlValid_of_bad hgood
    refine ⟨_, congrArg Host.Outcome.next ((if_neg (by omega)).trans (if_neg (by simp [hvalid]))), ?_⟩
    rw [State.setRenn_renn, Rennex.receive_of_invalid hvalid, Rennex.setPort_port, Rennex.setPort_sel]
    exact ⟨rfl, rfl, rfl⟩
  case line =>
    refine ⟨_, exec_ld_of_held hd hport hsel hheld, ?_⟩
    rw [State.setRenn_renn, if_neg (by rw [hrole]; decide), if_pos htype]
    exact ⟨rfl, Rennex.cleared_held ..⟩
  case skip =>
    refine ⟨_, exec_ld_of_held hd hport hsel hheld, ?_⟩
    rw [State.setRenn_renn, if_neg (by rw [hrole]; decide), if_neg (by omega), if_pos htype]
    exact ⟨Rennex.setPort_outs .., Rennex.cleared_held ..⟩
  case missed =>
    refine ⟨_, exec_ld_of_none hd hport hsel hheld, ?_⟩
    rw [State.setRenn_renn]
    exact ⟨rfl, rfl⟩
  case other => exact congrArg Host.Outcome.next (if_pos (.inr (.inr hsel)))
  case discharged =>
    have hobey : (dlValid k && k.type == 5 && k.role && decide ((k.gen + 16 - (s.renn d).gen % 16) % 16 ≤ 7)) = true := by
      simp [dlValid_of_type hgood (by omega) (by omega), htype, hrole, hgen]
    refine ⟨_, congrArg Host.Outcome.next ((if_neg (by omega)).trans (congrArg _ (if_pos hobey))), ?_⟩
    rw [State.setRenn_renn]
  case stale =>
    have hobey : ¬ (dlValid k && k.type == 5 && k.role && decide ((k.gen + 16 - (s.renn d).gen % 16) % 16 ≤ 7)) = true := by
      simp [hgen]
    refine ⟨_, congrArg Host.Outcome.next ((if_neg (by omega)).trans (congrArg _ (if_neg hobey))), ?_⟩
    rw [State.setRenn_renn, Rennex.receive_outs]
  case absent =>
    refine ⟨_, congrArg Host.Outcome.next ((if_neg (by omega)).trans (congrArg _ (if_pos hsel))), ?_⟩
    rw [State.setRenn_renn]
    exact ⟨rfl, rfl, congrArg RennexPort.present ((Rennex.port_congr rfl rfl port).trans (Rennex.setPort_port ..))⟩
  case absentOther =>
    refine ⟨_, congrArg Host.Outcome.next ((if_neg (by omega)).trans (congrArg _ (if_neg hsel))), ?_⟩
    rw [State.setRenn_renn, Rennex.setPort_sel, Rennex.setPort_outs, Rennex.setPort_port]
    exact ⟨rfl, rfl, rfl⟩
  case config =>
    have hvalid := dlValid_of_type hgood (by omega) (by omega)
    have htake : (dlValid k && k.type == 4 && decide ((((s.renn d).receive port k).port port).seq ≤ fieldAt k.body 8 2)) = true := by
      simp [hvalid, htype, Rennex.receive_port_of_valid hvalid, hseq]
    refine ⟨_, congrArg Host.Outcome.next ((if_neg (by omega)).trans (if_pos htake)), ?_⟩
    rw [State.setRenn_renn]
    exact ⟨congrArg RennexPort.seq ((Rennex.port_congr rfl rfl port).trans (Rennex.setPort_port ..)), rfl, rfl, rfl⟩
  case configOld =>
    have hvalid := dlValid_of_type hgood (by omega) (by omega)
    have hkeep : ¬ (dlValid k && k.type == 4 && decide ((((s.renn d).receive port k).port port).seq ≤ fieldAt k.body 8 2)) = true := by
      simp [hvalid, htype, Rennex.receive_port_of_valid hvalid, hseq]
    refine ⟨_, congrArg Host.Outcome.next ((if_neg (by omega)).trans (if_neg hkeep)), ?_⟩
    rw [State.setRenn_renn, Rennex.receive_port_of_valid hvalid, Rennex.receive_configOk, Rennex.receive_chUsed]
    exact ⟨rfl, rfl, rfl⟩

end Sys2Proof.Machine
end

section
/-! PROOF. Power transitions, wakes, operating points, refresh and NVS work end (O55). -/

namespace Sys2Proof.Machine

open Sys2Proof.Safety Sys2Proof.Laws

/-! ## Power transitions -/

/-- What leaves both parts of the power state leaves the power state. -/
theorem Within.same_power {P : Nat} {s t : State} (h : Within P s t) (hpower : P.testBit 4 = false) (hyoyo : P.testBit 5 = false) : t.power = s.power := by
  have hkeep : { t.power with yoyo := [] } = { s.power with yoyo := [] } := h.same .power hpower
  have hunits : t.power.yoyo = s.power.yoyo := h.same .yoyo hyoyo
  calc t.power = { { t.power with yoyo := [] } with yoyo := t.power.yoyo } := rfl
    _ = { { s.power with yoyo := [] } with yoyo := s.power.yoyo } := by rw [hkeep, hunits]
    _ = s.power := rfl

/-- A transition that begins is the one in progress. -/
theorem State.pdBegin_power (s : State) (d st : Nat) (p : Option Proc) : (s.pdBegin d st p).power =
    { s.power with change := some { domain := d, old := s.pd d, target := st, proc := p } } := by
  unfold State.pdBegin
  dsimp only
  split
  · exact Within.same_power (State.moveDeque_within (P := 549755813888) rfl within_rfl) rfl rfl
  · rfl

/-- The next wake changes the transition in progress and the wakes that wait only. -/
theorem State.wakeNext_power (s : State) : ∃ change latched, s.wakeNext.power = { s.power with change := change, latched := latched } := by
  unfold State.wakeNext
  split
  · exact ⟨_, _, rfl⟩
  · dsimp only
    split
    · exact ⟨_, _, State.pdBegin_power ..⟩
    · exact ⟨_, _, rfl⟩

/-- With no wake waiting the next wake changes nothing of the power state. -/
theorem State.wakeNext_power_of_none {s : State} (hlatched : s.power.latched = []) : s.wakeNext.power = s.power := by
  have hsame : { s.power with latched := [] } = s.power := by rw [← hlatched]
  unfold State.wakeNext
  rw [hlatched]
  split
  · rfl
  · exact hsame

theorem State.wakeNext_events (s : State) : s.wakeNext.cp.events = s.cp.events :=
  (State.wakeNext_within (P := 549755813904) rfl within_rfl).same .events rfl

theorem State.wakeNext_log (s : State) : s.wakeNext.log = s.log :=
  (State.wakeNext_within (P := 549755813904) rfl within_rfl).same .log rfl

/-- A domain that arrives with no write held and no command waiting changes the yo-yo units of the power state only. -/
theorem State.domainArrived_spec {s : State} (hheld : s.power.heldWrites = []) (hrun : s.cp.running = []) (d old new : Nat) :
    (∃ yoyo, (s.domainArrived d old new).power = { s.power with yoyo := yoyo }) ∧ (s.domainArrived d old new).cp.events = s.cp.events := by
  have hsame : { s.power with heldWrites := [] } = s.power := by rw [← hheld]
  have hresume : ∀ t : State, t.cp = s.cp → ∀ p, t.resumeAll p = t := fun t ht p => by rw [State.resumeAll, ht, hrun]; rfl
  unfold State.domainArrived
  rw [hheld]
  split
  · split
    · exact ⟨⟨s.power.yoyo, hsame⟩, rfl⟩
    · exact ⟨⟨_, rfl⟩, rfl⟩
  · split
    · split
      · have hfeed : Within 549755813888 s s.feed := State.feed_within rfl within_rfl
        exact ⟨⟨_, Within.same_power hfeed rfl rfl⟩, hfeed.same .events rfl⟩
      · have hmove : Within 549755813888 s (s.moveDeque (d - 1)) := State.moveDeque_within rfl within_rfl
        exact ⟨⟨_, Within.same_power hmove rfl rfl⟩, hmove.same .events rfl⟩
    · split
      · exact ⟨⟨_, rfl⟩, rfl⟩
      · split
        · have hleft : ∀ b : Bool, ∃ yoyo, (if b then s.setYoyo thermalUnit {} else s).power = { s.power with yoyo := yoyo } ∧
              (if b then s.setYoyo thermalUnit {} else s).cp = s.cp := fun b => by
            cases b
            · exact ⟨_, rfl, rfl⟩
            · exact ⟨_, rfl, rfl⟩
          dsimp only
          obtain ⟨yoyo, hpower, hcp⟩ := hleft (s.yoyo thermalUnit).on
          generalize (if (s.yoyo thermalUnit).on = true then s.setYoyo thermalUnit {} else s) = t at hpower hcp
          have heq : (if t.storeOn = true then t.resumeAll (fun r => r.waitsStore) else t) = t := by
            rw [hresume t hcp, ite_self]
          rw [heq]
          exact ⟨⟨yoyo, hpower⟩, congrArg CmdProc.events hcp⟩
        · exact ⟨⟨_, rfl⟩, rfl⟩

/-- The state of the first transition of a wind-down's list when it ends, up to the domain's arrival. -/
def State.moveEnded (s : State) (m : Nat × Nat × Nat) (rest : List (Nat × Nat × Nat)) : State :=
  ({ s with power := { s.power with moves := rest, dom := spSet 0 s.power.dom m.1 m.2.2 } } : State).post 0xE0B0 m.1 2
    (leBytes 1 m.2.1 ++ leBytes 1 m.2.2)

theorem exec_pdChanged_of_move {s : State} {m : Nat × Nat × Nat} {rest : List (Nat × Nat × Nat)} (hmoves : s.power.moves = m :: rest) :
    exec .pdChanged s = .next ((s.moveEnded m rest).domainArrived m.1 m.2.1 m.2.2).wakeNext := by
  change execPdChanged s = _
  unfold execPdChanged
  rw [hmoves]
  rfl

/-- The state in which a transition has ended, up to the domain's arrival. -/
def State.changeEnded (s : State) (c : PdChange) : State :=
  match c.proc with
  | some p => (({ s with power := { s.power with change := none, dom := spSet 0 s.power.dom c.domain c.target } } : State).post 0xE0B0 c.domain 2
      (leBytes 1 c.old ++ leBytes 1 c.target)).procApplied p noFrame 255
  | none => ({ s with power := { s.power with change := none, dom := spSet 0 s.power.dom c.domain c.target } } : State).post 0xE0B0 c.domain 2
      (leBytes 1 c.old ++ leBytes 1 c.target)

theorem exec_pdChanged_of_change {s : State} {c : PdChange} (hmoves : s.power.moves = []) (hchange : s.power.change = some c)
    (hidle : c.target = 0 ∨ 9 ≤ c.domain ∨ (s.cluster (c.domain - 1)).running = []) :
    exec .pdChanged s = .next ((s.changeEnded c).domainArrived c.domain c.old c.target).wakeNext := by
  have hgo : ¬ (1 ≤ c.domain ∧ c.domain ≤ 8 ∧ c.target ≠ 0 ∧ (s.cluster (c.domain - 1)).running.isEmpty = false) := by
    rintro ⟨_, hlow, htarget, hruns⟩
    rcases hidle with h | h | h
    · exact htarget h
    · omega
    · rw [h] at hruns
      exact Bool.noConfusion hruns
  change execPdChanged s = _
  unfold execPdChanged
  rw [hmoves, hchange]
  exact congrArg Host.Outcome.next ((if_neg hgo).trans rfl)

theorem State.changeEnded_spec (s : State) (c : PdChange) :
    (s.changeEnded c).power = { s.power with change := none, dom := spSet 0 s.power.dom c.domain c.target } ∧
    (s.changeEnded c).cp.running = s.cp.running ∧
    ∃ e ∈ (s.changeEnded c).cp.events, e.code = 0xE0B0 ∧ e.object = c.domain ∧ e.payload = leBytes 1 c.old ++ leBytes 1 c.target := by
  unfold State.changeEnded
  split
  · unfold State.procApplied State.applied
    split
    · exact ⟨rfl, rfl, _, List.mem_append_right _ (List.mem_singleton_self _), rfl, rfl, rfl⟩
    · exact ⟨rfl, rfl, _, List.mem_append_left _ (List.mem_append_right _ (List.mem_singleton_self _)), rfl, rfl, rfl⟩
  · exact ⟨rfl, rfl, _, List.mem_append_right _ (List.mem_singleton_self _), rfl, rfl, rfl⟩

/-- A wake by an interrupt or a message of a domain in retention, with no transition in progress, begins one or waits. -/
theorem exec_wake {s : State} {domain source : Nat} (lost : Bool) (hdomain : domain ≤ 10) (hsource : source ≤ 2)
    (hmask : bit (spGet s.power.wakeMask 0 domain) source = true) (hstuck : bit (spGet s.power.stuck 0 domain) source = false)
    (hpd : s.pd domain = 1) (hnone : s.power.change = none) :
    exec (.wake domain source lost) s = .next (if s.seqBusy then s.latchWake domain source else s.pdBegin domain 0 none) := by
  have hgo : ¬ (domain > 10 || source > 4 || !bit (spGet s.power.wakeMask 0 domain) source || bit (spGet s.power.stuck 0 domain) source) = true := by
    simp [hmask, hstuck]
    omega
  have hedge : decide (3 ≤ source) = false := decide_eq_false (by omega)
  change execWake domain source lost s = _
  unfold execWake
  dsimp only
  rw [if_neg hgo, hnone, if_neg (not_not_intro hpd), hedge]
  rfl

/-- A wake's transition to ON moves no items. -/
theorem State.pdBegin_on (s : State) (d : Nat) (p : Option Proc) : s.pdBegin d 0 p =
    { s with power := { s.power with change := some { domain := d, old := s.pd d, target := 0, proc := p } } } :=
  if_neg (fun h => h.2.2.1 rfl)

/-! ## Operating points -/

/-- The end of a change of the operating point writes OP and posts it. -/
theorem State.opEnd_spec (s : State) (c : OpChange) (op : Nat) (ok : Bool) : (s.opEnd c op ok).power = { s.power with opChange := none, op := op } ∧
    (s.opEnd c op ok).log = s.log ∧
    ∃ e ∈ (s.opEnd c op ok).cp.events, e.code = 0xE0B0 ∧ e.object = 0x0F ∧ e.payload = leBytes 1 c.old ++ leBytes 1 op := by
  unfold State.opEnd
  dsimp only
  split
  · split
    · unfold State.procApplied State.applied
      split
      · exact ⟨rfl, rfl, _, List.mem_append_right _ (List.mem_singleton_self _), rfl, rfl, rfl⟩
      · exact ⟨rfl, rfl, _, List.mem_append_left _ (List.mem_append_right _ (List.mem_singleton_self _)), rfl, rfl, rfl⟩
    · exact ⟨rfl, rfl, _, List.mem_append_left _ (List.mem_append_right _ (List.mem_singleton_self _)), rfl, rfl, rfl⟩
  · exact ⟨rfl, rfl, _, List.mem_append_right _ (List.mem_singleton_self _), rfl, rfl, rfl⟩

theorem exec_vidSettle {s : State} {c : OpChange} (hchange : s.power.opChange = some c) : exec .vidSettle s = .next
    (({ s with power := { s.power with vgood := true, div8 := false } } : State).opEnd c c.target true).wakeNext := by
  change execVidSettle s = _
  unfold execVidSettle
  rw [hchange]

theorem exec_vgoodTimeout {s : State} {c : OpChange} (hchange : s.power.opChange = some c) : exec .vgoodTimeout s = .next
    (({ s.logFault 0xF001 2 (leBytes 1 s.power.vid) with power := { s.power with vgood := false, vid := c.oldVid } } : State).opEnd c
      (max c.old c.target) false).wakeNext := by
  change execVgoodTimeout s = _
  unfold execVgoodTimeout
  rw [hchange]
  rfl

/-! ## The refresh rate -/

/-- Eight temperatures are the eight sensors' readings. -/
theorem temps_of_length {temps : List Int} (hlen : temps.length = 8) : (List.range 8).map (fun i => temps.getD i 0) = temps := by
  refine List.ext_getElem (by simp [hlen]) (fun i hi hi' => ?_)
  rw [List.getElem_map, List.getElem_range, List.getD_eq_getElem?_getD, List.getElem?_eq_getElem hi', Option.getD_some]

/-- The refresh rate after a step of the sensors, from the rate before and the hottest stack. -/
def refreshNext (refresh : Nat) (hot : Int) (cooled : Bool) : Nat :=
  if refresh ≤ refreshOf hot 0 then refreshOf hot 0 else if cooled then min refresh (refreshOf hot 32) else refresh

theorem refreshNext_hot {refresh : Nat} {hot : Int} (hhot : 1760 < hot) (cooled : Bool) (hle : refresh ≤ 2) : refreshNext refresh hot cooled = 2 := by
  have hup : refreshOf hot 0 = 2 := if_pos (by omega)
  rw [refreshNext, hup, if_pos hle]

theorem refreshNext_warm {refresh : Nat} {hot : Int} (hhigh : hot ≤ 1760) (hlow : 1520 < hot) (cooled : Bool) (hle : refresh ≤ 1) :
    refreshNext refresh hot cooled = 1 := by
  have hup : refreshOf hot 0 = 1 := (if_neg (by omega)).trans (if_pos (by omega))
  rw [refreshNext, hup, if_pos hle]

theorem refreshNext_cool {hot : Int} (hcool : hot ≤ 1488) (refresh : Nat) (cooled : Bool) :
    refreshNext refresh hot cooled = if cooled = true ∨ refresh = 0 then 0 else refresh := by
  have hup : refreshOf hot 0 = 0 := (if_neg (by omega)).trans (if_neg (by omega))
  have hdown : refreshOf hot 32 = 0 := (if_neg (by omega)).trans (if_neg (by omega))
  rw [refreshNext, hup, hdown]
  cases cooled <;> by_cases hzero : refresh = 0 <;> simp [hzero]

/-! ## The NVS -/

/-- The array once group g of the page buffer is programmed, where it is dirty. -/
def programGroup (n : Nvs) (cells : Sparse Byte) (g : Nat) : Sparse Byte :=
  if (List.range 4).any (fun i => n.dirty.getD (4 * g + i) false)
    then writeBytes cells (64 * n.page + 4 * g) (sliceBytes n.buf (4 * g) 4) else cells

theorem programPage_eq (n : Nvs) : programPage n = (List.range 16).foldl (programGroup n) n.cells := rfl

/-- A slice holds the bytes from its start, zeros beyond the end. -/
theorem sliceBytes_getD {bs : List Byte} {o n i : Nat} (hi : i < n) : (sliceBytes bs o n).getD i 0 = bs.getD (o + i) 0 := by
  simp only [sliceBytes, List.getD_eq_getElem?_getD]
  by_cases hlen : i < ((bs.drop o).take n).length
  · rw [List.getElem?_append_left hlen, List.getElem?_take_of_lt hi, List.getElem?_drop]
  · have hend : bs.length ≤ o + i := by
      simp only [List.length_take, List.length_drop] at hlen
      omega
    rw [List.getElem?_append_right (by omega), List.getElem?_eq_none hend, List.getElem?_replicate]
    split <;> rfl

theorem spGet_byteCells {m : Sparse Byte} {a i : Nat} {bs : List Byte} (hi : i < bs.length) (hm : ∀ p ∈ m, p.1 ≠ a + i) :
    spGet (byteCells a bs ++ m) 0 (a + i) = bs.getD i 0 := by
  induction bs generalizing a i with
  | nil => exact absurd hi (Nat.not_lt_zero i)
  | cons b r ih =>
    have hrest : ∀ p ∈ byteCells (a + 1) r, p.1 ≠ a := fun p hp => by
      have := byteCells_ge (a + 1) r p hp
      omega
    cases i with
    | zero =>
      rw [byteCells]
      split
      next hzero =>
        rw [Nat.add_zero a] at hm ⊢
        rw [spGet_append hrest, spGet_absent hm, List.getD_cons_zero, hzero]
      next => simp [spGet]
    | succ i =>
      have hnext := ih (a := a + 1) (i := i) (by simpa using hi) (by simpa [Nat.add_assoc, Nat.add_comm 1] using hm)
      rw [byteCells, List.getD_cons_succ, ← hnext, show a + (i + 1) = a + 1 + i by omega]
      split
      · rfl
      · rw [List.cons_append, spGet, if_neg (by omega)]

/-- A byte written reads as written. -/
theorem spGet_writeBytes_same {m : Sparse Byte} {a i : Nat} {bs : List Byte} (hi : i < bs.length) :
    spGet (writeBytes m a bs) 0 (a + i) = bs.getD i 0 := by
  rw [writeBytes, spGet_append, spGet_byteCells hi]
  · intro p hp
    have := (List.mem_filter.mp hp).2
    simp at this
    omega
  · intro p hp
    have := (List.mem_filter.mp hp).2
    simp at this
    omega

/-- Programming a group leaves every byte outside it alone. -/
theorem programGroup_other {n : Nvs} {cells : Sparse Byte} {g k : Nat} (hk : k < 64 * n.page + 4 * g ∨ 64 * n.page + 4 * g + 4 ≤ k) :
    spGet (programGroup n cells g) 0 k = spGet cells 0 k := by
  unfold programGroup
  split
  · exact spGet_writeBytes_other (by rwa [sliceBytes_length])
  · rfl

/-- The first groups, programmed one after the other. -/
theorem spGet_programGroups (n : Nvs) {i : Nat} (m : Nat) :
    spGet ((List.range m).foldl (programGroup n) n.cells) 0 (64 * n.page + i) =
      if i / 4 < m ∧ (List.range 4).any (fun j => n.dirty.getD (4 * (i / 4) + j) false) = true then n.buf.getD i 0
      else spGet n.cells 0 (64 * n.page + i) := by
  induction m with
  | zero => rfl
  | succ m ih =>
    rw [List.range_succ, List.foldl_append, List.foldl_cons, List.foldl_nil]
    by_cases hm : i / 4 = m
    · subst hm
      unfold programGroup
      split
      next hdirty =>
        have hat : 64 * n.page + i = 64 * n.page + 4 * (i / 4) + i % 4 := by omega
        have hbyte := spGet_writeBytes_same (m := (List.range (i / 4)).foldl (programGroup n) n.cells) (a := 64 * n.page + 4 * (i / 4))
          (bs := sliceBytes n.buf (4 * (i / 4)) 4) (i := i % 4) (by rw [sliceBytes_length]; omega)
        rw [if_pos ⟨Nat.lt_succ_self _, hdirty⟩, hat]
        refine hbyte.trans ((sliceBytes_getD (by omega)).trans ?_)
        rw [show 4 * (i / 4) + i % 4 = i by omega]
      next hclean =>
        exact ih.trans ((if_neg (fun h => hclean h.2)).trans (if_neg (fun h => hclean h.2)).symm)
    · rw [programGroup_other (by omega), ih]
      exact ite_congr (propext (and_congr_left (fun _ => by omega))) (fun _ => rfl) (fun _ => rfl)

/-- The groups programmed leave the other pages alone. -/
theorem spGet_programGroups_other {n : Nvs} {k m : Nat} (hm : m ≤ 16) (hk : k < 64 * n.page ∨ 64 * n.page + 64 ≤ k) :
    spGet ((List.range m).foldl (programGroup n) n.cells) 0 k = spGet n.cells 0 k := by
  induction m with
  | zero => rfl
  | succ m ih =>
    rw [List.range_succ, List.foldl_append, List.foldl_cons, List.foldl_nil, programGroup_other (by omega), ih (by omega)]

/-- The end of a commit leaves the programmed array, whatever follows it. -/
theorem commitEnd_cells {s : State} {c : NvsTask} (hcommit : s.nvs.commit = some c) : (commitEnd s).nvs.cells = programPage s.nvs := by
  unfold commitEnd
  rw [hcommit]
  dsimp only
  refine ((nvsKick_within (P := 17592187412480) rfl (afterCommit_within rfl within_rfl)).same .nvsCells rfl).trans ?_
  split <;> rfl

/-- With no other work an increment that is due starts its commit. -/
theorem incCounter_of_idle {s : State} {c : Nat} (hcommit : s.nvs.commit = none) (htasks : s.nvs.tasks = [])
    (hvalue : counterValue s.nvs c < 2 ^ 30 - 1) : (incCounter s c).nvs.commit ≠ none ∧ (incCounter s c).nvs.cells = s.nvs.cells ∧
      (incCounter s c).nvs.page = 3968 + 4 * c + (counterValue s.nvs c + 1) % 64 / 16 := by
  have hvoid : ¬ NvsTask.void { s.nvs with tasks := [{ goal := .counter c }] } { goal := .counter c } = true :=
    fun h => Nat.not_le.mpr hvalue (of_decide_eq_true h)
  unfold incCounter nvsTask nvsKick
  dsimp only
  rw [hcommit, htasks, List.nil_append, List.dropWhile_cons, if_neg (by exact hvoid)]
  exact ⟨Option.some_ne_none _, rfl, rfl⟩

/-! ## The whole -/

/-- Settles O55. -/
theorem powerAndNvsWorkEnds : Obligations.PowerAndNvsWorkEnds := by
  refine fun s => ⟨fun m rest hmoves hheld hrun => ?move, fun c hmoves hchange hidle hheld hrun hlatched => ?change,
    fun domain source lost hdomain hsource hmask hstuck hpd hnone => ⟨fun hbusy => ?wakeNow, fun hbusy => ?wakeLater⟩,
    fun c hchange => ⟨?settled, ?failed⟩, fun haon hnone => ?lost, fun temps cooled hlen hoff => ?refresh, fun c hcommit => ?commit,
    fun c hc hcommit htasks hvalue => ?counter⟩
  case move =>
    obtain ⟨⟨yoyo, harrived⟩, hevents⟩ := State.domainArrived_spec (s := s.moveEnded m rest) hheld hrun m.1 m.2.1 m.2.2
    obtain ⟨change, latched, hpower⟩ := State.wakeNext_power ((s.moveEnded m rest).domainArrived m.1 m.2.1 m.2.2)
    refine ⟨_, exec_pdChanged_of_move hmoves, ?_, ?_, ?_⟩
    · rw [State.pd, hpower, harrived]
      exact spGet_spSet_same
    · rw [hpower, harrived]
      rfl
    · rw [State.wakeNext_events, hevents]
      exact ⟨_, List.mem_append_right _ (List.mem_singleton_self _), rfl, rfl, rfl⟩
  case change =>
    obtain ⟨hended, hrunning, hevent⟩ := s.changeEnded_spec c
    obtain ⟨⟨yoyo, harrived⟩, hevents⟩ := State.domainArrived_spec (s := s.changeEnded c) (by rw [hended]; exact hheld) (hrunning.trans hrun)
      c.domain c.old c.target
    have hpower : ((s.changeEnded c).domainArrived c.domain c.old c.target).wakeNext.power = { (s.changeEnded c).power with yoyo := yoyo } :=
      (State.wakeNext_power_of_none (by rw [harrived, hended]; exact hlatched)).trans harrived
    refine ⟨_, exec_pdChanged_of_change hmoves hchange hidle, ?_, ?_, ?_⟩
    · rw [State.pd, hpower, hended]
      exact spGet_spSet_same
    · rw [hpower, hended]
    · rw [State.wakeNext_events, hevents]
      exact hevent
  case wakeNow =>
    rw [exec_wake lost hdomain hsource hmask hstuck hpd hnone, hbusy, State.pdBegin_on, hpd]
    rfl
  case wakeLater =>
    rw [exec_wake lost hdomain hsource hmask hstuck hpd hnone, hbusy]
    rfl
  case settled =>
    obtain ⟨hended, hlog, hevent⟩ := State.opEnd_spec { s with power := { s.power with vgood := true, div8 := false } } c c.target true
    obtain ⟨change, latched, hpower⟩ := State.wakeNext_power (({ s with power := { s.power with vgood := true, div8 := false } } : State).opEnd c c.target true)
    refine ⟨_, exec_vidSettle hchange, ?_⟩
    rw [hpower, hended, State.wakeNext_events]
    exact ⟨rfl, rfl, rfl, rfl, hevent⟩
  case failed =>
    obtain ⟨hended, hlog, hevent⟩ := State.opEnd_spec { s.logFault 0xF001 2 (leBytes 1 s.power.vid) with
      power := { s.power with vgood := false, vid := c.oldVid } } c (max c.old c.target) false
    obtain ⟨change, latched, hpower⟩ := State.wakeNext_power (({ s.logFault 0xF001 2 (leBytes 1 s.power.vid) with
      power := { s.power with vgood := false, vid := c.oldVid } } : State).opEnd c (max c.old c.target) false)
    refine ⟨_, exec_vgoodTimeout hchange, ?_⟩
    rw [hpower, hended, State.wakeNext_log, hlog]
    exact ⟨rfl, rfl, rfl, rfl⟩
  case lost =>
    refine ⟨_, congrArg Host.Outcome.next ((if_neg (by rw [haon]; decide)).trans (if_neg (by rw [hnone]; decide))), rfl, rfl, rfl⟩
  case refresh =>
    have hruns : ¬ ((s.yoyo thermalUnit).on && !(s.yoyo thermalUnit).window) = true := by simp [hoff]
    refine ⟨_, congrArg Host.Outcome.next (if_neg hruns), temps_of_length hlen, fun hot hhot => ?_⟩
    have hnext : ∀ r, refreshNext s.power.refresh hot cooled = r → refreshNext s.power.refresh
        (max (((List.range 8).map (fun i => temps.getD i 0)).getD 6 0) (((List.range 8).map (fun i => temps.getD i 0)).getD 7 0)) cooled = r := by
      rw [temps_of_length hlen, hhot]
      exact fun _ h => h
    exact ⟨fun hhigh hle => hnext _ (refreshNext_hot hhigh cooled hle), fun hhigh hlow hle => hnext _ (refreshNext_warm hhigh hlow cooled hle),
      fun hcool => hnext _ (refreshNext_cool hcool _ cooled)⟩
  case commit =>
    refine ⟨_, rfl, fun i hi => ?_, fun a ha => ?_⟩
    · rw [commitEnd_cells hcommit, programPage_eq, spGet_programGroups]
      exact ite_congr (propext (and_iff_right (by omega))) (fun _ => rfl) (fun _ => rfl)
    · rw [commitEnd_cells hcommit, programPage_eq]
      exact spGet_programGroups_other (Nat.le_refl 16) ha
  case counter =>
    exact ⟨_, congrArg Host.Outcome.next (if_pos hc), incCounter_of_idle hcommit htasks hvalue⟩

end Sys2Proof.Machine
end

section
/-! PROOF. The link of the redundant pair (O56). -/

namespace Sys2Proof.Machine

open Sys2Proof.Safety Sys2Proof.Laws

/-! ## What is sent -/

/-- A control block goes last in the outbox. -/
theorem State.sendBlock_outbox (s : State) (type : Nat) (body : List Byte) : (s.sendBlock type body).pair.outbox.getLast? = some (type, body) :=
  getLast?_drop_append _ _ (by decide)

/-! ## The end of the link -/

theorem State.linkFresh_linkUp (s : State) : s.linkFresh.pair.linkUp = false := by
  unfold State.linkFresh
  dsimp only
  split <;> rfl

theorem State.linkFresh_state (s : State) : s.linkFresh.pair.state = s.pair.state := by
  unfold State.linkFresh
  dsimp only
  split <;> rfl

theorem State.unsync_linkUp (s : State) : s.unsync.pair.linkUp = s.pair.linkUp := (congrArg Pair.linkUp (State.endProcs_pair ..)).trans rfl

theorem MoreEvents.unsync {s0 s : State} (h : MoreEvents s0 s) : MoreEvents s0 s.unsync := MoreEvents.endProcs (h.trans (.of_events rfl))

/-- The state of the pair once its link has gone down: the active looks for its partner again, a standby is out of step (R442). -/
def State.linkEnded (s : State) : State :=
  if (s.linkFresh.pairPost 0xE091 0 0).pair.state = 2 then
    { s.linkFresh.pairPost 0xE091 0 0 with pair := { (s.linkFresh.pairPost 0xE091 0 0).pair with state := 1 } }
  else if (s.linkFresh.pairPost 0xE091 0 0).standby then (s.linkFresh.pairPost 0xE091 0 0).unsync else s.linkFresh.pairPost 0xE091 0 0

theorem State.linkEnded_linkUp (s : State) : s.linkEnded.pair.linkUp = false := by
  unfold State.linkEnded
  split
  · exact s.linkFresh_linkUp
  · split
    · exact (State.unsync_linkUp _).trans s.linkFresh_linkUp
    · exact s.linkFresh_linkUp

theorem State.linkEnded_state (s : State) : s.linkEnded.pair.state =
    if s.pair.state = 2 then 1 else if 3 ≤ s.pair.state then 6 else s.pair.state := by
  have hstate : (s.linkFresh.pairPost 0xE091 0 0).pair.state = s.pair.state := s.linkFresh_state
  unfold State.linkEnded State.standby
  rw [hstate]
  by_cases hactive : s.pair.state = 2
  · rw [if_pos hactive, if_pos hactive]
  · rw [if_neg hactive, if_neg hactive]
    by_cases hstandby : 3 ≤ s.pair.state
    · rw [if_pos (decide_eq_true hstandby), if_pos hstandby, State.unsync_pair_state]
    · rw [if_neg (by simpa using hstandby), if_neg hstandby, hstate]

theorem State.linkEnded_events (s : State) : MoreEvents (s.linkFresh.pairPost 0xE091 0 0) s.linkEnded :=
  MoreEvents.ite (.of_events rfl) (MoreEvents.ite (MoreEvents.refl _).unsync (MoreEvents.refl _))

/-- A link that is up ends; a partner that still holds the baton is reported silent (R468). -/
theorem State.pairDown_of_up {s : State} (hup : s.pair.linkUp = true) :
    s.pairDown = if s.standby && s.pair.batonIn then s.linkEnded.pairPost 0xE09B 0 0 else s.linkEnded :=
  if_neg (by rw [hup]; decide)

theorem State.pairDown_linkUp (s : State) : s.pairDown.pair.linkUp = false := by
  by_cases hup : s.pair.linkUp = true
  · rw [State.pairDown_of_up hup]
    split
    · exact s.linkEnded_linkUp
    · exact s.linkEnded_linkUp
  · have hdown : s.pairDown = s.linkFresh := if_pos (by simpa using hup)
    rw [hdown, s.linkFresh_linkUp]

theorem State.pairDown_state {s : State} (hup : s.pair.linkUp = true) : s.pairDown.pair.state =
    if s.pair.state = 2 then 1 else if 3 ≤ s.pair.state then 6 else s.pair.state := by
  rw [State.pairDown_of_up hup]
  split
  · exact s.linkEnded_state
  · exact s.linkEnded_state

theorem MoreEvents.linkFresh (s : State) : MoreEvents s s.linkFresh :=
  .of_within (State.linkFresh_within (P := 52776558141440) rfl within_rfl) rfl

theorem MoreEvents.pairDown (s : State) : MoreEvents s s.pairDown := by
  unfold State.pairDown
  split
  · exact .linkFresh s
  · have hended : MoreEvents s s.linkEnded := (MoreEvents.linkFresh s).post.trans s.linkEnded_events
    exact MoreEvents.ite hended.post hended

/-- A link that goes down posts PAIR_LINK_DOWN. -/
theorem State.pairDown_posts {s : State} (hup : s.pair.linkUp = true) : ∃ e ∈ s.pairDown.cp.events, e.code = 0xE091 := by
  have hmore : MoreEvents (s.linkFresh.pairPost 0xE091 0 0) s.pairDown := by
    rw [State.pairDown_of_up hup]
    exact MoreEvents.ite s.linkEnded_events.post s.linkEnded_events
  exact ⟨_, hmore.mem _ (List.mem_append_right _ (List.mem_singleton_self _)), rfl⟩

/-! ## Lanes, messages sent again -/

/-- The state in which the elastic buffers of the given lanes have overflowed. -/
def State.lanesOverflowed (s : State) (ls : List Nat) : State :=
  ls.foldl (fun s l => s.setLane l { s.lane l with ebOvf := true, blockLock := false, hunting := true }) s

/-- Every lane of the list has lost its lock, any other is as it was. -/
theorem State.lanesOverflowed_lane (s : State) (ls : List Nat) (l : Nat) : (s.lanesOverflowed ls).lane l =
    if l ∈ ls then { s.lane l with ebOvf := true, blockLock := false, hunting := true } else s.lane l := by
  induction ls generalizing s with
  | nil => simp [State.lanesOverflowed]
  | cons x ls ih =>
    change (State.lanesOverflowed _ ls).lane l = _
    rw [ih]
    by_cases hx : l = x
    · subst hx
      simp
    · simp [hx, State.setLane_lane_other]

theorem State.lanesOverflowed_pair (s : State) (ls : List Nat) : (s.lanesOverflowed ls).pair = s.pair :=
  (within_foldl (P := 67108864) (fun _ _ h => State.setLane_within rfl h) within_rfl).same .pair rfl

/-- The end of the link leaves the lanes as they are. -/
theorem State.pairDown_lane (s : State) (l : Nat) : s.pairDown.lane l = s.lane l := by
  have hlanes : s.pairDown.lanes = s.lanes := (State.pairDown_within (P := 52776558190592) rfl within_rfl).same .lanes rfl
  rw [State.lane, hlanes, State.lane]

/-- The message sent again is the one with its number, its tries counted. -/
theorem find?_retried {q : Nat} {m : SentMsg} {l : List SentMsg} (hfind : l.find? (fun m => m.mseq == q) = some m) :
    (l.map (fun x => if x.mseq = q then { x with tries := x.tries + 1 } else x)).find? (fun m => m.mseq == q) = some { m with tries := m.tries + 1 } := by
  have hseq : ∀ x : SentMsg, (if x.mseq = q then { x with tries := x.tries + 1 } else x).mseq = x.mseq := fun x => by split <;> rfl
  have hm : m.mseq = q := by simpa using List.find?_some hfind
  rw [List.find?_map]
  simp only [Function.comp_def, hseq, hfind, Option.map_some, if_pos hm]

theorem State.resend_of_lost {s : State} {q : Nat} {m : SentMsg} (hfind : s.pair.sent.find? (fun m => m.mseq == q) = some m) (htries : 3 ≤ m.tries) :
    s.resend q = s.pairDown := by
  unfold State.resend
  rw [hfind]
  exact if_pos htries

theorem State.resend_of_tried {s : State} {q : Nat} {m : SentMsg} (hfind : s.pair.sent.find? (fun m => m.mseq == q) = some m) (htries : m.tries < 3) :
    s.resend q = ({ s with pair := { s.pair with
      sent := s.pair.sent.map (fun x => if x.mseq = q then { x with tries := x.tries + 1 } else x) } } : State).sendBlock m.mtype m.body := by
  unfold State.resend
  rw [hfind]
  exact if_neg (Nat.not_le.mpr htries)

/-! ## The link comes up -/

/-- The state in which the link has come up, before its first messages. -/
def State.linkBegun (s : State) : State :=
  { s with
    pair := { s.pair with
      linkUp := true, state := if s.pair.state = 1 then (if s.pair.lead then 2 else 3) else s.pair.state,
      gen := if s.pair.state = 1 ∧ s.pair.lead = false then s.pair.partnerGen else s.pair.gen }
    sync := { s.sync with stepped := false, release := none, windDown := false } }

/-- The state in which the link that came up has sent its first messages. -/
def State.linkBroughtUp (s : State) : State :=
  if (s.linkBegun.pairPost 0xE090 0 0).sendEcho.pair.state = 2 then (s.linkBegun.pairPost 0xE090 0 0).sendEcho.sendTime
  else (s.linkBegun.pairPost 0xE090 0 0).sendEcho

theorem exec_pairLinkUp {s : State} (henable : s.pair.enable = true) (hdown : s.pair.linkUp = false) (hseen : s.pair.helloSeen = true)
    (hsent : s.pair.sent.any (fun m => m.mtype == 1) = false) (hlocks : ∀ l ∈ [32, 33, 34, 35], (s.lane l).blockLock = true) :
    exec .pairLinkUp s = .next s.linkBroughtUp := by
  have hall : [32, 33, 34, 35].all (fun l => (s.lane l).blockLock) = true := List.all_eq_true.mpr hlocks
  exact congrArg Host.Outcome.next (if_neg (by rw [henable, hdown, hseen, hsent, hall]; decide))

theorem State.linkBroughtUp_spec (s : State) : s.linkBroughtUp.pair.linkUp = true ∧ s.linkBroughtUp.pair.state = s.linkBegun.pair.state ∧
    ∃ e ∈ s.linkBroughtUp.cp.events, e.code = 0xE090 := by
  unfold State.linkBroughtUp
  split
  · exact ⟨rfl, rfl, _, List.mem_append_right _ (List.mem_singleton_self _), rfl⟩
  · exact ⟨rfl, rfl, _, List.mem_append_right _ (List.mem_singleton_self _), rfl⟩

/-- Which of the pair leads, of this device and its partner (R443). -/
theorem lead_eq (baton partnerBaton rest : Bool) : (if baton then true else if partnerBaton then false else rest) = (baton || (!partnerBaton && rest)) := by
  cases baton <;> cases partnerBaton <;> rfl

/-- Settles O56. -/
theorem thePairLinkWorks : Obligations.ThePairLinkWorks := by
  refine fun s => ⟨fun henable hdown hseen hsent hlocks => ?up, fun henable hup => ?down, fun hup => ?overflow, fun henable => ?beat,
    fun q m hfind => ⟨fun htries => ⟨?again, rfl⟩, fun htries => ?lost⟩, fun q => rfl, fun p henable => ⟨fun hport => ?samePort, fun hport => ?hello⟩,
    fun r a henable => ⟨?echo, fun hup hlen => ?answered, fun hup hlen => ?delay⟩, fun hup hlen => ⟨fun hsent => ?echoAgain, fun hsent => ?echoLost⟩,
    fun tp tBase hstandby => ?time, fun launch crc packet i hstandby hup hread => ?cmd, fun launch crc packet st hstandby hup hread => ?badCmd,
    fun cause henable hcause => ?windDown, fun frame line gen dac hstandby => ?release⟩
  case up => exact ⟨_, exec_pairLinkUp henable hdown hseen hsent hlocks, s.linkBroughtUp_spec⟩
  case down => exact ⟨s.pairDown, congrArg Host.Outcome.next (if_pos henable), s.pairDown_linkUp, State.pairDown_state hup, State.pairDown_posts hup⟩
  case overflow =>
    have hpair : (s.lanesOverflowed [32, 33, 34, 35]).pair.linkUp = true := by rw [s.lanesOverflowed_pair, hup]
    refine ⟨(s.lanesOverflowed [32, 33, 34, 35]).pairDown, congrArg Host.Outcome.next (if_pos hpair), State.pairDown_linkUp _, fun l hl => ?_⟩
    rw [State.pairDown_lane, State.lanesOverflowed_lane, if_pos hl]
    exact ⟨rfl, rfl⟩
  case beat =>
    exact ⟨_, congrArg Host.Outcome.next (if_neg (by rw [henable]; decide)), rfl, State.sendBlock_outbox ..⟩
  case again =>
    exact ⟨_, congrArg Host.Outcome.next (State.resend_of_tried hfind htries), State.sendBlock_outbox .., find?_retried hfind⟩
  case lost =>
    have hresend : exec (.retransmit q) s = .next s.pairDown := congrArg Host.Outcome.next (State.resend_of_lost hfind htries)
    exact ⟨s.pairDown, hresend, hresend, s.pairDown_linkUp⟩
  case samePort =>
    refine ⟨_, congrArg Host.Outcome.next ((if_neg (by rw [henable]; decide)).trans (if_pos hport)), State.pairDown_linkUp _, ?_⟩
    exact ⟨_, (MoreEvents.pairDown _).mem _ (List.mem_append_right _ (List.mem_singleton_self _)), rfl⟩
  case hello =>
    exact ⟨_, congrArg Host.Outcome.next ((if_neg (by rw [henable]; decide)).trans (if_neg hport)), rfl, rfl, lead_eq ..⟩
  case echo =>
    exact ⟨_, congrArg Host.Outcome.next ((if_neg (by rw [henable]; decide)).trans (if_pos rfl)), State.sendBlock_outbox ..⟩
  case answered =>
    refine ⟨_, congrArg Host.Outcome.next ((if_neg (by rw [henable]; decide)).trans ((if_neg (by decide)).trans
      ((if_neg (by simp [hup]; omega)).trans (if_pos (by simp; omega))))), rfl, rfl⟩
  case delay =>
    exact ⟨_, congrArg Host.Outcome.next ((if_neg (by rw [henable]; decide)).trans ((if_neg (by decide)).trans
      ((if_neg (by simp [hup]; omega)).trans (if_neg (by simp; omega))))), rfl⟩
  case echoAgain =>
    exact ⟨s.sendEcho, congrArg Host.Outcome.next ((if_neg (by simp [hup]; omega)).trans (if_neg (by omega))), rfl⟩
  case echoLost =>
    exact ⟨s.pairDown, congrArg Host.Outcome.next ((if_neg (by simp [hup]; omega)).trans (if_pos hsent)), s.pairDown_linkUp⟩
  case time =>
    exact ⟨_, congrArg Host.Outcome.next (if_neg (by rw [hstandby]; decide)), rfl, rfl⟩
  case cmd =>
    refine congrArg Host.Outcome.next ((if_neg (by rw [hstandby, hup]; decide)).trans ?_)
    rw [hread]
    exact ite_not ..
  case badCmd =>
    refine ⟨(s.ackMsg.pairPost 0xE093 0 0).unsync, congrArg Host.Outcome.next ((if_neg (by rw [hstandby, hup]; decide)).trans ?_),
      State.unsync_pair_state _, _, (MoreEvents.unsync (MoreEvents.refl _)).mem _ (List.mem_append_right _ (List.mem_singleton_self _)), rfl⟩
    rw [hread]
  case windDown =>
    exact ⟨_, congrArg Host.Outcome.next (if_neg (by simp [henable, hcause])), rfl⟩
  case release =>
    exact ⟨_, congrArg Host.Outcome.next (if_neg (by rw [hstandby]; decide)), rfl⟩

end Sys2Proof.Machine
end

section
/-! PROOF. Lockstep, resynchronisation, hand-over and takeover (O57). -/

namespace Sys2Proof.Machine

open Sys2Proof.Safety Sys2Proof.Laws

/-! ## PHASE -/

/-- What an exchange of PHASE compares: the device's own nanoseconds of a line start. -/
def Head.ownPhase (h : Head) (l : Latched) (line : Nat) : Nat := (h.lineTime l line).toNat % uSec / 65536

/-- How far the partner's nanoseconds lie from the device's own. -/
def phaseFar (own ns : Nat) : Bool :=
  decide (20 < min ((own + 1000000000 - ns % 1000000000) % 1000000000) (1000000000 - (own + 1000000000 - ns % 1000000000) % 1000000000))

theorem phaseFar_self {ns : Nat} (hns : ns < 1000000000) : phaseFar ns ns = false := by
  rw [phaseFar, Nat.mod_eq_of_lt hns, Nat.add_sub_cancel_left]
  rfl

theorem phaseFar_of_apart {own ns : Nat} (hns : ns < 1000000000) (hlow : ns + 20 < own) (hhigh : own < ns + 500000000) : phaseFar own ns = true := by
  unfold phaseFar
  exact decide_eq_true (by omega)

theorem Head.ownPhase_lt (h : Head) (l : Latched) (line : Nat) : h.ownPhase l line < 1000000000 := by
  have : (h.lineTime l line).toNat % uSec < 65536000000000 := Nat.mod_lt _ (by decide)
  unfold Head.ownPhase
  omega

/-- The state in which a difference of PHASE has been counted. -/
def State.phaseCounted (s : State) : State :=
  { s with sync := { s.sync with phaseErr := inc32 s.sync.phaseErr, phaseRun := s.sync.phaseRun + 1 } }

/-- PHASE on a link that is up, for a frame that is latched. -/
theorem exec_phase {s : State} {n frame line ns : Nat} {l : Latched} (hn : n = s.pairHead)
    (hfind : (s.head n).scan.latched.find? (fun l => l.frame % 16 == frame % 16) = some l) (hup : s.pair.linkUp = true) :
    exec (.phase frame line ns) s = .next
      (if s.pair.state = 3 then (if (s.head n).scans && s.inTime && !phaseFar ((s.head n).ownPhase l line) ns then s.lockstep else s)
       else if s.pair.state ≠ 4 ∧ s.pair.state ≠ 5 then s
       else if !phaseFar ((s.head n).ownPhase l line) ns then { s with sync := { s.sync with phaseRun := 0 } }
       else if s.phaseCounted.sync.phaseRun < 16 then s.phaseCounted
       else (({ s.phaseCounted with sync := { s.phaseCounted.sync with phaseRun := 0 } } : State).pairPost 0xE094 line line).unsync) := by
  subst hn
  change execPhase frame line ns s = _
  unfold execPhase
  dsimp only
  rw [hfind]
  exact congrArg Host.Outcome.next (if_neg (by rw [hup]; decide))

/-- Asking for rows leaves the state of the pair and what is divergent. -/
theorem foldl_askRow (rows : List Nat) (s : State) : (rows.foldl (fun s q => s.askRow q) s).pair.state = s.pair.state ∧
    (rows.foldl (fun s q => s.askRow q) s).sync.divergent = s.sync.divergent :=
  keepsAt_foldl (P := fun t : State => t.pair.state = s.pair.state ∧ t.sync.divergent = s.sync.divergent) (fun _ _ h => h) ⟨rfl, rfl⟩

@[simp] theorem State.ackMsg_sync (s : State) : s.ackMsg.sync = s.sync := rfl

theorem State.unsync_sync (s : State) : s.unsync.sync = s.sync := (State.unsync_within (P := 17592186093568) rfl within_rfl).same .sync rfl

/-! ## Rows -/

theorem State.rowMatches_head (s : State) (k q m : Nat) : (s.rowMatches k q).head m = s.head m := by
  have hheads : (s.rowMatches k q).heads = s.heads := (State.rowMatches_within (P := 52776558182400) rfl within_rfl).same .heads rfl
  rw [State.head, hheads, State.head]

theorem State.rowDiverges_head (s : State) (k q m : Nat) : (s.rowDiverges k q).head m = s.head m := by
  have hheads : (s.rowDiverges k q).heads = s.heads := (State.rowDiverges_within (P := 52776558149632) rfl within_rfl).same .heads rfl
  rw [State.head, hheads, State.head]

/-- A row that matches is no longer divergent. -/
theorem State.rowMatches_divergent (s : State) (k q : Nat) : q ∉ (s.rowMatches k q).sync.divergent := by
  have hfilter : q ∉ s.sync.divergent.filter (fun r => r != q) := by simp
  unfold State.rowMatches
  refine keepsAt_ite (P := fun t : State => q ∉ t.sync.divergent) (fun _ => ?_) (fun _ => hfilter)
  rw [State.endProcs_sync]
  exact hfilter

/-- The state in which a row in lockstep has been marked as divergent. -/
def State.rowMarked (s : State) (k q : Nat) : State :=
  { s with
    pair := { s.pair with state := 4 }
    sync := { s.sync with
      matched := if s.sync.matched.1 = k then s.sync.matched else (k, 0)
      divergent := if s.sync.divergent.contains q then s.sync.divergent else s.sync.divergent ++ [q] } }

/-- The state in which a divergent row has been asked for, once. -/
def State.rowAsked (s : State) (k q : Nat) : State :=
  if (s.rowMarked k q).sync.requests.contains q then s.rowMarked k q else (s.rowMarked k q).askRow q

/-- A row in lockstep that is divergent and asked for. -/
def Diverged (q : Nat) (s : State) : Prop := q ∈ s.sync.divergent ∧ q ∈ s.sync.requests ∧ s.pair.state = 4

theorem mem_added (q : Nat) (l : List Nat) : q ∈ (if l.contains q then l else l ++ [q]) := by
  split
  next h => simpa using h
  next => simp

theorem State.rowAsked_diverged (s : State) (k q : Nat) : Diverged q (s.rowAsked k q) :=
  keepsAt_ite (P := Diverged q) (fun h => ⟨mem_added q _, by simpa using h, rfl⟩) (fun _ => ⟨mem_added q _, mem_added q _, rfl⟩)

/-- In lockstep a row found divergent is marked and asked for (R461). -/
theorem State.rowDiverges_diverged {s : State} (hstate : s.pair.state = 4 ∨ s.pair.state = 5) (k q : Nat) : Diverged q (s.rowDiverges k q) := by
  have hasked : Diverged q (s.rowAsked k q) := s.rowAsked_diverged k q
  have hgo : ¬ (s.pair.state ≠ 4 ∧ s.pair.state ≠ 5) := by omega
  unfold State.rowDiverges
  exact keepsAt_ite (P := Diverged q) (fun h => absurd h hgo) (fun _ => keepsAt_ite (P := Diverged q) (fun _ => hasked) (fun _ => hasked))

/-! ## The state of the pair in a commit -/

/-- The state of the pair is the same. -/
structure SamePair (s t : State) : Prop where
  state : t.pair.state = s.pair.state

section

variable {s0 s : State} (h : SamePair s0 s)
include h

theorem SamePair.within {P : Nat} {t : State} (hw : Within P s t) (hp : P.testBit Part.pair.ctorIdx = false) : SamePair s0 t :=
  ⟨(congrArg Pair.state (hw.same .pair hp)).trans h.state⟩

theorem SamePair.sendIf {p : Prop} [Decidable p] {type : Nat} {body : List Byte} : SamePair s0 (if p then s.sendMsg type body else s) := by
  split
  · exact ⟨h.state⟩
  · exact h

theorem SamePair.postIf {p : Prop} [Decidable p] {code object origin : Nat} {payload : List Byte} :
    SamePair s0 (if p then s.post code object origin payload else s) := by
  split
  · exact ⟨h.state⟩
  · exact h

theorem SamePair.answerRow {n k q crc : Nat} {flags : List Nat} {panel : List Byte} : SamePair s0 (s.answerRow n k q crc flags panel) := by
  unfold State.answerRow
  split
  · exact h
  · exact ⟨h.state⟩

theorem SamePair.snapRow {n k q : Nat} : SamePair s0 (s.snapRow n k q) :=
  h.within (State.snapRow_within (P := 1168250028032) rfl within_rfl) rfl

theorem SamePair.postSkips {n k : Nat} : SamePair s0 (s.postSkips n k) :=
  h.within (State.postSkips_within (P := 1099511644160) rfl within_rfl) rfl

end

/-- A commit leaves the state of the pair. -/
theorem State.commitRow_samePair (s : State) (n : Nat) (l : Latched) (q : Nat) : SamePair s (s.commitRow n l q) := by
  unfold State.commitRow
  dsimp only
  refine .postSkips (.answerRow (.sendIf (.snapRow (.postIf (SamePair.within (SamePair.mk (s := s) rfl) (P := 1649290526720) ?_ rfl)))))
  exact within_tq rfl (State.modHead_within rfl (within_foldl (fun _ _ ht => State.setTile_within rfl ht) (State.putMem_within1 rfl
    (State.putMem_within1 rfl (State.putRows_within0 rfl within_rfl)))))

/-! ## ROW and ROW_WAIT_END -/

/-- The state in which a row of a frame is no longer held as complete. -/
def State.rowTaken (s : State) (k q : Nat) : State := { s with sync := { s.sync with complete := s.sync.complete.filter (fun x => x != (k, q)) } }

/-- ROW for a row that is not settled. -/
theorem exec_row {s : State} {n frame row skipped crc : Nat} {l : Latched} (hn : n = s.pairHead) (hstandby : s.standby = true)
    (hfind : (s.head n).scan.latched.find? (fun l => l.frame % 2 ^ 32 == frame % 2 ^ 32) = some l) (hopen : (s.head n).settled l.frame row = false)
    (hrow : row < (s.head n).th) : exec (.row frame row skipped crc) s = .next
      (if skipped = 1 then ((s.ackMsg.rowTaken l.frame row).skipRow n l.frame row 1).rowMatches l.frame row
       else if !s.sync.complete.contains (l.frame, row) then ((s.ackMsg.rowTaken l.frame row).skipRow n l.frame row 1).rowDiverges l.frame row
       else if s.rowCrc n l row = crc then ((s.ackMsg.rowTaken l.frame row).commitRow n l row).rowMatches l.frame row
       else ((s.ackMsg.rowTaken l.frame row).commitRow n l row).rowDiverges l.frame row) := by
  subst hn
  change execRow frame row skipped crc s = _
  unfold execRow
  dsimp only
  rw [hfind, if_neg (by rw [hstandby]; decide)]
  exact congrArg Host.Outcome.next (if_neg (by simp [hopen]; omega))

/-- ROW_WAIT_END for the first frame whose row is due and open. -/
theorem exec_rowWaitEnd {s : State} {n row : Nat} {l : Latched} (hn : n = s.pairHead) (hstandby : s.standby = true) (hup : s.pair.linkUp = true)
    (hfind : (s.head n).scan.latched.find? (fun l => !(s.head n).settled l.frame row && decide (Head.dueP l row ≤ s.tp)) = some l) :
    exec (.rowWaitEnd row) s = .next (((s.rowTaken l.frame row).skipRow n l.frame row 1).rowDiverges l.frame row) := by
  subst hn
  change execRowWaitEnd row s = _
  unfold execRowWaitEnd
  dsimp only
  rw [hfind, if_neg (by rw [hstandby, hup]; decide)]
  rfl

/-! ## ROW_DATA -/

/-- A write of whole words into the central store is read back. -/
theorem State.readBytes_putMem_store {s : State} {a : Nat} {bs : List Byte} (ha : a % 4 = 0) (hbs : bs.length % 4 = 0) :
    readBytes (s.putMem 0 a bs).mem.store a bs.length = bs := by
  by_cases hne : bs = []
  · rw [hne]
    rfl
  · rw [State.putMem, State.writeMem_of_aligned ha hbs hne]
    exact readBytes_writeBytes ..

/-- The state in which ROW_DATA has been taken, before its row is installed. -/
def State.rowAnswered (s : State) (row : Nat) : State :=
  { s.ackMsg with sync := { s.ackMsg.sync with requests := s.ackMsg.sync.requests.filter (fun r => r != row) } }

/-- The state in which the row of ROW_DATA has been installed. -/
def State.rowInstalled (s : State) (n : Nat) (c : HeadConfigP) (p : RowDataP) : State :=
  (List.range (s.head n).tw).foldl (fun t tx => t.setTile ((s.head n).tileAt tx p.row)
      ((t.tile ((s.head n).tileAt tx p.row)).withFlags (fieldAt p.flags (2 * tx) 2)))
    ((((s.rowAnswered p.row).putMem 0 (c.psBase + 1024 * (p.row * (s.head n).tw)) (sliceBytes p.panel 0 (1024 * (s.head n).tw))).putMem 1
      (rowTimeAt n p.row) (sliceBytes p.times 0 64)).putMem 1 (rowCheckAt n p.row) (leBytes 4 p.frame ++ leBytes 4 p.crc))

theorem exec_rowData {s : State} {n : Nat} {p : RowDataP} {c : HeadConfigP} (hn : n = s.pairHead) (hstandby : s.standby = true)
    (hcfg : (s.head n).cfg = some c) (hrow : p.row < (s.head n).th) (hframe : p.frame = (s.head n).scan.frame % 2 ^ 32)
    (hfind : (s.head n).scan.latched.find? (fun l => l.frame % 2 ^ 32 == (p.frame + 1) % 2 ^ 32) = none) :
    exec (.rowData p) s = .next (s.rowInstalled n c p) := by
  subst hn
  have hsoon : (newer32 p.frame ((s.head s.pairHead).scan.frame % 2 ^ 32) || p.frame == (s.head s.pairHead).scan.frame % 2 ^ 32) = true := by
    rw [← hframe]
    simp
  change execRowData p s = _
  unfold execRowData
  dsimp only
  rw [hfind, hcfg, if_neg (by rw [hstandby]; decide)]
  dsimp only
  rw [if_neg (Nat.not_le.mpr hrow), hsoon]
  rfl

theorem State.rowInstalled_within (s : State) (n : Nat) (c : HeadConfigP) (p : RowDataP) : Within 549776801792
    ((s.rowAnswered p.row).putMem 0 (c.psBase + 1024 * (p.row * (s.head n).tw)) (sliceBytes p.panel 0 (1024 * (s.head n).tw))) (s.rowInstalled n c p) :=
  within_foldl (fun _ _ h => State.setTile_within rfl h) (State.putMem_within1 rfl (State.putMem_within1 rfl within_rfl))

/-! ## LATCH_WAIT_END -/

def Head.dacCode (h : Head) : Nat := h.vcom.dac

/-- The state of a latch point whose values are given, before its frames are latched. -/
def State.latchTaken (s : State) (n k : Nat) (g : LatchGiven) : State :=
  ((s.modHead n (fun h => { h with ledger := h.ledger.warmCut })).takeGiven n k g).bypassFaulty n

theorem State.takeGiven_samePart {s0 s : State} {n k : Nat} {g : LatchGiven} (h : SameHead Head.latchPart s0 s) :
    SameHead Head.latchPart s0 (s.takeGiven n k g) := by
  unfold State.takeGiven
  dsimp only
  have hset : ∀ therm vcom, SameHead Head.latchPart s0 (s.setHead n { s.head n with therm := therm, vcom := vcom }) := fun _ _ => h.setHead rfl
  exact SameHead.ite (hset _ _) (SameHead.post (hset _ _))

theorem State.latchTaken_samePart (s : State) (n k : Nat) (g : LatchGiven) : SameHead Head.latchPart s (s.latchTaken n k g) := by
  refine State.bypassFaulty_samePart (State.takeGiven_samePart (SameHead.modHead (fun x => ?_) (SameHead.refl s)))
  unfold Head.latchPart
  dsimp only
  rw [Ledger.warmCut_allowed]

theorem State.takeGiven_dac (s : State) (n k : Nat) (g : LatchGiven) : ((s.takeGiven n k g).head n).dacCode = g.dac := by
  unfold State.takeGiven
  dsimp only
  split
  · rw [State.setHead_head]
    rfl
  · rw [State.post_head, State.setHead_head]
    rfl

theorem State.bypassFaulty_sameDac (s : State) (n : Nat) : SameHead Head.dacCode s (s.bypassFaulty n) :=
  SameHead.foldl (fun _ _ ht => ht.post) ((SameHead.refl s).modHead fun _ => rfl)

theorem State.latchTaken_dac (s : State) (n k : Nat) (g : LatchGiven) : ((s.latchTaken n k g).head n).dacCode = g.dac :=
  ((State.bypassFaulty_sameDac _ n).eq n).trans (State.takeGiven_dac ..)

theorem State.latchOne_sameDac {s0 s : State} {n k i kind w : Nat} {e : Int} {clock : LineClock} (h : SameHead Head.dacCode s0 s) :
    SameHead Head.dacCode s0 (s.latchOne n k i kind w e clock) := h.setHead rfl

/-- The state of a latch point whose values are given once the other one of a pair knows it. -/
def State.latchGivenSent (s : State) (n k : Nat) (g : LatchGiven) : State :=
  if (s.latchTaken n k g).pairActive then (s.latchTaken n k g).sendMsg 0x08 (((s.latchTaken n k g).head n).latchBytes k g.e) else s.latchTaken n k g

/-- The state of a latch point whose values are given and whose frames have been latched. -/
def State.latchGivenFrames (s : State) (n k kind count warmN : Nat) (g : LatchGiven) (scans : Bool) : State :=
  if scans then (List.range count).foldl (fun s i =>
      match if kind = 2 then s.balanceClock n k else s.clockOf n (k + i) (s.head n).bandNow with
      | some c => s.latchOne n k i kind (warmN + i) g.e c
      | none => s) (s.latchGivenSent n k g)
  else match if kind = 2 then (s.latchGivenSent n k g).balanceClock n k
      else (s.latchGivenSent n k g).clockOf n (k + 0) ((s.latchGivenSent n k g).head n).bandNow with
    | some c => (s.latchGivenSent n k g).modHead n (fun h => { h with scan := { h.scan.fixLines (c.at_ 0) with seam := true } })
    | none => s.latchGivenSent n k g

theorem State.latchGivenSent_sameDac (s : State) (n k : Nat) (g : LatchGiven) : SameHead Head.dacCode (s.latchTaken n k g) (s.latchGivenSent n k g) :=
  SameHead.ite (SameHead.refl _).sendMsg (SameHead.refl _)

theorem State.latchGivenFrames_sameDac (s : State) (n k kind count warmN : Nat) (g : LatchGiven) (scans : Bool) :
    SameHead Head.dacCode (s.latchTaken n k g) (s.latchGivenFrames n k kind count warmN g scans) := by
  have hsent := s.latchGivenSent_sameDac n k g
  refine SameHead.ite (SameHead.foldl (fun t i ht => ?_) hsent) ?_
  · split
    · exact State.latchOne_sameDac ht
    · exact ht
  · split
    · exact hsent.modHead fun _ => rfl
    · exact hsent

/-- How a head goes on after a latch point with `count` frames. -/
def Head.latchedOn (h : Head) (k kind count : Nat) : Head :=
  { h with
    ledger := if kind = 3 then { h.ledger with warmLeft := h.ledger.warmLeft - count, warmCount := h.ledger.warmCount + count } else h.ledger
    scan := { h.scan with nextLatch := k + count, transition := h.scan.transition - count } }

theorem Head.latchedOn_nextLatch (h : Head) (k kind count : Nat) : (h.latchedOn k kind count).scan.nextLatch = k + count := rfl

theorem Head.latchedOn_dac (h : Head) (k kind count : Nat) : (h.latchedOn k kind count).vcom.dac = h.dacCode := rfl

/-- The number of frames that a head latches next. -/
def Head.latchCount (h : Head) : Nat := if h.kindNext = 2 then 1 else h.nViews

theorem State.latchFrames_given (s : State) (n k : Nat) (g : LatchGiven) : s.latchFrames n k (some g) =
    (s.latchGivenFrames n k ((s.latchTaken n k g).head n).kindNext ((s.latchTaken n k g).head n).latchCount
      ((s.latchTaken n k g).head n).ledger.warmCount g (((s.latchTaken n k g).head n).scansFrame k)).modHead n
      (fun h => h.latchedOn k ((s.latchTaken n k g).head n).kindNext ((s.latchTaken n k g).head n).latchCount) := by
  unfold State.latchGivenFrames State.latchGivenSent Head.latchCount
  unfold State.latchFrames
  dsimp only
  rw [show ((s.modHead n fun h => { h with ledger := h.ledger.warmCut }).takeGiven n k g).bypassFaulty n = s.latchTaken n k g from rfl]
  rfl

/-- A latch point with given values moves on by its frames and takes the DAC code. -/
theorem State.latchFrames_given_spec (s : State) (n k : Nat) (g : LatchGiven) :
    ((s.latchFrames n k (some g)).head n).scan.nextLatch = k + ((s.latchTaken n k g).head n).latchCount ∧
    ((s.latchFrames n k (some g)).head n).vcom.dac = g.dac := by
  rw [State.latchFrames_given, State.modHead_head, Head.latchedOn_nextLatch, Head.latchedOn_dac, (State.latchGivenFrames_sameDac ..).eq n,
    State.latchTaken_dac]
  exact ⟨rfl, rfl⟩

/-- The latch point of a head that scans and that no command waits for, with its values given. -/
theorem State.latchHead_given {s : State} {n : Nat} {c : HeadConfigP} (hstate : (s.head n).state = 3) (hcfg : (s.head n).cfg = some c)
    (hscan : c.scanMode = 0) (hparking : (s.head n).scan.parking = false) (hnext : (s.head n).scan.nextCfg = none) (hlaunch : s.cp.launch = [])
    (g : LatchGiven) : s.latchHead n (some g) = s.latchBegun.latchFrames n (s.head n).scan.nextLatch (some g) := by
  have hclock : s.latchBegun.clockOf n (s.head n).scan.nextLatch (s.head n).bandNow = some (normalClock c (s.head n).scan.nextLatch) :=
    State.clockOf_of_normal hcfg hscan
  have hlaunch' : s.latchBegun.cp.launch = [] := hlaunch
  have hentries : s.latchBegun.latchEntries n (s.head n).scan.nextLatch = s.latchBegun := by
    rw [State.latchEntries, State.latchDue_of_nil hlaunch', List.foldl_nil]
  rw [State.latchHead_eq, State.latchBegun_head, hclock, hparking, if_neg (by simp [Head.scans, hstate]), if_neg (by omega), hnext,
    if_neg (by simp), State.latchDue_of_nil hlaunch', hentries]

/-- What a latch point of a normal head with given values leaves. -/
theorem State.latchHead_given_spec {s : State} {n : Nat} {c : HeadConfigP} (hstate : (s.head n).state = 3) (hcfg : (s.head n).cfg = some c)
    (hscan : c.scanMode = 0) (hparking : (s.head n).scan.parking = false) (hnext : (s.head n).scan.nextCfg = none)
    (htransition : (s.head n).scan.transition = 0) (hlaunch : s.cp.launch = []) (g : LatchGiven) :
    ((s.latchHead n (some g)).head n).scan.nextLatch = (s.head n).scan.nextLatch + 1 ∧ (s.latchHead n (some g)).sync.latchWaited = false ∧
    ((s.latchHead n (some g)).head n).vcom.dac = g.dac := by
  have htaken := (s.latchBegun.latchTaken_samePart n (s.head n).scan.nextLatch g).eq n
  rw [State.latchBegun_head] at htaken
  obtain ⟨hstate', hcfg', hscan', -, -⟩ := Head.of_latchPart htaken
  have hkind : ((s.latchBegun.latchTaken n (s.head n).scan.nextLatch g).head n).kindNext = 0 := by
    simp [Head.kindNext, hstate', hscan', hstate, htransition]
  have hviews : ((s.latchBegun.latchTaken n (s.head n).scan.nextLatch g).head n).nViews = 1 := by simp [Head.nViews, hcfg', hcfg, hscan]
  obtain ⟨hlatch, hdac⟩ := s.latchBegun.latchFrames_given_spec n (s.head n).scan.nextLatch g
  rw [State.latchHead_given hstate hcfg hscan hparking hnext hlaunch]
  refine ⟨?_, ?_, hdac⟩
  · rw [hlatch, Head.latchCount, hkind, hviews]
    rfl
  · exact congrArg PairSync.latchWaited ((State.latchFrames_within (P := 18691697688576) rfl within_rfl).same .sync rfl)

/-! ## Hand-over and takeover -/

/-- A device that becomes the active drives the nets of its head. -/
theorem State.becomeActive_spec {s : State} {n : Nat} (hn : n = s.pairHead) (gen dac : Nat) :
    ((s.becomeActive gen dac).head n).pins.driven = true ∧ ((s.becomeActive gen dac).head n).vcom.dac = dac ∧
    (s.becomeActive gen dac).pair.state = 2 ∧ (s.becomeActive gen dac).pair.gen = gen % 16 ∧ (s.becomeActive gen dac).sync.release = none := by
  subst hn
  have hpins : ∀ (t : State) (m : Nat), t.batonPins.head m = t.head m := fun _ _ => rfl
  unfold State.becomeActive State.driveNets
  rw [hpins, State.modHead_head]
  exact ⟨rfl, rfl, rfl, rfl, rfl⟩

/-- The state in which the outgoing device has released the gate nets. -/
def State.gateReleased (s : State) (n : Nat) (batonIn : Bool) : State :=
  ({ s.modHead n (fun h => { h with pins := { h.pins with driven := false, gck := 0, stv := false, goe := false, gallon := false } }) with
    pair := { s.pair with state := 5, batonIn := batonIn }, sync := { s.sync with overlap := true } } : State).batonPins

theorem State.gateReleased_pins (s : State) (n : Nat) (batonIn : Bool) : ((s.gateReleased n batonIn).head n).pins =
    { (s.head n).pins with driven := false, gck := 0, stv := false, goe := false, gallon := false } :=
  congrArg Head.pins (State.modHead_head s n (fun h => { h with
    pins := { h.pins with driven := false, gck := 0, stv := false, goe := false, gallon := false } }))

theorem exec_handover_active {s : State} {n k y g dac : Nat} (hn : n = s.pairHead) (hrelease : s.sync.release = some (k, y, g, dac))
    (hoverlap : s.sync.overlap = false) (hstate : s.pair.state = 2) (batonIn : Bool) :
    exec (.handover batonIn) s = .next (s.gateReleased n batonIn) := by
  subst hn
  change execHandover batonIn s = _
  unfold execHandover
  rw [hrelease]
  exact congrArg Host.Outcome.next ((if_pos hstate).trans (if_neg (Bool.eq_false_iff.mp hoverlap)))

theorem exec_handover_hot {s : State} {n k y g dac : Nat} (hn : n = s.pairHead) (hrelease : s.sync.release = some (k, y, g, dac))
    (hstate : s.pair.state = 5) (batonIn : Bool) : exec (.handover batonIn) s = .next
      (if batonIn then
        (({ s with pair := { s.pair with batonIn := true }, sync := { s.sync with release := none } } : State).pairPost 0xE097 y y).endProcs
          0x0D02 0 k n false
      else ((s.becomeActive (g + 1) dac).pairPost 0xE096 y y).endProcs 0x0D02 0 k n true) := by
  subst hn
  change execHandover batonIn s = _
  unfold execHandover
  dsimp only
  rw [hrelease]
  exact congrArg Host.Outcome.next ((if_neg (by omega)).trans (if_neg (by omega)))

/-- The state in which the overlap of a hand-over has ended. -/
def State.overlapEnded (s : State) (batonIn : Bool) : State :=
  { s with sync := { s.sync with release := none, overlap := false }, pair := { s.pair with batonIn := batonIn } }

/-- The state in which the outgoing device has given up its last nets. -/
def State.batonGiven (s : State) (n g : Nat) : State :=
  { (s.overlapEnded true).modHead n (fun h => { h with
      pins := { driven := false }, vcom := { h.vcom with driven := false }, power := { h.power with arrived := 0 } }) with
    pair := { (s.overlapEnded true).pair with gen := (g + 1) % 16 } }

theorem State.batonGiven_head (s : State) (n g : Nat) : (s.batonGiven n g).head n =
    { s.head n with
      pins := { driven := false }, vcom := { (s.head n).vcom with driven := false }, power := { (s.head n).power with arrived := 0 } } :=
  State.modHead_head s n (fun h => { h with
    pins := { driven := false }, vcom := { h.vcom with driven := false }, power := { h.power with arrived := 0 } })

/-- The state in which the outgoing device has taken its hand-over back. -/
def State.batonKept (s : State) (g : Nat) : State :=
  { s.overlapEnded false with
    pair := { (s.overlapEnded false).pair with state := 2, gen := (g + 2) % 16 }, sync := { (s.overlapEnded false).sync with redrive := true } }

theorem exec_handoverOverlapEnd {s : State} {n k y g dac : Nat} (hn : n = s.pairHead) (hrelease : s.sync.release = some (k, y, g, dac))
    (hoverlap : s.sync.overlap = true) :
    exec (.handoverOverlapEnd true) s = .next (((s.batonGiven n g).pairPost 0xE096 y y).endProcs 0x0D02 0 k n true) ∧
    exec (.handoverOverlapEnd false) s = .next (((s.batonKept g).pairPost 0xE097 y (y + 1)).endProcs 0x0D02 0 k n false) := by
  subst hn
  change execHandoverOverlapEnd true s = _ ∧ execHandoverOverlapEnd false s = _
  unfold execHandoverOverlapEnd
  dsimp only
  rw [hrelease, hoverlap]
  exact ⟨rfl, rfl⟩

/-- The state of a standby whose partner no longer holds the baton. -/
def State.batonFallen (s : State) : State := { s with pair := { s.pair with batonIn := false } }

theorem exec_takeover {s : State} {n : Nat} (hn : n = s.pairHead) (hstandby : s.standby = true) (hrelease : s.sync.release = none)
    (hoverlap : s.sync.overlap = false) : exec .takeover s = .next
      (if s.sync.windDown then
        ((if (s.head n).scans then s.batonFallen.haltHead n 0 else s.batonFallen).releaseNets n |>.headOff n).pairPost 0xE09C 0 0
      else if s.pair.state = 5 then
        (s.batonFallen.becomeActive (s.pair.gen + 1) (s.head n).vcom.dac).pairPost 0xE098 ((s.head n).scan.line - 1) (s.head n).scan.line
      else if (s.pair.state = 4 ∨ s.pair.state = 6) ∧ (s.head n).scans = true then
        ((s.batonFallen.becomeActive (s.pair.gen + 1) (s.head n).vcom.dac).pairPost 0xE099 ((s.head n).scan.line - 1) (s.head n).scan.line).stopHead n
      else s.batonFallen.pairPost 0xE09A 0 0) := by
  subst hn
  exact congrArg Host.Outcome.next (if_neg (by rw [hstandby, hrelease, hoverlap]; decide))

/-! ## The whole -/

/-- Settles O57: what each message of the pair, each end of a wait and each step of a hand-over leaves. -/
theorem theStandbyKeepsInStep : Obligations.TheStandbyKeepsInStep := by
  refine fun s n hn => ⟨fun frame line ns l own hfind hown hup hns => ⟨fun hstate hscans htime hsame => ?lockstep, fun hstate hsame => ?inStep,
      fun hstate hlow hhigh => ?outOfStep⟩,
    fun band e dac temp hstandby hwaited => ?latch, fun frame band e dac temp hstandby hframe hnewer holder hne => ?latchLate,
    fun c hstandby hwaited hstate hcfg hscan hparking hnext htransition hlaunch => ?latchEnd,
    fun frame names hstandby hwaited => ?select, fun c hstandby hwaited hstate hcfg hscan hnext hlaunch hdeferred => ?selectEnd,
    fun frame row crc l hstandby hfind hopen hrow => ⟨?rowSkipped, fun hwhole => ?rowWhole⟩,
    fun row l hstandby hup hfind hrow => ?rowWaitEnd, fun row hactive => ?rowReq, fun p c hstandby hcfg hrow hframe hfind hbase => ?rowData,
    fun batonIn k y g dac hrelease hoverlap => ⟨fun hstate => ?giveUp, fun hstate => ⟨?takeOn, ?refuse⟩⟩,
    fun k y g dac hrelease hoverlap => ⟨?overlapDone, ?overlapFailed⟩,
    fun hstandby hrelease hoverlap => ⟨fun hwind hstate => ?takeover, fun hwind hstate => ?joining, fun hwind => ?partnerDown⟩⟩
  case lockstep =>
    have hnear : phaseFar ((s.head n).ownPhase l line) ns = false := by
      rw [hsame, hown]
      exact phaseFar_self (Head.ownPhase_lt ..)
    obtain ⟨hjoined, hdivergent⟩ := foldl_askRow (List.range (s.head s.pairHead).th) { s with
      pair := { s.pair with state := 4 }
      sync := { s.sync with divergent := List.range (s.head s.pairHead).th, matched := (0, 0), phaseRun := 0, slow := false } }
    refine ⟨s.lockstep, ?_, hjoined, hn ▸ hdivergent⟩
    rw [exec_phase hn hfind hup, if_pos hstate, hscans, htime, hnear]
    rfl
  case inStep =>
    have hnear : phaseFar ((s.head n).ownPhase l line) ns = false := by
      rw [hsame, hown]
      exact phaseFar_self (Head.ownPhase_lt ..)
    rw [exec_phase hn hfind hup, if_neg (by omega), if_neg (by omega), hnear]
    rfl
  case outOfStep =>
    have hphase : own = (s.head n).ownPhase l line := hown
    have hcount : s.phaseCounted.sync.phaseRun = s.sync.phaseRun + 1 := rfl
    have hfar : phaseFar ((s.head n).ownPhase l line) ns = true := phaseFar_of_apart hns (hphase ▸ hlow) (hphase ▸ hhigh)
    have hrun := exec_phase (line := line) (ns := ns) hn hfind hup
    rw [if_neg (by omega), if_neg (by omega), hfar, if_neg (by decide)] at hrun
    by_cases hlong : 15 ≤ s.sync.phaseRun
    · rw [hcount, if_neg (by omega)] at hrun
      refine ⟨_, hrun, ?_, ?_⟩
      · rw [State.unsync_sync]
        rfl
      · rw [if_pos hlong, State.unsync_pair_state]
    · rw [hcount, if_pos (by omega)] at hrun
      exact ⟨_, hrun, rfl, (if_neg hlong).symm⟩
  case latch =>
    subst hn
    refine ⟨_, congrArg Host.Outcome.next ((if_neg (by rw [hstandby]; decide)).trans ((if_neg (fun h => h.2 (Nat.mod_mod ..))).trans
      (if_neg (by simp [hwaited])))), ?_⟩
    exact congrArg (fun f => some (f, band, e, dac, temp)) (Nat.mod_mod ..)
  case latchLate =>
    subst hn
    have hmod : frame % 2 ^ 32 = frame := Nat.mod_eq_of_lt hframe
    refine ⟨_, congrArg Host.Outcome.next ((if_neg (by rw [hstandby]; decide)).trans (if_pos ?_)), rfl, rfl⟩
    rw [hmod]
    exact ⟨holder, hne⟩
  case latchEnd =>
    have hlatch := State.latchHead_given_spec hstate hcfg hscan hparking hnext htransition hlaunch
    subst hn
    exact ⟨_, congrArg Host.Outcome.next (if_pos (by rw [hstandby, hwaited]; rfl)), hlatch _⟩
  case select =>
    exact ⟨_, congrArg Host.Outcome.next ((if_neg (by rw [hstandby]; decide)).trans (if_neg (by simp [hwaited]))), rfl⟩
  case selectEnd =>
    have hviews : (s.head n).nViews = 1 := by simp [Head.nViews, hcfg, hscan]
    have hcomposes : (s.head n).composes = true := by simp [Head.composes, hstate]
    obtain ⟨hcfg', -⟩ := State.composeFrame_shot (k := (s.head n).scan.nextCompose) hcfg hviews
    refine ⟨s.composeHead n, by subst hn; exact congrArg Host.Outcome.next (if_pos (by rw [hstandby, hwaited]; rfl)), ?_⟩
    rw [State.composeHead_of_normal hcomposes hcfg hscan hnext hlaunch hdeferred, State.modHead_head]
    generalize s.composeFrame n (s.head n).scan.nextCompose = u at hcfg' ⊢
    refine ⟨?_, rfl⟩
    change _ + (u.head n).nViews = _
    rw [Head.nViews, hcfg']
    simp [hscan]
  case rowSkipped =>
    refine ⟨_, exec_row hn hstandby hfind hopen hrow, ?_⟩
    rw [if_pos rfl, State.rowMatches_head]
    exact ⟨State.skipRow_settled .., State.rowMatches_divergent _ _ _⟩
  case rowWhole =>
    have hrun := exec_row (crc := crc) (skipped := 0) hn hstandby hfind hopen hrow
    rw [if_neg Nat.zero_ne_one, hwhole, if_neg (by decide)] at hrun
    by_cases hcrc : s.rowCrc n l row = crc
    · rw [if_pos hcrc] at hrun
      refine ⟨_, hrun, ?_, fun _ => State.rowMatches_divergent _ _ _, fun hne => absurd hcrc hne⟩
      rw [State.rowMatches_head]
      exact State.commitRow_settled ..
    · rw [if_neg hcrc] at hrun
      refine ⟨_, hrun, ?_, fun heq => absurd heq hcrc, fun _ hstate => State.rowDiverges_diverged ?_ ..⟩
      · rw [State.rowDiverges_head]
        exact State.commitRow_settled ..
      · rw [(State.commitRow_samePair ..).state]
        exact hstate
  case rowWaitEnd =>
    refine ⟨_, exec_rowWaitEnd hn hstandby hup hfind, ?_⟩
    rw [State.rowDiverges_head]
    exact State.skipRow_settled ..
  case rowReq =>
    exact ⟨_, congrArg Host.Outcome.next (if_neg (by rw [hactive]; decide)), rfl, mem_added ..⟩
  case rowData =>
    have hrest := s.rowInstalled_within n c p
    have hlen : (sliceBytes p.panel 0 (1024 * (s.head n).tw)).length = 1024 * (s.head n).tw := sliceBytes_length ..
    refine ⟨_, exec_rowData hn hstandby hcfg hrow hframe hfind, ?_, ?_⟩
    · rw [show (s.rowInstalled n c p).sync = _ from hrest.same .sync rfl,
        (State.putMem_within0 (P := 18890752) rfl within_rfl).same .sync rfl]
      simp [State.rowAnswered]
    · rw [show (s.rowInstalled n c p).mem.store = _ from hrest.same .store rfl]
      have hread := State.readBytes_putMem_store (s := s.rowAnswered p.row) (a := c.psBase + 1024 * (p.row * (s.head n).tw))
        (bs := sliceBytes p.panel 0 (1024 * (s.head n).tw)) (by omega) (by omega)
      rwa [hlen] at hread
  case giveUp =>
    refine ⟨_, exec_handover_active hn hrelease hoverlap hstate batonIn, rfl, rfl, ?_⟩
    rw [State.gateReleased_pins]
    exact ⟨rfl, rfl⟩
  case takeOn =>
    obtain ⟨hdriven, hdac, hactive, hgen, hgone⟩ := State.becomeActive_spec hn (g + 1) dac
    refine ⟨_, exec_handover_hot hn hrelease hstate false, ?_⟩
    rw [if_neg Bool.false_ne_true, State.endProcs_pair, State.endProcs_sync, State.endProcs_head]
    exact ⟨hactive, hgen, hdriven, hdac, hgone, _, State.mem_endProcs_events (List.mem_append_right _ (List.mem_singleton_self _)) .., rfl⟩
  case refuse =>
    refine ⟨_, exec_handover_hot hn hrelease hstate true, ?_⟩
    rw [if_pos rfl, State.endProcs_pair, State.endProcs_sync]
    exact ⟨hstate, rfl, _, State.mem_endProcs_events (List.mem_append_right _ (List.mem_singleton_self _)) .., rfl⟩
  case overlapDone =>
    refine ⟨_, (exec_handoverOverlapEnd hn hrelease hoverlap).1, ?_⟩
    rw [State.endProcs_pair, State.endProcs_sync, State.endProcs_head, State.pairPost, State.post_head, State.batonGiven_head]
    exact ⟨rfl, rfl, rfl, rfl, rfl⟩
  case overlapFailed =>
    refine ⟨_, (exec_handoverOverlapEnd hn hrelease hoverlap).2, ?_⟩
    rw [State.endProcs_pair, State.endProcs_sync]
    exact ⟨rfl, rfl, rfl⟩
  case takeover =>
    obtain ⟨hdriven, -, hactive, hgen, -⟩ := State.becomeActive_spec (s := s.batonFallen) hn (s.pair.gen + 1) (s.head n).vcom.dac
    have hrun := exec_takeover hn hstandby hrelease hoverlap
    rw [if_neg (by rw [hwind]; decide), if_pos hstate] at hrun
    exact ⟨_, hrun, hactive, hgen, hdriven, _, List.mem_append_right _ (List.mem_singleton_self _), rfl⟩
  case joining =>
    have hrun := exec_takeover hn hstandby hrelease hoverlap
    rw [if_neg (by rw [hwind]; decide), if_neg (by omega), if_neg (by omega)] at hrun
    exact ⟨_, hrun, hstate, rfl, _, List.mem_append_right _ (List.mem_singleton_self _), rfl⟩
  case partnerDown =>
    have hrun := exec_takeover hn hstandby hrelease hoverlap
    rw [if_pos hwind] at hrun
    exact ⟨_, hrun, _, List.mem_append_right _ (List.mem_singleton_self _), rfl⟩

end Sys2Proof.Machine
end
